-- ==== Sys2Proof/Word.lean ====
section
/-!
DEFINITION. Word.lean: the word and byte of the parameter space (R9) and their plainest arithmetic.
-/
namespace Sys2Proof

/-- A 32-bit word of the parameter space (R9). -/
abbrev Word := BitVec 32

/-- A byte of a message, record or image (R8). -/
abbrev Byte := BitVec 8

/-- The word of a natural number, modulo 2^32. -/
abbrev w32 (n : Nat) : Word := BitVec.ofNat 32 n

end Sys2Proof
end

