-- ==== Sys2Proof/Syntax.lean ====
section
/-! DEFINITION. Syntax.lean: the commands, one constructor per row of the table, and their operands. -/
namespace Sys2Proof

/-- A Volron message as it reaches the module (R367, R368): transport `tr` (0 UDP main, 1 UDP service, 2 to 5 CAN 0 to 3,
6 ISO 11783), peer, header fields, body and tag. -/
structure Msg where
  tr : Nat
  peer : Nat
  magic : Nat
  version : Nat
  kind : Nat
  typ : Nat
  len : Nat
  sid : Nat
  seq : Nat
  body : List Byte
  tag : List Byte
deriving DecidableEq, Repr

/-- A CAN frame as the bus carries it (R345). -/
structure CanFrame where
  id : Nat
  ext : Bool
  fd : Bool
  brs : Bool
  esi : Bool
  rtr : Bool
  dlc : Nat
  data : List Byte
deriving DecidableEq, Repr

/-- A PTP message as a port receives it (R333, R334). `kind`: 0 Announce, 1 Sync, 2 Follow_Up, 3 Delay_Req, 4 Delay_Resp,
5 Pdelay_Req, 6 Pdelay_Resp, 7 Pdelay_Resp_Follow_Up. `ingress` is the raw count of its start delimiter before correction,
`time` the timestamp it carries in ns of the PTP timescale, `corr` its correction in ns; `udp` says that it came
over UDP and not over EtherType 0x88F7; `sender` is the identity of the port that sends it, its clock's times 65,536 and its number, and
`req` that of the port whose request it answers; `egress` is the raw count at which the module's answer to a Pdelay_Req leaves; the
other fields are an Announce's. -/
structure PtpMsg where
  kind : Nat
  domain : Nat
  seq : Nat
  ingress : Nat
  twoStep : Bool
  time : Int
  corr : Int
  prio1 : Nat
  cls : Nat
  accuracy : Nat
  variance : Nat
  prio2 : Nat
  identity : Nat
  steps : Nat
  source : Nat
  udp : Bool := false
  sender : Nat := 0
  req : Nat := 0
  egress : Nat := 0
deriving DecidableEq, Repr

/-- A self-test's report (R411): result 0 pass, 1 fail, 2 not run, 3 deferred; coverage in 0.01 %, duration in 0.1 ms;
failing units; the precondition that failed. -/
structure TestRes where
  test : Nat
  result : Nat
  coverage : Nat
  duration : Nat
  units : List Nat
  pre : Nat
deriving DecidableEq, Repr

/-- A stored line that a reader takes (R111 to R120): the space tag and the line address of R112 that it requests; the 72 stored bytes
that a program or a block has written there since the line was last read, empty where none has; its use (R118): 0 data, 1 a cell's
program or weights in SRAM, 2 and 3 the first and the second main-memory copy of a program or of weights; the bits flipped since, as
stored symbol and bits; the tag and the address of the line that has been moved there, where one has (R116); the bytes that the reader
then writes into the line, as offset and byte (R120). -/
structure LineRead where
  tag : Nat
  addr : Nat
  word : List Byte
  use : Nat
  flips : List (Nat × Nat) := []
  src : Option (Nat × Nat) := none
  merge : List (Nat × Byte) := []
deriving DecidableEq, Repr

/-- The formats of a cell's multiply-accumulate (R105): int8 of two signed operands, int8 of an unsigned and a signed one, int16, fixed32. -/
inductive MacFmt where
  | int8 | uint8 | int16 | fixed32
deriving DecidableEq, Repr

/-- One microsecond's samples of an ejector channel (R219, R220): the 12-bit code of its current, BANK_COM in mV, whether its low side is on. -/
structure CoilSmp where
  code : Nat
  com : Nat
  on : Bool
deriving DecidableEq, Repr

/-- One microsecond's samples of a bank (R219): VALVE_HI, VALVE_LO and BANK_COM in mV. -/
structure BankSmp where
  vhi : Nat
  vlo : Nat
  com : Nat
deriving DecidableEq, Repr

/-- A run of multiply-accumulates on one cell (R105, R106): the physical cell of the array, the format, whether the accumulator starts at
zero, the operands, and how the result leaves it: shift, width of the output, whether it is signed. -/
structure CellRun where
  cell : Nat
  fmt : MacFmt
  clear : Bool
  ops : List (Int × Int)
  shift : Nat
  width : Nat
  signed : Bool
deriving DecidableEq, Repr

/-- A result line that a copy of a job delivers (R128, R172): the fused classifier's scores by class; each sensor's head as
port, top class, confidence (R147); the estimated mass in mg; the plan's 12 bytes (R190), empty where they are what R186 to R190 give; the
line's remaining bytes; the stored line that holds it, where its decode is not clean (R129); the raw count at which it was written (R455). -/
structure ResultLine where
  scores : List Nat
  heads : List (Nat × Nat × Nat)
  mass : Nat
  rest : List Byte
  plan : List Byte := []
  held : Option LineRead := none
  wrote : Nat := 0
deriving DecidableEq, Repr

/-- One channel's report at a GNSS epoch (R301, R302): C/N0 in dB-Hz, azimuth and elevation in 0.01°, the magnitudes of its seven correlators
in the order VE, E, M1, P, M2, L, VL. -/
structure GReport where
  ch : Nat
  cn0 : Nat
  az : Nat
  el : Nat
  corr : List Nat := []
deriving DecidableEq, Repr

/-- One measurement's residual in a solution (R308): its channel, r in mm. -/
structure GResid where
  ch : Nat
  r : Int
deriving DecidableEq, Repr

/-- What the receiver's least squares delivers at an epoch (R306): the epoch's raw count; the channels' reports; the
residuals of the first solution and of those after each removal of R308; position in 10^-7 degree and mm, velocity in mm/s,
95 % errors in cm, dilutions × 100; GPS time in ns at the epoch before R300's correction, its 1σ error in ns; the leap-second
word of GNSS_LEAP, and whether the change it announces takes a second away; the oscillator offset in 0.01 ppb; the satellites whose SBAS
corrections are at hand, as system, PRN and the raw count of their arrival; the data of a complete new almanac
decoded; ephemerides that changed, as system, PRN and data (R305); blocks of the sample stream that its causeway discarded since the last
solution (R18). -/
structure GnssSol where
  cnt : Nat
  reports : List GReport
  tries : List (List GResid)
  lat : Int
  lon : Int
  hgt : Int
  vn : Int
  ve : Int
  vu : Int
  hErr : Nat
  vErr : Nat
  hDop : Nat
  pDop : Nat
  gps : Nat
  tErr : Nat
  leap : Nat
  leapDown : Bool := false
  drift : Int
  sbas : List (Nat × Nat × Nat)
  alm : Option (List Byte)
  eph : List (Nat × Nat × List Byte)
  lost : Nat := 0
deriving DecidableEq, Repr

/-- A load switch channel's samples (R257): its current in mA before the sense gain, and its die's temperature in 0.1 °C. -/
structure LswSmp where
  k : Nat
  raw : Nat
  temp : Int
deriving DecidableEq, Repr

/-- The samples of a tick (R219, R238, R239, R249, R257): the lowest and the highest VALVE_HI sample of the banks in service, the module
means of VALVE_HI and VALVE_LO, the lowest and the highest VALVE_LO sample, LOAD_A, LOAD_B and LOGIC_IN, in mV; the load switch channels
that are sampled. -/
structure Supplies where
  vb : Nat
  vhiTop : Nat
  vhi : Nat
  vlo : Nat
  vloLow : Nat
  vloTop : Nat
  loadA : Nat
  loadB : Nat
  logicIn : Nat
  lsw : List LswSmp := []
deriving DecidableEq, Repr

/-- A request for a recipe (R47, R377): a write of SYS_RECIPE_SEL by a session of a role (0 operator, 1 service), or a message. -/
inductive RecipeReq where
  | write (role : Nat) (v : Word)
  | msg (g : Msg)
deriving DecidableEq, Repr

/-- A runtime write (R44, R376): one pair of address and value from a session of a role and a key slot, or a WRITE message. -/
inductive WriteReq where
  | pair (role slot a : Nat) (v : Word)
  | msg (g : Msg)
deriving DecidableEq, Repr

/-- The commands of the table, in its order (98_reader, opcode_table). Operand `t` is the raw count of the command's instant. -/
inductive Instr where
  /-- START_CONDITION (R408). -/
  | startCondition (t mv : Nat) (board : Int) (tapEn recovery : Bool)
  /-- START_SUPPLY_DIP (R408). -/
  | startSupplyDip (t mv : Nat)
  /-- CORE_TESTS_COMPLETE (R411). -/
  | coreTestsComplete (t : Nat) (res : List TestRes)
  /-- CORE_TEST_RETRY (R410). -/
  | coreTestRetry (t : Nat) (res : List TestRes)
  /-- CORE_TEST_NOT_RUN_TIMEOUT (R410). -/
  | coreTestNotRunTimeout (t : Nat)
  /-- CELL_TEST_COMPLETE (R411). -/
  | cellTestComplete (t : Nat) (res : List TestRes) (badCells badTowers : List Nat)
  /-- ROADBOOK_CHECKS_COMPLETE (R32). -/
  | roadbookChecksComplete (t : Nat) (flashErr : Option Nat)
  /-- MAIN_MEMORY_TEST_COMPLETE (R411). -/
  | mainMemoryTestComplete (t : Nat) (res : TestRes) (badLines : List (Nat × Nat)) (flashErr : Option Nat)
  /-- OUTPUT_TESTS_COMPLETE (R411). -/
  | outputTestsComplete (t : Nat) (res : List TestRes) (opens : List Nat) (board : Int)
  /-- ENTER_RUNNING (R409). -/
  | enterRunning (t : Nat)
  /-- DEFERRED_TEST_RUN (R410). -/
  | deferredTestRun (t : Nat) (r : TestRes) (opens : List Nat)
  /-- TAP_EN_IGNORED (R441). -/
  | tapEnIgnored (t : Nat)
  /-- MILESTONE (R415). -/
  | milestone (t : Nat) (counts : List (Nat × Nat))
  /-- MILESTONE_WRITE_FAILED (R417). -/
  | milestoneWriteFailed (t : Nat)
  /-- SUPERVISORY_WATCHDOG (R419). -/
  | supervisoryWatchdog (t : Nat)
  /-- DEEP_TEST (R413). -/
  | deepTest (t role slot : Nat) (v : Word) (cut : Bool)
  /-- DEEP_TEST_COMPLETE (R413). -/
  | deepTestComplete (t result coverage duration : Nat)
  /-- BOARD_THERMAL_TRIP (R466). -/
  | boardThermalTrip (t : Nat) (board : Int)
  /-- RECIPE_SELECT (R47). -/
  | recipeSelect (t : Nat) (q : RecipeReq)
  /-- RECIPE_EFFECTIVE (R49). -/
  | recipeEffective (t : Nat)
  /-- DIAL_SET (R51). -/
  | dialSet (t : Nat) (g : Msg)
  /-- CAL_WRITE (R378). -/
  | calWrite (t : Nat) (g : Msg)
  /-- CALU_GROUP_COMMIT (R55). -/
  | caluGroupCommit (t : Nat) (counts : List (Nat × Nat))
  /-- CAL_READ (R375). -/
  | calRead (t : Nat) (g : Msg)
  /-- REGISTER_WRITE (R44). -/
  | registerWrite (t : Nat) (q : WriteReq) (counts : List (Nat × Nat))
  /-- READ (R376). -/
  | read (t : Nat) (g : Msg)
  /-- SYS_DEC_LAT_CLR (R26). -/
  | sysDecLatClr (t role : Nat) (v : Word)
  /-- CELL_CLR (R132). -/
  | cellClr (t role : Nat) (v : Word)
  /-- TRK_CLR (R184). -/
  | trkClr (t role : Nat) (v : Word)
  /-- EJ_CLR (R207). -/
  | ejClr (t role : Nat) (v : Word)
  /-- TOLL_CLR (R256). -/
  | tollClr (t role : Nat) (v : Word)
  /-- EVC_CLR (R391). -/
  | evcClr (t role : Nat) (v : Word)
  /-- EXP_PULSE (R67). -/
  | expPulse (t p : Nat)
  /-- FRAME_START (R66). -/
  | frameStart (t p : Nat) (clk : Bool)
  /-- CAMERA_LINE (R70). -/
  | cameraLine (t p stamp : Nat) (samples : List Nat) (ovr : Bool)
  /-- FRAME_END (R66). -/
  | frameEnd (t p : Nat)
  /-- STATS_PUBLISH (R83). -/
  | statsPublish (t p : Nat)
  /-- TEMPLATE_SENT (R77). -/
  | templateSent (t p : Nat)
  /-- TEMPLATE_REPLY (R79). -/
  | templateReply (t p : Nat) (bytes : List Byte)
  /-- TEMPLATE_REPLY_TIMEOUT (R79). -/
  | templateReplyTimeout (t p : Nat)
  /-- PORT_CLOCK_LOSS (R84). -/
  | portClockLoss (t p : Nat)
  /-- COLOUR_RECONSTRUCTION (R80). -/
  | colourReconstruction (t p : Nat) (lost : Bool) (reads : List LineRead)
  /-- RESAMPLE_LINE (R135). -/
  | resampleLine (t p : Nat) (lost : Bool) (reads : List LineRead)
  /-- FEATURE_ROW (R136). -/
  | featureRow (t p : Nat) (vecs : List (List Int)) (lost : Bool) (runs : List CellRun) (reads : List LineRead)
  /-- OBSERVATION_CLOSE (R138). -/
  | observationClose (t p : Nat)
  /-- PANEL_REGION_WRITTEN (R91). -/
  | panelRegionWritten (t n r : Nat)
  /-- PANEL_STATUS_FRAME (R92). -/
  | panelStatusFrame (t n : Nat) (words : List Nat)
  /-- PANEL_LINK_DOWN (R101). -/
  | panelLinkDown (t n : Nat)
  /-- PANEL_LINK_RETRY (R101). -/
  | panelLinkRetry (t n : Nat) (up : Bool)
  /-- PANEL_SELECTION (R95). -/
  | panelSelection (t n : Nat)
  /-- PANEL_LOAD_BOUNDARY (R95). -/
  | panelLoadBoundary (t n : Nat)
  /-- PANEL_ENABLE_EDGE (R98). -/
  | panelEnableEdge (t n : Nat) (rise : Bool)
  /-- PIECE_LATEST_START (R126). -/
  | pieceLatestStart (t serial : Nat)
  /-- PIECE_JOB_COMPLETE (R172). -/
  | pieceJobComplete (t serial : Nat) (copies : List (Option ResultLine)) (reads : List LineRead)
  /-- JOB_ABORT (R126). -/
  | jobAbort (t serial : Nat) (copies : List (Option ResultLine))
  /-- REVISION_JOB_COMPLETE (R177). -/
  | revisionJobComplete (t serial : Nat) (copies : List (Option ResultLine)) (reads : List LineRead)
  /-- CELL_FAILURE (R127). -/
  | cellFailure (t tower cell cause : Nat)
  /-- TOWER_WARM_RESTART_COMPLETE (R127). -/
  | towerWarmRestartComplete (t tower : Nat) (ok : Bool) (cell : Nat) (reads : List LineRead)
  /-- SRAM_SCRUB (R119). -/
  | sramScrub (t : Nat) (reads : List LineRead)
  /-- MEMORY_SCRUB_BURST (R119). -/
  | memoryScrubBurst (t : Nat) (reads : List LineRead)
  /-- TOWER_GATE (R110). -/
  | towerGate (t tower : Nat)
  /-- TOWER_RESUME (R110). -/
  | towerResume (t tower : Nat)
  /-- MOTION_UPDATE (R144). -/
  | motionUpdate (t serial : Nat)
  /-- LANE_BLOCK_WARM (R145). -/
  | laneBlockWarm (t b : Nat)
  /-- LANE_BLOCK_STALE (R145). -/
  | laneBlockStale (t b : Nat)
  /-- FUS_MOTION_RESET (R146). -/
  | fusMotionReset (t role : Nat) (v : Word)
  /-- FUS_SUSPECT_CLR (R152). -/
  | fusSuspectClr (t role : Nat) (v : Word)
  /-- OBSERVATION_DUE (R148). -/
  | observationDue (t serial port : Nat)
  /-- SENSOR_ABSENT (R152). -/
  | sensorAbsent (t p : Nat)
  /-- SUSPECT_REMINDER (R154). -/
  | suspectReminder (t : Nat)
  /-- ASSOC_WINDOW_CLOSE (R165). -/
  | assocWindowClose (t : Nat)
  /-- ASSOC_WINDOW_RESULT (R167). -/
  | assocWindowResult (t : Nat)
  /-- PROVISIONAL_COMMIT_PASS (R175). -/
  | provisionalCommitPass (t serial : Nat)
  /-- COMMIT_POINT (R176). -/
  | commitPoint (t serial : Nat)
  /-- TRACK_CLOSE (R179). -/
  | trackClose (t serial : Nat)
  /-- TRK_LOT (R182). -/
  | trkLot (t role : Nat) (v : Word)
  /-- TALLY_LOOP_PUBLISH (R182). -/
  | tallyLoopPublish (t : Nat)
  /-- PULSE_FIRM (R196). -/
  | pulseFirm (t serial ch : Nat)
  /-- HOLD_START_INSTANT (R197). -/
  | holdStartInstant (t serial ch : Nat)
  /-- PULSE_START (R200). -/
  | pulseStart (t serial ch : Nat) (refused : Bool) (rail : Nat × Nat) (last : List CoilSmp)
  /-- PULSE_LATEST_START (R200). -/
  | pulseLatestStart (t serial ch : Nat)
  /-- PULSE_RELEASE (R214). -/
  | pulseRelease (t ch : Nat)
  /-- LOW_SIDE_OPEN (R214). -/
  | lowSideOpen (t ch : Nat) (last : List CoilSmp)
  /-- BOOST_END (R213). -/
  | boostEnd (t ch code : Nat)
  /-- HS_RISE_END (R212). -/
  | hsRiseEnd (t ch code : Nat)
  /-- DECAY_END (R212). -/
  | decayEnd (t ch code : Nat)
  /-- ARRIVAL_DETECTED (R221). -/
  | arrivalDetected (t ch : Nat) (smp : List CoilSmp)
  /-- COIL_TEMP_UPDATE (R225). -/
  | coilTempUpdate (t : Nat) (board : Int) (codes : List (Nat × List Nat))
  /-- OPEN_COIL (R229). -/
  | openCoil (t ch code : Nat)
  /-- SHORT_OVERCURRENT (R229). -/
  | shortOvercurrent (t ch code : Nat) (last : List CoilSmp)
  /-- LOW_SIDE_STUCK_ON (R229). -/
  | lowSideStuckOn (t ch : Nat) (smp : List CoilSmp) (lasts : List (Nat × List CoilSmp))
  /-- BANK_STAGE_FAULT (R229). -/
  | bankStageFault (t b : Nat) (smp : List BankSmp) (lasts : List (Nat × List CoilSmp))
  /-- VLV_CH_CLR (R230). -/
  | vlvChClr (t role : Nat) (v : Word)
  /-- PV_PWM_PERIOD (R232). -/
  | pvPwmPeriod (t p raw duty : Nat)
  /-- PV_OPEN_LOAD (R233). -/
  | pvOpenLoad (t p raw : Nat)
  /-- PV_SHORT (R233). -/
  | pvShort (t p raw : Nat)
  /-- PV_RETRY (R233). -/
  | pvRetry (t p : Nat)
  /-- PV_OVERTEMP (R233). -/
  | pvOvertemp (t p raw : Nat) (temp : Int)
  /-- VLV_P_CLR (R233). -/
  | vlvPClr (t role p : Nat) (v : Word)
  /-- LOGIC_DROPOUT (R241). -/
  | logicDropout (t mv : Nat)
  /-- COLD_CRANK (R240). -/
  | coldCrank (t : Nat) (begins : Bool) (mv : Nat)
  /-- LOGIC_OVERVOLTAGE (R240). -/
  | logicOvervoltage (t mv : Nat)
  /-- HOLDUP_RESTORE (R242). -/
  | holdupRestore (t mv : Nat)
  /-- POWER_FAIL (R242). -/
  | powerFail (t : Nat)
  /-- SUPPLY_CONDITION_SET (R239). -/
  | supplyConditionSet (t cond : Nat)
  /-- SUPPLY_CONDITION_CLEAR (R239). -/
  | supplyConditionClear (t cond : Nat)
  /-- TOLL_TICK (R246). -/
  | tollTick (t : Nat) (sup : Supplies) (drawn : List (Nat × Nat))
  /-- RECHARGE_CHECK (R251). -/
  | rechargeCheck (t : Nat)
  /-- LOGIC_POWER_CHECK (R253). -/
  | logicPowerCheck (t mw : Nat)
  /-- INRUSH_WINDOW_END (R259). -/
  | inrushWindowEnd (t k : Nat)
  /-- LSW_PWM_PERIOD (R261). -/
  | lswPwmPeriod (t k : Nat)
  /-- LSW_HARD_SHORT (R262). -/
  | lswHardShort (t k raw : Nat)
  /-- LSW_OVERCURRENT_TRIP (R262). -/
  | lswOvercurrentTrip (t k : Nat)
  /-- LSW_THERMAL_LATCH (R265). -/
  | lswThermalLatch (t k : Nat) (temp : Int) (raw : Nat)
  /-- LSW_THERMAL_CLEAR (R265). -/
  | lswThermalClear (t k : Nat) (temp : Int)
  /-- LSW_RETRY_DUE (R266). -/
  | lswRetryDue (t k : Nat)
  /-- LSW_RETRY_RESET (R266). -/
  | lswRetryReset (t k : Nat)
  /-- LSW_CLR (R266). -/
  | lswClr (t role : Nat) (v : Word)
  /-- LSW_UV_SWITCH_OFF (R268). -/
  | lswUvSwitchOff (t inp mv : Nat)
  /-- LSW_UV_RESTORE (R268). -/
  | lswUvRestore (t inp : Nat)
  /-- LSW_OV_RESTORE (R268). -/
  | lswOvRestore (t inp : Nat)
  /-- LSW_OPEN_LOAD (R269). -/
  | lswOpenLoad (t k : Nat)
  /-- LOOP_TICK (R274). -/
  | loopTick (t : Nat)
  /-- TRACE_ARM (R288). -/
  | traceArm (t role n : Nat)
  /-- TRACE_TRIGGER (R288). -/
  | traceTrigger (t role n : Nat)
  /-- TRACE_STOP (R288). -/
  | traceStop (t role n : Nat)
  /-- AIN_WINDOW (R290). -/
  | ainWindow (t n : Nat) (samples : List Int)
  /-- AIN_OVERRANGE (R291). -/
  | ainOverrange (t n ua : Nat)
  /-- AIN_SHUNT_RECLOSE (R291). -/
  | ainShuntReclose (t n : Nat)
  /-- AIN_LOW_CURRENT (R291). -/
  | ainLowCurrent (t n ua : Nat)
  /-- AIN_FAULT_CLEAR (R291). -/
  | ainFaultClear (t n : Nat)
  /-- AIN_PIEZO_HIT (R292). -/
  | ainPiezoHit (t n low : Nat) (v : Int)
  /-- AIN_HIT_RATE (R292). -/
  | ainHitRate (t n : Nat)
  /-- ENCODER_EDGE (R293). -/
  | encoderEdge (t e : Nat) (a b : Bool) (ns : Nat)
  /-- ENCODER_INDEX (R293). -/
  | encoderIndex (t e ns : Nat)
  /-- FREQ_EDGE (R294). -/
  | freqEdge (t f ns : Nat)
  /-- ANTENNA_OPEN (R299). -/
  | antennaOpen (t ma : Nat)
  /-- ANTENNA_SHORT (R299). -/
  | antennaShort (t ma : Nat)
  /-- ANTENNA_RETRY (R299). -/
  | antennaRetry (t : Nat)
  /-- ANTENNA_NORMAL (R299). -/
  | antennaNormal (t ma : Nat)
  /-- GNSS_ACQ_REQUEST (R303). -/
  | gnssAcqRequest (t : Nat)
  /-- GNSS_ACQ_END (R303). -/
  | gnssAcqEnd (t : Nat) (all : Bool)
  /-- GNSS_SIDE_PEAK (R302). -/
  | gnssSidePeak (t c ve p vl : Nat)
  /-- GNSS_EPOCH (R306). -/
  | gnssEpoch (t : Nat) (g : GnssSol)
  /-- GNSS_EXCLUSION_EXPIRE (R308). -/
  | gnssExclusionExpire (t sys prn : Nat)
  /-- GNSS_DIFF_STALE (R307). -/
  | gnssDiffStale (t : Nat)
  /-- GNSS_ACCEPT (R310). -/
  | gnssAccept (t role : Nat) (v : Word)
  /-- GNSS_COLD (R305). -/
  | gnssCold (t role : Nat) (v : Word)
  /-- GNSS_BURST_START (R314). -/
  | gnssBurstStart (t : Nat)
  /-- GNSS_BURST_END (R314). -/
  | gnssBurstEnd (t : Nat) (g : GnssSol)
  /-- GNSS_LOSS (R316). -/
  | gnssLoss (t : Nat)
  /-- CORRECTION (R381). -/
  | correction (t : Nat) (g : Msg)
  /-- RAW_COUNTER_WRAP (R323). -/
  | rawCounterWrap (t : Nat)
  /-- TIME_EPS_UPDATE (R326). -/
  | timeEpsUpdate (t : Nat)
  /-- TIME_SLEW_UPDATE (R328). -/
  | timeSlewUpdate (t : Nat)
  /-- TIME_SET (R331). -/
  | timeSet (t : Nat)
  /-- TIME_STEP (R329). -/
  | timeStep (t : Nat)
  /-- TIME_HOLD_END (R330). -/
  | timeHoldEnd (t : Nat)
  /-- PTP_EVENT_MESSAGE (R334). -/
  | ptpEventMessage (t n : Nat) (g : PtpMsg)
  /-- PTP_MESSAGE_TIMER (R333). -/
  | ptpMessageTimer (t n kind egress : Nat)
  /-- PTP_ANNOUNCE_TIMEOUT (R336). -/
  | ptpAnnounceTimeout (t n : Nat)
  /-- PPS_EDGE (R337). -/
  | ppsEdge (t : Nat)
  /-- PPS_PULSE_END (R337). -/
  | ppsPulseEnd (t : Nat)
  /-- TIME_OUT_ARM (R339). -/
  | timeOutArm (t role n : Nat) (v : Word)
  /-- TIME_OUT_EDGE (R339). -/
  | timeOutEdge (t n : Nat)
  /-- TIME_OUT_PULSE_END (R339). -/
  | timeOutPulseEnd (t n : Nat)
  /-- CAPTURE_EDGE (R340). -/
  | captureEdge (t n : Nat) (rising : Bool)
  /-- CAN_FRAME_RECEIVED (R351). -/
  | canFrameReceived (t ch sof : Nat) (f : CanFrame)
  /-- CAN_RING_SERVICE (R355). -/
  | canRingService (t ch n : Nat) (hold : Bool) (counts : List (Nat × Nat))
  /-- CAN_FRAME_TRANSMITTED (R356). -/
  | canFrameTransmitted (t ch sof tdc : Nat)
  /-- CAN_ERROR (R358). -/
  | canError (t ch kind : Nat) (tdc : Option Nat)
  /-- CAN_TX_TIMEOUT (R357). -/
  | canTxTimeout (t ch : Nat) (busy : Bool)
  /-- CAN_BUSOFF_RECOVERED (R358). -/
  | canBusoffRecovered (t ch : Nat)
  /-- ISO_CLAIM_SEND (R360). -/
  | isoClaimSend (t ch : Nat)
  /-- ISO_ADDRESS_HELD (R360). -/
  | isoAddressHeld (t ch : Nat)
  /-- CAN_REASSEMBLY_TIMEOUT (R365). -/
  | canReassemblyTimeout (t ch peer tag : Nat)
  /-- ETH_LINK_CHANGE (R364). -/
  | ethLinkChange (t port speed : Nat)
  /-- ARP_REQUEST (R364). -/
  | arpRequest (t port ip sha spa : Nat)
  /-- ICMP_ECHO (R364). -/
  | icmpEcho (t port ip smac sip : Nat) (pl : List Byte)
  /-- HELLO (R369). -/
  | hello (t : Nat) (g : Msg)
  /-- AUTH (R369). -/
  | auth (t : Nat) (g : Msg)
  /-- AUTH_TIMEOUT (R369). -/
  | authTimeout (t sess : Nat)
  /-- AUTH_LOCKOUT_END (R371). -/
  | authLockoutEnd (t tr addr : Nat)
  /-- BYE (R370). -/
  | bye (t : Nat) (g : Msg)
  /-- SESSION_IDLE_TIMEOUT (R370). -/
  | sessionIdleTimeout (t sess : Nat)
  /-- PING (R375). -/
  | ping (t : Nat) (g : Msg)
  /-- TALLY_READ (R379). -/
  | tallyRead (t : Nat) (g : Msg)
  /-- MAP_READ (R379). -/
  | mapRead (t : Nat) (g : Msg)
  /-- EVENT_SUBSCRIBE (R385). -/
  | eventSubscribe (t : Nat) (g : Msg)
  /-- STREAM_RESEND (R387). -/
  | streamResend (t : Nat) (g : Msg)
  /-- FRAME_SUBSCRIBE (R380). -/
  | frameSubscribe (t : Nat) (g : Msg)
  /-- FRAME_SEND (R380). -/
  | frameSend (t : Nat) (g : Msg)
  /-- UNKNOWN_TYPE (R374). -/
  | unknownType (t : Nat) (g : Msg)
  /-- EVC_QUEUE_SERVICE (R384). -/
  | evcQueueService (t n : Nat)
  /-- EVENT_STREAM_SEND (R386). -/
  | eventStreamSend (t sess : Nat)
  /-- RECORDER_WRITE (R396). -/
  | recorderWrite (t : Nat) (torn : Bool)
  /-- LOG_TOKEN (R398). -/
  | logToken (t : Nat)
  /-- LOG_INTERVAL_END (R399). -/
  | logIntervalEnd (t : Nat)
  /-- OPERATING_SECOND (R393). -/
  | operatingSecond (t : Nat)
  /-- RECORDER_WINDOW (R402). -/
  | recorderWindow (t : Nat) (g : Msg)
  /-- RECORDER_CLEAR (R404). -/
  | recorderClear (t : Nat) (g : Msg)
  /-- LOG_CURSOR (R403). -/
  | logCursor (t role : Nat) (v : Word)
  /-- UPDATE_BEGIN (R429). -/
  | updateBegin (t : Nat) (g : Msg)
  /-- UPDATE_DATA (R431). -/
  | updateData (t : Nat) (g : Msg)
  /-- UPDATE_END (R432). -/
  | updateEnd (t : Nat) (g : Msg)
  /-- UPDATE_ABORT (R435). -/
  | updateAbort (t : Nat) (g : Msg)
  /-- UPDATE_STATUS (R430). -/
  | updateStatus (t : Nat) (g : Msg)
  /-- FLASH_OPERATION_COMPLETE (R431). -/
  | flashOperationComplete (t r : Nat) (ok : Bool)
  /-- UPDATE_VERIFY_COMPLETE (R432). -/
  | updateVerifyComplete (t r : Nat)
  /-- PROVISION_INFO (R444). -/
  | provisionInfo (t : Nat) (g : Msg)
  /-- PROVISION (R447). -/
  | provision (t : Nat) (g : Msg)
  /-- PERF_SNAP (R450). -/
  | perfSnap (t role : Nat) (v : Word) (counts : List (Nat × Nat))
  /-- PERF_SAMPLE (R457). -/
  | perfSample (t tower n cell skid : Nat) (ended : Bool) (raw pc serial : Nat)
  /-- PERF_TAG_RECORD (R458). -/
  | perfTagRecord (t tower cell : Nat) (discarded : Bool) (issue raw value cycles pc why : Nat)
  /-- PV_OVERTEMP_CLEARED (R233). -/
  | pvOvertempCleared (t p : Nat) (temp : Int)
  /-- LOGIC_OVERVOLTAGE_END (R240). -/
  | logicOvervoltageEnd (t mv : Nat)
  /-- LSW_UNDERVOLTAGE_THRESHOLD (R263). -/
  | lswUndervoltageThreshold (t inp : Nat) (below : Bool) (mv : Nat)
  /-- LSW_OPEN_CLEARED (R269). -/
  | lswOpenCleared (t k : Nat)
  /-- GNSS_LOST_LOCK (R303). -/
  | gnssLostLock (t c : Nat)
  /-- GNSS_LOCK_SEARCH_END (R303). -/
  | gnssLockSearchEnd (t c : Nat)
  /-- GNSS_SIGNAL_TRACKED (R303). -/
  | gnssSignalTracked (t sig : Nat) (low : Bool) (prn el : Nat)
  /-- ETHERNET_FRAME_RECEIVED (R364). -/
  | ethernetFrameReceived (t port : Nat) (refused : Bool) (f : List Byte)
  /-- MAC_AGE_OUT (R364). -/
  | macAgeOut (t mac : Nat)
deriving DecidableEq, Repr

end Sys2Proof
end

