-- ==== Sys2Proof/Decode.lean ====
section
/-!
DEFINITION. Decode.lean: the commands that words spell. The table of commands gives no row any bits, so no word spells one.
-/
namespace Sys2Proof

/-- The command that the low `nbits` bits of a word spell by the table's bits: none of its rows has bits. -/
def decodeTableWord (_nbits _w : Nat) : Option Instr := none

end Sys2Proof
end

