-- ==== Sys2Proof/Config.lean ====
section
/-!
DEFINITION. Config.lean: what one module fixes and the spec leaves open. Every constant here is opaque and has no
body: no proof can see its value, so a claim holds whatever it is.
-/
namespace Sys2Proof.Config

/-- SHA-256 (FIPS 180-4), the digest of R32, R35 and R427. The spec names it and does not define it. -/
opaque sha256 : List Byte → List Byte

/-- HMAC-SHA-256 of a key and a message (R368, R369, R446). -/
opaque hmacSha256 : List Byte → List Byte → List Byte

/-- ECDSA P-256 verification of public key, digest and signature (R32, R427, R446). -/
opaque ecdsaVerify : List Byte → List Byte → List Byte → Bool

/-- AES-256-GCM opening of key, nonce, additional data, ciphertext and tag (R40, R446). -/
opaque aesGcmOpen : List Byte → List Byte → List Byte → List Byte → List Byte → Option (List Byte)

/-- The shared secret of ECDH on P-256, of a private key and a public key (R446). -/
opaque ecdhP256 : List Byte → List Byte → List Byte

/-- The device identity key pair that the dome generates at draw `n`: private key, public key (R442). -/
opaque domeKeyPair : Nat → List Byte × List Byte

/-- The bytes the dome draws at draw `n` (R369, R444). -/
opaque domeRandom : Nat → List Byte

/-- The session identifier the dome draws at draw `n` (R369). -/
opaque domeSession : Nat → Nat

/-- Boqueten's firmware key in the boot ROM (R427, R439). -/
opaque firmwareKey : List Byte

/-- Boqueten's provisioning root key in the boot ROM (R439, R446). -/
opaque provisioningRoot : List Byte

/-- The logical tower that the compiled placement gives a copy (0 or 1) of a piece's job (R122, R128), before it is cut to
the towers in service: it depends on the piece's job class, which the road book's compiler assigns. -/
opaque jobTower : Nat → Nat → Nat

/-- Whether the compiled placement marks a logical tower as never gated (R110), for placement `k`. -/
opaque neverGated : Nat → Nat → Bool

/-- The logical tower that runs a stage of a camera port (R122), before it is cut to the towers in service: stage 0 colour
reconstruction, 1 resampling, 2 feature extraction. -/
opaque stageTower : Nat → Nat → Nat

/-- The 16 signed 8-bit values that the compiled programs form from a piece's extent (columns), mass and aligned velocity in µm/s (R147). -/
opaque pieceBytes : Nat × Nat → Nat → Nat → List Int

/-- East and north offsets in dm of a position from an origin, as latitude and longitude in 10^-7 degree (R181): the
spec fixes no earth model beyond the name WGS 84. -/
opaque eastNorth : Int × Int → Int × Int → Int × Int

/-- A position advanced by north and east velocities in mm/s over a time in ns (R312), on the same terms. -/
opaque advance : Int × Int → Int → Int → Nat → Int × Int

/-- The code of a channel after an epoch, in 1/256 chip (R302): from GNSS_DLL_BW in 0.01 Hz, the carrier loop's frequency that aids it, the code
before and the discriminator in 1/65536 chip. The spec gives the loop's bandwidth and its aid alone. -/
opaque codeLoop : Nat → Int → Int → Int → Int

/-- The code-differential correction in mm that the receiver forms (R307) from the station's position in 0.1 mm, a satellite's system and PRN, and
the station's pseudorange of it in 2^-29 light-ms. -/
opaque codeCorrection : Int × Int × Int → Nat → Nat → Nat → Int

/-- The filtered offset of a PTP port in ns (R326) from its last offsets, at most 16, newest first. The spec gives no filter. -/
opaque offsetFilter : List Int → Int

/-- The carrier loop's frequency after an epoch (R302), on the same terms: from GNSS_PLL_BW in Hz, the frequency before and the prompt correlator. -/
opaque carrierLoop : Nat → Int → Nat → Int

/-- The main-memory reference that a track entry holds for a slot (R159): 0 to its observation records, 1 to its plan record. The
compiler lays main memory out. -/
opaque mainRef : Nat → Nat → Nat

/-- A value that the spec leaves open, at draw `n` of a counter that the state holds. -/
opaque freeValue : Nat → Int

/-- The step, of 64, that the module draws for a chopping period of a hold phase (R214): of the phase's free value and the period's number. -/
opaque chopStep : Int → Nat → Nat

/-- PERF_CW_DEPTH of causeway k above 0, less 1, modulo 4,095: the spec calls it fixed and gives no number (R460, log 132). -/
opaque causewayDepth : Nat → BitVec 32

end Sys2Proof.Config
end

