-- ==== Sys2Proof/Machine/Bits.lean ====
section
/-!
DEFINITION. Machine/Bits.lean: bit fields, signed readings, byte order (R8), roundings, and the checks
CRC-32 (R91) and CRC-8 (R392) that the chapters use.
-/
namespace Sys2Proof.Machine

/-- Bits `hi` down to `lo` of a number. -/
def field (w : Nat) (hi lo : Nat) : Nat := (w / 2 ^ lo) % 2 ^ (hi + 1 - lo)

/-- A number with bits `hi` down to `lo` replaced by `v`. -/
def setField (w : Nat) (hi lo v : Nat) : Nat :=
  w - (field w hi lo) * 2 ^ lo + (v % 2 ^ (hi + 1 - lo)) * 2 ^ lo

/-- A word with bits `hi` down to `lo` replaced by `v`. -/
def Wset (w : Word) (hi lo v : Nat) : Word := w32 (setField w.toNat hi lo v)

/-- A truth value as a bit. -/
def bit (b : Bool) : Nat := if b then 1 else 0

/-- The bit mask of a list of bit numbers. -/
def maskOf (l : List Nat) : Nat := l.foldl (fun m i => m ||| 2 ^ i) 0

/-- The two's complement reading of the low `n` bits. -/
def sext (n : Nat) (v : Nat) : Int :=
  if v % 2 ^ n < 2 ^ (n - 1) then (v % 2 ^ n : Nat) else (v % 2 ^ n : Nat) - (2 ^ n : Nat)

/-- The low `n` bits of the two's complement of an integer. -/
def toU (n : Nat) (v : Int) : Nat := (v % (2 ^ n : Nat)).toNat

/-- An integer held between two bounds. -/
def clampI (lo hi v : Int) : Int := if v < lo then lo else if hi < v then hi else v

/-- Division to the nearest integer, ties away from zero. -/
def rdiv (a : Int) (b : Nat) : Int :=
  if b = 0 then 0
  else if 0 ≤ a then ((2 * a.toNat + b) / (2 * b) : Nat)
  else -((2 * (-a).toNat + b) / (2 * b) : Nat)

/-- Division towards minus infinity. -/
def fdiv (a : Int) (b : Nat) : Int := a.fdiv b

/-- Division towards zero. -/
def tdiv (a : Int) (b : Nat) : Int := a.tdiv b

/-- Arithmetic shift right, towards minus infinity. -/
def sar (a : Int) (n : Nat) : Int := a.fdiv ((2 ^ n : Nat) : Int)

/-- One bit of the integer square root, from the top: `r` is the root so far. -/
def isqrtLoop (n : Nat) : Nat → Nat → Nat
  | 0, r => r
  | k + 1, r =>
    let c := r + 2 ^ k
    isqrtLoop n k (if c * c ≤ n then c else r)

/-- The integer square root of a number below 2^256, rounded down. -/
def isqrt (n : Nat) : Nat := isqrtLoop n 128 0

/-- `a` is later than `b`, as n-bit identifiers that wrap (R7). -/
def later (n : Nat) (a b : Nat) : Bool :=
  let d := (a + 2 ^ n - b % 2 ^ n) % 2 ^ n
  0 < d && d < 2 ^ (n - 1)

/-- `k` little-endian bytes of a number (R8). -/
def leBytes : Nat → Nat → List Byte
  | 0, _ => []
  | k + 1, v => BitVec.ofNat 8 v :: leBytes k (v / 256)

/-- The number that little-endian bytes hold (R8). -/
def leVal : List Byte → Nat
  | [] => 0
  | b :: r => b.toNat + 256 * leVal r

/-- The number that bytes hold, most significant first. -/
def beVal (l : List Byte) : Nat := l.foldl (fun a b => a * 256 + b.toNat) 0

/-- `k` bytes of a number, most significant first. -/
def beBytes (k v : Nat) : List Byte := (leBytes k v).reverse

/-- `k` bytes at offset `o`, little-endian. -/
def leAt (l : List Byte) (o k : Nat) : Nat := leVal ((l.drop o).take k)

/-- A list of bytes cut or filled with zeros to `n`. -/
def padTo (n : Nat) (l : List Byte) : List Byte := l.take n ++ List.replicate (n - l.length) 0

/-- The bytes of a list of words, little-endian. -/
def wordBytes (l : List Word) : List Byte := l.flatMap (fun w => leBytes 4 w.toNat)

/-- Eight steps of a CRC with the bits in reflected order. -/
def crcReflStep (poly : Nat) : Nat → Nat → Nat
  | 0, c => c
  | k + 1, c => crcReflStep poly k (if c % 2 = 1 then (c / 2) ^^^ poly else c / 2)

/-- CRC-32 of IEEE 802.3: reflected, initial and final value all ones. -/
def crc32 (l : List Byte) : Nat :=
  (l.foldl (fun c b => crcReflStep 0xEDB88320 8 (c ^^^ b.toNat)) 0xFFFFFFFF) ^^^ 0xFFFFFFFF

/-- Steps of the CRC-8 with polynomial 0x07, most significant bit first. -/
def crc8Step : Nat → Nat → Nat
  | 0, c => c
  | k + 1, c => crc8Step k (if 128 ≤ c then ((2 * c) % 256) ^^^ 0x07 else (2 * c) % 256)

/-- CRC-8 with polynomial 0x07 and initial value 0 (R392). -/
def crc8 (l : List Byte) : Nat := l.foldl (fun c b => crc8Step 8 (c ^^^ b.toNat)) 0

/-- The first position in a list where a condition holds. -/
def findPos {α : Type} (p : α → Bool) (l : List α) : Option Nat :=
  let n := l.findIdx p
  if n < l.length then some n else none

/-- Insertion into a list that `le` keeps in order; equals keep their order of arrival. -/
def insertBy {α : Type} (le : α → α → Bool) (x : α) : List α → List α
  | [] => [x]
  | y :: r => if le y x then y :: insertBy le x r else x :: y :: r

/-- A list put in order by `le`; equals keep their order. -/
def sortBy {α : Type} (le : α → α → Bool) (l : List α) : List α :=
  l.foldl (fun acc x => insertBy le x acc) []

/-- The greatest of a list, or a floor. -/
def maxOf (d : Nat) (l : List Nat) : Nat := l.foldl Nat.max d

/-- The sum of a list. -/
def sumOf (l : List Nat) : Nat := l.foldl (· + ·) 0

/-- The bit numbers below `n` that are set. -/
def bitsSet (n v : Nat) : List Nat := (List.range n).filter (fun i => v.testBit i)

end Sys2Proof.Machine
end

