-- ==== Sys2Proof/Machine/Params.lean ====
section
/-!
DEFINITION. Machine/Params.lean: the parameter space of the module (R9, R43), one entry per parameter of
the chapters' tables. Addresses, widths, access classes, defaults, ranges, "per recipe" and "service role"
are those of the tables; an array of parameters is one entry with its counts and strides.
-/
namespace Sys2Proof.Machine

/-- Access class (R11). -/
inductive Cls where
  | boot | dial | stat | cmd | w1c
deriving DecidableEq, Repr

/-- One end of a range: a number, or another parameter's value times `mul` plus `add` (R486).
`rel` says that the bounding parameter has the index of the bounded one. -/
inductive Bound where
  | c (v : Int)
  | p (base : Nat) (rel : Bool) (mul add : Int)
deriving DecidableEq, Repr

/-- Ranges that a chapter states in words for one parameter; `specialRange` in Machine/Regs.lean decides them. -/
inductive SpRng where
  | recipeStart | camSamples | camMatrix | camFormat | camTpl | vlvBand | vlvClr | lswClr | loopSrc | loopTbl
  | loopTrCfg | loopTrTrig | encCfg | frqCfg | gnssNarrow | ptpCfg | ptpIntv | timeOutCfg | canNbt | canDbt
  | canIsoAddr | canRule | unicast | netMask | perfM | perfT | perfTag
deriving DecidableEq, Repr

/-- The Range column. -/
inductive Rng where
  | any
  | lim (lo hi : Bound) (mult : Nat)
  | or0 (lo hi : Nat)
  | split (n : Nat) (lo1 hi1 lo2 hi2 : Bound)
  | sp (k : SpRng)
deriving DecidableEq, Repr

/-- The Default column. -/
inductive Dflt where
  | c (v : Int)
  | ls (l : List Int)
  | split (n : Nat) (a b : Int)
  | matrix
  | tone
  | route
  | depth
deriving DecidableEq, Repr

/-- One parameter, or an array of `n1` by `n2` parameters at `base + i * s1 + j * s2`, `i` from `i0`. -/
structure Param where
  base : Nat
  n1 : Nat := 1
  s1 : Nat := 4
  n2 : Nat := 1
  s2 : Nat := 4
  i0 : Nat := 0
  /-- Width of the Bits column. -/
  w : Nat := 32
  /-- The defined bits (R10). A bit inside the Bits column that the layout does not name is taken as unused (DESIGN CHOICE, log 130). -/
  mask : Nat := 0xFFFFFFFF
  sg : Bool := false
  cls : Cls := .stat
  dflt : Dflt := .c 0
  rng : Rng := .any
  /-- Marked "per recipe" (R11, R39). -/
  per : Bool := false
  /-- Marked "service role" (R376). -/
  svc : Bool := false
  /-- A table that a TABLE record fills whole (R39). -/
  tbl : Bool := false
deriving DecidableEq, Repr

/-- Combine kind of a calibration parameter (R53). -/
inductive CalKind where
  | add | mul | replace
deriving DecidableEq, Repr

/-- A calibration parameter: its place in force, its kind, where its CALF words lie and its range (R53). -/
structure Cal where
  par : Param
  kind : CalKind
  cbase : Nat
  cs1 : Nat
  cs2 : Nat
  lo : Int
  hi : Int
deriving DecidableEq, Repr

/-- SYS_PART (R4). -/
def P.sysPart : Param := { base := 0x00000000, dflt := .c 960 }
/-- SYS_VARIANT (R4). -/
def P.sysVariant : Param := { base := 0x00000004, w := 2, mask := 0x3, dflt := .c 1 }
/-- SYS_HW_REV (R4). -/
def P.sysHwRev : Param := { base := 0x00000008, w := 16, mask := 0xFFFF, dflt := .c 1 }
/-- SYS_MEM_GIB (R4). -/
def P.sysMemGib : Param := { base := 0x0000000C, w := 8, mask := 0xFF, dflt := .c 16 }
/-- SYS_MODE (R26). -/
def P.sysMode : Param := { base := 0x00000010, w := 3, mask := 0x7, cls := .boot, rng := .lim (.c 0) (.c (7)) 1 }
/-- SYS_MODE_NOW (R26). -/
def P.sysModeNow : Param := { base := 0x00000014, w := 7, mask := 0x7F }
/-- SYS_SUSPECT (R26). -/
def P.sysSuspect : Param := { base := 0x00000018, w := 8, mask := 0xFF }
/-- SYS_TOWER_OK (R26). -/
def P.sysTowerOk : Param := { base := 0x0000001C, w := 16, mask := 0xFFFF }
/-- SYS_RATE_CAP (R26). -/
def P.sysRateCap : Param := { base := 0x00000020, w := 18, mask := 0x3FFFF }
/-- SYS_LOGIC_CAP (R26). -/
def P.sysLogicCap : Param := { base := 0x00000024, w := 8, mask := 0xFF, cls := .boot, rng := .or0 20 110 }
/-- SYS_DEC_LAT_MAX (R26). -/
def P.sysDecLatMax : Param := { base := 0x00000028, w := 24, mask := 0xFFFFFF }
/-- SYS_DEC_LAT_CLR (R26). -/
def P.sysDecLatClr : Param := { base := 0x0000002C, w := 1, mask := 0x1, cls := .cmd, rng := .lim (.c (1)) (.c (1)) 1 }
/-- SYS_CAP_RATE (R26). -/
def P.sysCapRate : Param := { base := 0x00000030, w := 18, mask := 0x3FFFF, cls := .boot, rng := .lim (.c 0) (.c (160000)) 1 }
/-- SYS_RB_STATUS (R46). -/
def P.sysRbStatus : Param := { base := 0x00000040, w := 8, mask := 0xFF }
/-- SYS_RB_ID_LO (R46). -/
def P.sysRbIdLo : Param := { base := 0x00000044 }
/-- SYS_RB_ID_HI (R46). -/
def P.sysRbIdHi : Param := { base := 0x00000048 }
/-- SYS_RB_OFFSET (R46). -/
def P.sysRbOffset : Param := { base := 0x0000004C, w := 28, mask := 0xFFFFFFF }
/-- SYS_ALLOW (R46). -/
def P.sysAllow : Param := { base := 0x00000050, w := 2, mask := 0x3, cls := .boot, rng := .lim (.c 0) (.c (3)) 1 }
/-- SYS_RECIPE_START (R46). -/
def P.sysRecipeStart : Param := { base := 0x00000054, w := 8, mask := 0xFF, cls := .boot, rng := .sp .recipeStart }
/-- SYS_RECIPE_SEL (R46). -/
def P.sysRecipeSel : Param := { base := 0x00000058, w := 4, mask := 0xF, cls := .cmd, rng := .lim (.c 0) (.c (15)) 1 }
/-- SYS_RECIPE_NOW (R46). -/
def P.sysRecipeNow : Param := { base := 0x0000005C, w := 4, mask := 0xF }
/-- SYS_RECIPE_PEND (R46). -/
def P.sysRecipePend : Param := { base := 0x00000060, w := 5, mask := 0x1F }
/-- SYS_RECIPE_AT (R46). -/
def P.sysRecipeAt : Param := { base := 0x00000064 }
/-- SYS_RECIPE_SUPERSEDED (R46). -/
def P.sysRecipeSuperseded : Param := { base := 0x00000068 }
/-- SYS_CALU_STATE (R46). -/
def P.sysCaluState : Param := { base := 0x0000006C, w := 2, mask := 0x3 }
/-- SYS_CALU_WRITES (R46). -/
def P.sysCaluWrites : Param := { base := 0x00000070 }
/-- SYS_RECIPE_COUNT (R46). -/
def P.sysRecipeCount : Param := { base := 0x00000074, w := 5, mask := 0x1F }
/-- SYS_DIAL_COUNT (R46). -/
def P.sysDialCount : Param := { base := 0x00000078, w := 7, mask := 0x7F }
/-- CAM_EN (R86). -/
def P.camEn : Param := { base := 0x02000000, n1 := 8, s1 := 0x100000, w := 1, mask := 0x1, cls := .boot, rng := .lim (.c 0) (.c (1)) 1 }
/-- CAM_FORMAT (R86). -/
def P.camFormat : Param := { base := 0x02000004, n1 := 8, s1 := 0x100000, w := 7, mask := 0x77, cls := .boot, dflt := .c 2, rng := .sp .camFormat }
/-- CAM_LINE_SAMPLES (R86). -/
def P.camLineSamples : Param := { base := 0x02000008, n1 := 8, s1 := 0x100000, w := 15, mask := 0x7FFF, cls := .boot, dflt := .c 4096, rng := .sp .camSamples }
/-- CAM_FRAME_LINES (R86). -/
def P.camFrameLines : Param := { base := 0x0200000C, n1 := 8, s1 := 0x100000, w := 17, mask := 0x1FFFF, cls := .boot, dflt := .c 1024, rng := .lim (.c (64)) (.c (65536)) 1 }
/-- CAM_LINE_PERIOD (R86). -/
def P.camLinePeriod : Param := { base := 0x02000010, n1 := 8, s1 := 0x100000, w := 20, mask := 0xFFFFF, cls := .boot, dflt := .c 76920, rng := .lim (.c (5000)) (.c (1000000)) 4 }
/-- CAM_EXP_PHASE (R86). -/
def P.camExpPhase : Param := { base := 0x02000014, n1 := 8, s1 := 0x100000, w := 20, mask := 0xFFFFF, cls := .boot, rng := .lim (.c 0) (.p 0x2000010 true (1) (-4)) 4 }
/-- CAM_INTERLEAVE (R86). -/
def P.camInterleave : Param := { base := 0x02000018, n1 := 8, s1 := 0x100000, w := 2, mask := 0x3, cls := .boot, rng := .lim (.c 0) (.c (2)) 1, per := true }
/-- CAM_EXP_ON (R86). -/
def P.camExpOn : Param := { base := 0x0200001C, n1 := 8, s1 := 0x100000, w := 20, mask := 0xFFFFF, cls := .dial, dflt := .c 10000, rng := .lim (.c 1000) (.p 0x2000010 true (1) (-200)) 4, per := true }
/-- CAM_EXP_OFF (R86). -/
def P.camExpOff : Param := { base := 0x02000020, n1 := 8, s1 := 0x100000, w := 20, mask := 0xFFFFF, cls := .dial, dflt := .c 10000, rng := .lim (.c 1000) (.p 0x2000010 true (1) (-200)) 4, per := true }
/-- CAM_EXP_REF (R86). -/
def P.camExpRef : Param := { base := 0x02000024, n1 := 8, s1 := 0x100000, w := 20, mask := 0xFFFFF, cls := .boot, dflt := .c 10000, rng := .lim (.c (1000)) (.c (1000000)) 1, per := true }
/-- CAM_SER_BAUD (R86). -/
def P.camSerBaud : Param := { base := 0x02000028, n1 := 8, s1 := 0x100000, w := 3, mask := 0x7, cls := .boot, dflt := .c 4, rng := .lim (.c 0) (.c (7)) 1 }
/-- CAM_SER_TIMEOUT (R86). -/
def P.camSerTimeout : Param := { base := 0x0200002C, n1 := 8, s1 := 0x100000, w := 16, mask := 0xFFFF, cls := .boot, dflt := .c 1000, rng := .lim (.c 0) (.c (65535)) 1 }
/-- CAM_TPL_COUNT (R86). -/
def P.camTplCount : Param := { base := 0x02000030, n1 := 8, s1 := 0x100000, w := 5, mask := 0x1F, cls := .boot, rng := .lim (.c 0) (.c (16)) 1 }
/-- CAM_STAT_ZONES (R86). -/
def P.camStatZones : Param := { base := 0x02000034, n1 := 8, s1 := 0x100000, w := 5, mask := 0x1F, cls := .boot, dflt := .c 16, rng := .lim (.c (1)) (.c (16)) 1 }
/-- CAM_SAT_LEVEL (R86). -/
def P.camSatLevel : Param := { base := 0x02000038, n1 := 8, s1 := 0x100000, w := 16, mask := 0xFFFF, cls := .boot, dflt := .c 65472, rng := .lim (.c 0) (.c (65535)) 1, per := true }
/-- CAM_DARK_LEVEL (R86). -/
def P.camDarkLevel : Param := { base := 0x0200003C, n1 := 8, s1 := 0x100000, w := 16, mask := 0xFFFF, cls := .boot, dflt := .c 1024, rng := .lim (.c 0) (.c (65535)) 1, per := true }
/-- CAM_GAIN (R86). -/
def P.camGain : Param := { base := 0x02000040, n1 := 8, s1 := 0x100000, n2 := 3, w := 16, mask := 0xFFFF, cls := .dial, dflt := .c 0x1000, rng := .lim (.c 0) (.c (65535)) 1, per := true }
/-- CAM_MATRIX (R86). -/
def P.camMatrix : Param := { base := 0x02000050, n1 := 8, s1 := 0x100000, n2 := 12, w := 17, mask := 0x1FFFF, cls := .boot, dflt := .matrix, rng := .sp .camMatrix, per := true }
/-- CAM_CSET (R86). -/
def P.camCset : Param := { base := 0x02000080, n1 := 8, s1 := 0x100000, n2 := 8, cls := .dial, per := true }
/-- CAM_LAT_NOW (R86). -/
def P.camLatNow : Param := { base := 0x02000100, n1 := 8, s1 := 0x100000, w := 21, mask := 0x1FFFFF }
/-- CAM_BLACK_NOW (R86). -/
def P.camBlackNow : Param := { base := 0x02000104, n1 := 8, s1 := 0x100000, n2 := 3, w := 16, mask := 0xFFFF }
/-- CAM_STATUS (R86). -/
def P.camStatus : Param := { base := 0x02000200, n1 := 8, s1 := 0x100000, w := 4, mask := 0xF }
/-- CAM_FLAGS (R86). -/
def P.camFlags : Param := { base := 0x02000204, n1 := 8, s1 := 0x100000, w := 6, mask := 0x3F, cls := .w1c }
/-- CAM_FRAME_NOW (R86). -/
def P.camFrameNow : Param := { base := 0x02000208, n1 := 8, s1 := 0x100000 }
/-- CAM_SEQ_NOW (R86). -/
def P.camSeqNow : Param := { base := 0x0200020C, n1 := 8, s1 := 0x100000, w := 16, mask := 0xFFFF }
/-- CAM_SEQ_PEND (R86). -/
def P.camSeqPend : Param := { base := 0x02000210, n1 := 8, s1 := 0x100000, w := 17, mask := 0x1FFFF }
/-- CAM_LINES (R86). -/
def P.camLines : Param := { base := 0x02000214, n1 := 8, s1 := 0x100000 }
/-- CAM_LINES_LOST (R86). -/
def P.camLinesLost : Param := { base := 0x02000218, n1 := 8, s1 := 0x100000 }
/-- CAM_LINES_BAD (R86). -/
def P.camLinesBad : Param := { base := 0x0200021C, n1 := 8, s1 := 0x100000 }
/-- CAM_SLIPS (R86). -/
def P.camSlips : Param := { base := 0x02000220, n1 := 8, s1 := 0x100000 }
/-- CAM_TPL_FAILS (R86). -/
def P.camTplFails : Param := { base := 0x02000224, n1 := 8, s1 := 0x100000 }
/-- CAM_STAT_SEQ (R86). -/
def P.camStatSeq : Param := { base := 0x02000400, n1 := 8, s1 := 0x100000 }
/-- CAM_STAT_FRAME (R86). -/
def P.camStatFrame : Param := { base := 0x02000404, n1 := 8, s1 := 0x100000 }
/-- CAM_STAT_SETSEQ (R86). -/
def P.camStatSetseq : Param := { base := 0x02000408, n1 := 8, s1 := 0x100000, w := 21, mask := 0x1FFFFF }
/-- CAM_STAT_LINES (R86). -/
def P.camStatLines : Param := { base := 0x0200040C, n1 := 8, s1 := 0x100000 }
/-- CAM_STAT_T0 (R86). -/
def P.camStatT0 : Param := { base := 0x02000410, n1 := 8, s1 := 0x100000 }
/-- CAM_STAT_T1 (R86). -/
def P.camStatT1 : Param := { base := 0x02000414, n1 := 8, s1 := 0x100000 }
/-- CAM_STAT_RX (R86). -/
def P.camStatRx : Param := { base := 0x02000418, n1 := 8, s1 := 0x100000 }
/-- CAM_STAT_ZONE (R86). -/
def P.camStatZone : Param := { base := 0x02000800, n1 := 8, s1 := 0x100000, n2 := 768 }
/-- CAM_STAT_HIST (R86). -/
def P.camStatHist : Param := { base := 0x02001400, n1 := 8, s1 := 0x100000, n2 := 384 }
/-- CAM_TPL (R86). -/
def P.camTpl : Param := { base := 0x02002000, n1 := 8, s1 := 0x100000, n2 := 512, cls := .boot, rng := .sp .camTpl, tbl := true }
/-- CAM_TONE (R86). -/
def P.camTone : Param := { base := 0x02010000, n1 := 8, s1 := 0x100000, n2 := 6144, cls := .boot, dflt := .tone, per := true, tbl := true }
/-- CAM_FF_NOW (R86). -/
def P.camFfNow : Param := { base := 0x02020000, n1 := 8, s1 := 0x100000, n2 := 16384, w := 16, mask := 0xFFFF }
/-- CAM_DARK_NOW (R86). -/
def P.camDarkNow : Param := { base := 0x02030000, n1 := 8, s1 := 0x100000, n2 := 16384, w := 16, mask := 0xFFFF, sg := true }
/-- BG_EN (R104). -/
def P.bgEn : Param := { base := 0x03000000, w := 2, mask := 0x3, cls := .boot, rng := .lim (.c 0) (.c (3)) 1 }
/-- BG_PERIOD (R104). -/
def P.bgPeriod : Param := { base := 0x03000004, w := 20, mask := 0xFFFFF, cls := .boot, dflt := .c 76920, rng := .lim (.c (5000)) (.c (1000000)) 4 }
/-- BG_MODE (R104). -/
def P.bgMode : Param := { base := 0x03000008, w := 2, mask := 0x3, cls := .boot, rng := .lim (.c 0) (.c (2)) 1, per := true }
/-- BG_EN_PHASE (R104). -/
def P.bgEnPhase : Param := { base := 0x0300000C, w := 21, mask := 0x1FFFFF, cls := .boot, rng := .lim (.c 0) (.p 0x3000004 false (2) (-4)) 4, per := true }
/-- BG_EN_WIDTH (R104). -/
def P.bgEnWidth : Param := { base := 0x03000010, w := 21, mask := 0x1FFFFF, cls := .boot, dflt := .c 10000, rng := .lim (.c 1000) (.p 0x3000004 false (2) (-1000)) 4, per := true }
/-- BG_T_RISE (R104). -/
def P.bgTRise : Param := { base := 0x03000014, w := 12, mask := 0xFFF, cls := .boot, dflt := .c 2000, rng := .lim (.c 0) (.c (4000)) 1 }
/-- BG_T_FALL (R104). -/
def P.bgTFall : Param := { base := 0x03000018, w := 12, mask := 0xFFF, cls := .boot, dflt := .c 2000, rng := .lim (.c 0) (.c (4000)) 1 }
/-- BG_LOAD_EVERY (R104). -/
def P.bgLoadEvery : Param := { base := 0x0300001C, w := 8, mask := 0xFF, cls := .boot, dflt := .c 1, rng := .lim (.c (1)) (.c (255)) 1 }
/-- BG_LEVEL (R104). -/
def P.bgLevel : Param := { base := 0x03000020, w := 13, mask := 0x1FFF, cls := .dial, dflt := .c 4096, rng := .lim (.c 0) (.c (4096)) 1, per := true }
/-- BG_FALLBACK (R104). -/
def P.bgFallback : Param := { base := 0x03000024, w := 1, mask := 0x1, cls := .boot, rng := .lim (.c 0) (.c (1)) 1, per := true }
/-- BG_ORIGIN (R104). -/
def P.bgOrigin : Param := { base := 0x03000100, n1 := 2, s1 := 0x40, sg := true, cls := .boot, rng := .lim (.c (-100000)) (.c (100000)) 1 }
/-- BG_PITCH (R104). -/
def P.bgPitch : Param := { base := 0x03000104, n1 := 2, s1 := 0x40, w := 16, mask := 0xFFFF, cls := .boot, dflt := .c 800, rng := .lim (.c (250)) (.c (4000)) 1 }
/-- BG_COLS (R104). -/
def P.bgCols : Param := { base := 0x03000108, n1 := 2, s1 := 0x40, w := 12, mask := 0xFFF, cls := .boot, dflt := .c 2048, rng := .lim (.c (64)) (.c (2048)) 64 }
/-- BG_IREF (R104). -/
def P.bgIref : Param := { base := 0x0300010C, n1 := 2, s1 := 0x40, w := 12, mask := 0xFFF, cls := .dial, dflt := .c 2048, rng := .lim (.c 0) (.c (4095)) 1, per := true }
/-- BG_STATUS (R104). -/
def P.bgStatus : Param := { base := 0x03000110, n1 := 2, s1 := 0x40, w := 6, mask := 0x3F }
/-- BG_PRESENT_SEQ (R104). -/
def P.bgPresentSeq : Param := { base := 0x03000114, n1 := 2, s1 := 0x40, w := 16, mask := 0xFFFF }
/-- BG_FAULTY (R104). -/
def P.bgFaulty : Param := { base := 0x03000118, n1 := 2, s1 := 0x40 }
/-- BG_UPDATES (R104). -/
def P.bgUpdates : Param := { base := 0x0300011C, n1 := 2, s1 := 0x40 }
/-- BG_SUPERSEDED (R104). -/
def P.bgSuperseded : Param := { base := 0x03000120, n1 := 2, s1 := 0x40 }
/-- BG_TOLL_WAITS (R104). -/
def P.bgTollWaits : Param := { base := 0x03000124, n1 := 2, s1 := 0x40 }
/-- BG_CRC_FAILS (R104). -/
def P.bgCrcFails : Param := { base := 0x03000128, n1 := 2, s1 := 0x40 }
/-- BG_IFS (R104). -/
def P.bgIfs : Param := { base := 0x0300012C, n1 := 2, s1 := 0x40, w := 16, mask := 0xFFFF, cls := .boot, dflt := .c 20000, rng := .lim (.c (100)) (.c (65535)) 1 }
/-- BG_COLOUR (R104). -/
def P.bgColour : Param := { base := 0x03001000, n1 := 2, s1 := 0x800, n2 := 300, w := 12, mask := 0xFFF, cls := .boot, dflt := .c 2048, rng := .lim (.c 0) (.c 4095) 1, per := true, tbl := true }
/-- BG_UNI_NOW (R104). -/
def P.bgUniNow : Param := { base := 0x03100000, n1 := 2, s1 := 0x80000, n2 := 98304, w := 16, mask := 0xFFFF }
/-- CELL_PLACE_TOWERS (R132). -/
def P.cellPlaceTowers : Param := { base := 0x04000000, w := 5, mask := 0x1F }
/-- CELL_MIN_TOWERS (R132). -/
def P.cellMinTowers : Param := { base := 0x04000004, w := 5, mask := 0x1F, cls := .boot, dflt := .c 16, rng := .lim (.c (1)) (.c (16)) 1 }
/-- CELL_SLOTS (R132). -/
def P.cellSlots : Param := { base := 0x04000008, w := 7, mask := 0x7F, dflt := .c 64 }
/-- CELL_SLOTS_BUSY (R132). -/
def P.cellSlotsBusy : Param := { base := 0x0400000C, w := 7, mask := 0x7F }
/-- CELL_SLOTS_PEAK (R132). -/
def P.cellSlotsPeak : Param := { base := 0x04000010, w := 7, mask := 0x7F }
/-- CELL_QUEUE_NOW (R132). -/
def P.cellQueueNow : Param := { base := 0x04000014, w := 11, mask := 0x7FF }
/-- CELL_WAIT_MAX (R132). -/
def P.cellWaitMax : Param := { base := 0x04000018, w := 24, mask := 0xFFFFFF }
/-- CELL_CLR (R132). -/
def P.cellClr : Param := { base := 0x0400001C, w := 1, mask := 0x1, cls := .cmd, rng := .lim (.c (1)) (.c (1)) 1 }
/-- CELL_JOBS_DONE (R132). -/
def P.cellJobsDone : Param := { base := 0x04000020 }
/-- CELL_JOBS_REFUSED (R132). -/
def P.cellJobsRefused : Param := { base := 0x04000024 }
/-- CELL_JOBS_ABORTED (R132). -/
def P.cellJobsAborted : Param := { base := 0x04000028 }
/-- CELL_QUEUE_FULLS (R132). -/
def P.cellQueueFulls : Param := { base := 0x0400002C }
/-- CELL_PAIR_MISMATCHES (R132). -/
def P.cellPairMismatches : Param := { base := 0x04000030 }
/-- CELL_MISMATCH_LIMIT (R132). -/
def P.cellMismatchLimit : Param := { base := 0x04000034, w := 16, mask := 0xFFFF, cls := .boot, dflt := .c 16, rng := .lim (.c (1)) (.c (65535)) 1 }
/-- CELL_MISMATCH_WINDOW (R132). -/
def P.cellMismatchWindow : Param := { base := 0x04000038, w := 16, mask := 0xFFFF, cls := .boot, dflt := .c 3600, rng := .lim (.c (1)) (.c (65535)) 1 }
/-- CELL_SCRUB_HOURS (R132). -/
def P.cellScrubHours : Param := { base := 0x0400003C, w := 8, mask := 0xFF, cls := .boot, dflt := .c 24, rng := .lim (.c (1)) (.c (168)) 1 }
/-- CELL_SCRUB_PASSES (R132). -/
def P.cellScrubPasses : Param := { base := 0x04000040 }
/-- CELL_CE_LIMIT (R132). -/
def P.cellCeLimit : Param := { base := 0x04000044, w := 16, mask := 0xFFFF, cls := .boot, dflt := .c 100, rng := .lim (.c (1)) (.c (65535)) 1 }
/-- CELL_ERR_FLAGS (R132). -/
def P.cellErrFlags : Param := { base := 0x04000048, w := 4, mask := 0xF, cls := .w1c }
/-- CELL_ERR_LAST_LOC (R132). -/
def P.cellErrLastLoc : Param := { base := 0x0400004C }
/-- CELL_ERR_LAST_ADDR (R132). -/
def P.cellErrLastAddr : Param := { base := 0x04000050, w := 28, mask := 0xFFFFFFF }
/-- CELL_ERR_LAST_T (R132). -/
def P.cellErrLastT : Param := { base := 0x04000054 }
/-- CELL_T_OK_LO (R132). -/
def P.cellTOkLo : Param := { base := 0x04000100, n1 := 16, s1 := 0x20 }
/-- CELL_T_OK_HI (R132). -/
def P.cellTOkHi : Param := { base := 0x04000104, n1 := 16, s1 := 0x20 }
/-- CELL_T_MAP (R132). -/
def P.cellTMap : Param := { base := 0x04000108, n1 := 16, s1 := 0x20, w := 5, mask := 0x1F }
/-- CELL_T_MISMATCH (R132). -/
def P.cellTMismatch : Param := { base := 0x0400010C, n1 := 16, s1 := 0x20 }
/-- CELL_T_RESTARTS (R132). -/
def P.cellTRestarts : Param := { base := 0x04000110, n1 := 16, s1 := 0x20 }
/-- CELL_CE_1 (R132). -/
def P.cellCe1 : Param := { base := 0x04000300, n1 := 21, s1 := 0x10 }
/-- CELL_CE_2 (R132). -/
def P.cellCe2 : Param := { base := 0x04000304, n1 := 21, s1 := 0x10 }
/-- CELL_UE (R132). -/
def P.cellUe : Param := { base := 0x04000308, n1 := 21, s1 := 0x10 }
/-- CELL_ADDR (R132). -/
def P.cellAddr : Param := { base := 0x0400030C, n1 := 21, s1 := 0x10 }
/-- FUS_COLS (R157). -/
def P.fusCols : Param := { base := 0x05000000, w := 13, mask := 0x1FFF, cls := .boot, dflt := .c 6400, rng := .lim (.c (64)) (.c (6400)) 64 }
/-- FUS_H_REF (R157). -/
def P.fusHRef : Param := { base := 0x05000004, w := 19, mask := 0x7FFFF, cls := .boot, dflt := .c 100000, rng := .lim (.c (10000)) (.c (400000)) 1 }
/-- FUS_H_ALIGN (R157). -/
def P.fusHAlign : Param := { base := 0x05000008, w := 19, mask := 0x7FFFF, cls := .boot, dflt := .c 100000, rng := .lim (.c 0) (.c (400000)) 1 }
/-- FUS_V_NOM (R157). -/
def P.fusVNom : Param := { base := 0x0500000C, w := 23, mask := 0x7FFFFF, cls := .boot, dflt := .c 4000000, rng := .lim (.c (1000000)) (.c (8000000)) 1, per := true }
/-- FUS_A_NOM (R157). -/
def P.fusANom : Param := { base := 0x05000010, w := 24, mask := 0xFFFFFF, cls := .boot, dflt := .c 9810000, rng := .lim (.p 0x5000014 false (1) (0)) (.p 0x5000018 false (1) (0)) 1, per := true }
/-- FUS_A_MIN (R157). -/
def P.fusAMin : Param := { base := 0x05000014, w := 24, mask := 0xFFFFFF, cls := .boot, dflt := .c 6000000, rng := .lim (.c (1000000)) (.c (12000000)) 1 }
/-- FUS_A_MAX (R157). -/
def P.fusAMax : Param := { base := 0x05000018, w := 24, mask := 0xFFFFFF, cls := .boot, dflt := .c 10500000, rng := .lim (.p 0x5000014 false (1) (0)) (.c 12000000) 1 }
/-- FUS_N_V (R157). -/
def P.fusNV : Param := { base := 0x0500001C, w := 10, mask := 0x3FF, cls := .boot, dflt := .c 32, rng := .lim (.c (4)) (.c (1023)) 1 }
/-- FUS_N_A (R157). -/
def P.fusNA : Param := { base := 0x05000020, w := 10, mask := 0x3FF, cls := .boot, dflt := .c 256, rng := .lim (.c (4)) (.c (1023)) 1 }
/-- FUS_N_W (R157). -/
def P.fusNW : Param := { base := 0x05000024, w := 10, mask := 0x3FF, cls := .boot, dflt := .c 32, rng := .lim (.c (4)) (.c (1023)) 1 }
/-- FUS_GATE_V (R157). -/
def P.fusGateV : Param := { base := 0x05000028, w := 21, mask := 0x1FFFFF, cls := .boot, dflt := .c 300000, rng := .lim (.c (10000)) (.c (2000000)) 1 }
/-- FUS_DH_MIN (R157). -/
def P.fusDhMin : Param := { base := 0x0500002C, w := 19, mask := 0x7FFFF, cls := .boot, dflt := .c 20000, rng := .lim (.c (5000)) (.c (400000)) 1 }
/-- FUS_DH_A (R157). -/
def P.fusDhA : Param := { base := 0x05000030, w := 19, mask := 0x7FFFF, cls := .boot, dflt := .c 40000, rng := .lim (.c (10000)) (.c (400000)) 1 }
/-- FUS_STALE_S (R157). -/
def P.fusStaleS : Param := { base := 0x05000034, w := 8, mask := 0xFF, cls := .boot, dflt := .c 5, rng := .lim (.c (1)) (.c (255)) 1 }
/-- FUS_MOTION_RESET (R157). -/
def P.fusMotionReset : Param := { base := 0x05000038, w := 1, mask := 0x1, cls := .cmd, rng := .lim (.c (1)) (.c (1)) 1, svc := true }
/-- FUS_OBJ_THR (R157). -/
def P.fusObjThr : Param := { base := 0x0500003C, w := 8, mask := 0xFF, cls := .dial, dflt := .c 128, rng := .lim (.c (1)) (.c (255)) 1, per := true }
/-- FUS_MIN_CELLS (R157). -/
def P.fusMinCells : Param := { base := 0x05000040, w := 12, mask := 0xFFF, cls := .boot, dflt := .c 4, rng := .lim (.c (1)) (.c (4095)) 1, per := true }
/-- FUS_MAX_COLS (R157). -/
def P.fusMaxCols : Param := { base := 0x05000044, w := 10, mask := 0x3FF, cls := .boot, dflt := .c 128, rng := .lim (.c (1)) (.c (640)) 1, per := true }
/-- FUS_MAX_ROWS (R157). -/
def P.fusMaxRows : Param := { base := 0x05000048, w := 10, mask := 0x3FF, cls := .boot, dflt := .c 256, rng := .lim (.c (1)) (.c (1023)) 1, per := true }
/-- FUS_LOST_MAX (R157). -/
def P.fusLostMax : Param := { base := 0x0500004C, w := 7, mask := 0x7F, cls := .boot, dflt := .c 25, rng := .lim (.c 0) (.c (100)) 1, per := true }
/-- FUS_REQUIRED (R157). -/
def P.fusRequired : Param := { base := 0x05000050, w := 8, mask := 0xFF, cls := .boot, dflt := .c 255, rng := .lim (.c 0) (.c (255)) 1, per := true }
/-- FUS_BGI_ACTION (R157). -/
def P.fusBgiAction : Param := { base := 0x05000054, w := 1, mask := 0x1, cls := .boot, rng := .lim (.c 0) (.c (1)) 1, per := true }
/-- FUS_Q_HIGH (R157). -/
def P.fusQHigh : Param := { base := 0x05000058, w := 8, mask := 0xFF, cls := .dial, dflt := .c 230, rng := .lim (.c (1)) (.c (255)) 1, per := true }
/-- FUS_CONTRA_POLICY (R157). -/
def P.fusContraPolicy : Param := { base := 0x0500005C, w := 2, mask := 0x3, cls := .boot, rng := .lim (.c 0) (.c (3)) 1, per := true }
/-- FUS_CLASS_GROUP (R157). -/
def P.fusClassGroup : Param := { base := 0x05000060, w := 16, mask := 0xFFFF, cls := .boot, dflt := .c 65534, per := true }
/-- FUS_CLASS_RANK_LO (R157). -/
def P.fusClassRankLo : Param := { base := 0x05000064, cls := .boot, per := true }
/-- FUS_CLASS_RANK_HI (R157). -/
def P.fusClassRankHi : Param := { base := 0x05000068, cls := .boot, per := true }
/-- FUS_SENS_WEIGHT_LO (R157). -/
def P.fusSensWeightLo : Param := { base := 0x0500006C, cls := .boot, dflt := .c 0x40404040, per := true }
/-- FUS_SENS_WEIGHT_HI (R157). -/
def P.fusSensWeightHi : Param := { base := 0x05000070, cls := .boot, dflt := .c 0x40404040, per := true }
/-- FUS_PAIR_WINDOW (R157). -/
def P.fusPairWindow : Param := { base := 0x05000074, w := 16, mask := 0xFFFF, cls := .boot, dflt := .c 4096, rng := .lim (.c (256)) (.c (65535)) 1 }
/-- FUS_PAIR_LIMIT (R157). -/
def P.fusPairLimit : Param := { base := 0x05000078, w := 16, mask := 0xFFFF, cls := .boot, dflt := .c 41, rng := .lim (.c (1)) (.c (65535)) 1 }
/-- FUS_PAIR_STRIKES (R157). -/
def P.fusPairStrikes : Param := { base := 0x0500007C, w := 4, mask := 0xF, cls := .boot, dflt := .c 3, rng := .lim (.c (1)) (.c (15)) 1 }
/-- FUS_ABSENT_MS (R157). -/
def P.fusAbsentMs : Param := { base := 0x05000080, w := 16, mask := 0xFFFF, cls := .boot, dflt := .c 100, rng := .lim (.c (10)) (.c (65535)) 1 }
/-- FUS_REMIND_S (R157). -/
def P.fusRemindS : Param := { base := 0x05000084, w := 16, mask := 0xFFFF, cls := .boot, dflt := .c 60, rng := .lim (.c (1)) (.c (65535)) 1 }
/-- FUS_VARIANT (R157). -/
def P.fusVariant : Param := { base := 0x05000088, n1 := 4, s1 := 0x4, mask := 0x800000FF, cls := .boot, per := true }
/-- FUS_SUSPECT (R157). -/
def P.fusSuspect : Param := { base := 0x050000A0, w := 8, mask := 0xFF }
/-- FUS_SUSPECT_WHY (R157). -/
def P.fusSuspectWhy : Param := { base := 0x050000A4, w := 16, mask := 0xFFFF }
/-- FUS_SUSPECT_CLR (R157). -/
def P.fusSuspectClr : Param := { base := 0x050000A8, w := 8, mask := 0xFF, cls := .cmd, svc := true }
/-- FUS_FLAGS (R157). -/
def P.fusFlags : Param := { base := 0x050000AC, w := 4, mask := 0xF, cls := .w1c }
/-- FUS_WARM (R157). -/
def P.fusWarm : Param := { base := 0x050000B0, n1 := 4, s1 := 0x4 }
/-- FUS_OBS (R157). -/
def P.fusObs : Param := { base := 0x050000C0 }
/-- FUS_SMALL (R157). -/
def P.fusSmall : Param := { base := 0x050000C4 }
/-- FUS_CONTRA_PIECES (R157). -/
def P.fusContraPieces : Param := { base := 0x050000C8 }
/-- FUS_MOTION_DISCARDS (R157). -/
def P.fusMotionDiscards : Param := { base := 0x050000CC }
/-- FUS_DEGRADED_PIECES (R157). -/
def P.fusDegradedPieces : Param := { base := 0x050000D0 }
/-- FUS_PAIR_CONTRA (R157). -/
def P.fusPairContra : Param := { base := 0x05000100, n1 := 28, s1 := 0x4 }
/-- FUS_AGREE (R157). -/
def P.fusAgree : Param := { base := 0x05000180, n1 := 8, s1 := 0x4, w := 16, mask := 0xFFFF }
/-- FUS_V_NOW (R157). -/
def P.fusVNow : Param := { base := 0x05001000, n1 := 100, s1 := 0x10, w := 23, mask := 0x7FFFFF }
/-- FUS_A_NOW (R157). -/
def P.fusANow : Param := { base := 0x05001004, n1 := 100, s1 := 0x10, w := 24, mask := 0xFFFFFF }
/-- FUS_W_NOW (R157). -/
def P.fusWNow : Param := { base := 0x05001008, n1 := 100, s1 := 0x10, sg := true }
/-- FUS_M_STAT (R157). -/
def P.fusMStat : Param := { base := 0x0500100C, n1 := 100, s1 := 0x10 }
/-- FUS_H_NOW (R157). -/
def P.fusHNow : Param := { base := 0x05002000, n1 := 8, s1 := 0x100, w := 19, mask := 0x7FFFF }
/-- FUS_PREFILT (R157). -/
def P.fusPrefilt : Param := { base := 0x05002004, n1 := 8, s1 := 0x100, w := 2, mask := 0x3, cls := .boot, rng := .lim (.c 0) (.c (2)) 1 }
/-- FUS_FEAT_CH (R157). -/
def P.fusFeatCh : Param := { base := 0x05002008, n1 := 8, s1 := 0x100, w := 6, mask := 0x3F, cls := .boot, dflt := .c 16, rng := .lim (.c (1)) (.c (32)) 1 }
/-- FUS_OBJ_CH (R157). -/
def P.fusObjCh : Param := { base := 0x0500200C, n1 := 8, s1 := 0x100, w := 5, mask := 0x1F, cls := .boot, rng := .lim (.c 0) (.p 0x5002008 true (1) (-1)) 1 }
/-- FUS_POOL (R157). -/
def P.fusPool : Param := { base := 0x05002010, n1 := 8, s1 := 0x100, cls := .boot, per := true }
/-- FUS_GEO_NOW (R157). -/
def P.fusGeoNow : Param := { base := 0x05100000, n1 := 8, s1 := 0x10000, n2 := 6400, w := 24, mask := 0xFFFFFF }
/-- TRK_LIFE (R184). -/
def P.trkLife : Param := { base := 0x06000000, w := 16, mask := 0xFFFF, cls := .boot, dflt := .c 45000, rng := .lim (.c (5000)) (.c (45000)) 1, per := true }
/-- TRK_PROV_LEAD (R184). -/
def P.trkProvLead : Param := { base := 0x06000004, w := 16, mask := 0xFFFF, cls := .boot, dflt := .c 3000, rng := .lim (.c (400)) (.c (20000)) 1, per := true }
/-- TRK_SIG_T (R184). -/
def P.trkSigT : Param := { base := 0x06000008, w := 20, mask := 0xFFFFF, cls := .boot, dflt := .c 100000, rng := .lim (.c (1000)) (.c (1000000)) 1 }
/-- TRK_SIG_X (R184). -/
def P.trkSigX : Param := { base := 0x0600000C, w := 16, mask := 0xFFFF, cls := .boot, dflt := .c 1024, rng := .lim (.c (64)) (.c (65535)) 1 }
/-- TRK_SIG_W (R184). -/
def P.trkSigW : Param := { base := 0x06000010, w := 8, mask := 0xFF, cls := .boot, dflt := .c 8, rng := .lim (.c (1)) (.c (255)) 1 }
/-- TRK_GATE_T (R184). -/
def P.trkGateT : Param := { base := 0x06000014, w := 20, mask := 0xFFFFF, cls := .boot, dflt := .c 400000, rng := .lim (.c (1000)) (.c (1000000)) 1 }
/-- TRK_GATE_X (R184). -/
def P.trkGateX : Param := { base := 0x06000018, w := 20, mask := 0xFFFFF, cls := .boot, dflt := .c 4096, rng := .lim (.c (64)) (.c (1048575)) 1 }
/-- TRK_GATE_C (R184). -/
def P.trkGateC : Param := { base := 0x0600001C, w := 16, mask := 0xFFFF, cls := .boot, dflt := .c 4096, rng := .lim (.c (256)) (.c (65535)) 1 }
/-- TRK_NEW_COST (R184). -/
def P.trkNewCost : Param := { base := 0x06000020, w := 16, mask := 0xFFFF, cls := .boot, dflt := .c 3072, rng := .lim (.c 256) (.p 0x600001C false (1) (0)) 1 }
/-- TRK_WIN_NS (R184). -/
def P.trkWinNs : Param := { base := 0x06000024, w := 20, mask := 0xFFFFF, cls := .boot, dflt := .c 200000, rng := .lim (.c (10000)) (.c (1000000)) 1 }
/-- TRK_EPS (R184). -/
def P.trkEps : Param := { base := 0x06000028, w := 8, mask := 0xFF, cls := .boot, dflt := .c 4, rng := .lim (.c (1)) (.c (255)) 1 }
/-- TRK_BID_MAX (R184). -/
def P.trkBidMax : Param := { base := 0x0600002C, w := 16, mask := 0xFFFF, cls := .boot, dflt := .c 4096, rng := .lim (.c (64)) (.c (65535)) 1 }
/-- TRK_OVERSIZE_ACTION (R184). -/
def P.trkOversizeAction : Param := { base := 0x06000030, w := 2, mask := 0x3, cls := .boot, dflt := .c 2, rng := .lim (.c 0) (.c (2)) 1, per := true }
/-- TRK_MIN_CONF (R184). -/
def P.trkMinConf : Param := { base := 0x06000034, w := 8, mask := 0xFF, cls := .dial, rng := .lim (.c 0) (.c (255)) 1, per := true }
/-- TRK_UNSURE_ACTION (R184). -/
def P.trkUnsureAction : Param := { base := 0x06000038, w := 1, mask := 0x1, cls := .boot, dflt := .c 1, rng := .lim (.c 0) (.c (1)) 1, per := true }
/-- TRK_CLOSE_AFTER (R184). -/
def P.trkCloseAfter : Param := { base := 0x0600003C, w := 16, mask := 0xFFFF, cls := .boot, dflt := .c 1000, rng := .lim (.c 0) (.c (10000)) 1, per := true }
/-- TRK_LOT (R184). -/
def P.trkLot : Param := { base := 0x06000040, w := 1, mask := 0x1, cls := .cmd, rng := .lim (.c (1)) (.c (1)) 1 }
/-- TRK_LOT_ID (R184). -/
def P.trkLotId : Param := { base := 0x06000044 }
/-- TRK_MAP_KIND (R184). -/
def P.trkMapKind : Param := { base := 0x06000048, w := 2, mask := 0x3, cls := .boot, rng := .lim (.c 0) (.c (2)) 1 }
/-- TRK_MAP_BIN_S (R184). -/
def P.trkMapBinS : Param := { base := 0x0600004C, w := 16, mask := 0xFFFF, cls := .boot, dflt := .c 60, rng := .lim (.c (1)) (.c (65535)) 1 }
/-- TRK_MAP_CELL_DM (R184). -/
def P.trkMapCellDm : Param := { base := 0x06000050, w := 16, mask := 0xFFFF, cls := .boot, dflt := .c 50, rng := .lim (.c (1)) (.c (10000)) 1 }
/-- TRK_MAP_DELAY_MS (R184). -/
def P.trkMapDelayMs : Param := { base := 0x06000054, w := 16, mask := 0xFFFF, cls := .boot, rng := .lim (.c 0) (.c (30000)) 1 }
/-- TRK_LOOP_PERIOD (R184). -/
def P.trkLoopPeriod : Param := { base := 0x06000058, w := 8, mask := 0xFF, cls := .boot, dflt := .c 10, rng := .lim (.c (1)) (.c (255)) 1 }
/-- TRK_LIVE (R184). -/
def P.trkLive : Param := { base := 0x0600005C, w := 14, mask := 0x3FFF }
/-- TRK_LIVE_PEAK (R184). -/
def P.trkLivePeak : Param := { base := 0x06000060, w := 14, mask := 0x3FFF }
/-- TRK_CLR (R184). -/
def P.trkClr : Param := { base := 0x06000064, w := 1, mask := 0x1, cls := .cmd, rng := .lim (.c (1)) (.c (1)) 1 }
/-- TRK_OPENED (R184). -/
def P.trkOpened : Param := { base := 0x06000068 }
/-- TRK_TABLE_FULLS (R184). -/
def P.trkTableFulls : Param := { base := 0x0600006C }
/-- TRK_WIN_SPLITS (R184). -/
def P.trkWinSplits : Param := { base := 0x06000070 }
/-- TRK_BID_LIMITS (R184). -/
def P.trkBidLimits : Param := { base := 0x06000074 }
/-- TRK_REVISIONS (R184). -/
def P.trkRevisions : Param := { base := 0x06000078 }
/-- TRK_REV_CHANGED (R184). -/
def P.trkRevChanged : Param := { base := 0x0600007C }
/-- TRK_REV_LOST (R184). -/
def P.trkRevLost : Param := { base := 0x06000080 }
/-- TRK_LATE (R184). -/
def P.trkLate : Param := { base := 0x06000084 }
/-- TRK_OUT (R184). -/
def P.trkOut : Param := { base := 0x06000088, n1 := 5, s1 := 0x4 }
/-- TRK_DL (R184). -/
def P.trkDl : Param := { base := 0x060000A0, n1 := 15, s1 := 0x4 }
/-- TRK_THR (R184). -/
def P.trkThr : Param := { base := 0x06000100, n1 := 16, s1 := 0x4, w := 9, mask := 0x1FF, cls := .dial, dflt := .c 128, rng := .lim (.c 0) (.c 256) 1, per := true }
/-- TRK_TALLY (R184). -/
def P.trkTally : Param := { base := 0x06002000, n1 := 512, s1 := 0x4 }
/-- TRK_ENTRY (R184). -/
def P.trkEntry : Param := { base := 0x06100000, n1 := 131072, s1 := 0x4 }
/-- TRK_MAP (R184). -/
def P.trkMap : Param := { base := 0x06400000, n1 := 1048576, s1 := 0x4 }
/-- EJ_CHANNELS (R207). -/
def P.ejChannels : Param := { base := 0x07000000, w := 9, mask := 0x1FF, cls := .boot, dflt := .c 384, rng := .lim (.c (1)) (.c (384)) 1 }
/-- EJ_ORIGIN (R207). -/
def P.ejOrigin : Param := { base := 0x07000004, sg := true, cls := .boot, rng := .lim (.c (-100000)) (.c (100000)) 1 }
/-- EJ_PITCH (R207). -/
def P.ejPitch : Param := { base := 0x07000008, w := 26, mask := 0x3FFFFFF, cls := .boot, dflt := .c 4000000, rng := .lim (.c (1000000)) (.c (50000000)) 1 }
/-- EJ_MARGIN_X (R207). -/
def P.ejMarginX : Param := { base := 0x0700000C, w := 15, mask := 0x7FFF, cls := .dial, dflt := .c 1000, rng := .lim (.c 0) (.c (20000)) 1, per := true }
/-- EJ_MIN_OVERLAP (R207). -/
def P.ejMinOverlap : Param := { base := 0x07000010, w := 16, mask := 0xFFFF, cls := .boot, dflt := .c 1000, rng := .lim (.c 0) (.c (50000)) 1, per := true }
/-- EJ_MAX_NOZZLES (R207). -/
def P.ejMaxNozzles : Param := { base := 0x07000014, w := 4, mask := 0xF, cls := .boot, dflt := .c 8, rng := .lim (.c (1)) (.c (8)) 1, per := true }
/-- EJ_AIR_PRE (R207). -/
def P.ejAirPre : Param := { base := 0x07000018, w := 14, mask := 0x3FFF, cls := .dial, dflt := .c 1000, rng := .lim (.c (100)) (.c (10000)) 1, per := true }
/-- EJ_AIR_POST (R207). -/
def P.ejAirPost : Param := { base := 0x0700001C, w := 14, mask := 0x3FFF, cls := .dial, dflt := .c 1000, rng := .lim (.c (100)) (.c (10000)) 1, per := true }
/-- EJ_AIR_OFFSET (R207). -/
def P.ejAirOffset : Param := { base := 0x07000020, sg := true, cls := .dial, rng := .lim (.c (-5000)) (.c (5000)) 1, per := true }
/-- EJ_PASS_PCT (R207). -/
def P.ejPassPct : Param := { base := 0x07000024, w := 8, mask := 0xFF, cls := .boot, rng := .lim (.c 0) (.c (200)) 1, per := true }
/-- EJ_CORE_HALF (R207). -/
def P.ejCoreHalf : Param := { base := 0x07000028, w := 14, mask := 0x3FFF, cls := .boot, dflt := .c 500, rng := .lim (.c 0) (.c (10000)) 1, per := true }
/-- EJ_COLD_MARGIN (R207). -/
def P.ejColdMargin : Param := { base := 0x0700002C, w := 13, mask := 0x1FFF, cls := .boot, dflt := .c 500, rng := .lim (.c 0) (.c (5000)) 1, per := true }
/-- EJ_HOLD_START_EN (R207). -/
def P.ejHoldStartEn : Param := { base := 0x07000030, w := 1, mask := 0x1, cls := .boot, dflt := .c 1, rng := .lim (.c 0) (.c (1)) 1, per := true }
/-- EJ_MERGE_GAP (R207). -/
def P.ejMergeGap : Param := { base := 0x07000034, w := 13, mask := 0x1FFF, cls := .boot, dflt := .c 300, rng := .lim (.c 0) (.c (5000)) 1, per := true }
/-- EJ_PULSE_MAX (R207). -/
def P.ejPulseMax : Param := { base := 0x07000038, w := 16, mask := 0xFFFF, cls := .boot, dflt := .c 10000, rng := .lim (.c (1000)) (.c (50000)) 1 }
/-- EJ_BOOST_SLOT (R207). -/
def P.ejBoostSlot : Param := { base := 0x0700003C, w := 10, mask := 0x3FF, cls := .boot, dflt := .c 160, rng := .lim (.c (20)) (.c (1000)) 1 }
/-- EJ_Q_NOW (R207). -/
def P.ejQNow : Param := { base := 0x07000100, w := 13, mask := 0x1FFF }
/-- EJ_Q_PEAK (R207). -/
def P.ejQPeak : Param := { base := 0x07000104, w := 13, mask := 0x1FFF }
/-- EJ_ENERGISED_PEAK (R207). -/
def P.ejEnergisedPeak : Param := { base := 0x07000108, w := 7, mask := 0x7F }
/-- EJ_CLR (R207). -/
def P.ejClr : Param := { base := 0x0700010C, w := 1, mask := 0x1, cls := .cmd, rng := .lim (.c (1)) (.c (1)) 1 }
/-- EJ_PULSES (R207). -/
def P.ejPulses : Param := { base := 0x07000110 }
/-- EJ_HOLD_STARTS (R207). -/
def P.ejHoldStarts : Param := { base := 0x07000114 }
/-- EJ_SHIFTED (R207). -/
def P.ejShifted : Param := { base := 0x07000118 }
/-- EJ_MERGES (R207). -/
def P.ejMerges : Param := { base := 0x0700011C }
/-- EJ_RESTARTS (R207). -/
def P.ejRestarts : Param := { base := 0x07000120 }
/-- EJ_WITHDRAWN (R207). -/
def P.ejWithdrawn : Param := { base := 0x07000124 }
/-- EJ_CLIPPED (R207). -/
def P.ejClipped : Param := { base := 0x07000128 }
/-- EJ_SHIFT_MAX (R207). -/
def P.ejShiftMax : Param := { base := 0x07000130, w := 16, mask := 0xFFFF }
/-- EJ_FLAGS (R207). -/
def P.ejFlags : Param := { base := 0x07000134, w := 4, mask := 0xF, cls := .w1c }
/-- EJ_MISS (R207). -/
def P.ejMiss : Param := { base := 0x07000140, n1 := 8, s1 := 0x4 }
/-- EJ_CH_MISSED (R207). -/
def P.ejChMissed : Param := { base := 0x07001000, n1 := 384, s1 := 0x4 }
/-- EJ_BANK_WAIT_MAX (R207). -/
def P.ejBankWaitMax : Param := { base := 0x07002000, n1 := 24, s1 := 0x4, w := 16, mask := 0xFFFF }
/-- VLV_CHOP_F (R237). -/
def P.vlvChopF : Param := { base := 0x08000000, w := 16, mask := 0xFFFF, cls := .boot, dflt := .c 20000, rng := .lim (.c (10000)) (.c (40000)) 1 }
/-- VLV_SLEW (R237). -/
def P.vlvSlew : Param := { base := 0x08000004, w := 2, mask := 0x3, cls := .boot, dflt := .c 1, rng := .lim (.c 0) (.c (2)) 1 }
/-- VLV_HS_T_MAX (R237). -/
def P.vlvHsTMax : Param := { base := 0x08000008, w := 11, mask := 0x7FF, cls := .boot, dflt := .c 600, rng := .lim (.c (100)) (.c (2000)) 1 }
/-- VLV_I_SHORT (R237). -/
def P.vlvIShort : Param := { base := 0x0800000C, w := 12, mask := 0xFFF, cls := .boot, dflt := .c 3000, rng := .lim (.c (1500)) (.c (3000)) 1 }
/-- VLV_OPEN_LIMIT (R237). -/
def P.vlvOpenLimit : Param := { base := 0x08000010, w := 4, mask := 0xF, cls := .boot, dflt := .c 3, rng := .lim (.c (1)) (.c (15)) 1 }
/-- VLV_DET_BLANK (R237). -/
def P.vlvDetBlank : Param := { base := 0x08000014, w := 11, mask := 0x7FF, cls := .boot, dflt := .c 100, rng := .lim (.c 0) (.c (2000)) 1 }
/-- VLV_DET_MAX (R237). -/
def P.vlvDetMax : Param := { base := 0x08000018, w := 12, mask := 0xFFF, cls := .boot, dflt := .c 1500, rng := .lim (.c (100)) (.c (4000)) 1 }
/-- VLV_DET_FRAC (R237). -/
def P.vlvDetFrac : Param := { base := 0x0800001C, w := 8, mask := 0xFF, cls := .boot, dflt := .c 128, rng := .lim (.c (1)) (.c (255)) 1 }
/-- VLV_DET_GATE (R237). -/
def P.vlvDetGate : Param := { base := 0x08000020, w := 10, mask := 0x3FF, cls := .boot, dflt := .c 100, rng := .lim (.c (10)) (.c (1000)) 1 }
/-- VLV_LEARN_N (R237). -/
def P.vlvLearnN : Param := { base := 0x08000024, w := 10, mask := 0x3FF, cls := .boot, dflt := .c 64, rng := .lim (.c (16)) (.c (1023)) 1 }
/-- VLV_T_START_OFS (R237). -/
def P.vlvTStartOfs : Param := { base := 0x08000028, w := 10, mask := 0x3FF, cls := .boot, dflt := .c 150, rng := .lim (.c 0) (.c (500)) 1 }
/-- VLV_RTH (R237). -/
def P.vlvRth : Param := { base := 0x0800002C, w := 16, mask := 0xFFFF, cls := .boot, dflt := .c 3000, rng := .lim (.c (100)) (.c (60000)) 1 }
/-- VLV_TAU (R237). -/
def P.vlvTau : Param := { base := 0x08000030, w := 18, mask := 0x3FFFF, cls := .boot, dflt := .c 90000, rng := .lim (.c (1000)) (.c (250000)) 1 }
/-- VLV_RCORR (R237). -/
def P.vlvRcorr : Param := { base := 0x08000034, w := 8, mask := 0xFF, cls := .boot, dflt := .c 16, rng := .lim (.c 0) (.c (255)) 1 }
/-- VLV_BAND_T (R237). -/
def P.vlvBandT : Param := { base := 0x08000038, n1 := 3, s1 := 0x4, w := 16, mask := 0xFFFF, sg := true, cls := .boot, dflt := .ls [400, 700, 1000], rng := .sp .vlvBand }
/-- VLV_BAND_HYST (R237). -/
def P.vlvBandHyst : Param := { base := 0x08000044, w := 8, mask := 0xFF, cls := .boot, dflt := .c 20, rng := .lim (.c 0) (.c (100)) 1 }
/-- VLV_T_PROT (R237). -/
def P.vlvTProt : Param := { base := 0x08000048, w := 16, mask := 0xFFFF, sg := true, cls := .boot, dflt := .c 1300, rng := .lim (.p 0x8000040 false (1) (0)) (.c 1800) 1 }
/-- VLV_T_PROT_HYST (R237). -/
def P.vlvTProtHyst : Param := { base := 0x0800004C, w := 8, mask := 0xFF, cls := .boot, dflt := .c 100, rng := .lim (.c (10)) (.c (255)) 1 }
/-- VLV_I_HOLD_MIN (R237). -/
def P.vlvIHoldMin : Param := { base := 0x08000050, w := 12, mask := 0xFFF, cls := .boot, dflt := .c 200, rng := .lim (.c (50)) (.c (2000)) 1 }
/-- VLV_I_PEAK (R237). -/
def P.vlvIPeak : Param := { base := 0x08000060, n1 := 4, s1 := 0x10, w := 12, mask := 0xFFF, cls := .boot, dflt := .c 1000, rng := .lim (.c (100)) (.c (2000)) 1 }
/-- VLV_T_BOOST_MAX (R237). -/
def P.vlvTBoostMax : Param := { base := 0x08000064, n1 := 4, s1 := 0x10, w := 10, mask := 0x3FF, cls := .boot, dflt := .c 150, rng := .lim (.c 20) (.p 0x700003C false (1) (0)) 1 }
/-- VLV_I_HOLD (R237). -/
def P.vlvIHold : Param := { base := 0x08000068, n1 := 4, s1 := 0x10, w := 12, mask := 0xFFF, cls := .boot, dflt := .c 300, rng := .lim (.p 0x8000050 false (1) (0)) (.c 2000) 1 }
/-- VLV_ADV (R237). -/
def P.vlvAdv : Param := { base := 0x0800006C, n1 := 4, s1 := 0x10, w := 8, mask := 0xFF, cls := .boot, rng := .lim (.c 0) (.c (200)) 1 }
/-- VLV_VHI_NOW (R237). -/
def P.vlvVhiNow : Param := { base := 0x08000100, w := 16, mask := 0xFFFF }
/-- VLV_VLO_NOW (R237). -/
def P.vlvVloNow : Param := { base := 0x08000104, w := 16, mask := 0xFFFF }
/-- VLV_T_BOARD (R237). -/
def P.vlvTBoard : Param := { base := 0x08000108, w := 16, mask := 0xFFFF, sg := true }
/-- VLV_BANK_OK (R237). -/
def P.vlvBankOk : Param := { base := 0x0800010C, w := 24, mask := 0xFFFFFF }
/-- VLV_CH_CLR (R237). -/
def P.vlvChClr : Param := { base := 0x08000110, w := 16, mask := 0x81FF, cls := .cmd, rng := .sp .vlvClr }
/-- VLV_FLAGS (R237). -/
def P.vlvFlags : Param := { base := 0x08000114, w := 6, mask := 0x3F, cls := .w1c }
/-- VLV_PULSES (R237). -/
def P.vlvPulses : Param := { base := 0x08000118 }
/-- VLV_BOOSTS (R237). -/
def P.vlvBoosts : Param := { base := 0x0800011C }
/-- VLV_DET_VALID (R237). -/
def P.vlvDetValid : Param := { base := 0x08000120 }
/-- VLV_DET_NONE (R237). -/
def P.vlvDetNone : Param := { base := 0x08000124 }
/-- VLV_DET_GATED (R237). -/
def P.vlvDetGated : Param := { base := 0x08000128 }
/-- VLV_BOOST_TIMEOUTS (R237). -/
def P.vlvBoostTimeouts : Param := { base := 0x0800012C }
/-- VLV_FAULTS (R237). -/
def P.vlvFaults : Param := { base := 0x08000130 }
/-- VLV_CH_STATE (R237). -/
def P.vlvChState : Param := { base := 0x08010000, n1 := 384, s1 := 0x40 }
/-- VLV_D_NOW (R237). -/
def P.vlvDNow : Param := { base := 0x08010004, n1 := 384, s1 := 0x40, w := 13, mask := 0x1FFF }
/-- VLV_DHS_NOW (R237). -/
def P.vlvDhsNow : Param := { base := 0x08010008, n1 := 384, s1 := 0x40, w := 13, mask := 0x1FFF }
/-- VLV_D_LAST (R237). -/
def P.vlvDLast : Param := { base := 0x0801000C, n1 := 384, s1 := 0x40 }
/-- VLV_T_COIL (R237). -/
def P.vlvTCoil : Param := { base := 0x08010010, n1 := 384, s1 := 0x40, w := 16, mask := 0xFFFF, sg := true }
/-- VLV_CH_PULSES (R237). -/
def P.vlvChPulses : Param := { base := 0x08010014, n1 := 384, s1 := 0x40 }
/-- VLV_DCAL (R237). -/
def P.vlvDcal : Param := { base := 0x08010020, n1 := 384, s1 := 0x40, w := 13, mask := 0x1FFF }
/-- VLV_DHS_CAL (R237). -/
def P.vlvDhsCal : Param := { base := 0x08010024, n1 := 384, s1 := 0x40, w := 13, mask := 0x1FFF }
/-- VLV_DOFF (R237). -/
def P.vlvDoff : Param := { base := 0x08010028, n1 := 384, s1 := 0x40, w := 13, mask := 0x1FFF }
/-- VLV_AIR_LAT (R237). -/
def P.vlvAirLat : Param := { base := 0x0801002C, n1 := 384, s1 := 0x40, w := 13, mask := 0x1FFF }
/-- VLV_RES (R237). -/
def P.vlvRes : Param := { base := 0x08010030, n1 := 384, s1 := 0x40, w := 16, mask := 0xFFFF }
/-- VLV_L_OPEN (R237). -/
def P.vlvLOpen : Param := { base := 0x08010034, n1 := 384, s1 := 0x40, w := 16, mask := 0xFFFF }
/-- VLV_L_CLOSED (R237). -/
def P.vlvLClosed : Param := { base := 0x08010038, n1 := 384, s1 := 0x40, w := 16, mask := 0xFFFF }
/-- VLV_ISENSE (R237). -/
def P.vlvIsense : Param := { base := 0x0801003C, n1 := 384, s1 := 0x40, w := 18, mask := 0x3FFFF }
/-- VLV_P_EN (R237). -/
def P.vlvPEn : Param := { base := 0x08020000, n1 := 32, s1 := 0x40, w := 1, mask := 0x1, cls := .boot, rng := .lim (.c 0) (.c (1)) 1 }
/-- VLV_P_SRC (R237). -/
def P.vlvPSrc : Param := { base := 0x08020004, n1 := 32, s1 := 0x40, w := 6, mask := 0x3F, cls := .boot, rng := .lim (.c 0) (.c (63)) 1 }
/-- VLV_P_SET (R237). -/
def P.vlvPSet : Param := { base := 0x08020008, n1 := 32, s1 := 0x40, w := 12, mask := 0xFFF, cls := .dial, rng := .lim (.c 0) (.c (3000)) 1, per := true }
/-- VLV_P_FREQ (R237). -/
def P.vlvPFreq : Param := { base := 0x0802000C, n1 := 32, s1 := 0x40, w := 15, mask := 0x7FFF, cls := .boot, dflt := .c 2000, rng := .lim (.c (1000)) (.c (20000)) 1 }
/-- VLV_P_DITH_A (R237). -/
def P.vlvPDithA : Param := { base := 0x08020010, n1 := 32, s1 := 0x40, w := 10, mask := 0x3FF, cls := .dial, rng := .lim (.c 0) (.c (500)) 1, per := true }
/-- VLV_P_DITH_F (R237). -/
def P.vlvPDithF : Param := { base := 0x08020014, n1 := 32, s1 := 0x40, w := 9, mask := 0x1FF, cls := .boot, dflt := .c 100, rng := .lim (.c (25)) (.c (400)) 1, per := true }
/-- VLV_P_DITH_SHAPE (R237). -/
def P.vlvPDithShape : Param := { base := 0x08020018, n1 := 32, s1 := 0x40, w := 1, mask := 0x1, cls := .boot, rng := .lim (.c 0) (.c (1)) 1, per := true }
/-- VLV_P_RETRIES (R237). -/
def P.vlvPRetries : Param := { base := 0x0802001C, n1 := 32, s1 := 0x40, w := 4, mask := 0xF, cls := .boot, dflt := .c 3, rng := .lim (.c 0) (.c (15)) 1 }
/-- VLV_P_I_NOW (R237). -/
def P.vlvPINow : Param := { base := 0x08020020, n1 := 32, s1 := 0x40, w := 12, mask := 0xFFF }
/-- VLV_P_STATE (R237). -/
def P.vlvPState : Param := { base := 0x08020024, n1 := 32, s1 := 0x40, w := 8, mask := 0xFF }
/-- VLV_P_CLR (R237). -/
def P.vlvPClr : Param := { base := 0x08020028, n1 := 32, s1 := 0x40, w := 1, mask := 0x1, cls := .cmd, rng := .lim (.c (1)) (.c (1)) 1 }
/-- VLV_P_ISENSE (R237). -/
def P.vlvPIsense : Param := { base := 0x0802003C, n1 := 32, s1 := 0x40, w := 18, mask := 0x3FFFF }
/-- TOLL_C_BULK (R256). -/
def P.tollCBulk : Param := { base := 0x01000000, w := 20, mask := 0xFFFFF, cls := .boot, dflt := .c 4700, rng := .lim (.c (220)) (.c (1000000)) 1 }
/-- TOLL_V_SET (R256). -/
def P.tollVSet : Param := { base := 0x01000004, w := 16, mask := 0xFFFF, cls := .boot, dflt := .c 48000, rng := .lim (.c (40000)) (.c (56000)) 1 }
/-- TOLL_V_FLOOR (R256). -/
def P.tollVFloor : Param := { base := 0x01000008, w := 16, mask := 0xFFFF, cls := .boot, dflt := .c 42000, rng := .lim (.c 40000) (.p 0x1000004 false (1) (-1000)) 1 }
/-- TOLL_I_SUP (R256). -/
def P.tollISup : Param := { base := 0x0100000C, w := 16, mask := 0xFFFF, cls := .boot, dflt := .c 2000, rng := .lim (.c (100)) (.c (40000)) 1 }
/-- TOLL_Q_BOOST (R256). -/
def P.tollQBoost : Param := { base := 0x01000010, w := 14, mask := 0x3FFF, cls := .boot, dflt := .c 285, rng := .lim (.c (10)) (.c (10000)) 1 }
/-- TOLL_Q_MEAN (R256). -/
def P.tollQMean : Param := { base := 0x01000014, w := 14, mask := 0x3FFF, cls := .boot, dflt := .c 75, rng := .lim (.c (1)) (.c (10000)) 1 }
/-- TOLL_LO_I_SUP (R256). -/
def P.tollLoISup : Param := { base := 0x01000018, w := 16, mask := 0xFFFF, cls := .boot, dflt := .c 10000, rng := .lim (.c (100)) (.c (60000)) 1 }
/-- TOLL_E_HOLD (R256). -/
def P.tollEHold : Param := { base := 0x0100001C, w := 16, mask := 0xFFFF, cls := .boot, dflt := .c 10400, rng := .lim (.c (1)) (.c (65535)) 1 }
/-- TOLL_LOADA_MA (R256). -/
def P.tollLoadaMa : Param := { base := 0x01000020, w := 16, mask := 0xFFFF, cls := .boot, dflt := .c 40000, rng := .lim (.c (1000)) (.c (60000)) 1 }
/-- TOLL_LOADB_MA (R256). -/
def P.tollLoadbMa : Param := { base := 0x01000024, w := 16, mask := 0xFFFF, cls := .boot, dflt := .c 40000, rng := .lim (.c (1000)) (.c (60000)) 1 }
/-- TOLL_LOAD_NOM (R256). -/
def P.tollLoadNom : Param := { base := 0x01000028, w := 2, mask := 0x3, cls := .boot, dflt := .c 3, rng := .lim (.c 0) (.c (3)) 1 }
/-- TOLL_PANEL_MA (R256). -/
def P.tollPanelMa : Param := { base := 0x0100002C, w := 18, mask := 0x3FFFF, cls := .boot, rng := .lim (.c 0) (.c (200000)) 1 }
/-- TOLL_P_BASE (R256). -/
def P.tollPBase : Param := { base := 0x01000030, w := 17, mask := 0x1FFFF, cls := .boot, rng := .lim (.c 0) (.c (110000)) 1 }
/-- TOLL_P_TOWER (R256). -/
def P.tollPTower : Param := { base := 0x01000034, w := 16, mask := 0xFFFF, cls := .boot, dflt := .c 2000, rng := .lim (.c 0) (.c (20000)) 1 }
/-- TOLL_P_SCRUB (R256). -/
def P.tollPScrub : Param := { base := 0x01000038, w := 16, mask := 0xFFFF, cls := .boot, dflt := .c 1500, rng := .lim (.c 0) (.c (20000)) 1 }
/-- TOLL_P_GNSS_ACQ (R256). -/
def P.tollPGnssAcq : Param := { base := 0x0100003C, w := 16, mask := 0xFFFF, cls := .boot, dflt := .c 1200, rng := .lim (.c 0) (.c (20000)) 1 }
/-- TOLL_P_FLASH (R256). -/
def P.tollPFlash : Param := { base := 0x01000040, w := 16, mask := 0xFFFF, cls := .boot, dflt := .c 2500, rng := .lim (.c 0) (.c (20000)) 1 }
/-- TOLL_SAFETY_LSW (R256). -/
def P.tollSafetyLsw : Param := { base := 0x01000044, w := 24, mask := 0xFFFFFF, cls := .boot }
/-- TOLL_SAFETY_PV (R256). -/
def P.tollSafetyPv : Param := { base := 0x01000048, cls := .boot }
/-- TOLL_V_BULK (R256). -/
def P.tollVBulk : Param := { base := 0x01000100, w := 16, mask := 0xFFFF }
/-- TOLL_Q_AVAIL (R256). -/
def P.tollQAvail : Param := { base := 0x01000104, sg := true }
/-- TOLL_Q_RES (R256). -/
def P.tollQRes : Param := { base := 0x01000108 }
/-- TOLL_P_LOGIC (R256). -/
def P.tollPLogic : Param := { base := 0x0100010C, w := 17, mask := 0x1FFFF }
/-- TOLL_P_MODEL (R256). -/
def P.tollPModel : Param := { base := 0x01000110, w := 17, mask := 0x1FFFF }
/-- TOLL_P_CAP (R256). -/
def P.tollPCap : Param := { base := 0x01000114, w := 17, mask := 0x1FFFF }
/-- TOLL_LOADA_NOW (R256). -/
def P.tollLoadaNow : Param := { base := 0x01000118, w := 17, mask := 0x1FFFF }
/-- TOLL_LOADB_NOW (R256). -/
def P.tollLoadbNow : Param := { base := 0x0100011C, w := 17, mask := 0x1FFFF }
/-- TOLL_PANEL_NOW (R256). -/
def P.tollPanelNow : Param := { base := 0x01000120, w := 18, mask := 0x3FFFF }
/-- TOLL_STATE (R256). -/
def P.tollState : Param := { base := 0x01000124, w := 10, mask := 0x3FF }
/-- TOLL_FLAGS (R256). -/
def P.tollFlags : Param := { base := 0x01000128, w := 10, mask := 0x3FF, cls := .w1c }
/-- TOLL_GRANTS (R256). -/
def P.tollGrants : Param := { base := 0x01000140, n1 := 5, s1 := 0x4 }
/-- TOLL_WAITED (R256). -/
def P.tollWaited : Param := { base := 0x01000160, n1 := 5, s1 := 0x4 }
/-- TOLL_WAIT_MAX (R256). -/
def P.tollWaitMax : Param := { base := 0x01000180, n1 := 5, s1 := 0x4, w := 24, mask := 0xFFFFFF }
/-- TOLL_EXPIRED_1 (R256). -/
def P.tollExpired1 : Param := { base := 0x010001A0 }
/-- TOLL_HOLDUPS (R256). -/
def P.tollHoldups : Param := { base := 0x010001A4 }
/-- TOLL_CRANKS (R256). -/
def P.tollCranks : Param := { base := 0x010001A8 }
/-- TOLL_CLR (R256). -/
def P.tollClr : Param := { base := 0x010001B0, w := 1, mask := 0x1, cls := .cmd, rng := .lim (.c (1)) (.c (1)) 1 }
/-- LSW_EN (R272). -/
def P.lswEn : Param := { base := 0x09000000, w := 24, mask := 0xFFFFFF, cls := .boot }
/-- LSW_UV_A (R272). -/
def P.lswUvA : Param := { base := 0x09000004, w := 16, mask := 0xFFFF, cls := .boot, rng := .or0 6000 30000 }
/-- LSW_UV_B (R272). -/
def P.lswUvB : Param := { base := 0x09000008, w := 16, mask := 0xFFFF, cls := .boot, rng := .or0 6000 30000 }
/-- LSW_UV_OFF_MS (R272). -/
def P.lswUvOffMs : Param := { base := 0x0900000C, w := 14, mask := 0x3FFF, cls := .boot, dflt := .c 500, rng := .lim (.c (10)) (.c (10000)) 1 }
/-- LSW_VA_NOW (R272). -/
def P.lswVaNow : Param := { base := 0x09000100, w := 16, mask := 0xFFFF }
/-- LSW_VB_NOW (R272). -/
def P.lswVbNow : Param := { base := 0x09000104, w := 16, mask := 0xFFFF }
/-- LSW_FLAGS (R272). -/
def P.lswFlags : Param := { base := 0x09000108, w := 5, mask := 0x1F, cls := .w1c }
/-- LSW_CLR (R272). -/
def P.lswClr : Param := { base := 0x0900010C, w := 16, mask := 0x801F, cls := .cmd, rng := .sp .lswClr }
/-- LSW_TRIPS (R272). -/
def P.lswTrips : Param := { base := 0x09000110 }
/-- LSW_HARD_SHORTS (R272). -/
def P.lswHardShorts : Param := { base := 0x09000114 }
/-- LSW_RETRIES_DONE (R272). -/
def P.lswRetriesDone : Param := { base := 0x09000118 }
/-- LSW_THERMALS (R272). -/
def P.lswThermals : Param := { base := 0x0900011C }
/-- LSW_UV_OFFS (R272). -/
def P.lswUvOffs : Param := { base := 0x09000120 }
/-- LSW_ON (R272). -/
def P.lswOn : Param := { base := 0x09010000, n1 := 24, s1 := 0x80, w := 1, mask := 0x1, cls := .dial, rng := .lim (.c 0) (.c (1)) 1, per := true }
/-- LSW_SRC (R272). -/
def P.lswSrc : Param := { base := 0x09010004, n1 := 24, s1 := 0x80, w := 6, mask := 0x3F, cls := .boot, rng := .lim (.c 0) (.c (63)) 1 }
/-- LSW_FREQ (R272). -/
def P.lswFreq : Param := { base := 0x09010008, n1 := 24, s1 := 0x80, w := 9, mask := 0x1FF, cls := .boot, rng := .or0 10 400 }
/-- LSW_DUTY (R272). -/
def P.lswDuty : Param := { base := 0x0901000C, n1 := 24, s1 := 0x80, w := 10, mask := 0x3FF, cls := .dial, dflt := .c 1000, rng := .lim (.c 0) (.c (1000)) 1, per := true }
/-- LSW_COMP (R272). -/
def P.lswComp : Param := { base := 0x09010010, n1 := 24, s1 := 0x80, w := 2, mask := 0x3, cls := .boot, rng := .lim (.c 0) (.c (2)) 1, per := true }
/-- LSW_VREF (R272). -/
def P.lswVref : Param := { base := 0x09010014, n1 := 24, s1 := 0x80, w := 16, mask := 0xFFFF, cls := .boot, rng := .or0 6000 32000 }
/-- LSW_I_TRIP (R272). -/
def P.lswITrip : Param := { base := 0x09010018, n1 := 24, s1 := 0x80, w := 16, mask := 0xFFFF, cls := .boot, dflt := .split 8 16500 5500, rng := .split 8 (.c 500) (.c 18000) (.c 200) (.c 6000) }
/-- LSW_T_TRIP (R272). -/
def P.lswTTrip : Param := { base := 0x0901001C, n1 := 24, s1 := 0x80, w := 10, mask := 0x3FF, cls := .boot, dflt := .c 10, rng := .lim (.c (1)) (.c (1000)) 1 }
/-- LSW_I_INRUSH (R272). -/
def P.lswIInrush : Param := { base := 0x09010020, n1 := 24, s1 := 0x80, w := 16, mask := 0xFFFF, cls := .boot, dflt := .split 8 45000 15000, rng := .split 8 (.p 0x9010018 true (1) (0)) (.c 45000) (.p 0x9010018 true (1) (0)) (.c 15000) }
/-- LSW_T_INRUSH (R272). -/
def P.lswTInrush : Param := { base := 0x09010024, n1 := 24, s1 := 0x80, w := 11, mask := 0x7FF, cls := .boot, dflt := .c 20, rng := .lim (.c 0) (.c (2000)) 1 }
/-- LSW_I_ALLOW (R272). -/
def P.lswIAllow : Param := { base := 0x09010028, n1 := 24, s1 := 0x80, w := 16, mask := 0xFFFF, cls := .boot, dflt := .split 8 15000 5000, rng := .lim (.c 0) (.p 0x9010020 true (1) (0)) 1 }
/-- LSW_I_STEADY (R272). -/
def P.lswISteady : Param := { base := 0x0901002C, n1 := 24, s1 := 0x80, w := 16, mask := 0xFFFF, cls := .boot, dflt := .split 8 15000 5000, rng := .lim (.c 0) (.p 0x9010018 true (1) (0)) 1 }
/-- LSW_RETRIES (R272). -/
def P.lswRetries : Param := { base := 0x09010030, n1 := 24, s1 := 0x80, w := 4, mask := 0xF, cls := .boot, dflt := .c 3, rng := .lim (.c 0) (.c (15)) 1 }
/-- LSW_RETRY_MS (R272). -/
def P.lswRetryMs : Param := { base := 0x09010034, n1 := 24, s1 := 0x80, w := 16, mask := 0xFFFF, cls := .boot, dflt := .c 1000, rng := .lim (.c (10)) (.c (60000)) 1 }
/-- LSW_I_OPEN (R272). -/
def P.lswIOpen : Param := { base := 0x09010038, n1 := 24, s1 := 0x80, w := 16, mask := 0xFFFF, cls := .boot, rng := .lim (.c 0) (.c (5000)) 1 }
/-- LSW_OV_OFF (R272). -/
def P.lswOvOff : Param := { base := 0x0901003C, n1 := 24, s1 := 0x80, w := 1, mask := 0x1, cls := .boot, rng := .lim (.c 0) (.c (1)) 1 }
/-- LSW_STATE (R272). -/
def P.lswState : Param := { base := 0x09010040, n1 := 24, s1 := 0x80, w := 8, mask := 0xFF }
/-- LSW_I_NOW (R272). -/
def P.lswINow : Param := { base := 0x09010044, n1 := 24, s1 := 0x80, w := 17, mask := 0x1FFFF }
/-- LSW_DUTY_NOW (R272). -/
def P.lswDutyNow : Param := { base := 0x09010048, n1 := 24, s1 := 0x80, w := 10, mask := 0x3FF }
/-- LSW_T_DIE (R272). -/
def P.lswTDie : Param := { base := 0x0901004C, n1 := 24, s1 := 0x80, w := 16, mask := 0xFFFF, sg := true }
/-- LSW_RETRY_NOW (R272). -/
def P.lswRetryNow : Param := { base := 0x09010050, n1 := 24, s1 := 0x80, w := 4, mask := 0xF }
/-- LSW_ISENSE (R272). -/
def P.lswIsense : Param := { base := 0x09010054, n1 := 24, s1 := 0x80, w := 18, mask := 0x3FFFF }
/-- LSW_CH_TRIPS (R272). -/
def P.lswChTrips : Param := { base := 0x09010058, n1 := 24, s1 := 0x80 }
/-- LOOP_EN_LO (R296). -/
def P.loopEnLo : Param := { base := 0x0A000000, mask := 0xFFFFFFFE, cls := .boot }
/-- LOOP_EN_HI (R296). -/
def P.loopEnHi : Param := { base := 0x0A000004, cls := .boot }
/-- LOOP_FLAGS (R296). -/
def P.loopFlags : Param := { base := 0x0A000008, w := 3, mask := 0x7, cls := .w1c }
/-- LOOP_FALLBACKS (R296). -/
def P.loopFallbacks : Param := { base := 0x0A00000C }
/-- LOOP_TICKS (R296). -/
def P.loopTicks : Param := { base := 0x0A000010 }
/-- LOOP_TR_CFG (R296). -/
def P.loopTrCfg : Param := { base := 0x0A000100, n1 := 8, s1 := 0x20, cls := .boot, rng := .sp .loopTrCfg }
/-- LOOP_TR_TRIG (R296). -/
def P.loopTrTrig : Param := { base := 0x0A000104, n1 := 8, s1 := 0x20, mask := 0xFFFF007F, cls := .dial, rng := .sp .loopTrTrig }
/-- LOOP_TR_LEVEL (R296). -/
def P.loopTrLevel : Param := { base := 0x0A000108, n1 := 8, s1 := 0x20, cls := .dial }
/-- LOOP_TR_CMD (R296). -/
def P.loopTrCmd : Param := { base := 0x0A00010C, n1 := 8, s1 := 0x20, w := 2, mask := 0x3, cls := .cmd, rng := .lim (.c (1)) (.c (3)) 1 }
/-- LOOP_TR_STATE (R296). -/
def P.loopTrState : Param := { base := 0x0A000110, n1 := 8, s1 := 0x20, w := 2, mask := 0x3 }
/-- LOOP_TR_T0 (R296). -/
def P.loopTrT0 : Param := { base := 0x0A000114, n1 := 8, s1 := 0x20 }
/-- LOOP_TR_FIRST (R296). -/
def P.loopTrFirst : Param := { base := 0x0A000118, n1 := 8, s1 := 0x20, w := 12, mask := 0xFFF }
/-- LOOP_TR_SEQ (R296). -/
def P.loopTrSeq : Param := { base := 0x0A00011C, n1 := 8, s1 := 0x20 }
/-- LOOP_MODE (R296). -/
def P.loopMode : Param := { base := 0x0A010000, n1 := 64, s1 := 0x80, i0 := 1, w := 2, mask := 0x3, cls := .dial, rng := .lim (.c 0) (.c (2)) 1, per := true }
/-- LOOP_PERIOD (R296). -/
def P.loopPeriod : Param := { base := 0x0A010004, n1 := 64, s1 := 0x80, i0 := 1, w := 8, mask := 0xFF, cls := .boot, dflt := .c 20, rng := .lim (.c (1)) (.c (200)) 1 }
/-- LOOP_PHASE (R296). -/
def P.loopPhase : Param := { base := 0x0A010008, n1 := 64, s1 := 0x80, i0 := 1, w := 8, mask := 0xFF, cls := .boot, rng := .lim (.c 0) (.p 0xA010004 true (1) (-1)) 1 }
/-- LOOP_SRC_M (R296). -/
def P.loopSrcM : Param := { base := 0x0A01000C, n1 := 64, s1 := 0x80, i0 := 1, w := 16, mask := 0xFFFF, cls := .boot, rng := .sp .loopSrc }
/-- LOOP_SRC_R (R296). -/
def P.loopSrcR : Param := { base := 0x0A010010, n1 := 64, s1 := 0x80, i0 := 1, w := 16, mask := 0xFFFF, cls := .boot, rng := .sp .loopSrc }
/-- LOOP_SRC_X (R296). -/
def P.loopSrcX : Param := { base := 0x0A010014, n1 := 64, s1 := 0x80, i0 := 1, w := 16, mask := 0xFFFF, cls := .boot, rng := .sp .loopSrc }
/-- LOOP_SET (R296). -/
def P.loopSet : Param := { base := 0x0A010018, n1 := 64, s1 := 0x80, i0 := 1, sg := true, cls := .dial, per := true }
/-- LOOP_MANUAL (R296). -/
def P.loopManual : Param := { base := 0x0A01001C, n1 := 64, s1 := 0x80, i0 := 1, sg := true, cls := .dial, per := true }
/-- LOOP_KP (R296). -/
def P.loopKp : Param := { base := 0x0A010020, n1 := 64, s1 := 0x80, i0 := 1, sg := true, cls := .dial, per := true }
/-- LOOP_KI (R296). -/
def P.loopKi : Param := { base := 0x0A010024, n1 := 64, s1 := 0x80, i0 := 1, sg := true, cls := .dial, per := true }
/-- LOOP_KD (R296). -/
def P.loopKd : Param := { base := 0x0A010028, n1 := 64, s1 := 0x80, i0 := 1, sg := true, cls := .dial, per := true }
/-- LOOP_KN (R296). -/
def P.loopKn : Param := { base := 0x0A01002C, n1 := 64, s1 := 0x80, i0 := 1, sg := true, cls := .dial, per := true }
/-- LOOP_KFR (R296). -/
def P.loopKfr : Param := { base := 0x0A010030, n1 := 64, s1 := 0x80, i0 := 1, sg := true, cls := .dial, per := true }
/-- LOOP_KFX (R296). -/
def P.loopKfx : Param := { base := 0x0A010034, n1 := 64, s1 := 0x80, i0 := 1, sg := true, cls := .dial, per := true }
/-- LOOP_SHIFTS (R296). -/
def P.loopShifts : Param := { base := 0x0A010038, n1 := 64, s1 := 0x80, i0 := 1, w := 30, mask := 0x3FFFFFFF, cls := .boot, per := true }
/-- LOOP_I_MIN (R296). -/
def P.loopIMin : Param := { base := 0x0A01003C, n1 := 64, s1 := 0x80, i0 := 1, sg := true, cls := .boot, dflt := .c (-2147483648), rng := .lim (.c (-2147483648)) (.p 0xA010040 true (1) (0)) 1, per := true }
/-- LOOP_I_MAX (R296). -/
def P.loopIMax : Param := { base := 0x0A010040, n1 := 64, s1 := 0x80, i0 := 1, sg := true, cls := .boot, dflt := .c 2147483647, rng := .lim (.p 0xA01003C true (1) (0)) (.c 2147483647) 1, per := true }
/-- LOOP_U_MIN (R296). -/
def P.loopUMin : Param := { base := 0x0A010044, n1 := 64, s1 := 0x80, i0 := 1, sg := true, cls := .boot, rng := .lim (.c (-2147483648)) (.p 0xA010048 true (1) (0)) 1, per := true }
/-- LOOP_U_MAX (R296). -/
def P.loopUMax : Param := { base := 0x0A010048, n1 := 64, s1 := 0x80, i0 := 1, sg := true, cls := .boot, rng := .lim (.p 0xA010044 true (1) (0)) (.c 2147483647) 1, per := true }
/-- LOOP_U_SLEW (R296). -/
def P.loopUSlew : Param := { base := 0x0A01004C, n1 := 64, s1 := 0x80, i0 := 1, w := 31, mask := 0x7FFFFFFF, cls := .boot, per := true }
/-- LOOP_DEADBAND (R296). -/
def P.loopDeadband : Param := { base := 0x0A010050, n1 := 64, s1 := 0x80, i0 := 1, w := 31, mask := 0x7FFFFFFF, cls := .dial, per := true }
/-- LOOP_BIAS (R296). -/
def P.loopBias : Param := { base := 0x0A010054, n1 := 64, s1 := 0x80, i0 := 1, sg := true, cls := .dial, per := true }
/-- LOOP_MAX_AGE (R296). -/
def P.loopMaxAge : Param := { base := 0x0A010058, n1 := 64, s1 := 0x80, i0 := 1, w := 16, mask := 0xFFFF, cls := .boot, rng := .lim (.c 0) (.c (65535)) 1 }
/-- LOOP_FALLBACK (R296). -/
def P.loopFallback : Param := { base := 0x0A01005C, n1 := 64, s1 := 0x80, i0 := 1, w := 1, mask := 0x1, cls := .boot, rng := .lim (.c 0) (.c (1)) 1, per := true }
/-- LOOP_U_SAFE (R296). -/
def P.loopUSafe : Param := { base := 0x0A010060, n1 := 64, s1 := 0x80, i0 := 1, sg := true, cls := .boot, rng := .lim (.p 0xA010044 true (1) (0)) (.p 0xA010048 true (1) (0)) 1, per := true }
/-- LOOP_TBL (R296). -/
def P.loopTbl : Param := { base := 0x0A010064, n1 := 64, s1 := 0x80, i0 := 1, mask := 0xFC1FFFFF, cls := .boot, rng := .sp .loopTbl }
/-- LOOP_SRC_P (R296). -/
def P.loopSrcP : Param := { base := 0x0A010068, n1 := 64, s1 := 0x80, i0 := 1, w := 16, mask := 0xFFFF, cls := .boot, rng := .sp .loopSrc }
/-- LOOP_K_T (R296). -/
def P.loopKT : Param := { base := 0x0A01006C, n1 := 64, s1 := 0x80, i0 := 1, sg := true, cls := .boot }
/-- LOOP_TBL_ORG (R296). -/
def P.loopTblOrg : Param := { base := 0x0A010070, n1 := 64, s1 := 0x80, i0 := 1, sg := true, cls := .boot }
/-- LOOP_TBL_VDB (R296). -/
def P.loopTblVdb : Param := { base := 0x0A010074, n1 := 64, s1 := 0x80, i0 := 1, w := 31, mask := 0x7FFFFFFF, cls := .boot }
/-- LOOP_U_NOW (R296). -/
def P.loopUNow : Param := { base := 0x0A010078, n1 := 64, s1 := 0x80, i0 := 1, sg := true }
/-- LOOP_STATE (R296). -/
def P.loopState : Param := { base := 0x0A01007C, n1 := 64, s1 := 0x80, i0 := 1, w := 4, mask := 0xF }
/-- LOOP_M_NOW (R296). -/
def P.loopMNow : Param := { base := 0x0A020000, n1 := 64, s1 := 0x20, i0 := 1, sg := true }
/-- LOOP_R_NOW (R296). -/
def P.loopRNow : Param := { base := 0x0A020004, n1 := 64, s1 := 0x20, i0 := 1, sg := true }
/-- LOOP_E_NOW (R296). -/
def P.loopENow : Param := { base := 0x0A020008, n1 := 64, s1 := 0x20, i0 := 1, sg := true }
/-- LOOP_I_NOW (R296). -/
def P.loopINow : Param := { base := 0x0A02000C, n1 := 64, s1 := 0x20, i0 := 1, sg := true }
/-- LOOP_AGE_NOW (R296). -/
def P.loopAgeNow : Param := { base := 0x0A020010, n1 := 64, s1 := 0x20, i0 := 1 }
/-- LOOP_Q (R296). -/
def P.loopQ : Param := { base := 0x0A020014, n1 := 64, s1 := 0x20, i0 := 1, w := 6, mask := 0x3F }
/-- LOOP_TABLE (R296). -/
def P.loopTable : Param := { base := 0x0A100000, n1 := 8, s1 := 0x1000, n2 := 1024, sg := true, cls := .boot, tbl := true }
/-- LOOP_TR_DATA (R296). -/
def P.loopTrData : Param := { base := 0x0A200000, n1 := 8, s1 := 0x4000, n2 := 4096 }
/-- AIN_MODE (R297). -/
def P.ainMode : Param := { base := 0x0B010000, n1 := 32, s1 := 0x40, w := 2, mask := 0x3, cls := .boot, rng := .lim (.c 0) (.c (2)) 1 }
/-- AIN_RATE (R297). -/
def P.ainRate : Param := { base := 0x0B010004, n1 := 32, s1 := 0x40, w := 2, mask := 0x3, cls := .boot, rng := .lim (.c 0) (.c (2)) 1 }
/-- AIN_LOW_UA (R297). -/
def P.ainLowUa : Param := { base := 0x0B010008, n1 := 32, s1 := 0x40, w := 15, mask := 0x7FFF, cls := .boot, rng := .lim (.c 0) (.c (20000)) 1 }
/-- AIN_HIT_THR (R297). -/
def P.ainHitThr : Param := { base := 0x0B01000C, n1 := 32, s1 := 0x40, w := 16, mask := 0xFFFF, cls := .dial, dflt := .c 3200, rng := .lim (.p 0xB010010 true (1) (0)) (.c 32767) 1, per := true }
/-- AIN_HIT_REARM (R297). -/
def P.ainHitRearm : Param := { base := 0x0B010010, n1 := 32, s1 := 0x40, w := 16, mask := 0xFFFF, cls := .dial, dflt := .c 1600, rng := .lim (.c 0) (.p 0xB01000C true (1) (0)) 1, per := true }
/-- AIN_HIT_DEAD (R297). -/
def P.ainHitDead : Param := { base := 0x0B010014, n1 := 32, s1 := 0x40, w := 16, mask := 0xFFFF, cls := .boot, dflt := .c 200, rng := .lim (.c (5)) (.c (65535)) 1 }
/-- AIN_HIT_WIN (R297). -/
def P.ainHitWin : Param := { base := 0x0B010018, n1 := 32, s1 := 0x40, w := 14, mask := 0x3FFF, cls := .boot, dflt := .c 1000, rng := .lim (.c (10)) (.c (10000)) 1 }
/-- AIN_VAL_NOW (R297). -/
def P.ainValNow : Param := { base := 0x0B010020, n1 := 32, s1 := 0x40, sg := true }
/-- AIN_HITS_TOTAL (R297). -/
def P.ainHitsTotal : Param := { base := 0x0B010024, n1 := 32, s1 := 0x40 }
/-- AIN_STATE (R297). -/
def P.ainState : Param := { base := 0x0B010028, n1 := 32, s1 := 0x40, w := 5, mask := 0x1F }
/-- AIN_GAIN (R297). -/
def P.ainGain : Param := { base := 0x0B010030, n1 := 32, s1 := 0x40, w := 18, mask := 0x3FFFF }
/-- AIN_OFS (R297). -/
def P.ainOfs : Param := { base := 0x0B010034, n1 := 32, s1 := 0x40, w := 16, mask := 0xFFFF, sg := true }
/-- AIN_ENC_CFG (R297). -/
def P.ainEncCfg : Param := { base := 0x0B020000, n1 := 8, s1 := 0x40, w := 10, mask := 0x3FF, cls := .boot, rng := .sp .encCfg }
/-- AIN_ENC_VWIN (R297). -/
def P.ainEncVwin : Param := { base := 0x0B020004, n1 := 8, s1 := 0x40, w := 8, mask := 0xFF, cls := .boot, dflt := .c 20, rng := .lim (.c (1)) (.c (200)) 1 }
/-- AIN_ENC_POS (R297). -/
def P.ainEncPos : Param := { base := 0x0B020008, n1 := 8, s1 := 0x40 }
/-- AIN_ENC_VEL (R297). -/
def P.ainEncVel : Param := { base := 0x0B02000C, n1 := 8, s1 := 0x40 }
/-- AIN_ENC_ZPOS (R297). -/
def P.ainEncZpos : Param := { base := 0x0B020010, n1 := 8, s1 := 0x40 }
/-- AIN_ENC_ERRS (R297). -/
def P.ainEncErrs : Param := { base := 0x0B020014, n1 := 8, s1 := 0x40 }
/-- AIN_FRQ_CFG (R297). -/
def P.ainFrqCfg : Param := { base := 0x0B030000, n1 := 16, s1 := 0x20, w := 9, mask := 0x1FF, cls := .boot, rng := .sp .frqCfg }
/-- AIN_FRQ_WIN (R297). -/
def P.ainFrqWin : Param := { base := 0x0B030004, n1 := 16, s1 := 0x20, w := 10, mask := 0x3FF, cls := .boot, dflt := .c 100, rng := .lim (.c (1)) (.c (1000)) 1 }
/-- AIN_FRQ_ZERO_MS (R297). -/
def P.ainFrqZeroMs : Param := { base := 0x0B030008, n1 := 16, s1 := 0x20, w := 16, mask := 0xFFFF, cls := .boot, dflt := .c 2000, rng := .lim (.c (10)) (.c (60000)) 1 }
/-- AIN_FRQ_NOW (R297). -/
def P.ainFrqNow : Param := { base := 0x0B03000C, n1 := 16, s1 := 0x20, w := 27, mask := 0x7FFFFFF }
/-- AIN_FRQ_EDGES (R297). -/
def P.ainFrqEdges : Param := { base := 0x0B030010, n1 := 16, s1 := 0x20 }
/-- GNSS_SIGNALS (R319). -/
def P.gnssSignals : Param := { base := 0x0C000000, w := 8, mask := 0xFF, cls := .boot, dflt := .c 255 }
/-- GNSS_RATE (R319). -/
def P.gnssRate : Param := { base := 0x0C000004, w := 2, mask := 0x3, cls := .boot, dflt := .c 3, rng := .lim (.c 0) (.c (3)) 1 }
/-- GNSS_ELEV_MASK (R319). -/
def P.gnssElevMask : Param := { base := 0x0C000008, w := 7, mask := 0x7F, cls := .boot, dflt := .c 10, rng := .lim (.c 0) (.c (60)) 1 }
/-- GNSS_CN0_MASK (R319). -/
def P.gnssCn0Mask : Param := { base := 0x0C00000C, w := 6, mask := 0x3F, cls := .boot, dflt := .c 30, rng := .lim (.c (20)) (.c (45)) 1 }
/-- GNSS_SIG0 (R319). -/
def P.gnssSig0 : Param := { base := 0x0C000010, w := 12, mask := 0xFFF, cls := .boot, dflt := .c 500, rng := .lim (.c (100)) (.c (4000)) 1 }
/-- GNSS_RES_THR (R319). -/
def P.gnssResThr : Param := { base := 0x0C000014, w := 12, mask := 0xFFF, cls := .boot, dflt := .c 768, rng := .lim (.c (256)) (.c (4095)) 1 }
/-- GNSS_EXCL_MAX (R319). -/
def P.gnssExclMax : Param := { base := 0x0C000018, w := 2, mask := 0x3, cls := .boot, dflt := .c 2, rng := .lim (.c 0) (.c (3)) 1 }
/-- GNSS_EXCL_HOLD_S (R319). -/
def P.gnssExclHoldS : Param := { base := 0x0C00001C, w := 10, mask := 0x3FF, cls := .boot, dflt := .c 60, rng := .lim (.c (1)) (.c (1023)) 1 }
/-- GNSS_MIN_SV (R319). -/
def P.gnssMinSv : Param := { base := 0x0C000020, w := 4, mask := 0xF, cls := .boot, dflt := .c 5, rng := .lim (.c (4)) (.c (12)) 1 }
/-- GNSS_OSC_K (R319). -/
def P.gnssOscK : Param := { base := 0x0C000024, w := 12, mask := 0xFFF, cls := .boot, dflt := .c 256, rng := .lim (.c (256)) (.c (4095)) 1 }
/-- GNSS_OSC_FLOOR (R319). -/
def P.gnssOscFloor : Param := { base := 0x0C000028, w := 16, mask := 0xFFFF, cls := .boot, dflt := .c 300, rng := .lim (.c (50)) (.c (65535)) 1 }
/-- GNSS_DRIFT_MAX (R319). -/
def P.gnssDriftMax : Param := { base := 0x0C00002C, w := 13, mask := 0x1FFF, cls := .boot, dflt := .c 5000, rng := .lim (.c (500)) (.c (8000)) 1 }
/-- GNSS_TRUST_N (R319). -/
def P.gnssTrustN : Param := { base := 0x0C000030, w := 6, mask := 0x3F, cls := .boot, dflt := .c 10, rng := .lim (.c (3)) (.c (63)) 1 }
/-- GNSS_LOSS_MS (R319). -/
def P.gnssLossMs : Param := { base := 0x0C000034, w := 14, mask := 0x3FFF, cls := .boot, dflt := .c 1500, rng := .lim (.c (200)) (.c (10000)) 1 }
/-- GNSS_MP_MODE (R319). -/
def P.gnssMpMode : Param := { base := 0x0C000038, w := 1, mask := 0x1, cls := .boot, dflt := .c 1, rng := .lim (.c 0) (.c (1)) 1 }
/-- GNSS_NARROW (R319). -/
def P.gnssNarrow : Param := { base := 0x0C00003C, w := 16, mask := 0xFFFF, cls := .boot, dflt := .c 0x401A, rng := .sp .gnssNarrow }
/-- GNSS_PLL_BW (R319). -/
def P.gnssPllBw : Param := { base := 0x0C000040, w := 6, mask := 0x3F, cls := .boot, dflt := .c 10, rng := .lim (.c (2)) (.c (40)) 1 }
/-- GNSS_DLL_BW (R319). -/
def P.gnssDllBw : Param := { base := 0x0C000044, w := 8, mask := 0xFF, cls := .boot, dflt := .c 100, rng := .lim (.c (5)) (.c (255)) 1 }
/-- GNSS_DIFF_AGE_MAX (R319). -/
def P.gnssDiffAgeMax : Param := { base := 0x0C000048, w := 8, mask := 0xFF, cls := .boot, dflt := .c 30, rng := .lim (.c (1)) (.c (255)) 1 }
/-- GNSS_DIFF_SRC (R319). -/
def P.gnssDiffSrc : Param := { base := 0x0C00004C, w := 2, mask := 0x3, cls := .boot, dflt := .c 3, rng := .lim (.c 0) (.c (3)) 1 }
/-- GNSS_ACQ_MAX_MS (R319). -/
def P.gnssAcqMaxMs : Param := { base := 0x0C000050, w := 16, mask := 0xFFFF, cls := .boot, dflt := .c 2000, rng := .lim (.c (100)) (.c (60000)) 1 }
/-- GNSS_ACQ_EVERY_S (R319). -/
def P.gnssAcqEveryS : Param := { base := 0x0C000054, w := 8, mask := 0xFF, cls := .boot, dflt := .c 5, rng := .lim (.c (1)) (.c (255)) 1 }
/-- GNSS_KT_OFS (R319). -/
def P.gnssKtOfs : Param := { base := 0x0C000058, w := 10, mask := 0x3FF, cls := .boot, dflt := .c 100, rng := .lim (.c 0) (.c (960)) 1 }
/-- GNSS_KT_MIN_SV (R319). -/
def P.gnssKtMinSv : Param := { base := 0x0C00005C, w := 4, mask := 0xF, cls := .boot, dflt := .c 3, rng := .lim (.c (2)) (.c (8)) 1 }
/-- GNSS_KT_POS_ERR (R319). -/
def P.gnssKtPosErr : Param := { base := 0x0C000060, w := 16, mask := 0xFFFF, cls := .boot, dflt := .c 1000, rng := .lim (.c (10)) (.c (65535)) 1 }
/-- GNSS_POS_HOLD_MS (R319). -/
def P.gnssPosHoldMs : Param := { base := 0x0C000064, w := 16, mask := 0xFFFF, cls := .boot, dflt := .c 1000, rng := .lim (.c 0) (.c (60000)) 1 }
/-- GNSS_KT_POS_VALID (R319). -/
def P.gnssKtPosValid : Param := { base := 0x0C000068, w := 1, mask := 0x1, cls := .boot, rng := .lim (.c 0) (.c (1)) 1, per := true }
/-- GNSS_ANT_V (R319). -/
def P.gnssAntV : Param := { base := 0x0C00006C, w := 2, mask := 0x3, cls := .boot, dflt := .c 2, rng := .lim (.c 0) (.c (2)) 1 }
/-- GNSS_H_ERR_MAX (R319). -/
def P.gnssHErrMax : Param := { base := 0x0C000070, w := 16, mask := 0xFFFF, cls := .boot, dflt := .c 1000, rng := .lim (.c 0) (.c (65535)) 1 }
/-- GNSS_ACCEPT (R319). -/
def P.gnssAccept : Param := { base := 0x0C000080, w := 1, mask := 0x1, cls := .cmd, rng := .lim (.c (1)) (.c (1)) 1, svc := true }
/-- GNSS_COLD (R319). -/
def P.gnssCold : Param := { base := 0x0C000084, w := 1, mask := 0x1, cls := .cmd, rng := .lim (.c (1)) (.c (1)) 1, svc := true }
/-- GNSS_STATE (R319). -/
def P.gnssState : Param := { base := 0x0C000100, w := 16, mask := 0xFFFF }
/-- GNSS_FIX_SEQ (R319). -/
def P.gnssFixSeq : Param := { base := 0x0C000104 }
/-- GNSS_FIX_T (R319). -/
def P.gnssFixT : Param := { base := 0x0C000108 }
/-- GNSS_LAT (R319). -/
def P.gnssLat : Param := { base := 0x0C00010C, sg := true }
/-- GNSS_LON (R319). -/
def P.gnssLon : Param := { base := 0x0C000110, sg := true }
/-- GNSS_HGT (R319). -/
def P.gnssHgt : Param := { base := 0x0C000114, sg := true }
/-- GNSS_VEL_N (R319). -/
def P.gnssVelN : Param := { base := 0x0C000118, sg := true }
/-- GNSS_VEL_E (R319). -/
def P.gnssVelE : Param := { base := 0x0C00011C, sg := true }
/-- GNSS_VEL_U (R319). -/
def P.gnssVelU : Param := { base := 0x0C000120, sg := true }
/-- GNSS_ERR (R319). -/
def P.gnssErr : Param := { base := 0x0C000124 }
/-- GNSS_DOP (R319). -/
def P.gnssDop : Param := { base := 0x0C000128 }
/-- GNSS_NSV (R319). -/
def P.gnssNsv : Param := { base := 0x0C00012C, w := 24, mask := 0xFFFFFF }
/-- GNSS_T_SEC_LO (R319). -/
def P.gnssTSecLo : Param := { base := 0x0C000130 }
/-- GNSS_T_SEC_HI (R319). -/
def P.gnssTSecHi : Param := { base := 0x0C000134, w := 16, mask := 0xFFFF }
/-- GNSS_T_NS (R319). -/
def P.gnssTNs : Param := { base := 0x0C000138, w := 30, mask := 0x3FFFFFFF }
/-- GNSS_T_ERR (R319). -/
def P.gnssTErr : Param := { base := 0x0C00013C, w := 16, mask := 0xFFFF }
/-- GNSS_LEAP (R319). -/
def P.gnssLeap : Param := { base := 0x0C000140, w := 9, mask := 0x1FF }
/-- GNSS_OSC_DELTA (R319). -/
def P.gnssOscDelta : Param := { base := 0x0C000144, sg := true }
/-- GNSS_DRIFT (R319). -/
def P.gnssDrift : Param := { base := 0x0C000148, sg := true }
/-- GNSS_TTFF (R319). -/
def P.gnssTtff : Param := { base := 0x0C00014C, w := 24, mask := 0xFFFFFF }
/-- GNSS_FLAGS (R319). -/
def P.gnssFlags : Param := { base := 0x0C000150, w := 6, mask := 0x3F, cls := .w1c }
/-- GNSS_FIXES (R319). -/
def P.gnssFixes : Param := { base := 0x0C000154 }
/-- GNSS_EXCLUSIONS (R319). -/
def P.gnssExclusions : Param := { base := 0x0C000158 }
/-- GNSS_UNTRUSTED (R319). -/
def P.gnssUntrusted : Param := { base := 0x0C00015C }
/-- GNSS_LOSSES (R319). -/
def P.gnssLosses : Param := { base := 0x0C000160 }
/-- GNSS_ACQ_SESSIONS (R319). -/
def P.gnssAcqSessions : Param := { base := 0x0C000164 }
/-- GNSS_BURSTS (R319). -/
def P.gnssBursts : Param := { base := 0x0C000168 }
/-- GNSS_DLY_NOW (R319). -/
def P.gnssDlyNow : Param := { base := 0x0C000200, w := 16, mask := 0xFFFF }
/-- GNSS_DLY_L5_NOW (R319). -/
def P.gnssDlyL5Now : Param := { base := 0x0C000204, w := 16, mask := 0xFFFF, sg := true }
/-- GNSS_CH (R319). -/
def P.gnssCh : Param := { base := 0x0C001000, n1 := 256, s1 := 0x4, sg := true }
/-- TIME_SRC_ORDER (R344). -/
def P.timeSrcOrder : Param := { base := 0x0D000000, w := 2, mask := 0x3, cls := .boot, rng := .lim (.c 0) (.c (3)) 1 }
/-- TIME_SLEW_MAX (R344). -/
def P.timeSlewMax : Param := { base := 0x0D000004, w := 17, mask := 0x1FFFF, cls := .boot, dflt := .c 10000, rng := .lim (.c (1000)) (.c (50000)) 1 }
/-- TIME_VALID_BOUND (R344). -/
def P.timeValidBound : Param := { base := 0x0D000008, w := 24, mask := 0xFFFFFF, cls := .boot, dflt := .c 100000, rng := .lim (.c (100)) (.c (10000000)) 1 }
/-- TIME_HO_FREQ (R344). -/
def P.timeHoFreq : Param := { base := 0x0D00000C, w := 16, mask := 0xFFFF, cls := .boot, dflt := .c 275, rng := .lim (.c (1)) (.c (65535)) 1 }
/-- TIME_HO_AGE (R344). -/
def P.timeHoAge : Param := { base := 0x0D000010, w := 16, mask := 0xFFFF, cls := .boot, dflt := .c 100, rng := .lim (.c 0) (.c (65535)) 1 }
/-- TIME_HO_AVG_S (R344). -/
def P.timeHoAvgS : Param := { base := 0x0D000014, w := 10, mask := 0x3FF, cls := .boot, dflt := .c 60, rng := .lim (.c (10)) (.c (1000)) 1 }
/-- TIME_PPS_WIDTH (R344). -/
def P.timePpsWidth : Param := { base := 0x0D000018, w := 10, mask := 0x3FF, cls := .boot, dflt := .c 100, rng := .lim (.c (1)) (.c (900)) 1 }
/-- TIME_PPS_FREE (R344). -/
def P.timePpsFree : Param := { base := 0x0D00001C, w := 1, mask := 0x1, cls := .boot, rng := .lim (.c 0) (.c (1)) 1 }
/-- TIME_PTP_PRIO (R344). -/
def P.timePtpPrio : Param := { base := 0x0D000020, w := 16, mask := 0xFFFF, cls := .boot, dflt := .c 32896 }
/-- TIME_PTP_CONFIRM (R344). -/
def P.timePtpConfirm : Param := { base := 0x0D000024, w := 4, mask := 0xF, cls := .boot, dflt := .c 4, rng := .lim (.c (2)) (.c (15)) 1 }
/-- TIME_STATE (R344). -/
def P.timeState : Param := { base := 0x0D000040, w := 8, mask := 0xFF }
/-- TIME_EPS (R344). -/
def P.timeEps : Param := { base := 0x0D000044, dflt := .c 4294967295 }
/-- TIME_SEC_LO (R344). -/
def P.timeSecLo : Param := { base := 0x0D000048 }
/-- TIME_SEC_HI (R344). -/
def P.timeSecHi : Param := { base := 0x0D00004C, w := 16, mask := 0xFFFF }
/-- TIME_NS (R344). -/
def P.timeNs : Param := { base := 0x0D000050, w := 30, mask := 0x3FFFFFFF }
/-- TIME_RAW (R344). -/
def P.timeRaw : Param := { base := 0x0D000054 }
/-- TIME_RAW_HI (R344). -/
def P.timeRawHi : Param := { base := 0x0D000058 }
/-- TIME_OFS_SEC_LO (R344). -/
def P.timeOfsSecLo : Param := { base := 0x0D00005C, sg := true }
/-- TIME_OFS_SEC_HI (R344). -/
def P.timeOfsSecHi : Param := { base := 0x0D000060, w := 16, mask := 0xFFFF, sg := true }
/-- TIME_OFS_NS (R344). -/
def P.timeOfsNs : Param := { base := 0x0D000064, w := 30, mask := 0x3FFFFFFF, sg := true }
/-- TIME_MAP_SEQ (R344). -/
def P.timeMapSeq : Param := { base := 0x0D000068 }
/-- TIME_TRIM (R344). -/
def P.timeTrim : Param := { base := 0x0D00006C, sg := true }
/-- TIME_FREQ (R344). -/
def P.timeFreq : Param := { base := 0x0D000070, sg := true }
/-- TIME_SLEW_LEFT (R344). -/
def P.timeSlewLeft : Param := { base := 0x0D000074, sg := true }
/-- TIME_ALT_OFFSET (R344). -/
def P.timeAltOffset : Param := { base := 0x0D000078, sg := true }
/-- TIME_LEAP (R344). -/
def P.timeLeap : Param := { base := 0x0D00007C, w := 9, mask := 0x1FF }
/-- TIME_FLAGS (R344). -/
def P.timeFlags : Param := { base := 0x0D000080, w := 6, mask := 0x3F, cls := .w1c }
/-- TIME_STEPS (R344). -/
def P.timeSteps : Param := { base := 0x0D000084 }
/-- TIME_HOLDOVERS (R344). -/
def P.timeHoldovers : Param := { base := 0x0D000088 }
/-- TIME_PPS_OMITTED (R344). -/
def P.timePpsOmitted : Param := { base := 0x0D00008C }
/-- TIME_TCXO_CAL (R344). -/
def P.timeTcxoCal : Param := { base := 0x0D000090, sg := true }
/-- TIME_PTP_CFG (R344). -/
def P.timePtpCfg : Param := { base := 0x0D000100, n1 := 2, s1 := 0x40, w := 16, mask := 0xFF3E, cls := .boot, rng := .sp .ptpCfg }
/-- TIME_PTP_INTV (R344). -/
def P.timePtpIntv : Param := { base := 0x0D000104, n1 := 2, s1 := 0x40, cls := .boot, dflt := .c 0x01000003, rng := .sp .ptpIntv }
/-- TIME_PTP_STATE (R344). -/
def P.timePtpState : Param := { base := 0x0D000108, n1 := 2, s1 := 0x40, w := 4, mask := 0xF, dflt := .c 1 }
/-- TIME_PTP_OFFSET (R344). -/
def P.timePtpOffset : Param := { base := 0x0D00010C, n1 := 2, s1 := 0x40, sg := true }
/-- TIME_PTP_DELAY (R344). -/
def P.timePtpDelay : Param := { base := 0x0D000110, n1 := 2, s1 := 0x40 }
/-- TIME_PTP_GM_LO (R344). -/
def P.timePtpGmLo : Param := { base := 0x0D000114, n1 := 2, s1 := 0x40 }
/-- TIME_PTP_GM_HI (R344). -/
def P.timePtpGmHi : Param := { base := 0x0D000118, n1 := 2, s1 := 0x40 }
/-- TIME_PTP_ING_1G (R344). -/
def P.timePtpIng1g : Param := { base := 0x0D000200, w := 12, mask := 0xFFF }
/-- TIME_PTP_EGR_1G (R344). -/
def P.timePtpEgr1g : Param := { base := 0x0D000204, w := 12, mask := 0xFFF }
/-- TIME_PTP_ING_100 (R344). -/
def P.timePtpIng100 : Param := { base := 0x0D000208, w := 12, mask := 0xFFF }
/-- TIME_PTP_EGR_100 (R344). -/
def P.timePtpEgr100 : Param := { base := 0x0D00020C, w := 12, mask := 0xFFF }
/-- TIME_OUT_CFG (R344). -/
def P.timeOutCfg : Param := { base := 0x0D000300, n1 := 4, s1 := 0x20, w := 4, mask := 0xF, cls := .boot, rng := .sp .timeOutCfg }
/-- TIME_OUT_AT_LO (R344). -/
def P.timeOutAtLo : Param := { base := 0x0D000304, n1 := 4, s1 := 0x20, cls := .cmd }
/-- TIME_OUT_AT_HI (R344). -/
def P.timeOutAtHi : Param := { base := 0x0D000308, n1 := 4, s1 := 0x20, cls := .cmd }
/-- TIME_OUT_PERIOD (R344). -/
def P.timeOutPeriod : Param := { base := 0x0D00030C, n1 := 4, s1 := 0x20, cls := .dial, dflt := .c 1000000, rng := .lim (.c (100)) (.c (4000000000)) 1, per := true }
/-- TIME_OUT_WIDTH (R344). -/
def P.timeOutWidth : Param := { base := 0x0D000310, n1 := 4, s1 := 0x20, cls := .dial, dflt := .c 1000, rng := .lim (.c 20) (.p 0xD00030C true (1) (-20)) 1, per := true }
/-- TIME_CAP_CFG (R344). -/
def P.timeCapCfg : Param := { base := 0x0D000400, n1 := 4, s1 := 0x10, w := 3, mask := 0x7, cls := .boot }
/-- TIME_CAP_SEQ (R344). -/
def P.timeCapSeq : Param := { base := 0x0D000404, n1 := 4, s1 := 0x10 }
/-- TIME_CAP_EDGES (R344). -/
def P.timeCapEdges : Param := { base := 0x0D000408, n1 := 4, s1 := 0x10, w := 16, mask := 0xFFFF }
/-- TIME_CAP_LOST (R344). -/
def P.timeCapLost : Param := { base := 0x0D00040C, n1 := 4, s1 := 0x10 }
/-- TIME_CAP_RING (R344). -/
def P.timeCapRing : Param := { base := 0x0D000800, n1 := 4, s1 := 0x40, n2 := 16 }
/-- CAN_MODE (R362). -/
def P.canMode : Param := { base := 0x0E000000, n1 := 4, s1 := 0x100, w := 2, mask := 0x3, cls := .boot, rng := .lim (.c 0) (.c (2)) 1 }
/-- CAN_CFG (R362). -/
def P.canCfg : Param := { base := 0x0E000004, n1 := 4, s1 := 0x100, w := 4, mask := 0xF, cls := .boot }
/-- CAN_NBT (R362). -/
def P.canNbt : Param := { base := 0x0E000008, n1 := 4, s1 := 0x100, mask := 0xFFFFFE7F, cls := .boot, dflt := .c 54402575, rng := .sp .canNbt }
/-- CAN_DBT (R362). -/
def P.canDbt : Param := { base := 0x0E00000C, n1 := 4, s1 := 0x100, w := 29, mask := 0x1F1F0F0F, cls := .boot, dflt := .c 1967879, rng := .sp .canDbt }
/-- CAN_TDCO (R362). -/
def P.canTdco : Param := { base := 0x0E000010, n1 := 4, s1 := 0x100, w := 7, mask := 0x7F, cls := .boot, rng := .lim (.c 0) (.c (127)) 1 }
/-- CAN_TX_TIMEOUT (R362). -/
def P.canTxTimeout : Param := { base := 0x0E000014, n1 := 4, s1 := 0x100, w := 16, mask := 0xFFFF, cls := .boot, dflt := .c 100, rng := .lim (.c (1)) (.c (65535)) 1 }
/-- CAN_DEFAULT_DEST (R362). -/
def P.canDefaultDest : Param := { base := 0x0E000018, n1 := 4, s1 := 0x100, w := 4, mask := 0xF, cls := .boot, rng := .lim (.c 0) (.c (15)) 1 }
/-- CAN_RULES (R362). -/
def P.canRules : Param := { base := 0x0E00001C, n1 := 4, s1 := 0x100, w := 7, mask := 0x7F, cls := .boot, rng := .lim (.c 0) (.c (64)) 1 }
/-- CAN_TX_ALLOW (R362). -/
def P.canTxAllow : Param := { base := 0x0E000020, n1 := 4, s1 := 0x100, w := 1, mask := 0x1, cls := .boot, rng := .lim (.c 0) (.c (1)) 1 }
/-- CAN_ISO_NAME_LO (R362). -/
def P.canIsoNameLo : Param := { base := 0x0E000024, n1 := 4, s1 := 0x100, cls := .boot }
/-- CAN_ISO_NAME_HI (R362). -/
def P.canIsoNameHi : Param := { base := 0x0E000028, n1 := 4, s1 := 0x100, cls := .boot }
/-- CAN_ISO_ADDR (R362). -/
def P.canIsoAddr : Param := { base := 0x0E00002C, n1 := 4, s1 := 0x100, w := 24, mask := 0xFFFFFF, cls := .boot, dflt := .c 0x808080, rng := .sp .canIsoAddr }
/-- CAN_STATE (R362). -/
def P.canState : Param := { base := 0x0E000080, n1 := 4, s1 := 0x100, w := 7, mask := 0x7F }
/-- CAN_TEC_REC (R362). -/
def P.canTecRec : Param := { base := 0x0E000084, n1 := 4, s1 := 0x100, w := 25, mask := 0x1FFFFFF }
/-- CAN_ISO_SA (R362). -/
def P.canIsoSa : Param := { base := 0x0E000088, n1 := 4, s1 := 0x100, w := 8, mask := 0xFF, dflt := .c 254 }
/-- CAN_TDC_NOW (R362). -/
def P.canTdcNow : Param := { base := 0x0E00008C, n1 := 4, s1 := 0x100, w := 8, mask := 0xFF }
/-- CAN_RX_SEQ (R362). -/
def P.canRxSeq : Param := { base := 0x0E000090, n1 := 4, s1 := 0x100 }
/-- CAN_RX_HEAD (R362). -/
def P.canRxHead : Param := { base := 0x0E000094, n1 := 4, s1 := 0x100, w := 9, mask := 0x1FF }
/-- CAN_RX_COUNT (R362). -/
def P.canRxCount : Param := { base := 0x0E000098, n1 := 4, s1 := 0x100, w := 10, mask := 0x3FF }
/-- CAN_RX_FRAMES (R362). -/
def P.canRxFrames : Param := { base := 0x0E00009C, n1 := 4, s1 := 0x100 }
/-- CAN_RX_DISCARDED (R362). -/
def P.canRxDiscarded : Param := { base := 0x0E0000A0, n1 := 4, s1 := 0x100 }
/-- CAN_RX_SHADOWED (R362). -/
def P.canRxShadowed : Param := { base := 0x0E0000A4, n1 := 4, s1 := 0x100 }
/-- CAN_TX_FRAMES (R362). -/
def P.canTxFrames : Param := { base := 0x0E0000A8, n1 := 4, s1 := 0x100 }
/-- CAN_TX_EXPIRED (R362). -/
def P.canTxExpired : Param := { base := 0x0E0000AC, n1 := 4, s1 := 0x100 }
/-- CAN_BUSOFFS (R362). -/
def P.canBusoffs : Param := { base := 0x0E0000B0, n1 := 4, s1 := 0x100 }
/-- CAN_ERR_FRAMES (R362). -/
def P.canErrFrames : Param := { base := 0x0E0000B4, n1 := 4, s1 := 0x100 }
/-- CAN_FLAGS (R362). -/
def P.canFlags : Param := { base := 0x0E0000B8, n1 := 4, s1 := 0x100, w := 6, mask := 0x3F, cls := .w1c }
/-- CAN_RX_LAT (R362). -/
def P.canRxLat : Param := { base := 0x0E0000BC, n1 := 4, s1 := 0x100, w := 12, mask := 0xFFF }
/-- CAN_RULE (R362). -/
def P.canRule : Param := { base := 0x0E001000, n1 := 4, s1 := 0x400, n2 := 256, cls := .boot, rng := .sp .canRule, tbl := true }
/-- CAN_RX_RING (R362). -/
def P.canRxRing : Param := { base := 0x0E100000, n1 := 4, s1 := 0x10000, n2 := 10240 }
/-- NET_IP (R390). -/
def P.netIp : Param := { base := 0x0F000000, cls := .boot, dflt := .c 0xC0A80A3C, rng := .sp .unicast }
/-- NET_MASK (R390). -/
def P.netMask : Param := { base := 0x0F000004, cls := .boot, dflt := .c 0xFFFFFF00, rng := .sp .netMask }
/-- NET_GW (R390). -/
def P.netGw : Param := { base := 0x0F000008, cls := .boot }
/-- NET_SVC_IP (R390). -/
def P.netSvcIp : Param := { base := 0x0F00000C, cls := .boot, dflt := .c 0xC0A8FE01, rng := .sp .unicast }
/-- NET_SVC_MASK (R390). -/
def P.netSvcMask : Param := { base := 0x0F000010, cls := .boot, dflt := .c 0xFFFFFF00, rng := .sp .netMask }
/-- NET_IDLE_S (R390). -/
def P.netIdleS : Param := { base := 0x0F000014, w := 8, mask := 0xFF, cls := .boot, dflt := .c 30, rng := .lim (.c (5)) (.c (255)) 1 }
/-- NET_CAN_CH (R390). -/
def P.netCanCh : Param := { base := 0x0F000018, w := 4, mask := 0xF, cls := .boot, rng := .lim (.c 0) (.c (15)) 1 }
/-- NET_CAN_BASE (R390). -/
def P.netCanBase : Param := { base := 0x0F00001C, w := 29, mask := 0x1FFFFFFF, cls := .boot, dflt := .c 520093696, rng := .lim (.c 0) (.c (536870848)) 64 }
/-- NET_CAN_REASM_MS (R390). -/
def P.netCanReasmMs : Param := { base := 0x0F000020, w := 8, mask := 0xFF, cls := .boot, dflt := .c 100, rng := .lim (.c (10)) (.c (255)) 1 }
/-- NET_SVC_ANYWHERE (R390). -/
def P.netSvcAnywhere : Param := { base := 0x0F000024, w := 1, mask := 0x1, cls := .boot, dflt := .c 1, rng := .lim (.c 0) (.c (1)) 1 }
/-- NET_BATCH_MS (R390). -/
def P.netBatchMs : Param := { base := 0x0F000028, w := 6, mask := 0x3F, cls := .boot, dflt := .c 20, rng := .lim (.c (1)) (.c (63)) 1 }
/-- NET_MAC_LO (R390). -/
def P.netMacLo : Param := { base := 0x0F000100 }
/-- NET_MAC_HI (R390). -/
def P.netMacHi : Param := { base := 0x0F000104, w := 16, mask := 0xFFFF }
/-- NET_LINK (R390). -/
def P.netLink : Param := { base := 0x0F000108, w := 5, mask := 0x1F }
/-- NET_SESSIONS (R390). -/
def P.netSessions : Param := { base := 0x0F00010C, w := 4, mask := 0xF }
/-- NET_FLAGS (R390). -/
def P.netFlags : Param := { base := 0x0F000110, w := 5, mask := 0x1F, cls := .w1c }
/-- NET_RX_MSGS (R390). -/
def P.netRxMsgs : Param := { base := 0x0F000114 }
/-- NET_TX_MSGS (R390). -/
def P.netTxMsgs : Param := { base := 0x0F000118 }
/-- NET_TAG_FAILS (R390). -/
def P.netTagFails : Param := { base := 0x0F00011C }
/-- NET_DUPLICATES (R390). -/
def P.netDuplicates : Param := { base := 0x0F000120 }
/-- NET_RX_DISCARDED (R390). -/
def P.netRxDiscarded : Param := { base := 0x0F000124 }
/-- NET_CAN_REASM_FAILS (R390). -/
def P.netCanReasmFails : Param := { base := 0x0F000128 }
/-- NET_SESS_ID (R390). -/
def P.netSessId : Param := { base := 0x0F000200, n1 := 8, s1 := 0x8 }
/-- NET_SESS_INFO (R390). -/
def P.netSessInfo : Param := { base := 0x0F000204, n1 := 8, s1 := 0x8, w := 16, mask := 0xFFFF }
/-- EVC_SEQ (R391). -/
def P.evcSeq : Param := { base := 0x10000000 }
/-- EVC_Q_NOW (R391). -/
def P.evcQNow : Param := { base := 0x10000004, w := 13, mask := 0x1FFF }
/-- EVC_Q_PEAK (R391). -/
def P.evcQPeak : Param := { base := 0x10000008, w := 13, mask := 0x1FFF }
/-- EVC_CLR (R391). -/
def P.evcClr : Param := { base := 0x1000000C, w := 1, mask := 0x1, cls := .cmd, rng := .lim (.c (1)) (.c (1)) 1 }
/-- EVC_DROPPED (R391). -/
def P.evcDropped : Param := { base := 0x10000010, n1 := 4, s1 := 0x4 }
/-- EVC_FLAGS (R391). -/
def P.evcFlags : Param := { base := 0x10000020, w := 1, mask := 0x1, cls := .w1c }
/-- EVC_ROUTE (R391). -/
def P.evcRoute : Param := { base := 0x10000100, n1 := 128, s1 := 0x4, w := 6, mask := 0x37, cls := .boot, dflt := .route }
/-- EVC_COUNT (R391). -/
def P.evcCount : Param := { base := 0x10000400, n1 := 128, s1 := 0x4 }
/-- EVC_LAST (R391). -/
def P.evcLast : Param := { base := 0x10000600, n1 := 128, s1 := 0x8, n2 := 2 }
/-- LOG_RATE (R406). -/
def P.logRate : Param := { base := 0x11000000, w := 10, mask := 0x3FF, cls := .boot, dflt := .c 10, rng := .lim (.c (1)) (.c (1000)) 1 }
/-- LOG_BURST (R406). -/
def P.logBurst : Param := { base := 0x11000004, w := 8, mask := 0xFF, cls := .boot, dflt := .c 20, rng := .lim (.c (1)) (.c (255)) 1 }
/-- LOG_WARN_FILL (R406). -/
def P.logWarnFill : Param := { base := 0x11000008, w := 13, mask := 0x1FFF, cls := .boot, dflt := .c 7168, rng := .lim (.c 0) (.c (8191)) 1 }
/-- LOG_OLDEST (R406). -/
def P.logOldest : Param := { base := 0x11000100 }
/-- LOG_NEXT (R406). -/
def P.logNext : Param := { base := 0x11000104 }
/-- LOG_FILL (R406). -/
def P.logFill : Param := { base := 0x11000108, w := 14, mask := 0x3FFF }
/-- LOG_STATE (R406). -/
def P.logState : Param := { base := 0x1100010C, w := 2, mask := 0x3 }
/-- LOG_FLAGS (R406). -/
def P.logFlags : Param := { base := 0x11000110, w := 4, mask := 0xF, cls := .w1c }
/-- LOG_SUPPRESSED (R406). -/
def P.logSuppressed : Param := { base := 0x11000114 }
/-- LOG_NOT_RECORDED (R406). -/
def P.logNotRecorded : Param := { base := 0x11000118 }
/-- LOG_OVERFLOWS (R406). -/
def P.logOverflows : Param := { base := 0x1100011C }
/-- LOG_CLEARS (R406). -/
def P.logClears : Param := { base := 0x11000120 }
/-- LOG_OP_SEC (R406). -/
def P.logOpSec : Param := { base := 0x11000124 }
/-- LOG_CYCLES (R406). -/
def P.logCycles : Param := { base := 0x11000128, w := 24, mask := 0xFFFFFF }
/-- LOG_CURSOR (R406). -/
def P.logCursor : Param := { base := 0x11000200, cls := .cmd }
/-- LOG_WIN_FIRST (R406). -/
def P.logWinFirst : Param := { base := 0x11000204 }
/-- LOG_WIN_COUNT (R406). -/
def P.logWinCount : Param := { base := 0x11000208, w := 5, mask := 0x1F }
/-- LOG_WIN_CLEARS (R406). -/
def P.logWinClears : Param := { base := 0x1100020C }
/-- LOG_WINDOW (R406). -/
def P.logWindow : Param := { base := 0x11001000, n1 := 128, s1 := 0x4 }
/-- BIST_STATE (R425). -/
def P.bistState : Param := { base := 0x13000000, w := 2, mask := 0x3 }
/-- BIST_SAFE_CAUSE (R425). -/
def P.bistSafeCause : Param := { base := 0x13000004, w := 8, mask := 0xFF }
/-- BIST_START_CAUSE (R425). -/
def P.bistStartCause : Param := { base := 0x13000008, w := 4, mask := 0xF }
/-- BIST_START_MS (R425). -/
def P.bistStartMs : Param := { base := 0x1300000C, w := 16, mask := 0xFFFF }
/-- BIST_COVERAGE (R425). -/
def P.bistCoverage : Param := { base := 0x13000010, w := 14, mask := 0x3FFF }
/-- BIST_DEEP (R425). -/
def P.bistDeep : Param := { base := 0x13000014, w := 1, mask := 0x1, cls := .cmd, rng := .lim (.c (1)) (.c (1)) 1, svc := true }
/-- BIST_DEEP_RES (R425). -/
def P.bistDeepRes : Param := { base := 0x13000018 }
/-- BIST_FLAGS (R425). -/
def P.bistFlags : Param := { base := 0x1300001C, w := 4, mask := 0xF, cls := .w1c }
/-- BIST_RES (R425). -/
def P.bistRes : Param := { base := 0x13000100, n1 := 16, s1 := 0x10 }
/-- BIST_UNIT (R425). -/
def P.bistUnit : Param := { base := 0x13000104, n1 := 16, s1 := 0x10, w := 16, mask := 0xFFFF }
/-- BIST_UNITS (R425). -/
def P.bistUnits : Param := { base := 0x13000108, n1 := 16, s1 := 0x10, w := 16, mask := 0xFFFF }
/-- BIST_MS_SEQ (R425). -/
def P.bistMsSeq : Param := { base := 0x13000400 }
/-- BIST_MS_T (R425). -/
def P.bistMsT : Param := { base := 0x13000404 }
/-- BIST_MS_FAILS (R425). -/
def P.bistMsFails : Param := { base := 0x13000408 }
/-- BIST_LIFE (R425). -/
def P.bistLife : Param := { base := 0x13000410, n1 := 5, s1 := 0x4 }
/-- BIST_UNACC (R425). -/
def P.bistUnacc : Param := { base := 0x13000424 }
/-- BIST_UNACC_FIRST (R425). -/
def P.bistUnaccFirst : Param := { base := 0x13000428 }
/-- SEC_STATE (R449). -/
def P.secState : Param := { base := 0x12000000, w := 6, mask := 0x3F }
/-- SEC_SLOTS (R449). -/
def P.secSlots : Param := { base := 0x12000004, w := 16, mask := 0xFFFF }
/-- SEC_SLOT_ROLE (R449). -/
def P.secSlotRole : Param := { base := 0x12000008, w := 16, mask := 0xFFFF }
/-- SEC_VKEYS (R449). -/
def P.secVkeys : Param := { base := 0x1200000C, w := 4, mask := 0xF }
/-- SEC_FW_ROLLBACK (R449). -/
def P.secFwRollback : Param := { base := 0x12000010 }
/-- SEC_FW_VERSION (R449). -/
def P.secFwVersion : Param := { base := 0x12000014 }
/-- SEC_PROV_COUNT (R449). -/
def P.secProvCount : Param := { base := 0x12000018 }
/-- SEC_ERASE_COUNT (R449). -/
def P.secEraseCount : Param := { base := 0x1200001C }
/-- SEC_ERASE_CAUSE (R449). -/
def P.secEraseCause : Param := { base := 0x12000020, w := 2, mask := 0x3 }
/-- SEC_SERIAL_LO (R449). -/
def P.secSerialLo : Param := { base := 0x12000024 }
/-- SEC_SERIAL_HI (R449). -/
def P.secSerialHi : Param := { base := 0x12000028 }
/-- SEC_ID_PUB (R449). -/
def P.secIdPub : Param := { base := 0x12000040, n1 := 16, s1 := 0x4 }
/-- SEC_FLAGS (R449). -/
def P.secFlags : Param := { base := 0x12000080, w := 3, mask := 0x7, cls := .w1c }
/-- SEC_UPD_STATE (R449). -/
def P.secUpdState : Param := { base := 0x12000100, n1 := 2, s1 := 0x20, w := 3, mask := 0x7 }
/-- SEC_UPD_REASON (R449). -/
def P.secUpdReason : Param := { base := 0x12000104, n1 := 2, s1 := 0x20, w := 8, mask := 0xFF }
/-- SEC_UPD_OFFSET (R449). -/
def P.secUpdOffset : Param := { base := 0x12000108, n1 := 2, s1 := 0x20, w := 28, mask := 0xFFFFFFF }
/-- SEC_UPD_LEN (R449). -/
def P.secUpdLen : Param := { base := 0x1200010C, n1 := 2, s1 := 0x20, w := 29, mask := 0x1FFFFFFF }
/-- SEC_UPD_SESSION (R449). -/
def P.secUpdSession : Param := { base := 0x12000110, n1 := 2, s1 := 0x20 }
/-- PERF_SNAP (R461). -/
def P.perfSnap : Param := { base := 0x14000000, w := 1, mask := 0x1, cls := .cmd, rng := .lim (.c (1)) (.c (1)) 1 }
/-- PERF_SNAP_T (R461). -/
def P.perfSnapT : Param := { base := 0x14000004 }
/-- PERF_SNAP_SEQ (R461). -/
def P.perfSnapSeq : Param := { base := 0x14000008 }
/-- PERF_SMP_SEQ (R461). -/
def P.perfSmpSeq : Param := { base := 0x1400000C }
/-- PERF_SMP_LOST (R461). -/
def P.perfSmpLost : Param := { base := 0x14000010 }
/-- PERF_TAG_CFG (R461). -/
def P.perfTagCfg : Param := { base := 0x14000014, mask := 0x80FFFFFF, cls := .cmd, rng := .sp .perfTag }
/-- PERF_LEDGER_LENT (R461). -/
def P.perfLedgerLent : Param := { base := 0x14000018, w := 16, mask := 0xFFFF }
/-- PERF_FLAGS (R461). -/
def P.perfFlags : Param := { base := 0x1400001C, w := 2, mask := 0x3, cls := .w1c }
/-- PERF_M_SEL (R461). -/
def P.perfMSel : Param := { base := 0x14000100, n1 := 8, s1 := 0x10, w := 8, mask := 0xFF, cls := .cmd, rng := .sp .perfM }
/-- PERF_M_CNT_LO (R461). -/
def P.perfMCntLo : Param := { base := 0x14000108, n1 := 8, s1 := 0x10 }
/-- PERF_M_CNT_HI (R461). -/
def P.perfMCntHi : Param := { base := 0x1400010C, n1 := 8, s1 := 0x10, w := 16, mask := 0xFFFF }
/-- PERF_T_CYC_LO (R461). -/
def P.perfTCycLo : Param := { base := 0x14001000, n1 := 16, s1 := 0x100 }
/-- PERF_T_CYC_HI (R461). -/
def P.perfTCycHi : Param := { base := 0x14001004, n1 := 16, s1 := 0x100, w := 16, mask := 0xFFFF }
/-- PERF_T_WORK_LO (R461). -/
def P.perfTWorkLo : Param := { base := 0x14001008, n1 := 16, s1 := 0x100 }
/-- PERF_T_WORK_HI (R461). -/
def P.perfTWorkHi : Param := { base := 0x1400100C, n1 := 16, s1 := 0x100, w := 16, mask := 0xFFFF }
/-- PERF_T_VOID_LO (R461). -/
def P.perfTVoidLo : Param := { base := 0x14001010, n1 := 16, s1 := 0x100 }
/-- PERF_T_VOID_HI (R461). -/
def P.perfTVoidHi : Param := { base := 0x14001014, n1 := 16, s1 := 0x100, w := 16, mask := 0xFFFF }
/-- PERF_T_UNFED_LO (R461). -/
def P.perfTUnfedLo : Param := { base := 0x14001018, n1 := 16, s1 := 0x100 }
/-- PERF_T_UNFED_HI (R461). -/
def P.perfTUnfedHi : Param := { base := 0x1400101C, n1 := 16, s1 := 0x100, w := 16, mask := 0xFFFF }
/-- PERF_T_WAIT_NEAR_LO (R461). -/
def P.perfTWaitNearLo : Param := { base := 0x14001020, n1 := 16, s1 := 0x100 }
/-- PERF_T_WAIT_NEAR_HI (R461). -/
def P.perfTWaitNearHi : Param := { base := 0x14001024, n1 := 16, s1 := 0x100, w := 16, mask := 0xFFFF }
/-- PERF_T_WAIT_FAR_LO (R461). -/
def P.perfTWaitFarLo : Param := { base := 0x14001028, n1 := 16, s1 := 0x100 }
/-- PERF_T_WAIT_FAR_HI (R461). -/
def P.perfTWaitFarHi : Param := { base := 0x1400102C, n1 := 16, s1 := 0x100, w := 16, mask := 0xFFFF }
/-- PERF_T_WAIT_MEM_LO (R461). -/
def P.perfTWaitMemLo : Param := { base := 0x14001030, n1 := 16, s1 := 0x100 }
/-- PERF_T_WAIT_MEM_HI (R461). -/
def P.perfTWaitMemHi : Param := { base := 0x14001034, n1 := 16, s1 := 0x100, w := 16, mask := 0xFFFF }
/-- PERF_T_WAIT_OUT_LO (R461). -/
def P.perfTWaitOutLo : Param := { base := 0x14001038, n1 := 16, s1 := 0x100 }
/-- PERF_T_WAIT_OUT_HI (R461). -/
def P.perfTWaitOutHi : Param := { base := 0x1400103C, n1 := 16, s1 := 0x100, w := 16, mask := 0xFFFF }
/-- PERF_T_SEL (R461). -/
def P.perfTSel : Param := { base := 0x14001040, n1 := 16, s1 := 0x100, n2 := 8, s2 := 16, w := 16, mask := 0xC0FF, cls := .cmd, rng := .sp .perfT }
/-- PERF_T_PERIOD (R461). -/
def P.perfTPeriod : Param := { base := 0x14001044, n1 := 16, s1 := 0x100, n2 := 8, s2 := 16, cls := .cmd, dflt := .c 1000000, rng := .lim (.c (1000)) (.c (4294967295)) 1 }
/-- PERF_T_CNT_LO (R461). -/
def P.perfTCntLo : Param := { base := 0x14001048, n1 := 16, s1 := 0x100, n2 := 8, s2 := 16 }
/-- PERF_T_CNT_HI (R461). -/
def P.perfTCntHi : Param := { base := 0x1400104C, n1 := 16, s1 := 0x100, n2 := 8, s2 := 16, w := 16, mask := 0xFFFF }
/-- PERF_CW_DEPTH (R461). -/
def P.perfCwDepth : Param := { base := 0x14003000, n1 := 22, s1 := 0x10, w := 12, mask := 0xFFF, dflt := .depth }
/-- PERF_CW_THR (R461). -/
def P.perfCwThr : Param := { base := 0x14003004, n1 := 22, s1 := 0x10, w := 12, mask := 0xFFF, cls := .cmd, rng := .lim (.c 0) (.p 0x14003000 true (1) (0)) 1 }
/-- PERF_CW_ABOVE (R461). -/
def P.perfCwAbove : Param := { base := 0x14003008, n1 := 22, s1 := 0x10 }
/-- PERF_CW_CROSS (R461). -/
def P.perfCwCross : Param := { base := 0x1400300C, n1 := 22, s1 := 0x10 }
/-- PERF_RING (R461). -/
def P.perfRing : Param := { base := 0x14010000, n1 := 16384, s1 := 0x4 }
/-- PERF_H_JOB (R461). -/
def P.perfHJob : Param := { base := 0x14020000, n1 := 16, s1 := 0x200, n2 := 33 }
/-- PERF_H_LINE (R461). -/
def P.perfHLine : Param := { base := 0x14020100, n1 := 16, s1 := 0x200, n2 := 33 }
/-- PERF_H_DEC (R461). -/
def P.perfHDec : Param := { base := 0x14022000, n2 := 33 }

/-- The parameters of the SYS block (R43). -/
def blockSys : List Param :=
  [P.sysPart, P.sysVariant, P.sysHwRev, P.sysMemGib, P.sysMode, P.sysModeNow, P.sysSuspect, P.sysTowerOk, P.sysRateCap, P.sysLogicCap, P.sysDecLatMax, P.sysDecLatClr, P.sysCapRate, P.sysRbStatus, P.sysRbIdLo, P.sysRbIdHi, P.sysRbOffset, P.sysAllow, P.sysRecipeStart, P.sysRecipeSel, P.sysRecipeNow, P.sysRecipePend, P.sysRecipeAt, P.sysRecipeSuperseded] ++
  [P.sysCaluState, P.sysCaluWrites, P.sysRecipeCount, P.sysDialCount]

/-- The parameters of the TOLL block (R43). -/
def blockToll : List Param :=
  [P.tollCBulk, P.tollVSet, P.tollVFloor, P.tollISup, P.tollQBoost, P.tollQMean, P.tollLoISup, P.tollEHold, P.tollLoadaMa, P.tollLoadbMa, P.tollLoadNom, P.tollPanelMa, P.tollPBase, P.tollPTower, P.tollPScrub, P.tollPGnssAcq, P.tollPFlash, P.tollSafetyLsw, P.tollSafetyPv, P.tollVBulk, P.tollQAvail, P.tollQRes, P.tollPLogic, P.tollPModel] ++
  [P.tollPCap, P.tollLoadaNow, P.tollLoadbNow, P.tollPanelNow, P.tollState, P.tollFlags, P.tollGrants, P.tollWaited, P.tollWaitMax, P.tollExpired1, P.tollHoldups, P.tollCranks, P.tollClr]

/-- The parameters of the CAM block (R43). -/
def blockCam : List Param :=
  [P.camEn, P.camFormat, P.camLineSamples, P.camFrameLines, P.camLinePeriod, P.camExpPhase, P.camInterleave, P.camExpOn, P.camExpOff, P.camExpRef, P.camSerBaud, P.camSerTimeout, P.camTplCount, P.camStatZones, P.camSatLevel, P.camDarkLevel, P.camGain, P.camMatrix, P.camCset, P.camLatNow, P.camBlackNow, P.camStatus, P.camFlags, P.camFrameNow] ++
  [P.camSeqNow, P.camSeqPend, P.camLines, P.camLinesLost, P.camLinesBad, P.camSlips, P.camTplFails, P.camStatSeq, P.camStatFrame, P.camStatSetseq, P.camStatLines, P.camStatT0, P.camStatT1, P.camStatRx, P.camStatZone, P.camStatHist, P.camTpl, P.camTone, P.camFfNow, P.camDarkNow]

/-- The parameters of the BG block (R43). -/
def blockBg : List Param :=
  [P.bgEn, P.bgPeriod, P.bgMode, P.bgEnPhase, P.bgEnWidth, P.bgTRise, P.bgTFall, P.bgLoadEvery, P.bgLevel, P.bgFallback, P.bgOrigin, P.bgPitch, P.bgCols, P.bgIref, P.bgStatus, P.bgPresentSeq, P.bgFaulty, P.bgUpdates, P.bgSuperseded, P.bgTollWaits, P.bgCrcFails, P.bgIfs, P.bgColour, P.bgUniNow]

/-- The parameters of the CELL block (R43). -/
def blockCell : List Param :=
  [P.cellPlaceTowers, P.cellMinTowers, P.cellSlots, P.cellSlotsBusy, P.cellSlotsPeak, P.cellQueueNow, P.cellWaitMax, P.cellClr, P.cellJobsDone, P.cellJobsRefused, P.cellJobsAborted, P.cellQueueFulls, P.cellPairMismatches, P.cellMismatchLimit, P.cellMismatchWindow, P.cellScrubHours, P.cellScrubPasses, P.cellCeLimit, P.cellErrFlags, P.cellErrLastLoc, P.cellErrLastAddr, P.cellErrLastT, P.cellTOkLo, P.cellTOkHi] ++
  [P.cellTMap, P.cellTMismatch, P.cellTRestarts, P.cellCe1, P.cellCe2, P.cellUe, P.cellAddr]

/-- The parameters of the FUS block (R43). -/
def blockFus : List Param :=
  [P.fusCols, P.fusHRef, P.fusHAlign, P.fusVNom, P.fusANom, P.fusAMin, P.fusAMax, P.fusNV, P.fusNA, P.fusNW, P.fusGateV, P.fusDhMin, P.fusDhA, P.fusStaleS, P.fusMotionReset, P.fusObjThr, P.fusMinCells, P.fusMaxCols, P.fusMaxRows, P.fusLostMax, P.fusRequired, P.fusBgiAction, P.fusQHigh, P.fusContraPolicy] ++
  [P.fusClassGroup, P.fusClassRankLo, P.fusClassRankHi, P.fusSensWeightLo, P.fusSensWeightHi, P.fusPairWindow, P.fusPairLimit, P.fusPairStrikes, P.fusAbsentMs, P.fusRemindS, P.fusVariant, P.fusSuspect, P.fusSuspectWhy, P.fusSuspectClr, P.fusFlags, P.fusWarm, P.fusObs, P.fusSmall, P.fusContraPieces, P.fusMotionDiscards, P.fusDegradedPieces, P.fusPairContra, P.fusAgree, P.fusVNow] ++
  [P.fusANow, P.fusWNow, P.fusMStat, P.fusHNow, P.fusPrefilt, P.fusFeatCh, P.fusObjCh, P.fusPool, P.fusGeoNow]

/-- The parameters of the TRK block (R43). -/
def blockTrk : List Param :=
  [P.trkLife, P.trkProvLead, P.trkSigT, P.trkSigX, P.trkSigW, P.trkGateT, P.trkGateX, P.trkGateC, P.trkNewCost, P.trkWinNs, P.trkEps, P.trkBidMax, P.trkOversizeAction, P.trkMinConf, P.trkUnsureAction, P.trkCloseAfter, P.trkLot, P.trkLotId, P.trkMapKind, P.trkMapBinS, P.trkMapCellDm, P.trkMapDelayMs, P.trkLoopPeriod, P.trkLive] ++
  [P.trkLivePeak, P.trkClr, P.trkOpened, P.trkTableFulls, P.trkWinSplits, P.trkBidLimits, P.trkRevisions, P.trkRevChanged, P.trkRevLost, P.trkLate, P.trkOut, P.trkDl, P.trkThr, P.trkTally, P.trkEntry, P.trkMap]

/-- The parameters of the EJ block (R43). -/
def blockEj : List Param :=
  [P.ejChannels, P.ejOrigin, P.ejPitch, P.ejMarginX, P.ejMinOverlap, P.ejMaxNozzles, P.ejAirPre, P.ejAirPost, P.ejAirOffset, P.ejPassPct, P.ejCoreHalf, P.ejColdMargin, P.ejHoldStartEn, P.ejMergeGap, P.ejPulseMax, P.ejBoostSlot, P.ejQNow, P.ejQPeak, P.ejEnergisedPeak, P.ejClr, P.ejPulses, P.ejHoldStarts, P.ejShifted, P.ejMerges] ++
  [P.ejRestarts, P.ejWithdrawn, P.ejClipped, P.ejShiftMax, P.ejFlags, P.ejMiss, P.ejChMissed, P.ejBankWaitMax]

/-- The parameters of the VLV block (R43). -/
def blockVlv : List Param :=
  [P.vlvChopF, P.vlvSlew, P.vlvHsTMax, P.vlvIShort, P.vlvOpenLimit, P.vlvDetBlank, P.vlvDetMax, P.vlvDetFrac, P.vlvDetGate, P.vlvLearnN, P.vlvTStartOfs, P.vlvRth, P.vlvTau, P.vlvRcorr, P.vlvBandT, P.vlvBandHyst, P.vlvTProt, P.vlvTProtHyst, P.vlvIHoldMin, P.vlvIPeak, P.vlvTBoostMax, P.vlvIHold, P.vlvAdv, P.vlvVhiNow] ++
  [P.vlvVloNow, P.vlvTBoard, P.vlvBankOk, P.vlvChClr, P.vlvFlags, P.vlvPulses, P.vlvBoosts, P.vlvDetValid, P.vlvDetNone, P.vlvDetGated, P.vlvBoostTimeouts, P.vlvFaults, P.vlvChState, P.vlvDNow, P.vlvDhsNow, P.vlvDLast, P.vlvTCoil, P.vlvChPulses, P.vlvDcal, P.vlvDhsCal, P.vlvDoff, P.vlvAirLat, P.vlvRes, P.vlvLOpen] ++
  [P.vlvLClosed, P.vlvIsense, P.vlvPEn, P.vlvPSrc, P.vlvPSet, P.vlvPFreq, P.vlvPDithA, P.vlvPDithF, P.vlvPDithShape, P.vlvPRetries, P.vlvPINow, P.vlvPState, P.vlvPClr, P.vlvPIsense]

/-- The parameters of the LSW block (R43). -/
def blockLsw : List Param :=
  [P.lswEn, P.lswUvA, P.lswUvB, P.lswUvOffMs, P.lswVaNow, P.lswVbNow, P.lswFlags, P.lswClr, P.lswTrips, P.lswHardShorts, P.lswRetriesDone, P.lswThermals, P.lswUvOffs, P.lswOn, P.lswSrc, P.lswFreq, P.lswDuty, P.lswComp, P.lswVref, P.lswITrip, P.lswTTrip, P.lswIInrush, P.lswTInrush, P.lswIAllow] ++
  [P.lswISteady, P.lswRetries, P.lswRetryMs, P.lswIOpen, P.lswOvOff, P.lswState, P.lswINow, P.lswDutyNow, P.lswTDie, P.lswRetryNow, P.lswIsense, P.lswChTrips]

/-- The parameters of the LOOP block (R43). -/
def blockLoop : List Param :=
  [P.loopEnLo, P.loopEnHi, P.loopFlags, P.loopFallbacks, P.loopTicks, P.loopTrCfg, P.loopTrTrig, P.loopTrLevel, P.loopTrCmd, P.loopTrState, P.loopTrT0, P.loopTrFirst, P.loopTrSeq, P.loopMode, P.loopPeriod, P.loopPhase, P.loopSrcM, P.loopSrcR, P.loopSrcX, P.loopSet, P.loopManual, P.loopKp, P.loopKi, P.loopKd] ++
  [P.loopKn, P.loopKfr, P.loopKfx, P.loopShifts, P.loopIMin, P.loopIMax, P.loopUMin, P.loopUMax, P.loopUSlew, P.loopDeadband, P.loopBias, P.loopMaxAge, P.loopFallback, P.loopUSafe, P.loopTbl, P.loopSrcP, P.loopKT, P.loopTblOrg, P.loopTblVdb, P.loopUNow, P.loopState, P.loopMNow, P.loopRNow, P.loopENow] ++
  [P.loopINow, P.loopAgeNow, P.loopQ, P.loopTable, P.loopTrData]

/-- The parameters of the AIN block (R43). -/
def blockAin : List Param :=
  [P.ainMode, P.ainRate, P.ainLowUa, P.ainHitThr, P.ainHitRearm, P.ainHitDead, P.ainHitWin, P.ainValNow, P.ainHitsTotal, P.ainState, P.ainGain, P.ainOfs, P.ainEncCfg, P.ainEncVwin, P.ainEncPos, P.ainEncVel, P.ainEncZpos, P.ainEncErrs, P.ainFrqCfg, P.ainFrqWin, P.ainFrqZeroMs, P.ainFrqNow, P.ainFrqEdges]

/-- The parameters of the GNSS block (R43). -/
def blockGnss : List Param :=
  [P.gnssSignals, P.gnssRate, P.gnssElevMask, P.gnssCn0Mask, P.gnssSig0, P.gnssResThr, P.gnssExclMax, P.gnssExclHoldS, P.gnssMinSv, P.gnssOscK, P.gnssOscFloor, P.gnssDriftMax, P.gnssTrustN, P.gnssLossMs, P.gnssMpMode, P.gnssNarrow, P.gnssPllBw, P.gnssDllBw, P.gnssDiffAgeMax, P.gnssDiffSrc, P.gnssAcqMaxMs, P.gnssAcqEveryS, P.gnssKtOfs, P.gnssKtMinSv] ++
  [P.gnssKtPosErr, P.gnssPosHoldMs, P.gnssKtPosValid, P.gnssAntV, P.gnssHErrMax, P.gnssAccept, P.gnssCold, P.gnssState, P.gnssFixSeq, P.gnssFixT, P.gnssLat, P.gnssLon, P.gnssHgt, P.gnssVelN, P.gnssVelE, P.gnssVelU, P.gnssErr, P.gnssDop, P.gnssNsv, P.gnssTSecLo, P.gnssTSecHi, P.gnssTNs, P.gnssTErr, P.gnssLeap] ++
  [P.gnssOscDelta, P.gnssDrift, P.gnssTtff, P.gnssFlags, P.gnssFixes, P.gnssExclusions, P.gnssUntrusted, P.gnssLosses, P.gnssAcqSessions, P.gnssBursts, P.gnssDlyNow, P.gnssDlyL5Now, P.gnssCh]

/-- The parameters of the TIME block (R43). -/
def blockTime : List Param :=
  [P.timeSrcOrder, P.timeSlewMax, P.timeValidBound, P.timeHoFreq, P.timeHoAge, P.timeHoAvgS, P.timePpsWidth, P.timePpsFree, P.timePtpPrio, P.timePtpConfirm, P.timeState, P.timeEps, P.timeSecLo, P.timeSecHi, P.timeNs, P.timeRaw, P.timeRawHi, P.timeOfsSecLo, P.timeOfsSecHi, P.timeOfsNs, P.timeMapSeq, P.timeTrim, P.timeFreq, P.timeSlewLeft] ++
  [P.timeAltOffset, P.timeLeap, P.timeFlags, P.timeSteps, P.timeHoldovers, P.timePpsOmitted, P.timeTcxoCal, P.timePtpCfg, P.timePtpIntv, P.timePtpState, P.timePtpOffset, P.timePtpDelay, P.timePtpGmLo, P.timePtpGmHi, P.timePtpIng1g, P.timePtpEgr1g, P.timePtpIng100, P.timePtpEgr100, P.timeOutCfg, P.timeOutAtLo, P.timeOutAtHi, P.timeOutPeriod, P.timeOutWidth, P.timeCapCfg] ++
  [P.timeCapSeq, P.timeCapEdges, P.timeCapLost, P.timeCapRing]

/-- The parameters of the CAN block (R43). -/
def blockCan : List Param :=
  [P.canMode, P.canCfg, P.canNbt, P.canDbt, P.canTdco, P.canTxTimeout, P.canDefaultDest, P.canRules, P.canTxAllow, P.canIsoNameLo, P.canIsoNameHi, P.canIsoAddr, P.canState, P.canTecRec, P.canIsoSa, P.canTdcNow, P.canRxSeq, P.canRxHead, P.canRxCount, P.canRxFrames, P.canRxDiscarded, P.canRxShadowed, P.canTxFrames, P.canTxExpired] ++
  [P.canBusoffs, P.canErrFrames, P.canFlags, P.canRxLat, P.canRule, P.canRxRing]

/-- The parameters of the NET block (R43). -/
def blockNet : List Param :=
  [P.netIp, P.netMask, P.netGw, P.netSvcIp, P.netSvcMask, P.netIdleS, P.netCanCh, P.netCanBase, P.netCanReasmMs, P.netSvcAnywhere, P.netBatchMs, P.netMacLo, P.netMacHi, P.netLink, P.netSessions, P.netFlags, P.netRxMsgs, P.netTxMsgs, P.netTagFails, P.netDuplicates, P.netRxDiscarded, P.netCanReasmFails, P.netSessId, P.netSessInfo]

/-- The parameters of the EVC block (R43). -/
def blockEvc : List Param :=
  [P.evcSeq, P.evcQNow, P.evcQPeak, P.evcClr, P.evcDropped, P.evcFlags, P.evcRoute, P.evcCount, P.evcLast]

/-- The parameters of the LOG block (R43). -/
def blockLog : List Param :=
  [P.logRate, P.logBurst, P.logWarnFill, P.logOldest, P.logNext, P.logFill, P.logState, P.logFlags, P.logSuppressed, P.logNotRecorded, P.logOverflows, P.logClears, P.logOpSec, P.logCycles, P.logCursor, P.logWinFirst, P.logWinCount, P.logWinClears, P.logWindow]

/-- The parameters of the SEC block (R43). -/
def blockSec : List Param :=
  [P.secState, P.secSlots, P.secSlotRole, P.secVkeys, P.secFwRollback, P.secFwVersion, P.secProvCount, P.secEraseCount, P.secEraseCause, P.secSerialLo, P.secSerialHi, P.secIdPub, P.secFlags, P.secUpdState, P.secUpdReason, P.secUpdOffset, P.secUpdLen, P.secUpdSession]

/-- The parameters of the BIST block (R43). -/
def blockBist : List Param :=
  [P.bistState, P.bistSafeCause, P.bistStartCause, P.bistStartMs, P.bistCoverage, P.bistDeep, P.bistDeepRes, P.bistFlags, P.bistRes, P.bistUnit, P.bistUnits, P.bistMsSeq, P.bistMsT, P.bistMsFails, P.bistLife, P.bistUnacc, P.bistUnaccFirst]

/-- The parameters of the PERF block (R43). -/
def blockPerf : List Param :=
  [P.perfSnap, P.perfSnapT, P.perfSnapSeq, P.perfSmpSeq, P.perfSmpLost, P.perfTagCfg, P.perfLedgerLent, P.perfFlags, P.perfMSel, P.perfMCntLo, P.perfMCntHi, P.perfTCycLo, P.perfTCycHi, P.perfTWorkLo, P.perfTWorkHi, P.perfTVoidLo, P.perfTVoidHi, P.perfTUnfedLo, P.perfTUnfedHi, P.perfTWaitNearLo, P.perfTWaitNearHi, P.perfTWaitFarLo, P.perfTWaitFarHi, P.perfTWaitMemLo] ++
  [P.perfTWaitMemHi, P.perfTWaitOutLo, P.perfTWaitOutHi, P.perfTSel, P.perfTPeriod, P.perfTCntLo, P.perfTCntHi, P.perfCwDepth, P.perfCwThr, P.perfCwAbove, P.perfCwCross, P.perfRing, P.perfHJob, P.perfHLine, P.perfHDec]

/-- The block that an address lies in, by its base (R43). -/
def blockAt (a : Nat) : List Param :=
  match a / 0x1000000 with
  | 0 => blockSys
  | 1 => blockToll
  | 2 => blockCam
  | 3 => blockBg
  | 4 => blockCell
  | 5 => blockFus
  | 6 => blockTrk
  | 7 => blockEj
  | 8 => blockVlv
  | 9 => blockLsw
  | 10 => blockLoop
  | 11 => blockAin
  | 12 => blockGnss
  | 13 => blockTime
  | 14 => blockCan
  | 15 => blockNet
  | 16 => blockEvc
  | 17 => blockLog
  | 18 => blockSec
  | 19 => blockBist
  | 20 => blockPerf
  | _ => []

/-- Every calibration parameter (R53) with the place of its CALF words in the owning chapter. -/
def calTable : List Cal :=
  [{ par := P.camLatNow, kind := .add, cbase := 0x20200000, cs1 := 0x40000, cs2 := 0, lo := 0, hi := 2000000 },
   { par := P.camBlackNow, kind := .add, cbase := 0x20200004, cs1 := 0x40000, cs2 := 4, lo := 0, hi := 65535 },
   { par := P.camFfNow, kind := .mul, cbase := 0x20210000, cs1 := 0x40000, cs2 := 4, lo := 0, hi := 65535 },
   { par := P.camDarkNow, kind := .add, cbase := 0x20220000, cs1 := 0x40000, cs2 := 4, lo := -32768, hi := 32767 },
   { par := P.bgUniNow, kind := .mul, cbase := 0x20400000, cs1 := 0x80000, cs2 := 4, lo := 0, hi := 65535 },
   { par := P.fusHNow, kind := .replace, cbase := 0x20500000, cs1 := 0x4, cs2 := 0, lo := 0, hi := 400000 },
   { par := P.fusGeoNow, kind := .replace, cbase := 0x20510000, cs1 := 0x10000, cs2 := 4, lo := 0, hi := 16777215 },
   { par := P.vlvDcal, kind := .add, cbase := 0x20800020, cs1 := 0x40, cs2 := 0, lo := 0, hi := 8191 },
   { par := P.vlvDhsCal, kind := .add, cbase := 0x20800024, cs1 := 0x40, cs2 := 0, lo := 0, hi := 8191 },
   { par := P.vlvDoff, kind := .add, cbase := 0x20800028, cs1 := 0x40, cs2 := 0, lo := 0, hi := 8191 },
   { par := P.vlvAirLat, kind := .add, cbase := 0x2080002C, cs1 := 0x40, cs2 := 0, lo := 0, hi := 8191 },
   { par := P.vlvRes, kind := .mul, cbase := 0x20800030, cs1 := 0x40, cs2 := 0, lo := 8000, hi := 60000 },
   { par := P.vlvLOpen, kind := .replace, cbase := 0x20800034, cs1 := 0x40, cs2 := 0, lo := 1000, hi := 40000 },
   { par := P.vlvLClosed, kind := .replace, cbase := 0x20800038, cs1 := 0x40, cs2 := 0, lo := 1000, hi := 40000 },
   { par := P.vlvIsense, kind := .mul, cbase := 0x2080003C, cs1 := 0x40, cs2 := 0, lo := 32768, hi := 131072 },
   { par := P.vlvPIsense, kind := .mul, cbase := 0x2090003C, cs1 := 0x40, cs2 := 0, lo := 32768, hi := 131072 },
   { par := P.lswIsense, kind := .mul, cbase := 0x20A00054, cs1 := 0x80, cs2 := 0, lo := 32768, hi := 131072 },
   { par := P.ainGain, kind := .mul, cbase := 0x20B00030, cs1 := 0x40, cs2 := 0, lo := 32768, hi := 131072 },
   { par := P.ainOfs, kind := .add, cbase := 0x20B00034, cs1 := 0x40, cs2 := 0, lo := -32768, hi := 32767 },
   { par := P.gnssDlyNow, kind := .add, cbase := 0x20C00000, cs1 := 0x0, cs2 := 0, lo := 0, hi := 65535 },
   { par := P.gnssDlyL5Now, kind := .add, cbase := 0x20C00004, cs1 := 0x0, cs2 := 0, lo := -32768, hi := 32767 },
   { par := P.timeTcxoCal, kind := .add, cbase := 0x20D00010, cs1 := 0x0, cs2 := 0, lo := -2147483648, hi := 2147483647 },
   { par := P.timePtpIng1g, kind := .add, cbase := 0x20D00000, cs1 := 0x0, cs2 := 0, lo := 0, hi := 4095 },
   { par := P.timePtpEgr1g, kind := .add, cbase := 0x20D00004, cs1 := 0x0, cs2 := 0, lo := 0, hi := 4095 },
   { par := P.timePtpIng100, kind := .add, cbase := 0x20D00008, cs1 := 0x0, cs2 := 0, lo := 0, hi := 4095 },
   { par := P.timePtpEgr100, kind := .add, cbase := 0x20D0000C, cs1 := 0x0, cs2 := 0, lo := 0, hi := 4095 },
   { par := P.canRxLat, kind := .add, cbase := 0x20E00000, cs1 := 0x4, cs2 := 0, lo := 0, hi := 4095 }]

end Sys2Proof.Machine
end

