-- ==== Sys2Proof/Machine/Regs.lean ====
section
/-!
DEFINITION. Machine/Regs.lean: the parameter space as a store (R9 to R11, R43): where a parameter lies, its default,
its range, and the canonical list that holds the words that differ from their defaults.
-/
namespace Sys2Proof.Machine

/-- The address of element (i, j) of a parameter. -/
def Param.addr (p : Param) (i : Nat := 0) (j : Nat := 0) : Nat := p.base + i * p.s1 + j * p.s2

/-- The element of a parameter that lies at an address. -/
def Param.find (p : Param) (a : Nat) : Option (Nat × Nat) :=
  if a < p.base then none
  else
    let d := a - p.base
    let i := if p.n1 ≤ 1 then 0 else d / p.s1
    let r := if p.n1 ≤ 1 then d else d % p.s1
    let j := if p.n2 ≤ 1 then 0 else r / p.s2
    let z := if p.n2 ≤ 1 then r else r % p.s2
    if z = 0 && i < p.n1 && j < p.n2 && p.i0 ≤ i then some (i, j) else none

/-- The parameter at an address, with its element; none where no chapter assigns the address (R43). -/
def paramAt (a : Nat) : Option (Param × Nat × Nat) :=
  (blockAt a).findSome? (fun p => (p.find a).map (fun ij => (p, ij)))

/-- Default of EVC_ROUTE of a source: FW, STREAM, RECORD and the priority of R388; a source marked "none" reads 0. -/
def routeDefault (s : Nat) : Nat :=
  if s ≤ 6 || s = 8 then 0x07
  else if s < 16 then 0
  else if s < 26 then 0x17
  else if s < 32 then 0
  else if s < 48 then 0x17
  else if s < 56 then 0x27
  else if s < 64 then 0
  else if s < 68 then 0x27
  else if s < 78 then 0x17
  else if s < 80 then 0
  else if s < 88 then 0x17
  else if s = 89 || s = 94 || s = 95 then 0
  else if s < 102 then 0x27
  else if s < 104 then 0
  else if s < 109 then 0x17
  else if s < 112 then 0
  else if s < 120 then 0x27
  else if s < 126 then 0x07
  else 0

/-- The default of element (i, j) of a parameter (the Default column). Causeway 0 is 64 deep, as chapter 20's worked example says (log 132). -/
def Param.dfltAt (p : Param) (i j : Nat) : Word :=
  match p.dflt with
  | .c v => w32 (toU p.w v)
  | .ls l => w32 (toU p.w (l.getD i 0))
  | .split n a b => w32 (toU p.w (if i < n then a else b))
  | .matrix => if j % 4 < 3 && j / 4 = j % 4 then 4096#32 else 0#32
  | .tone => w32 (16 * (2 * (j % 2048)) + 65536 * (16 * (2 * (j % 2048) + 1)))
  | .route => w32 (routeDefault i)
  | .depth => if i = 0 then 64#32 else w32 (1 + (Config.causewayDepth i).toNat % 4095)

/-- The default of the word at an address; an address that no chapter assigns reads zero (R43). -/
def dfltAt (a : Nat) : Word :=
  match paramAt a with
  | some (p, i, j) => p.dfltAt i j
  | none => 0#32

/-! ### The store -/

/-- The words that differ from their defaults, addresses strictly rising. -/
abbrev Store := List (Nat × Word)

/-- The entry of an address in a store. -/
def Store.look : Store → Nat → Option Word
  | [], _ => none
  | (b, w) :: r, a => if b = a then some w else Store.look r a

/-- The word at an address. -/
def Store.get (s : Store) (a : Nat) : Word := (Store.look s a).getD (dfltAt a)

/-- A store without the entry of an address. -/
def Store.del : Store → Nat → Store
  | [], _ => []
  | (b, w) :: r, a => if b = a then r else if a < b then (b, w) :: r else (b, w) :: Store.del r a

/-- A store with an entry for an address. -/
def Store.ins : Store → Nat → Word → Store
  | [], a, v => [(a, v)]
  | (b, w) :: r, a, v =>
    if b = a then (a, v) :: r else if a < b then (a, v) :: (b, w) :: r else (b, w) :: Store.ins r a v

/-- A store with a word written: the default removes the entry, so that equal stores are equal lists. -/
def Store.put (s : Store) (a : Nat) (v : Word) : Store :=
  if v = dfltAt a then Store.del s a else Store.ins s a v

/-- The canonical form: addresses strictly rising from `lo`, no entry at its default. -/
def Store.wfFrom : Nat → Store → Bool
  | _, [] => true
  | lo, (a, w) :: r => lo ≤ a && w ≠ dfltAt a && Store.wfFrom (a + 1) r

/-- A store in canonical form. -/
def Store.wf (s : Store) : Bool := Store.wfFrom 0 s

/-- The canonical form of a store: of several entries for one address the first stands. A store in canonical form is itself. -/
def Store.canon (s : Store) : Store := if Store.wf s then s else s.foldr (fun e acc => Store.put acc e.1 e.2) []

/-! ### Ranges (the Range column, R44, R486) -/

/-- A word read as the parameter's value, signed where the parameter is. -/
def Param.val (p : Param) (w : Word) : Int := if p.sg then sext p.w w.toNat else (w.toNat : Int)

/-- A bound's value under the getter `g`, for element `i` (R486). -/
def Bound.eval (g : Nat → Word) (i : Nat) : Bound → Int
  | .c v => v
  | .p base rel mul add =>
    match paramAt base with
    | some (q, i0, j0) =>
      let a := q.addr (if rel then i else i0) j0
      q.val (g a) * mul + add
    | none => add

/-- A source code of R276 that its table lists. -/
def srcOk (c : Nat) : Bool :=
  let k := field c 15 12
  let x := field c 11 0
  match k with
  | 0 => x = 0
  | 1 => x < 32
  | 2 => x < 8
  | 3 => x < 8
  | 4 => x < 16
  | 5 => 1 ≤ x && x < 64
  | 6 => x / 8 ≤ 8 && x % 8 ≤ 4
  | 7 => field x 7 6 ≤ 2 && field x 5 5 = 0 && field x 4 0 ≤ 16
  | 8 => x ≤ 5
  | _ => false

/-- An event that a counter of R456 may select: tower codes, module codes. -/
def perfCodeOk (tower : Bool) (c : Nat) : Bool :=
  c = 0 || (if tower then 1 ≤ c && c ≤ 0x10 else 0x40 ≤ c && c ≤ 0x45)

/-- A contiguous network mask. -/
def maskOk (v : Nat) : Bool := (List.range 33).any (fun n => v = 2 ^ 32 - 2 ^ (32 - n))

/-- The ranges that a chapter states in words ("ascending" admits equal neighbours: DESIGN CHOICE, log 131), for element (i, j) and value word `w`; `g` reads other parameters. -/
def specialRange (k : SpRng) (g : Nat → Word) (i j : Nat) (w : Nat) : Bool :=
  match k with
  | .recipeStart => w ≤ 15 || w = 255
  | .camSamples =>
    let f := (g (P.camFormat.addr i)).toNat
    16 ≤ w && w * (if f.testBit 4 then 3 else 1) ≤ 16384
  | .camMatrix =>
    j % 4 = 3 || w < 65536
  | .camFormat => field w 2 0 ≤ 4
  | .camTpl =>
    match j % 32 with
    | 0 => (1 ≤ field w 7 0 || (g (P.camTplCount.addr i)).toNat ≤ j / 32) && field w 7 0 ≤ 96 && field w 15 8 ≤ 8 && field w 23 16 ≤ 4 && field w 31 24 ≤ 2
    | 3 => field w 7 0 ≤ 7 && field w 23 16 ≤ 3
    | 4 => field w 7 0 ≤ 7 && field w 23 16 ≤ 3
    | 5 => field w 7 0 ≤ 7 && field w 23 16 ≤ 3
    | 6 => field w 7 0 ≤ 7 && field w 23 16 ≤ 3
    | 7 => w = 0
    | _ => true
  | .vlvBand =>
    let v := sext 16 w
    let before := if i = 0 then (-400 : Int) else sext 16 (g (P.vlvBandT.addr (i - 1))).toNat
    let after := if i = 2 then (1800 : Int) else sext 16 (g (P.vlvBandT.addr (i + 1))).toNat
    before ≤ v && v ≤ after && v ≤ 1800
  | .vlvClr => w.testBit 15 || field w 8 0 < 384
  | .lswClr => w.testBit 15 || field w 4 0 < 24
  | .loopSrc => srcOk w
  | .loopTbl => field w 31 28 ≤ 8 && srcOk (field w 15 0)
  | .loopTrCfg => w = 0 || (1 ≤ field w 7 0 && field w 23 20 ≤ 10 && field w 19 16 ≤ 10 && field w 15 12 ≤ 10
      && field w 11 8 ≤ 10)
  | .loopTrTrig => true
  | .encCfg => w = 0 || 1 ≤ field w 7 0
  | .frqCfg => w = 0 || 1 ≤ field w 7 0
  | .gnssNarrow => 8 ≤ field w 7 0 && field w 7 0 ≤ 128 && 8 ≤ field w 15 8 && field w 15 8 ≤ 128
  | .ptpCfg => field w 15 8 ≤ 127 && (field w 5 4 ≠ 3 || field w 15 8 = 0)
  | .ptpIntv => true
  | .timeOutCfg => field w 2 1 ≤ 2
  | .canNbt => 1 ≤ field w 23 16 && 1 ≤ field w 15 9 && field w 6 0 ≤ field w 15 9
      && (let d := (field w 31 24 + 1) * (3 + field w 23 16 + field w 15 9)
          80 ≤ d && d ≤ 8000)
  | .canDbt => field w 3 0 ≤ field w 11 8
      && (let d := (field w 28 24 + 1) * (3 + field w 20 16 + field w 11 8)
          let n := (g (P.canNbt.addr i)).toNat
          16 ≤ d && d ≤ (field n 31 24 + 1) * (3 + field n 23 16 + field n 15 9))
  | .canIsoAddr => field w 23 16 ≤ 253 && field w 15 8 ≤ 253 && field w 7 0 ≤ 253
  | .canRule =>
    match j % 4 with
    | 0 => w < 2 ^ 29
    | 1 => w < 2 ^ 29
    | 2 => w < 64
    | _ => w < 16
  | .unicast => 0x01000000 ≤ w && w < 0xE0000000
  | .netMask => maskOk w
  | .perfM => perfCodeOk false (field w 7 0)
  | .perfT => perfCodeOk true (field w 7 0)
  | .perfTag => 64 ≤ field w 23 0

/-- The value word `w` of element (i, j) lies in the parameter's range, other parameters read through `g`. -/
def Param.inRange (p : Param) (g : Nat → Word) (i j : Nat) (w : Word) : Bool :=
  let v := p.val w
  match p.rng with
  | .any => true
  | .lim lo hi m => lo.eval g i ≤ v && v ≤ hi.eval g i && v % (m : Nat) = 0
  | .or0 lo hi => w.toNat = 0 || (lo ≤ w.toNat && w.toNat ≤ hi)
  | .split n lo1 hi1 lo2 hi2 =>
    if i < n then lo1.eval g i ≤ v && v ≤ hi1.eval g i else lo2.eval g i ≤ v && v ≤ hi2.eval g i
  | .sp k => specialRange k g i j w.toNat

/-- The defined bits of element `i`: a source without events has a reserved EVC_ROUTE (R388). -/
def Param.maskAt (p : Param) (i : Nat) : Nat := if p.dflt = .route && routeDefault i = 0 then 0 else p.mask

/-- Reserved bits of a parameter's element are clear in `w` (R10). -/
def Param.bitsOk (p : Param) (i : Nat) (w : Word) : Bool := w.toNat &&& p.maskAt i = w.toNat

/-! ### Calibration words (R53) -/

/-- The calibration parameter at a CALF address, with its element. -/
def calAt (a : Nat) : Option (Cal × Nat × Nat) :=
  calTable.findSome? (fun c =>
    let q : Param := { base := c.cbase, n1 := c.par.n1, s1 := c.cs1, n2 := c.par.n2, s2 := c.cs2 }
    (q.find a).map (fun ij => (c, ij)))

/-- The default CALU word of a calibration parameter (R53). -/
def caluDflt (k : CalKind) : Word :=
  match k with
  | .add => 0#32
  | .mul => 0x00010000#32
  | .replace => 0xFFFFFFFF#32

/-- A CALU word is legal for its kind (R53). -/
def caluOk (c : Cal) (w : Word) : Bool :=
  match c.kind with
  | .add =>
    let u := sext 32 w.toNat
    c.lo - c.hi ≤ u && u ≤ c.hi - c.lo
  | .mul => 0x8000 ≤ w.toNat && w.toNat ≤ 0x20000
  | .replace => w = 0xFFFFFFFF#32 || (c.lo ≤ (w.toNat : Int) && (w.toNat : Int) ≤ c.hi)

/-- The value in force from the factory word and the user word (R53). -/
def calCombine (c : Cal) (f u : Word) : Int :=
  let fv : Int := if c.lo < 0 then sext 32 f.toNat else f.toNat
  match c.kind with
  | .add => clampI c.lo c.hi (fv + sext 32 u.toNat)
  | .mul => clampI c.lo c.hi (rdiv (fv * (u.toNat : Int)) 65536)
  | .replace => if u = 0xFFFFFFFF#32 then fv else u.toNat

end Sys2Proof.Machine
end

