-- ==== Sys2Proof/Machine/State.lean ====
section
/-!
DEFINITION. Machine/State.lean: everything the spec gives the module, as plain data, and the state at reset.
The register store `regs` holds every parameter that stands at another value than its default; the structures hold
the state behind computed parameters. INVENTORY.md lists both with their rules and reset values.
-/
namespace Sys2Proof.Machine

/-! ### Events and the recorder (chapters 16 and 17) -/

/-- An event as a block raises it (R383), before the event controller numbers it. `norec` marks a record that
the recorder has already written itself (R397). -/
structure Raised where
  src : Nat
  code : Nat
  data : List Byte
  norec : Bool
deriving DecidableEq, Repr

/-- An event in the delivery queue or a stream buffer (R384, R386). -/
structure Ev where
  /-- EVT_SEQ (R383). -/
  seq : Nat
  code : Nat
  src : Nat
  /-- Priority of the source when raised (R384). -/
  prio : Nat
  /-- Extended raw count at raising (R383). -/
  raw : Nat
  /-- TIME_VALID at raising. -/
  valid : Bool
  /-- TIME_HELD at raising (R330). -/
  held : Bool
  /-- RECORDED: the event reached the recorder's input queue. -/
  recorded : Bool
  /-- The source's routes: FW and STREAM. -/
  fw : Bool
  stream : Bool
  /-- Reported time in ns since the PTP epoch (R321). -/
  rep : Nat
  /-- Record data, packed in order. -/
  data : List Byte
deriving DecidableEq, Repr

/-- An event numbered in the running 1 µs tick, by what orders it there (R383). -/
structure Ticked where
  prio : Nat
  src : Nat
  code : Nat
  seq : Nat
deriving DecidableEq, Repr

/-- The account of an event raised at most once per second (R488). -/
structure Once where
  src : Nat
  code : Nat
  key : Nat
  /-- The interval in which it was last raised. -/
  last : Option Nat
  /-- Occurrences since it was last raised. -/
  count : Nat
deriving DecidableEq, Repr

/-- The event controller (R383 to R391). -/
structure EvcSt where
  /-- EVC_SEQ: events raised since start (R383). Reset 0. -/
  seq : Nat := 0
  /-- The delivery queue of 4,096 events, oldest first (R384). Reset empty. -/
  q : List Ev := []
  /-- EVC_Q_PEAK (R391). Reset 0. -/
  peak : Nat := 0
  /-- EVC_DROPPED_0 to _3 (R391). Reset 0. -/
  dropped : List Nat := [0, 0, 0, 0]
  /-- EVC_FLAGS.DROP (R391). Reset 0. -/
  dropFlag : Bool := false
  /-- EVC_COUNT of source s, as pairs of source and count (R391). Reset 0. -/
  counts : List (Nat × Nat) := []
  /-- EVC_LAST of source s: source, code, raw count (R391). Reset 0. -/
  last : List (Nat × Nat × Nat) := []
  /-- Events raised within the step that is running, not yet numbered (R383). Reset empty. -/
  raised : List Raised := []
  /-- Once-per-second accounts (R488). Reset empty. -/
  once : List Once := []
  /-- Events numbered in one tick, in the order of their numbers, and that tick in µs (R383). Reset empty, 0. -/
  tick : List Ticked := []
  tickAt : Nat := 0
deriving DecidableEq, Repr

/-- One record of the recorder (R392). -/
structure Rec where
  seq : Nat
  opSec : Nat
  cycle : Nat
  valid : Bool
  held : Bool
  trunc : Bool
  internal : Bool
  prio : Nat
  code : Nat
  src : Nat
  /-- CHECK as it stands in MRAM (R392). -/
  check : Nat
  time : Nat
  data : List Byte
deriving DecidableEq, Repr

/-- The token bucket of one pair of source and code (R398) with its suppressions of the interval (R399). -/
structure Bucket where
  src : Nat
  code : Nat
  tokens : Nat
  suppressed : Nat
deriving DecidableEq, Repr

/-- The recorder (R392 to R406). -/
structure LogSt where
  /-- OLDEST (R394). Reset 0. -/
  oldest : Nat := 0
  /-- NEXT (R394). Reset 0. -/
  next : Nat := 0
  /-- LOG_CLEARS (R404). Reset 0. -/
  clears : Nat := 0
  /-- The input queue of 256 entries, oldest first (R396). Reset empty. -/
  q : List Rec := []
  /-- Token buckets that are not full or hold suppressions (R398). Reset empty: every bucket is full. -/
  buckets : List Bucket := []
  /-- LOG_STATE.FULL (R400). Reset 0. -/
  full : Bool := false
  /-- LOG_STATE.WARNED (R401). Reset 0. -/
  warned : Bool := false
  /-- LOG_FLAGS (R406). Reset 0. -/
  flags : Nat := 0
  /-- LOG_SUPPRESSED (R398). Reset 0. -/
  suppressed : Nat := 0
  /-- LOG_NOT_RECORDED (R400). Reset 0. -/
  notRecorded : Nat := 0
  /-- LOG_OVERFLOWS (R396). Reset 0. -/
  overflows : Nat := 0
  /-- Operating seconds (R393). Reset 0, from MRAM. -/
  opSec : Nat := 0
  /-- Power-cycle count (R393). Reset 0, from MRAM. -/
  cycles : Nat := 0
  /-- LOG_WIN_FIRST (R403). Reset 0. -/
  winFirst : Nat := 0
  /-- The records loaded into LOG_WINDOW (R403). Reset empty. -/
  window : List Rec := []
  /-- LOG_WIN_CLEARS (R403). Reset 0. -/
  winClears : Nat := 0
  /-- Tokens that have fallen due since start, intervals that have ended, operating seconds counted since start (R393, R398,
  R399). Reset 0. -/
  toks : Nat := 0
  ivals : Nat := 0
  secs : Nat := 0
  /-- The recorder has its pointers and counts from MRAM and writes (R393 to R395). Reset false. -/
  ready : Bool := false
  /-- LOG_WARN_FILL has its start value: the fill is judged (R401). Reset false. -/
  judged : Bool := false
  /-- Records of the recorder's own that wait until it writes (R394). Reset empty. -/
  early : List Rec := []
deriving DecidableEq, Repr

/-! ### Volron (chapter 16) -/

/-- A session's event subscription (R385). -/
structure Sub where
  mask : Nat
  maxPrio : Nat
deriving DecidableEq, Repr

/-- A message that the module sends (R367). `kind` is 1 for a reply and 2 for a stream message. -/
structure OutMsg where
  tr : Nat
  peer : Nat
  typ : Nat
  kind : Nat
  sid : Nat
  seq : Nat
  body : List Byte
  tag : List Byte
deriving DecidableEq, Repr

/-- A CAN frame as the receive ring holds it (R351). -/
structure CanEntry where
  stamp : Nat
  seq : Nat
  id : Nat
  ext : Bool
  fd : Bool
  brs : Bool
  esi : Bool
  tx : Bool
  rtr : Bool
  dlc : Nat
  data : List Byte
deriving DecidableEq, Repr

/-- A session, pending after CHALLENGE or open after AUTH (R369, R370). -/
structure Session where
  /-- Slot 0 to 7 (R390). -/
  idx : Nat
  /-- SESSION. -/
  id : Nat
  opened : Bool
  /-- Key slot and role of the HELLO. -/
  slot : Nat
  role : Nat
  /-- Transport: 0 UDP main, 1 UDP service, 2 to 5 CAN 0 to 3, 6 ISO 11783 (R390). -/
  tr : Nat
  peer : Nat
  /-- K_s (R369). -/
  key : List Byte
  nonceC : List Byte
  nonceM : List Byte
  /-- When CHALLENGE was sent, and when the last message was accepted. -/
  since : Nat
  lastMsg : Nat
  /-- The latest accepted SEQ (R372). -/
  lastSeq : Option Nat := none
  /-- Replies of the last 16 accepted requests, newest first (R372). -/
  cache : List (Nat × OutMsg) := []
  sub : Option Sub := none
  /-- The stream buffer of 256 events (R385). -/
  buf : List Ev := []
  /-- Discards to report in LOST (R385). -/
  lost : Nat := 0
  /-- Stream message number of the last message sent (R386). -/
  msgNo : Nat := 0
  /-- The last 16 stream messages (R387). -/
  held : List OutMsg := []
  /-- Channel mask of FRAME_SUBSCRIBE (R380). -/
  frames : Nat := 0
deriving DecidableEq, Repr

/-- A CAL_WRITE group that is being written to the store (R55, R373). -/
structure CalGroup where
  sid : Nat
  seq : Nat
  tr : Nat
  peer : Nat
  words : List (Nat × Word)
deriving DecidableEq, Repr

/-- A message in reassembly on a CAN transport (R365). -/
structure Reasm where
  ch : Nat
  peer : Nat
  tag : Nat
  next : Nat
  last : Nat
  bytes : List Byte
deriving DecidableEq, Repr

/-- Failed AUTH steps of one address (R371). -/
structure AuthFails where
  tr : Nat
  addr : Nat
  times : List Nat
deriving DecidableEq, Repr

/-- A learned MAC address (R364). -/
structure MacEntry where
  mac : Nat
  port : Nat
  seen : Nat
deriving DecidableEq, Repr

/-- Volron and the Ethernet ports (R363 to R390). -/
structure NetSt where
  /-- Sessions, pending and open (R370). Reset empty. -/
  sessions : List Session := []
  /-- Requests received while another executes, each with the raw count of its complete receipt (R369, R373). Reset empty. -/
  waiting : List (Nat × Msg) := []
  /-- The CAL_WRITE in execution (R373). Reset none. -/
  cal : Option CalGroup := none
  /-- Failed AUTH steps (R371). Reset empty. -/
  fails : List AuthFails := []
  /-- Addresses whose HELLO is refused: transport, address, until (R371). Reset empty. -/
  locked : List (Nat × Nat × Nat) := []
  /-- Messages sent, in order (the model's record of what leaves the module). Reset empty. -/
  sent : List OutMsg := []
  /-- Messages in reassembly (R365). Reset empty. -/
  reasm : List Reasm := []
  /-- The switch's learned addresses, at most 1,024 (R364). Reset empty. -/
  macs : List MacEntry := []
  /-- Ports that failed test 13: 0, 1, and 2 for the service port (R411). Reset empty. -/
  ethBad : List Nat := []
  /-- Ethernet frames that left a port: port and frame bytes (R364). Reset empty. -/
  ethOut : List (Nat × List Byte) := []
deriving DecidableEq, Repr

/-! ### Timebase (chapter 14) -/

/-- A dataset that a PTP master announces (R335), in the order of the best master comparison. -/
structure PtpData where
  prio1 : Nat
  cls : Nat
  accuracy : Nat
  variance : Nat
  prio2 : Nat
  identity : Nat
  steps : Nat
  source : Nat
deriving DecidableEq, Repr

/-- What a port last announced (R335): dataset, currentUtcOffset, whether it is valid, and the announced change of the leap second: one
taken away or one added. -/
structure PtpSaid where
  data : PtpData
  utc : Nat
  utcValid : Bool
  leap59 : Bool
  leap61 : Bool
deriving DecidableEq, Repr

/-- A PTP message that a port has sent (R333, R334): its port, its type as `PtpMsg` numbers it, its sequence, the timestamp it carries in ns of
the PTP timescale, its correction in ns, the port that it answers. -/
structure PtpTx where
  port : Nat
  kind : Nat
  seq : Nat := 0
  time : Int := 0
  corr : Int := 0
  req : Nat := 0
deriving DecidableEq, Repr

/-- One PTP port (R332 to R336). -/
structure PtpPort where
  /-- portState (R344), 1 INITIALIZING to 9 SLAVE. Reset 1. -/
  st : Nat := 1
  /-- The best announced dataset whose receipt has not timed out. Reset none. -/
  best : Option PtpData := none
  /-- The port whose announcement that is, the parent (R333, R335). Reset 0. -/
  parent : Nat := 0
  /-- Measurements of the offset, at most 16, newest first (R326). Reset empty. -/
  offsets : List Int := []
  /-- The filtered offsets of the last measurements, at most 16, newest first (R326). Reset empty. -/
  filtered : List Int := []
  /-- Offsets above 1 ms that agree and await confirmation, newest first (R332). Reset empty. -/
  conf : List Int := []
  /-- Event 0x0812 has been raised for the offset awaited (R332). Reset false. -/
  confRaised : Bool := false
  /-- A two-step Sync awaiting its Follow_Up: sequence and corrected ingress count. Reset none. -/
  pendSync : Option (Nat × Int) := none
  /-- Sync's origin time and its ingress count: t1 and t2 (R334). Reset none. -/
  sync : Option (Int × Int) := none
  /-- The delay request sent: sequence and corrected egress count (R334). Reset none. -/
  delayReq : Option (Nat × Int) := none
  /-- A two-step peer delay response awaiting its follow-up: sequence, receipt time, own ingress count. Reset none. -/
  pdelay : Option (Nat × Int × Int) := none
  /-- meanPathDelay in ns. Reset 0. -/
  delay : Int := 0
  /-- Event 0x0811 has been raised for this master (R335). Reset false. -/
  foreign : Bool := false
  /-- Sequence number of the next message the port sends. Reset 0. -/
  txSeq : Nat := 0
  /-- The raw count of the last announce received (R336). Reset 0. -/
  annAt : Nat := 0
  /-- The raw counts of the last announce, sync and delay request sent (R344). Reset none. -/
  sentAt : List (Option Nat) := [none, none, none]
  /-- What the port last announced (R335). Reset none. -/
  said : Option PtpSaid := none
deriving DecidableEq, Repr

/-- One time output (R339). -/
structure TimeOut where
  armed : Bool := false
  /-- The next instant on the output's base. -/
  next : Nat := 0
  /-- The output's level, active true. -/
  level : Bool := false
  /-- The raw count of the last leading edge. -/
  lastEdge : Option Nat := none
deriving DecidableEq, Repr

/-- A backward step's hold (R330): the boundary S in ns, its end, the amount. -/
structure Hold where
  s : Nat
  until_ : Nat
  amount : Nat
deriving DecidableEq, Repr

/-- The timebase (R320 to R344). -/
structure TimeSt where
  /-- The mapping offset O in ns (R322). Reset 0. -/
  ofs : Int := 0
  /-- The latched TIME_RAW_HI (R323). Reset 0. -/
  rawHi : Nat := 0
  /-- Seconds bits 47 to 32 and nanoseconds latched by a read of TIME_SEC_LO (R344). Reset 0. -/
  secHi : Nat := 0
  ns : Nat := 0
  /-- State: 0 FREE_RUN, 1 LOCKED, 2 HOLDOVER, 3 HOLD (R326). Reset 0. -/
  st : Nat := 0
  /-- Source in force: 0 none, 1 GNSS, 2 and 3 PTP port 0 and 1 (R344). Reset 0. -/
  src : Nat := 0
  /-- The source from which the time held in HOLDOVER came (R304). Reset 0. -/
  from_ : Nat := 0
  /-- TIME_VALID (R327). Reset released. -/
  valid : Bool := false
  /-- The TIME_VALID output conducts (R341). Reset open. -/
  validOut : Bool := false
  /-- The timebase has been set at least once (R327). Reset false. -/
  isSet : Bool := false
  /-- Slew in progress: when it began and when it was last advanced (R328). Reset none, 0. -/
  slew : Option Nat := none
  slewAt : Nat := 0
  /-- What the slew has taken beyond whole ns, in 10^-9 ns (R328). Reset 0. -/
  slewRem : Nat := 0
  /-- The source has been gained or regained, and its first offset is awaited (R328). Reset false. -/
  gained : Bool := false
  /-- A step awaiting its second boundary (R329). Reset none. -/
  step : Option Int := none
  /-- The hold of a backward step (R330). Reset none. -/
  hold : Option Hold := none
  /-- A source awaiting the set of R331: source, and its time minus the raw count. Reset none. -/
  toSet : Option (Nat × Int) := none
  /-- Source σ in ns (R326). Reset 0. -/
  sigma : Nat := 0
  /-- ε at the last discipline update and its extended raw count (R326). Reset 0. -/
  epsL : Nat := 0
  lastDisc : Nat := 0
  /-- Frequency terms of the last TIME_HO_AVG_S, newest first: count and term (R326). Reset empty. -/
  freqs : List (Nat × Int) := []
  /-- GNSS is available (R325). Reset false. -/
  gnssAvail : Bool := false
  /-- The last GNSS offset, source time minus raw count. Reset 0. -/
  gnssOfs : Int := 0
  /-- PTP ports 0 and 1 (R333). -/
  ports : List PtpPort := [{}, {}]
  /-- The raw count of the last update of ε, and the last 64 updates, newest first (R309, R326). Reset 0, empty. -/
  epsAt : Nat := 0
  epsLog : List (Nat × Nat) := []
  /-- The receiver has decoded the leap-second count (R335). Reset false. -/
  leapKnown : Bool := false
  /-- The change that TIME_LEAP announces takes a second away (R335). Reset false. -/
  leapDown : Bool := false
  /-- The second of reported time whose boundary PPS has last met (R337, R338). Reset none. -/
  ppsSec : Option Nat := none
  /-- PPS level and the raw count of its last edge (R337, R338). Reset low, none. -/
  pps : Bool := false
  ppsLast : Option Nat := none
  /-- TIME_OUT0 to TIME_OUT3 (R339). Reset inactive. -/
  outs : List TimeOut := [{}, {}, {}, {}]
  /-- The raw counts of the last edge at each capture input (R340). Reset none. -/
  capLast : List (Option Nat) := [none, none, none, none]
  /-- PTP messages sent (the model's record of output). Reset empty. -/
  sent : List PtpTx := []
deriving DecidableEq, Repr

/-! ### Road book, recipes, dials (chapter 2) -/

/-- A RECIPE record (R41). -/
structure Recipe where
  idx : Nat
  gnss : Nat
  /-- DEFAULT_ACTION: 0 ACCEPT, 1 REJECT. -/
  dflt : Nat
  models : List Nat
  /-- The payload as it reads back (R45). -/
  payload : List Byte
deriving DecidableEq, Repr

/-- A DIALDEF record (R42). -/
structure DialDef where
  dial : Nat
  keep : Bool
  persist : Bool
  signed : Bool
  role : Nat
  hi : Nat
  lo : Nat
  target : Nat
  min : Nat
  max : Nat
  step : Nat
  interval : Nat
deriving DecidableEq, Repr

/-- A MODEL record's header as the module keeps it (R40, R45). -/
structure Model where
  id : Nat
  kind : Nat
  len : Nat
  ofs : Nat
  nonce : List Byte
  tag : List Byte
  ct : List Byte
deriving DecidableEq, Repr

/-- A road book that passed its checks (R32 to R42). -/
structure RoadBook where
  id : Nat
  hash : List Byte
  /-- Base SET and TABLE words, in reading order. -/
  base : List (Nat × Word)
  /-- Overlay words: recipe, address, value. -/
  ovr : List (Nat × Nat × Word)
  recipes : List Recipe
  dials : List DialDef
  calu : List (Nat × Word)
  models : List Model
deriving DecidableEq, Repr

/-- The recipe in force and any pending change (R47 to R49). -/
structure SysSt where
  /-- The road book being read: passed checks 1 to 13, not yet applied (R32). Reset none. -/
  parsed : Option RoadBook := none
  /-- The road book in force (R34). Reset none. -/
  rb : Option RoadBook := none
  /-- SYS_RECIPE_NOW (R46). Reset 0. -/
  recipe : Nat := 0
  /-- Pending index and the instant the request was accepted (R47). Reset none. -/
  pend : Option (Nat × Nat) := none
  /-- Extended raw count of the last or pending effective instant (R46). Reset 0. -/
  at_ : Nat := 0
  /-- When each dial last accepted a write (R51). Reset empty. -/
  dialAt : List (Nat × Nat) := []
  /-- The user calibration words in force (R55). Reset empty: defaults. -/
  calu : List (Nat × Word) := []
  /-- The CALU store must be rewritten to its second copy before the first group (R55). Reset false. -/
  caluOne : Bool := false
  /-- The GNSS mode in force: 0 OFF, 1 TRACK, 2 KEEP-TIME (R25). Reset 0. -/
  gnssMode : Nat := 0
deriving DecidableEq, Repr

/-! ### Start-up, non-volatile store, dome, update (chapters 18 and 19) -/

/-- The module's progress through the power-up sequence (R408). -/
inductive Phase where
  /-- Power-up sequence not begun or begun again: core tests run. -/
  | core
  /-- Core tests passed; tests 5 to 8 and 12 to 15 run. -/
  | tests
  /-- Cell test complete; road book checks run. -/
  | checks
  /-- Checks 1 to 13 complete; the main memory test runs. -/
  | memory
  /-- Road book applied; output tests run. -/
  | outputs
  /-- Output tests complete; the module is about to enter RUNNING. -/
  | ready
  | running
  | rbInvalid
  | safe
  /-- Recovery mode entered for the firmware or the RECOVERY contact (R437). -/
  | recovery
  /-- The deep test runs (R413). -/
  | deep
  /-- The supply has failed or been cut; the next start condition is awaited. -/
  | off
deriving DecidableEq, Repr

/-- The tally of one recipe (R180). -/
structure Tally where
  isOpen : Bool := false
  isFinal : Bool := false
  num : Nat := 0
  tOpen : Nat := 0
  tClose : Nat := 0
  out : List Nat := [0, 0, 0, 0, 0]
  contra : Nat := 0
  degraded : Nat := 0
  revised : Nat := 0
  late : Nat := 0
  /-- Accepted and rejected estimated mass in mg (R180). -/
  massAcc : Nat := 0
  massRej : Nat := 0
  tableFull : Nat := 0
  cls : List Nat := List.replicate 16 0
deriving DecidableEq, Repr

/-- One cell of the quality map (R181). -/
structure MapCell where
  cell : Nat
  key : Nat := 0
  acc : Nat := 0
  rej : Nat := 0
  missed : Nat := 0
  dead : Nat := 0
  massAcc : Nat := 0
  massRej : Nat := 0
  lastSec : Nat := 0
  cls : List Nat := List.replicate 16 0
deriving DecidableEq, Repr

/-- What a milestone commits (R416). -/
structure MsContent where
  num : Nat := 0
  mj : Nat := 0
  /-- The tallies of the 16 recipes (R180). -/
  tally : List Tally := List.replicate 16 {}
  life : List Nat := [0, 0, 0, 0, 0]
  /-- Quality map cells in use (R181). -/
  map : List MapCell := []
  lotId : Nat := 0
  /-- The lot's origin: operating seconds at lot start; latitude and longitude. -/
  lotOrg : Nat × Int × Int := (0, 0, 0)
  lotPos : Bool := false
  oldest : Nat := 0
  next : Nat := 0
  clears : Nat := 0
  opSec : Nat := 0
  cycles : Nat := 0
  serial : Nat := 0
  recipe : Nat := 0
  pend : Option Nat := none
  /-- Persistent dials: dial, target, hi, lo, field value (R52). -/
  dials : List (Nat × Nat × Nat × Nat × Nat) := []
  /-- ROADBOOK_ID the dial values belong to (R52). -/
  rbId : Option Nat := none
  unacc : Nat := 0
  unaccFirst : Nat := 0
deriving DecidableEq, Repr

/-- One copy of the milestone store (R415). -/
structure MsCopy where
  /-- Its CRC-32 is correct. -/
  ok : Bool
  c : MsContent
deriving DecidableEq, Repr

/-- One copy of the user calibration store (R55). -/
structure CaluCopy where
  ok : Bool
  seq : Nat
  words : List (Nat × Word)
deriving DecidableEq, Repr

/-- The dome (R439). -/
structure Dome where
  /-- Model decryption key. Reset none. -/
  modelKey : Option (List Byte) := none
  /-- Device identity private key and public key. Reset none. -/
  identity : Option (List Byte × List Byte) := none
  /-- Session key slots: slot, key, service role. Reset empty. -/
  slots : List (Nat × List Byte × Bool) := []
  /-- OEM verification keys: slot and key. Reset empty. -/
  vkeys : List (Nat × List Byte) := []
  /-- SEC_FW_ROLLBACK (R428). Reset 0. -/
  rollback : Nat := 0
  /-- SEC_PROV_COUNT (R447). Reset 0. -/
  provCount : Nat := 0
  /-- SEC_ERASE_COUNT (R442). Reset 0. -/
  eraseCount : Nat := 0
  /-- SEC_ERASE_CAUSE (R449). Reset 0. -/
  eraseCause : Nat := 0
  /-- SEC_STATE.ERASED (R443). Reset 0. -/
  erased : Bool := false
  /-- The ERASE_PENDING mark (R442). Reset clear. -/
  pending : Bool := false
  /-- The cause of the erasure that is marked pending (R442). Reset 0. -/
  pendCause : Nat := 0
  /-- The valid nonce of PROVISION_INFO (R444). Reset none. -/
  nonce : Option (List Byte) := none
deriving DecidableEq, Repr

/-- A flash region's content and its update (R426 to R435). -/
structure Region where
  /-- STATE of R433. Reset 0 where an image is held, else 1. -/
  st : Nat := 1
  /-- The header page and body as they stand in flash: the bytes from the region's start. Reset erased. -/
  bytes : List Byte := []
  /-- Some block of the region has been erased by the open update (R435). -/
  touched : Bool := false
  /-- The state before UPDATE_BEGIN (R435). -/
  before : Nat := 1
  /-- The header page held back (R431). -/
  hdr : List Byte := []
  /-- Data taken and not yet programmed (R431). -/
  buf : List Byte := []
  /-- Next expected offset (R431). -/
  ofs : Nat := 0
  /-- TOTAL_LEN of the open or last update. -/
  len : Nat := 0
  /-- Offset of the next page to program (R431). -/
  prog : Nat := 0
  /-- Blocks erased so far. -/
  erasedBlocks : Nat := 0
  /-- The body's hash has matched, and the header page is to be programmed (R432). -/
  hashed : Bool := false
  /-- UPDATE_END has been accepted. -/
  ended : Bool := false
  /-- Last refusal or failure reason. -/
  reason : Nat := 0
  /-- Owning session, 0 none. -/
  owner : Nat := 0
  /-- A flash operation has its grant and runs: false erase, true program. -/
  op : Option Bool := none
  /-- That operation belongs to an update that has ended (R435), and its place. -/
  stale : Bool := false
  /-- No whole header stands in flash since a block was erased: an update that is to end well writes it (R432, R433, R435). -/
  cut : Bool := false
  /-- The image that this start reads (R433, R436). -/
  img : List Byte := []
  opAt : Nat := 0
deriving DecidableEq, Repr

/-- What survives a restart. -/
structure Nv where
  /-- The two copies of the milestone store (R415). -/
  ms : List MsCopy := [{ ok := true, c := {} }, { ok := true, c := {} }]
  /-- The two copies of the user calibration store (R55). -/
  calu : List CaluCopy := [{ ok := true, seq := 0, words := [] }, { ok := true, seq := 0, words := [] }]
  /-- ROADBOOK_ID of the last road book accepted (R52, R56). -/
  rbId : Option Nat := none
  /-- The power-cycle count, written at once (R393). -/
  cycles : Nat := 0
  /-- Recorder slots: slot and record (R394). -/
  slots : List (Nat × Rec) := []
  dome : Dome := {}
  /-- Firmware and road book regions (R426). -/
  regions : List Region := [{}, {}]
  /-- Factory calibration words, sparse (R53). -/
  calf : List (Nat × Word) := []
  /-- NET parameters of the last accepted road book (R382). -/
  net : List (Nat × Word) := []
  /-- GNSS data of R305: the almanac with its time (ns on the PTP timescale), none where none is held; the ephemerides as system, PRN, time and
  data; the last trusted position; the oscillator offset in 0.01 ppb; the leap-second word of GNSS_LEAP. -/
  gnssAlm : Option (Nat × List Byte) := none
  gnssEph : List (Nat × Nat × Nat × List Byte) := []
  gnssPos : Option (Int × Int × Int) := none
  gnssDrift : Int := 0
  gnssLeap : Nat := 0
  /-- BIST_DEEP_RES (R413). -/
  deepRes : Word := 0
  /-- The start cause of the next start (R421). -/
  cause : Nat := 0
  /-- The board has tripped: the next start condition needs it at 95.0 °C or below (R466). Reset false. -/
  tripped : Bool := false
  /-- Device serial and MAC (R426, R390). -/
  serial : Nat := 0
  mac : Nat := 0
  /-- Draws of the dome so far: the argument of Config.domeRandom and its like. -/
  draws : Nat := 0
deriving DecidableEq, Repr

/-- Start-up and recovery (R407 to R425). -/
structure BistSt where
  /-- Progress of the power-up sequence (R408). Reset core. -/
  phase : Phase := .core
  /-- E_0 (R409). Reset 0. -/
  e0 : Nat := 0
  /-- Consecutive milestone write failures (R417); the last milestone's write has failed. Reset 0, false. -/
  fails : Nat := 0
  msFailed : Bool := false
  /-- The number of the next milestone, which goes on across starts; milestones since E_0 (R415). Reset 0. -/
  msNum : Nat := 0
  msIdx : Nat := 0
  /-- Output tests that wait for their supply (R410). Reset empty. -/
  deferred : List Nat := []
  /-- The next start is unrecovered: serials are accounted lost (R422). Reset false. -/
  unrecovered : Bool := false
  /-- The next piece serial (R414). Reset 0. -/
  serial : Nat := 0
  /-- The serial restored from the milestone, for event 0x0A74 (R422). Reset none. -/
  serialFrom : Option Nat := none
  /-- Lifetime outcome counts BIST_LIFE_1 to _5 (R416). Reset 0, from MRAM. -/
  life : List Nat := [0, 0, 0, 0, 0]
  /-- BIST_UNACC and BIST_UNACC_FIRST (R422). Reset 0, from MRAM. -/
  unacc : Nat := 0
  unaccFirst : Nat := 0
  /-- SEC_STATE.RECOVERY, TAP_OPEN and ERASE_PENDING found (R449). Reset 0. -/
  recovery : Bool := false
  tapOpen : Bool := false
  erasePend : Bool := false
  /-- TAP_EN and RECOVERY as the start condition found them (R437, R441). Reset false. -/
  tapHeld : Bool := false
  recHeld : Bool := false
  /-- When the core tests that were not run were last tried (R410). Reset none. -/
  retryAt : Option Nat := none
  /-- Main-memory lines retired to spare lines at this start: channel and line (R411). Reset empty. -/
  retired : List (Nat × Nat) := []
  /-- VERSION and ROLLBACK of the running firmware (R427, R449). Reset 0. -/
  fwVersion : Nat := 0
  fwRollback : Nat := 0
  /-- The model key and the verification keys that act: those that the dome held at the start (R447). Reset none. -/
  actModel : Option (List Byte) := none
  actVkeys : List (Nat × List Byte) := []
  /-- The receiver failed test 15 (R411). Reset false. -/
  gnssBad : Bool := false
  /-- When the deep test began (R413). Reset 0. -/
  deepAt : Nat := 0
deriving DecidableEq, Repr

/-! ### Camera ports (chapter 3) -/

/-- An EXP pulse the port has sent: number, rise, width, ON phase (R67, R68), and the panels' present numbers and background-invalid
mask at its exposure (R99). -/
structure Pulse where
  k : Nat
  e : Nat
  w : Nat
  on : Bool
  pres : Nat × Nat := (0, 0)
  bgInv : Nat := 0
deriving DecidableEq, Repr

/-- A received line waiting for colour reconstruction (R70), or after it; a lost line keeps its place (R71). -/
structure Line where
  frame : Nat
  idx : Nat
  /-- Settings sequence number of its frame (R76). -/
  seq : Nat
  on : Bool
  /-- Exposure width of its pulse. -/
  w : Nat
  /-- Exposure centre, extended raw count (R70). -/
  t : Nat
  /-- When its last pixel reached the module (R20). -/
  arr : Nat
  lost : Bool
  /-- Present sequence number of panels 0 and 1, and the background-invalid mask (R99). -/
  pres : Nat × Nat
  bgInv : Nat
  /-- Samples by channel: left-aligned raw values, then output values (R62, R80), then grid columns (R135). -/
  px : List (List Nat)
  /-- Settings and calibration words in force for its frame where newer ones stand (R75). -/
  col : List (Nat × Word)
deriving DecidableEq, Repr

/-- Statistics of one frame, phase, channel and zone (R82). -/
structure ZoneStat where
  sum : Nat := 0
  min : Nat := 65535
  max : Nat := 0
  sat : Nat := 0
  dark : Nat := 0
  pixels : Nat := 0
deriving DecidableEq, Repr

/-- The account of one frame (R66, R82, R83). -/
structure FrameAcc where
  num : Nat
  seq : Nat
  ended : Bool := false
  short : Bool := false
  long : Bool := false
  slip : Bool := false
  lost : Bool := false
  unconf : Bool := false
  onLines : Nat := 0
  offLines : Nat := 0
  t0 : Option Nat := none
  t1 : Nat := 0
  /-- Record r = (phase × 3 + c) × 16 + z. -/
  zones : List (Nat × ZoneStat) := []
  /-- Bin b of (phase × 3 + c), sparse: index 64 × (phase × 3 + c) + b and count. -/
  hist : List (Nat × Nat) := []
deriving DecidableEq, Repr

/-- A change of one settings word (R73): when it was committed, its address, the word before it and after it. -/
structure SetChg where
  at_ : Nat
  addr : Nat
  old : Word
  new : Word
deriving DecidableEq, Repr

/-- One camera port (R59 to R86). -/
structure CamPort where
  /-- CAM_STATUS.IN_SERVICE, IN_FRAME, CLOCK (R84, R86). Reset 0. -/
  inService : Bool := false
  inFrame : Bool := false
  clock : Bool := false
  /-- Failed self-test (R84, R411). Reset false. -/
  unusable : Bool := false
  /-- It went out of service after having been in service (R84). Reset false. -/
  lostClock : Bool := false
  /-- Out of service or unusable since (R152). Reset none. -/
  outSince : Option Nat := none
  /-- The next EXP pulse number k (R67). Reset 0. -/
  kNext : Nat := 0
  /-- EXP output level's last pulses, newest first (R67, R71). Reset empty. -/
  pulses : List Pulse := []
  /-- Frames begun since start; the frame number in force is this less one (R66). Reset 0. -/
  frames : Nat := 0
  /-- The next line index of the frame (R66). Reset 0. -/
  idx : Nat := 0
  /-- The next line index of the frame before, which lost lines between the two frames take (R71). Reset 0. -/
  endIdx : Nat := 0
  /-- The settings sequence number of that frame. Reset 0. -/
  endSeq : Nat := 0
  /-- The pulse of the last line, received or lost (R71). Reset none. -/
  kLast : Option Nat := none
  /-- The frame's latch point has passed (R74). Reset false. -/
  latched : Bool := false
  /-- Settings sequence number in force and the one awaiting its frame (R75). Reset 0, none. -/
  seqNow : Nat := 0
  seqPend : Option Nat := none
  /-- Settings changes that no latch point has taken yet, in commit order (R73, R74). Reset empty. -/
  fresh : List SetChg := []
  /-- Values of settings still in force for EXP and for reconstruction where the parameter has a newer one (R75). -/
  expOld : List (Nat × Word) := []
  colOld : List (Nat × Word) := []
  /-- Sets latched and not yet taken by EXP, with the pulse that takes them, oldest first; the set that reconstruction
  takes at the next frame (R75). Reset empty. -/
  expSets : List (Nat × List (Nat × Word)) := []
  colSet : List (Nat × Word) := []
  /-- Templates to send at this latch point, and those unconfirmed (R77, R79). Reset empty. -/
  tplQ : List (Nat × List Byte) := []
  /-- Since when the serial line is free for the template in line (R77, R78). Reset 0. -/
  serAt : Nat := 0
  unconf : List Nat := []
  /-- The template whose reply window is open, and when it closes (R79). Reset none. -/
  tplWait : Option (Nat × Nat) := none
  /-- Bytes sent on SER_TX (the model's record of output). Reset empty. -/
  serOut : List Byte := []
  /-- Frames whose statistics are not yet published, oldest first (R82). Reset empty. -/
  accs : List FrameAcc := []
  /-- The set last published, and when (R82, R83). Reset none. -/
  pub : Option (FrameAcc × Nat) := none
  /-- Lines waiting for reconstruction, for resampling, and rows waiting for the extractor (R80, R135). Reset empty. -/
  lines : List Line := []
  recon : List Line := []
  rows : List Line := []
  /-- The row before the last one taken by the extractor (R136). Reset none. -/
  prevRow : Option Line := none
deriving DecidableEq, Repr

/-! ### Panels (chapter 4) -/

/-- Progress of one region of a group: waiting to be written, written and awaiting its CRC, confirmed (R95, R100). -/
inductive RegionStage where
  | queued | written | confirmed
deriving DecidableEq, Repr

/-- One region of a pending group. -/
structure PRegion where
  r : Nat
  stage : RegionStage
  /-- Attempts at writing it (R100). -/
  tries : Nat
  /-- CRC-32 of the codes written (R91). -/
  crc : Nat
  /-- Sum of its codes when composed (R97). -/
  sum : Nat
  /-- From when its frame may be sent: its request, or the boundary that it waited for (R96). -/
  from_ : Nat := 0
deriving DecidableEq, Repr

/-- A panel update group (R94 to R97). -/
structure PGroup where
  regions : List PRegion
  /-- The group carries a new IREF value (R94, R95). -/
  iref : Bool
  /-- Selected for the coming boundary (R96). -/
  selected : Bool
  /-- A toll request for the increase waits, or its grant is held (R97). -/
  asked : Bool
  granted : Bool
  /-- Retries counted (R97). -/
  retries : Nat
  /-- When it was requested (R94, R96). -/
  at_ : Nat := 0
  /-- The IREF code that its presentation applies, as the last selection found it (R95, R97). -/
  irefV : Nat := 0
  /-- One of the groups of start, which all panels present together (R102). -/
  first : Bool := false
deriving DecidableEq, Repr

/-- One panel (R87 to R104). -/
structure Panel where
  linkUp : Bool := false
  /-- When the last valid status frame came, or the link came up (R92). Reset 0. -/
  heard : Nat := 0
  /-- When a down link is next retried (R101). Reset 0. -/
  retryAt : Nat := 0
  /-- When the last region's frame was whole on the link (R90, R91). Reset 0. -/
  linkFree : Nat := 0
  /-- Frames sent on the link, in order, as 32-bit words (R90): the model's record of output. Reset empty. -/
  out : List (List Nat) := []
  /-- Load boundaries for which the selection has been made (R95). Reset 0. -/
  picked : Nat := 0
  /-- The ENABLE line (R98). Reset low. -/
  enable : Bool := false
  /-- Failed self-test (R102). Reset false. -/
  unusable : Bool := false
  overtemp : Bool := false
  uv : Bool := false
  sinkFault : Bool := false
  /-- Failed emitters and temperature of the last status frame (R92). Reset 0. -/
  failedEmitters : Nat := 0
  temp : Int := 0
  /-- The first presentation has happened; ENABLE may rise (R99, R102). Reset false. -/
  shown : Bool := false
  /-- Pending groups, oldest first (R94). Reset empty. -/
  groups : List PGroup := []
  /-- CRC and code sum of each region's front buffer (R100). Reset empty: not known. -/
  front : List (Nat × Nat × Nat) := []
  /-- IREF code in force at the output (R88, R95). Reset 0: 0.5 V. -/
  iref : Nat := 0
  /-- Load boundaries so far (R95, R100). Reset 0. -/
  boundaries : Nat := 0
  /-- The region whose front buffer is read next, and one awaiting its reply (R100). Reset 0, none. -/
  nextRead : Nat := 0
  reading : Option Nat := none
  /-- Regions with one front-buffer mismatch (R100). Reset empty. -/
  frontMiss : List Nat := []
  /-- Faulty regions (R100). Reset empty. -/
  faulty : List Nat := []
  /-- Standing current, and the increase that the toll gate has granted for the coming boundary, in mA (R97, R254). Reset 0. -/
  standing : Nat := 0
  pledged : Nat := 0
deriving DecidableEq, Repr

/-! ### Fusion (chapter 6) -/

/-- The stream triple of one lane block with its estimator (R140 to R146). -/
structure Lane where
  v : Nat
  a : Nat
  w : Int
  warm : Bool := false
  /-- When it last became cold. -/
  coldAt : Nat := 0
  /-- Samples accepted since cold: velocity, acceleration, drift. -/
  nv : Nat := 0
  na : Nat := 0
  nw : Nat := 0
  /-- When the last velocity sample was accepted. -/
  lastV : Nat := 0
  /-- Mean square of accepted velocity residuals, µm²/s² (R144). -/
  ms : Nat := 0
deriving DecidableEq, Repr

/-- A grid cell of a region with its objectness: row, column, objectness (R138). -/
structure GridCell where
  row : Nat
  col : Nat
  obj : Nat
  /-- Taken from the OFF line for a background-invalid block (R137). -/
  bgi : Bool
  vec : List Int
deriving DecidableEq, Repr

/-- A row of the layer as a region keeps it: number, instant, settings sequence number, lost (R136). -/
structure GridRow where
  n : Nat
  t : Nat
  arr : Nat
  seq : Nat
  lost : Bool
deriving DecidableEq, Repr

/-- An open region (R138). -/
structure Blob where
  cells : List GridCell
  /-- Rows from the region's first, lost rows included. -/
  rows : List GridRow
  /-- Columns of the last row that extended it. -/
  edge : List Nat
  lastRow : Nat
deriving DecidableEq, Repr

/-- An observation (R139). -/
structure Obs where
  port : Nat
  oversize : Bool
  edge : Bool
  linesLost : Bool
  bgi : Bool
  cold : Bool
  span : Bool
  /-- T_OBS and T_A, extended raw counts. -/
  t : Nat
  ta : Nat
  /-- X_OBS and X_A in 1/256 column. -/
  x : Int
  xa : Int
  lane : Nat
  colFirst : Nat
  colLast : Nat
  lines : Nat
  lost : Nat
  mass : Nat
  seq0 : Nat
  seq1 : Nat
  vec : List Int
  /-- When its last contributing line's last pixel reached the module (R20). -/
  arrived : Nat
deriving DecidableEq, Repr

/-! ### Cell array (chapter 5) -/

/-- A tower (R108 to R127). -/
structure Tower where
  /-- In service (R123). Reset false, from self-test. -/
  ok : Bool := false
  /-- Usable cells (R411). Reset none. -/
  cells : Nat := 0
  /-- Logical tower bound here (R122). Reset none. -/
  logical : Option Nat := none
  /-- A warm restart runs since (R127). Reset none. -/
  restarting : Option Nat := none
  /-- Clock-gated, and waiting for its grant (R110). Reset false. -/
  gated : Bool := false
  resuming : Bool := false
  /-- When its class 3 grant came (R110). -/
  grantedAt : Option Nat := none
  /-- Raw counts of mismatches counted toward the next 0x020D (R130). Reset empty. -/
  misses : List Nat := []
  /-- Marked as never gated by the placement (R110). Reset false. -/
  never : Bool := false
  /-- When it last carried work (R110). Reset 0. -/
  busyAt : Nat := 0
  /-- The physical cells that its logical cells 0 to 59 occupy, in order (R122, R123). Reset none, from self-test. -/
  bound : List Nat := []
deriving DecidableEq, Repr

/-- A pulse plan with the record that PLAN_REF points to (R190, R205). -/
structure Plan where
  /-- F and E, extended raw counts (R188). -/
  fire : Nat
  end_ : Nat
  /-- Slack in µs (R189). -/
  slack : Nat
  firstCh : Nat
  count : Nat
  dflt : Bool
  revised : Bool
  clipped : Bool
  cold : Bool
  /-- Channels selected before clipping (R187). -/
  selected : Nat
  /-- d_c and d_hs,c of its channels, copied at admission, µs (R191). -/
  dOpen : List Nat
  dHs : List Nat
  /-- Commit point of the plan (R192). -/
  commit : Nat
  /-- Bit masks over its channels: hold-start, fired, missed (R205). -/
  mode : Nat := 0
  fired : Nat := 0
  missed : Nat := 0
  /-- Cause of the first missed pulse, 0 none. -/
  cause : Nat := 0
  /-- Largest lateness of any pulse, µs. -/
  shiftMax : Nat := 0
  /-- The greatest shift δ of a fired pulse, ns (R204). -/
  moved : Nat := 0
deriving DecidableEq, Repr

/-- A piece waiting for a slot (R126, R177): its deadline key, its latest start, the arrival of its last contributing
sample (R20), the instant it became ready. -/
structure Wait where
  serial : Nat
  revision : Bool
  commit : Nat
  latest : Nat
  sample : Nat
  since : Nat
deriving DecidableEq, Repr

/-- A job that holds a slot (R126, R128): its copies of observations, triples and plan (R142, R191). -/
structure Job where
  serial : Nat
  revision : Bool
  start : Nat
  sample : Nat
  /-- Physical towers of its copies: one in SINGLE, two in PAIRED (R128). -/
  towers : List Nat
  obs : List Obs
  /-- The triple of the track's LANE, then those of its observations' lanes (R142). -/
  lanes : List Lane
  /-- The fused vector: the sensors' vectors in ascending port order, then the piece's 16 values (R147). -/
  fused : List Int := []
  tCross : Nat
  plan : Plan
deriving DecidableEq, Repr

/-- The cell array's job admission and error accounts (R114 to R130). -/
structure CellSt where
  towers : List Tower := List.replicate 16 {}
  /-- The admission queue of 1,024 pieces (R126). Reset empty. -/
  queue : List Wait := []
  /-- Jobs that hold a slot (R126). Reset empty. -/
  jobs : List Job := []
  /-- First admissions in the last 400 µs, newest first (R126). Reset empty. -/
  admits : List Nat := []
  /-- Corrected lines of each location: location and times within the hour (R131, CELL_CE_LIMIT). Reset empty. -/
  ce : List (Nat × List Nat) := []
  /-- Main-memory scrub: lines read in this pass, a burst's grant held (R119). Reset 0, false. -/
  scrubPos : Nat := 0
  scrubGranted : Bool := false
  /-- When the next burst falls due (R119). Reset 0. -/
  scrubNext : Nat := 0
  /-- The lines of main memory, of the cells' SRAM and of the fabric's buffers that stand at anything but the codeword of zeros: key
  2^28 × tag + address, rising, and the 36 stored symbols (R105, R111, R112, R117, R120). Reset empty. -/
  lines : List (Nat × List Nat) := []
  /-- Accumulators and the results last taken from them, of cells that have run (R105, R106): physical cell and value. Reset empty. -/
  acc : List (Nat × Int) := []
  out : List (Nat × Int) := []
  /-- Cells whose sticky SAT flag is set (R106). Reset none. -/
  sat : List Nat := []
  /-- The decrypted models in main memory (R40, R440): MODEL_ID, KIND and plaintext. Reset empty. -/
  models : List (Nat × Nat × List Byte) := []
deriving DecidableEq, Repr

/-- The layer of one port as the region finder sees it. -/
structure Layer where
  /-- Rows so far. -/
  n : Nat := 0
  blobs : List Blob := []
  /-- Closed regions waiting to become observations: region and OVERSIZE (R138). -/
  closed : List (Blob × Bool) := []
deriving DecidableEq, Repr

/-- The account of one pair of sensors (R150, R151). -/
structure PairAcc where
  /-- Co-observations and contradictions in the open block. -/
  co : Nat := 0
  contra : Nat := 0
  strikes : Nat := 0
  /-- Agreements of the lower and the higher port within the block. -/
  agreeA : Nat := 0
  agreeB : Nat := 0
deriving DecidableEq, Repr

/-- Fusion (R133 to R157). -/
structure FusSt where
  /-- Triples of lane blocks 0 to 99. Reset: cold with the defaults of FUS_V_NOM and FUS_A_NOM. -/
  lanes : List Lane := List.replicate 100 { v := 4000000, a := 9810000, w := 0 }
  layers : List Layer := List.replicate 8 {}
  pairs : List PairAcc := List.replicate 28 {}
  /-- Suspect marks: 0 none, 1 CONTRADICTION, 2 ABSENT, by port (R152). Reset 0. -/
  suspect : List Nat := List.replicate 8 0
  /-- The variant in force: none for ALL (R154). Reset none. -/
  variant : Option Nat := none
  /-- The condition of R154's reminder lasts. Reset false. -/
  kept : Bool := false
  /-- When its event was last raised (R154). Reset 0. -/
  remindAt : Nat := 0
deriving DecidableEq, Repr

/-! ### Tracks and the decision (chapter 7), ejection (chapter 8) -/

/-- The state of a track (R169). -/
inductive TState where
  | free | open_ | ready | running | decided | revising | committed
deriving DecidableEq, Repr

/-- A track and its table entry (R159). -/
structure Track where
  slot : Nat
  serial : Nat
  st : TState
  recipe : Nat
  /-- The latched variant: none for ALL (R29, R159). -/
  variant : Option Nat
  outcome : Nat := 0
  /-- DEADLINE_CAUSE (R175). -/
  cause : Nat := 0
  /-- Bits 13 to 0 of FLAGS (R159). -/
  flags : Nat := 0
  tFirst : Nat
  ta : Nat
  xa : Int
  lane : Nat
  colFirst : Nat
  colLast : Nat
  tCross : Nat := 0
  tCommit : Nat := 0
  tDecided : Nat := 0
  late : Nat := 0
  /-- Verdict, classifier verdict before policy (true for REJECT) and reported class. -/
  verdict : Bool := false
  cverdict : Bool := false
  cls : Nat := 0
  mass : Nat := 0
  score : Nat := 0
  tClose : Nat := 0
  /-- The observations associated with it. -/
  obs : List Obs
  plan : Option Plan := none
  /-- The lot latched at opening (R182). -/
  lot : Nat
  /-- Parameter values and user calibration latched at opening (R50). -/
  vals : List (Nat × Word)
  calu : List (Nat × Word)
  /-- When it became ready, and whether a due instant made it so (R170). -/
  readyAt : Option Nat := none
  byDue : Bool := false
  /-- PORTS_LATE (R178). -/
  portsLate : Nat := 0
  /-- The late sample that starts its revision, by arrival; a revision has been admitted or lost (R177). -/
  lateAt : Option Nat := none
  revisedOnce : Bool := false
  /-- A job whose result is discarded when it arrives (R175). -/
  discard : Bool := false
  /-- Its motion samples have been taken (R143). -/
  motion : Bool := false
  /-- It was counted in FUS_CONTRA_PIECES (R150). -/
  contraDone : Bool := false
  /-- Event 0x0401 has been raised for it (R203). -/
  missNoted : Bool := false
  /-- The delays that the dispatcher copied at its job's admission: channel, d_c and d_hs,c in µs (R191). -/
  delays : List (Nat × Nat × Nat) := []
  /-- Observations associated while its piece waited for a slot, which join it when the job that runs without them is admitted (R177). -/
  held : List Obs := []
  /-- Late samples recorded without effect (R178). -/
  recorded : List Obs := []
  /-- Ports outside FUS_REQUIRED whose first observation came after their due instant, as a mask (R148). -/
  overdue : Nat := 0
deriving DecidableEq, Repr

/-- The open association window (R165). -/
structure Window where
  opened : Nat
  obs : List Obs
deriving DecidableEq, Repr

/-- The solution of a window (R164 to R166): each observation's track, none for a new one; how many the bid limit left. -/
structure Solution where
  choice : List (Option Nat)
  left : Option Nat
deriving DecidableEq, Repr

/-- A closed window whose result has not taken effect (R165, R167). -/
structure Closed where
  obs : List Obs
  sol : Option Solution
deriving DecidableEq, Repr

/-- Rates of the period that is running, by zone, zone 8 for the whole curtain (R182):
pieces, rejected, missed ejections, accepted and rejected mass in mg. -/
structure ZoneRate where
  pieces : Nat := 0
  rejected : Nat := 0
  missed : Nat := 0
  massAcc : Nat := 0
  massRej : Nat := 0
deriving DecidableEq, Repr

/-- Tracking and decision (R158 to R184). -/
structure TrkSt where
  /-- Live tracks, in order of opening (R158). Reset empty. -/
  live : List Track := []
  /-- Closed entries whose slots have not been taken again (R160). Reset empty. -/
  done : List Track := []
  /-- Slots never taken yet begin here; freed slots in the order freed (R158). Reset 0, empty. -/
  fresh : Nat := 0
  freed : List Nat := []
  /-- The open window and those that have closed (R165). Reset none, empty. -/
  win : Option Window := none
  wins : List Closed := []
  /-- Tallies by recipe (R180). Reset zero, from MRAM. -/
  tally : List Tally := List.replicate 16 {}
  /-- Quality map cells in use (R181). Reset empty, from MRAM. -/
  map : List MapCell := []
  /-- TRK_LOT_ID (R182). Reset 0, from MRAM. -/
  lotId : Nat := 0
  /-- A write to TRK_LOT awaits the next milestone (R182). Reset false. -/
  lotReq : Bool := false
  /-- Operating seconds at lot start, and the lot's origin: latitude and longitude (R181). Reset 0, none. -/
  lotSec : Nat := 0
  lotOrg : Option (Int × Int) := none
  /-- Rates of the period running (R182). Reset zero. -/
  rates : List ZoneRate := List.replicate 9 {}
  /-- Values last published to the loop engine, by 5 × z + q, in thousandths (R182, R276). Reset 0. -/
  pub : List Int := List.replicate 45 0
  /-- When the rates were last published (R182). Reset none. -/
  pubAt : Option Nat := none
  /-- When this period began. Reset 0. -/
  rateFrom : Nat := 0
deriving DecidableEq, Repr

/-- A grant as the requester sees it. -/
inductive GrantSt where
  | none | asked | held
deriving DecidableEq, Repr

/-- One pulse of the schedule queue (R193 to R203). Times are extended raw counts. -/
structure EPulse where
  id : Nat
  /-- The piece, and the index of its channel in the plan. -/
  serial : Nat
  bit : Nat
  ch : Nat
  /-- S_c, and F_off,c rounded to its tick, shifts not yet included (R193, R194). -/
  s : Nat
  off : Nat
  /-- F, d_hs,c in ns, slack in ns, the plan's commit point, the instant of insertion; the piece's latched
  EJ_HOLD_START_EN. -/
  fire : Nat
  dHs : Nat
  slack : Nat
  commit : Nat
  ins : Nat
  hsEn : Bool
  /-- The pulse is firm, since its firm instant K (R196). -/
  firm : Bool := false
  k : Nat := 0
  grant : GrantSt := .none
  /-- Start mode chosen: hold-start (R197). -/
  hs : Bool := false
  /-- The planned start of its mode, a tick (R194, R197), once firm. -/
  planned : Nat := 0
  /-- Shift δ and λ so far, ns (R197, R200). -/
  shift : Nat := 0
  lam : Nat := 0
  started : Option Nat := Option.none
  /-- Merged into the pulse with this identity (R201), and the shift that pulse then had: the merged release moves with what is added to it. -/
  into : Option Nat := Option.none
  late0 : Nat := 0
  /-- The obstacle that cleared last while the pulse waited: 0 none, 1 bank high side, 2 energised count (R200). -/
  obst : Nat := 0
  /-- The hold-start instant has passed: its start mode stands (R197). -/
  judged : Bool := false
deriving DecidableEq, Repr

/-- The firing engine (R193 to R207). -/
structure EjSt where
  /-- Pending pulses and pulses merged into them, in order of insertion. Reset empty. -/
  pulses : List EPulse := []
  nextId : Nat := 1
  /-- The fault instant has passed: no further pulse starts (R421). Reset false. -/
  stopped : Bool := false
  /-- Pieces without an entry any more for which event 0x0401 has been raised (R203). Reset empty. -/
  noted : List Nat := []
deriving DecidableEq, Repr

/-! ### Valve drivers (chapter 9) -/

/-- The phase of an ejector channel's pulse (R212). -/
inductive VPhase where
  | idle | boost | hsRise | hold | decay
deriving DecidableEq, Repr

/-- An estimate of an opening delay (R222, R223). -/
structure Est where
  /-- Accepted samples since start. -/
  n : Nat := 0
  /-- The estimate in 1/65,536 µs. -/
  x : Int := 0
  /-- The last consecutive discards of R223, newest first, in µs. -/
  disc : List Nat := []
deriving DecidableEq, Repr

/-- One ejector channel (R208 to R230). -/
structure VCh where
  phase : VPhase := .idle
  /-- Band in force and the band latched for the pulse (R227). -/
  band : Nat := 0
  pband : Nat := 0
  /-- When the running pulse started, its release F_off, and the queue identities of the pulses it serves. -/
  start : Nat := 0
  off : Nat := 0
  ids : List Nat := []
  /-- The pulse is a hold-start; it restarted a running channel; when a fault or a limit first acted on it; arrival has been judged. -/
  hs : Bool := false
  restarted : Bool := false
  cut : Option Nat := none
  judged : Bool := false
  /-- The arrival found, if its sample is valid, which enters its estimate when the profile ends: d in µs, L in µH (R217, R221). -/
  arr : Option (Nat × Nat) := none
  /-- The hold current of the pulse is VLV_I_HOLD_MIN (R228). -/
  minHold : Bool := false
  /-- The hold current regulated, mA, 0 outside HOLD; the length drawn for the hold phase's first chopping period, ns, and the free value from
  which the length of each of its periods is drawn (R214). -/
  holdMa : Nat := 0
  chopNs : Nat := 0
  chopKey : Int := 0
  /-- The low side's on-fraction during HS_RISE, as two voltages in mV (R216). -/
  duty : Nat × Nat := (1, 1)
  /-- The bank stage has been HI during this hold phase, and when the phase began (R226). -/
  hiSeen : Bool := false
  holdAt : Nat := 0
  /-- The low side has opened for good (R214). -/
  opened : Bool := false
  /-- Energised in the engine's count until the release (R214). -/
  energised : Bool := false
  latched : Bool := false
  unusable : Bool := false
  protect : Bool := false
  /-- The coil temperature in 10^-9 °C (R225). -/
  tc : Int := 0
  /-- Consecutive open coils (R229), and VLV_CH_STATE's last fault. -/
  opens : Nat := 0
  fault : Nat := 0
  valid : Nat := 0
  d : Est := {}
  dhs : Est := {}
  /-- Values in force that differ from R222's calibration column: measured, µs. -/
  dMeas : Option Nat := none
  dhsMeas : Option Nat := none
  /-- Changes of a value in force that wait for 10 µs after the release (R222): boost sample, value, and from when (none
  until the pulse is released). -/
  pend : List (Bool × Nat × Option Nat) := []
deriving DecidableEq, Repr

/-- A proportional channel (R231 to R233). -/
structure PCh where
  /-- Switched on: its request has been granted (R244). -/
  active : Bool := false
  /-- A request waits at the toll gate (R244). -/
  waiting : Bool := false
  unusable : Bool := false
  latched : Bool := false
  short : Bool := false
  open_ : Bool := false
  overtemp : Bool := false
  /-- Consecutive faults, and when the retry falls due (R233). -/
  faults : Nat := 0
  retryAt : Option Nat := none
  /-- Base and set current of the PWM period in force, mA, and when the next period begins (R232). -/
  base : Int := 0
  setNow : Nat := 0
  nextAt : Nat := 0
  /-- The dither period in hand: its number, the sum of its PWM periods' currents and how many they are (R237). -/
  dith : Nat := 0
  dithSum : Nat := 0
  dithN : Nat := 0
  /-- Since when the duty has been at 95 % or more with the current below half of the setpoint (R233). -/
  openAt : Option Nat := none
deriving DecidableEq, Repr

/-- The valve drivers. -/
structure VlvSt where
  ch : List VCh := List.replicate 384 {}
  pv : List PCh := List.replicate 32 {}
  /-- Banks in service (R230). Reset per self-test: none. -/
  bankOk : List Bool := List.replicate 24 false
  /-- Banks whose high side stands at HI, and banks lost (R210, R230). Reset none. -/
  bankHi : List Bool := List.replicate 24 false
  bankLost : List Bool := List.replicate 24 false
  /-- The thermal model has been set at start, and when its next update falls due (R225). -/
  tempSet : Bool := false
  tempAt : Nat := 0
deriving DecidableEq, Repr

/-! ### Supplies and the toll gate (chapter 10) -/

/-- Who asks the toll gate (R244). -/
inductive Asker where
  | lsw (k : Nat) | pv (p : Nat) | pulse (id ch : Nat) | panel (n : Nat) | tower (t : Nat)
  | scrub | gnss | flash (r : Nat)
deriving DecidableEq, Repr

/-- The budgets of R244. -/
inductive Budget where
  | loadA | loadB | vhi | panel | logic
deriving DecidableEq, Repr

/-- A request at the toll gate (R244, R245). -/
structure TollReq where
  who : Asker
  cls : Nat
  budget : Budget
  key : Nat
  amount : Nat
  at_ : Nat
  /-- It was not granted at its first answer (R246). -/
  waited : Bool := false
deriving DecidableEq, Repr

/-- The charge reserved for a granted boost (R249, R250), in µC. -/
structure Reserve where
  id : Nat
  ch : Nat
  left : Nat
deriving DecidableEq, Repr

/-- A supply that R239 judges. -/
inductive Supply where
  | vhi | vlo | loadA | loadB
deriving DecidableEq, Repr

/-- A window of R251: its number, V_B at its first and last tick, whether V_B stayed 1 V below TOLL_V_SET, whether a bank was in boost. -/
structure VWin where
  k : Nat := 0
  first : Nat := 0
  last : Nat := 0
  low : Bool := false
  boost : Bool := true
  /-- No tick of it has been sampled. -/
  fresh : Bool := false
deriving DecidableEq, Repr

/-- The toll gate (R238 to R256). -/
structure TollSt where
  reqs : List TollReq := []
  res : List Reserve := []
  /-- Active class 3 and class 4 grants with their power in mW (R253). -/
  active : List (Asker × Nat) := []
  /-- V_B in mV (R249). -/
  vb : Nat := 0
  /-- The measured supplies of R276, in mV, and VLV_T_BOARD in 0.1 °C. -/
  logicIn : Nat := 0
  loadA : Nat := 0
  loadB : Nat := 0
  /-- LOGIC_IN is present since (R408). -/
  logicUp : Bool := false
  holdup : Bool := false
  holdupAt : Nat := 0
  crank : Bool := false
  crankAt : Nat := 0
  logicHigh : Bool := false
  overCap : Bool := false
  vhiLow : Bool := false
  vhiHigh : Bool := false
  vloOut : Bool := false
  vloAbsent : Bool := false
  loadAOut : Bool := false
  loadBOut : Bool := false
  /-- Load inputs above their operating range (R268). -/
  loadAHigh : Bool := false
  loadBHigh : Bool := false
  /-- The logic cap in force from start, in mW (R253). -/
  cap : Nat := 0
  /-- VALVE_LO as judged, in mV (R239). -/
  vloLow : Nat := 0
  vloTop : Nat := 0
  /-- Consecutive ticks or samples beyond and within the limit of each condition of R239, LOAD_A and LOAD_B above their range last. -/
  beyond : List Nat := [0, 0, 0, 0, 0, 0, 0, 0]
  within : List Nat := [0, 0, 0, 0, 0, 0, 0, 0]
  /-- LOAD_A and LOAD_B over the millisecond in hand: sums and counts of their samples (R272). -/
  loadSum : List Nat := [0, 0]
  loadN : List Nat := [0, 0]
  /-- The hold-up store's charge in µJ when it was last drawn on, and since when it recharges (R241, R242). Reset full. -/
  store : Nat := 1100000
  storeAt : Nat := 0
  /-- The window of R251 in hand, and the one that has ended and waits for its check. -/
  win : VWin := { low := true, boost := false, fresh := true }
  winDone : Option VWin := none
deriving DecidableEq, Repr

/-! ### Load switches (chapter 11) -/

/-- A load switch channel (R257 to R270). -/
structure LswCh where
  on : Bool := false
  /-- A request waits at the toll gate, or waits to be issued (R258, R268). -/
  wait : Bool := false
  held : Bool := false
  /-- The request is a retry (R266). -/
  isRetry : Bool := false
  unusable : Bool := false
  latched : Bool := false
  thermal : Bool := false
  /-- A retry is pending, due at this extended raw count (R266). -/
  retryAt : Option Nat := none
  /-- A thermal switch-off that was no fault: it requests again when the latch clears (R265). -/
  thermalOff : Bool := false
  /-- Switched off by R268's undervoltage or overvoltage row. -/
  uvOff : Bool := false
  ovOff : Bool := false
  open_ : Bool := false
  /-- The inrush window is open; counted time so far and since when it counts (R259, R263). -/
  inrush : Bool := false
  counted : Nat := 0
  since : Option Nat := none
  /-- Continuous on-time without a fault began (R266). -/
  onAt : Nat := 0
  /-- Retries consumed: LSW_RETRY_NOW (R266). -/
  count : Nat := 0
  /-- Applied duty in 0.1 % (R261), when the next PWM period begins (R260), and the input's samples since the last: sum and count. -/
  duty : Nat := 0
  nextAt : Nat := 0
  vSum : Nat := 0
  vN : Nat := 0
  /-- On-time samples in a row above the limit in force (R262), and the last sample in mA. -/
  trip : Nat := 0
  lastMa : Nat := 0
  /-- The millisecond of on-time in hand: sum and count of its samples (R272). -/
  iSum : Nat := 0
  iN : Nat := 0
  /-- Since when the mean has been below LSW_I_OPEN (R269). -/
  openAt : Option Nat := none
deriving DecidableEq, Repr

/-- The load switches. -/
structure LswSt where
  ch : List LswCh := List.replicate 24 {}
  /-- Inputs A and B at or below their undervoltage threshold (R263, R268), and since when. -/
  uv : List Bool := [false, false]
  uvAt : List (Option Nat) := [none, none]
  /-- The switch-off of R268 holds on the input, and has been done in the sag that stands. -/
  off : List Bool := [false, false]
  sagDone : List Bool := [false, false]
  /-- When an input came back into range from above (R268). -/
  ovAt : List (Option Nat) := [none, none]
deriving DecidableEq, Repr

/-! ### The control engine and machine inputs (chapter 12) -/

/-- A loop context's history (R277 to R284). -/
structure LoopCtx where
  /-- The output of the last period, which stands from `wroteAt` on (R274, R277), and the one before; none before the first (R283). -/
  u : Option Int := none
  uOld : Option Int := none
  /-- I_acc (R277). -/
  iacc : Int := 0
  mPrev : Int := 0
  d : Int := 0
  /-- Sign and amount by which the clamp and slew changed u in the last period (R279). -/
  cut : Int := 0
  /-- Mode in force in the last period: 0 OFF, 1 AUTO, 2 MANUAL, 3 FALLBACK (R281). -/
  mode : Nat := 0
  held : Bool := false
  /-- The instant at which the loop writes its last output (R274, R276). -/
  wroteAt : Option Nat := none
  /-- When it entered FALLBACK (R295). -/
  fbAt : Nat := 0
  /-- s_I of the last period, for R284's rescaling. -/
  sI : Option Nat := none
deriving DecidableEq, Repr

/-- State of a trace (R288). -/
inductive TrSt where
  | idle | armed | triggered | complete
deriving DecidableEq, Repr

/-- A trace buffer (R287, R288). -/
structure Trace where
  st : TrSt := .idle
  /-- Records written since arming, and the ring's records, newest first. -/
  n : Nat := 0
  recs : List (List Int) := []
  /-- Tick instants of the records kept, newest first. -/
  at_ : List Nat := []
  /-- Periods skipped since the last recorded one (LOOP_TR_DEC). -/
  skip : Nat := 0
  /-- Records still to write after the trigger, and records before it. -/
  left : Nat := 0
  /-- LOOP_TR_T0, LOOP_TR_FIRST and LOOP_TR_SEQ. -/
  t0 : Nat := 0
  first : Nat := 0
  seq : Nat := 0
deriving DecidableEq, Repr

/-- An analogue input (R289 to R292). -/
structure Ain where
  /-- End of the window of the last delivered value (R276). -/
  at_ : Option Nat := none
  unusable : Bool := false
  ovr : Bool := false
  overrange : Bool := false
  low : Bool := false
  /-- The shunt is open, since when (R291). -/
  shuntOpen : Option Nat := none
  /-- When the input was last known out of range (R291). -/
  badAt : Nat := 0
  /-- The input has fallen below AIN_HIT_REARM since the last hit (R292). -/
  armed : Bool := false
  /-- Fault cleared at: the first whole window after it delivers (R291). -/
  clearedAt : Option Nat := none
  /-- Hits of the last AIN_HIT_WIN ms, newest first; the last hit (R292). -/
  hits : List Nat := []
  lastHit : Option Nat := none
deriving DecidableEq, Repr

/-- An encoder (R293). -/
structure Enc where
  a : Bool := false
  b : Bool := false
  pos : Int := 0
  vel : Int := 0
  zpos : Int := 0
  /-- ZRESET has acted (R293). -/
  zdone : Bool := false
  /-- Positions at the last ticks, newest first, at most 200. -/
  hist : List Int := []
  /-- Failed test 14 (R411). Reset false. -/
  unusable : Bool := false
deriving DecidableEq, Repr

/-- A frequency input (R294). -/
structure Frq where
  /-- Extended raw counts of rising edges, newest first: those of the window and the last two. -/
  edges : List Nat := []
  /-- The value in force, mHz. -/
  value : Nat := 0
  /-- Failed test 14 (R411). Reset false. -/
  unusable : Bool := false
deriving DecidableEq, Repr

/-- The loop engine and the machine inputs. -/
structure LoopSt where
  ctx : List LoopCtx := List.replicate 64 {}
  /-- Ticks since E_0 (R273): the index of the next tick. -/
  tick : Nat := 0
  traces : List Trace := List.replicate 8 {}
  ain : List Ain := List.replicate 32 {}
  enc : List Enc := List.replicate 8 {}
  frq : List Frq := List.replicate 16 {}
deriving DecidableEq, Repr

/-! ### GNSS (chapter 13) -/

/-- A tracking channel (R301, R319). -/
structure GCh where
  sig : Nat := 0
  prn : Nat := 0
  /-- It tracks in the lower band (R298, R301). -/
  low : Bool := false
  cn0 : Nat := 0
  /-- 0 idle, 1 search, 2 track. -/
  st : Nat := 0
  az : Nat := 0
  el : Nat := 0
  res : Int := 0
  mp : Nat := 0
  /-- Magnitudes of the seven correlators VE, E, M1, P, M2, L, VL; the discriminator in 1/65536 chip; code in 1/256 chip and carrier as the
  loops have them (R301, R302). -/
  corr : List Nat := []
  disc : Int := 0
  code : Int := 0
  carrier : Int := 0
  /-- When it lost lock (R303). -/
  lostAt : Option Nat := none
  /-- What corrected its measurement in the last solution (R306): 2 RTCM 3, 1 SBAS, 0 nothing; and for the ionosphere 2 both bands, 1 the SBAS
  grid, 0 the broadcast model. -/
  diff : Nat := 0
  iono : Nat := 0
deriving DecidableEq, Repr

/-- The code-differential correction of a satellite (R307): its system and PRN, when it came, when the one before it came, the pseudorange of
the station in 2^-29 light-ms, the correction in mm. -/
structure GDiff where
  sys : Nat
  prn : Nat
  at_ : Nat
  old : Option Nat
  range : Nat
  val : Int
deriving DecidableEq, Repr

/-- A fix kept for R312. -/
structure Fix where
  t : Nat
  lat : Int
  lon : Int
  hgt : Int
  vn : Int
  ve : Int
  hErr : Nat
deriving DecidableEq, Repr

/-- The acquisition session (R303). -/
inductive AcqSt where
  | none | asked | active
deriving DecidableEq, Repr

/-- The receiver (R298 to R319). -/
structure GnssSt where
  ch : List GCh := List.replicate 64 {}
  /-- Blocks of the sample stream that the causeway has discarded since start (R18). Reset 0. -/
  blocksLost : Nat := 0
  /-- Antenna: 0 NORMAL, 1 OPEN, 2 SHORT, 3 OFF; the supply is switched on (R299). -/
  ant : Nat := 0
  antOn : Bool := false
  /-- When the supply was last switched, on or off (R299). -/
  antAt : Nat := 0
  /-- The receiver has started (R304), its start type 0 COLD, 1 WARM, 2 HOT. -/
  started : Bool := false
  startType : Nat := 0
  acq : AcqSt := .none
  acqAt : Nat := 0
  acqEnd : Option Nat := Option.none
  /-- A session was to be asked for before GNSS_ACQ_EVERY_S had passed: it is asked for then (R303). -/
  owed : Bool := false
  /-- The grant of the first session (R304). -/
  firstGrant : Option Nat := Option.none
  ttff : Nat := 0
  firstFix : Bool := false
  /-- Trust (R310). -/
  trusted : Bool := false
  /-- The last solution was trusted (R319); a trusted one has come since event 0x0719 was last due (R318). -/
  shown : Bool := false
  armed : Bool := false
  count : Nat := 0
  oscLock : Bool := false
  accepted : Bool := false
  reason : Nat := 0
  /-- Fix type of GNSS_STATE. -/
  fix : Nat := 0
  lastDelta : Option Int := Option.none
  /-- Trusted solution last delivered, loss reported (R316). -/
  lastTrust : Option Nat := Option.none
  lost : Bool := false
  /-- When the receiver last entered TRACK, or continuous tracking, from which a loss counts where no trusted solution has come since
  (R316), and when it entered TRACK (R30). -/
  lossFrom : Nat := 0
  trackAt : Nat := 0
  /-- Removed satellites: system, PRN, until (R308). -/
  excl : List (Nat × Nat × Nat) := []
  /-- Valid fixes of the last 60 s, newest first (R312). -/
  fixes : List Fix := []
  held : Option Fix := Option.none
  /-- KEEP-TIME: a burst runs since; bursts in a row that fell short; continuous tracking (R314, R315). -/
  burst : Option Nat := Option.none
  shortBursts : Nat := 0
  untrustedBursts : Nat := 0
  continuous : Nat := 0
  /-- Corrections: arrival of the latest, by source SBAS and RTCM 3; the stream is stale (R307). -/
  corr : Option Nat := Option.none
  /-- The corrections of the satellites, and the station's position in 0.1 mm, Earth-centred (R307). -/
  diffs : List GDiff := []
  station : Option (Int × Int × Int) := Option.none
  /-- The last epoch's raw count (R306), and the index of the last burst's second (R314). -/
  epochAt : Option Nat := Option.none
  burstSec : Option Int := Option.none
  /-- Messages taken since start by number (R307). -/
  corrMsgs : List (Nat × Nat) := []
  /-- The last message of each number, from which the receiver forms its corrections (R307). -/
  corrData : List (Nat × List Byte) := []
  stale : Bool := false
  /-- Bytes of an RTCM 3 frame that has not yet come whole (R381). -/
  rtcmBuf : List Byte := []
  /-- The last trusted solution's position (R305), and when the milestone last stored it. -/
  pos : Option (Int × Int × Int) := Option.none
  storedAt : Option Nat := Option.none
deriving DecidableEq, Repr

/-! ### CAN FD (chapter 15) -/

/-- A frame in a transmit queue (R356). -/
structure CanTx where
  id : Nat
  ext : Bool
  fd : Bool
  brs : Bool
  rtr : Bool := false
  dlc : Nat
  data : List Byte
  at_ : Nat
  /-- 0 Volron transport, 1 ISO 11783 data link, 2 raw send with its session. -/
  from_ : Nat
  sid : Nat
  /-- Its timeout passed during an attempt, which completes (R357). -/
  late : Bool := false
deriving DecidableEq, Repr

/-- Address claiming on the ISO 11783 channel (R360). -/
inductive IsoSt where
  | idle | waiting | claimed | held | cannot
deriving DecidableEq, Repr

/-- A session of the transport protocol of ISO 11783-3 (R359): its peer and PGN, whether this module sends, the message's size,
the next packet's number and the bytes received or to send. -/
structure Tp where
  peer : Nat
  pgn : Nat
  out : Bool
  size : Nat
  next : Nat
  data : List Byte
  /-- A broadcast announced by its peer, which is answered with nothing. -/
  bam : Bool := false
  /-- Raw count at which the session's silence ends it (log 148). -/
  due : Nat := 0
deriving DecidableEq, Repr

/-- One CAN FD channel (R345 to R362). -/
structure CanCh where
  unusable : Bool := false
  /-- Unread entries, oldest first, with their flags SHADOW and LOST_BEFORE (R351, R353). -/
  ring : List (CanEntry × Bool × Bool) := []
  /-- The firmware reads an entry, which stays occupied (R353). -/
  reading : Option (CanEntry × Bool × Bool) := Option.none
  shadow : Option (CanEntry × Bool) := Option.none
  lostBefore : Bool := false
  /-- Slots of the ring as they stand: slot, entry, SHADOW, LOST_BEFORE (R351, R362). -/
  slots : List (Nat × CanEntry × Bool × Bool) := []
  /-- CAN_RX_HEAD and CAN_RX_SEQ. -/
  head : Nat := 0
  seq : Nat := 0
  txq : List CanTx := []
  tec : Nat := 0
  rec_ : Nat := 0
  /-- 0 active, 1 passive, 2 bus-off, 3 off. -/
  st : Nat := 3
  busOffAt : Nat := 0
  iso : IsoSt := .idle
  /-- The address claimed or being claimed, and the addresses of the range already lost (R360). -/
  sa : Nat := 254
  lost : List Nat := []
  /-- Instant from which the wait of the claiming state runs, and that the claim has left the module (R360). -/
  isoAt : Nat := 0
  claimSent : Bool := false
  /-- TP sessions of the data link (R359, R360), and messages that wait for their peer's session to end. -/
  tp : List Tp := []
  isoOut : List (Nat × List Byte) := []
  /-- Outbound frames that wait for space in the queue (R365). -/
  txWait : List CanTx := []
  /-- The secondary sample point of the last FD frame sent, in clock periods (R350). Reset 0. -/
  ssp : Nat := 0
  /-- Frames put to the bus successfully (the model's record of output). -/
  sent : List CanEntry := []
  /-- Frames whose sender was told that they stayed unsent, oldest first (R357). Reset []. -/
  unsent : List CanTx := []
deriving DecidableEq, Repr

/-- The CAN controllers. -/
structure CanSt where
  ch : List CanCh := List.replicate 4 {}
  /-- The channels have started with the road book: CAN_STATE shows their states (R362). Reset false. -/
  started : Bool := false
deriving DecidableEq, Repr

/-! ### Performance counters (chapter 20) -/

/-- One record of the sample ring (R459). -/
structure Smp where
  n : Nat
  raw : Nat
  kind : Nat
  skid : Nat
  loc : Nat
  pc : Nat
  data : Nat
  /-- The microsecond in which its tower wrote it (R459). -/
  us : Nat := 0
deriving DecidableEq, Repr

/-- The counters. A counter is named by the address of its LO word, a histogram bin by its own address. -/
structure PerfSt where
  /-- Live values and those of the last snapshot (R450); an address not listed stands at 0. -/
  live : List (Nat × Nat) := []
  snap : List (Nat × Nat) := []
  snapT : Nat := 0
  snapSeq : Nat := 0
  /-- Extended raw count of the last snapshot, and PERF_SMP_SEQ and PERF_SMP_LOST as it shows them (R450). Reset 0. -/
  snapAt : Nat := 0
  snapSmp : Nat := 0
  snapLost : Nat := 0
  /-- Samples not written since start (R459). Reset 0. -/
  smpLost : Nat := 0
  /-- Towers that are clock-gated, and 16 more that restart: since when, and ns of it since the last snapshot that have ended
  (R451, R452). Reset empty. -/
  stillAt : List (Nat × Nat) := []
  stillNs : List (Nat × Nat) := []
  /-- Selectors and thresholds in force since the last snapshot (R456, R460). -/
  sel : List (Nat × Nat) := []
  /-- Selectors and thresholds written since the last snapshot: their addresses. -/
  pend : List Nat := []
  /-- The sample ring's records, newest first. -/
  ring : List Smp := []
  smpSeq : Nat := 0
  /-- The microsecond in which each tower last wrote a record (R459): tower and microsecond. -/
  lastUs : List (Nat × Nat) := []
  /-- The microsecond of each tower's last sample (R459). Reset empty. -/
  lastSmp : List (Nat × Nat) := []
  /-- Samples due of counters that reached zero by events that the model counts: tower and counter (R457). Reset empty. -/
  due : List (Nat × Nat) := []
  /-- Of each tower: the value of its tagging sequence at the last tag, and the raw count from which an instruction may be tagged
  (R458). Reset empty. -/
  tagSeq : List (Nat × Nat) := []
  tagFrom : List (Nat × Nat) := []
  lent : Nat := 0
deriving DecidableEq, Repr

/-! ### The module -/

/-- The W1C bits that the module has set at one instant: the instant, and the bits by address. A write of the same instant leaves them
set (R11). -/
structure Marks where
  at_ : Nat := 0
  bits : List (Nat × Nat) := []
deriving DecidableEq, Repr

/-- Everything the module holds but the queue of commands that wait. -/
structure Mod where
  /-- The extended raw count: TIME_RAW_HI and the raw counter (R15, R323). Reset 0. -/
  now : Nat := 0
  /-- Parameters that differ from their defaults: address and word, addresses rising (R9, R44). Reset empty. -/
  regs : List (Nat × Word) := []
  /-- Draws of open values so far: the argument of `Config.freeValue` (the model's own). Reset 0. -/
  free : Nat := 0
  /-- W1C bits set at the latest instant at which any was set (R11). Reset none. -/
  marks : Marks := {}
  sys : SysSt := {}
  evc : EvcSt := {}
  log : LogSt := {}
  net : NetSt := {}
  time : TimeSt := {}
  bist : BistSt := {}
  nv : Nv := {}
  cams : List CamPort := List.replicate 8 {}
  panels : List Panel := List.replicate 2 {}
  cell : CellSt := {}
  fus : FusSt := {}
  trk : TrkSt := {}
  ej : EjSt := {}
  vlv : VlvSt := {}
  toll : TollSt := {}
  lsw : LswSt := {}
  loop : LoopSt := {}
  gnss : GnssSt := {}
  can : CanSt := {}
  perf : PerfSt := {}
deriving DecidableEq, Repr

/-- Why a command stops with a fault. The spec gives every command of its table an effect, so no meaning raises
one; the constructor names the case for the host's interface. Safe. -/
inductive Fault where
  /-- No meaning raises it. Safe: the machine would stop where the module goes on. -/
  | none
deriving DecidableEq, Repr

/-- Why a command is refused by the model. -/
inductive Refusal where
  /-- The command of this mnemonic has no meaning yet; raised by `exec` alone. Safe: the machine stops. -/
  | notModelled (mnemonic : String)
deriving DecidableEq, Repr

/-- The module and the commands that wait, first in first out. -/
structure State where
  /-- The queue of commands, the front first. Reset empty. -/
  pending : List Instr := []
  /-- Everything else. -/
  m : Mod := {}
deriving DecidableEq, Repr

/-- The module right after reset, with no command waiting. -/
def State.reset : State := {}

end Sys2Proof.Machine
end

