-- ==== Sys2Proof/Machine/Ops.lean ====
section
/-!
DEFINITION. Machine/Ops.lean: the operations every meaning shares: the clock, the parameters in force, calibration
in force, raising events and routing them (R383 to R401), requests at the toll gate (R244), free values.
-/
namespace Sys2Proof.Machine

/-! ### Lists -/

/-- A list with element `i` changed. -/
def updAt {α : Type} (l : List α) (i : Nat) (f : α → α) : List α := l.modify i f

/-- The values of an association list in which an entry is set. -/
def assocSet {α : Type} (l : List (Nat × α)) (k : Nat) (v : α) : List (Nat × α) :=
  match l with
  | [] => [(k, v)]
  | (a, w) :: r => if a = k then (k, v) :: r else (a, w) :: assocSet r k v

/-- The entry of an association list. -/
def assocGet {α : Type} (l : List (Nat × α)) (k : Nat) : Option α := (l.find? (fun e => e.1 = k)).map (·.2)

/-- A count in an association list raised by `n`, modulo 2^32. -/
def assocAdd (l : List (Nat × Nat)) (k n : Nat) : List (Nat × Nat) :=
  assocSet l k (((assocGet l k).getD 0 + n) % 2 ^ 32)

/-! ### The clock (R15, R323) -/

/-- The module at the instant with raw count `t`: the extended count never runs back. -/
def Mod.at (m : Mod) (t : Nat) : Mod :=
  { m with now := Nat.max m.now (m.now / 2 ^ 32 * 2 ^ 32 + t % 2 ^ 32) }

/-- The raw counter (R16). -/
def Mod.raw (m : Mod) : Nat := m.now % 2 ^ 32

/-- The extended count nearest to the module's present that is congruent to a stamp (R324). -/
def Mod.extend (m : Mod) (s : Nat) : Nat :=
  let base := m.now / 2 ^ 32 * 2 ^ 32 + s % 2 ^ 32
  if base + 2 ^ 31 < m.now then base + 2 ^ 32
  else if m.now + 2 ^ 31 < base && 2 ^ 32 ≤ base then base - 2 ^ 32
  else base

/-- Reported time in ns since the PTP epoch (R322), held at S during a hold (R330). -/
def Mod.reported (m : Mod) : Nat :=
  let t := ((m.now : Int) + m.time.ofs).toNat
  match m.time.hold with
  | some h => if h.s ≤ t then h.s else t
  | none => t

/-- The reported time of an extended raw count that the module converts (R322): S where a hold stands and the count is not before it (R330). -/
def Mod.timeOf (m : Mod) (x : Int) : Int :=
  match m.time.hold with
  | some h => if (h.s : Int) ≤ x + m.time.ofs then h.s else x + m.time.ofs
  | none => x + m.time.ofs

/-! ### Parameters -/

/-- The stored word at an address. -/
def Mod.word (m : Mod) (a : Nat) : Word := Store.get m.regs a

/-- The module with a word stored. -/
def Mod.setWord (m : Mod) (a : Nat) (v : Word) : Mod := { m with regs := Store.put m.regs a v }

/-- A parameter's value, unsigned. -/
def Mod.rd (m : Mod) (p : Param) (i : Nat := 0) (j : Nat := 0) : Nat := (m.word (p.addr i j)).toNat

/-- A parameter's value as a signed number of its width. -/
def Mod.rdI (m : Mod) (p : Param) (i : Nat := 0) (j : Nat := 0) : Int := sext p.w (m.rd p i j)

/-- A parameter set to a value, cut to its width. -/
def Mod.wr (m : Mod) (p : Param) (v : Nat) (i : Nat := 0) (j : Nat := 0) : Mod :=
  m.setWord (p.addr i j) (w32 (v % 2 ^ p.w))

/-- A parameter set to a signed value, cut to its width. -/
def Mod.wrI (m : Mod) (p : Param) (v : Int) (i : Nat := 0) (j : Nat := 0) : Mod := m.wr p (toU p.w v) i j

/-- A count raised by `n`; it wraps at its width. -/
def Mod.inc (m : Mod) (p : Param) (i : Nat := 0) (n : Nat := 1) (j : Nat := 0) : Mod :=
  m.wr p (m.rd p i j + n) i j

/-- Bits of the W1C parameter at an address are noted as set at this instant (R11). -/
def Mod.mark (m : Mod) (a bits : Nat) : Mod :=
  let l := if m.marks.at_ = m.now then m.marks.bits else []
  { m with marks := { at_ := m.now, bits := assocSet l a ((assocGet l a).getD 0 ||| bits) } }

/-- The bits of the W1C parameter at an address that the module has set at this instant (R11). -/
def Mod.marked (m : Mod) (a : Nat) : Nat :=
  if m.marks.at_ = m.now then (assocGet m.marks.bits a).getD 0 else 0

/-- Bits of a W1C parameter set (R11). -/
def Mod.flag (m : Mod) (p : Param) (bits : Nat) (i : Nat := 0) : Mod :=
  (m.wr p (m.rd p i ||| bits) i).mark (p.addr i) bits

/-- A peak raised to a value; a value beyond the width saturates. -/
def Mod.peak (m : Mod) (p : Param) (v : Nat) (i : Nat := 0) : Mod :=
  m.wr p (Nat.max (m.rd p i) (Nat.min v (2 ^ p.w - 1))) i

/-- A parameter read from a piece's latched words (R50). -/
def lrd (vals : Store) (p : Param) (i : Nat := 0) (j : Nat := 0) : Nat := (Store.get vals (p.addr i j)).toNat

/-- The same, signed. -/
def lrdI (vals : Store) (p : Param) (i : Nat := 0) (j : Nat := 0) : Int := sext p.w (lrd vals p i j)

/-! ### Calibration in force (R53) -/

/-- The factory word where none is stored: FUS_GEO's unset mark, the stamp corrections of R334, else zero. -/
def calfDflt (a : Nat) : Word :=
  if 0x20510000 ≤ a && a < 0x20590000 then 0x00FFFFFF#32
  else if a = 0x20D00000 then 232#32
  else if a = 0x20D00004 then 104#32
  else if a = 0x20D00008 then 696#32
  else if a = 0x20D0000C then 344#32
  else 0#32

/-- The value in force of a calibration parameter under given factory and user words. -/
def calVal (calf calu : List (Nat × Word)) (p : Param) (i j : Nat) : Int :=
  match calTable.find? (fun c => c.par.base = p.base) with
  | none => 0
  | some c =>
    let a := c.cbase + i * c.cs1 + j * c.cs2
    let f := (assocGet calf a).getD (calfDflt a)
    let u := (assocGet calu (a + 0x01000000)).getD (caluDflt c.kind)
    calCombine c f u

/-- The value in force of a calibration parameter. -/
def Mod.cal (m : Mod) (p : Param) (i : Nat := 0) (j : Nat := 0) : Int := calVal m.nv.calf m.sys.calu p i j

/-- The same, where it cannot be negative. -/
def Mod.calN (m : Mod) (p : Param) (i : Nat := 0) (j : Nat := 0) : Nat := (m.cal p i j).toNat

/-! ### Open values -/

/-- The next free value and the module that has drawn it. -/
def Mod.draw (m : Mod) : Int × Mod := (Config.freeValue m.free, { m with free := m.free + 1 })

/-! ### Modes (R25, R26) -/

/-- SYS_MODE bit 0: HALF; bit 1: PAIRED; bit 2: FIELD. -/
def Mod.half (m : Mod) : Bool := (m.rd P.sysMode).testBit 0
def Mod.paired (m : Mod) : Bool := (m.rd P.sysMode).testBit 1
def Mod.fieldProfile (m : Mod) : Bool := (m.rd P.sysMode).testBit 2

/-- The module is RUNNING (R409). -/
def Mod.running (m : Mod) : Bool := m.bist.phase = .running

/-- The module's phase set. -/
def Mod.setPhase (m : Mod) (p : Phase) : Mod := { m with bist := { m.bist with phase := p } }

/-! ### Raising events (R383, R488) -/

/-- A block raises an event with its packed record data (R383). -/
def Mod.raise (m : Mod) (src code : Nat) (data : List Byte := []) : Mod :=
  { m with evc := { m.evc with raised := m.evc.raised ++ [{ src := src, code := code, data := data, norec := false }] } }

/-- An occurrence of an event raised at most once per second (R488); `data` is given the count of occurrences since
the last raising. `key` separates events of one code whose conditions are apart. -/
def Mod.raiseOnce (m : Mod) (src code key : Nat) (data : Nat → List Byte) (n : Nat := 1) : Mod :=
  let k := m.now / 10 ^ 9
  let here := fun (o : Once) => o.src = src && o.code = code && o.key = key
  let old : Once := (m.evc.once.find? here).getD { src := src, code := code, key := key, last := none, count := 0 }
  let rest := m.evc.once.filter (fun o => !here o)
  let cnt := old.count + n
  if old.last = some k then
    { m with evc := { m.evc with once := rest ++ [{ old with count := cnt }] } }
  else
    ({ m with evc := { m.evc with once := rest ++ [{ old with last := some k, count := 0 }] } }).raise src code (data cnt)

/-- The priority of a source (R384). -/
def Mod.prio (m : Mod) (src : Nat) : Nat := field (m.rd P.evcRoute src) 5 4

/-! ### The recorder (R392 to R401) -/

/-- The bytes of a record (R392). -/
def Rec.bytes (r : Rec) : List Byte :=
  leBytes 4 r.seq ++ leBytes 4 r.opSec ++ leBytes 3 r.cycle
    ++ leBytes 1 (128 * bit r.valid + 64 * bit r.held + 32 * bit r.trunc + 16 * bit r.internal + r.prio)
    ++ leBytes 2 r.code ++ leBytes 1 r.src ++ leBytes 1 r.check ++ leBytes 8 r.time ++ padTo 8 r.data

/-- The CHECK of a record: CRC-8 over its other bytes (R392). -/
def Rec.checkOf (r : Rec) : Nat := crc8 (r.bytes.take 15 ++ r.bytes.drop 16)

/-- A record of an event as it enters the recorder (R392): its number and check are set at writing. -/
def Mod.mkRec (m : Mod) (src code : Nat) (data : List Byte) : Rec :=
  { seq := 0, opSec := 0, cycle := 0, valid := m.time.valid, held := m.time.hold.isSome,
    trunc := (data.drop 8).any (fun b => b ≠ 0#8), internal := src = 120, prio := m.prio src, code := code, src := src,
    check := 0, time := if m.time.valid then m.reported else m.now, data := padTo 8 data }

/-- The fill of the recorder (R394). -/
def LogSt.fill (l : LogSt) : Nat := (l.next + 2 ^ 32 - l.oldest % 2 ^ 32) % 2 ^ 32

/-- A record put into its slot with the next number (R394). -/
def Mod.recStore (m : Mod) (r : Rec) : Mod :=
  let r1 := { r with seq := m.log.next, opSec := m.log.opSec, cycle := m.log.cycles, check := 0 }
  let r2 := { r1 with check := r1.checkOf }
  { m with log := { m.log with next := (m.log.next + 1) % 2 ^ 32 },
           nv := { m.nv with slots := assocSet m.nv.slots (m.log.next % 8192) r2 } }

/-- An event that the recorder raises on the FW and STREAM routes of source 120 (R397). -/
def Mod.raiseLog (m : Mod) (code : Nat) (data : List Byte) : Mod :=
  { m with evc := { m.evc with raised := m.evc.raised ++ [{ src := 120, code := code, data := data, norec := true }] } }

/-- A record written under the full rule (R400), before the fill warning. -/
def Mod.recPut (m : Mod) (r : Rec) : Mod :=
  if m.log.full then { m with log := { m.log with notRecorded := (m.log.notRecorded + 1) % 2 ^ 32 } }
  else if m.log.fill = 8191 then
    let d := leBytes 2 r.code ++ leBytes 1 r.src
    let m1 := m.recStore (m.mkRec 120 0x0A01 d)
    ({ m1 with log := { m1.log with full := true, flags := m1.log.flags ||| 1 } }.mark P.logFlags.base 1).raiseLog 0x0A01 d
  else m.recStore r

/-- The fill warning (R401). -/
def Mod.recWarn (m : Mod) : Mod :=
  let lim := m.rd P.logWarnFill
  if !m.log.judged then m
  else if lim ≠ 0 && lim ≤ m.log.fill && !m.log.warned then
    let d := leBytes 2 m.log.fill
    let m1 := { m with log := { m.log with warned := true } }
    (m1.recPut (m1.mkRec 120 0x0A03 d)).raiseLog 0x0A03 d
  else if m.log.warned && (m.log.fill < lim || lim = 0) then { m with log := { m.log with warned := false } }
  else m

/-- A record written (R396, R400, R401), once the recorder writes. -/
def Mod.recWrite (m : Mod) (r : Rec) : Mod :=
  if m.log.ready then (m.recPut r).recWarn else { m with log := { m.log with early := m.log.early ++ [r] } }

/-- LOG_WARN_FILL has its start value: the fill is judged (R401). -/
def Mod.recJudge (m : Mod) : Mod :=
  let m1 : Mod := { m with log := { m.log with judged := true } }
  if m.log.ready then m1.recWarn else m1

/-- The recorder writes from now on, its own records that waited first (R393 to R395). -/
def Mod.recBegin (m : Mod) : Mod := m.log.early.foldl Mod.recWrite { m with log := { m.log with ready := true, early := [] } }

/-- A record that the recorder writes for source 120, raised as an event too (R397). -/
def Mod.recInternal (m : Mod) (code : Nat) (data : List Byte) : Mod :=
  (m.recWrite (m.mkRec 120 code data)).raiseLog code data

/-- Position of the newest element of the lowest priority in a queue. -/
def newestLowest (prios : List Nat) : Nat :=
  let lo := maxOf 0 prios
  prios.length - 1 - prios.reverse.findIdx (fun p => p = lo)

/-- A record enters the recorder's input queue of 256 (R396). -/
def Mod.recEnqueue (m : Mod) (r : Rec) : Mod × Bool :=
  if m.log.q.length < 256 then ({ m with log := { m.log with q := m.log.q ++ [r] } }, true)
  else
    let q := m.log.q ++ [r]
    let i := newestLowest (q.map (·.prio))
    let m1 := { m with log := { m.log with q := q.eraseIdx i, overflows := (m.log.overflows + 1) % 2 ^ 32,
                                           flags := m.log.flags ||| 4 } }.mark P.logFlags.base 4
    let k := m.now / 10 ^ 9
    let here := fun (o : Once) => o.src = 120 && o.code = 0x0A06
    let old : Once := (m1.evc.once.find? here).getD { src := 120, code := 0x0A06, key := 0, last := none, count := 0 }
    let rest := m1.evc.once.filter (fun o => !here o)
    let m2 :=
      if old.last = some k then
        { m1 with evc := { m1.evc with once := rest ++ [{ old with count := old.count + 1 }] } }
      else
        ({ m1 with evc := { m1.evc with once := rest ++ [{ old with last := some k, count := 0 }] } }).recInternal
          0x0A06 (leBytes 4 (old.count + 1))
    (m2, i ≠ 256)

/-- The bucket of a pair of source and code (R398); a pair that is not listed has a full bucket. -/
def Mod.bucket (m : Mod) (src code : Nat) : Bucket :=
  (m.log.buckets.find? (fun b => b.src = src && b.code = code)).getD
    { src := src, code := code, tokens := m.rd P.logBurst, suppressed := 0 }

/-- The buckets with one changed; a bucket that is full and counts nothing is not listed. -/
def Mod.setBucket (m : Mod) (b : Bucket) : Mod :=
  let rest := m.log.buckets.filter (fun c => !(c.src = b.src && c.code = b.code))
  let keep := b.tokens < m.rd P.logBurst || b.suppressed ≠ 0
  { m with log := { m.log with buckets := if keep then rest ++ [b] else rest } }

/-- An event routed to RECORD reaches the recorder: the rate limit of R398, then the queue of R396. -/
def Mod.recTake (m : Mod) (src code : Nat) (data : List Byte) : Mod × Bool :=
  let r := m.mkRec src code data
  if m.prio src = 0 then m.recEnqueue r
  else
    let b := m.bucket src code
    if b.tokens = 0 then
      let m1 := m.setBucket { b with suppressed := b.suppressed + 1 }
      ({ m1 with log := { m1.log with suppressed := (m1.log.suppressed + 1) % 2 ^ 32, flags := m1.log.flags ||| 2 } }.mark
        P.logFlags.base 2, false)
    else (m.setBucket { b with tokens := b.tokens - 1 }).recEnqueue r

/-! ### The event controller (R383, R384) -/

/-- An event enters the delivery queue of 4,096 (R384). -/
def Mod.queueEvent (m : Mod) (e : Ev) : Mod :=
  if m.evc.q.length < 4096 then
    { m with evc := { m.evc with q := m.evc.q ++ [e], peak := Nat.max m.evc.peak (m.evc.q.length + 1) } }
  else
    let q := m.evc.q ++ [e]
    let i := newestLowest (q.map (·.prio))
    let p := (q.getD i e).prio
    let m1 := { m with evc := { m.evc with q := q.eraseIdx i, dropFlag := true,
                                           dropped := updAt m.evc.dropped p (fun n => (n + 1) % 2 ^ 32) } }.mark P.evcFlags.base 1
    m1.raiseOnce 119 0x0928 0 (fun c => leBytes 1 p ++ leBytes 4 c)

/-- Records a trace holds: 4,096 words over its signals (R287). -/
def Mod.trCap (m : Mod) (n : Nat) : Nat := 4096 / (field (m.rd P.loopTrCfg n) 25 24 + 1)

/-- A trace completes (R288): it freezes, counts and reports. -/
def Mod.traceDone (m : Mod) (n : Nat) : Mod :=
  let t := m.loop.traces.getD n {}
  let cap := m.trCap n
  let kept := Nat.min t.n cap
  let t1 := { t with st := .complete, seq := (t.seq + 1) % 2 ^ 32, first := if cap = 0 then 0 else (t.n - kept) % cap,
                     t0 := (t.at_.getLast?).getD 0 }
  ((({ m with loop := { m.loop with traces := m.loop.traces.set n t1 } }).flag P.loopFlags 4).raise 93 0x0629
    (leBytes 1 n ++ leBytes 4 t1.seq))

/-- An armed trace triggers (R288): capacity less LOOP_TR_PRE records remain to be written. -/
def Mod.traceTrigger (m : Mod) (n : Nat) : Mod :=
  let t := m.loop.traces.getD n {}
  if t.st = .armed then
    let left := m.trCap n - field (m.rd P.loopTrTrig n) 27 16
    let m1 := ({ m with loop := { m.loop with traces := m.loop.traces.set n { t with st := .triggered, left := left } } }).raise
      93 0x0628 (leBytes 1 n ++ leBytes 1 (field (m.rd P.loopTrCfg n) 31 26))
    if left = 0 then m1.traceDone n else m1
  else m

/-- Traces that wait for an event of this source trigger (R288). -/
def Mod.traceEvent (m : Mod) (src : Nat) : Mod :=
  ((List.range 8).filter (fun n => field (m.rd P.loopTrTrig n) 31 30 = 3 && field (m.rd P.loopTrTrig n) 6 0 = src)).foldl
    Mod.traceTrigger m

/-- The events numbered so far in the present 1 µs tick (R383). -/
def Mod.tickNow (m : Mod) : List Ticked := if m.evc.tickAt = m.now / 1000 then m.evc.tick else []

/-- One raised event is numbered, stamped, counted and routed (R383, R384). -/
def Mod.takeEvent (m : Mod) (r : Raised) : Mod :=
  let route := m.rd P.evcRoute r.src
  let seq := (m.evc.seq + 1) % 2 ^ 32
  let m1 := { m with evc := { m.evc with
    seq := seq, counts := assocAdd m.evc.counts r.src 1, tickAt := m.now / 1000,
    tick := m.tickNow ++ [({ prio := m.prio r.src, src := r.src, code := r.code, seq := seq } : Ticked)] } }
  let (m2, rec) := if route.testBit 2 && !r.norec && r.src ≠ 120 then m1.recTake r.src r.code r.data else (m1, r.norec)
  let m3 := m2.traceEvent r.src
  if route.testBit 0 || route.testBit 1 then
    m3.queueEvent
      { seq := seq, code := r.code, src := r.src, prio := field route 5 4, raw := m.now, valid := m.time.valid,
        held := m.time.hold.isSome, recorded := rec, fw := route.testBit 0, stream := route.testBit 1,
        rep := m.reported, data := r.data }
  else m3

/-- The order of events raised in one tick: priority, source, code (R383). -/
def Mod.eventOrder (m : Mod) (a b : Raised) : Bool :=
  let pa := m.prio a.src
  let pb := m.prio b.src
  pa < pb || (pa = pb && (a.src < b.src || (a.src = b.src && a.code ≤ b.code)))

/-- One round of the event controller over the events raised so far. -/
def Mod.flushOnce (m : Mod) : Mod :=
  let l := sortBy m.eventOrder m.evc.raised
  l.foldl Mod.takeEvent { m with evc := { m.evc with raised := [] } }

/-- Rounds until none is left that the taking itself has raised (R288, R384, R396). -/
def Mod.flushN : Nat → Mod → Mod
  | 0, m => m
  | n + 1, m => if m.evc.raised = [] then m else m.flushOnce.flushN n

/-- The order of events numbered in one tick (R383). -/
def Ticked.before (a b : Ticked) : Bool :=
  a.prio < b.prio || (a.prio = b.prio && (a.src < b.src || (a.src = b.src && a.code ≤ b.code)))

/-- The queue with the numbers of a tick's events given anew: those events, which stand last, in the order of their numbers. -/
def renumbered (old new : List Ticked) (q : List Ev) : List Ev :=
  let here := fun (e : Ev) => old.any (fun x => x.seq = e.seq)
  q.filter (fun e => !here e)
    ++ (new.zip old).flatMap (fun p => (q.filter (fun e => e.seq = p.1.seq)).map (fun e => { e with seq := p.2.seq }))

/-- The events of a tick hold its numbers in the order of priority, source and code, whichever commands raised them (R383). -/
def Mod.renumber (m : Mod) : Mod :=
  let new := sortBy Ticked.before m.evc.tick
  if new = m.evc.tick then m
  else
    { m with evc := { m.evc with q := renumbered m.evc.tick new m.evc.q,
                                 tick := (new.zip m.evc.tick).map (fun p => { p.1 with seq := p.2.seq }) } }

/-- The events of a step are taken, with those that the taking itself raises, and numbered with those of the same tick. Every trace
triggers at most once and every other such event is raised at most once, so that 40 rounds leave none. -/
def Mod.flush (m : Mod) : Mod := if m.evc.raised = [] then m else (m.flushN 40).renumber

/-! ### Requests at the toll gate (R244 to R246) -/

/-- A request is put to the toll gate; a requester has at most one. -/
def Mod.ask (m : Mod) (who : Asker) (cls : Nat) (b : Budget) (key amount : Nat) : Mod :=
  if m.toll.reqs.any (fun r => r.who = who) then m
  else
    { m with toll := { m.toll with reqs := m.toll.reqs ++
        [{ who := who, cls := cls, budget := b, key := key, amount := amount, at_ := m.now }] } }

/-- A request is withdrawn. -/
def Mod.unask (m : Mod) (who : Asker) : Mod :=
  { m with toll := { m.toll with reqs := m.toll.reqs.filter (fun r => r.who ≠ who) } }

/-- A class 3 or class 4 grant ends with its operation (R253). -/
def Mod.endGrant (m : Mod) (who : Asker) : Mod :=
  { m with toll := { m.toll with active := m.toll.active.filter (fun a => a.1 ≠ who) } }

/-- A requester has a request that waits. -/
def Mod.asking (m : Mod) (who : Asker) : Bool := m.toll.reqs.any (fun r => r.who = who)

/-! ### Meanings -/

/-- The parameter store in its canonical form, in which it is left. -/
def Mod.settle (m : Mod) : Mod := { m with regs := Store.canon m.regs }

/-- A command's meaning: at its instant, with the events it raised taken at its end. -/
def Mod.run (t : Nat) (f : Mod → Mod) (m : Mod) : Mod := (f (m.at t)).flush.settle

/-- A command's outcome: the queue stands as it is. -/
def State.run (s : State) (t : Nat) (f : Mod → Mod) : Host.Outcome State Fault Refusal :=
  .next { s with m := Mod.run t f s.m }

end Sys2Proof.Machine
end

