-- ==== Sys2Proof/Machine/Perf.lean ====
section
/-!
DEFINITION. Machine/Perf.lean: the performance counters (chapter 20). A counter is named by the address of its LO word.
-/
namespace Sys2Proof.Machine

/-- The live value of a counter. -/
def PerfSt.val (p : PerfSt) (a : Nat) : Nat := (assocGet p.live a).getD 0

/-- A live value set. -/
def Mod.perfSet (m : Mod) (a v : Nat) : Mod := { m with perf := { m.perf with live := assocSet m.perf.live a v } }

/-- The events of R456 that the model's commands show, and count themselves: job copies started, completed and aborted, scrub write-backs,
main-memory lines scrubbed, pieces admitted, lines corrected, poisoned lines consumed. -/
def ownCode (c : Nat) : Bool := [0x0B, 0x0C, 0x0D, 0x0E, 0x0F, 0x10, 0x43, 0x45].contains c

/-- An address of a histogram bin (R455): its count saturates at 32 bits. -/
def isHist (a : Nat) : Bool := 0x14020000 ≤ a && a < 0x14023000

/-- The tower and number of a programmable counter by the address of its LO word (R461). -/
def cntAt (a : Nat) : Option (Nat × Nat) := P.perfTCntLo.find a

/-- A tower counter samples: its selector in force has SAMPLE set (R457). -/
def Mod.sampling (m : Mod) (t n : Nat) : Bool := ((assocGet m.perf.sel (P.perfTSel.addr t n)).getD 0).testBit 15

/-- The LO word of a seven-column ledger counter of tower `t` (R452). -/
def isLedger (t a : Nat) : Bool :=
  P.perfTWorkLo.addr t ≤ a && a < P.perfTCycLo.addr t + 0x40 && (a - P.perfTWorkLo.addr t) % 8 = 0

/-- The event that a tower's or the module's counter counts (R456): of the selection in force. -/
def Mod.towerCode (m : Mod) (t n : Nat) : Nat := (assocGet m.perf.sel (P.perfTSel.addr t n)).getD 0 % 256
def Mod.moduleCode (m : Mod) (n : Nat) : Nat := (assocGet m.perf.sel (P.perfMSel.addr n)).getD 0 % 256

/-- What a sampling counter reloads (R457): its period, and where it randomises a value from 0 to period ÷ 16. -/
def Mod.smpReload (m : Mod) (t n : Nat) : Nat × Mod :=
  let per := m.rd P.perfTPeriod t n
  if ((assocGet m.perf.sel (P.perfTSel.addr t n)).getD 0).testBit 14 then
    let r := m.draw
    (per + (r.1 % ((per / 16 + 1 : Nat) : Int)).toNat, r.2)
  else (per, m)

/-- A counter advances by `n` (R451, R455, R457): a lent ledger stays at 0 (R454); a sampling counter runs down, and at zero it reloads and
its sample is due. -/
def Mod.perfAdd (m : Mod) (a n : Nat) : Mod :=
  let v := m.perf.val a
  if (List.range 16).any (fun t => m.perf.lent.testBit t && isLedger t a) then m
  else if isHist a then m.perfSet a (Nat.min (2 ^ 32 - 1) (v + n))
  else match cntAt a with
    | some (t, k) =>
      if !m.sampling t k then m.perfSet a ((v + n) % 2 ^ 48)
      else if n < v then m.perfSet a (v - n)
      else
        let r := m.smpReload t k
        ({ r.2 with perf := { r.2.perf with due := r.2.perf.due ++ [(t, k)] } }).perfSet a (r.1 - (n - v))
    | none => m.perfSet a ((v + n) % 2 ^ 48)

/-- An event of R456 occurs `n` times on tower `t`: every counter that selects it counts. -/
def Mod.perfTower (m : Mod) (t code n : Nat) : Mod :=
  (List.range 8).foldl (fun m k =>
    if m.towerCode t k = code then m.perfAdd (P.perfTCntLo.addr t k) n else m) m

/-- An event of R456 occurs `n` times in the module. -/
def Mod.perfModule (m : Mod) (code n : Nat) : Mod :=
  (List.range 8).foldl (fun m k =>
    if m.moduleCode k = code then m.perfAdd (P.perfMCntLo.addr k) n else m) m

/-- A duration enters a histogram of 32 bins up to `bound`, and one for the rest (R455). -/
def Mod.perfHist (m : Mod) (base bound d : Nat) : Mod :=
  m.perfAdd (base + 4 * (if bound ≤ d then 32 else d * 32 / bound)) 1

/-- A job copy ends on a tower `d` after its admission (R455, R456). -/
def Mod.perfJob (m : Mod) (t code bound d : Nat) : Mod := (m.perfTower t code 1).perfHist (P.perfHJob.addr t) bound d

/-! ### Counts that no command shows (R451, R452, R455, R456, R460) -/

/-- The sum of the counts given for counters of some addresses. -/
def countOf (counts : List (Nat × Nat)) (p : Nat → Bool) : Nat := sumOf ((counts.filter (fun e => p e.1)).map (·.2))

/-- A tower's clock stops, or its warm restart begins (key 16 more), at this instant (R451, R452). -/
def Mod.stillBegin (m : Mod) (k : Nat) : Mod := { m with perf := { m.perf with stillAt := assocSet m.perf.stillAt k m.now } }

/-- Raw counts since the last snapshot over which a tower has stood so. -/
def Mod.still (m : Mod) (k : Nat) : Nat :=
  (assocGet m.perf.stillNs k).getD 0
    + (match assocGet m.perf.stillAt k with
      | some a => m.now - Nat.max a m.perf.snapAt
      | none => 0)

/-- It ends. A tag may be taken from now on where a restart ends (R458). -/
def Mod.stillEnd (m : Mod) (k : Nat) : Mod :=
  { m with perf := { m.perf with
    stillNs := assocSet m.perf.stillNs k (m.still k), stillAt := m.perf.stillAt.filter (fun e => e.1 ≠ k),
    tagFrom := if 16 ≤ k then assocSet m.perf.tagFrom (k - 16) m.now else m.perf.tagFrom } }

/-- Cycles of the cell array's clock that some raw counts hold at most (R451): one each in FULL, one for two in HALF. -/
def Mod.cycles (m : Mod) (ns : Nat) : Nat := if m.half then ns / 2 else ns

/-- Raw counts since the last snapshot in which a tower's clock ran. -/
def Mod.towerNs (m : Mod) (t : Nat) : Nat := m.now - m.perf.snapAt - m.still t

/-- The ledger counts of tower `t` are those of R451 and R452: the tower is in service, its cycles are no more than its clock has had, every
cycle of its 60 cells is booked once, and those of a warm restart to UNFED alone. A lent ledger books nothing (R454). -/
def Mod.ledgerOk (m : Mod) (counts : List (Nat × Nat)) (t : Nat) : Bool :=
  let cyc := countOf counts (fun a => a = P.perfTCycLo.addr t)
  let busy := countOf counts (fun a => isLedger t a && a ≠ P.perfTUnfedLo.addr t)
  (m.cell.towers.getD t {}).ok && cyc ≤ m.cycles (m.towerNs t)
    && (m.perf.lent.testBit t || (countOf counts (isLedger t) = 60 * cyc && busy ≤ 60 * m.cycles (m.towerNs t - m.still (16 + t))))

/-- A tower's counter takes a count (R456): of an event that the model does not count itself, given for the lowest-numbered counter that
selects it; a sampling counter of the event does not reach zero by it, which is its sample's to show (R457). -/
def Mod.towerTakes (m : Mod) (t k n : Nat) : Bool :=
  let c := m.towerCode t k
  let with_ := (List.range 8).filter (fun j => m.towerCode t j = c)
  c ≠ 0 && !ownCode c && (m.cell.towers.getD t {}).ok && 0 < m.towerNs t && with_.head? = some k
    && with_.all (fun j => !m.sampling t j || n < m.perf.val (P.perfTCntLo.addr t j))

/-- A module counter takes a count, on the same terms. -/
def Mod.moduleTakes (m : Mod) (k : Nat) : Bool :=
  let c := m.moduleCode k
  c ≠ 0 && !ownCode c && m.perf.snapAt < m.now && (List.range 8).find? (fun j => m.moduleCode j = c) = some k

/-- A causeway's threshold in force (R460). -/
def Mod.cwThr (m : Mod) (k : Nat) : Nat := (assocGet m.perf.sel (P.perfCwThr.addr k)).getD 0

/-- The tower whose line histogram begins at an address. A count given for it is one line's cycles from request to delivery (R455). -/
def lineTower (a : Nat) : Option Nat := (List.range 16).find? (fun t => P.perfHLine.addr t = a)

/-- A count that the cell array or a causeway may give. -/
def Mod.countTaken (m : Mod) (counts : List (Nat × Nat)) (e : Nat × Nat) : Bool :=
  match cntAt e.1, P.perfMCntLo.find e.1, lineTower e.1 with
  | some (t, k), _, _ => m.towerTakes t k e.2
  | _, some (k, _), _ => m.moduleTakes k
  | _, _, some t => (m.cell.towers.getD t {}).ok && 0 < m.towerNs t
  | _, _, _ =>
    match P.perfCwAbove.find e.1, P.perfCwCross.find e.1 with
    | some (k, _), _ => m.cwThr k ≠ 0 && 4 * e.2 ≤ m.now - m.perf.snapAt
    | _, some (k, _) => m.cwThr k ≠ 0 && 8 * e.2 ≤ m.now - m.perf.snapAt + 8 && m.perf.snapAt < m.now
    | _, _ => (List.range 16).any (fun t => (isLedger t e.1 || e.1 = P.perfTCycLo.addr t) && m.ledgerOk counts t)

/-- A count enters its counters: every counter of an event counts it alike (R456). -/
def Mod.perfCount (m : Mod) (e : Nat × Nat) : Mod :=
  match cntAt e.1, P.perfMCntLo.find e.1 with
  | some (t, k), _ => m.perfTower t (m.towerCode t k) e.2
  | _, some (k, _) => m.perfModule (m.moduleCode k) e.2
  | _, _ => if (lineTower e.1).isSome then m.perfHist e.1 256 e.2 else m.perfAdd e.1 e.2

/-- A selection or threshold takes effect, and its counters restart (R456, R460). -/
def Mod.perfSelect (m : Mod) (a : Nat) : Mod :=
  let v := (m.word a).toNat
  let m1 := { m with perf := { m.perf with sel := assocSet m.perf.sel a v } }
  match P.perfTSel.find a, P.perfMSel.find a, P.perfCwThr.find a with
  | some (t, n), _, _ => m1.perfSet (P.perfTCntLo.addr t n) (if v.testBit 15 then m.rd P.perfTPeriod t n else 0)
  | _, some (n, _), _ => m1.perfSet (P.perfMCntLo.addr n) 0
  | _, _, some (k, _) => (m1.perfSet (P.perfCwAbove.addr k) 0).perfSet (P.perfCwCross.addr k) 0
  | _, _, _ => m1

/-- A snapshot (R450) after the counts that the cell array and the causeways have made since the last one, of what no command shows;
selections written since then take effect. -/
def Mod.perfSnapshot (m : Mod) (counts : List (Nat × Nat)) : Mod :=
  let m1 := (counts.filter (m.countTaken counts)).foldl Mod.perfCount m
  let m2 := { m1 with perf := { m1.perf with
    snap := m1.perf.live, snapT := m.raw, snapSeq := (m1.perf.snapSeq + 1) % 2 ^ 32, snapAt := m.now, snapSmp := m1.perf.smpSeq,
    snapLost := m1.perf.smpLost, stillNs := [] } }
  let m3 := m2.perf.pend.foldl Mod.perfSelect m2
  { m3 with perf := { m3.perf with pend := [] } }

/-- PERF_SNAP (R450). -/
def perfSnap (counts : List (Nat × Nat)) (m : Mod) : Mod := (m.wr P.perfSnap 1).perfSnapshot counts

/-- A write of a selector, period, threshold or PERF_TAG_CFG (R456 to R460). -/
def Mod.perfWrite (m : Mod) (a : Nat) (w : Word) : Mod :=
  let m1 := m.setWord a w
  if (P.perfTSel.find a).isSome || (P.perfMSel.find a).isSome || (P.perfCwThr.find a).isSome then
    { m1 with perf := { m1.perf with pend := m1.perf.pend ++ [a] } }
  else m1

/-- A record written in a microsecond comes before another (R459): by microsecond, then by tower. -/
def Smp.before (a b : Smp) : Bool := a.us < b.us || (a.us = b.us && a.loc / 64 < b.loc / 64)

/-- A record put into the ring, newest first, in its place: those after it take the next numbers (R459). -/
def smpInsert (r : Smp) : List Smp → List Smp
  | [] => [r]
  | x :: l => if r.before x then { x with n := r.n } :: smpInsert { r with n := x.n } l else r :: x :: l

/-- A record taken out of the ring: those after it move down by a number. -/
def smpRemove (p : Smp → Bool) : List Smp → List Smp
  | [] => []
  | x :: l => if p x then l else { x with n := (x.n + (2 ^ 32 - 1)) % 2 ^ 32 } :: smpRemove p l

/-- A record enters the sample ring in microsecond `us` of tower `t` (R459). -/
def Mod.smpWrite (m : Mod) (t us : Nat) (r : Smp) : Mod :=
  let n := m.perf.smpSeq
  let m1 := { m with perf := { m.perf with
    ring := (smpInsert { r with n := n, us := us } m.perf.ring).take 4096, smpSeq := (n + 1) % 2 ^ 32,
    lastUs := assocSet m.perf.lastUs t us,
    lastSmp := if r.kind / 64 = 1 then assocSet m.perf.lastSmp t us else m.perf.lastSmp } }
  if 4096 ≤ n then m1.flag P.perfFlags 1 else m1

/-- The microsecond in which a tower last wrote. -/
def Mod.smpBusy (m : Mod) (t : Nat) : Option Nat := assocGet m.perf.lastUs t

/-- A tower has taken a sample in microsecond `us`: another is lost (R459). -/
def Mod.smpTaken (m : Mod) (t us : Nat) : Bool :=
  match assocGet m.perf.lastSmp t with
  | some u => us ≤ u
  | none => false

/-- The tag record of a tower that stands in microsecond `us`. -/
def Mod.tagIn (m : Mod) (t us : Nat) : Option Smp := m.perf.ring.find? (fun x => x.us = us && x.loc / 64 = t && x.kind / 64 = 2)

/-- A sample is written; a tag record of its tower in the same microsecond follows in the next (R459). -/
def Mod.sampleWrite (m : Mod) (t us : Nat) (r : Smp) : Mod :=
  match m.tagIn t us with
  | none => m.smpWrite t us r
  | some x =>
    let m1 := { m with perf := { m.perf with
      ring := smpRemove (fun y => y.us = us && y.loc / 64 = t && y.kind / 64 = 2) m.perf.ring, smpSeq := (m.perf.smpSeq + (2 ^ 32 - 1)) % 2 ^ 32 } }
    (m1.smpWrite t us r).smpWrite t (us + 1) x

/-- A tower takes samples: in service, its clock running, and not in a warm restart (R451, R459). -/
def Mod.towerSamples (m : Mod) (t : Nat) : Bool :=
  let w := m.cell.towers.getD t {}
  t < 16 && w.ok && !w.gated && w.restarting.isNone

/-- PERF_SAMPLE (R457, R459): counter `n` of tower `t` reaches zero in a cell, now by an event that the model does not show, or before by one
that it counted; the sample names the instruction that retires `skid` instructions later. -/
def perfSample (t n cell skid : Nat) (ended : Bool) (raw pc serial : Nat) (m : Mod) : Mod :=
  let c := m.towerCode t n
  let own := ownCode c
  if m.towerSamples t && n < 8 && cell < 64 && skid ≤ 8 && c ≠ 0 && m.sampling t n && (!own || m.perf.due.contains (t, n)) then
    let r := m.smpReload t n
    let m2 := if own then { m with perf := { m.perf with due := m.perf.due.erase (t, n) } } else r.2.perfSet (P.perfTCntLo.addr t n) r.1
    let us := m.now / 1000
    if m.smpTaken t us then ({ m2 with perf := { m2.perf with smpLost := (m2.perf.smpLost + 1) % 2 ^ 32 } }).flag P.perfFlags 2
    else m2.sampleWrite t us
      { n := 0, raw := raw % 2 ^ 32, kind := 64 + 32 * bit ended + n, skid := skid, loc := 64 * t + cell, pc := pc % 2 ^ 32,
        data := serial % 2 ^ 32 }
  else m

/-- An instruction issued at raw count `issue` was tagged (R458): the sequence's value there is a multiple of MEAN, and the tower held no tag and
did not restart since. -/
def Mod.tagged (m : Mod) (t issue value : Nat) : Bool :=
  let w := m.rd P.perfTagCfg
  w.testBit 31 && value < 2 ^ 24 && field w 23 0 ≠ 0 && value % field w 23 0 = 0
    && (assocGet m.perf.tagFrom t).getD 0 ≤ m.extend issue && m.extend issue ≤ m.now

/-- PERF_TAG_RECORD (R458, R459): an instruction tagged at `issue`, where the tower's sequence stood at `value`, retires after `cycles` cycles;
`why` are the bits [4:0] of DATA. The rate limit delays its record. -/
def perfTagRecord (t cell : Nat) (discarded : Bool) (issue raw value cycles pc why : Nat) (m : Mod) : Mod :=
  if m.towerSamples t && cell < 64 && m.tagged t issue value then
    let us := match m.smpBusy t with
      | some u => Nat.max (m.now / 1000) (u + 1)
      | none => m.now / 1000
    ({ m with perf := { m.perf with tagSeq := assocSet m.perf.tagSeq t value, tagFrom := assocSet m.perf.tagFrom t m.now } }).smpWrite t us
      { n := 0, raw := raw % 2 ^ 32, kind := 128 + 16 * bit discarded, skid := 0, loc := 64 * t + cell, pc := pc % 2 ^ 32,
        data := 65536 * Nat.min 65535 cycles + why % 32 }
  else m

/-- The word of a counter or histogram at an address, from the snapshot (R450, R461); none elsewhere. -/
def Mod.perfWord (m : Mod) (a : Nat) : Option Word :=
  let snap := fun b => (assocGet m.perf.snap b).getD 0
  let lo := [P.perfMCntLo, P.perfTCycLo, P.perfTWorkLo, P.perfTVoidLo, P.perfTUnfedLo, P.perfTWaitNearLo, P.perfTWaitFarLo,
    P.perfTWaitMemLo, P.perfTWaitOutLo, P.perfTCntLo]
  if lo.any (fun p => (p.find a).isSome) then some (w32 (snap a))
  else if lo.any (fun p => 4 ≤ a && (p.find (a - 4)).isSome) then some (w32 (snap (a - 4) / 2 ^ 32))
  else if isHist a || (P.perfCwAbove.find a).isSome || (P.perfCwCross.find a).isSome then some (w32 (snap a))
  else if 0x14010000 ≤ a && a < 0x14020000 then
    let k := (a - 0x14010000) / 16
    match m.perf.ring.find? (fun r => r.n % 4096 = k) with
    | some r =>
      some (match (a - 0x14010000) / 4 % 4 with
        | 0 => w32 r.raw
        | 1 => w32 (r.kind + 256 * r.skid + 65536 * r.loc)
        | 2 => w32 r.pc
        | _ => w32 r.data)
    | none => some 0#32
  else if a = P.perfSnapT.base then some (w32 m.perf.snapT)
  else if a = P.perfSnapSeq.base then some (w32 m.perf.snapSeq)
  else if a = P.perfSmpSeq.base then some (w32 m.perf.snapSmp)
  else if a = P.perfSmpLost.base then some (w32 m.perf.snapLost)
  else if a = P.perfLedgerLent.base then some (w32 m.perf.lent)
  else none

/-! ### The commands as the queue gives them -/

/-- PERF_SAMPLE (R457). -/
def execPerfSample (t tower n cell skid : Nat) (ended : Bool) (raw pc serial : Nat) (s : State) : Host.Outcome State Fault Refusal :=
  s.run t (perfSample tower n cell skid ended raw pc serial)

/-- PERF_TAG_RECORD (R458). -/
def execPerfTagRecord (t tower cell : Nat) (discarded : Bool) (issue raw value cycles pc why : Nat) (s : State) : Host.Outcome State Fault Refusal :=
  s.run t (perfTagRecord tower cell discarded issue raw value cycles pc why)

end Sys2Proof.Machine
end

