-- ==== Sys2Proof/Machine/Code.lean ====
section
/-!
DEFINITION. Machine/Code.lean: the data path code (R111 to R116): arithmetic in GF(2^16), the check symbols of
RS(36,32) with the address folded in, the reader's decode, and the re-folding of an address; the number formats of a
cell's accumulator (R105, R106).
-/
namespace Sys2Proof.Machine

/-- Multiplication by α = x (R111). -/
def gfX (a : Nat) : Nat := if 2 ^ 15 ≤ a then (2 * a) ^^^ 0x1100B else 2 * a

/-- Steps of a product in GF(2^16): `b` bit by bit from the lowest. -/
def gfMulLoop : Nat → Nat → Nat → Nat → Nat
  | 0, _, _, acc => acc
  | k + 1, a, b, acc => gfMulLoop k (gfX a) (b / 2) (if b % 2 = 1 then acc ^^^ a else acc)

/-- A product in GF(2^16) (R111). -/
def gfMul (a b : Nat) : Nat := gfMulLoop 16 a b 0

/-- α^n. -/
def gfPow : Nat → Nat
  | 0 => 1
  | n + 1 => gfX (gfPow n)

/-- The inverse of a nonzero element: a^(2^16 − 2), as a product of squares. -/
def gfInvLoop : Nat → Nat → Nat → Nat
  | 0, _, acc => acc
  | k + 1, sq, acc => let s := gfMul sq sq; gfInvLoop k s (gfMul acc s)

/-- The inverse of a nonzero element. -/
def gfInv (a : Nat) : Nat := gfInvLoop 15 a 1

/-- The virtual symbols A_1 and A_0 of a space tag and an address (R112). -/
def addrSyms (tag addr : Nat) : Nat × Nat := (4096 * (tag % 16) + (addr / 65536) % 4096, addr % 65536)

/-- The codeword's coefficients from degree 37 down: A_1, A_0, the data symbols, the checks (R113). -/
def codeword (tag addr : Nat) (stored : List Nat) : List Nat := let a := addrSyms tag addr; a.1 :: a.2 :: stored

/-- A polynomial, coefficients from the highest degree down, at α^i. -/
def polyAt (i : Nat) (c : List Nat) : Nat := let x := gfPow i; c.foldl (fun acc s => gfMul acc x ^^^ s) 0

/-- The syndromes S_0 to S_3 (R114). -/
def syndromes (tag addr : Nat) (stored : List Nat) : List Nat := (List.range 4).map (fun i => polyAt i (codeword tag addr stored))

/-- g(x) without its leading coefficient, degree 3 down to 0 (R113). -/
def genPoly : List Nat :=
  let times := fun (p : List Nat) (r : Nat) => (List.zipWith (· ^^^ ·) (p ++ [0]) (0 :: p.map (gfMul r)))
  ([1, gfPow 1, gfPow 2, gfPow 3].foldl times [1]).tail

/-- One step of the division by g(x): the remainder, degree 3 down to 0, takes the next coefficient. -/
def remStep (r : List Nat) (u : Nat) : List Nat :=
  let f := u ^^^ r.headD 0
  List.zipWith (· ^^^ ·) (r.tail ++ [0]) (genPoly.map (gfMul f))

/-- The check symbols p_0 to p_3 of 32 data symbols written at an address (R113). -/
def checksOf (tag addr : Nat) (data : List Nat) : List Nat := (codeword tag addr data).foldl remStep [0, 0, 0, 0]

/-- A re-folded address (R116): the checks take the old address's contribution and the new one's. -/
def refold (tag addr tag' addr' : Nat) (stored : List Nat) : List Nat :=
  let zero := List.replicate 32 0
  stored.take 32 ++ List.zipWith (· ^^^ ·) (stored.drop 32)
    (List.zipWith (· ^^^ ·) (checksOf tag addr zero) (checksOf tag' addr' zero))

/-! ### Lines as bytes (R111) -/

/-- The symbols of stored bytes: byte 2k low, byte 2k + 1 high (R111). -/
def symsOf : List Byte → List Nat
  | a :: b :: r => (a.toNat + 256 * b.toNat) :: symsOf r
  | [a] => [a.toNat]
  | [] => []

/-- The stored bytes of symbols, each little-endian (R111). -/
def bytesOf (syms : List Nat) : List Byte := syms.flatMap (leBytes 2)

/-- The 36 stored symbols of 32 data symbols at an address (R111, R113). -/
def encodeSyms (tag addr : Nat) (data : List Nat) : List Nat := data ++ checksOf tag addr data

/-- The 72 stored bytes of a line's 64 data bytes (R111). -/
def encodeLine (tag addr : Nat) (data : List Byte) : List Byte := bytesOf (encodeSyms tag addr (symsOf data))

/-- What a decode finds (R114). -/
inductive Decoded where
  | clean
  | corrected (n : Nat) (word : List Nat)
  | address
  | uncorrectable
deriving DecidableEq, Repr

/-- Error positions consistent with the syndromes, with their values (R114): one, or two. -/
def locate (s0 s1 s2 s3 : Nat) : List (Nat × Nat) :=
  if s0 = 0 && s1 = 0 && s2 = 0 && s3 = 0 then []
  else
    let one := (List.range 38).filter (fun i =>
      let x := gfPow i
      s0 ≠ 0 && gfMul s0 x = s1 && gfMul s1 x = s2 && gfMul s2 x = s3)
    match one with
    | i :: _ => [(i, s0)]
    | [] =>
      let det := gfMul s1 s1 ^^^ gfMul s0 s2
      let b := gfMul s1 s2 ^^^ gfMul s0 s3
      let c := gfMul s2 s2 ^^^ gfMul s1 s3
      let roots := (List.range 38).filter (fun i => let x := gfPow i; gfMul det (gfMul x x) ^^^ gfMul b x ^^^ c = 0)
      match roots with
      | [i, j] =>
        let x := gfPow i
        let y := gfPow j
        let d := gfInv (x ^^^ y)
        let ei := gfMul (s1 ^^^ gfMul y s0) d
        let ej := gfMul (s1 ^^^ gfMul x s0) d
        if det = 0 || ei = 0 || ej = 0 then [] else [(i, ei), (j, ej)]
      | _ => []

/-- A symbol corrected at a degree position of 0 to 35. -/
def fixSym (word : List Nat) (e : Nat × Nat) : List Nat := word.modify (35 - e.1) (fun s => s ^^^ e.2)

/-- The reader's decode (R114). -/
def decodeLine (tag addr : Nat) (stored : List Nat) : Decoded :=
  match syndromes tag addr stored with
  | [s0, s1, s2, s3] =>
    if s0 = 0 && s1 = 0 && s2 = 0 && s3 = 0 then .clean
    else
      match locate s0 s1 s2 s3 with
      | [] => .uncorrectable
      | es => if es.any (fun e => 36 ≤ e.1) then .address else .corrected es.length (es.foldl fixSym stored)
  | _ => .uncorrectable

/-! ### A cell's arithmetic (R105, R106) -/

/-- The width of a format's accumulator (R105). -/
def macWidth : MacFmt → Nat
  | .int8 | .uint8 => 32
  | .int16 => 48
  | .fixed32 => 64

/-- Multiply-accumulates that a cell makes in one cycle (R105). -/
def macPerCycle : MacFmt → Nat
  | .int8 | .uint8 => 32
  | .int16 => 16
  | .fixed32 => 8

/-- The product of two operands, each cut to its format (R105). The fraction bits of fixed32 only say how a program reads it. -/
def macProd (f : MacFmt) (x : Int × Int) : Int :=
  match f with
  | .int8 => sext 8 (toU 8 x.1) * sext 8 (toU 8 x.2)
  | .uint8 => (toU 8 x.1 : Int) * sext 8 (toU 8 x.2)
  | .int16 => sext 16 (toU 16 x.1) * sext 16 (toU 16 x.2)
  | .fixed32 => sext 32 (toU 32 x.1) * sext 32 (toU 32 x.2)

/-- An accumulation of a product in an accumulator of `w` bits (R105, R106): its value, and whether it saturated. -/
def accumulate (w : Nat) (acc prod : Int) : Int × Bool :=
  let v := acc + prod
  let c := clampI (-(2 ^ (w - 1) : Nat)) ((2 ^ (w - 1) : Nat) - 1) v
  (c, c ≠ v)

/-- A result that leaves the accumulator by a shift of `n` to `w` bits, signed or not (R106). -/
def accOut (n w : Nat) (signed : Bool) (acc : Int) : Int :=
  let v := rdiv acc (2 ^ n)
  if signed then clampI (-(2 ^ (w - 1) : Nat)) ((2 ^ (w - 1) : Nat) - 1) v else clampI 0 ((2 ^ w : Nat) - 1) v

/-- The accumulator after a run, and whether it saturated on the way (R105, R106). Each product of an instruction saturates by itself, in
operand order (DESIGN CHOICE, log 137: R106 gives no order among the 8 to 32 products of a cycle). -/
def macRun (f : MacFmt) (acc : Int) (ops : List (Int × Int)) : Int × Bool :=
  ops.foldl (fun a x => let r := accumulate (macWidth f) a.1 (macProd f x); (r.1, a.2 || r.2)) (acc, false)

end Sys2Proof.Machine
end

