-- ==== Sys2Proof/Machine/Cell.lean ====
section
/-!
DEFINITION. Machine/Cell.lean: the cell array (chapter 5) but for piece jobs: line errors and their accounts, scrubbing,
towers in service, slots, gating.
-/
namespace Sys2Proof.Machine

/-! ### Towers and slots (R27, R110, R123, R125, R127) -/

/-- A tower. -/
def Mod.tower (m : Mod) (t : Nat) : Tower := m.cell.towers.getD t {}

/-- A tower changed. -/
def Mod.setTower (m : Mod) (t : Nat) (f : Tower → Tower) : Mod :=
  { m with cell := { m.cell with towers := updAt m.cell.towers t f } }

/-- The tower is in service and does not restart. -/
def Mod.towerUp (m : Mod) (t : Nat) : Bool := (m.tower t).ok && (m.tower t).restarting.isNone

/-- Towers in service (R123). -/
def Mod.towersOk (m : Mod) : List Nat := (List.range 16).filter (fun t => (m.tower t).ok)

/-- CELL_SLOTS (R125, R127). -/
def Mod.slots (m : Mod) : Nat := 4 * ((List.range 16).filter m.towerUp).length

/-- Decision rate of the throughput and checking combination (R28). -/
def Mod.comboRate (m : Mod) : Nat :=
  match m.half, m.paired with
  | false, false => 160000
  | false, true => 120000
  | true, false => 80000
  | true, true => 60000

/-- SYS_RATE_CAP (R27, R125) with k towers in service. -/
def Mod.rateCap (m : Mod) (k : Nat) : Nat :=
  let r := m.comboRate * k / 16
  let c := m.rd P.sysCapRate
  if m.fieldProfile && c ≠ 0 then Nat.min r c else r

/-- The bound of a piece job (R23, R126). -/
def Mod.jobBound (m : Mod) : Nat := if m.half then 800000 else 400000

/-! ### Placement and the mesh (R108, R109, R122, R123) -/

/-- The usable cells of a tower, in ascending order (R122). -/
def Tower.usable (w : Tower) : List Nat := (List.range 64).filter (fun c => w.cells.testBit c)

/-- The physical cell that logical cell `i` of a tower occupies (R122). -/
def Mod.physCell (m : Mod) (t i : Nat) : Option Nat := (m.tower t).bound[i]?

/-- The spare cells of a tower, which remain idle (R123). -/
def Mod.spares (m : Mod) (t : Nat) : List Nat := (m.tower t).usable.filter (fun c => !(m.tower t).bound.contains c)

/-- The physical tower bound to logical tower `j` (R122). -/
def Mod.physTower (m : Mod) (j : Nat) : Nat := m.towersOk.getD (j % m.towersOk.length) 0

/-- Row and column of a tower in the mesh (R109). -/
def meshAt (t : Nat) : Nat × Nat := (t / 4, t % 4)

/-- The towers from one coordinate to another, the first left out, along a line of the mesh. -/
def meshLine (at_ : Nat → Nat) (a b : Nat) : List Nat :=
  (List.range (Nat.max a b - Nat.min a b)).map (fun k => at_ (if a < b then a + k + 1 else a - k - 1))

/-- The towers a line passes from one tower to another (R109): along its row to the target column, then along the column. -/
def meshRoute (a b : Nat) : List Nat :=
  a :: (meshLine (fun c => 4 * (meshAt a).1 + c) (meshAt a).2 (meshAt b).2 ++ meshLine (fun r => 4 * r + (meshAt b).2) (meshAt a).1 (meshAt b).1)

/-- The tower at which a memory channel meets the mesh (R109). -/
def channelTower (ch : Nat) : Nat := [0, 3, 12, 15].getD ch 0

/-- The tower at which a camera receiver meets the mesh (R109). -/
def cameraTower (p : Nat) : Nat := [1, 2, 4, 7, 8, 11, 13, 14].getD p 0

/-- The towers at which the firing engine and the verdict path, the supervisory processors and the configuration controller, the panel
link and PERF, and the loop engine's tally inputs meet the mesh (R109). -/
def firingTower : Nat := 5
def superTower : Nat := 10
def panelTower : Nat := 6
def loopTower : Nat := 9

/-- The route of a line from main memory to a tower, and back the other way (R109, R120): the channel is line address bits [1:0]. -/
def memoryRoute (addr t : Nat) : List Nat := meshRoute (channelTower (addr % 4)) t

/-- The tower that runs a stage of a port restarts, and its output is lost (R127). -/
def Mod.stageDown (m : Mod) (p k : Nat) : Bool := (m.tower (m.physTower (Config.stageTower p k))).restarting.isSome

/-- A tower has carried work until now (R110). -/
def Mod.worked (m : Mod) (t : Nat) : Mod := m.setTower t (fun w => { w with busyAt := m.now })

/-! ### Cells that run (R105, R106) -/

/-- A cell works (R122, R123): a logical cell is bound to it, and its tower is in service. A spare and an unusable cell carry no program, and
a lost tower takes no work. -/
def Mod.cellWorks (m : Mod) (c : Nat) : Bool := c < 1024 && m.towerUp (c / 64) && (m.tower (c / 64)).bound.contains (c % 64)

/-- A run of multiply-accumulates on a cell (R105, R106): its accumulator, its SAT flag, the result that leaves it. -/
def Mod.cellRun (m : Mod) (r : CellRun) : Mod :=
  let a := macRun r.fmt (if r.clear then 0 else (assocGet m.cell.acc r.cell).getD 0) r.ops
  let c := m.cell
  if !m.cellWorks r.cell || 31 < r.shift || !([8, 16, 32].contains r.width) then m
  else
    { m with cell := { c with acc := assocSet c.acc r.cell a.1, out := assocSet c.out r.cell (accOut r.shift r.width r.signed a.1),
                              sat := if a.2 && !c.sat.contains r.cell then c.sat ++ [r.cell] else c.sat } }

/-! ### The line store (R105, R111, R116, R120) -/

/-- A line put into the store, which lists addresses in rising order. -/
def linePut (l : List (Nat × List Nat)) (k : Nat) (w : List Nat) : List (Nat × List Nat) :=
  match l with
  | [] => [(k, w)]
  | (a, x) :: r => if k < a then (k, w) :: (a, x) :: r else if a = k then (k, w) :: r else (a, x) :: linePut r k w

/-- A line that a space holds (R105, R112, R120): 2^28 of main memory, 1,536 of each cell's SRAM, 65,536 transfer buffers of the fabric. -/
def lineExists (tag addr : Nat) : Bool :=
  if tag = 0 then addr < 2 ^ 28 else if tag = 1 then addr < 2 ^ 21 && field addr 10 0 < 1536 else tag = 2 && addr < 65536

/-- The key of a line: its tag and 28 address bits (R112). -/
def lineKey (tag addr : Nat) : Nat := 2 ^ 28 * tag + addr % 2 ^ 28

/-- What an address holds that nothing has written: the codeword of zeros (DESIGN CHOICE, log 103). -/
def zeroLine (k : Nat) : List Nat := encodeSyms (k / 2 ^ 28) (k % 2 ^ 28) (List.replicate 32 0)

/-- The stored symbols at an address. -/
def Mod.lineAt (m : Mod) (tag addr : Nat) : List Nat := (assocGet m.cell.lines (lineKey tag addr)).getD (zeroLine (lineKey tag addr))

/-- A line is zero: it is not listed. -/
def isZeroLine (k : Nat) (w : List Nat) : Bool := (w.take 32).all (fun s => s = 0) && w = zeroLine k

/-- A line stored under its key: one that reads as nothing written is not listed. -/
def lineStore (l : List (Nat × List Nat)) (k : Nat) (w : List Nat) : List (Nat × List Nat) :=
  let r := l.filter (fun e => e.1 ≠ k)
  if isZeroLine k w then r else linePut r k w

/-- The module with a line stored. -/
def Mod.putLine (m : Mod) (tag addr : Nat) (w : List Nat) : Mod :=
  { m with cell := { m.cell with lines := lineStore m.cell.lines (lineKey tag addr) w } }

/-- The line store is in its canonical form: keys rising, no line that reads as an unlisted one. -/
def linesWf (l : List (Nat × List Nat)) : Bool :=
  (l.map (·.1)).Pairwise (· < ·) && l.all (fun e => !isZeroLine e.1 e.2)

/-- The symbols that a reader finds (R111, R116): what stands at the address, or has been written or moved there, with its flips. -/
def Mod.found (m : Mod) (r : LineRead) : List Nat :=
  let w := match r.src with
    | some (tag, addr) => refold tag addr r.tag r.addr (m.lineAt tag addr)
    | none => if r.word = [] then m.lineAt r.tag r.addr else symsOf r.word
  r.flips.foldl (fun w f => w.modify f.1 (fun s => s ^^^ f.2 % 65536)) w

/-- A line into which the memory controller merges a write of less than a line, re-encoded (R120). -/
def mergeLine (r : LineRead) (w : List Nat) : List Nat :=
  if r.merge = [] then w
  else
    let b := r.merge.foldl (fun b e => b.set e.1 e.2) ((bytesOf w).take 64)
    encodeSyms r.tag r.addr (symsOf b)

/-! ### Line errors (R114, R117, R131) -/

/-- The error block's location of an address, and its cell (R112, R114, R132). -/
def lineLoc (tag addr : Nat) : Nat × Nat :=
  if tag = 0 then (addr % 4, 0)
  else if tag = 1 then (5 + field addr 20 17, field addr 16 11)
  else (4, 0)

/-- The event source of a location (R131). -/
def locSource (l : Nat) : Nat := if l < 4 then 40 + l else if l = 4 then 44 else 32 + (l - 5) / 2

/-- A decode result other than clean is counted once, where the line was held (R114, R132), and reported from that location's source, by
a scrubber too (DESIGN CHOICE, log 104). -/
def Mod.lineErr (m : Mod) (r : LineRead) (kind bit : Nat) (p : Param) (code : Nat) (extra : List Byte) : Mod :=
  let lc := lineLoc r.tag r.addr
  let m1 := ((m.inc p lc.1).flag P.cellErrFlags bit).wr P.cellErrLastLoc (2 ^ 28 * kind + 65536 * lc.1 + lc.2)
  ((m1.wr P.cellErrLastAddr r.addr).wr P.cellErrLastT m.raw).raise (locSource lc.1) code
    (leBytes 1 lc.1 ++ leBytes 4 (r.addr % 2 ^ 28) ++ extra)

/-- A corrected line enters its location's account of the last hour (CELL_CE_LIMIT). -/
def Mod.ceNote (m : Mod) (l : Nat) : Mod :=
  let hour := ((assocGet m.cell.ce l).getD []).filter (fun t => m.now < t + 3600 * 10 ^ 9)
  let now := m.now :: hour
  let ovr : Bool := m.rd P.cellCeLimit < now.length
  let m1 := { m with cell := { m.cell with ce := assocSet m.cell.ce l (if ovr then [] else now) } }
  if ovr then (m1.flag P.cellErrFlags 2).raise (locSource l) 0x020E (leBytes 1 l) else m1

/-- A line that exists is read (R114, R117, R120): the effects, and whether it is delivered poisoned. A corrected line of main memory or of SRAM
is written back corrected; a poisoned one stands as it was found, and takes no part of a line (log 105). -/
def Mod.readLine (m : Mod) (r : LineRead) : Mod × Bool :=
  let w := m.found r
  let put := fun (m : Mod) (x : List Nat) => m.putLine r.tag r.addr x
  match decodeLine r.tag r.addr w with
  | .clean => (put m (mergeLine r w), false)
  | .corrected n word =>
    let p := if n = 1 then P.cellCe1 else P.cellCe2
    (put ((m.lineErr r n 1 p 0x0201 (leBytes 1 n)).ceNote (lineLoc r.tag r.addr).1) (if r.tag ≤ 1 then mergeLine r word else w), false)
  | .uncorrectable => (put (m.lineErr r 3 4 P.cellUe 0x0202 []) w, true)
  | .address => (put (m.lineErr r 4 8 P.cellAddr 0x0203 []) w, true)

/-- A reader takes a line; an address at which no space holds one gives nothing (R105, R112). -/
def Mod.takeLine (m : Mod) (r : LineRead) : Mod × Bool := if lineExists r.tag r.addr then m.readLine r else (m, false)

/-- A line that a reader finds is corrected. -/
def Mod.corrects (m : Mod) (r : LineRead) : Bool :=
  lineExists r.tag r.addr && match decodeLine r.tag r.addr (m.found r) with
  | .corrected _ _ => true
  | _ => false

/-- A tower takes a line; it counts one that was corrected and one that it consumes poisoned (R456). -/
def Mod.takeFor (m : Mod) (t : Nat) (r : LineRead) : Mod × Bool :=
  let a := m.takeLine r
  let m1 := if m.corrects r then a.1.perfTower t 0x0B 1 else a.1
  (if a.2 then m1.perfTower t 0x0C 1 else m1, a.2)

/-- A tower takes lines in order; those that came poisoned. -/
def Mod.takesFor (m : Mod) (t : Nat) (rs : List LineRead) : Mod × List LineRead :=
  rs.foldl (fun a r => let b := a.1.takeFor t r; (b.1, if b.2 then a.2 ++ [r] else a.2)) (m, [])

/-- A reader takes lines in order; those that came poisoned. -/
def Mod.takeLines (m : Mod) (rs : List LineRead) : Mod × List LineRead :=
  rs.foldl (fun a r => let b := a.1.takeLine r; (b.1, if b.2 then a.2 ++ [r] else a.2)) (m, [])

/-! ### Scrubbing (R119) -/

/-- One line of SRAM is read by its tower's hub (R119, R456). -/
def Mod.scrubLine (m : Mod) (r : LineRead) : Mod :=
  let m1 := (m.takeLine r).1
  if m.corrects r then (m1.perfTower (field r.addr 20 17) 0x0B 1).perfTower (field r.addr 20 17) 0x10 1 else m1

/-- SRAM_SCRUB (R119): the tower hubs read these lines of their cells' SRAM. -/
def sramScrub (rs : List LineRead) (m : Mod) : Mod := (rs.filter (fun r => r.tag = 1)).foldl Mod.scrubLine m

/-- Raw counts between bursts: CELL_SCRUB_HOURS over 2^28 ÷ 4,096 bursts. -/
def Mod.scrubEvery (m : Mod) : Nat := m.rd P.cellScrubHours * 3600 * 10 ^ 9 / 65536

/-- A burst falls due (R119): its class 4 request. The toll gate's tick issues it. -/
def Mod.scrubDue (m : Mod) : Mod :=
  if m.running && m.cell.scrubNext ≤ m.now && !m.cell.scrubGranted && !m.asking .scrub then
    m.ask .scrub 4 .logic m.now (m.rd P.tollPScrub)
  else m

/-- The burst's grant. -/
def Mod.scrubGrant (m : Mod) : Mod := { m with cell := { m.cell with scrubGranted := true } }

/-- MEMORY_SCRUB_BURST (R119): a granted burst has read its 4,096 lines; `rs` are those of them that decode to something. -/
def memoryScrubBurst (rs : List LineRead) (m : Mod) : Mod :=
  if !m.cell.scrubGranted then m
  else
    let m1 := (m.takeLines (rs.filter (fun r => r.tag = 0 && m.cell.scrubPos ≤ r.addr && r.addr < m.cell.scrubPos + 4096))).1.perfModule 0x43 4096
    let pos := m1.cell.scrubPos + 4096
    let last : Bool := 2 ^ 28 ≤ pos
    let m2 := ({ m1 with cell := { m1.cell with scrubPos := if last then 0 else pos, scrubGranted := false,
                                                scrubNext := m1.cell.scrubNext + m1.scrubEvery } }).endGrant .scrub
    if last then
      let m3 := m2.inc P.cellScrubPasses
      m3.raise 47 0x020F (leBytes 4 (m3.rd P.cellScrubPasses))
    else m2

/-! ### Gating (R110) -/

/-- TOWER_GATE (R110): a tower that has carried no work for more than 100 µs, and that the placement lets be gated, is clock-gated; its
class 3 grant ends. -/
def towerGate (t : Nat) (m : Mod) : Mod :=
  let w := m.tower t
  if m.towerUp t && !w.gated && !w.never && w.busyAt + 100000 < m.now && !m.cell.jobs.any (fun j => j.towers.contains t) then
    ((m.setTower t (fun w => { w with gated := true, resuming := false, grantedAt := none })).endGrant (.tower t)).stillBegin t
  else m

/-- A tower's wake-up is granted (R110). -/
def Mod.towerGranted (m : Mod) (t : Nat) : Mod := m.setTower t (fun w => { w with grantedAt := some m.now })

/-- TOWER_RESUME (R110): a gated tower that is to work again asks for its grant, and resumes 2 µs after it. -/
def towerResume (t : Nat) (m : Mod) : Mod :=
  let w := m.tower t
  if !w.gated || !m.towerUp t then m
  else
    match w.grantedAt with
    | some g =>
      if g + 2000 ≤ m.now then
        (m.setTower t (fun w => { w with gated := false, resuming := false, grantedAt := none, busyAt := m.now })).stillEnd t
      else m
    | none =>
      if w.resuming then m
      else (m.setTower t (fun w => { w with resuming := true })).ask (.tower t) 3 .logic m.now (m.rd P.tollPTower)

/-! ### Views (R132) -/

/-- CELL_CLR (R132). -/
def cellClr (m : Mod) : Mod := (m.wr P.cellSlotsPeak 0).wr P.cellWaitMax 0

/-- CELL_T_MAP of a tower (R132): the logical tower bound to it, or 0x1F. -/
def Mod.towerMap (m : Mod) (t : Nat) : Nat := if (m.tower t).ok then (m.tower t).logical.getD 0x1F else 0x1F

/-! ### The commands as the queue gives them -/

/-- SRAM_SCRUB (R119). -/
def execSramScrub (t : Nat) (reads : List LineRead) (s : State) : Host.Outcome State Fault Refusal := s.run t (sramScrub reads)

/-- MEMORY_SCRUB_BURST (R119). -/
def execMemoryScrubBurst (t : Nat) (reads : List LineRead) (s : State) : Host.Outcome State Fault Refusal :=
  s.run t (memoryScrubBurst reads)

/-- TOWER_GATE (R110). -/
def execTowerGate (t tower : Nat) (s : State) : Host.Outcome State Fault Refusal := s.run t (towerGate tower)

/-- TOWER_RESUME (R110). -/
def execTowerResume (t tower : Nat) (s : State) : Host.Outcome State Fault Refusal := s.run t (towerResume tower)

end Sys2Proof.Machine
end

