-- ==== Sys2Proof/Machine/Panel.lean ====
section
/-!
DEFINITION. Machine/Panel.lean: the emissive background panels (chapter 4): codes, update groups, load boundaries,
ENABLE, readback, link, and the marks that lines carry.
-/
namespace Sys2Proof.Machine

/-- A panel. -/
def Mod.panel (m : Mod) (n : Nat) : Panel := m.panels.getD n {}

/-- A panel changed. -/
def Mod.setPanel (m : Mod) (n : Nat) (f : Panel → Panel) : Mod := { m with panels := updAt m.panels n f }

/-- Panel `n` is in use (R104). -/
def Mod.panelUsed (m : Mod) (n : Nat) : Bool := (m.rd P.bgEn).testBit n

/-- Regions of a panel (R91). -/
def Mod.panelRegions (m : Mod) (n : Nat) : Nat := m.rd P.bgCols n / 64

/-- Lane block of a panel column (R93). -/
def Mod.panelBlock (m : Mod) (n j : Nat) : Nat :=
  (clampI 0 99 (fdiv (2 * m.rdI P.bgOrigin n + ((2 * j + 1) * m.rd P.bgPitch n : Nat)) 32000)).toNat

/-- The code of emitter (row, column, channel) (R93). -/
def Mod.panelCode (m : Mod) (n y j ch : Nat) : Nat :=
  let c := m.rd P.bgColour n (3 * m.panelBlock n j + ch)
  Nat.min 4095 ((c * m.rd P.bgLevel * m.calN P.bgUniNow n ((y * 2048 + j) * 3 + ch) + 2 ^ 25) / 2 ^ 26)

/-- A region's codes in the order of R91. -/
def Mod.regionCodes (m : Mod) (n r : Nat) : List Nat :=
  (List.range 16).flatMap (fun y => (List.range 64).flatMap (fun k => (List.range 3).map (fun ch => m.panelCode n y (64 * r + k) ch)))

/-- Codes packed, 8 in 12 bytes (R91). -/
def packCodes : List Nat → List Byte
  | a :: b :: c :: d :: e :: f :: g :: h :: r =>
    leBytes 12 (a + 2 ^ 12 * b + 2 ^ 24 * c + 2 ^ 36 * d + 2 ^ 48 * e + 2 ^ 60 * f + 2 ^ 72 * g + 2 ^ 84 * h) ++ packCodes r
  | _ => []

/-- CRC and code sum of a region as its codes stand (R91, R97). -/
def Mod.regionSum (m : Mod) (n r : Nat) : Nat × Nat :=
  let l := m.regionCodes n r
  (crc32 (packCodes l), sumOf l)

/-! ### Frames on the link (R90, R91) -/

/-- Bytes as little-endian 32-bit words. -/
def wordsLe : List Byte → List Nat
  | a :: b :: c :: d :: r => leVal [a, b, c, d] :: wordsLe r
  | _ => []

/-- SYNC (R90). -/
def panelSync : Nat := 0x7E5AA5E7

/-- A frame of the link (R90): SYNC, HEADER, PAYLOAD, and the CRC-32 over HEADER and PAYLOAD. -/
def panelFrame (cmd region : Nat) (payload : List Nat) : List Nat :=
  let head := cmd * 2 ^ 28 + region * 2 ^ 16 + payload.length
  [panelSync, head] ++ payload ++ [crc32 ((head :: payload).flatMap (leBytes 4))]

/-- A WRITE_REGION frame with the region's codes as they stand (R90, R91). -/
def Mod.writeFrame (m : Mod) (n r : Nat) : List Nat := panelFrame 1 r (wordsLe (packCodes (m.regionCodes n r)))

/-- How long a WRITE_REGION frame takes: 1,155 words of 16 LINK_CLK periods of 10 ns (R90, R91). -/
def writeFrameNs : Nat := 1155 * 160

/-- Frames are sent to a panel (R90). -/
def Mod.panelSend (m : Mod) (n : Nat) (l : List (List Nat)) : Mod := m.setPanel n (fun p => { p with out := p.out ++ l })

/-! ### Load boundaries (R95, R98) -/

/-- The ENABLE period (R98). -/
def Mod.enPeriod (m : Mod) : Nat := 2 * m.rd P.bgPeriod

/-- Load boundary `k` (R95): in BG_MODE 2 the start of dark window k × BG_LOAD_EVERY, else the same cadence from E_0 (log 101). -/
def Mod.loadAt (m : Mod) (k : Nat) : Nat :=
  m.bist.e0 + k * (m.enPeriod * m.rd P.bgLoadEvery)
    + (if m.rd P.bgMode = 2 then m.rd P.bgEnPhase + m.rd P.bgEnWidth + m.rd P.bgTFall else 0)

/-- The instant lies between a rise A_j of ENABLE and its fall (R98). -/
def Mod.enHigh (m : Mod) : Bool :=
  let a := m.bist.e0 + m.rd P.bgEnPhase
  a ≤ m.now && (m.now - a) % m.enPeriod < m.rd P.bgEnWidth

/-! ### ENABLE (R98, R100 to R102) -/

/-- ENABLE of a panel may rise. -/
def Mod.mayLight (m : Mod) (n : Nat) : Bool :=
  let p := m.panel n
  m.panelUsed n && p.linkUp && !p.unusable && p.shown && !(m.rd P.bgFallback = 1 && p.faulty ≠ []) && m.running

/-- ENABLE falls where it may not stand high, and rises in the steady mode where it may; in interleave it stays high between a rise
and its fall (R98). -/
def Mod.panelEnable (m : Mod) (n : Nat) : Mod :=
  let ok := m.mayLight n
  let mode := m.rd P.bgMode
  m.setPanel n (fun p => { p with enable := ok && (if mode = 1 then true else if mode = 2 then p.enable && m.enHigh else false) })

/-- PANEL_ENABLE_EDGE (R98): an edge of the interleave schedule, a rise at A_j, a fall BG_EN_WIDTH later. -/
def panelEnableEdge (n : Nat) (rise : Bool) (m : Mod) : Mod :=
  if m.rd P.bgMode = 2 && m.running && rise = m.enHigh then m.setPanel n (fun p => { p with enable := rise && m.mayLight n }) else m

/-- Every panel dark with IREF at 0.5 V (R33, R101). -/
def Mod.panelsOff (m : Mod) : Mod := { m with panels := m.panels.map (fun p => { p with enable := false, iref := 0, groups := [] }) }

/-! ### Lines (R99) -/

/-- Lane blocks that a region covers, as a mask. -/
def Mod.regionMask (m : Mod) (n r : Nat) : Nat := maskOf ((List.range 64).map (fun k => m.panelBlock n (64 * r + k)))

/-- No presentation has been made since start (R99): a panel that is in use and usable has no front buffer known. -/
def Mod.unpresented (m : Mod) : Bool :=
  let live := (List.range 2).filter (fun n => m.panelUsed n && !(m.panel n).unusable)
  live ≠ [] && live.all (fun n => (m.panel n).front = [])

/-- The background-invalid mask of a line exposed now (R99 to R102): every lane block before the first presentation, all of a panel's
own while its regions are not presented. -/
def Mod.bgMask (m : Mod) : Nat :=
  (List.range 2).foldl (fun acc n =>
    let p := m.panel n
    let all := maskOf ((List.range (m.panelRegions n)).flatMap (fun r => bitsSet 100 (m.regionMask n r)))
    let part := p.faulty.foldl (fun a r => a ||| m.regionMask n r) 0
    if !m.panelUsed n then acc
    else
      let whole := if !p.shown || !p.linkUp || p.unusable || p.overtemp || p.uv || (m.rd P.bgFallback = 1 && p.faulty ≠ []) then all else 0
      acc ||| whole ||| part) (if m.unpresented then 2 ^ 100 - 1 else 0)

/-- The present sequence numbers (R99). -/
def Mod.presents (m : Mod) : Nat × Nat := (m.rd P.bgPresentSeq 0, m.rd P.bgPresentSeq 1)

/-! ### Requests (R94, R96) -/

/-- A fresh region of a group, requested now. -/
def PRegion.fresh (r now : Nat) : PRegion := { r := r, stage := .queued, tries := 0, crc := 0, sum := 0, from_ := now }

/-- A request for regions, with or without a new IREF value (R96): it merges with every pending group that shares a region
and is not being presented. -/
def Mod.panelRequest (m : Mod) (n : Nat) (regs : List Nat) (iref : Bool) : Mod :=
  let meets := fun (g : PGroup) => !g.selected && g.regions.any (fun x => regs.contains x.r)
  let gs := (m.panel n).groups
  let old := gs.filter meets
  let hit := old.flatMap (fun g => (g.regions.filter (fun x => regs.contains x.r)).map (·.r))
  let kept := old.flatMap (fun g => g.regions.filter (fun x => !regs.contains x.r))
  let grp : PGroup := { regions := kept ++ regs.map (PRegion.fresh · m.now), iref := iref || old.any (·.iref), selected := false, asked := false,
                        granted := false, retries := 0, at_ := m.now, first := old.any (·.first) }
  let m1 := m.setPanel n (fun p => { p with groups := gs.filter (fun g => !meets g) ++ [grp] })
  hit.foldl (fun m r => (m.inc P.bgSuperseded n).raise (24 + n) 0x0126 (leBytes 1 r)) m1

/-- Every region of a panel is written anew, as one group; `first` at start (R101, R102). -/
def Mod.panelAll (m : Mod) (n : Nat) (first : Bool) : Mod :=
  let grp : PGroup := { regions := (List.range (m.panelRegions n)).map (PRegion.fresh · m.now), iref := true, selected := false, asked := false,
                        granted := false, retries := 0, at_ := m.now, first := first }
  m.setPanel n (fun p => { p with groups := [grp], shown := false, reading := none, frontMiss := [] })

/-- The panels start (R102, R408). A panel's link counts as up from here until no status frame comes for 100 µs: the spec gives the
condition for a down link alone (DESIGN CHOICE, log 102). -/
def Mod.panelsStart (m : Mod) : Mod :=
  (List.range 2).foldl (fun m n =>
    if m.panelUsed n && !(m.panel n).unusable then (m.setPanel n (fun p => { p with linkUp := true, heard := m.now })).panelAll n true else m) m

/-! ### Writing and selection (R91, R95, R97, R100) -/

/-- The first group for which a condition holds, changed. -/
def changeFirst (c : PGroup → Bool) (f : PGroup → PGroup) : List PGroup → List PGroup
  | [] => []
  | g :: r => if c g then f g :: r else g :: changeFirst c f r

/-- A region of a group changed. -/
def PGroup.setRegion (g : PGroup) (r : Nat) (f : PRegion → PRegion) : PGroup :=
  { g with regions := g.regions.map (fun x => if x.r = r then f x else x) }

/-- A region of a group stands at a stage. -/
def PGroup.stands (g : PGroup) (r : Nat) (st : RegionStage) : Bool := g.regions.any (fun x => x.r = r && x.stage = st)

/-- From when a group's region may be sent (R96). -/
def PGroup.since (g : PGroup) (r : Nat) : Nat := ((g.regions.find? (fun x => x.r = r)).map (·.from_)).getD g.at_

/-- A group at a boundary that presents regions: its own update of one of them has waited for it (R96). -/
def PGroup.waited (g : PGroup) (rs : List Nat) (now : Nat) : PGroup :=
  { g with regions := g.regions.map (fun x => if rs.contains x.r then { x with from_ := now } else x) }

/-- A region is being presented: it is selected for the coming boundary (R96). -/
def Panel.presenting (p : Panel) (r : Nat) : Bool := p.groups.any (fun g => g.selected && g.regions.any (fun x => x.r = r))

/-- PANEL_REGION_WRITTEN (R90, R91, R96, R100): the region's frame is whole on the link, one frame time after its request and after the
region before it, with its codes of now, and its back-buffer CRC is asked for; one for a region that is being presented waits for the
boundary. -/
def panelRegionWritten (n r : Nat) (m : Mod) : Mod :=
  let due := fun (g : PGroup) => Nat.max (m.panel n).linkFree (g.since r) + writeFrameNs ≤ m.now
  if (m.panel n).linkUp && !(m.panel n).presenting r && ((m.panel n).groups.find? (fun g => g.stands r .queued)).any due then
    let (c, s) := m.regionSum n r
    let put := fun (g : PGroup) => g.setRegion r (fun x => { x with stage := .written, crc := c, sum := s })
    (m.panelSend n [m.writeFrame n r, panelFrame 3 r [0]]).setPanel n (fun p =>
      { p with linkFree := m.now, groups := changeFirst (fun g => g.stands r .queued) put p.groups })
  else m

/-- Average current in mA of a panel of code sum `s` at an IREF code (R97). -/
def Mod.panelMa (m : Mod) (n s iref : Nat) : Nat :=
  let num := s * m.rd P.bgIfs n * (4095 + 4 * iref)
  let den := 4095 * 5 * 4095 * 1000
  match m.rd P.bgMode with
  | 0 => 0
  | 1 => (num + den - 1) / den
  | _ => let d := den * (2 * m.rd P.bgPeriod); (num * m.rd P.bgEnWidth + d - 1) / d

/-- IREF after the presentation of some groups: the code that the last of them with a new one carries (R95). -/
def Panel.irefAfter (p : Panel) (gs : List PGroup) : Nat := (((gs.filter (·.iref)).getLast?).map (·.irefV)).getD p.iref

/-- The average current after the presentation of some groups. -/
def Mod.panelAfterMa (m : Mod) (n : Nat) (gs : List PGroup) : Nat :=
  let p := m.panel n
  let new := gs.flatMap (fun g => g.regions)
  let sum := (List.range (m.panelRegions n)).foldl (fun a r =>
    a + (match (new.filter (fun x => x.r = r)).getLast? with
      | some x => x.sum
      | none => match p.front.find? (fun f => f.1 = r) with
        | some f => f.2.2
        | none => 0)) 0
  m.panelMa n sum (p.irefAfter gs)

/-- The panels' updates that a change of values requests (R94): the regions whose codes change, and IREF. A change of mode or ENABLE
width changes the lit duty, and the average current with it (R97). -/
def Mod.panelsAfter (m old : Mod) : Mod :=
  (List.range 2).foldl (fun m n =>
    if !m.panelUsed n || (m.panel n).unusable then m
    else
      let regs := (List.range (m.panelRegions n)).filter (fun r => old.regionCodes n r ≠ m.regionCodes n r)
      let iref := old.rd P.bgIref n ≠ m.rd P.bgIref n
      let m1 := if regs = [] && !iref then m else m.panelRequest n regs iref
      let duty := fun (m : Mod) => (m.rd P.bgMode, m.rd P.bgEnWidth)
      let m2 := if duty old = duty m then m1
        else m1.setPanel n (fun p => { p with standing := m1.panelAfterMa n [] })
      m2.panelEnable n) m

/-- A group whose regions are all confirmed (R95). -/
def PGroup.done (g : PGroup) : Bool := g.regions.all (fun x => x.stage = .confirmed)

/-- Every region that start writes is confirmed, on every panel whose link is up (R102). -/
def Mod.firstDone (m : Mod) : Bool :=
  (List.range 2).all (fun n => !m.panelUsed n || (m.panel n).unusable || !(m.panel n).linkUp
    || (m.panel n).groups.all (fun g => !g.first || g.done))

/-- A group of panel `n` may be selected (R95, R101, R102): all its regions are confirmed; those of start wait for each other, and until a
panel's first presentation, or the one after its link's return, its groups are presented together. -/
def Mod.mayShow (m : Mod) (n : Nat) (g : PGroup) : Bool :=
  let p := m.panel n
  g.done && (p.shown || p.groups.all (fun h => h.done && (!h.first || m.firstDone))) && (!g.first || m.firstDone)

/-- PANEL_SELECTION (R95, R97): 5 µs before a boundary; an increase of current asks the toll gate. -/
def panelSelection (n : Nat) (m : Mod) : Mod :=
  let p := m.panel n
  if !m.running || !p.linkUp || p.unusable || p.boundaries < p.picked || m.now + 5000 < m.loadAt p.boundaries then m
  else
    let v := m.rd P.bgIref n
    let take := fun (f : PGroup → PGroup) (g : PGroup) => if m.mayShow n g then f { g with irefV := v } else g
    let cand := (p.groups.filter (m.mayShow n)).map (fun g => { g with irefV := v })
    let after := m.panelAfterMa n cand
    let m0 := m.setPanel n (fun p => { p with picked := p.boundaries + 1 })
    if cand = [] then m0
    else if after ≤ p.standing then
      m0.setPanel n (fun p => { p with groups := p.groups.map (take (fun g => { g with selected := true })) })
    else
      let again := cand.filter (·.asked)
      let m1 := again.foldl (fun m g => (m.inc P.bgTollWaits n).raise (24 + n) 0x0127 (leBytes 4 (g.retries + 1))) m0
      let m2 := m1.setPanel n (fun p => { p with groups := p.groups.map (take (fun g =>
        { g with asked := true, retries := if g.asked then g.retries + 1 else g.retries })) })
      m2.ask (.panel n) 2 .panel (m.loadAt p.boundaries) (after - p.standing)

/-- The toll gate grants the panel's increase (R97): the groups that asked are selected, if the grant still covers them without those that
a newer request has superseded since. -/
def Mod.panelGranted (m : Mod) (n amount : Nat) : Mod :=
  let p := m.panel n
  if m.panelAfterMa n (p.groups.filter (fun g => g.asked && g.done)) ≤ p.standing + amount then
    m.setPanel n (fun p =>
      { p with pledged := amount, groups := p.groups.map (fun g => if g.asked && g.done then { g with granted := true, selected := true } else g) })
  else m

/-- PANEL_LOAD_BOUNDARY (R90, R95, R97, R99, R100): at the panel's next boundary its request at the toll gate ends (R244); selected groups
are presented whole by one LOAD; else one front buffer is read in turn. -/
def panelLoadBoundary (n : Nat) (m : Mod) : Mod :=
  let p := m.panel n
  let b := p.boundaries + 1
  let m0 := (m.unask (.panel n)).setPanel n (fun p => { p with boundaries := b, pledged := 0 })
  if !m.running || !m.panelUsed n || m.now < m.loadAt p.boundaries then m
  else if !p.linkUp || p.unusable then m0
  else
    let sel := p.groups.filter (·.selected)
    let m1 :=
      if sel = [] then
        let k := m.panelRegions n
        let r := if p.nextRead < k then p.nextRead else 0
        (m0.panelSend n [panelFrame 3 r [1]]).setPanel n (fun p => { p with reading := some r, nextRead := if r + 1 < k then r + 1 else 0 })
      else
        let new := sel.flatMap (fun g => g.regions)
        let front := new.foldl (fun f x => (f.filter (fun e => e.1 ≠ x.r)) ++ [(x.r, x.crc, x.sum)]) p.front
        let after := m.panelAfterMa n sel
        let load := panelFrame 2 0 [maskOf (new.map (·.r))]
        let m2 := (m0.panelSend n [load]).setPanel n (fun p =>
          { p with groups := (p.groups.filter (fun g => !g.selected)).map (·.waited (new.map (·.r)) m.now), front := front, shown := true, standing := after,
                   iref := p.irefAfter sel })
        (m2.inc P.bgPresentSeq n).inc P.bgUpdates n new.length
    let m3 := if b % 1000 = 0 && p.faulty ≠ [] then m1.panelRequest n p.faulty false else m1
    m3.panelEnable n

/-! ### Status, readback, link (R92, R100, R101) -/

/-- A region is marked faulty (R100): `buffer` 0 back, 1 front. -/
def Mod.panelFault (m : Mod) (n r buffer : Nat) : Mod :=
  if (m.panel n).faulty.contains r then m
  else
    (((m.setPanel n (fun p => { p with faulty := p.faulty ++ [r] })).wr P.bgFaulty (maskOf ((m.panel n).faulty ++ [r])) n).raise
      (24 + n) 0x0121 (leBytes 1 r ++ leBytes 1 buffer)).panelEnable n

/-- A clean readback clears a region's fault (R100). -/
def Mod.panelClean (m : Mod) (n r : Nat) : Mod :=
  if (m.panel n).faulty.contains r then
    let f := (m.panel n).faulty.filter (· ≠ r)
    (((m.setPanel n (fun p => { p with faulty := f })).wr P.bgFaulty (maskOf f) n).raise (24 + n) 0x0122 (leBytes 1 r)).panelEnable n
  else m

/-- The reply for a back buffer (R100). -/
def Mod.backReply (m : Mod) (n r crc : Nat) : Mod :=
  match (m.panel n).groups.find? (fun g => g.stands r .written) with
  | none => m
  | some g =>
    let here := fun (g : PGroup) => g.stands r .written
    let x := (g.regions.find? (fun x => x.r = r)).getD (PRegion.fresh r m.now)
    let put := fun (m : Mod) (f : PGroup → PGroup) => m.setPanel n (fun p => { p with groups := changeFirst here f p.groups })
    if x.crc = crc then (put m (fun g => g.setRegion r (fun x => { x with stage := .confirmed }))).panelClean n r
    else
      let m1 := (m.inc P.bgCrcFails n).raise (24 + n) 0x0120 (leBytes 1 r ++ leBytes 1 (x.tries + 1))
      if x.tries < 2 then put m1 (fun g => g.setRegion r (fun x => { x with stage := .queued, tries := x.tries + 1 }))
      else
        let m2 := put m1 (fun g => { g with regions := g.regions.filter (fun x => x.r ≠ r) })
        (m2.setPanel n (fun p => { p with groups := p.groups.filter (fun g => g.regions ≠ [] || g.iref) })).panelFault n r 0

/-- The reply for a front buffer (R100). A clean one clears a fault of its region, whichever buffer it was found in (DESIGN CHOICE, log 136:
the spec does not say which clean readback does). -/
def Mod.frontReply (m : Mod) (n r crc : Nat) : Mod :=
  let p := m.panel n
  if p.reading ≠ some r then m
  else
    let m0 := m.setPanel n (fun p => { p with reading := none })
    match p.front.find? (fun f => f.1 = r) with
    | none => m0
    | some f =>
      if f.2.1 = crc then (m0.setPanel n (fun p => { p with frontMiss := p.frontMiss.filter (· ≠ r) })).panelClean n r
      else
        let m1 := m0.inc P.bgCrcFails n
        if p.frontMiss.contains r then (m1.setPanel n (fun p => { p with frontMiss := p.frontMiss.filter (· ≠ r) })).panelFault n r 1
        else (m1.setPanel n (fun p => { p with frontMiss := p.frontMiss ++ [r] })).panelRequest n [r] false

/-- The CRC replies of a status frame (R92): region, front buffer, CRC; none where a reply is cut off. -/
def statusReplies : List Nat → Option (List (Nat × Bool × Nat))
  | [] => some []
  | a :: c :: r => (statusReplies r).map (fun l => (field a 20 16, a.testBit 0, c) :: l)
  | _ => none

/-- A valid status frame (R92): the SYNC word, the status word and CRC replies. -/
def statusFrame : List Nat → Option (Nat × List (Nat × Bool × Nat))
  | sync :: status :: r => if sync = panelSync then (statusReplies r).map (fun l => (status, l)) else none
  | _ => none

/-- The status word and the replies of a status frame (R92, R100, R101). -/
def Mod.panelStatus (n status : Nat) (replies : List (Nat × Bool × Nat)) (m : Mod) : Mod :=
  let p := m.panel n
  if !m.panelUsed n || !p.linkUp || p.unusable then m
  else
    let ot := status.testBit 31
    let uv := status.testBit 30
    let sf := status.testBit 29
    let m1 := m.setPanel n (fun p => { p with overtemp := ot, uv := uv, sinkFault := sf, failedEmitters := field status 28 16,
                                              temp := sext 8 (field status 15 8), heard := m.now })
    let m2 := if (ot && !p.overtemp) || (uv && !p.uv) || (sf && !p.sinkFault) then
        m1.raise (24 + n) 0x0125 (leBytes 4 status) else m1
    replies.foldl (fun m x => if x.2.1 then m.frontReply n x.1 x.2.2 else m.backReply n x.1 x.2.2) m2

/-- PANEL_STATUS_FRAME (R92): a frame of 32-bit words arrives; one that is not valid counts for nothing. -/
def panelStatusFrame (n : Nat) (words : List Nat) (m : Mod) : Mod :=
  match statusFrame words with
  | some (status, replies) => m.panelStatus n status replies
  | none => m

/-- PANEL_LINK_DOWN (R92, R101): no valid status frame has come for 100 µs. -/
def panelLinkDown (n : Nat) (m : Mod) : Mod :=
  if m.panelUsed n && (m.panel n).linkUp && (m.panel n).heard + 100000 ≤ m.now then
    ((m.setPanel n (fun p => { p with linkUp := false, reading := none, retryAt := m.now + 10000000 })).panelEnable n).raise (24 + n) 0x0123
      (leBytes 2 (m.rd P.bgPresentSeq n))
  else m

/-- PANEL_LINK_RETRY (R101): every 10 ms; `up` when the link has returned. -/
def panelLinkRetry (n : Nat) (up : Bool) (m : Mod) : Mod :=
  let p := m.panel n
  if !m.panelUsed n || p.linkUp || p.unusable || m.now < p.retryAt then m
  else if up then (((m.unask (.panel n)).setPanel n (fun p => { p with linkUp := true, heard := m.now })).panelAll n false).raise (24 + n) 0x0124
  else m.setPanel n (fun p => { p with retryAt := p.retryAt + 10000000 })

/-- BG_STATUS (R104). -/
def Mod.bgStatus (m : Mod) (n : Nat) : Nat :=
  let p := m.panel n
  32 * bit p.unusable + 16 * bit p.linkUp + 8 * bit p.overtemp + 4 * bit p.uv + 2 * bit p.sinkFault + bit p.enable

/-! ### The commands as the queue gives them -/

/-- PANEL_REGION_WRITTEN (R91). -/
def execPanelRegionWritten (t n r : Nat) (s : State) : Host.Outcome State Fault Refusal := s.run t (panelRegionWritten n r)

/-- PANEL_STATUS_FRAME (R92). -/
def execPanelStatusFrame (t n : Nat) (words : List Nat) (s : State) : Host.Outcome State Fault Refusal := s.run t (panelStatusFrame n words)

/-- PANEL_LINK_DOWN (R101). -/
def execPanelLinkDown (t n : Nat) (s : State) : Host.Outcome State Fault Refusal := s.run t (panelLinkDown n)

/-- PANEL_LINK_RETRY (R101). -/
def execPanelLinkRetry (t n : Nat) (up : Bool) (s : State) : Host.Outcome State Fault Refusal := s.run t (panelLinkRetry n up)

/-- PANEL_SELECTION (R95). -/
def execPanelSelection (t n : Nat) (s : State) : Host.Outcome State Fault Refusal := s.run t (panelSelection n)

/-- PANEL_LOAD_BOUNDARY (R95). -/
def execPanelLoadBoundary (t n : Nat) (s : State) : Host.Outcome State Fault Refusal := s.run t (panelLoadBoundary n)

/-- PANEL_ENABLE_EDGE (R98). -/
def execPanelEnableEdge (t n : Nat) (rise : Bool) (s : State) : Host.Outcome State Fault Refusal := s.run t (panelEnableEdge n rise)

end Sys2Proof.Machine
end

