-- ==== Sys2Proof/Machine/Camera.lean ====
section
/-!
DEFINITION. Machine/Camera.lean: the camera ports (chapter 3): exposure pulses, frames and lines, settings and the latch
point, control templates, colour reconstruction, statistics.
-/
namespace Sys2Proof.Machine

/-- A camera port. -/
def Mod.port (m : Mod) (p : Nat) : CamPort := m.cams.getD p {}

/-- A camera port changed. -/
def Mod.setPort (m : Mod) (p : Nat) (f : CamPort → CamPort) : Mod := { m with cams := updAt m.cams p f }

/-- The port is in use and sound (R84, R86). -/
def Mod.portUsed (m : Mod) (p : Nat) : Bool := p < 8 && m.rd P.camEn p = 1 && !(m.port p).unusable

/-- Channels of a port (R64). -/
def Mod.camC (m : Mod) (p : Nat) : Nat := if (m.rd P.camFormat p).testBit 4 then 3 else 1

/-! ### Settings (R73 to R76) -/

/-- The settings address belongs to a port: parameter words and user calibration words of chapter 3. -/
def camOfAddr (a : Nat) : Option Nat :=
  if 0x02000000 ≤ a && a < 0x02800000 then some ((a - 0x02000000) / 0x100000)
  else if 0x21200000 ≤ a && a < 0x21400000 then some ((a - 0x21200000) / 0x40000)
  else none

/-- A settings word changes from `old` to `new` (R73, R74): the older value stays in force until its instant. -/
def Mod.camNote (m : Mod) (a : Nat) (old new : Word) : Mod :=
  match camOfAddr a with
  | none => m
  | some p => m.setPort p (fun c =>
      { c with fresh := c.fresh ++ [{ at_ := m.now, addr := a, old := old, new := new }],
               expOld := if (assocGet c.expOld a).isSome then c.expOld else c.expOld ++ [(a, old)],
               colOld := if (assocGet c.colOld a).isSome then c.colOld else c.colOld ++ [(a, old)] })

/-- A parameter as EXP generation has it (R75). -/
def Mod.expVal (m : Mod) (p : Nat) (q : Param) : Nat := ((assocGet (m.port p).expOld (q.addr p)).getD (m.word (q.addr p))).toNat

/-- A parameter as reconstruction has it, for a line whose own words are `own` (R75). -/
def Mod.colVal (m : Mod) (p : Nat) (own : List (Nat × Word)) (q : Param) (j : Nat := 0) : Nat :=
  ((assocGet (own ++ (m.port p).colOld) (q.addr p j)).getD (m.word (q.addr p j))).toNat

/-- A calibration value as reconstruction has it. -/
def Mod.colCal (m : Mod) (p : Nat) (own : List (Nat × Word)) (q : Param) (j : Nat := 0) : Int :=
  calVal m.nv.calf (own ++ (m.port p).colOld ++ m.sys.calu) q p j

/-- A settings word as it stands: a parameter's, or a user calibration word (R53, R73). -/
def Mod.settingWord (m : Mod) (a : Nat) : Word :=
  if a < 0x20000000 then m.word a
  else (assocGet m.sys.calu a).getD (match calAt (a - 0x01000000) with
    | some (c, _) => caluDflt c.kind
    | none => 0#32)

/-- A settings word as it stood before the changes committed from an instant on (R74). -/
def Mod.settingAt (m : Mod) (p a at_ : Nat) : Word :=
  match (m.port p).fresh.find? (fun x => x.addr = a && at_ ≤ x.at_) with
  | some x => x.old
  | none => m.settingWord a

/-- A shadow when a latched set comes into force (R75): an address that a newer change still holds back takes the set's
value, any other leaves the shadow. -/
def retire (set : List (Nat × Word)) (newer : List Nat) (old : List (Nat × Word)) : List (Nat × Word) :=
  old.filterMap (fun e => match assocGet set e.1 with
    | some v => if newer.contains e.1 then some (e.1, v) else none
    | none => some e)

/-! ### Control templates (R77 to R79) -/

/-- A byte of a template. -/
def Mod.tplByte (m : Mod) (p t o : Nat) : Nat := field (m.rd P.camTpl p (32 * t + o / 4)) (8 * (o % 4) + 7) (8 * (o % 4))

/-- Digits of a number in a base, `k` of them, most significant first, as ASCII. -/
def asciiDigits (base : Nat) : Nat → Nat → List Nat
  | 0, _ => []
  | k + 1, v => asciiDigits base k (v / base) ++ [let d := v % base; if d < 10 then 48 + d else 55 + d]

/-- A substitution's bytes (R77): ENC 0 binary little-endian, 1 big-endian, 2 decimal, 3 hexadecimal; saturated. -/
def subBytes (enc width v : Nat) : List Nat :=
  match enc with
  | 0 => (leBytes width (Nat.min v (256 ^ width - 1))).map BitVec.toNat
  | 1 => (beBytes width (Nat.min v (256 ^ width - 1))).map BitVec.toNat
  | 2 => asciiDigits 10 width (Nat.min v (10 ^ width - 1))
  | _ => asciiDigits 16 width (Nat.min v (16 ^ width - 1))

/-- Bytes placed into a text at an offset. -/
def placeAt (l : List Nat) (o : Nat) (b : List Nat) : List Nat := (l.take o ++ b ++ l.drop (o + b.length)).take l.length

/-- A template's text with its substitutions (R77), of the CSET values committed before an instant (R74). -/
def Mod.tplText (m : Mod) (p t at_ : Nat) : List Byte :=
  let text := (List.range (m.tplByte p t 0)).map (fun i => m.tplByte p t (0x20 + i))
  let subs := List.range (Nat.min 4 (m.tplByte p t 2))
  (subs.foldl (fun l k =>
    let o := 0x0C + 4 * k
    placeAt l (m.tplByte p t (o + 1)) (subBytes (m.tplByte p t (o + 2)) (m.tplByte p t (o + 3)) (m.settingAt p (P.camCset.addr p (m.tplByte p t o % 8)) at_).toNat)) text).map
    (BitVec.ofNat 8)

/-- CSET indices that a template references. -/
def Mod.tplRefs (m : Mod) (p t : Nat) : List Nat :=
  (List.range (Nat.min 4 (m.tplByte p t 2))).map (fun k => m.tplByte p t (0x0C + 4 * k) % 8)

/-- The templates that a latch point sends (R77, R79): `set` when it finds a new set, whose changed CSETs are `ch`. -/
def Mod.tplDue (m : Mod) (p : Nat) (set : Bool) (ch : List Nat) : List Nat :=
  (List.range (m.rd P.camTplCount p)).filter (fun t =>
    (m.port p).unconf.contains t || (set && (m.tplByte p t 3 = 1 || (m.tplByte p t 3 = 0 && (m.tplRefs p t).any ch.contains))))

/-- Templates put in line for sending, with their texts: behind those that an earlier latch point left unsent, of which one that is due
again takes its new text and place (DESIGN CHOICE, log 133: the spec does not say what becomes of them). -/
def Mod.tplSend (m : Mod) (p at_ : Nat) (ts : List Nat) : Mod :=
  m.setPort p (fun c =>
    { c with
      tplQ := c.tplQ.filter (fun e => !ts.contains e.1 || (c.tplQ.head?.map (·.1)) = some e.1) ++ ts.map (fun t => (t, m.tplText p t at_)),
      serAt := if c.tplQ.isEmpty then m.now else c.serAt })

/-- The time in ns that bytes take on a port's serial line (R78), at 10 bits per byte and CAM_SER_BAUD. -/
def Mod.serTime (m : Mod) (p n : Nat) : Nat :=
  10 * n * 1000000000 / [9600, 19200, 38400, 57600, 115200, 230400, 460800, 921600].getD (m.rd P.camSerBaud p) 115200

/-- The templates sent at start, SEND = 2 (R77, R408). -/
def Mod.tplStart (m : Mod) (p : Nat) : Mod :=
  if m.portUsed p then m.tplSend p m.now ((List.range (m.rd P.camTplCount p)).filter (fun t => m.tplByte p t 3 = 2)) else m

/-- TEMPLATE_SENT (R77, R79): the last byte of the template in line has been sent. -/
def templateSent (p : Nat) (m : Mod) : Mod :=
  let c := m.port p
  match c.tplQ, c.tplWait with
  | (t, b) :: rest, none =>
    let m1 := m.setPort p (fun c => { c with serOut := c.serOut ++ b, serAt := m.now })
    if m.now < c.serAt + m.serTime p b.length then m
    else if m.tplByte p t 1 = 0 then m1.setPort p (fun c => { c with tplQ := rest, unconf := c.unconf.filter (· ≠ t) })
    else m1.setPort p (fun c => { c with tplWait := some (t, m.now + m.rd P.camSerTimeout p * 1000) })
  | _, _ => m

/-- TEMPLATE_REPLY (R79): bytes that match REPLY confirm the template. -/
def templateReply (p : Nat) (bytes : List Byte) (m : Mod) : Mod :=
  match (m.port p).tplWait with
  | some (t, until_) =>
    let n := m.tplByte p t 1
    let want := (List.range n).map (fun i => BitVec.ofNat 8 (m.tplByte p t (4 + i)))
    if m.now ≤ until_ && bytes.take n = want then
      m.setPort p (fun c => { c with tplWait := none, tplQ := c.tplQ.tail, unconf := c.unconf.filter (· ≠ t), serAt := m.now })
    else m
  | none => m

/-- The frame in progress carries CAMERA_UNCONFIRMED (R79). -/
def CamPort.markUnconf (c : CamPort) : CamPort :=
  if c.inFrame && c.seqPend.isNone then
    { c with accs := c.accs.map (fun a => if a.num + 1 = c.frames then { a with unconf := true } else a) }
  else c

/-- TEMPLATE_REPLY_TIMEOUT (R79). -/
def templateReplyTimeout (p : Nat) (m : Mod) : Mod :=
  match (m.port p).tplWait with
  | some (t, until_) =>
    if m.now < until_ then m
    else
      let c := m.port p
      let seq := c.seqPend.getD c.seqNow
      let m1 := m.setPort p (fun c =>
        ({ c with tplWait := none, tplQ := c.tplQ.tail, unconf := c.unconf.filter (· ≠ t) ++ [t], serAt := m.now }).markUnconf)
      ((m1.inc P.camTplFails p).flag P.camFlags 32 p).raise (16 + p) 0x0107 (leBytes 1 t ++ leBytes 2 seq)
  | none => m

/-! ### Lost lines (R71, R84) -/

/-- The account of the frame in progress changed. -/
def CamPort.acc (c : CamPort) (f : FrameAcc → FrameAcc) : CamPort :=
  { c with accs := c.accs.map (fun a => if a.num + 1 = c.frames && !a.ended then f a else a) }

/-- `n` lost lines of a frame, from index `i` on (R71): they take their numbers, with nothing in them. -/
def lostLines (frame i seq now n : Nat) : List Line :=
  (List.range n).map (fun k =>
    { frame := frame, idx := i + k, seq := seq, on := false, w := 0, t := now, arr := now, lost := true, pres := (0, 0), bgInv := 0, px := [], col := [] })

/-- Lost lines enter the sequence (R71), as lines of the frame in progress. -/
def Mod.lostRows (m : Mod) (p n : Nat) : Mod :=
  m.setPort p (fun c =>
    { (c.acc (fun a => { a with lost := true })) with idx := c.idx + n, lines := c.lines ++ lostLines (c.frames - 1) c.idx c.seqNow m.now n })

/-- Lines are lost (R71): they enter the sequence and are counted. -/
def Mod.loseLines (m : Mod) (p n : Nat) : Mod :=
  if n = 0 then m else ((m.lostRows p n).inc P.camLinesLost p n).flag P.camFlags 1 p

/-- Pulses without a line that precede a frame's first line, or the port's loss (R71, R84): while the frame in progress has no line yet, they
are lost lines after the last one of the frame before (DEDUCED, log 48). -/
def Mod.loseGap (m : Mod) (p n : Nat) : Mod :=
  let c := m.port p
  if n = 0 then m
  else if c.inFrame && c.idx = 0 && 1 < c.frames then
    ((m.setPort p (fun c =>
      { c with endIdx := c.endIdx + n, accs := c.accs.map (fun a => if a.num + 2 = c.frames then { a with lost := true } else a),
               lines := c.lines ++ lostLines (c.frames - 2) c.endIdx c.endSeq m.now n })).inc P.camLinesLost p n).flag P.camFlags 1 p
  else m.loseLines p n

/-! ### Exposure (R67, R68) -/

/-- Rise of pulse `k` (R67). -/
def Mod.pulseAt (m : Mod) (p k : Nat) : Nat := m.bist.e0 + m.rd P.camExpPhase p + k * m.rd P.camLinePeriod p

/-- The settings sets that the port's next pulse brings into force (R75). -/
def Mod.expStep (m : Mod) (p : Nat) : Mod :=
  let c := m.port p
  let due := c.expSets.filter (fun s => s.1 ≤ c.kNext)
  let late := c.expSets.filter (fun s => c.kNext < s.1)
  let newer := (late.flatMap (fun s => s.2.map (·.1))) ++ c.fresh.map (·.addr)
  m.setPort p (fun c => { c with expSets := late, expOld := due.foldl (fun o s => retire s.2 newer o) c.expOld })

/-- The port's next pulse under the settings in force (R67, R68). The panels' state that its line carries is that of its rise (DESIGN CHOICE,
log 134: the spec does not say which instant of an exposure counts when a presentation falls within it). -/
def Mod.pulseNow (m : Mod) (p : Nat) : Pulse :=
  let k := (m.port p).kNext
  let il := m.expVal p P.camInterleave
  let on := il = 1 || (il = 2 && k % 2 = 0)
  { k := k, e := m.pulseAt p k, w := if on then m.expVal p P.camExpOn else m.expVal p P.camExpOff, on := on, pres := m.presents,
    bgInv := if on then m.bgMask else 0 }

/-- EXP_PULSE (R67, R68, R84): the port's next pulse rises. A set whose pulse this is comes into force first (R75). -/
def expPulse (p : Nat) (m : Mod) : Mod :=
  let c := m.port p
  let k := c.kNext
  if !m.portUsed p || !m.running || m.now < m.pulseAt p k then m
  else
    let m1 := m.expStep p
    let m2 := m1.setPort p (fun c => { c with kNext := k + 1, pulses := (m1.pulseNow p :: c.pulses).take 64 })
    if c.lostClock && !c.inService then (m2.loseLines p 1).setPort p (fun c => { c with kLast := some k }) else m2

/-! ### Frames (R66, R84) -/

/-- FRAME_START, what the port does (R66, R75, R84): `clk` when PCLK has run for 16 periods. CAM_STATUS.CLOCK is set here, at the first
frame with a running clock, and cleared at PORT_CLOCK_LOSS: the spec names the bit only (DESIGN CHOICE, log 99). The pulse that
the frame before took last is kept, so that a second line on it is discarded (R71); its lines that still wait for reconstruction keep
the values that the new set replaces (R75). -/
def Mod.frameBegin (p : Nat) (clk : Bool) (m : Mod) : Mod :=
  let c := m.port p
  if !m.portUsed p || !m.running || c.inFrame then m
  else
    let m1 :=
      if c.inService then m
      else if clk then
        let m2 := m.setPort p (fun c => { c with inService := true, clock := true, lostClock := false, outSince := none })
        if c.lostClock then m2.raise (16 + p) 0x0104 (leBytes 4 c.frames) else m2
      else m
    if !(m1.port p).inService then m1
    else
      m1.setPort p (fun c =>
        let seq := c.seqPend.getD c.seqNow
        { c with inFrame := true, frames := c.frames + 1, idx := 0, endIdx := c.idx, endSeq := c.seqNow, latched := false, seqNow := seq,
                 seqPend := none, lines := c.lines.map (fun l => { l with col := l.col ++ c.colOld }),
                 colOld := retire c.colSet (c.fresh.map (·.addr)) c.colOld, colSet := [],
                 accs := c.accs ++ [{ num := c.frames, seq := seq, unconf := c.unconf ≠ [] }] })

/-- The latch point of a frame, at pulse `k` and instant `s` (R74, R75, R77, R79): the changes committed strictly before it form the
new set. -/
def Mod.latch (m : Mod) (p k s : Nat) : Mod :=
  let c := m.port p
  let taken := ((c.fresh.filter (fun x => x.at_ < s)).map (·.addr)).eraseDups
  let set := taken ≠ []
  let vals := taken.map (fun a => (a, m.settingAt p a s))
  let csets := (List.range 8).filter (fun n => taken.contains (P.camCset.addr p n))
  let due := m.tplDue p set csets
  let m1 := m.setPort p (fun c =>
    if set then { c with latched := true, fresh := c.fresh.filter (fun x => s ≤ x.at_), expSets := c.expSets ++ [(k + 32, vals)], colSet := c.colSet ++ vals,
                         seqPend := some ((c.seqPend.getD c.seqNow + 1) % 65536) }
    else { c with latched := true })
  if due = [] then m1 else m1.tplSend p s due

/-- Lines of a frame so far. -/
def FrameAcc.rx (a : FrameAcc) : Nat := a.onLines + a.offLines

/-- The account of the frame in progress. -/
def CamPort.accNow (c : CamPort) : FrameAcc := ((c.accs.filter (fun a => !a.ended)).getLast?).getD { num := 0, seq := 0 }

/-- FRAME_END (R66, R74). -/
def frameEnd (p : Nat) (m : Mod) : Mod :=
  let c := m.port p
  if !c.inFrame then m
  else
    let a := c.accNow
    let m1 := if c.latched then m
      else
        let m2 := m.latch p (c.kLast.getD (c.kNext - 1)) m.now
        ((m2.flag P.camFlags 4 p).setPort p (fun c => c.acc (fun a => { a with short := true }))).raise (16 + p) 0x0105
          (leBytes 4 a.num ++ leBytes 4 a.rx)
    let m3 := if m.rd P.camFrameLines p < c.idx then
        ((m1.flag P.camFlags 8 p).setPort p (fun c => c.acc (fun a => { a with long := true }))).raise (16 + p) 0x0106
          (leBytes 4 a.num ++ leBytes 4 a.rx) else m1
    m3.setPort p (fun c => { (c.acc (fun a => { a with ended := true })) with inFrame := false })

/-! ### Lines (R62 to R65, R70, R71) -/

/-- Bits of a sample (R62). -/
def Mod.camBits (m : Mod) (p : Nat) : Nat := [8, 10, 12, 16, 8].getD (m.rd P.camFormat p % 8) 8

/-- A line's samples by channel in front-view order, left-aligned to 16 bits (R62, R64). -/
def Mod.unpackLine (m : Mod) (p : Nat) (s : List Nat) : List (List Nat) :=
  let n := m.rd P.camLineSamples p
  let c := m.camC p
  let b := m.camBits p
  let f := m.rd P.camFormat p
  let v := s.map (fun x => (x % 2 ^ b) * 2 ^ (16 - b))
  (List.range c).map (fun ch =>
    let l := if f.testBit 5 then (List.range n).map (fun i => v.getD (c * i + ch) 0) else (v.drop (ch * n)).take n
    if f.testBit 6 then l.reverse else l)

/-- v2 of a pixel (R80): black level and flat field. -/
def Mod.flat (m : Mod) (p : Nat) (own : List (Nat × Word)) (n c x raw : Nat) : Int :=
  let v1 := clampI (-65536) 65535 ((raw : Int) - m.colCal p own P.camBlackNow c - m.colCal p own P.camDarkNow (c * n + x))
  clampI (-65536) 65535 (rdiv (v1 * m.colCal p own P.camFfNow (c * n + x)) 16384)

/-- Zone of a pixel among Z zones of N pixels (R82). -/
def zoneOf (z n x : Nat) : Nat := if n = 0 then 0 else ((x + 1) * z - 1) / n

/-- One pixel added to a zone's statistics (R82). -/
def ZoneStat.add (s : ZoneStat) (v2 : Int) (raw sat dark : Nat) : ZoneStat :=
  let v := (clampI 0 65535 v2).toNat
  { sum := s.sum + v, min := Nat.min s.min v, max := Nat.max s.max v, sat := s.sat + bit (sat ≤ raw),
    dark := s.dark + bit (v2 ≤ dark), pixels := s.pixels + 1 }

/-- A received line added to its frame's statistics (R82). -/
def Mod.statLine (m : Mod) (p : Nat) (l : Line) (a : FrameAcc) : FrameAcc :=
  let n := m.rd P.camLineSamples p
  let z := m.rd P.camStatZones p
  let sat := m.colVal p l.col P.camSatLevel
  let dark := m.colVal p l.col P.camDarkLevel
  (l.px.zipIdx).foldl (fun a (ch, c) =>
    let k := (if l.on then 1 else 0) * 3 + c
    (ch.zipIdx).foldl (fun a (raw, x) =>
      let v2 := m.flat p l.col n c x raw
      let i := k * 16 + zoneOf z n x
      let zs := (assocGet a.zones i).getD {}
      { a with zones := assocSet a.zones i (zs.add v2 raw sat dark),
               hist := assocAdd a.hist (64 * k + (clampI 0 65535 v2).toNat / 1024) 1 }) a) a

/-- The pulse a stamp is nearest to (R71), the next one to rise among them, with the difference in ns; of two equally near the newer (DESIGN CHOICE, log 100: R71 names
neither). -/
def Mod.nearest (m : Mod) (p s : Nat) : Option (Pulse × Int) :=
  let lat := m.colCal p [] P.camLatNow
  ((m.expStep p).pulseNow p :: (m.port p).pulses).foldl (fun b q =>
    let d : Int := (s : Int) - ((q.e + q.w : Nat) + lat)
    match b with
    | some (_, d0) => if d.natAbs < d0.natAbs then some (q, d) else b
    | none => some (q, d)) none

/-- A line whose place in the sequence is lost for wrong length (R65). -/
def Mod.badLine (m : Mod) (p : Nat) : Mod :=
  let c := m.port p
  (((m.lostRows p 1).flag P.camFlags 2 p).inc P.camLinesBad p).raise (16 + p) 0x0101
    (leBytes 4 (c.frames - 1) ++ leBytes 4 c.idx)

/-- A line that arrives whole (R70). -/
def Mod.goodLine (m : Mod) (p s : Nat) (q : Pulse) (samples : List Nat) : Mod :=
  let c := m.port p
  let t := ((s : Int) - m.colCal p [] P.camLatNow).toNat - q.w / 2
  let l : Line := { frame := c.frames - 1, idx := c.idx, seq := c.seqNow, on := q.on, w := q.w, t := t, arr := m.now, lost := false, pres := q.pres,
                    bgInv := q.bgInv, px := m.unpackLine p samples, col := c.colOld }
  (m.setPort p (fun c =>
    let c1 := c.acc (fun a =>
      let b := m.statLine p l a
      { b with onLines := a.onLines + bit q.on, offLines := a.offLines + bit (!q.on), t0 := some (a.t0.getD (s % 2 ^ 32)), t1 := s % 2 ^ 32 })
    { c1 with idx := c.idx + 1, lines := c.lines ++ [l] })).inc P.camLines p

/-- CAMERA_LINE (R18, R62 to R66, R70, R71, R74): a line of stamp `stamp` and samples in order of arrival; `ovr` when the
causeway overflowed and the line was discarded. Where line L - 32 itself was lost, the latch pulse is the one that it missed. -/
def cameraLine (p stamp : Nat) (samples : List Nat) (ovr : Bool) (m : Mod) : Mod :=
  let c := m.port p
  if !m.portUsed p || !c.inFrame || !c.inService then m
  else
    let s := m.extend stamp
    match m.nearest p s with
    | none => m
    | some (q, d) =>
      let gap : Nat := match c.kLast with
        | some k => if k < q.k then q.k - k - 1 else 0
        | none => 0
      let twin : Bool := match c.kLast with
        | some k => q.k ≤ k
        | none => false
      let m1 := m.loseGap p gap
      let m2 := if m.rd P.camLinePeriod p < 4 * d.natAbs then
          (((m1.inc P.camSlips p).flag P.camFlags 16 p).setPort p (fun c => c.acc (fun a => { a with slip := true }))).raise (16 + p) 0x0108
            (leBytes 4 (c.frames - 1) ++ leBytes 4 (toU 32 d)) else m1
      let m4 := if twin then m2 else m2.setPort p (fun c => { c with kLast := some q.k })
      let m3 :=
        if ovr then
          let i := (m4.port p).idx
          (m4.loseLines p 1).raise (16 + p) 0x0102 (leBytes 4 (c.frames - 1) ++ leBytes 4 i)
        else if samples.length ≠ m.rd P.camLineSamples p * m.camC p then m4.badLine p
        else if twin then m4.loseLines p 1
        else m4.goodLine p s q samples
      let after := (m3.port p).idx - (m.rd P.camFrameLines p - 32)
      if !(m3.port p).latched && 0 < after then m3.latch p (q.k + 1 - after) s else m3

/-! ### Statistics (R82, R83) -/

/-- Flags of a published set in CAM_STAT_SETSEQ (R83). -/
def FrameAcc.setseq (a : FrameAcc) : Nat :=
  2 ^ 20 * bit a.unconf + 2 ^ 19 * bit a.slip + 2 ^ 18 * bit a.long + 2 ^ 17 * bit a.short + 2 ^ 16 * bit a.lost + a.seq

/-- A frame's set is published (R83). -/
def Mod.publishStat (m : Mod) (p : Nat) (a : FrameAcc) : Mod :=
  let m1 := m.setPort p (fun c => { c with pub := some (a, m.now), accs := c.accs.filter (fun b => b.num ≠ a.num) })
  let m2 := ((m1.inc P.camStatSeq p).wr P.camStatFrame a.num p).wr P.camStatSetseq a.setseq p
  (((m2.wr P.camStatLines (65536 * Nat.min 65535 a.offLines + Nat.min 65535 a.onLines) p).wr P.camStatT0 (a.t0.getD 0) p).wr
    P.camStatT1 a.t1 p).wr P.camStatRx a.rx p

/-- STATS_PUBLISH (R82, R83): the oldest frame that has ended. -/
def statsPublish (p : Nat) (m : Mod) : Mod :=
  match (m.port p).accs.find? (·.ended) with
  | some a => m.publishStat p a
  | none => m

/-- Pulses that have risen and whose lines have not come (R84): those since the last line, or, before the first, those whose line is still
expected. -/
def Mod.inFlight (m : Mod) (p : Nat) : Nat :=
  let c := m.port p
  match c.kLast with
  | some k => c.kNext - 1 - k
  | none => (c.pulses.filter (fun q => (m.now : Int) < (q.e + q.w : Nat) + m.colCal p [] P.camLatNow)).length

/-- PORT_CLOCK_LOSS (R84): the lines in flight are lost, and the partial frame's statistics are published with LINES_LOST. A port in use that
has not yet been in service is out of service by it too. -/
def portClockLoss (p : Nat) (m : Mod) : Mod :=
  let c := m.port p
  if !m.portUsed p || !m.running || (c.lostClock && !c.inService) then m
  else
    let m1 := (m.loseGap p (m.inFlight p)).setPort p (fun c => { c with kLast := if c.kNext = 0 then c.kLast else some (c.kNext - 1) })
    let m2 := m1.setPort p (fun c => { (c.acc (fun a => { a with lost := true, ended := true })) with
      inService := false, clock := false, lostClock := true, outSince := some (c.outSince.getD m.now), inFrame := false })
    let m3 := if c.inFrame then
        match ((m2.port p).accs.filter (fun a => a.num + 1 = c.frames)).getLast? with
        | some a => m2.publishStat p a
        | none => m2
      else m2
    m3.raise (16 + p) 0x0103 (leBytes 4 (c.frames - 1))

/-- A word of CAM_STAT_ZONE (R86). MIN and MAX of a record without a pixel read 0 (DESIGN CHOICE, log 135: R82 gives no least value of no
values). -/
def Mod.statZoneWord (m : Mod) (p j : Nat) : Nat :=
  match (m.port p).pub with
  | none => 0
  | some (a, _) =>
    match assocGet a.zones (j / 8) with
    | none => 0
    | some s =>
      match j % 8 with
      | 0 => s.sum % 2 ^ 32
      | 1 => s.sum / 2 ^ 32
      | 2 => 65536 * s.max + s.min
      | 3 => s.sat
      | 4 => s.dark
      | 5 => s.pixels
      | _ => 0

/-- A word of CAM_STAT_HIST (R86). -/
def Mod.statHistWord (m : Mod) (p j : Nat) : Nat :=
  match (m.port p).pub with
  | none => 0
  | some (a, _) => (assocGet a.hist j).getD 0

/-- CAM_STATUS (R86). -/
def Mod.camStatus (m : Mod) (p : Nat) : Nat :=
  let c := m.port p
  8 * bit c.unusable + 4 * bit c.inFrame + 2 * bit c.clock + bit c.inService

/-- CAM_SEQ_PEND (R86). -/
def Mod.camSeqPend (m : Mod) (p : Nat) : Nat :=
  match (m.port p).seqPend with
  | some s => 65536 + s
  | none => 0

/-! ### Colour reconstruction (R80, R81) -/

/-- Matrix coefficient (i, j), signed 16 bits, or the offset, signed 17 bits (R86). -/
def Mod.matrixAt (m : Mod) (p : Nat) (own : List (Nat × Word)) (i j : Nat) : Int :=
  let w := m.colVal p own P.camMatrix (4 * i + j)
  if j = 3 then sext 17 w else sext 16 w

/-- An entry of a tone curve (R86). -/
def Mod.toneAt (m : Mod) (p : Nat) (own : List (Nat × Word)) (i k : Nat) : Nat :=
  field (m.colVal p own P.camTone (2048 * i + k / 2)) (16 * (k % 2) + 15) (16 * (k % 2))

/-- One output value of a pixel from its gained channels (R80). -/
def Mod.colourOut (m : Mod) (p : Nat) (own : List (Nat × Word)) (i : Nat) (v3 : List Int) : Nat :=
  let s := (List.range v3.length).foldl (fun a j => a + m.matrixAt p own i j * v3.getD j 0) (0 : Int)
  let v := (clampI 0 65535 (rdiv (s + m.matrixAt p own i 3 * 4096) 4096)).toNat
  let a : Int := m.toneAt p own i (v / 16)
  let b : Int := m.toneAt p own i (Nat.min (v / 16 + 1) 4095)
  (clampI 0 65535 (a + fdiv ((b - a) * (v % 16 : Nat) + 8) 16)).toNat

/-- A reconstructed line (R80). -/
def Mod.reconLine (m : Mod) (p : Nat) (l : Line) : Line :=
  if l.lost then l
  else
    let n := m.rd P.camLineSamples p
    let ref := m.colVal p l.col P.camExpRef
    let v3 := l.px.zipIdx.map (fun (ch, c) => ch.zipIdx.map (fun (raw, x) =>
      clampI (-65536) 65535 (rdiv (m.flat p l.col n c x raw * (m.colVal p l.col P.camGain c * ref : Nat)) (4096 * l.w))))
    { l with px := (List.range l.px.length).map (fun i =>
      (List.range n).map (fun x => m.colourOut p l.col i (v3.map (fun ch => ch.getD x 0)))) }

/-- Colour reconstruction of the port's oldest line that waits, whose output may be lost (R18, R80, R81). -/
def Mod.colourLine (m : Mod) (p : Nat) (lost : Bool) : Mod :=
  match (m.port p).lines with
  | l :: r =>
    let l1 := if lost then { l with lost := true, px := [] } else l
    m.setPort p (fun c => { c with lines := r, recon := c.recon ++ [m.reconLine p l1] })
  | [] => m

/-! ### The commands as the queue gives them -/

/-- EXP_PULSE (R67). -/
def execExpPulse (t p : Nat) (s : State) : Host.Outcome State Fault Refusal := s.run t (expPulse p)

/-- CAMERA_LINE (R70). -/
def execCameraLine (t p stamp : Nat) (samples : List Nat) (ovr : Bool) (s : State) : Host.Outcome State Fault Refusal :=
  s.run t (cameraLine p stamp samples ovr)

/-- FRAME_END (R66). -/
def execFrameEnd (t p : Nat) (s : State) : Host.Outcome State Fault Refusal := s.run t (frameEnd p)

/-- STATS_PUBLISH (R83). -/
def execStatsPublish (t p : Nat) (s : State) : Host.Outcome State Fault Refusal := s.run t (statsPublish p)

/-- TEMPLATE_SENT (R77). -/
def execTemplateSent (t p : Nat) (s : State) : Host.Outcome State Fault Refusal := s.run t (templateSent p)

/-- TEMPLATE_REPLY (R79). -/
def execTemplateReply (t p : Nat) (bytes : List Byte) (s : State) : Host.Outcome State Fault Refusal := s.run t (templateReply p bytes)

/-- TEMPLATE_REPLY_TIMEOUT (R79). -/
def execTemplateReplyTimeout (t p : Nat) (s : State) : Host.Outcome State Fault Refusal := s.run t (templateReplyTimeout p)

/-- PORT_CLOCK_LOSS (R84). -/
def execPortClockLoss (t p : Nat) (s : State) : Host.Outcome State Fault Refusal := s.run t (portClockLoss p)

end Sys2Proof.Machine
end

