-- ==== Sys2Proof/Machine/Fusion.lean ====
section
/-!
DEFINITION. Machine/Fusion.lean: the common grid, the motion model and its estimator, regions and observations, pairs
of sensors, suspect sensors and the sensor set (chapter 6).
-/
namespace Sys2Proof.Machine

/-! ### The grid (R133 to R135) -/

/-- A lane block's triple. -/
def Mod.lane (m : Mod) (b : Nat) : Lane := m.fus.lanes.getD b { v := 4000000, a := 9810000, w := 0 }

/-- A lane block changed. -/
def Mod.setLane (m : Mod) (b : Nat) (f : Lane → Lane) : Mod := { m with fus := { m.fus with lanes := updAt m.fus.lanes b f } }

/-- Lane blocks of the grid: B (R133, R182). -/
def Mod.laneCount (m : Mod) : Nat := m.rd P.fusCols / 64

/-- h_p of a port in µm (R134). -/
def Mod.viewHeight (m : Mod) (p : Nat) : Nat := m.calN P.fusHNow p

/-- The mark of a column that a port does not see (R134). -/
def uncovered : Int := 0x00FFFFFF

/-- The sum over the box filter's `w` adjacent pixels (R135): pixels i − ⌊(w − 1) ÷ 2⌋ to i + ⌊w ÷ 2⌋, held inside the line. -/
def boxSum (w n : Nat) (o : List Nat) (i : Nat) : Nat :=
  sumOf ((List.range w).map (fun k => o.getD (Nat.min (i + k - (w - 1) / 2) (n - 1)) 0))

/-- A resampled value (R135): the interpolation of the filter's means, rounded once. -/
def resampleAt (w n : Nat) (o : List Nat) (q : Int) : Nat :=
  if q = uncovered then 0
  else
    let i0 := Nat.min (q.toNat / 256) (n - 1)
    let f := q.toNat % 256
    (rdiv ((boxSum w n o i0 * (256 - f) + boxSum w n o (Nat.min (i0 + 1) (n - 1)) * f : Nat) : Int) (256 * w)).toNat

/-- The port's oldest reconstructed line becomes a row of its layer (R18, R135). -/
def Mod.resample (m : Mod) (p : Nat) (lost : Bool) : Mod :=
  match (m.port p).recon with
  | l :: r =>
    let w := 2 ^ m.rd P.fusPrefilt p
    let n := m.rd P.camLineSamples p
    let geo := (List.range (m.rd P.fusCols)).map (fun k => m.cal P.fusGeoNow p k)
    let l1 := if lost || l.lost then { l with lost := true, px := [] }
              else { l with px := l.px.map (fun o => geo.map (resampleAt w n o)) }
    m.setPort p (fun c => { c with recon := r, rows := c.rows ++ [l1] })
  | [] => m

/-! ### The motion model (R140, R141) -/

/-- The square of v_b(h) in µm²/s². -/
def Lane.sq (l : Lane) (hr h : Nat) : Int := (l.v * l.v : Nat) + 2 * (l.a : Int) * ((hr : Int) - h)

/-- The square root of a squared velocity, in 10^-12 µm/s; a negative square counts as 0 (R140). -/
def speed (q : Int) : Nat := isqrt (q.toNat * 10 ^ 24)

/-- v_b(h) in 10^-12 µm/s. -/
def Lane.speedAt (l : Lane) (hr h : Nat) : Nat := speed (l.sq hr h)

/-- The time in ns from speed `s1` to speed `s2` at acceleration `a`, to the nearest ns (R140). -/
def fallTime (a s1 s2 : Nat) : Int := rdiv ((s2 : Int) - s1) (a * 1000)

/-- Columns in 1/256 that a drift makes in a time (R140). -/
def driftCols (w dt : Int) : Int := rdiv (w * dt * 256) (250 * 10 ^ 9)

/-- Observations at one height, as one point (R140). -/
structure HPoint where
  h : Nat
  t : Nat
  x : Int
  lane : Nat
deriving DecidableEq, Repr

/-- The observation that names a point's lane: of greatest MASS, the lower port at equal MASS. -/
def heaviest : List Obs → Option Obs
  | [] => none
  | o :: r => some (r.foldl (fun b q => if b.mass < q.mass || (b.mass = q.mass && q.port < b.port) then q else b) o)

/-- The point that observations at one height form (R140). -/
def pointOf (h : Nat) (l : List Obs) : HPoint :=
  let mass := sumOf (l.map (·.mass))
  { h := h, t := (rdiv ((sumOf (l.map (fun o => o.mass * o.t)) : Nat) : Int) mass).toNat,
    x := rdiv (l.foldl (fun a o => a + (o.mass : Int) * o.x) 0) mass,
    lane := ((heaviest l).map (·.lane)).getD 0 }

/-- The points of observations, by falling height; `ht` gives a port's height (R140). -/
def pointsOf (ht : Nat → Nat) (obs : List Obs) : List HPoint :=
  let hs := obs.foldl (fun l o => if l.contains (ht o.port) then l else l ++ [ht o.port]) ([] : List Nat)
  (sortBy (fun a b => b ≤ a) hs).map (fun h => pointOf h (obs.filter (fun o => ht o.port = h)))

/-- The last of points above a height, and the first below. -/
def around (pts : List HPoint) (h : Nat) : Option HPoint × Option HPoint :=
  ((pts.filter (fun q => h < q.h)).getLast?, (pts.filter (fun q => q.h < h)).head?)

/-- A piece's own velocity at one of its points, in 10^-12 µm/s, from its highest and lowest points (R141). -/
def ownSpeed (a : Nat) (top bot : HPoint) (low : Bool) : Int :=
  let dt := bot.t - top.t
  let vbar := rdiv (((top.h - bot.h) * 10 ^ 21 : Nat) : Int) dt
  let half := rdiv ((a * dt * 1000 : Nat) : Int) 2
  if low then vbar + half else vbar - half

/-- T(h) of a track's points under a triple (R141). -/
def trackTime (l : Lane) (hr dhMin : Nat) (pts : List HPoint) (h : Nat) : Nat :=
  match around pts h with
  | (some p1, some p2) =>
    let s1 := l.speedAt hr p1.h
    let s2 := l.speedAt hr p2.h
    ((p1.t : Int) + rdiv (((p2.t : Int) - p1.t) * ((l.speedAt hr h : Int) - s1)) (s2 - s1)).toNat
  | _ =>
    match pts with
    | [] => 0
    | top :: _ =>
      let bot := pts.getLastD top
      let low := h ≤ bot.h
      let q := if low then bot else top
      if dhMin ≤ top.h - bot.h && top.t < bot.t then
        let u := (ownSpeed l.a top bot low).natAbs
        let s := isqrt (((u * u : Nat) : Int) + 2 * (l.a : Int) * ((q.h : Int) - h) * 10 ^ 24).toNat
        ((q.t : Int) + fallTime l.a u s).toNat
      else ((q.t : Int) + fallTime l.a (l.speedAt hr q.h) (l.speedAt hr h)).toNat

/-! ### Regions (R136 to R138) -/

/-- Columns of a region, first and last. -/
def Blob.span (b : Blob) : Nat × Nat :=
  b.cells.foldl (fun s c => (Nat.min s.1 c.col, Nat.max s.2 c.col)) ((b.cells.map (·.col)).headD 0, (b.cells.map (·.col)).headD 0)

/-- Two regions that a segment joins. -/
def Blob.join (a b : Blob) : Blob :=
  { cells := a.cells ++ b.cells, rows := if a.rows.length < b.rows.length then b.rows else a.rows,
    edge := a.edge ++ b.edge, lastRow := Nat.max a.lastRow b.lastRow }

/-- Runs of neighbouring columns among the active cells of one row, in rising order. -/
def segments : List GridCell → List (List GridCell)
  | [] => []
  | c :: r =>
    match segments r with
    | [] => [[c]]
    | s :: t => if (s.map (·.col)).headD 0 = c.col + 1 then (c :: s) :: t else [c] :: s :: t

/-- A segment taken by the regions under growth (R138): each with the columns of its last row before this one and the
cells it has gained in this row; those that touch the segment become one. -/
def growSeg (work : List (Blob × List GridCell)) (seg : List GridCell) : List (Blob × List GridCell) :=
  let touches := fun (w : Blob × List GridCell) => seg.any (fun c => w.1.edge.any (fun e => e ≤ c.col + 1 && c.col ≤ e + 1))
  let hit := work.filter touches
  let rest := work.filter (fun w => !touches w)
  match hit with
  | [] => rest ++ [({ cells := [], rows := [], edge := [], lastRow := 0 }, seg)]
  | w :: ws =>
    let b := ws.foldl (fun b x => (b.1.join x.1, b.2 ++ x.2)) w
    rest ++ [(b.1, b.2 ++ seg)]

/-- A region with the cells of a row. -/
def Blob.extend (b : Blob) (row : GridRow) (cs : List GridCell) : Blob :=
  { cells := b.cells ++ cs, rows := b.rows ++ [row], edge := cs.map (·.col), lastRow := row.n }

/-- A region that is too long or too wide (R138). -/
def Mod.oversize (m : Mod) (b : Blob) : Bool :=
  m.rd P.fusMaxRows ≤ b.rows.length || m.rd P.fusMaxCols < b.span.2 + 1 - b.span.1

/-- Regions of a layer after a row (R138): those still open, and those that closed, with OVERSIZE. -/
def Mod.growRow (m : Mod) (blobs : List Blob) (row : GridRow) (cells : List GridCell) : List Blob × List (Blob × Bool) :=
  if row.lost then
    let grown := blobs.map (fun b => { b with rows := b.rows ++ [row] })
    (grown.filter (fun b => !m.oversize b), (grown.filter m.oversize).map (fun b => (b, true)))
  else
    let live := blobs.filter (fun b => row.n ≤ b.lastRow + 3)
    let dead := blobs.filter (fun b => b.lastRow + 3 < row.n)
    let work := (segments cells).foldl growSeg (live.map (fun b => (b, ([] : List GridCell))))
    let grown := (work.filter (fun w => w.2 ≠ [])).map (fun w => w.1.extend row w.2)
    let ended := (work.filter (fun w => w.2 = [])).map (·.1)
    (grown.filter (fun b => !m.oversize b),
     (dead ++ ended).map (fun b => (b, false)) ++ (grown.filter m.oversize).map (fun b => (b, true)))

/-- The extractor delivers, for the port's oldest row, the feature channels of each column (R18, R136 to R138). -/
def Mod.feature (m1 : Mod) (p : Nat) (vecs : List (List Int)) (lost : Bool) : Mod :=
  match (m1.port p).rows with
  | [] => m1
  | l :: rest =>
    let two : Bool := m1.colVal p l.col P.camInterleave = 2
    let prev := (m1.port p).prevRow
    let prevLost : Bool := match prev with
      | some q => q.lost
      | none => true
    let gone := lost || l.lost || (two && prevLost)
    let mask : Nat := if l.on then l.bgInv else if two then (prev.map (·.bgInv)).getD 0 else 0
    let layer := m1.fus.layers.getD p {}
    let row : GridRow := { n := layer.n, t := l.t, arr := l.arr, seq := l.seq, lost := gone }
    let oc := m1.rd P.fusObjCh p
    let thr := m1.rd P.fusObjThr
    let cells := (vecs.take (m1.rd P.fusCols)).zipIdx.filterMap (fun (v, k) =>
      let o := toU 8 (v.getD oc 0)
      if thr ≤ o then
        some ({ row := layer.n, col := k, obj := o, bgi := mask.testBit (k / 64),
                vec := (v.take (m1.rd P.fusFeatCh p)).set oc (o : Int) } : GridCell)
      else none)
    let g := m1.growRow layer.blobs row (if gone then [] else cells)
    let layer1 : Layer := { n := layer.n + 1, blobs := g.1, closed := layer.closed ++ g.2 }
    ({ m1 with fus := { m1.fus with layers := m1.fus.layers.set p layer1 } }).setPort p
      (fun c => { c with rows := rest, prevRow := some l })

/-! ### Observations (R139, R141, R147) -/

/-- A channel pooled over values: their mean, or their greatest (R147). -/
def poolOf (mx : Bool) (vs : List Int) : Int :=
  match vs with
  | [] => 0
  | v :: r => if mx then r.foldl max v else rdiv (vs.foldl (· + ·) 0) vs.length

/-- A closed region as an observation, aligned with its lane block's triple (R139, R141). -/
def Mod.makeObs (m : Mod) (p : Nat) (b : Blob) (ovr : Bool) : Obs :=
  let first := (b.rows.map (·.n)).headD 0
  let rows := b.rows.filter (fun r => r.n ≤ b.lastRow)
  let mass := sumOf (b.cells.map (·.obj))
  let tOf := fun (n : Nat) => ((rows.getD (n - first) { n := 0, t := 0, arr := 0, seq := 0, lost := false }).t)
  let t := (rdiv ((sumOf (b.cells.map (fun c => c.obj * tOf c.row)) : Nat) : Int) mass).toNat
  let x := rdiv ((256 * sumOf (b.cells.map (fun c => c.obj * c.col)) : Nat) : Int) mass
  let lane := x.toNat / 256 / 64
  let l := m.lane lane
  let hr := m.rd P.fusHRef
  let hp := m.viewHeight p
  let ha := m.rd P.fusHAlign
  let dt := if hp = ha then 0 else fallTime l.a (l.speedAt hr hp) (l.speedAt hr ha)
  let seq0 := (rows.map (·.seq)).headD 0
  let seq1 := (rows.map (·.seq)).getLastD 0
  let lost := (rows.filter (·.lost)).length
  { port := p, oversize := ovr,
    edge := b.span.1 = 0 || b.span.2 + 1 = m.rd P.fusCols || b.cells.any (fun c => m.cal P.fusGeoNow p c.col = uncovered),
    linesLost := lost ≠ 0, bgi := b.cells.any (·.bgi), cold := !l.warm, span := seq0 ≠ seq1,
    t := t, ta := ((t : Int) + dt).toNat, x := x, xa := x + driftCols l.w dt, lane := lane,
    colFirst := b.span.1, colLast := b.span.2, lines := rows.length, lost := lost, mass := mass, seq0 := seq0, seq1 := seq1,
    vec := (List.range (m.rd P.fusFeatCh p)).map (fun i =>
      poolOf ((m.rd P.fusPool p).testBit i) (b.cells.map (fun c => c.vec.getD i 0))),
    arrived := maxOf 0 ((rows.filter (fun r => !r.lost)).map (·.arr)) }

/-- A sensor's vector (R147): that of its observation; of several, channel by channel their greatest, or their mean weighted by MASS,
rounded as within a region. -/
def sensorVec (ch pool : Nat) (obs : List Obs) : List Int :=
  let mass := sumOf (obs.map (·.mass))
  (List.range ch).map (fun i =>
    let vs := obs.map (fun o => o.vec.getD i 0)
    if pool.testBit i then vs.tail.foldl max (vs.headD 0)
    else rdiv (obs.foldl (fun a o => a + (o.mass : Int) * o.vec.getD i 0) 0) (Nat.max 1 mass))

/-- FLAGS of an observation (R139). -/
def Obs.flags (o : Obs) : Nat :=
  128 * bit o.oversize + 64 * bit o.edge + 32 * bit o.linesLost + 16 * bit o.bgi + 8 * bit o.cold + 4 * bit o.span

/-- A port contributes observations: its height in force lies in 20,000 to 400,000 µm (R134). -/
def Mod.heightOk (m : Mod) (p : Nat) : Bool := 20000 ≤ m.viewHeight p && m.viewHeight p ≤ 400000

/-! ### The estimator (R143 to R146) -/

/-- A running or exponential mean's step: α is the greater of 1 ÷ n and 1 ÷ N (R144). -/
def alphaStep (x xs : Int) (n bigN : Nat) : Int := x + rdiv (xs - x) (Nat.min n bigN)

/-- An estimate discarded (R144). -/
def Mod.motionDiscard (m : Mod) : Mod := (m.inc P.fusMotionDiscards).flag P.fusFlags 1

/-- The velocity sample v_s in µm/s (R143). -/
def velocitySample (l : Lane) (hr : Nat) (top bot : HPoint) : Nat :=
  let u := ownSpeed l.a top bot true
  (rdiv ((isqrt (u * u - 2 * (l.a : Int) * ((hr : Int) - bot.h) * 10 ^ 24).toNat : Nat) : Int) (10 ^ 12)).toNat

/-- The middle point of R143: its height nearest to the mean of the ends, the upper of two equally near. -/
def middlePoint (top bot : HPoint) (mid : List HPoint) : Option HPoint :=
  match mid with
  | [] => none
  | q :: r =>
    let d := fun (z : HPoint) => (2 * (z.h : Int) - (top.h + bot.h : Nat)).natAbs
    some (r.foldl (fun b z => if d z < d b then z else b) q)

/-- The acceleration sample in µm/s² (R143). -/
def accelSample (top mid bot : HPoint) : Int :=
  let v := fun (a b : HPoint) => rdiv (((a.h - b.h) * 10 ^ 15 : Nat) : Int) (b.t - a.t)
  rdiv ((v mid bot - v top mid) * 2 * 1000) (bot.t - top.t)

/-- The drift sample in µm/s (R143). -/
def driftSample (top bot : HPoint) : Int := rdiv ((bot.x - top.x) * 250 * 10 ^ 9) (256 * (bot.t - top.t))

/-- The velocity sample takes effect or is discarded (R144). -/
def Mod.takeVelocity (m : Mod) (b vs : Nat) : Mod :=
  let l := m.lane b
  let r : Int := (vs : Int) - l.v
  if l.warm && m.rd P.fusGateV < r.natAbs then m.motionDiscard
  else
    let n := l.nv + 1
    m.setLane b (fun l => { l with v := (alphaStep l.v vs n (m.rd P.fusNV)).toNat, nv := n, lastV := m.now,
                                   ms := (alphaStep l.ms (r * r) n (m.rd P.fusNV)).toNat })

/-- The acceleration sample takes effect or is discarded (R144). -/
def Mod.takeAccel (m : Mod) (b : Nat) (as : Int) : Mod :=
  let l := m.lane b
  let lo : Int := m.rd P.fusAMin
  let hi : Int := m.rd P.fusAMax
  let a1 := alphaStep l.a as (l.na + 1) (m.rd P.fusNA)
  if lo ≤ as && as ≤ hi && lo ≤ a1 && a1 ≤ hi then m.setLane b (fun l => { l with a := a1.toNat, na := l.na + 1 })
  else m.motionDiscard

/-- The drift sample takes effect (R144). -/
def Mod.takeDrift (m : Mod) (b : Nat) (ws : Int) : Mod :=
  m.setLane b (fun l => { l with w := alphaStep l.w ws (l.nw + 1) (m.rd P.fusNW), nw := l.nw + 1 })

/-- The motion samples of a completed track's observations (R143); `ht` gives a port's height. -/
def Mod.motionSamples (m : Mod) (ht : Nat → Nat) (obs : List Obs) : Mod :=
  if obs.any (fun o => o.oversize || o.linesLost) then m
  else
    match pointsOf ht obs with
    | top :: rest =>
      let bot := rest.getLastD top
      if top.h - bot.h < m.rd P.fusDhMin || bot.t ≤ top.t then m
      else
        let b := bot.lane
        let l := m.lane b
        let m1 := m.takeVelocity b (velocitySample l (m.rd P.fusHRef) top bot)
        let m2 :=
          match middlePoint top bot rest.dropLast with
          | some mid =>
            if m.rd P.fusDhA ≤ top.h - bot.h && top.t < mid.t && mid.t < bot.t then m1.takeAccel b (accelSample top mid bot) else m1
          | none => m1
        m2.takeDrift b (driftSample top bot)
    | [] => m

/-- A lane block turns cold (R145, R146). -/
def Mod.laneCold (m : Mod) (b cause : Nat) : Mod :=
  (m.setLane b (fun l => { l with warm := false, coldAt := m.now, nv := 0, na := 0, nw := 0 })).raise 48 0x0302
    (leBytes 1 b ++ leBytes 1 cause)

/-- LANE_BLOCK_WARM (R145). -/
def laneBlockWarm (b : Nat) (m : Mod) : Mod :=
  let l := m.lane b
  if b < m.laneCount && !l.warm && 200 ≤ l.nv && l.coldAt + 2 * 10 ^ 9 ≤ m.now then
    (m.setLane b (fun l => { l with warm := true })).raise 48 0x0301 (leBytes 1 b)
  else m

/-- LANE_BLOCK_STALE (R145). -/
def laneBlockStale (b : Nat) (m : Mod) : Mod :=
  let l := m.lane b
  if l.warm && l.lastV + m.rd P.fusStaleS * 10 ^ 9 ≤ m.now then m.laneCold b 1 else m

/-- The nominal triple of the recipe in force (R145, R146). -/
def Mod.nominal (m : Mod) (l : Lane) : Lane := { l with v := m.rd P.fusVNom, a := m.rd P.fusANom, w := 0 }

/-- FUS_MOTION_RESET (R146): every lane block of the grid. -/
def fusMotionReset (m : Mod) : Mod :=
  (List.range m.laneCount).foldl (fun m b => (m.setLane b m.nominal).laneCold b 2) m

/-- A recipe change at its effective instant (R146): cold lane blocks that have accepted no velocity sample take its FUS_V_NOM and
FUS_A_NOM; their drift stands. -/
def Mod.lanesRecipe (m : Mod) : Mod :=
  { m with fus := { m.fus with lanes := m.fus.lanes.map (fun l =>
    if !l.warm && l.nv = 0 then { l with v := m.rd P.fusVNom, a := m.rd P.fusANom } else l) } }

/-- The start of the estimator, with the ports that contribute nothing (R134, R145). -/
def Mod.fusionStart (m : Mod) : Mod :=
  let m1 := { m with fus := { m.fus with lanes := m.fus.lanes.map (fun l => { m.nominal l with coldAt := m.now }) } }
  (List.range 8).foldl (fun m p =>
    if m.rd P.camEn p = 1 && !m.heightOk p then m.raise 49 0x0305 (leBytes 1 p ++ leBytes 4 (m.viewHeight p)) else m) m1

/-- FUS_M_STAT of a lane block (R157). -/
def Lane.stat (l : Lane) : Nat :=
  2 ^ 31 * bit l.warm + 65536 * Nat.min 0x3FFF (rdiv (isqrt (l.ms * 10 ^ 6) : Nat) (10 ^ 6)).toNat + Nat.min 65535 l.nv

/-! ### Suspect sensors and the sensor set (R29, R151 to R154) -/

/-- Suspect reason of a port. -/
def Mod.suspect (m : Mod) (p : Nat) : Nat := m.fus.suspect.getD p 0

/-- Suspect ports as a mask: FUS_SUSPECT. -/
def Mod.suspectMask (m : Mod) : Nat := maskOf ((List.range 8).filter (fun p => m.suspect p ≠ 0))

/-- FUS_SUSPECT_WHY. -/
def Mod.suspectWhy (m : Mod) : Nat := sumOf ((List.range 8).map (fun p => 4 ^ p * m.suspect p))

/-- The excluded set of a variant (R157); nothing for ALL. -/
def Mod.excludedOf (m : Mod) (v : Option Nat) : Nat :=
  match v with
  | some i => field (m.rd P.fusVariant i) 7 0
  | none => 0

/-- Ports excluded now (R153). -/
def Mod.excluded (m : Mod) : Nat := m.rd P.sysSuspect

/-- The variant that R154 selects. -/
def Mod.chooseVariant (m : Mod) : Option Nat :=
  let sus := m.suspectMask
  if sus = 0 || !(m.rd P.sysAllow).testBit 1 then none
  else
    let ok := (List.range 4).filter (fun i => (m.rd P.fusVariant i).testBit 31 && (m.excludedOf (some i) &&& sus) = sus)
    let size := fun (i : Nat) => (bitsSet 8 (m.excludedOf (some i))).length
    match ok with
    | [] => none
    | i :: r => some (r.foldl (fun b j => if size j < size b then j else b) i)

/-- SENSOR_SET_EVALUATE (R154). -/
def Mod.evaluateSet (m : Mod) : Mod :=
  let old := m.fus.variant
  let oldMask := m.excluded
  let new := m.chooseVariant
  let mask := m.excludedOf new
  let sus := m.suspectMask
  let m1 := { m with fus := { m.fus with variant := new } }.wr P.sysSuspect mask
  let changed := old ≠ new || oldMask ≠ mask
  let m2 := if changed && old.isSome then m1.raise 51 0x0314 (leBytes 1 oldMask ++ leBytes 1 mask) else m1
  let m3 := match new with
    | some v => if changed then m2.raise 51 0x0313 (leBytes 1 v ++ leBytes 1 mask) else m2
    | none => m2
  if sus ≠ 0 && new.isNone then
    let cause := if (m.rd P.sysAllow).testBit 1 then 2 else 1
    (bitsSet 8 sus).foldl (fun m p => m.raise 51 0x0315 (leBytes 1 p ++ leBytes 1 cause))
      (({ m3 with fus := { m3.fus with kept := true, remindAt := m3.now } }).flag P.fusFlags 8)
  else { m3 with fus := { m3.fus with kept := false } }

/-- A suspect mark set or cleared, without evaluation. -/
def Mod.markSuspect (m : Mod) (p r : Nat) : Mod := { m with fus := { m.fus with suspect := m.fus.suspect.set p r } }

/-- A sensor becomes suspect (R151, R152); `pair` is the pair index of a CONTRADICTION. -/
def Mod.setSuspect (m : Mod) (p r : Nat) (pair : List Byte) : Mod :=
  ((m.markSuspect p r).raise 50 0x0311 (leBytes 1 p ++ leBytes 1 r ++ pair)).evaluateSet

/-- A mark clears (R152), without evaluation. -/
def Mod.clearSuspect (m : Mod) (p : Nat) : Mod :=
  (m.markSuspect p 0).raise 50 0x0316 (leBytes 1 p ++ leBytes 1 (m.suspect p))

/-- SENSOR_ABSENT (R152). A port that is suspect for CONTRADICTION keeps that reason when it goes absent too (DESIGN CHOICE, log 109). -/
def sensorAbsent (p : Nat) (m : Mod) : Mod :=
  match (m.port p).outSince with
  | some t =>
    if p < 8 && m.rd P.camEn p = 1 && m.suspect p = 0 && t + m.rd P.fusAbsentMs * 10 ^ 6 < m.now then m.setSuspect p 2 [] else m
  | none => m

/-- FUS_SUSPECT_CLR (R152). -/
def fusSuspectClr (v : Nat) (m : Mod) : Mod :=
  let named := (bitsSet 8 v).filter (fun p => m.suspect p = 1)
  if named = [] then m else (named.foldl Mod.clearSuspect m).evaluateSet

/-- SUSPECT_REMINDER (R154). -/
def suspectReminder (m : Mod) : Mod :=
  if m.fus.kept && m.fus.remindAt + m.rd P.fusRemindS * 10 ^ 9 ≤ m.now then m.evaluateSet else m

/-- FRAME_START (R66, R84, R152): a port that returns to service is no longer ABSENT. -/
def frameStart (p : Nat) (clk : Bool) (m : Mod) : Mod :=
  let m1 := m.frameBegin p clk
  if (m1.port p).inService && m1.suspect p = 2 then (m1.clearSuspect p).evaluateSet else m1

/-! ### Pairs (R150, R151) -/

/-- Index of a pair, a < b (R150). -/
def pairIndex (a b : Nat) : Nat := a * (15 - a) / 2 + b - a - 1

/-- A pair. -/
def Mod.pair (m : Mod) (i : Nat) : PairAcc := m.fus.pairs.getD i {}

/-- A pair changed. -/
def Mod.setPair (m : Mod) (i : Nat) (f : PairAcc → PairAcc) : Mod := { m with fus := { m.fus with pairs := updAt m.fus.pairs i f } }

/-- PAIR_BLOCK_CLOSE (R151): a block of co-observations of the pair (a, b) closes. The contradictions of 0x0310 and the agreement of 0x0312
take two bytes each, as FUS_PAIR_WINDOW and FUS_AGREE do (log 29). -/
def Mod.pairClose (m : Mod) (a b : Nat) : Mod :=
  let i := pairIndex a b
  let q := m.pair i
  let share := fun (n : Nat) => n * 65536 / q.co
  let show_ := fun (n : Nat) => (rdiv ((n * 65535 : Nat) : Int) q.co).toNat
  let m1 := (m.wr P.fusAgree (show_ q.agreeA) a).wr P.fusAgree (show_ q.agreeB) b
  if q.contra < m.rd P.fusPairLimit then m1.setPair i (fun _ => {})
  else
    let n := q.strikes + 1
    let m2 := (m1.setPair i (fun _ => { strikes := n })).raise 50 0x0310 (leBytes 1 i ++ leBytes 2 q.contra)
    let lim := m.rd P.fusPairStrikes
    let low := fun (p : Nat) => if m.suspect p = 0 then m2.setSuspect p 1 (leBytes 1 i) else m2
    if n < lim then m2
    else if share q.agreeA < share q.agreeB then low a
    else if share q.agreeB < share q.agreeA then low b
    else if lim < n && m.suspect a = 0 && m.suspect b = 0 then (m2.flag P.fusFlags 4).raise 50 0x0312 (leBytes 1 i ++ leBytes 2 (show_ q.agreeA))
    else m2

/-- One pair of sensors at a written decision (R150): `k` lists the confident sensors with the verdict groups of their top classes (true for
REJECT), `v` the group of the fused classifier's verdict, `co` says that both have their features. A contradiction without a
co-observation is one of the block that is open (DESIGN CHOICE, log 143). -/
def Mod.pairCount (m : Mod) (k : List (Nat × Bool)) (v co : Bool) (a b : Nat) : Mod :=
  let i := pairIndex a b
  let ga := assocGet k a
  let gb := assocGet k b
  let contra : Bool := match ga, gb with
    | some x, some y => x ≠ y
    | _, _ => false
  let m1 := if contra then m.inc P.fusPairContra i else m
  let m2 := m1.setPair i (fun q =>
    { q with co := q.co + bit co, contra := q.contra + bit contra, agreeA := q.agreeA + bit (co && ga = some v),
             agreeB := q.agreeB + bit (co && gb = some v) })
  if co && m.rd P.fusPairWindow ≤ (m2.pair i).co then m2.pairClose a b else m2

/-- Every pair of sensors of a latched set, none of them excluded now (R150, R153); `present` says which have their features. -/
def Mod.pairsCount (m : Mod) (set : List Nat) (present : Nat → Bool) (k : List (Nat × Bool)) (v : Bool) : Mod :=
  let ps := set.filter (fun p => !m.excluded.testBit p)
  let pairs := ps.flatMap (fun a => (ps.filter (fun b => a < b)).map (fun b => (a, b)))
  pairs.foldl (fun m q => m.pairCount k v (present q.1 && present q.2) q.1 q.2) m

/-! ### The commands as the queue gives them -/

/-- FRAME_START (R66). -/
def execFrameStart (t p : Nat) (clk : Bool) (s : State) : Host.Outcome State Fault Refusal := s.run t (frameStart p clk)

/-- LANE_BLOCK_WARM (R145). -/
def execLaneBlockWarm (t b : Nat) (s : State) : Host.Outcome State Fault Refusal := s.run t (laneBlockWarm b)

/-- LANE_BLOCK_STALE (R145). -/
def execLaneBlockStale (t b : Nat) (s : State) : Host.Outcome State Fault Refusal := s.run t (laneBlockStale b)

/-- SENSOR_ABSENT (R152). -/
def execSensorAbsent (t p : Nat) (s : State) : Host.Outcome State Fault Refusal := s.run t (sensorAbsent p)

/-- SUSPECT_REMINDER (R154). -/
def execSuspectReminder (t : Nat) (s : State) : Host.Outcome State Fault Refusal := s.run t suspectReminder

end Sys2Proof.Machine
end

