-- ==== Sys2Proof/Machine/Loop.lean ====
section
/-!
DEFINITION. Machine/Loop.lean: the control engine and the machine inputs (chapter 12).
-/
namespace Sys2Proof.Machine

/-! ### Arithmetic (R278) -/

/-- Saturation to 32 bits. -/
def sat32 (v : Int) : Int := clampI (-2147483648) 2147483647 v

/-- The rounding shift sh(a, s) of R278. -/
def sh (a : Int) (s : Nat) : Int := if s = 0 then sat32 a else sat32 (rdiv a (2 ^ s))

/-! ### Sources (R276) -/

/-- The age of a value never delivered: 0xFFFF_FFFF µs (R414), in ns. -/
def ageNever : Nat := 4294967295 * 1000

/-- SUM ÷ PIXELS of one zone, or of all zones, of a published set (R276). -/
def camMean (a : FrameAcc) (phase ch zone : Nat) : Int :=
  let zs := if zone = 16 then List.range 16 else [zone]
  let recs := zs.filterMap (fun z => assocGet a.zones ((phase * 3 + ch) * 16 + z))
  let sum := sumOf (recs.map (·.sum))
  let px := sumOf (recs.map (·.pixels))
  if px = 0 then 0 else (sum / px : Nat)

/-- A loop's output as LOOP_U_NOW and its destinations read it: the last one whose instant has come, LOOP_U_SAFE before the first (R274, R275, R283). -/
def Mod.loopOut (m : Mod) (l : Nat) : Int :=
  let c := m.loop.ctx.getD l {}
  (if c.wroteAt.any (m.now < ·) then c.uOld else c.u).getD (m.rdI P.loopUSafe l)

/-- The value and age in ns of a source code at the latch (R276). -/
def Mod.source (m : Mod) (c : Nat) : Int × Nat :=
  let x := field c 11 0
  match field c 15 12 with
  | 1 =>
    let a := m.loop.ain.getD x {}
    (m.rdI P.ainValNow x, match a.at_ with
      | some e => m.now - e
      | none => ageNever)
  | 2 => ((m.loop.enc.getD x {}).pos, if (m.loop.enc.getD x {}).unusable then ageNever else 0)
  | 3 => ((m.loop.enc.getD x {}).vel, if (m.loop.enc.getD x {}).unusable then ageNever else 0)
  | 4 => (((m.loop.frq.getD x {}).value : Nat), if (m.loop.frq.getD x {}).unusable then ageNever else 0)
  | 5 =>
    let k := m.loop.ctx.getD x {}
    (m.loopOut x, match k.wroteAt with
      | some w => m.now - w
      | none => m.now - m.bist.e0)
  | 6 =>
    (m.trk.pub.getD (5 * (x / 8) + x % 8) 0, match m.trk.pubAt with
      | some p => m.now - p
      | none => ageNever)
  | 7 =>
    match (m.cams.getD (field x 11 9) {}).pub with
    | some (a, p) => (camMean a (field x 8 8) (field x 7 6) (field x 4 0), m.now - p)
    | none => (0, ageNever)
  | 8 =>
    match x with
    | 0 => ((m.toll.logicIn : Nat), 0)
    | 1 => ((m.rd P.vlvVhiNow : Nat), 0)
    | 2 => ((m.rd P.vlvVloNow : Nat), 0)
    | 3 => ((m.toll.loadA : Nat), 0)
    | 4 => ((m.toll.loadB : Nat), 0)
    | _ => (m.rdI P.vlvTBoard, 0)
  | _ => (0, 0)

/-! ### One loop (R277 to R284) -/

/-- The inputs of one period as latched (R274). -/
structure LatchedIn where
  m : Int
  r : Int
  x : Int
  p : Int
  vel : Int
  age : Nat
  /-- Kind of the oldest source, for event 0x0601. -/
  kind : Nat

/-- The latch of loop `l` (R274, R277, R281). -/
def Mod.latchLoop (m : Mod) (l : Nat) : LatchedIn :=
  let cm := m.rd P.loopSrcM l
  let cr := m.rd P.loopSrcR l
  let cx := m.rd P.loopSrcX l
  let (vm, am) := m.source cm
  let (vr, ar) := if cr = 0 then (m.rdI P.loopSet l, 0) else m.source cr
  let (vx, ax) := m.source cx
  let age := Nat.max am (Nat.max ar ax)
  { m := vm, r := vr, x := vx, p := (m.source (m.rd P.loopSrcP l)).1,
    vel := (m.source (field (m.rd P.loopTbl l) 15 0)).1, age := age,
    kind := if age = am then field cm 15 12 else if age = ar then field cr 15 12 else field cx 15 12 }

/-- The table term G (R280). -/
def Mod.tableTerm (m : Mod) (l : Nat) (i : LatchedIn) : Int :=
  let w := m.rd P.loopTbl l
  let n := field w 31 28
  if n = 0 then 0
  else
    let e := fun k : Nat => m.rdI P.loopTable (n - 1) k
    let idx := sh (m.rdI P.loopKT l * (i.p - m.rdI P.loopTblOrg l)) (field w 20 16)
    let k := fdiv idx 256
    let f := idx - 256 * k
    let mid := fun (a b : Nat) => e a + sh ((e b - e a) * f) 8
    let g :=
      if w.testBit 27 then mid (k % 1024).toNat ((k + 1) % 1024).toNat
      else if k < 0 then e 0
      else if 1023 ≤ k then e 1023
      else mid k.toNat (k.toNat + 1)
    if w.testBit 26 then
      let db := (m.rd P.loopTblVdb l : Int)
      if db < i.vel then g else if i.vel < 0 - db then 0 - g else 0
    else g

/-- What one period of a loop yields: the context after it and the signals of R287, m r e P I D F G u x age. -/
structure LoopOut where
  ctx : LoopCtx
  sig : List Int
  limited : Bool

/-- One AUTO period (R277 to R280, R283, R284). -/
def Mod.autoPeriod (m : Mod) (l : Nat) (c : LoopCtx) (i : LatchedIn) (fresh : Bool) : LoopOut :=
  let s := m.rd P.loopShifts l
  let sI := field s 24 20
  let e0 := sat32 (i.r - i.m)
  let e := if e0.natAbs ≤ m.rd P.loopDeadband l then 0 else e0
  let pT := sh (m.rdI P.loopKp l * e) (field s 29 25)
  let ki := m.rdI P.loopKi l * e
  let lo := m.rdI P.loopIMin l
  let hi := m.rdI P.loopIMax l
  let scale : Int := (2 ^ sI : Nat)
  let acc0 := match c.sI with
    | some o => if o = sI then c.iacc else sh c.iacc o * scale
    | none => c.iacc
  let held := !fresh && c.cut ≠ 0 && ((0 < ki && 0 < c.cut) || (ki < 0 && c.cut < 0))
  let acc1 := if held then acc0 else clampI (lo * scale) (hi * scale) (acc0 + ki)
  let mPrev := if fresh then i.m else c.mPrev
  let d0 := if fresh then 0 else c.d
  let y := sh (m.rdI P.loopKd l * (mPrev - i.m)) (field s 19 15)
  let dT := d0 + sh (m.rdI P.loopKn l * (y - d0)) (field s 14 10)
  let fT := sh (m.rdI P.loopKfr l * i.r) (field s 9 5) + sh (m.rdI P.loopKfx l * i.x) (field s 4 0)
  let gT := m.tableTerm l i
  let bias := m.rdI P.loopBias l
  let last := c.u.getD (m.rdI P.loopUSafe l)
  let acc := if fresh then clampI lo hi (last - (pT + dT + fT + gT + bias)) * scale else acc1
  let iT := sh acc sI
  let v := pT + iT + dT + fT + gT + bias
  let u1 := clampI (m.rdI P.loopUMin l) (m.rdI P.loopUMax l) v
  let slew := (m.rd P.loopUSlew l : Int)
  let u := if slew = 0 then u1 else clampI (last - slew) (last + slew) u1
  { ctx := { c with u := some u, iacc := acc, mPrev := i.m, d := dT, cut := u - v, mode := 1, held := held, sI := some sI },
    sig := [i.m, i.r, e, pT, iT, dT, fT, gT, u, i.x, ((i.age / 1000 : Nat) : Int)], limited := u ≠ v }

/-- The mode in force (R281): 0 OFF, 1 AUTO, 2 MANUAL, 3 FALLBACK. -/
def Mod.loopMode (m : Mod) (l : Nat) (i : LatchedIn) : Nat :=
  match m.rd P.loopMode l with
  | 0 => 0
  | 2 => 2
  | _ => let a := m.rd P.loopMaxAge l; if a ≠ 0 && a * 50000 < i.age then 3 else 1

/-- One period of a loop (R281 to R283), its context before the output instant is stamped. -/
def Mod.loopPeriod (m : Mod) (l : Nat) (c : LoopCtx) (i : LatchedIn) : LoopOut :=
  let md := m.loopMode l i
  let plain := fun (u : Int) (c1 : LoopCtx) =>
    let e := sat32 (i.r - i.m)
    ({ ctx := { c1 with u := some u, cut := 0, mode := md, held := false },
       sig := [i.m, i.r, if e.natAbs ≤ m.rd P.loopDeadband l then 0 else e, 0, sh c1.iacc (c1.sI.getD 0), c1.d, 0, 0, u, i.x,
               ((i.age / 1000 : Nat) : Int)], limited := false } : LoopOut)
  match md with
  | 0 => plain (m.rdI P.loopUSafe l) { c with iacc := 0, d := 0, mPrev := i.m, sI := none }
  | 2 => plain (clampI (m.rdI P.loopUMin l) (m.rdI P.loopUMax l) (m.rdI P.loopManual l)) c
  | 3 => plain (if m.rd P.loopFallback l = 0 then c.u.getD (m.rdI P.loopUSafe l) else m.rdI P.loopUSafe l) c
  | _ => m.autoPeriod l c i (c.mode ≠ 1)

/-- A record enters the ring of trace `n` (R287, R288). -/
def Mod.traceRecord (m : Mod) (n : Nat) (sig : List Int) (at_ : Nat) : Mod :=
  let t := m.loop.traces.getD n {}
  let cfg := m.rd P.loopTrCfg n
  let trg := m.rd P.loopTrTrig n
  let cap := m.trCap n
  let skip := t.skip + 1
  if skip < field cfg 7 0 then { m with loop := { m.loop with traces := m.loop.traces.set n { t with skip := skip } } }
  else
    let pick := fun k : Nat => sig.getD (field cfg (23 - 4 * k) (20 - 4 * k)) 0
    let r := (List.range (field cfg 25 24 + 1)).map pick
    let slot := field trg 29 28
    let lvl := m.rdI P.loopTrLevel n
    let crosses := match t.recs.head? with
      | some old =>
        let a := old.getD slot 0
        let b := r.getD slot 0
        (field trg 31 30 = 1 && a < lvl && lvl ≤ b) || (field trg 31 30 = 2 && lvl < a && b ≤ lvl)
      | none => false
    let t1 := { t with skip := 0, n := t.n + 1, recs := (r :: t.recs).take cap, at_ := (at_ :: t.at_).take cap,
                       left := t.left - 1 }
    let m1 := { m with loop := { m.loop with traces := m.loop.traces.set n t1 } }
    if t.st = .triggered then (if t1.left = 0 then m1.traceDone n else m1)
    else if crosses then m1.traceTrigger n
    else m1

/-- The traces that watch loop `l` and run take its period (R287). -/
def Mod.traceLoop (m : Mod) (l : Nat) (sig : List Int) (at_ : Nat) : Mod :=
  (List.range 8).foldl (fun m n =>
    let t := m.loop.traces.getD n {}
    if field (m.rd P.loopTrCfg n) 31 26 = l && (t.st = .armed || t.st = .triggered) then m.traceRecord n sig at_ else m) m

/-- Event and count at the change into and out of FALLBACK (R282). -/
def Mod.loopEvents (m : Mod) (l : Nat) (c : LoopCtx) (md : Nat) (i : LatchedIn) : Mod :=
  if md = 3 && c.mode ≠ 3 then
    ((m.inc P.loopFallbacks).flag P.loopFlags 1).raise 88 0x0601 (leBytes 1 l ++ leBytes 1 i.kind ++ leBytes 4 (i.age / 1000))
  else if md ≠ 3 && c.mode = 3 then m.raise 88 0x0602 (leBytes 1 l ++ leBytes 4 ((m.now - c.fbAt) / 1000000))
  else m

/-- Loop `l` runs at position `q` of its tick with the inputs latched in `m0` (R274). -/
def Mod.runLoop (m0 m : Mod) (l q at_ : Nat) : Mod :=
  let c := m.loop.ctx.getD l {}
  let i := m0.latchLoop l
  let o := m0.loopPeriod l c i
  let c1 := { o.ctx with uOld := c.u, wroteAt := some (at_ + 1000 + 480 * q),
                         fbAt := if o.ctx.mode = 3 && c.mode ≠ 3 then m.now else c.fbAt }
  let m1 := { m with loop := { m.loop with ctx := m.loop.ctx.set l c1 } }
  let m2 := m1.loopEvents l c o.ctx.mode i
  let m3 := if o.limited then m2.flag P.loopFlags 2 else m2
  let m4 := ((((m3.wrI P.loopMNow (o.sig.getD 0 0) l).wrI P.loopRNow (o.sig.getD 1 0) l).wrI P.loopENow (o.sig.getD 2 0) l).wrI
    P.loopINow (o.sig.getD 4 0) l).wr P.loopAgeNow (Nat.min (i.age / 1000) 0xFFFFFFFF) l
  let m5 := (m4.wr P.loopQ q l).wr P.loopState (4 * o.ctx.mode + 2 * bit o.limited + bit o.ctx.held) l
  m5.traceLoop l o.sig at_

/-- The loops due at tick `i`, in ascending order (R273, R274). -/
def Mod.dueLoops (m : Mod) (i : Nat) : List Nat :=
  (List.range 64).filter (fun l => 1 ≤ l
    && (if l < 32 then (m.rd P.loopEnLo).testBit l else (m.rd P.loopEnHi).testBit (l - 32))
    && (let p := m.rd P.loopPeriod l
        (i + p - m.rd P.loopPhase l % p) % p = 0))

/-! ### Encoders and frequency inputs at a tick (R293, R294) -/

/-- An encoder's velocity at a tick (R293). -/
def Mod.encTick (m : Mod) (e : Nat) : Mod :=
  let c := m.loop.enc.getD e {}
  let w := m.rd P.ainEncVwin e
  let old := c.hist.getD (w - 1) 0
  let vel := sat32 (rdiv (sext 32 (toU 32 (c.pos - old)) * 20000) w)
  { m with loop := { m.loop with enc := m.loop.enc.set e { c with vel := vel, hist := (c.pos :: c.hist).take 200 } } }

/-- A frequency input's value at a tick, in mHz (R294). -/
def frqValue (edges : List Nat) (now win still : Nat) : Nat :=
  match edges with
  | last :: prev :: _ =>
    let inWin := edges.filter (fun e => now - e ≤ win)
    let n := inWin.length
    let first := if 2 ≤ n then (inWin.getLast?).getD prev else prev
    let cnt := if 2 ≤ n then n - 1 else 1
    let v := if last = first then 100000000 else (rdiv ((cnt * 10 ^ 12 : Nat) : Int) (last - first)).toNat
    let v1 := if last - prev < now - last then Nat.min v (10 ^ 12 / (now - last)) else v
    if still ≤ now - last then 0 else Nat.min v1 100000000
  | _ => 0

/-- A frequency input at a tick (R294). -/
def Mod.frqTick (m : Mod) (f : Nat) : Mod :=
  let c := m.loop.frq.getD f {}
  let v := frqValue c.edges m.now (m.rd P.ainFrqWin f * 1000000) (m.rd P.ainFrqZeroMs f * 1000000)
  ({ m with loop := { m.loop with frq := m.loop.frq.set f { c with value := v } } })

/-- LOOP_TICK (R273, R274, R285), each 50,000 raw counts from E_0: velocities and frequencies, then every due loop in order. -/
def loopTick (m : Mod) : Mod :=
  if m.running && m.bist.e0 + m.loop.tick * 50000 ≤ m.now then
    let i := m.loop.tick
    let m1 := (List.range 8).foldl Mod.encTick m
    let m2 := (List.range 16).foldl Mod.frqTick m1
    let m0 := m2
    let m3 := (m2.dueLoops i).zipIdx.foldl (fun m lq => Mod.runLoop m0 m lq.1 (lq.2 + 1) (m.bist.e0 + i * 50000)) m2
    ({ m3 with loop := { m3.loop with tick := i + 1 } }).inc P.loopTicks
  else m

/-! ### Trace commands (R288) -/

/-- TRACE_ARM: LOOP_TR_CMD = 1; the frozen content is discarded. -/
def traceArm (n : Nat) (m : Mod) : Mod :=
  if n < 8 then
    let t := m.loop.traces.getD n {}
    ({ m with loop := { m.loop with traces := m.loop.traces.set n { st := .armed, seq := t.seq } } }).wr P.loopTrCmd 1 n
  else m

/-- TRACE_TRIGGER: LOOP_TR_CMD = 2. -/
def traceTriggerCmd (n : Nat) (m : Mod) : Mod := if n < 8 then (m.wr P.loopTrCmd 2 n).traceTrigger n else m

/-- TRACE_STOP: LOOP_TR_CMD = 3 stops the trace without completing it. -/
def traceStop (n : Nat) (m : Mod) : Mod :=
  if n < 8 then
    let t := m.loop.traces.getD n {}
    let st := if t.st = .complete then .complete else .idle
    ({ m with loop := { m.loop with traces := m.loop.traces.set n { t with st := st } } }).wr P.loopTrCmd 3 n
  else m

/-! ### Analogue inputs (R289 to R292) -/

/-- An analogue input changed. -/
def Mod.setAin (m : Mod) (n : Nat) (f : Ain → Ain) : Mod :=
  { m with loop := { m.loop with ain := updAt m.loop.ain n f } }

/-- An input is in fault (R291). -/
def Ain.fault (a : Ain) : Bool := a.overrange || a.low || a.shuntOpen.isSome

/-- The calibrated mean of a window (R290). -/
def Mod.ainValue (m : Mod) (n : Nat) (samples : List Int) : Int :=
  let sum := samples.foldl (· + ·) 0
  let v := rdiv (sum * m.cal P.ainGain n) (65536 * samples.length) + m.cal P.ainOfs n
  if m.rd P.ainMode n = 0 then clampI (-32768) 32767 v else clampI 0 65535 v

/-- Samples of a window (R290): 200,000 ÷ AIN_RATE. -/
def Mod.ainLen (m : Mod) (n : Nat) : Nat :=
  match m.rd P.ainRate n with
  | 0 => 200
  | 1 => 20
  | _ => 4

/-- AIN_WINDOW (R290, R291): a window of samples ends. -/
def ainWindow (n : Nat) (samples : List Int) (m : Mod) : Mod :=
  let a := m.loop.ain.getD n {}
  let mode := m.rd P.ainMode n
  if n < 32 && mode ≤ 1 && samples.length = m.ainLen n && !a.unusable then
    let ovr := mode = 0 && samples.any (fun s => s ≤ -32768 || 32767 ≤ s)
    let low := mode = 1 && m.rd P.ainLowUa n ≠ 0 && samples.any (fun s => s * 24000 < (m.rd P.ainLowUa n * 65536 : Nat))
    let early : Bool := match a.clearedAt with
      | some c => m.now < c + samples.length * 5000
      | none => false
    if a.fault || low || early then m.setAin n (fun a => { a with ovr := ovr, badAt := if low then m.now else a.badAt })
    else (m.wrI P.ainValNow (m.ainValue n samples) n).setAin n (fun a =>
      { a with ovr := ovr, at_ := some m.now, clearedAt := none })
  else m

/-- AIN_OVERRANGE (R291): the shunt opens; `ua` is the least current of the last 1 ms in µA. -/
def ainOverrange (n ua : Nat) (m : Mod) : Mod :=
  if n < 32 && m.rd P.ainMode n = 1 && (m.loop.ain.getD n {}).shuntOpen.isNone && 26000 < ua then
    (m.setAin n (fun a => { a with overrange := true, shuntOpen := some m.now, badAt := m.now })).raise (90 + n / 16) 0x0610 (leBytes 1 n)
  else m

/-- AIN_SHUNT_RECLOSE (R291): 1 s after it opened. -/
def ainShuntReclose (n : Nat) (m : Mod) : Mod :=
  match (m.loop.ain.getD n {}).shuntOpen with
  | some t => if t + 10 ^ 9 ≤ m.now then m.setAin n (fun a => { a with shuntOpen := none, badAt := m.now }) else m
  | none => m

/-- AIN_LOW_CURRENT (R291): `ua` is the greatest current of the last 1 ms in µA. -/
def ainLowCurrent (n ua : Nat) (m : Mod) : Mod :=
  if n < 32 && m.rd P.ainMode n = 1 && ua < m.rd P.ainLowUa n then
    let m1 := m.setAin n (fun a => { a with low := true, badAt := m.now })
    if (m.loop.ain.getD n {}).low then m1 else m1.raise (90 + n / 16) 0x0611 (leBytes 1 n)
  else m

/-- AIN_FAULT_CLEAR (R291): 10 ms in range. -/
def ainFaultClear (n : Nat) (m : Mod) : Mod :=
  let a := m.loop.ain.getD n {}
  if a.fault && a.shuntOpen.isNone && a.badAt + 10000000 ≤ m.now then
    (m.setAin n (fun a => { a with low := false, overrange := false, clearedAt := some m.now })).raise (90 + n / 16) 0x0612
      (leBytes 1 n)
  else m

/-- AIN_PIEZO_HIT (R292): the input rises, at code `v`, after its codes have fallen to `low` in absolute value: a hit from below AIN_HIT_REARM to
AIN_HIT_THR or above, at least AIN_HIT_DEAD µs after the last. A rise within that time is none, and the next one too needs its fall. -/
def ainPiezoHit (n low : Nat) (v : Int) (m : Mod) : Mod :=
  let a := m.loop.ain.getD n {}
  let dead : Bool := match a.lastHit with
    | some h => m.now < h + m.rd P.ainHitDead n * 1000
    | none => false
  let armed : Bool := a.armed || low < m.rd P.ainHitRearm n
  if n < 32 && m.rd P.ainMode n = 2 && !a.unusable then
    if armed && m.rd P.ainHitThr n ≤ v.natAbs then
      if dead then m.setAin n (fun a => { a with armed := false })
      else (m.inc P.ainHitsTotal n).setAin n (fun a => { a with lastHit := some m.now, hits := m.now :: a.hits, armed := false })
    else m.setAin n (fun a => { a with armed := armed })
  else m

/-- AIN_HIT_RATE (R292): hits of the last AIN_HIT_WIN ms, per second. -/
def ainHitRate (n : Nat) (m : Mod) : Mod :=
  let a := m.loop.ain.getD n {}
  if n < 32 && m.rd P.ainMode n = 2 && !a.unusable then
    let win := m.rd P.ainHitWin n
    let hits := a.hits.filter (fun h => m.now < h + win * 1000000)
    (m.wrI P.ainValNow (rdiv ((hits.length * 1000 : Nat) : Int) win) n).setAin n (fun a =>
      { a with hits := hits, at_ := some m.now })
  else m

/-- A level has held long enough for the filter of an encoder or a frequency input (R293): bits [7:0] of its configuration, in 100 ns. -/
def filtered (cfg ns : Nat) : Bool := field cfg 7 0 * 100 ≤ ns

/-- ENCODER_EDGE (R293): the levels of A and B after the edge, which have held for `ns`; A leading B counts up. -/
def encoderEdge (e : Nat) (a b : Bool) (ns : Nat) (m : Mod) : Mod :=
  let c := m.loop.enc.getD e {}
  if e < 8 && (m.rd P.ainEncCfg e).testBit 9 && !c.unusable && filtered (m.rd P.ainEncCfg e) ns then
    let set := fun (c1 : Enc) => { m with loop := { m.loop with enc := m.loop.enc.set e c1 } }
    if c.a ≠ a && c.b ≠ b then
      let m1 := (set { c with a := a, b := b }).inc P.ainEncErrs e
      m1.raiseOnce 92 0x0618 0 (fun n => leBytes 1 e ++ leBytes 4 n)
    else if c.a ≠ a || c.b ≠ b then
      let up := if c.a ≠ a then a ≠ c.b else b = c.a
      set { c with a := a, b := b, pos := sext 32 (toU 32 (c.pos + (if up then 1 else -1))) }
    else m
  else m

/-- ENCODER_INDEX (R293): a rising edge of Z, which has held for `ns`. -/
def encoderIndex (e ns : Nat) (m : Mod) : Mod :=
  let c := m.loop.enc.getD e {}
  let cfg := m.rd P.ainEncCfg e
  if e < 8 && cfg.testBit 9 && !c.unusable && filtered cfg ns then
    let home := cfg.testBit 8 && !c.zdone && c.a && c.b
    let c1 := { c with zpos := c.pos, pos := if home then 0 else c.pos, zdone := c.zdone || home }
    { m with loop := { m.loop with enc := m.loop.enc.set e c1 } }
  else m

/-- FREQ_EDGE (R293, R294): a rising edge, which has held for `ns`. -/
def freqEdge (f ns : Nat) (m : Mod) : Mod :=
  let c := m.loop.frq.getD f {}
  if f < 16 && (m.rd P.ainFrqCfg f).testBit 8 && !c.unusable && filtered (m.rd P.ainFrqCfg f) ns then
    let win := m.rd P.ainFrqWin f * 1000000
    let kept := c.edges.take 1 ++ (c.edges.drop 1).filter (fun e => m.now - e ≤ win)
    ({ m with loop := { m.loop with frq := m.loop.frq.set f { c with edges := m.now :: kept } } }).inc P.ainFrqEdges f
  else m

/-! ### The commands as the queue gives them -/

/-- LOOP_TICK (R274). -/
def execLoopTick (t : Nat) (s : State) : Host.Outcome State Fault Refusal := s.run t loopTick

/-- AIN_WINDOW (R290). -/
def execAinWindow (t n : Nat) (samples : List Int) (s : State) : Host.Outcome State Fault Refusal := s.run t (ainWindow n samples)

/-- AIN_OVERRANGE (R291). -/
def execAinOverrange (t n ua : Nat) (s : State) : Host.Outcome State Fault Refusal := s.run t (ainOverrange n ua)

/-- AIN_SHUNT_RECLOSE (R291). -/
def execAinShuntReclose (t n : Nat) (s : State) : Host.Outcome State Fault Refusal := s.run t (ainShuntReclose n)

/-- AIN_LOW_CURRENT (R291). -/
def execAinLowCurrent (t n ua : Nat) (s : State) : Host.Outcome State Fault Refusal := s.run t (ainLowCurrent n ua)

/-- AIN_FAULT_CLEAR (R291). -/
def execAinFaultClear (t n : Nat) (s : State) : Host.Outcome State Fault Refusal := s.run t (ainFaultClear n)

/-- AIN_PIEZO_HIT (R292). -/
def execAinPiezoHit (t n low : Nat) (v : Int) (s : State) : Host.Outcome State Fault Refusal := s.run t (ainPiezoHit n low v)

/-- AIN_HIT_RATE (R292). -/
def execAinHitRate (t n : Nat) (s : State) : Host.Outcome State Fault Refusal := s.run t (ainHitRate n)

/-- ENCODER_EDGE (R293). -/
def execEncoderEdge (t e : Nat) (a b : Bool) (ns : Nat) (s : State) : Host.Outcome State Fault Refusal := s.run t (encoderEdge e a b ns)

/-- ENCODER_INDEX (R293). -/
def execEncoderIndex (t e ns : Nat) (s : State) : Host.Outcome State Fault Refusal := s.run t (encoderIndex e ns)

/-- FREQ_EDGE (R294). -/
def execFreqEdge (t f ns : Nat) (s : State) : Host.Outcome State Fault Refusal := s.run t (freqEdge f ns)

end Sys2Proof.Machine
end

