-- ==== Sys2Proof/Machine/Valve.lean ====
section
/-!
DEFINITION. Machine/Valve.lean: the ejector and proportional valve drivers (chapter 9), but for the commands that settle
pulses with the firing engine, which stand in Machine/Eject.lean.
-/
namespace Sys2Proof.Machine

/-- An ejector channel. -/
def Mod.vch (m : Mod) (c : Nat) : VCh := m.vlv.ch.getD c {}

/-- An ejector channel changed. -/
def Mod.setVch (m : Mod) (c : Nat) (f : VCh → VCh) : Mod := { m with vlv := { m.vlv with ch := updAt m.vlv.ch c f } }

/-- The bank of a channel (R5, R208). -/
def bankOf (c : Nat) : Nat := c % 24

/-- Event source of a bank's channel faults (R236). -/
def vlvSrc (c : Nat) : Nat := 68 + bankOf c / 6

/-- Channels of a bank. -/
def bankChannels (b : Nat) : List Nat := (List.range 16).map (fun k => b + 24 * k)

/-! ### Current samples (R219, R220) -/

/-- A channel's current in mA from a sample's code, 12 bits over 4 A, with the sense gain of its calibration (R219). -/
def Mod.coilMa (m : Mod) (c code : Nat) : Nat := (rdiv ((Nat.min code 4095 * 4000 * m.calN P.vlvIsense c : Nat) : Int) (4096 * 65536)).toNat

/-- The voltage across a coil in nV from a sample (R220): 0.15 Ω of the switch while the low side is on, 0.8 V of the diode while it is off. -/
def Mod.coilNv (m : Mod) (c : Nat) (s : CoilSmp) : Int :=
  if s.on then ((1000000 * s.com : Nat) : Int) - ((150000 * m.coilMa c s.code : Nat) : Int) else -800000000

/-- One degree in the model's temperature unit. -/
def degree : Int := 1000000000

/-- ρ_T in µΩ at a temperature in 10^-9 °C, from ρ_20 in mΩ (R225). -/
def rhoT (rho20 : Nat) (tc : Int) : Int :=
  rdiv ((rho20 : Int) * 1000 * (100000 * degree + 393 * (tc - 20 * degree))) (100000 * 1000000000)

/-- ρ_T of a channel in µΩ at its model's temperature (R220, R225). -/
def Mod.rhoNow (m : Mod) (c : Nat) : Int := rhoT (m.calN P.vlvRes c) (m.vch c).tc

/-! ### Opening delays (R222 to R224) -/

/-- The changes that have come into force by `now` (R191, R222): 10 µs after the release of their pulse. -/
def VCh.settled (now : Nat) (v : VCh) : VCh :=
  (v.pend.filter (fun p => p.2.2.any (· ≤ now))).foldl
    (fun v p => if p.1 then { v with dMeas := some p.2.1 } else { v with dhsMeas := some p.2.1 })
    { v with pend := v.pend.filter (fun p => !p.2.2.any (· ≤ now)) }

/-- The pulse is released at `now`: what its arrival changed comes into force 10 µs later (R191, R222). -/
def VCh.released (now : Nat) (v : VCh) : VCh :=
  { v with pend := v.pend.map (fun p => (p.1, p.2.1, some (p.2.2.getD (now + 10000)))) }

/-- d_c in force in µs: calibration until measured (R222). -/
def Mod.dOpen (m : Mod) (c : Nat) : Nat := (((m.vch c).settled m.now).dMeas).getD (m.calN P.vlvDcal c)

/-- d_hs,c in force in µs (R222). -/
def Mod.dHs (m : Mod) (c : Nat) : Nat :=
  match ((m.vch c).settled m.now).dhsMeas with
  | some v => v
  | none => (m.cal P.vlvDhsCal c + ((m.dOpen c : Int) - m.cal P.vlvDcal c)).toNat

/-- The changes in force are taken up; the first of each quantity from calibration to estimate raises its event (R222). -/
def Mod.settleDelays (m : Mod) (c : Nat) : Mod :=
  let v := m.vch c
  let w := v.settled m.now
  let m1 := m.setVch c (fun _ => w)
  let m2 := if v.dMeas.isNone && w.dMeas.isSome then m1.raise 73 0x0416 (leBytes 2 c ++ leBytes 2 (w.dMeas.getD 0)) else m1
  if v.dhsMeas.isNone && w.dhsMeas.isSome then m2.raise 73 0x0418 (leBytes 2 c ++ leBytes 2 (w.dhsMeas.getD 0)) else m2

/-- A sample enters an estimate (R222, R223): the estimate after it, whether it was discarded, and whether the
estimator restarted. -/
def Est.take (e : Est) (x gate learn : Nat) : Est × Bool × Bool :=
  let xs : Int := (x * 65536 : Nat)
  if 16 ≤ e.n && (gate * 65536 : Nat) < (xs - e.x).natAbs then
    let d := x :: e.disc
    if 8 ≤ d.length then ({ n := 16, x := rdiv ((sumOf d * 65536 : Nat) : Int) 8, disc := [] }, true, true)
    else ({ e with disc := d }, true, false)
  else
    let n := e.n + 1
    let x1 := e.x + rdiv (xs - e.x) (Nat.min n learn)
    ({ n := n, x := x1, disc := [] }, false, false)

/-- The estimate rounded to the nearest µs (R222). -/
def Est.us (e : Est) : Nat := (rdiv e.x 65536).toNat

/-- The flux linkage λ[n] in 10^-15 Wb at each sample, with the sample's current in mA (R220): ρ_T in µΩ. -/
def fluxRun (rho : Int) : Int → List (Int × Nat) → List (Int × Nat)
  | _, [] => []
  | a, (v, i) :: r =>
    let b := a + (v - rho * (i : Int))
    (b, i) :: fluxRun rho b r

/-- A sample stands at or above the arrival threshold (R220): L[n] ≥ L_th, where `th` is 256 × L_th in µH. A sample without current stands by the
sign of its flux (log 112). -/
def aboveTh (th : Nat) (s : Int × Nat) : Bool := ((th * s.2 * 1000000 : Nat) : Int) ≤ 256 * s.1

/-- The first sample of arrival (R220), counted from 1: `p` is the sample before, `n` the number of the list's first. -/
def arrivalFrom (th blank mx : Nat) : Nat → Option (Int × Nat) → List (Int × Nat) → Option (Nat × Int × Nat)
  | _, _, [] => none
  | n, p, s :: r =>
    if blank < n && n ≤ mx && 100 ≤ s.2 && aboveTh th s && p.any (fun q => !aboveTh th q) && 7 ≤ r.length && (r.take 7).all (aboveTh th) then
      some (n, s.1, s.2)
    else arrivalFrom th blank mx (n + 1) (some s) r

/-- 256 × L_th of a channel, µH (R220). -/
def Mod.arrivalTh (m : Mod) (c : Nat) : Nat :=
  (256 * m.cal P.vlvLOpen c + (m.cal P.vlvLClosed c - m.cal P.vlvLOpen c) * (m.rd P.vlvDetFrac : Int)).toNat

/-- A valid arrival sample `d` of a channel, with the inductance `l` in µH, enters its estimate (R222, R223): a discarded one counts and changes
nothing. The value it puts in force waits for the release. -/
def Mod.takeArrival (m : Mod) (c d l : Nat) : Mod :=
  let v := m.vch c
  let old := if v.hs then v.dhs else v.d
  let (e, gated, restart) := old.take d (m.rd P.vlvDetGate) (m.rd P.vlvLearnN)
  let m1 := m.setVch c (fun v =>
    let v1 := if v.hs then { v with dhs := e } else { v with d := e }
    { v1 with pend := if 16 ≤ e.n && (!gated || restart) then v1.pend ++ [(!v1.hs, e.us, none)] else v1.pend })
  if gated then
    let m2 := (m1.inc P.vlvDetGated).flag P.vlvFlags 1
    if restart then (m2.flag P.vlvFlags 2).raise 73 0x0417 (leBytes 2 c ++ leBytes 2 old.us ++ leBytes 2 e.us) else m2
  else
    ((m1.inc P.vlvDetValid).wr P.vlvDLast (Nat.min l 65535 * 65536 + Nat.min d 65535) c).setVch c (fun v =>
      { v with valid := Nat.min 65535 (v.valid + 1) })

/-- The running profile ends with its sample valid, if it found one: the sample enters its estimate (R221, R222). -/
def Mod.enterArrival (m : Mod) (c : Nat) : Mod :=
  match (m.vch c).arr with
  | some (d, l) => (m.takeArrival c d l).setVch c (fun v => { v with arr := none })
  | none => m

/-- ARRIVAL_DETECTED (R220 to R223): the samples of the running pulse from its first, 1 µs apart, up to 7 after the one sought; without an
arrival among them the search goes on. A valid sample waits for the end of the profile (DEDUCED, log 111). -/
def arrivalDetected (c : Nat) (smp : List CoilSmp) (m0 : Mod) : Mod :=
  let m := m0.settleDelays c
  let v := m.vch c
  if c < 384 && v.phase ≠ .idle && v.phase ≠ .decay && !v.judged && v.start + smp.length * 1000 ≤ m.now then
    let flux := fluxRun (m.rhoNow c) 0 (smp.map (fun s => (m.coilNv c s, m.coilMa c s.code)))
    match arrivalFrom (m.arrivalTh c) (m.rd P.vlvDetBlank) (m.rd P.vlvDetMax) 1 none flux with
    | none => m
    | some (na, lam, i) =>
      let m1 := m.setVch c (fun v => { v with judged := true })
      if !v.restarted && !v.cut.any (fun t => t < v.start + na * 1000) && (smp.take na).all (fun s => s.code < 4095) then
        m1.setVch c (fun v => { v with arr := some (na + m.calN P.vlvAirLat c, (rdiv lam (i * 1000000)).toNat) })
      else m1.inc P.vlvDetNone
  else m

/-! ### Coil temperature and bands (R225 to R228) -/

/-- The band of a temperature in 10^-9 °C, from the band before it (R227). -/
def Mod.bandOf (m : Mod) (old : Nat) (t : Int) : Nat :=
  let up := ((List.range 3).filter (fun k => m.rdI P.vlvBandT k * 100000000 ≤ t)).length
  let stay := ((List.range 3).filter (fun k => (m.rdI P.vlvBandT k - m.rd P.vlvBandHyst) * 100000000 ≤ t)).length
  if old < up then up else if stay < old then stay else old

/-- One update of a coil temperature (R225): `sq` is the sum of i[n]² of the last ms, in mA²·µs. With ρ_T in µΩ the power comes out in 10^-15 W, and its product with VLV_RTH (0.01 K/W) in 10^-17 K. -/
def Mod.coilStep (m : Mod) (c : Nat) (board : Int) (sq : Nat) : Int :=
  let tc := (m.vch c).tc
  let rise := rdiv (rhoT (m.calN P.vlvRes c) tc * (sq : Int) * (m.rd P.vlvRth : Int)) 100000000
  let goal := board * (degree / 10) + rise
  tc + rdiv (goal - tc) (m.rd P.vlvTau)

/-- The temperature in 0.1 °C. -/
def VCh.tenth (v : VCh) : Int := rdiv v.tc 100000000

/-- The temperature and band of a channel set, without the protective limit (R227). -/
def Mod.setCoil (m : Mod) (c : Nat) (tc : Int) : Mod :=
  let v := { m.vch c with tc := tc }
  m.setVch c (fun _ => { v with band := m.bandOf v.band tc })

/-- The thermal model at start (R225). -/
def Mod.coilStart (m : Mod) (board : Int) : Mod :=
  let tc := (board + (m.rd P.vlvTStartOfs : Int)) * (degree / 10)
  let m1 := m.wrI P.vlvTBoard board
  (List.range 384).foldl (fun m c => m.setCoil c tc) { m1 with vlv := { m1.vlv with tempSet := true, tempAt := m1.now + 1000000 } }

/-- The correction of T_c from a measured hold phase (R226): the samples of its last 500 µs. -/
def Mod.coilMeasured (m : Mod) (c : Nat) (smp : List CoilSmp) : Mod :=
  let k := m.rd P.vlvRcorr
  let rho20 := m.calN P.vlvRes c
  let i := sumOf (smp.map (fun s => m.coilMa c s.code))
  if k = 0 || i = 0 || rho20 = 0 || smp.length ≠ 500 then m
  else
    let rhoM := rdiv (smp.foldl (fun a s => a + m.coilNv c s) 0) i
    let tm := 20 * degree + rdiv ((rhoM - (rho20 : Int) * 1000) * 100000 * degree) (rho20 * 1000 * 393)
    let tc := (m.vch c).tc
    m.setCoil c (tc + rdiv ((tm - tc) * (k : Int)) 256)

/-! ### Views (R237) -/

/-- VLV_CH_STATE of a channel. -/
def VCh.state (v : VCh) : Nat :=
  2 ^ 31 * bit v.unusable + 2 ^ 30 * bit v.latched + 2 ^ 29 * bit v.protect + 2 ^ 28 * bit v.dMeas.isSome
    + 2 ^ 27 * bit v.dhsMeas.isSome + 2 ^ 24 * v.band + 65536 * v.fault + v.valid

/-- VLV_P_STATE of a proportional channel. -/
def PCh.state (p : PCh) : Nat :=
  128 * bit p.unusable + 64 * bit p.latched + 32 * bit p.short + 16 * bit p.open_ + 8 * bit p.overtemp + 4 * bit p.active

/-- One latched ejector channel returns to service (R230). -/
def Mod.vchClear (m : Mod) (c : Nat) : Mod :=
  if (m.vch c).latched then
    (m.setVch c (fun v => { v with latched := false, opens := 0 })).raise (vlvSrc c) 0x0413 (leBytes 2 c)
  else m

/-- VLV_CH_CLR (R230): bit 15 names every channel. -/
def vlvChClr (v : Nat) (m : Mod) : Mod :=
  let m1 := m.wr P.vlvChClr v
  if v.testBit 15 then (List.range 384).foldl Mod.vchClear m1 else m1.vchClear (field v 8 0)

/-! ### Proportional channels (R231 to R233) -/

/-- A proportional channel. -/
def Mod.pch (m : Mod) (p : Nat) : PCh := m.vlv.pv.getD p {}

/-- A proportional channel changed. -/
def Mod.setPch (m : Mod) (p : Nat) (f : PCh → PCh) : Mod := { m with vlv := { m.vlv with pv := updAt m.vlv.pv p f } }

/-- Event source of a proportional channel (R236). -/
def pvSrc (p : Nat) : Nat := 76 + p / 16

/-- A proportional channel may be switched on. -/
def PCh.free (c : PCh) : Bool := !c.unusable && !c.latched && !c.overtemp && c.retryAt.isNone

/-- A channel switches on: a channel set in TOLL_SAFETY_PV asks in class 0 (R244); no class is given to any other, which
switches on at once. -/
def Mod.pvOn (m : Mod) (p : Nat) : Mod :=
  let c := m.pch p
  if c.active || c.waiting || !c.free then m
  else if (m.rd P.tollSafetyPv).testBit p then
    (m.setPch p (fun c => { c with waiting := true })).ask (.pv p) 0 (if p % 2 = 0 then .loadA else .loadB) m.now 0
  else m.setPch p (fun c => { c with active := true })

/-- The grant of a class 0 switch-on. -/
def Mod.pvGranted (m : Mod) (p : Nat) : Mod := m.setPch p (fun c => { c with active := true, waiting := false })

/-- A channel switches off, or its request is withdrawn. -/
def Mod.pvOff (m : Mod) (p : Nat) : Mod :=
  (m.setPch p (fun c => { c with active := false, waiting := false, setNow := 0, openAt := none })).unask (.pv p)

/-- The base setpoint B of R232 in mA: VLV_P_SET, or the named loop's output. -/
def Mod.pvBase (m : Mod) (p : Nat) : Int :=
  let src := m.rd P.vlvPSrc p
  if src = 0 then (m.rd P.vlvPSet p : Int) else m.loopOut src

/-- A proportional channel's current in mA from its sense reading, with the gain of its calibration (R237). -/
def Mod.pvMa (m : Mod) (p raw : Nat) : Nat := (rdiv ((raw * m.calN P.vlvPIsense p : Nat) : Int) 65536).toNat

/-- The dither at extended raw count `t` (R232): square, or triangular from its lowest point; its phase runs on. -/
def ditherAt (amp freq shape t : Nat) : Int :=
  let per := 10 ^ 9 / freq
  let x := t % per
  if shape = 0 then (if 2 * x < per then (amp : Int) else 0 - amp)
  else
    let up := if 2 * x < per then x else per - x
    rdiv ((4 * amp * up : Nat) : Int) per - amp

/-- The current of a PWM period enters its dither period, whose mean shows once it has ended (R237). -/
def Mod.pvMean (m : Mod) (p ma : Nat) : Mod :=
  let c := m.pch p
  let k := m.now * m.rd P.vlvPDithF p / 10 ^ 9
  if c.dith = k then m.setPch p (fun c => { c with dithSum := c.dithSum + ma, dithN := c.dithN + 1 })
  else
    let m1 := if 0 < c.dithN then m.wr P.vlvPINow (Nat.min 4095 (c.dithSum / c.dithN)) p else m
    m1.setPch p (fun c => { c with dith := k, dithSum := ma, dithN := 1 })

/-- PV_PWM_PERIOD (R232, R233): a period begins, at VLV_P_FREQ, with a new base and dither; `raw` is the sense reading of the period that ends, in
mA before the sense gain, and `duty` its duty in %. -/
def pvPwmPeriod (p raw duty : Nat) (m : Mod) : Mod :=
  if p < 32 && m.running && m.rd P.vlvPEn p = 1 && (m.pch p).nextAt ≤ m.now then
    let ma := m.pvMa p raw
    let m1 := (m.pvMean p ma).pvOn p
    let b := m.pvBase p
    let f := m.rd P.vlvPDithF p
    let d := if b = 0 || f = 0 then 0 else ditherAt (m.rd P.vlvPDithA p) f (m.rd P.vlvPDithShape p) m.now
    m1.setPch p (fun c =>
      { c with base := b, setNow := if c.active then (clampI 0 3000 (b + d)).toNat else 0, nextAt := m.now + 10 ^ 9 / m.rd P.vlvPFreq p,
               openAt := if c.active && 95 ≤ duty && 200 ≤ c.setNow && 2 * ma < c.setNow then some (c.openAt.getD m.now) else none,
               faults := if c.active && 0 < b && b ≤ 2 * ma then 0 else c.faults })
  else m

/-- A fault of a proportional channel (R233): off, and a retry in 100 ms. -/
def Mod.pvFault (m : Mod) (p code ma : Nat) : Mod :=
  let n := (m.pch p).faults + 1
  let m1 := (m.pvOff p).raise (pvSrc p) code (leBytes 1 p ++ leBytes 2 ma)
  if m.rd P.vlvPRetries p ≤ n then
    (m1.setPch p (fun c => { c with faults := n, latched := true, retryAt := none })).raise (pvSrc p) 0x0422
      (leBytes 1 p ++ leBytes 2 ma)
  else m1.setPch p (fun c => { c with faults := n, retryAt := some (m.now + 100000000) })

/-- PV_OPEN_LOAD (R233): the duty has stood at 95 % or more for 10 ms. -/
def pvOpenLoad (p raw : Nat) (m : Mod) : Mod :=
  let c := m.pch p
  let ma := m.pvMa p raw
  if c.active && 200 ≤ c.setNow && 2 * ma < c.setNow && c.openAt.any (fun a => a + 10000000 ≤ m.now) then
    (m.pvFault p 0x0420 ma).setPch p (fun c => { c with open_ := true, short := false })
  else m

/-- PV_SHORT (R233). -/
def pvShort (p raw : Nat) (m : Mod) : Mod :=
  let ma := m.pvMa p raw
  if (m.pch p).active && 4500 ≤ ma then (m.pvFault p 0x0421 ma).setPch p (fun c => { c with short := true, open_ := false }) else m

/-- A retry takes place (R233). -/
def Mod.pvRetryNow (m : Mod) (p : Nat) : Mod :=
  (m.setPch p (fun c => { c with retryAt := none, short := false, open_ := false })).pvOn p

/-- PV_RETRY (R233): 100 ms after the fault; over-temperature holds it back. -/
def pvRetry (p : Nat) (m : Mod) : Mod :=
  let c := m.pch p
  match c.retryAt with
  | some d => if d ≤ m.now && !c.overtemp then m.pvRetryNow p else m
  | none => m

/-- PV_OVERTEMP (R233): the output is held off at 150 °C. -/
def pvOvertemp (p raw : Nat) (temp : Int) (m : Mod) : Mod :=
  if p < 32 && !(m.pch p).overtemp && 1500 ≤ temp then
    ((m.pvOff p).setPch p (fun c => { c with overtemp := true })).raise (pvSrc p) 0x0423 (leBytes 1 p ++ leBytes 2 (m.pvMa p raw))
  else m

/-- PV_OVERTEMP_CLEARED (R233): below 130 °C the output resumes, and a retry that is due takes place. -/
def pvOvertempCleared (p : Nat) (temp : Int) (m : Mod) : Mod :=
  let c := m.pch p
  if c.overtemp && temp < 1300 then
    let m1 := m.setPch p (fun c => { c with overtemp := false })
    match c.retryAt with
    | some d => if d ≤ m.now then m1.pvRetryNow p else m1
    | none => if m.rd P.vlvPEn p = 1 && m.running then m1.pvOn p else m1
  else m

/-- VLV_P_CLR (R233): clears a latched channel. -/
def vlvPClr (p : Nat) (m : Mod) : Mod :=
  if p < 32 then
    let m1 := m.wr P.vlvPClr 1 p
    if (m.pch p).latched then
      (m1.setPch p (fun c => { c with latched := false, faults := 0, short := false, open_ := false })).raise (pvSrc p) 0x0424
        (leBytes 1 p ++ leBytes 2 (m.rd P.vlvPINow p))
    else m1
  else m

/-! ### The commands as the queue gives them -/

/-- ARRIVAL_DETECTED (R221). -/
def execArrivalDetected (t ch : Nat) (smp : List CoilSmp) (s : State) : Host.Outcome State Fault Refusal := s.run t (arrivalDetected ch smp)

/-- PV_PWM_PERIOD (R232). -/
def execPvPwmPeriod (t p raw duty : Nat) (s : State) : Host.Outcome State Fault Refusal := s.run t (pvPwmPeriod p raw duty)

/-- PV_OPEN_LOAD (R233). -/
def execPvOpenLoad (t p raw : Nat) (s : State) : Host.Outcome State Fault Refusal := s.run t (pvOpenLoad p raw)

/-- PV_SHORT (R233). -/
def execPvShort (t p raw : Nat) (s : State) : Host.Outcome State Fault Refusal := s.run t (pvShort p raw)

/-- PV_RETRY (R233). -/
def execPvRetry (t p : Nat) (s : State) : Host.Outcome State Fault Refusal := s.run t (pvRetry p)

/-- PV_OVERTEMP (R233). -/
def execPvOvertemp (t p raw : Nat) (temp : Int) (s : State) : Host.Outcome State Fault Refusal := s.run t (pvOvertemp p raw temp)

/-- PV_OVERTEMP_CLEARED (R233). -/
def execPvOvertempCleared (t p : Nat) (temp : Int) (s : State) : Host.Outcome State Fault Refusal := s.run t (pvOvertempCleared p temp)

end Sys2Proof.Machine
end

