-- ==== Sys2Proof/Machine/Plan.lean ====
section
/-!
DEFINITION. Machine/Plan.lean: pulse plans (R185 to R192): nozzle coverage, the air window, slack, opening delays, the
commit point.
-/
namespace Sys2Proof.Machine

/-- The tick nearest to an instant, ties to the later one (R194). -/
def tickOf (t : Nat) : Nat := (t + 500) / 1000 * 1000

/-- Edges of the cells and of an extent in nm: origin, pitch, left and right (R185, R186). -/
structure Extent where
  org : Int
  pitch : Nat
  left : Int
  right : Int
deriving DecidableEq, Repr

/-- The piece's extent at the crossing (R186): columns, the displacement in µm, the latched values. -/
def extentOf (vals : Store) (colFirst colLast : Nat) (dx : Int) : Extent :=
  let margin : Int := lrd vals P.ejMarginX
  { org := lrdI vals P.ejOrigin * 1000, pitch := lrd vals P.ejPitch,
    left := (250 * (colFirst : Int) + dx - margin) * 1000, right := (250 * ((colLast : Int) + 1) + dx + margin) * 1000 }

/-- Length in nm that a channel's cell shares with the extent; not positive where they do not overlap (R186). -/
def Extent.share (e : Extent) (c : Int) : Int :=
  min (e.org + (c + 1) * e.pitch) e.right - max (e.org + c * e.pitch) e.left

/-- The channel whose cell contains the middle of the extent (R186). -/
def Extent.centre (e : Extent) : Int := (e.left + e.right - 2 * e.org).fdiv (2 * (e.pitch : Int))

/-- First and last selected channel (R186). -/
def Extent.select (e : Extent) (minOverlap : Nat) : Int × Int :=
  let lo := (e.left - e.org).fdiv (e.pitch : Int)
  let hi := (e.right - e.org).fdiv (e.pitch : Int)
  let all := (List.range (hi - lo + 1).toNat).map (fun (k : Nat) => lo + (k : Int))
  let sel := all.filter (fun c => 0 < e.share c && ((minOverlap * 1000 : Nat) : Int) ≤ e.share c)
  match sel with
  | [] => (e.centre, e.centre)
  | c :: r => (c, r.getLastD c)

/-- The run cut to EJ_MAX_NOZZLES (R187). -/
def clipRun (a b : Int) (mx : Nat) : Int × Int :=
  let n := (b - a + 1).toNat
  if n ≤ mx then (a, b)
  else
    let a1 := a + (((n - mx) / 2 : Nat) : Int)
    (a1, a1 + mx - 1)

/-- The observation that gives τ (R188): at the lowest height, of greatest LINES × P, the lower port at equal values. -/
def tauObs (ht per : Nat → Nat) : List Obs → Option Obs
  | [] => none
  | o :: r => some (r.foldl (fun b q =>
      let hb := ht b.port
      let hq := ht q.port
      let lb := b.lines * per b.port
      let lq := q.lines * per q.port
      if hq < hb || (hq = hb && (lb < lq || (lb = lq && q.port < b.port))) then q else b) o)

/-- Half of the passage time τ in ns (R188). -/
def halfTau (l : Lane) (hr pct : Nat) (ht per : Nat → Nat) (obs : List Obs) : Nat :=
  match tauObs ht per obs with
  | none => 0
  | some o =>
    let s0 := l.speedAt hr 0
    (rdiv ((pct * (o.lines * per o.port) * l.speedAt hr (ht o.port) : Nat) : Int) (200 * s0)).toNat

/-- A piece's plan (R186 to R192): from its latched values and calibration, its observations and columns, the triple of its
LANE, T_A and T_CROSS; `cold` for the cold margin, `dflt` and `revised` for the plan's flags; `kept` the delays copied at an earlier admission, as
channel, d_c and d_hs,c, which stand for those in force (R191). -/
def Mod.makePlan (m : Mod) (kept : List (Nat × Nat × Nat)) (vals : Store) (ht : Nat → Nat) (obs : List Obs) (colFirst colLast : Nat) (l : Lane) (ta tCross : Nat)
    (cold dflt revised : Bool) : Plan :=
  let dx := rdiv (l.w * ((tCross : Int) - ta)) (10 ^ 9)
  let e := extentOf vals colFirst colLast dx
  let run := e.select (lrd vals P.ejMinOverlap)
  let n := (run.2 - run.1 + 1).toNat
  let cut := clipRun run.1 run.2 (lrd vals P.ejMaxNozzles)
  let top : Int := (lrd vals P.ejChannels : Int) - 1
  let first := max cut.1 0
  let last := min cut.2 top
  let count := (last - first + 1).toNat
  let chans := (List.range count).map (fun i => first.toNat + i)
  let dO := chans.map (fun c => ((assocGet kept c).map (·.1)).getD (m.dOpen c))
  let dH := chans.map (fun c => ((assocGet kept c).map (·.2)).getD (m.dHs c))
  let mg : Nat := if cold || dflt then lrd vals P.ejColdMargin else 0
  let half := halfTau l (m.rd P.fusHRef) (lrd vals P.ejPassPct) ht (fun p => m.rd P.camLinePeriod p) obs
  let c := (tCross : Int) + lrdI vals P.ejAirOffset * 1000
  let fire := (c - (half : Int) - ((lrd vals P.ejAirPre + mg) * 1000 : Nat)).toNat
  { fire := fire, end_ := (c + (half : Int) + ((lrd vals P.ejAirPost + mg) * 1000 : Nat)).toNat,
    slack := lrd vals P.ejAirPre + mg - lrd vals P.ejCoreHalf,
    firstCh := (min first top).toNat, count := count, dflt := dflt, revised := revised, clipped := lrd vals P.ejMaxNozzles < n,
    cold := cold || dflt, selected := n, dOpen := dO, dHs := dH, commit := fire - maxOf 0 dO * 1000 - 200000 }

/-- The delays that a plan's job has copied (R191): channel, d_c, d_hs,c. -/
def Plan.delays (p : Plan) : List (Nat × Nat × Nat) :=
  (List.range p.count).map (fun i => (p.firstCh + i, p.dOpen.getD i 0, p.dHs.getD i 0))

/-- FLAGS of a plan (R190). -/
def Plan.flags (p : Plan) : Nat := 8 * bit p.dflt + 4 * bit p.revised + 2 * bit p.clipped + bit p.cold

/-- The plan's 12 bytes in the result line (R190). -/
def Plan.bytes (p : Plan) : List Byte :=
  leBytes 4 p.fire ++ leBytes 2 ((p.end_ - p.fire) / 1000) ++ leBytes 2 p.slack ++ leBytes 2 p.firstCh ++ leBytes 1 p.count
    ++ leBytes 1 p.flags

/-- The plan record that PLAN_REF points to (R205). -/
def Plan.record (p : Plan) (serial : Nat) : List Byte :=
  let eight := fun (l : List Nat) => (List.range 8).flatMap (fun i => leBytes 2 (l.getD i 0))
  leBytes 4 serial ++ leBytes 4 p.fire ++ leBytes 4 p.end_ ++ leBytes 4 p.commit ++ leBytes 2 p.slack ++ leBytes 2 p.firstCh
    ++ leBytes 1 p.count ++ leBytes 1 p.flags ++ leBytes 2 0 ++ eight p.dOpen ++ eight p.dHs ++ leBytes 1 p.mode
    ++ leBytes 1 p.fired ++ leBytes 1 p.missed ++ leBytes 1 p.cause ++ leBytes 2 (Nat.min 65535 p.shiftMax) ++ leBytes 2 0

/-- Every pulse of the plan has fired (R179). -/
def Plan.allFired (p : Plan) : Bool := 0 < p.count && p.fired % 2 ^ p.count = 2 ^ p.count - 1

end Sys2Proof.Machine
end

