-- ==== Sys2Proof/Machine/Eject.lean ====
section
/-!
DEFINITION. Machine/Eject.lean: the firing engine (R193 to R207) and the ejector channels' pulses (R212 to R218, R225 to
R230).
-/
namespace Sys2Proof.Machine

/-! ### Tracks and their plans -/

/-- A live track. -/
def Mod.track? (m : Mod) (serial : Nat) : Option Track := m.trk.live.find? (fun t => t.serial = serial)

/-- A live track changed. -/
def Mod.setTrack (m : Mod) (serial : Nat) (f : Track → Track) : Mod :=
  { m with trk := { m.trk with live := m.trk.live.map (fun t => if t.serial = serial then f t else t) } }

/-- The entry of a piece, live or closed (R160). -/
def Mod.entry? (m : Mod) (serial : Nat) : Option Track := (m.trk.live ++ m.trk.done).find? (fun t => t.serial = serial)

/-- An entry changed, live or closed: the pulses of a closed piece go on being recorded (R203, R205). -/
def Mod.setEntry (m : Mod) (serial : Nat) (f : Track → Track) : Mod :=
  let g := fun (t : Track) => if t.serial = serial then f t else t
  { m with trk := { m.trk with live := m.trk.live.map g, done := m.trk.done.map g } }

/-- The plan of a piece changed. -/
def Mod.setPlan (m : Mod) (serial : Nat) (f : Plan → Plan) : Mod := m.setEntry serial (fun t => { t with plan := t.plan.map f })

/-! ### Pulses -/

/-- The pulse of a piece on a channel. -/
def Mod.pulse? (m : Mod) (serial ch : Nat) : Option EPulse := m.ej.pulses.find? (fun p => p.serial = serial && p.ch = ch)

/-- A pulse changed. -/
def Mod.setPulse (m : Mod) (id : Nat) (f : EPulse → EPulse) : Mod :=
  { m with ej := { m.ej with pulses := m.ej.pulses.map (fun p => if p.id = id then f p else p) } }

/-- A pulse removed from the schedule. -/
def Mod.dropPulse (m : Mod) (id : Nat) : Mod := { m with ej := { m.ej with pulses := m.ej.pulses.filter (fun p => p.id ≠ id) } }

/-- EJ_Q_NOW: a merged pulse has freed its entry (R193, R201). -/
def Mod.ejQNow (m : Mod) : Nat := (m.ej.pulses.filter (fun p => p.into.isNone)).length

/-- Pulses merged into a pulse (R201). -/
def Mod.followers (m : Mod) (id : Nat) : List EPulse := m.ej.pulses.filter (fun p => p.into = some id)

/-- H_c (R197). -/
def EPulse.hsAt (p : EPulse) : Nat := Nat.max (p.k + 2000) (p.fire - p.dHs)

/-- The tick at which a pulse starts unless it waits (R194, R197). -/
def EPulse.own (p : EPulse) : Nat := if p.hs then tickOf p.hsAt else tickOf p.s

/-- A pulse's shift as far as it is known (R200): once started, its own; once firm, what its planned start and its wait have moved it by. -/
def Mod.shiftOf (m : Mod) (p : EPulse) : Nat :=
  if p.started.isSome then p.shift
  else if p.firm then Nat.max p.planned (if p.planned ≤ m.now then (m.now + 999) / 1000 * 1000 else 0) - p.own
  else 0

/-- A pulse's release, with its shift (R200), and the later one of the pulses merged into it (R201): those move with what the pulse waits after
the merge. -/
def Mod.releaseOf (m : Mod) (p : EPulse) : Nat :=
  maxOf (p.off + m.shiftOf p) ((m.followers p.id).map (fun q => q.off + (m.shiftOf p - q.late0)))

/-- A channel can take no pulse (R203): the cause, 5 or 6. -/
def Mod.refusalOf (m : Mod) (c : Nat) : Option Nat :=
  let v := m.vch c
  if m.rd P.ejChannels ≤ c || v.unusable || v.latched || !(m.vlv.bankOk.getD (bankOf c) false) then some 5
  else if v.protect then some 6
  else none

/-- A reservation leaves the toll model (R249, R250). -/
def Mod.freeReserve (m : Mod) (id : Nat) : Mod := { m with toll := { m.toll with res := m.toll.res.filter (fun r => r.id ≠ id) } }

/-- A pulse's request is withdrawn, or its grant is returned (R196, R200). -/
def Mod.returnGrant (m : Mod) (p : EPulse) : Mod :=
  let m1 := match p.grant with
    | .none => m
    | .asked => (m.unask (.pulse p.id p.ch)).inc P.tollExpired1
    | .held => m.freeReserve p.id
  m1.setPulse p.id (fun p => { p with grant := .none })

/-- A pulse enters the records as missed (R203, R205). -/
def Mod.noteMiss (m : Mod) (serial ch : Nat) (bit_ : Option Nat) (cause : Nat) : Mod :=
  let m1 := ((m.inc P.ejMiss (cause - 1)).flag P.ejFlags 2)
  let m2 := if ch < 384 then m1.inc P.ejChMissed ch else m1
  let said : Bool := match m.entry? serial with
    | some t => t.missNoted
    | none => m.ej.noted.contains serial
  let m3 := (if (m.entry? serial).isSome || said then m2 else { m2 with ej := { m2.ej with noted := m2.ej.noted ++ [serial] } }).setEntry serial (fun t => { t with missNoted := true, plan := t.plan.map (fun p =>
    { p with missed := p.missed ||| (match bit_ with
        | some i => 2 ^ i
        | none => 0), cause := if p.cause = 0 then cause else p.cause }) })
  if said then m3 else m3.raise 64 0x0401 (leBytes 4 serial ++ leBytes 2 ch ++ leBytes 1 cause)

/-- Wait in µs beyond the planned start, into its bank's peak (R207): a pulse that has no grant waits for energy, not in its bank. -/
def Mod.noteWait (m : Mod) (p : EPulse) : Mod :=
  if p.firm && p.planned < m.now && (p.hs || p.grant = .held) then m.peak P.ejBankWaitMax ((m.now - p.planned) / 1000) (bankOf p.ch) else m

/-- The pulses merged into a pulse that has left the schedule stand on their own, and hold entries of the queue again (R201, R207). -/
def Mod.unmerge (m : Mod) (id : Nat) : Mod :=
  let m1 := { m with ej := { m.ej with pulses := m.ej.pulses.map (fun (q : EPulse) => if q.into = some id then { q with into := none, ins := m.now } else q) } }
  m1.peak P.ejQPeak m1.ejQNow

/-- A pulse is missed before it starts (R203): its wait ends (R207), its grant returns, and the pulses merged into it stand on their own
(R201). -/
def Mod.missPulse (m : Mod) (p : EPulse) (cause : Nat) : Mod :=
  ((((m.noteWait p).returnGrant p).dropPulse p.id).noteMiss p.serial p.ch (some p.bit) cause).unmerge p.id

/-- A pulse that runs is fired (R203), with its lateness. -/
def Mod.noteFired (m : Mod) (p : EPulse) (late moved : Nat) : Mod :=
  ((m.dropPulse p.id).setPlan p.serial (fun q => { q with fired := q.fired ||| 2 ^ p.bit, shiftMax := Nat.max q.shiftMax (late / 1000),
                                                          moved := Nat.max q.moved moved })).peak P.ejShiftMax (late / 1000)

/-- A pulse's lateness at its start (R197, R200). -/
def EPulse.lateness (p : EPulse) : Nat :=
  match p.started with
  | none => 0
  | some t => if p.hs then t - (p.fire + p.lam - p.dHs) + p.lam else t - p.s

/-- A running pulse and those merged into it are fired (R201): each with how far its own release has moved. -/
def Mod.firePulse (m : Mod) (p : EPulse) : Mod :=
  let r := m.releaseOf p
  (m.followers p.id).foldl (fun a q => a.noteFired q (p.shift - q.late0) (r - q.off)) (m.noteFired p p.lateness (r - p.off))

/-- The pulse that runs on a channel. -/
def Mod.runningOn (m : Mod) (c : Nat) : Option EPulse :=
  m.ej.pulses.find? (fun p => p.ch = c && p.started.isSome && p.into.isNone)

/-- Pulses of a channel not yet started; one merged into a pulse that runs has started with it (R201). -/
def Mod.waitingOn (m : Mod) (c : Nat) : List EPulse :=
  m.ej.pulses.filter (fun p => p.ch = c && p.started.isNone
    && !(m.ej.pulses.any (fun h => p.into = some h.id && h.started.isSome)))

/-! ### Channels and banks (R198, R199, R210, R213) -/

/-- Energised channels of a bank other than one channel. -/
def Mod.bankEnergised (m : Mod) (b c : Nat) : Nat := ((bankChannels b).filter (fun x => x ≠ c && (m.vch x).energised)).length

/-- Energised channels of the module other than one channel. -/
def Mod.allEnergised (m : Mod) (c : Nat) : Nat := ((List.range 384).filter (fun x => x ≠ c && (m.vch x).energised)).length

/-- A channel of the bank is in its boost phase: none starts a boost then, nor restarts in its own (R198, R217). -/
def Mod.bankBoosts (m : Mod) (b : Nat) : Bool := (bankChannels b).any (fun x => (m.vch x).phase = .boost)

/-- The bank stage goes to HI or leaves it; hold phases of the bank see HI, and rises take the on-fraction `duty` (R210, R216, R226). -/
def Mod.setHi (m : Mod) (b : Nat) (hi : Bool) (duty : Nat × Nat) : Mod :=
  let m1 := { m with vlv := { m.vlv with bankHi := m.vlv.bankHi.set b hi } }
  (bankChannels b).foldl (fun m x => m.setVch x (fun v =>
    { v with hiSeen := v.hiSeen || hi, duty := if v.phase = .hsRise then duty else v.duty })) m1

/-- A boost phase ends (R213): the stage leaves HI and the reservation leaves the toll model (R250). -/
def Mod.boostOver (m : Mod) (c : Nat) : Mod :=
  let id : Nat := (m.runningOn c).elim 0 (·.id)
  (m.setHi (bankOf c) false (1, 1)).freeReserve id

/-- A pulse's profile ends without a valid arrival sample (R221): none was found, or a restart takes it away (R217). -/
def Mod.closeSample (m : Mod) (c : Nat) : Mod :=
  if (m.vch c).phase ≠ .idle && (!(m.vch c).judged || (m.vch c).arr.isSome) then
    (m.inc P.vlvDetNone).setVch c (fun v => { v with judged := true, arr := none })
  else m

/-- A running channel is cut (R204): its pulse and those merged into it are missed with cause FAULT. -/
def Mod.cutChannel (m : Mod) (c : Nat) : Mod :=
  let v := m.vch c
  if v.phase = .idle && !v.energised then m
  else
    let m1 := if v.phase = .boost then m.boostOver c else m
    let m2 : Mod := match m1.runningOn c with
      | some p =>
        (p :: m1.followers p.id).foldl (fun (a : Mod) (q : EPulse) =>
          ((a.returnGrant q).dropPulse q.id).noteMiss q.serial q.ch (some q.bit) 8) m1
      | none => m1
    let end_ : VPhase := if v.phase = .idle then .idle else .decay
    (m2.enterArrival c).setVch c (fun v =>
      { v.released m.now with
        cut := some (v.cut.getD m.now), energised := false, opened := true, holdMa := 0, phase := end_ })

/-- Every pulse of a channel not yet started is missed (R203). -/
def Mod.refuseWaiting (m : Mod) (c cause : Nat) : Mod := (m.waitingOn c).foldl (fun m p => m.missPulse p cause) m

/-- A channel latches (R229). -/
def Mod.latchChannel (m : Mod) (c fault : Nat) : Mod :=
  ((m.setVch c (fun v => { v with latched := true })).raise (vlvSrc c) 0x0412 (leBytes 2 c ++ leBytes 1 fault)).refuseWaiting c 5

/-- A fault counted, and kept as the channel's last (R229). -/
def Mod.chanFault (m : Mod) (c fault : Nat) : Mod :=
  ((m.inc P.vlvFaults).flag P.vlvFlags 16).setVch c (fun v => { v with fault := fault })

/-! ### Insertion (R193, R195, R201) -/

/-- The pulse that a new pulse of a channel would merge with (R201): earlier, not yet released, and near enough. -/
def Mod.mergeHost (m : Mod) (p : EPulse) (gap : Nat) : Option EPulse :=
  let startOf := fun (h : EPulse) => h.started.getD (h.own + m.shiftOf h)
  m.ej.pulses.reverse.find? (fun h => h.ch = p.ch && h.into.isNone && startOf h ≤ tickOf p.s && tickOf p.s ≤ m.releaseOf h + gap * 1000
    && Nat.max (m.releaseOf h) p.off - startOf h ≤ m.rd P.ejPulseMax * 1000)

/-- The hold current of a channel's pulse in mA (R214, R227, R228). -/
def Mod.holdSet (m : Mod) (v : VCh) : Nat := if v.minHold then m.rd P.vlvIHoldMin else m.rd P.vlvIHold v.pband

/-- The driver's release follows the schedule's (R201, R214): a low side that had opened closes again when its release moves on, and a hold
phase of its own begins (R226). -/
def Mod.syncRelease (m : Mod) (h : EPulse) : Mod :=
  if h.started.isSome then
    let r := m.releaseOf h
    let r1 := if r ≤ m.now then (m.now / 1000 + 1) * 1000 else r
    m.setVch h.ch (fun v =>
      if v.opened && v.energised && m.now + m.rd P.vlvAdv v.pband * 1000 < r1 then
        { v with off := r1, opened := false, phase := .hold, holdMa := m.holdSet v, holdAt := m.now,
                 hiSeen := m.vlv.bankHi.getD (bankOf h.ch) false }
      else { v with off := r1 })
  else m

/-- One pulse of a plan inserted (R193, R201, R203). -/
def Mod.insertPulse (m : Mod) (serial : Nat) (plan : Plan) (vals : Store) (i : Nat) : Mod :=
  let ch := plan.firstCh + i
  match m.refusalOf ch with
  | some cause => m.noteMiss serial ch (some i) cause
  | none =>
    if 4096 ≤ m.ejQNow then
      ((m.flag P.ejFlags 8).raise 65 0x0402 (leBytes 4 serial ++ leBytes 2 ch)).noteMiss serial ch (some i) 4
    else
      let s := plan.fire - plan.dOpen.getD i 0 * 1000
      let p : EPulse :=
        { id := m.ej.nextId, serial := serial, bit := i, ch := ch, s := s, off := tickOf (plan.end_ - m.calN P.vlvDoff ch * 1000),
          fire := plan.fire, dHs := plan.dHs.getD i 0 * 1000, slack := plan.slack * 1000, commit := plan.commit, ins := m.now,
          hsEn := lrd vals P.ejHoldStartEn = 1 }
      let host := m.mergeHost p (lrd vals P.ejMergeGap)
      let into : Option Nat := host.map (fun h => h.id)
      let late0 : Nat := host.elim 0 m.shiftOf
      let m1 := { m with ej := { m.ej with nextId := m.ej.nextId + 1, pulses := m.ej.pulses ++ [{ p with into := into, late0 := late0 }] } }
      match host with
      | some h => (m1.inc P.ejMerges).syncRelease h
      | none => m1.peak P.ejQPeak m1.ejQNow

/-- The plan that a piece has been given is clipped (R187): the event, whatever the verdict. -/
def Mod.noteClip (m : Mod) (serial : Nat) (plan : Plan) : Mod :=
  if plan.clipped then (m.inc P.ejClipped).raise 67 0x0406 (leBytes 4 serial ++ leBytes 2 plan.selected) else m

/-- PULSE_INSERT (R193): a REJECT verdict's plan takes effect. -/
def Mod.insertPlan (m : Mod) (serial : Nat) : Mod :=
  match m.track? serial with
  | none => m
  | some t =>
    match t.plan with
    | none => m
    | some plan =>
      if plan.count = 0 then m.noteMiss serial plan.firstCh none 5
      else (List.range plan.count).foldl (fun m i => m.insertPulse serial plan t.vals i) m

/-- One pulse of a replaced plan withdrawn (R195). -/
def Mod.withdrawPulse (m : Mod) (p : EPulse) : Mod :=
  let m1 := ((m.returnGrant p).dropPulse p.id).inc P.ejWithdrawn
  let m2 := m1.unmerge p.id
  match p.into with
  | some h =>
    match m2.ej.pulses.find? (fun q => q.id = h) with
    | some hp => m2.syncRelease hp
    | none => m2
  | none => m2

/-- A plan withdrawn or replaced by a revision (R195). -/
def Mod.withdrawPlan (m : Mod) (serial : Nat) : Mod :=
  ((m.ej.pulses.filter (fun p => p.serial = serial)).foldl Mod.withdrawPulse m).raise 67 0x0405 (leBytes 4 serial)

/-! ### Firm, hold-start, start, latest start (R196 to R202) -/

/-- The instant a pulse becomes firm (R196). -/
def EPulse.firmAt (p : EPulse) : Nat := Nat.max p.commit p.ins

/-- PULSE_FIRM (R196, R197). -/
def pulseFirm (serial ch : Nat) (m : Mod) : Mod :=
  match m.pulse? serial ch with
  | none => m
  | some p =>
    if p.firm || p.into.isSome || m.now < p.firmAt then m
    else
      let k := p.firmAt
      if p.s + p.slack < k + 2000 then m.missPulse p 7
      else
        (m.setPulse p.id (fun p => { p with firm := true, k := k, grant := .asked, planned := tickOf (Nat.max p.s (k + 2000)) })).ask
          (.pulse p.id p.ch) 1 .vhi (p.s + p.slack) (m.rd P.tollQBoost)

/-- A class 1 grant (R196, R197, R250): after the hold-start instant the boost starts at the grant. -/
def Mod.pulseGranted (m : Mod) (id ch amount : Nat) : Mod :=
  let r : Reserve := { id := id, ch := ch, left := amount }
  let m1 := { m with toll := { m.toll with res := m.toll.res ++ [r] } }
  let tick := (m.now + 999) / 1000 * 1000
  m1.setPulse id (fun p =>
    let planned := if p.judged then Nat.max p.planned tick else p.planned
    { p with grant := .held, planned := planned })

/-- Hold-starts are allowed: EJ_HOLD_START_EN as latched, and VALVE_LO in range (R239). -/
def Mod.hsAllowed (m : Mod) (p : EPulse) : Bool := p.hsEn && !m.toll.vloOut && !m.toll.vloAbsent

/-- An earlier pulse of the channel is to run into this one, which is then a restart (R202). -/
def Mod.overlapped (m : Mod) (p : EPulse) : Bool :=
  m.ej.pulses.any (fun h => h.ch = p.ch && h.id ≠ p.id && h.into.isNone && (h.started.isSome || h.s < p.s) && tickOf p.s ≤ m.releaseOf h)

/-- HOLD_START_INSTANT (R194, R197): at H_c, or at its tick where that comes before. -/
def holdStartInstant (serial ch : Nat) (m : Mod) : Mod :=
  match m.pulse? serial ch with
  | none => m
  | some p =>
    if !p.firm || p.judged || p.into.isSome || p.started.isSome || m.now < Nat.min p.hsAt (tickOf p.hsAt) then m
    else
      let h := p.hsAt
      let lam := h + p.dHs - p.fire
      let m1 := m.setPulse p.id (fun p => { p with judged := true })
      if p.grant = .held || m.overlapped p || !m.hsAllowed p || p.slack < lam then m1
      else
        ((((m1.returnGrant p).setPulse p.id (fun p => { p with hs := true, lam := lam, planned := tickOf h })).setPlan serial (fun q =>
          { q with mode := q.mode ||| 2 ^ p.bit })).flag P.ejFlags 4).raise 66 0x0403 (leBytes 4 serial ++ leBytes 2 ch ++ leBytes 2 (lam / 1000))

/-- A pulse's latest start (R196, R200): for a hold-start what λ leaves of the slack. -/
def EPulse.latest (p : EPulse) : Nat := if p.hs then p.hsAt + p.slack - p.lam else p.s + p.slack

/-- A pulse may start by its own rules: firm, its mode settled, its instant come. -/
def Mod.ready (m : Mod) (p : EPulse) : Bool :=
  p.firm && p.into.isNone && p.started.isNone && (p.hs || p.grant = .held) && p.planned ≤ m.now && m.now ≤ Nat.max p.latest (tickOf p.latest)

/-- An energised count stands against a pulse (R199). -/
def Mod.countStands (m : Mod) (p : EPulse) : Bool := 4 ≤ m.bankEnergised (bankOf p.ch) p.ch || 96 ≤ m.allEnergised p.ch

/-- The bank's high side stands against a pulse (R198). -/
def Mod.boostStands (m : Mod) (p : EPulse) : Bool := !p.hs && m.bankBoosts (bankOf p.ch)

/-- The obstacle that stands against a pulse (R198 to R200): 0 none, 1 the bank's high side, 2 an energised count. -/
def Mod.obstacle (m : Mod) (p : EPulse) : Nat := if m.countStands p then 2 else if m.boostStands p then 1 else 0

/-- What a change of the channels clears for the pulses that wait (R200): each keeps the obstacle that cleared last. -/
def Mod.noteClear (m : Mod) (f : Mod → Mod) : Mod :=
  let a := f m
  { a with ej := { a.ej with pulses := a.ej.pulses.map (fun p =>
      if p.firm && p.into.isNone && p.started.isNone && (p.hs || p.grant = .held) && p.planned ≤ a.now then
        if m.countStands p && !a.countStands p then { p with obst := 2 }
        else if m.boostStands p && !a.boostStands p then { p with obst := 1 }
        else p
      else p) } }

/-- Pulses of earlier key that may start now (R200). -/
def Mod.aheadOf (m : Mod) (p : EPulse) : List EPulse :=
  m.ej.pulses.filter (fun q => q.id ≠ p.id && m.ready q && m.obstacle q = 0
    && (q.s + q.slack < p.s + p.slack || (q.s + q.slack = p.s + p.slack && q.ch < p.ch)))

/-- A pulse must let pulses of earlier key start first. -/
def Mod.mustYield (m : Mod) (p : EPulse) : Bool :=
  let a := m.aheadOf p
  let bank := a.filter (fun q => bankOf q.ch = bankOf p.ch)
  (!p.hs && bank.any (fun q => !q.hs)) || 4 ≤ m.bankEnergised (bankOf p.ch) p.ch + bank.length || 96 ≤ m.allEnergised p.ch + a.length

/-- A hold phase ends (R226): one of at least 1 ms, whose stage was never HI, corrects the coil's temperature from the samples `last` of its last
500 µs. -/
def Mod.holdEnds (m : Mod) (c : Nat) (last : List CoilSmp) : Mod :=
  let v := m.vch c
  if v.phase = .hold && !v.hiSeen && v.holdAt + 1000000 ≤ m.now then m.coilMeasured c last else m

/-- The driver begins a pulse's profile (R212, R217, R227); `rail` are VALVE_LO and VALVE_HI in mV as measured at its bank (R216). -/
def Mod.driveStart (m : Mod) (p : EPulse) (rail : Nat × Nat) : Mod :=
  let again := (m.vch p.ch).energised
  let m1 := ((m.closeSample p.ch).settleDelays p.ch).setVch p.ch (fun v =>
    { v.released m.now with
             phase := if p.hs then .hsRise else .boost, pband := v.band, start := m.now, off := m.releaseOf p, ids := [p.id], hs := p.hs,
             restarted := again, cut := none, judged := false, arr := none, minHold := false, holdMa := 0, chopNs := 0, chopKey := 0,
             duty := if p.hs && m.vlv.bankHi.getD (bankOf p.ch) false then rail else (1, 1),
             hiSeen := false, holdAt := 0, opened := false, energised := true })
  let m2 := if p.hs then m1 else (m1.setHi (bankOf p.ch) true rail).inc P.vlvBoosts
  (m2.inc P.vlvPulses).inc P.vlvChPulses p.ch

/-- A pulse starts (R197, R200, R202, R207); on a restart `last` are the last 500 µs of the hold phase that ends (R226). -/
def Mod.startPulse (m : Mod) (p : EPulse) (rail : Nat × Nat) (last : List CoilSmp) : Mod :=
  let m0 := m.noteWait p
  let m1 := match m0.runningOn p.ch with
    | some old => (((m0.firePulse old).inc P.ejRestarts).raise 66 0x0404 (leBytes 2 p.ch)).holdEnds p.ch last
    | none => m0
  let shift := m1.now - p.own
  let p1 := { p with started := some m1.now, shift := shift }
  let m2 := ((m1.setPulse p.id (fun _ => p1)).driveStart p1 rail).setPlan p.serial (fun q =>
    { q with shiftMax := Nat.max q.shiftMax (p1.lateness / 1000) })
  let m3 := (m2.inc P.ejPulses).inc P.ejHoldStarts 0 (bit p.hs)
  let m4 := m3.peak P.ejEnergisedPeak (m3.allEnergised 384)
  if shift ≠ 0 then (m4.inc P.ejShifted).flag P.ejFlags 1 else m4

/-- A restart without a grant at its planned start (R202): the channel goes on in hold to the later release, also that of the pulses merged
into the later one (R201). -/
def Mod.continueHold (m : Mod) (p h : EPulse) : Mod :=
  let m1 := (m.returnGrant p).setPulse p.id (fun p => { p with into := some h.id, late0 := h.shift, firm := false })
  ({ m1 with ej := { m1.ej with pulses := m1.ej.pulses.map (fun (q : EPulse) =>
      if q.into = some p.id then { q with into := some h.id, late0 := h.shift } else q) } }).syncRelease h

/-- PULSE_START (R194, R197 to R202, R216, R218, R226), on a tick: `refused` when the bank's hardware interlock refuses the start; `rail` the
bank's VALVE_LO and VALVE_HI in mV; `last` the channel's samples of the last 500 µs, in which a restart finds it. -/
def pulseStart (serial ch : Nat) (refused : Bool) (rail : Nat × Nat) (last : List CoilSmp) (m : Mod) : Mod :=
  match m.pulse? serial ch with
  | none => m
  | some p =>
    if m.ej.stopped || !p.firm || p.into.isSome || p.started.isSome || m.now < p.planned || m.now % 1000 ≠ 0 then m
    else
      match m.runningOn ch, decide (p.hs || p.grant = .held) with
      | some h, false => m.continueHold p h
      | _, _ =>
        if !m.ready p then m
        else
          if m.obstacle p ≠ 0 || m.mustYield p then m
          else if refused then
            ((m.missPulse p 8).chanFault ch 6).raise 75 0x041B (leBytes 1 (bankOf ch) ++ leBytes 2 ch)
          else m.startPulse p rail last

/-- The cause of a pulse that its latest start has passed (R197, R200): the obstacle that stands, else the one that cleared last. Where none has
stood, the command for its start came late: a boost names its high side, a hold-start the count (DESIGN CHOICE, log 110). -/
def Mod.lateCause (m : Mod) (p : EPulse) : Nat :=
  if !p.hs && p.grant ≠ .held then 3
  else
    match m.obstacle p, p.obst with
    | 2, _ => 2
    | 1, _ => 1
    | _, 2 => 2
    | _, 1 => 1
    | _, _ => if p.hs then 2 else 1

/-- PULSE_LATEST_START (R197, R200): a pulse that may start now does so. -/
def pulseLatestStart (serial ch : Nat) (m : Mod) : Mod :=
  match m.pulse? serial ch with
  | none => m
  | some p =>
    if !p.firm || p.into.isSome || p.started.isSome || m.now < p.latest || (m.ready p && m.obstacle p = 0 && !m.mustYield p) then m
    else m.missPulse p (m.lateCause p)

/-- A channel is released (R199, R203, R214). -/
def Mod.releaseNow (m : Mod) (ch : Nat) : Mod :=
    let v := m.vch ch
    let m1 := if v.phase = .boost then m.boostOver ch else m
    let m2 := match m1.runningOn ch with
      | some p => m1.firePulse p
      | none => m1
    let end_ : VPhase := if v.phase = .idle then .idle else .decay
    (m2.enterArrival ch).setVch ch (fun v => { v.released m.now with energised := false, opened := true, holdMa := 0, phase := end_ })

/-- PULSE_RELEASE (R194, R199, R203, R214), on a tick. -/
def pulseRelease (ch : Nat) (m : Mod) : Mod :=
  if !(m.vch ch).energised || m.now < (m.vch ch).off || m.now % 1000 ≠ 0 then m else m.noteClear (fun m => m.releaseNow ch)

/-- LOW_SIDE_OPEN (R214, R226): at the release minus ADV; `last` holds the samples of the hold phase's last 500 µs. -/
def lowSideOpen (ch : Nat) (last : List CoilSmp) (m : Mod) : Mod :=
  let v := m.vch ch
  if !v.energised || v.opened || m.now + m.rd P.vlvAdv v.pband * 1000 < v.off then m
  else
    m.noteClear (fun m =>
      let m1 := if v.phase = .boost then m.boostOver ch else m
      ((m1.enterArrival ch).holdEnds ch last).setVch ch (fun v => { v.released m.now with opened := true, holdMa := 0, phase := .decay }))

/-- A chopping period in ns (R214): one of 64 steps from 0.90 to 1.10 of the nominal period. -/
def chopPeriod (freq k : Nat) : Nat := (rdiv ((10 ^ 9 * (5670 + 20 * k) : Nat) : Int) (6300 * freq)).toNat

/-- The length in ns of chopping period `n` of a hold phase whose free value is `key` (R214): each is drawn (log 113). -/
def chopLength (freq : Nat) (key : Int) (n : Nat) : Nat := chopPeriod freq (Config.chopStep key n % 64)

/-- The length of period `n` of the hold phase that a channel is in (R214). -/
def Mod.chopNow (m : Mod) (c n : Nat) : Nat := chopLength (m.rd P.vlvChopF) (m.vch c).chopKey n

/-- The hold phase begins (R212, R214, R226); a current that rose proves the coil whole (R229). -/
def Mod.holdBegin (m : Mod) (ch : Nat) : Mod :=
  let d := m.draw
  d.2.setVch ch (fun v =>
    { v with phase := .hold, holdAt := m.now, holdMa := m.holdSet v, chopNs := chopLength (m.rd P.vlvChopF) d.1 0, chopKey := d.1,
             hiSeen := m.vlv.bankHi.getD (bankOf ch) false, opens := 0 })

/-- BOOST_END (R212, R213, R229): the current has reached I_PEAK of the pulse's band, or its T_BOOST_MAX has elapsed. -/
def boostEnd (ch code : Nat) (m : Mod) : Mod :=
  let v := m.vch ch
  let ma := m.coilMa ch code
  if v.phase ≠ .boost then m
  else if m.rd P.vlvIPeak v.pband ≤ ma then m.noteClear (fun m => (m.boostOver ch).holdBegin ch)
  else if v.start + m.rd P.vlvTBoostMax v.pband * 1000 ≤ m.now then
    m.noteClear (fun m =>
      (((((m.boostOver ch).holdBegin ch).setVch ch (fun v => { v with cut := some (v.cut.getD m.now) })).chanFault ch 3).inc
        P.vlvBoostTimeouts).flag P.vlvFlags 4 |>.raise (vlvSrc ch) 0x0414 (leBytes 2 ch ++ leBytes 2 ma))
  else m

/-- HS_RISE_END (R212): at I_PEAK of the pulse's band, or when VLV_HS_T_MAX has elapsed. -/
def hsRiseEnd (ch code : Nat) (m : Mod) : Mod :=
  let v := m.vch ch
  if v.phase = .hsRise && (m.rd P.vlvIPeak v.pband ≤ m.coilMa ch code || v.start + m.rd P.vlvHsTMax * 1000 ≤ m.now) then m.holdBegin ch else m

/-- DECAY_END (R212, R221): the current has fallen below 20 mA. -/
def decayEnd (ch code : Nat) (m : Mod) : Mod :=
  if (m.vch ch).phase = .decay && m.coilMa ch code < 20 then ((m.closeSample ch).settleDelays ch).setVch ch (fun v => { v with phase := .idle }) else m

/-! ### Temperature and faults (R225 to R230) -/

/-- The protective limit begins on a channel (R228). -/
def Mod.protectOn (m : Mod) (c : Nat) : Mod :=
  let v := m.vch c
  let m1 := if v.phase = .boost then m.boostOver c else m
  let m2 := if v.phase = .boost || v.phase = .hsRise then m1.holdBegin c else m1
  let m3 := m2.setVch c (fun v =>
    { v with protect := true, minHold := v.phase ≠ .idle, holdMa := if v.phase = .hold then m.rd P.vlvIHoldMin else v.holdMa,
             cut := if v.phase = .idle then v.cut else some (v.cut.getD m.now) })
  ((m3.flag P.vlvFlags 8).raise 74 0x0419 (leBytes 2 c ++ leBytes 2 (toU 16 v.tenth))).refuseWaiting c 6

/-- One channel's update of its temperature, band and protective limit (R225 to R228). -/
def Mod.coilUpdate (m : Mod) (board : Int) (codes : List (Nat × List Nat)) (c : Nat) : Mod :=
  let sq := sumOf ((((assocGet codes c).getD []).take 1000).map (fun x => m.coilMa c x ^ 2))
  let m1 := m.setCoil c (m.coilStep c board sq)
  let v := m1.vch c
  let lim : Int := m.rdI P.vlvTProt * 100000000
  let hyst : Int := (m.rd P.vlvTProtHyst : Int) * 100000000
  if !v.protect && lim ≤ v.tc then m1.protectOn c
  else if v.protect && v.tc < lim - hyst then
    (m1.setVch c (fun v => { v with protect := false })).raise 74 0x041A (leBytes 2 c ++ leBytes 2 (toU 16 v.tenth))
  else m1

/-- COIL_TEMP_UPDATE (R225 to R228), 1 ms after the last: the board temperature in 0.1 °C, and for the channels that carried current their
samples over the last ms. -/
def coilTempUpdate (board : Int) (codes : List (Nat × List Nat)) (m : Mod) : Mod :=
  if !m.vlv.tempSet || m.now < m.vlv.tempAt then m
  else
    m.noteClear (fun m => (List.range 384).foldl (fun m c => m.coilUpdate board codes c)
      ({ m with vlv := { m.vlv with tempAt := m.vlv.tempAt + 1000000 } }.wrI P.vlvTBoard board))

/-- OPEN_COIL (R229): the current is below 100 mA. -/
def openCoil (ch code : Nat) (m : Mod) : Mod :=
  let v := m.vch ch
  let due : Bool := (v.phase = .boost && v.start + 50000 ≤ m.now) || (v.phase = .hsRise && v.start + 200000 ≤ m.now)
  if !due || 100 ≤ m.coilMa ch code then m
  else
    let n := v.opens + 1
    let m1 := (((m.noteClear (fun m => m.cutChannel ch)).chanFault ch 1).setVch ch (fun v => { v with opens := n })).raise (vlvSrc ch) 0x0410 (leBytes 2 ch)
    if m.rd P.vlvOpenLimit ≤ n then m1.latchChannel ch 1 else m1

/-- SHORT_OVERCURRENT (R226, R229): the current reaches VLV_I_SHORT; `last` are the channel's samples of the last 500 µs, of a hold phase that ends
so. -/
def shortOvercurrent (ch code : Nat) (last : List CoilSmp) (m : Mod) : Mod :=
  let ma := m.coilMa ch code
  if ch < 384 && (m.vch ch).phase ≠ .idle && m.rd P.vlvIShort ≤ ma then
    (((m.noteClear (fun m => (m.holdEnds ch last).cutChannel ch)).chanFault ch 2).raise (vlvSrc ch) 0x0411 (leBytes 2 ch ++ leBytes 2 ma)).latchChannel ch 2
  else m

/-- A bank is lost (R226, R229, R230): its stage OFF, its pulses in flight cut, those that wait missed; `lasts` are the samples of the last 500 µs
of the channels whose hold phases end so. -/
def Mod.loseBank (m : Mod) (b cause fault : Nat) (lasts : List (Nat × List CoilSmp)) : Mod :=
  let m1 := m.noteClear (fun m => (bankChannels b).foldl (fun m c =>
    ((m.holdEnds c ((assocGet lasts c).getD [])).cutChannel c).setVch c (fun v => { v with fault := fault })) m)
  let m2 := { m1 with vlv := { m1.vlv with bankOk := m1.vlv.bankOk.set b false, bankLost := m1.vlv.bankLost.set b true, bankHi := m1.vlv.bankHi.set b false } }
  let m3 := ((m2.inc P.vlvFaults).flag P.vlvFlags 48).raise 72 0x0415 (leBytes 1 b ++ leBytes 1 cause)
  (bankChannels b).foldl (fun m c => m.refuseWaiting c 5) m3

/-- The state of a bank's stage (R210): 2 HI, 1 LO, 0 OFF. -/
def Mod.stageOf (m : Mod) (b : Nat) : Nat :=
  if m.vlv.bankHi.getD b false then 2 else bit ((bankChannels b).any (fun c => (m.vch c).energised))

/-- A channel's low side is on without a break (R212, R216): in every other phase it is commanded off, or off for part of each period. -/
def Mod.lowSideOn (m : Mod) (c : Nat) : Bool :=
  (m.vch c).phase = .boost || ((m.vch c).phase = .hsRise && m.stageOf (bankOf c) ≠ 2)

/-- LOW_SIDE_STUCK_ON (R229): 20 samples of a low side commanded off, all at 100 mA or more, while the bank stage is not OFF. Each sample says
whether the low side is commanded on, as it is for part of each chopping period. -/
def lowSideStuckOn (ch : Nat) (smp : List CoilSmp) (lasts : List (Nat × List CoilSmp)) (m : Mod) : Mod :=
  if ch < 384 && m.vlv.bankOk.getD (bankOf ch) false && m.stageOf (bankOf ch) ≠ 0 && !m.lowSideOn ch && 20 ≤ smp.length
      && smp.all (fun x => !x.on && 100 ≤ m.coilMa ch x.code) then
    m.loseBank (bankOf ch) 1 4 lasts
  else m

/-- The voltage that a stage's state commands on BANK_COM in mV (R208, R210): none while OFF (log 114). -/
def stageMv (st : Nat) (s : BankSmp) : Nat :=
  match st with
  | 2 => s.vhi
  | 1 => s.vlo
  | _ => 0

/-- BANK_STAGE_FAULT (R229): 5 samples of a bank whose BANK_COM differs from its commanded state by more than 3 V. -/
def bankStageFault (b : Nat) (smp : List BankSmp) (lasts : List (Nat × List CoilSmp)) (m : Mod) : Mod :=
  if m.vlv.bankOk.getD b false && 5 ≤ smp.length
      && smp.all (fun s => 3000 < ((s.com : Int) - (stageMv (m.stageOf b) s : Int)).natAbs) then m.loseBank b 2 5 lasts else m

/-! ### Restart and clear (R207, R421) -/

/-- The fault instant of a controlled full restart (R421, R423): no further pulse starts, and each that has not started is missed with
cause FAULT. -/
def Mod.ejectStop (m : Mod) : Mod :=
  (((m.ej.pulses.filter (fun p => p.started.isNone && p.into.isNone)) ++ (m.ej.pulses.filter (fun p => p.started.isNone && p.into.isSome))).map
      (·.id)).foldl (fun m id =>
    match m.ej.pulses.find? (fun p => p.id = id && p.started.isNone && p.into.isNone) with
    | some p => m.missPulse p 8
    | none => m) { m with ej := { m.ej with stopped := true } }

/-- Every output of the engine off (R421): pulses that run are cut. -/
def Mod.ejectCut (m : Mod) : Mod :=
  (List.range 384).foldl (fun m c => if (m.vch c).energised then m.cutChannel c else m) m

/-- EJ_CLR (R207). -/
def ejClr (m : Mod) : Mod :=
  (List.range 24).foldl (fun m b => m.wr P.ejBankWaitMax 0 b) (((m.wr P.ejQPeak 0).wr P.ejEnergisedPeak 0).wr P.ejShiftMax 0)

/-! ### The commands as the queue gives them -/

/-- PULSE_FIRM (R196). -/
def execPulseFirm (t serial ch : Nat) (s : State) : Host.Outcome State Fault Refusal := s.run t (pulseFirm serial ch)

/-- HOLD_START_INSTANT (R197). -/
def execHoldStartInstant (t serial ch : Nat) (s : State) : Host.Outcome State Fault Refusal := s.run t (holdStartInstant serial ch)

/-- PULSE_START (R200). -/
def execPulseStart (t serial ch : Nat) (refused : Bool) (rail : Nat × Nat) (last : List CoilSmp) (s : State) : Host.Outcome State Fault Refusal :=
  s.run t (pulseStart serial ch refused rail last)

/-- PULSE_LATEST_START (R200). -/
def execPulseLatestStart (t serial ch : Nat) (s : State) : Host.Outcome State Fault Refusal := s.run t (pulseLatestStart serial ch)

/-- PULSE_RELEASE (R214). -/
def execPulseRelease (t ch : Nat) (s : State) : Host.Outcome State Fault Refusal := s.run t (pulseRelease ch)

/-- LOW_SIDE_OPEN (R214). -/
def execLowSideOpen (t ch : Nat) (last : List CoilSmp) (s : State) : Host.Outcome State Fault Refusal := s.run t (lowSideOpen ch last)

/-- BOOST_END (R213). -/
def execBoostEnd (t ch code : Nat) (s : State) : Host.Outcome State Fault Refusal := s.run t (boostEnd ch code)

/-- HS_RISE_END (R212). -/
def execHsRiseEnd (t ch code : Nat) (s : State) : Host.Outcome State Fault Refusal := s.run t (hsRiseEnd ch code)

/-- DECAY_END (R212). -/
def execDecayEnd (t ch code : Nat) (s : State) : Host.Outcome State Fault Refusal := s.run t (decayEnd ch code)

/-- COIL_TEMP_UPDATE (R225). -/
def execCoilTempUpdate (t : Nat) (board : Int) (codes : List (Nat × List Nat)) (s : State) : Host.Outcome State Fault Refusal :=
  s.run t (coilTempUpdate board codes)

/-- OPEN_COIL (R229). -/
def execOpenCoil (t ch code : Nat) (s : State) : Host.Outcome State Fault Refusal := s.run t (openCoil ch code)

/-- SHORT_OVERCURRENT (R229). -/
def execShortOvercurrent (t ch code : Nat) (last : List CoilSmp) (s : State) : Host.Outcome State Fault Refusal :=
  s.run t (shortOvercurrent ch code last)

/-- LOW_SIDE_STUCK_ON (R229). -/
def execLowSideStuckOn (t ch : Nat) (smp : List CoilSmp) (lasts : List (Nat × List CoilSmp)) (s : State) : Host.Outcome State Fault Refusal :=
  s.run t (lowSideStuckOn ch smp lasts)

/-- BANK_STAGE_FAULT (R229). -/
def execBankStageFault (t b : Nat) (smp : List BankSmp) (lasts : List (Nat × List CoilSmp)) (s : State) : Host.Outcome State Fault Refusal :=
  s.run t (bankStageFault b smp lasts)

end Sys2Proof.Machine
end

