-- ==== Sys2Proof/Machine/Time.lean ====
section
/-!
DEFINITION. Machine/Time.lean: the timebase, its sources, PTP, time pulses and captures (chapter 14).
-/
namespace Sys2Proof.Machine

/-! ### The mapping and the trim (R320, R322) -/

/-- One second in ns. -/
def sec : Nat := 1000000000

/-- Reported time is at a second boundary (R329, R337), within one step of the timebase; a hold meets its boundary S where it begins (R330). -/
def Mod.atSecond (m : Mod) : Bool :=
  ((m.now : Int) + m.time.ofs) % 1000000000 < 4 && m.time.hold.all (fun h => m.now + (h.amount + 3) / 4 * 4 < h.until_ + 4)

/-- Pulses may leave the module: no state of R33 holds (R341). -/
def Mod.pulsesLive (m : Mod) : Bool :=
  match m.bist.phase with
  | .safe | .rbInvalid | .recovery | .deep | .off => false
  | _ => true

/-- The slew term's size in ns per second (R328): TIME_SLEW_MAX, or on the last update of 1 ms what is then left. -/
def Mod.slewRate (m : Mod) : Nat := Nat.min (m.rd P.timeSlewMax) (1000 * (m.rdI P.timeSlewLeft).natAbs)

/-- TIME_TRIM (R320, R326): TCXO correction, frequency term in 0.01 ppb and slew term, in 2^-34 of the rate. -/
def Mod.timeTrim (m : Mod) : Int :=
  let freq := rdiv (m.rdI P.timeFreq * (2 ^ 34 : Nat)) (10 ^ 11)
  let left := m.rdI P.timeSlewLeft
  let term := rdiv ((m.slewRate : Int) * (2 ^ 34 : Nat)) (10 ^ 9)
  let slew := if m.time.slew.isNone then 0 else if 0 < left then term else if left < 0 then 0 - term else 0
  if m.time.st = 0 then clampI (-2147483) 2147483 (m.cal P.timeTcxoCal)
  else clampI (-2147483) 2147483 (m.cal P.timeTcxoCal + freq + slew)

/-! ### Time outputs (R339) -/

/-- A time output changed. -/
def Mod.setOut (m : Mod) (n : Nat) (f : TimeOut → TimeOut) : Mod :=
  { m with time := { m.time with outs := updAt m.time.outs n f } }

/-- The instant on output `n`'s base (R339). -/
def Mod.outNow (m : Mod) (n : Nat) : Nat := if (m.rd P.timeOutCfg n).testBit 3 then m.reported else m.now

/-- A periodic output's next instant after `now`. -/
def nextPeriod (at_ per now : Nat) : Nat := if now < at_ || per = 0 then at_ else at_ + ((now - at_) / per + 1) * per

/-- Output `n` emits its pulse; a periodic one takes the instant after the one it has met, also where it fired early (R339). -/
def Mod.outFire (m : Mod) (n : Nat) : Mod :=
  let mode := field (m.rd P.timeOutCfg n) 2 1
  let b := m.outNow n
  m.setOut n (fun o => { o with level := true, lastEdge := some m.now, armed := mode = 2,
                                next := if mode = 2 then nextPeriod o.next (m.rd P.timeOutPeriod n) (Nat.max b o.next) else o.next })

/-- Output `n` fires late (R339). -/
def Mod.outLate (m : Mod) (n : Nat) : Mod :=
  let late := m.outNow n - (m.time.outs.getD n {}).next
  (m.outFire n).raise 108 0x0819 (leBytes 1 n ++ leBytes 8 late)

/-- After a set or a step: one-shots on the reported base whose instant was skipped fire (R339). -/
def Mod.outSkip (m : Mod) : Mod :=
  (List.range 4).foldl (fun m n =>
    let o := m.time.outs.getD n {}
    let cfg := m.rd P.timeOutCfg n
    if o.armed && cfg.testBit 3 && o.next ≤ m.reported then
      if field cfg 2 1 = 1 then m.outLate n
      else m.setOut n (fun o => { o with next := nextPeriod o.next (m.rd P.timeOutPeriod n) m.reported })
    else m) m

/-- The mapping offset changes (R322). -/
def Mod.setOfs (m : Mod) (o : Int) : Mod := ({ m with time := { m.time with ofs := o } }).inc P.timeMapSeq

/-! ### Sources (R325 to R332) -/

/-- A source delivers: GNSS (R311), or a PTP port in SLAVE state with a master (R325). -/
def Mod.srcAvail (m : Mod) (s : Nat) : Bool :=
  match s with
  | 1 => m.time.gnssAvail
  | 2 => let p := m.time.ports.getD 0 {}; p.st = 9 && p.best.isSome
  | 3 => let p := m.time.ports.getD 1 {}; p.st = 9 && p.best.isSome
  | _ => false

/-- The source that TIME_SRC_ORDER chooses among those available; 0 none (R325). -/
def Mod.srcChoice (m : Mod) : Nat :=
  let order := match m.rd P.timeSrcOrder with
    | 0 => [1, 2, 3]
    | 1 => [2, 3, 1]
    | 2 => [2, 3]
    | _ => [1]
  (order.find? (fun s => m.srcAvail s)).getD 0

/-- The mean of the frequency terms of the last TIME_HO_AVG_S (R326). -/
def Mod.meanFreq (m : Mod) : Int :=
  let l := m.time.freqs.filter (fun f => m.now ≤ f.1 + m.rd P.timeHoAvgS * sec)
  if l.isEmpty then m.rdI P.timeFreq else rdiv (l.foldl (fun s f => s + f.2) 0) l.length

/-- HOLDOVER begins (R326). -/
def Mod.holdover (m : Mod) : Mod :=
  let m1 := { m with time := { m.time with st := 2, from_ := m.time.src, src := 0, slew := none, step := none } }
  ((((m1.wrI P.timeFreq m.meanFreq).wrI P.timeSlewLeft 0).inc P.timeHoldovers).flag P.timeFlags 4).raise 105 0x0806
    (leBytes 4 m.time.epsL)

/-- The source in force is chosen again (R325): a change is a return, and gives up a step that the old source asked for; the loss of the last
source is HOLDOVER. -/
def Mod.chooseSource (m : Mod) : Mod :=
  let s := m.srcChoice
  if !m.time.isSet then
    -- A set that awaits its second is given up with its source (R331, log 40).
    { m with time := { m.time with toSet := m.time.toSet.filter (fun x => m.srcAvail x.1) } }
  else if s = m.time.src then m
  else if s = 0 then (if m.time.st = 1 || m.time.st = 3 then m.holdover else m)
  else
    let m1 := { m with time := { m.time with src := s, gained := true, step := none, st := if m.time.st = 3 then 3 else 1 } }
    if m.time.src = 0 then m1 else m1.raise 104 0x0809 (leBytes 1 m.time.src ++ leBytes 1 s)

/-- An offset of the source in force above 1 ms waits for a second boundary; one within it is slewed (R328, R329). In a hold,
whose end takes the offset out, none is acted on (R330). -/
def Mod.takeOffset (m : Mod) (delta : Int) : Mod :=
  if m.time.hold.isSome then m
  else if 1000000 < delta.natAbs then { m with time := { m.time with step := some delta, gained := false } }
  else if m.time.gained then
    let m1 := ({ m with time := { m.time with gained := false, slewAt := m.now, slewRem := 0 } }).wrI P.timeSlewLeft delta
    if delta = 0 then m1
    else if m.time.slew.isSome then m1
    else ({ m1 with time := { m1.time with slew := some m.now } }).raise 104 0x0804 (leBytes 4 (toU 32 delta))
  else if m.time.slew.isSome then ({ m with time := { m.time with slewAt := m.now, slewRem := 0 } }).wrI P.timeSlewLeft delta
  else m

/-- The servo's frequency term moves by at most 10 ppb per second within ±5 ppm (R327), and by no more than a second's share at one update,
however long it has stood still; the spec gives no law for it, so the value within those bounds is open. -/
def Mod.servo (m : Mod) : Mod :=
  let old := m.rdI P.timeFreq
  let room : Int := (Nat.min (m.now - m.time.lastDisc) sec * 1000 / sec : Nat)
  let (x, m1) := m.draw
  let f := clampI (-500000) 500000 (clampI (old - room) (old + room) x)
  ({ m1 with time := { m1.time with freqs := (m.now, f) :: m1.time.freqs.filter (fun x => m.now ≤ x.1 + m.rd P.timeHoAvgS * sec) } }).wrI P.timeFreq f

/-- ε in LOCKED (R326). -/
def Mod.epsLocked (m : Mod) : Nat := Nat.min 0xFFFFFFFF (3 * m.time.sigma + (m.rdI P.timeSlewLeft).natAbs)

/-- A source delivers its time (R311, R325, R331): `ofs` is the source's time in ns less the extended raw count. -/
def Mod.timeOffer (m : Mod) (s : Nat) (ofs : Int) (sigma : Nat) : Mod :=
  let m1 := if s = 1 then { m with time := { m.time with gnssOfs := ofs } } else m
  if !m1.time.isSet then
    if m1.srcChoice = s then { m1 with time := { m1.time with toSet := some (s, ofs), sigma := sigma } } else m1
  else
    let m2 := m1.chooseSource
    let delta := ofs - m2.time.ofs
    if m2.time.src = s then
      let m3 := ({ m2 with time := { m2.time with sigma := sigma } }).takeOffset delta
      let m4 := m3.servo
      { m4 with time := { m4.time with epsL := m4.epsLocked, lastDisc := m.now } }
    else m2.wrI P.timeAltOffset delta

/-- TIME_SET (R331): at the instant, within one step of the timebase, at which the source's time reaches a whole second. -/
def timeSet (m : Mod) : Mod :=
  match m.time.toSet with
  | some (s, ofs) =>
    if m.time.isSet || 4 ≤ ((m.now : Int) + ofs) % 1000000000 then m
    else
      let whole := ((m.now : Int) + ofs).fdiv 1000000000
      let m1 := { m with time := { m.time with isSet := true, toSet := none, st := 1, src := s, gained := false,
                                               lastDisc := m.now, epsL := 3 * m.time.sigma } }
      (((m1.setOfs (whole * 1000000000 - (m.now : Int))).flag P.timeFlags 32).raise 104 0x0801
        (leBytes 1 s ++ leBytes 6 whole.toNat)).outSkip
  | none => m

/-- TIME_STEP (R329, R330): at a second boundary S of reported time, a forward step or the start of a hold. -/
def timeStep (m : Mod) : Mod :=
  match m.time.step with
  | some d =>
    if m.time.st ≠ 1 || !m.atSecond then m
    else
      let m1 := (({ m with time := { m.time with step := none, gained := false } }).inc P.timeSteps).flag P.timeFlags 16
      if 0 < d then ((m1.setOfs (m.time.ofs + d)).raise 104 0x0802 (leBytes 8 (toU 64 d))).outSkip
      else
        let n := (d.natAbs + 3) / 4 * 4
        (({ m1 with time := { m1.time with st := 3, hold := some { s := m.reported / sec * sec, until_ := m.now + n,
                                                                   amount := d.natAbs } } }).flag P.timeFlags 8).raise
          104 0x0803 (leBytes 8 (toU 64 d))
  | none => m

/-- TIME_HOLD_END (R330): back to LOCKED, or on in HOLDOVER when the source has gone meanwhile. -/
def timeHoldEnd (m : Mod) : Mod :=
  match m.time.hold with
  | some h =>
    if h.until_ ≤ m.now then
      ({ m with time := { m.time with hold := none, st := if m.time.src = 0 then 2 else 1 } }).setOfs (m.time.ofs - (h.amount : Int))
    else m
  | none => m

/-- TIME_SLEW_UPDATE (R328): the slew term has acted since the last update. -/
def timeSlewUpdate (m : Mod) : Mod :=
  match m.time.slew with
  | some t0 =>
    let left := m.rdI P.timeSlewLeft
    let q := (m.now - m.time.slewAt) * m.slewRate + m.time.slewRem
    let n : Int := (q / sec : Nat)
    if n = 0 && left ≠ 0 then m
    else
      let l := if left.natAbs ≤ n.natAbs then 0 else if 0 < left then left - n else left + n
      let m1 := ({ m with time := { m.time with slewAt := m.now, slewRem := q % sec } }).wrI P.timeSlewLeft l
      if l = 0 then ({ m1 with time := { m1.time with slew := none } }).raise 104 0x0805 (leBytes 4 ((m.now - t0) / 1000000))
      else m1
  | none => m

/-- ε (R326): 0xFFFF_FFFF in FREE_RUN; grown from ε_L in HOLDOVER. -/
def Mod.eps (m : Mod) : Nat :=
  match m.time.st with
  | 0 => 0xFFFFFFFF
  | 2 =>
    let t := m.now - m.time.lastDisc
    let lin := rdiv ((m.rd P.timeHoFreq * t : Nat) : Int) (10 * sec)
    let age := rdiv ((m.rd P.timeHoAge * t * t : Nat) : Int) (10 * 86400 * 2 * sec * sec)
    Nat.min 0xFFFFFFFF (m.time.epsL + lin.toNat + age.toNat)
  | _ => m.epsLocked

/-- ε as the module carried it at an extended raw count (R309, R326): that of the last update at or before it. -/
def Mod.epsAsOf (m : Mod) (t : Nat) : Nat :=
  match m.time.epsLog.find? (fun e => e.1 ≤ t) with
  | some e => e.2
  | none => m.rd P.timeEps

/-- TIME_EPS_UPDATE (R326, R327, R341): 1 ms after the last one. The output conducts while TIME_VALID is asserted, in no state of R33. -/
def timeEpsUpdate (m : Mod) : Mod :=
  if m.now < m.time.epsAt + 1000000 then m
  else
    let e := m.eps
    let ok := m.time.isSet && m.time.st ≠ 0 && e ≤ m.rd P.timeValidBound
    let m1 := ({ m with time := { m.time with epsAt := m.now, epsLog := ((m.now, e) :: m.time.epsLog).take 64, validOut := ok && m.pulsesLive } }).wr
      P.timeEps e
    if ok = m.time.valid then m1
    else
      let m2 := { m1 with time := { m1.time with valid := ok } }
      if ok then m2.raise 105 0x0808 (leBytes 4 e) else (m2.flag P.timeFlags 2).raise 105 0x0807 (leBytes 4 e)

/-! ### PTP (R332 to R336) -/

/-- A PTP port. -/
def Mod.ptp (m : Mod) (n : Nat) : PtpPort := m.time.ports.getD n {}

/-- A PTP port changed. -/
def Mod.setPtp (m : Mod) (n : Nat) (f : PtpPort → PtpPort) : Mod :=
  { m with time := { m.time with ports := updAt m.time.ports n f } }

/-- Dataset `a` is better than `b` (R335; IEEE 1588-2019). -/
def better (a b : PtpData) : Bool :=
  let k := fun (d : PtpData) => [d.prio1, d.cls, d.accuracy, d.variance, d.prio2, d.identity, d.steps]
  match ((k a).zip (k b)).find? (fun p => p.1 ≠ p.2) with
  | some (x, y) => x < y
  | none => false

/-- clockAccuracy from ε in ns, by the enumeration of IEEE 1588-2019 (R335). -/
def accuracyOf (e : Nat) : Nat :=
  if e ≤ 25 then 0x20 else if e ≤ 100 then 0x21 else if e ≤ 250 then 0x22 else if e ≤ 1000 then 0x23 else if e ≤ 2500 then 0x24
  else if e ≤ 10000 then 0x25 else if e ≤ 25000 then 0x26 else if e ≤ 100000 then 0x27 else if e ≤ 250000 then 0x28
  else if e ≤ 1000000 then 0x29 else if e ≤ 2500000 then 0x2A else if e ≤ 10000000 then 0x2B else if e ≤ 25000000 then 0x2C
  else if e ≤ 100000000 then 0x2D else if e ≤ 250000000 then 0x2E else if e ≤ 1000000000 then 0x2F else 0x30

/-- The dataset the module announces of its own clock (R335). -/
def Mod.ownData (m : Mod) (n : Nat) : PtpData :=
  let prio := m.rd P.timePtpPrio
  let gnss := m.time.st = 1 && m.time.src = 1 && m.time.valid
  let hold := m.time.st = 2 && m.time.from_ = 1 && m.time.valid
  let slave := (m.rd P.timePtpCfg n).testBit 1
  { prio1 := prio / 256, cls := if slave then 255 else if gnss then 6 else if hold then 7 else 248,
    accuracy := if gnss || hold then accuracyOf (m.rd P.timeEps) else 0xFE, variance := 0xFFFF, prio2 := prio % 256,
    identity := m.nv.mac, steps := 0, source := if gnss then 0x20 else 0xA0 }

/-- What port `n` announces (R335): the module's own dataset, or as a boundary clock the grandmaster's of the other port's master. -/
def Mod.annData (m : Mod) (n : Nat) : PtpSaid :=
  let o := m.ptp (1 - n)
  let d := match o.best with
    | some b => if o.st = 9 then { b with steps := b.steps + 1 } else m.ownData n
    | none => m.ownData n
  let leap := m.rd P.timeLeap
  { data := d, utc := field leap 7 0, utcValid := m.time.leapKnown, leap59 := leap.testBit 8 && m.time.leapDown,
    leap61 := leap.testBit 8 && !m.time.leapDown }

/-- The state that the best master clock algorithm of the port's profile gives port `n` (R335): a slave-only port is never MASTER or PASSIVE; in
802.1AS a clock of class 127 or below is no exception. -/
def Mod.bmcState (m : Mod) (n : Nat) : Nat :=
  let cfg := m.rd P.timePtpCfg n
  let p := m.ptp n
  let own := m.ownData n
  let other := (m.ptp (1 - n)).best
  let st := match p.best with
    | none => 6
    | some b =>
      if better own b then 6
      else if own.cls ≤ 127 && field cfg 5 4 ≠ 3 then 7
      else match other with
        | some o => if better o b then (if o.identity = b.identity then 7 else 6) else 9
        | none => 9
  if cfg.testBit 1 && st ≠ 9 then 4 else st

/-- A port takes a state (R343). -/
def Mod.ptpState (m : Mod) (n st : Nat) : Mod :=
  let old := (m.ptp n).st
  if old = st then m
  else
    (((m.setPtp n (fun p => { p with st := st, conf := [], confRaised := false, offsets := (if st = 9 then p.offsets else []),
                                      filtered := (if st = 9 then p.filtered else []) })).wr
      P.timePtpState st n).raise (106 + n) 0x0810 (leBytes 1 n ++ leBytes 1 old ++ leBytes 1 st))

/-- A foreign master that GNSS keeps from disciplining is reported (R335). -/
def Mod.ptpForeign (m : Mod) : Mod :=
  (List.range 2).foldl (fun m n =>
    let p := m.ptp n
    let order := m.rd P.timeSrcOrder
    if p.st = 9 && !p.foreign && m.time.gnssAvail && (order = 0 || order = 3) then
      (m.setPtp n (fun p => { p with foreign := true })).raise (106 + n) 0x0811
        (leBytes 1 n ++ leBytes 4 ((p.best.map (·.identity)).getD 0))
    else m) m

/-- Both ports' states follow the algorithm (R335). -/
def Mod.ptpDecide (m : Mod) : Mod :=
  ((List.range 2).foldl (fun m n =>
    if field (m.rd P.timePtpCfg n) 5 4 = 0 then m else m.ptpState n (m.bmcState n)) m).ptpForeign.chooseSource

/-- GNSS stops or starts delivering trusted solutions (R311, R316, R325, R335). -/
def Mod.gnssAvailable (m : Mod) (yes : Bool) : Mod := ({ m with time := { m.time with gnssAvail := yes } }).ptpForeign.chooseSource

/-- Standard deviation in ns of measurements (R326), to the nearest: of n values it is the root of n Σ x² − (Σ x)², over n. -/
def stdDev (l : List Int) : Nat :=
  let n := l.length
  let s := l.foldl (· + ·) 0
  if n = 0 then 0 else (isqrt (4 * ((n : Int) * l.foldl (fun a x => a + x * x) 0 - s * s).toNat) / n + 1) / 2

/-- The offset of a source that is not in force appears in TIME_ALT_OFFSET (R325). -/
def Mod.shownOnly (m : Mod) (s : Nat) (delta : Int) : Mod := if m.time.src = s then m else m.wrI P.timeAltOffset delta

/-- A measured offset from the master at port `n` (R325, R332): above 1 ms it is acted on when confirmed, and until then only shown where the port is
not the source in force; then the timebase. -/
def Mod.ptpMeasure (m : Mod) (n : Nat) (ofs : Int) : Mod :=
  let delta := ofs - m.time.ofs
  let p := m.ptp n
  let offs := ((0 - delta) :: p.offsets).take 16
  let filt := (Config.offsetFilter offs :: p.filtered).take 16
  let m1 := (m.setPtp n (fun p => { p with offsets := offs, filtered := filt })).wrI P.timePtpOffset (0 - delta) n
  if m.time.isSet && 1000000 < delta.natAbs then
    let agree := p.conf.all (fun d => (d - delta).natAbs ≤ 10000)
    let conf := if agree then delta :: p.conf else [delta]
    let m2 := (m1.setPtp n (fun p => { p with conf := conf.take 16 })).shownOnly (2 + n) delta
    if m.rd P.timePtpConfirm ≤ conf.length then m2.timeOffer (2 + n) ofs (stdDev filt)
    else if p.confRaised then m2
    else (m2.setPtp n (fun p => { p with confRaised := true })).raise (106 + n) 0x0812
      (leBytes 1 n ++ leBytes 4 (toU 32 (tdiv delta 1000)))
  else (m1.setPtp n (fun p => { p with conf := [], confRaised := false })).timeOffer (2 + n) ofs (stdDev filt)

/-- The identity of the module's port `n`: its clock's times 65,536 and its number. -/
def Mod.ptpId (m : Mod) (n : Nat) : Nat := m.nv.mac * 65536 + n + 1

/-- The module sends PTP messages. -/
def Mod.ptpSend (m : Mod) (l : List PtpTx) : Mod := { m with time := { m.time with sent := m.time.sent ++ l } }

/-- The link speed of a port, 1 for 100 Mbit/s and 2 for 1000 Mbit/s (R390). -/
def Mod.linkSpeed (m : Mod) (n : Nat) : Nat := field (m.rd P.netLink) (2 * n + 1) (2 * n)

/-- A received message's stamp, corrected (R334), as an extended count. -/
def Mod.ingress (m : Mod) (n raw : Nat) : Int :=
  (m.extend raw : Int) - (if m.linkSpeed n = 1 then m.cal P.timePtpIng100 else m.cal P.timePtpIng1g)

/-- A sent message's stamp, corrected (R334). -/
def Mod.egress (m : Mod) (n raw : Nat) : Int :=
  (m.extend raw : Int) + (if m.linkSpeed n = 1 then m.cal P.timePtpEgr100 else m.cal P.timePtpEgr1g)

/-- A Sync's time and ingress are known: the offset is measured (R334). -/
def Mod.ptpSync (m : Mod) (n : Nat) (t1 t2 : Int) : Mod :=
  let m1 := m.setPtp n (fun p => { p with sync := some (t1, t2) })
  m1.ptpMeasure n (t1 + (m.ptp n).delay - t2)

/-- A measured path delay. -/
def Mod.ptpDelay (m : Mod) (n : Nat) (d : Int) : Mod :=
  (m.setPtp n (fun p => { p with delay := d })).wr P.timePtpDelay (clampI 0 0xFFFFFFFF d).toNat n

/-- An interval of TIME_PTP_INTV (R344): 2 to the power of its signed byte, in seconds. -/
def logInterval (b : Nat) : Nat := if b < 128 then sec * 2 ^ b else sec / 2 ^ (256 - b)

/-- PTP_EVENT_MESSAGE (R333 to R335): over the transport and in the domain of TIME_PTP_CFG. The times of the master come from the parent alone, and
an answer counts where it answers the port's own request; the module's answers carry the stamps of R334 as reported time. -/
def ptpEventMessage (n : Nat) (g : PtpMsg) (m : Mod) : Mod :=
  let cfg := m.rd P.timePtpCfg n
  let mode := field cfg 5 4
  let p := m.ptp n
  if 2 ≤ n || mode = 0 || g.domain ≠ (if mode = 3 then 0 else field cfg 15 8) || g.udp ≠ (cfg.testBit 3 && mode ≠ 3) then m
  else
    let at_ := m.ingress n g.ingress
    match g.kind with
    | 0 =>
      let d : PtpData := { prio1 := g.prio1, cls := g.cls, accuracy := g.accuracy, variance := g.variance, prio2 := g.prio2,
                           identity := g.identity, steps := g.steps, source := g.source }
      let take := match p.best with
        | some b => p.parent = g.sender || better d b
        | none => true
      let same := (p.best.map (·.identity)) = some d.identity
      let kin := p.best.isSome && p.parent = g.sender
      if take then
        let m1 := m.setPtp n (fun p => { p with best := some d, parent := g.sender, annAt := m.now, foreign := p.foreign && same,
                                                sync := if kin then p.sync else none, pendSync := if kin then p.pendSync else none })
        let m2 := m1.ptpDecide
        if (m2.ptp n).st = 9 then
          (m2.wr P.timePtpGmLo (d.identity % 2 ^ 32) n).wr P.timePtpGmHi (d.identity / 2 ^ 32) n
        else m2
      else m
    | 1 =>
      if p.st ≠ 9 || g.sender ≠ p.parent then m
      else if g.twoStep then m.setPtp n (fun p => { p with pendSync := some (g.seq, at_ - g.corr) })
      else m.ptpSync n g.time (at_ - g.corr)
    | 2 =>
      match p.pendSync with
      | some (q, t2) =>
        if q = g.seq && p.st = 9 && g.sender = p.parent then (m.setPtp n (fun p => { p with pendSync := none })).ptpSync n (g.time + g.corr) t2 else m
      | none => m
    | 3 =>
      if p.st = 6 then m.ptpSend [{ port := n, kind := 4, seq := g.seq, time := m.timeOf at_, corr := g.corr, req := g.sender }] else m
    | 4 =>
      match p.delayReq, p.sync with
      | some (q, t3), some (t1, t2) =>
        if q = g.seq && mode = 1 && g.sender = p.parent && g.req = m.ptpId n then m.ptpDelay n (rdiv ((t2 - t1) + (g.time - g.corr - t3)) 2) else m
      | _, _ => m
    | 5 =>
      if mode = 1 then m
      else
        let t3 := m.egress n g.egress
        m.ptpSend (if cfg.testBit 2 then [{ port := n, kind := 6, seq := g.seq, corr := g.corr + (t3 - at_), req := g.sender }]
          else [{ port := n, kind := 6, seq := g.seq, time := m.timeOf at_, req := g.sender },
                { port := n, kind := 7, seq := g.seq, time := m.timeOf t3, corr := g.corr, req := g.sender }])
    | 6 =>
      match p.delayReq with
      | some (q, t1) =>
        if q ≠ g.seq || mode = 1 || g.req ≠ m.ptpId n then m
        else if g.twoStep then m.setPtp n (fun p => { p with pdelay := some (g.seq, g.time + g.corr, at_) })
        else m.ptpDelay n (rdiv (at_ - t1 - g.corr) 2)
      | none => m
    | 7 =>
      match p.pdelay, p.delayReq with
      | some (q, t2, t4), some (_, t1) =>
        if q = g.seq && g.req = m.ptpId n then
          (m.setPtp n (fun p => { p with pdelay := none })).ptpDelay n (rdiv ((t4 - t1) - (g.time + g.corr - t2)) 2)
        else m
      | _, _ => m
    | _ => m

/-- The interval of TIME_PTP_INTV for messages of `kind` has elapsed at port `n` (R333, R344). -/
def Mod.ptpDue (m : Mod) (n kind : Nat) : Bool :=
  let b := field (m.rd P.timePtpIntv n) (31 - 8 * kind) (24 - 8 * kind)
  ((m.ptp n).sentAt.getD kind none).all (fun t => t + logInterval b ≤ m.now)

/-- PTP_MESSAGE_TIMER (R333 to R335): an interval elapses; `kind` 0 Announce, 1 Sync with its Follow_Up where the port is two-step, 2 a delay
request; `egress` is the raw count at which the message leaves. The reported time of a Sync's stamp goes in it, or in its Follow_Up. -/
def ptpMessageTimer (n kind egress : Nat) (m : Mod) : Mod :=
  let mode := field (m.rd P.timePtpCfg n) 5 4
  let p := m.ptp n
  if 2 ≤ n || mode = 0 || !m.pulsesLive || !m.ptpDue n (Nat.min kind 2) then m
  else
    let send := fun (ks : List (Nat × Int)) (m : Mod) =>
      (m.ptpSend (ks.map (fun k => { port := n, kind := k.1, seq := p.txSeq, time := k.2 }))).setPtp n (fun p =>
        { p with txSeq := (p.txSeq + 1) % 65536, sentAt := p.sentAt.set (Nat.min kind 2) (some m.now) })
    let t1 := m.timeOf (m.egress n egress)
    if kind = 0 then (if p.st = 6 then send [(0, 0)] (m.setPtp n (fun p => { p with said := some (m.annData n) })) else m)
    else if kind = 1 then (if p.st = 6 then send (if (m.rd P.timePtpCfg n).testBit 2 then [(1, t1)] else [(1, 0), (2, t1)]) m else m)
    else if mode = 1 && p.st ≠ 9 then m
    else send [(if mode = 1 then 3 else 5, 0)] (m.setPtp n (fun p => { p with delayReq := some (p.txSeq, m.egress n egress) }))

/-- The announce receipt timeout of port `n` (R344): so many announce intervals. -/
def Mod.annTimeout (m : Mod) (n : Nat) : Nat :=
  field (m.rd P.timePtpIntv n) 7 0 * logInterval (field (m.rd P.timePtpIntv n) 31 24)

/-- PTP_ANNOUNCE_TIMEOUT (R336): the announce receipt timeout has passed since the last announce; a port that has had none since the start takes the
state that the algorithm then gives it (log 122). -/
def ptpAnnounceTimeout (n : Nat) (m : Mod) : Mod :=
  if 2 ≤ n || field (m.rd P.timePtpCfg n) 5 4 = 0 || m.now < (m.ptp n).annAt + m.annTimeout n then m
  else if (m.ptp n).best.isNone then m.ptpDecide
  else
    ((m.setPtp n (fun p => { p with best := none, foreign := false, sync := none, pendSync := none })).raise (106 + n) 0x0813
      (leBytes 1 n)).ptpDecide

/-! ### Pulses and captures (R337 to R340) -/

/-- PPS_EDGE (R337, R338): a reported second boundary. -/
def ppsEdge (m : Mod) : Mod :=
  if !m.pulsesLive || (m.time.st = 0 && m.rd P.timePpsFree = 0) || !m.atSecond || m.time.ppsSec = some (m.reported / sec) then m
  else
    let close : Bool := match m.time.ppsLast with
      | some l => m.now < l + 999000000
      | none => false
    let m1 := { m with time := { m.time with ppsSec := some (m.reported / sec) } }
    if close then ((m1.inc P.timePpsOmitted).flag P.timeFlags 1).raise 108 0x080A (leBytes 1 4 ++ leBytes 4 m.raw)
    else { m1 with time := { m1.time with pps := true, ppsLast := some m.now } }

/-- PPS_PULSE_END (R337): TIME_PPS_WIDTH after the edge. -/
def ppsPulseEnd (m : Mod) : Mod :=
  match m.time.ppsLast with
  | some l => if l + m.rd P.timePpsWidth * 1000000 ≤ m.now then { m with time := { m.time with pps := false } } else m
  | none => m

/-- TIME_OUT_ARM (R339): a write of TIME_OUT_AT_HI. -/
def timeOutArm (n v : Nat) (m : Mod) : Mod :=
  if n < 4 then
    let m1 := m.wr P.timeOutAtHi v n
    let at_ := v % 2 ^ 32 * 2 ^ 32 + m.rd P.timeOutAtLo n
    let mode := field (m.rd P.timeOutCfg n) 2 1
    if mode = 0 then m1
    else
      let m2 := m1.setOut n (fun o => { o with armed := true, next := at_ })
      if at_ ≤ m.outNow n + 2000 && m.pulsesLive then m2.outLate n else m2
  else m

/-- TIME_OUT_EDGE (R338, R339). -/
def timeOutEdge (n : Nat) (m : Mod) : Mod :=
  let o := m.time.outs.getD n {}
  let cfg := m.rd P.timeOutCfg n
  if n < 4 && o.armed && m.pulsesLive && o.next ≤ m.outNow n then
    let close : Bool := match o.lastEdge with
      | some l => cfg.testBit 3 && field cfg 2 1 = 2 && (m.now - l) * 1000 < m.rd P.timeOutPeriod n * 999
      | none => false
    if close then
      (((m.setOut n (fun o => { o with next := nextPeriod o.next (m.rd P.timeOutPeriod n) (m.outNow n) })).inc P.timePpsOmitted).flag
        P.timeFlags 1).raise 108 0x080A (leBytes 1 n ++ leBytes 4 m.raw)
    else m.outFire n
  else m

/-- TIME_OUT_PULSE_END (R339): TIME_OUT_WIDTH after the edge. -/
def timeOutPulseEnd (n : Nat) (m : Mod) : Mod :=
  match (m.time.outs.getD n {}).lastEdge with
  | some l => if l + m.rd P.timeOutWidth n ≤ m.now then m.setOut n (fun o => { o with level := false }) else m
  | none => m

/-- CAPTURE_EDGE (R340). -/
def captureEdge (n : Nat) (rising : Bool) (m : Mod) : Mod :=
  let cfg := field (m.rd P.timeCapCfg n) 1 0
  if n < 4 && (if rising then cfg.testBit 0 else cfg.testBit 1) then
    let close : Bool := match m.time.capLast.getD n none with
      | some l => m.now < l + 40
      | none => false
    let m1 := { m with time := { m.time with capLast := m.time.capLast.set n (some m.now) } }
    if close then m1.inc P.timeCapLost n
    else
      let s := (m.rd P.timeCapSeq n + 1) % 2 ^ 32
      let e := m.rd P.timeCapEdges n
      ((m1.wr P.timeCapSeq s n).wr P.timeCapRing m.raw n (s % 16)).wr P.timeCapEdges (setField e (s % 16) (s % 16) (bit rising)) n
  else m

/-- RAW_COUNTER_WRAP (R323). -/
def rawCounterWrap (m : Mod) : Mod := { m with now := (m.now / 2 ^ 32 + 1) * 2 ^ 32 }

/-- TIME_STATE (R344). -/
def Mod.timeState (m : Mod) : Nat := 32 * m.time.src + 4 * m.time.st + 2 * bit m.time.slew.isSome + bit m.time.valid

/-! ### The commands as the queue gives them -/

/-- RAW_COUNTER_WRAP (R323). -/
def execRawCounterWrap (t : Nat) (s : State) : Host.Outcome State Fault Refusal := s.run t rawCounterWrap

/-- TIME_EPS_UPDATE (R326). -/
def execTimeEpsUpdate (t : Nat) (s : State) : Host.Outcome State Fault Refusal := s.run t timeEpsUpdate

/-- TIME_SLEW_UPDATE (R328). -/
def execTimeSlewUpdate (t : Nat) (s : State) : Host.Outcome State Fault Refusal := s.run t timeSlewUpdate

/-- TIME_SET (R331). -/
def execTimeSet (t : Nat) (s : State) : Host.Outcome State Fault Refusal := s.run t timeSet

/-- TIME_STEP (R329). -/
def execTimeStep (t : Nat) (s : State) : Host.Outcome State Fault Refusal := s.run t timeStep

/-- TIME_HOLD_END (R330). -/
def execTimeHoldEnd (t : Nat) (s : State) : Host.Outcome State Fault Refusal := s.run t timeHoldEnd

/-- PTP_EVENT_MESSAGE (R334). -/
def execPtpEventMessage (t n : Nat) (g : PtpMsg) (s : State) : Host.Outcome State Fault Refusal := s.run t (ptpEventMessage n g)

/-- PTP_MESSAGE_TIMER (R333). -/
def execPtpMessageTimer (t n kind egress : Nat) (s : State) : Host.Outcome State Fault Refusal := s.run t (ptpMessageTimer n kind egress)

/-- PTP_ANNOUNCE_TIMEOUT (R336). -/
def execPtpAnnounceTimeout (t n : Nat) (s : State) : Host.Outcome State Fault Refusal := s.run t (ptpAnnounceTimeout n)

/-- PPS_EDGE (R337). -/
def execPpsEdge (t : Nat) (s : State) : Host.Outcome State Fault Refusal := s.run t ppsEdge

/-- PPS_PULSE_END (R337). -/
def execPpsPulseEnd (t : Nat) (s : State) : Host.Outcome State Fault Refusal := s.run t ppsPulseEnd

/-- TIME_OUT_EDGE (R339). -/
def execTimeOutEdge (t n : Nat) (s : State) : Host.Outcome State Fault Refusal := s.run t (timeOutEdge n)

/-- TIME_OUT_PULSE_END (R339). -/
def execTimeOutPulseEnd (t n : Nat) (s : State) : Host.Outcome State Fault Refusal := s.run t (timeOutPulseEnd n)

/-- CAPTURE_EDGE (R340). -/
def execCaptureEdge (t n : Nat) (rising : Bool) (s : State) : Host.Outcome State Fault Refusal := s.run t (captureEdge n rising)

end Sys2Proof.Machine
end

