-- ==== Sys2Proof/Machine/Gnss.lean ====
section
/-!
DEFINITION. Machine/Gnss.lean: the GNSS receiver (chapter 13): antenna, acquisition, the checks that make a solution
trusted, delivery to the timebase, positions, keep-time, corrections.
-/
namespace Sys2Proof.Machine

/-- The module is a KZ-960-G (R2, R298). -/
def Mod.isG (m : Mod) : Bool := m.rd P.sysVariant = 1

/-- The receiver runs: it is fitted, sound and started, and the mode is not OFF (R298, R304, R317). -/
def Mod.gnssOn (m : Mod) : Bool := m.isG && !m.bist.gnssBad && m.gnss.started && m.sys.gnssMode ≠ 0

/-- The receiver's state changed. -/
def Mod.setGnss (m : Mod) (f : GnssSt → GnssSt) : Mod := { m with gnss := f m.gnss }

/-- A channel changed. -/
def Mod.setGch (m : Mod) (c : Nat) (f : GCh → GCh) : Mod := m.setGnss (fun g => { g with ch := updAt g.ch c f })

/-! ### Antenna (R299) -/

/-- The antenna state changes. -/
def Mod.antenna (m : Mod) (st code : Nat) (data : List Byte) : Mod :=
  if m.gnss.ant = st then m
  else ((m.setGnss (fun g => { g with ant := st })).flag P.gnssFlags 32).raise 96 code data

/-- The supply is on and the antenna is judged. -/
def Mod.antennaJudged (m : Mod) : Bool := m.isG && m.gnss.started && m.rd P.gnssAntV ≠ 0 && m.gnss.antOn

/-- ANTENNA_OPEN: below 3 mA for 100 ms; `ma` is the greatest draw of that time. -/
def antennaOpen (ma : Nat) (m : Mod) : Mod :=
  if m.antennaJudged && ma < 3 && m.gnss.antAt + 100000000 ≤ m.now then m.antenna 1 0x0701 (leBytes 4 ma) else m

/-- ANTENNA_SHORT: at the limit of 120 mA for 1 ms; `ma` is the least draw of that time. The supply is switched off. -/
def antennaShort (ma : Nat) (m : Mod) : Mod :=
  if m.antennaJudged && 120 ≤ ma && m.gnss.antAt + 1000000 ≤ m.now then
    (m.antenna 2 0x0702 []).setGnss (fun g => { g with antOn := false, antAt := m.now })
  else m

/-- ANTENNA_RETRY: 1 s after a short the supply is switched on again. -/
def antennaRetry (m : Mod) : Mod :=
  if m.isG && m.gnss.started && m.rd P.gnssAntV ≠ 0 && m.gnss.ant = 2 && !m.gnss.antOn && m.gnss.antAt + 1000000000 ≤ m.now then
    m.setGnss (fun g => { g with antOn := true, antAt := m.now })
  else m

/-- ANTENNA_NORMAL: any other draw. -/
def antennaNormal (ma : Nat) (m : Mod) : Mod :=
  if m.antennaJudged && 3 ≤ ma && ma < 120 then m.antenna 0 0x0703 (leBytes 4 ma) else m

/-! ### Acquisition and channels (R301 to R304) -/

/-- A session may be requested (R303): GNSS_ACQ_EVERY_S have passed since the last one ended. -/
def Mod.acqDue (m : Mod) : Bool := m.gnss.acqEnd.all (fun t => t + m.rd P.gnssAcqEveryS * 1000000000 ≤ m.now)

/-- A session is requested from the toll gate (R303). Where it is not yet due, it is owed, and GNSS_ACQ_REQUEST asks later. -/
def Mod.acqAsk (m : Mod) : Mod :=
  if m.gnss.acq = .none && m.acqDue then
    (m.setGnss (fun g => { g with acq := .asked, acqAt := m.now, owed := false })).ask .gnss 4 .logic m.now (m.rd P.tollPGnssAcq)
  else if m.gnss.acq = .none then m.setGnss (fun g => { g with owed := true })
  else m

/-- The grant of a session (R303, R304). -/
def Mod.gnssGranted (m : Mod) : Mod :=
  (m.setGnss (fun g => { g with acq := .active, acqAt := m.now, firstGrant := some (g.firstGrant.getD m.now) })).inc P.gnssAcqSessions

/-- A session ends, or a request that waits is withdrawn (R303, R317). -/
def Mod.acqStop (m : Mod) : Mod :=
  match m.gnss.acq with
  | .active => (m.setGnss (fun g => { g with acq := .none, acqEnd := some m.now })).endGrant .gnss
  | .asked => (m.setGnss (fun g => { g with acq := .none })).unask .gnss
  | .none => m

/-- GNSS_ACQ_REQUEST (R303): a session in continuous tracking, or one that is owed, GNSS_ACQ_EVERY_S after the last one's end. -/
def gnssAcqRequest (m : Mod) : Mod :=
  if m.gnssOn && (m.sys.gnssMode = 1 || m.gnss.continuous ≠ 0 || m.gnss.owed) then
    match m.gnss.acq with
    | .none => if m.acqDue then m.acqAsk.raise 97 0x0709 (leBytes 4 0) else m
    | .asked => m.raise 97 0x0709 (leBytes 4 ((m.now - m.gnss.acqAt) / 1000000))
    | .active => m
  else m

/-- GNSS_ACQ_END (R303): every expected signal is tracked (`all`), or the session's time is over. -/
def gnssAcqEnd (all : Bool) (m : Mod) : Mod :=
  if m.gnss.acq = .active && (all || m.gnss.acqAt + m.rd P.gnssAcqMaxMs * 1000000 ≤ m.now) then m.acqStop else m

/-- A signal lies in the lower band (R298): the rows of one carrier fix their band, and the one row of QZSS serves both, L1 C/A and L5 (`low`). -/
def lowerBand (sig : Nat) (low : Bool) : Bool := sig = 1 || sig = 3 || sig = 5 || (sig = 6 && low)

/-- d_n of a band and d_w, in 1/256 chip (R302). -/
def Mod.narrowOf (m : Mod) (low : Bool) : Nat := if low then field (m.rd P.gnssNarrow) 15 8 else field (m.rd P.gnssNarrow) 7 0
def Mod.wideOf (m : Mod) (low : Bool) : Nat := if m.rd P.gnssMpMode = 0 then 128 else 2 * m.narrowOf low

/-- The offsets of the seven correlators VE, E, M1, P, M2, L, VL from prompt, in 1/256 chip (R301). -/
def Mod.corrOffsets (m : Mod) (low : Bool) : List Int :=
  [-256, -(m.wideOf low : Int), -(m.narrowOf low : Int), 0, (m.narrowOf low : Int), (m.wideOf low : Int), 256]

/-- The correlators run (R314): in continuous tracking, or in a burst. -/
def Mod.correlating (m : Mod) : Bool := m.gnssOn && (m.sys.gnssMode = 1 || m.gnss.continuous ≠ 0 || m.gnss.burst.isSome)

/-- A channel that has not found its signal where a burst ends, or becomes continuous tracking, searches on as after a loss of lock (R303, R314, R317). -/
def GCh.searchOn (now : Nat) (g : GCh) : GCh := if g.st = 1 && g.lostAt.isNone then { g with lostAt := some now } else g

/-- The code discriminator in 1/65536 (R302), from the magnitudes VE, E, M1, P, M2, L, VL; 0 where its divisor is. -/
def discOf (mode : Nat) (k : List Nat) : Int :=
  let v := fun (i : Nat) => ((k.getD i 0 : Nat) : Int)
  if mode = 0 then (if v 2 + v 4 = 0 then 0 else rdiv (65536 * (v 2 - v 4)) (k.getD 2 0 + k.getD 4 0))
  else if v 3 = 0 then 0
  else rdiv (32768 * (2 * (v 2 - v 4) - (v 1 - v 5))) (k.getD 3 0)

/-- GNSS_SIDE_PEAK (R302): on a BOC(1,1) channel VE or VL, by their least magnitudes of 20 ms against P's greatest, exceeds P: the code moves half a
chip toward the larger of the two. -/
def gnssSidePeak (c ve p vl : Nat) (m : Mod) : Mod :=
  let g := m.gnss.ch.getD c {}
  if m.correlating && g.st = 2 && (g.sig = 2 || g.sig = 4) && (p < ve || p < vl) then
    m.setGch c (fun g => { g with mp := (g.mp + 1) % 2 ^ 32, code := if ve < vl then g.code + 128 else g.code - 128 })
  else m

/-- GNSS_LOST_LOCK (R303). -/
def gnssLostLock (c : Nat) (m : Mod) : Mod :=
  if m.correlating && (m.gnss.ch.getD c {}).st = 2 then m.setGch c (fun g => { g with st := 1, lostAt := some m.now }) else m

/-- GNSS_LOCK_SEARCH_END (R303): 10 s after the loss of lock. -/
def gnssLockSearchEnd (c : Nat) (m : Mod) : Mod :=
  match (m.gnss.ch.getD c {}).lostAt with
  | some t =>
    if (m.gnss.ch.getD c {}).st = 1 && t + 10000000000 ≤ m.now then
      m.setGch c (fun g => { g with st := 0, lostAt := none, cn0 := 0, res := 0 })
    else m
  | none => m

/-- The channel that is given to a newly found signal (R301): the first idle one, else the one of lowest elevation where the signal's own is
higher: higher elevations go first. -/
def Mod.freeChannel (m : Mod) (el : Nat) : Option Nat :=
  match (List.range 64).find? (fun i => (m.gnss.ch.getD i {}).st = 0) with
  | some i => some i
  | none =>
    let low := (List.range 64).foldl (fun b i => if (m.gnss.ch.getD i {}).el < (m.gnss.ch.getD b {}).el then i else b) 0
    if (m.gnss.ch.getD low {}).el < el then some low else none

/-- A channel searches on its own correlators (R303, R314): in a burst, or within 10 s of its loss of lock. -/
def Mod.narrowSearch (m : Mod) (g : GCh) : Bool :=
  g.st = 1 && (m.gnss.burst.isSome || g.lostAt.any (fun t => m.now < t + 10000000000))

/-- GNSS_SIGNAL_TRACKED (R301, R303, R314): an enabled signal of a satellite at `el` (0.01°) above the mask begins to be tracked: by the channel that
searches for it, or in a session by one newly assigned; no signal of one band is tracked in two. `low` tells QZSS L5 from L1 C/A. -/
def gnssSignalTracked (sig : Nat) (low : Bool) (prn el : Nat) (m : Mod) : Mod :=
  let band := lowerBand sig low
  if !m.correlating || 8 ≤ sig || !(m.rd P.gnssSignals).testBit sig then m
  else
    match (List.range 64).find? (fun i => let g := m.gnss.ch.getD i {}; g.st ≠ 0 && g.sig = sig && g.prn = prn % 256 && g.low = band) with
    | some c =>
      let g := m.gnss.ch.getD c {}
      if m.narrowSearch g || (g.st = 1 && m.gnss.acq = .active) then m.setGch c (fun g => { g with st := 2, lostAt := none, el := el % 65536 }) else m
    | none =>
      if m.gnss.acq = .active && m.rd P.gnssElevMask * 100 ≤ el then
        match m.freeChannel el with
        | some c => m.setGch c (fun _ => { sig := sig, prn := prn % 256, low := band, st := 2, el := el % 65536 })
        | none => m
      else m

/-- The system of a signal: 0 GPS, 1 Galileo, 2 BeiDou, 3 QZSS, 4 SBAS (R298). -/
def sysOf (sig : Nat) : Nat := if sig < 6 then sig / 2 else sig - 3

/-- The start type (R304): 0 COLD, 1 WARM, 2 HOT. Without a time of its own the module cannot judge an almanac's age, and
the spec does not say how it then decides: that answer is open. -/
def Mod.startType (m : Mod) : Nat × Mod :=
  let known := m.time.isSet && 2 ≤ (if m.time.src = 0 then m.time.from_ else m.time.src) && m.rd P.timeEps ≤ 1000000000
  let (x, m1) := m.draw
  let young : Bool := match m.nv.gnssAlm with
    | some (a, _) => if m.time.isSet then m.reported ≤ a + 180 * 86400 * 1000000000 else x % 2 = 0
    | none => false
  let hot : Bool := known && m.nv.gnssEph.any (fun e => m.reported ≤ e.2.2.1 + 4 * 3600 * 1000000000)
  if m.nv.gnssPos.isNone then (0, m1) else if hot then (2, m1) else if young then (1, m1) else (0, m1)

/-- Reported time since the last burst instant in ns, and the number of its second (R314): GNSS_KT_OFS ms into each second of reported time, or
before that time is valid each 1,000,000,000 raw counts from E_0. -/
def Mod.burstClock (m : Mod) : Int :=
  if m.time.valid then (m.reported : Int) - ((m.rd P.gnssKtOfs * 1000000 : Nat) : Int) else (m.now : Int) - (m.bist.e0 : Int)
def Mod.burstSecond (m : Mod) : Int := m.burstClock.fdiv 1000000000

/-- KEEP-TIME is entered (R315, R317): the last valid fix is held and the bursts begin at the next burst instant; without a held position good enough
the receiver tracks continuously. -/
def Mod.keepTime (m : Mod) : Mod :=
  let h := match m.gnss.fixes.head? with
    | some f => some f
    | none => m.gnss.held
  let m1 := m.setGnss (fun g => { g with held := h, untrustedBursts := 0, burstSec := some m.burstSecond })
  if h.any (fun f => f.hErr ≤ m.rd P.gnssKtPosErr) then m1
  else (m1.setGnss (fun g => { g with continuous := 1, lossFrom := m.now })).raise 101 0x0729 (leBytes 1 1)

/-- TRACK is entered (R30, R316): a fix and a loss count from now. -/
def Mod.trackBegin (m : Mod) : Mod := m.setGnss (fun g => { g with trackAt := m.now, lossFrom := m.now })

/-- The receiver begins to search in the mode in force (R304, R315, R317): its time to the first fix counts anew. -/
def Mod.gnssBegin (m : Mod) : Mod :=
  let (k, m1) := m.startType
  let m2 := (m1.setGnss (fun g => { g with startType := k, firstGrant := none, firstFix := false, continuous := 0, lost := false })).trackBegin
  (if m.sys.gnssMode = 2 then m2.keepTime else m2).acqAsk

/-- The receiver starts (R304, R408): the antenna supply as GNSS_ANT_V has it. -/
def Mod.gnssStart (m : Mod) : Mod :=
  if m.isG && !m.bist.gnssBad then
    let on := m.rd P.gnssAntV ≠ 0
    let m1 := m.setGnss (fun g => { g with started := true, antOn := on, antAt := m.now, ant := if on then 0 else 3 })
    if m.sys.gnssMode = 0 then m1 else m1.gnssBegin
  else m

/-- The receiver forgets its channels, its trust and its bursts (R305, R317). -/
def Mod.gnssQuiet (m : Mod) : Mod :=
  m.acqStop.setGnss (fun g => { g with ch := List.replicate 64 {}, trusted := false, shown := false, armed := false, count := 0,
                                       burst := none, shortBursts := 0, untrustedBursts := 0, continuous := 0, fix := 0, lastDelta := none,
                                       owed := false })

/-- A change of GNSS mode (R30, R317). -/
def Mod.gnssModeTo (m : Mod) (mode : Nat) : Mod :=
  let old := m.sys.gnssMode
  let m0 := { m with sys := { m.sys with gnssMode := mode } }
  if old = mode || !m.gnss.started then m0
  else if mode = 0 then (m0.gnssQuiet.setGnss (fun g => { g with lost := false })).gnssAvailable false
  else if old = 0 then (m0.setGnss (fun g => { g with held := if mode = 1 then none else g.held })).gnssBegin
  else if mode = 1 then
    (m0.setGnss (fun g => { g with burst := none, shortBursts := 0, continuous := 0, ch := g.ch.map (GCh.searchOn m.now) })).trackBegin.acqAsk
  else m0.keepTime

/-! ### The solution and its checks (R306 to R311) -/

/-- A satellite is removed at this instant (R308). -/
def Mod.satOut (m : Mod) (sys prn : Nat) : Bool := m.gnss.excl.any (fun e => e.1 = sys && e.2.1 = prn && m.now < e.2.2)

/-- The residuals that count in a solution: channels that track, at C/N0 and elevation above the masks, of satellites not
removed and not SBAS (R298, R302, R308). -/
def Mod.usable (m : Mod) (l : List GResid) : List GResid :=
  l.filter (fun x =>
    let g := m.gnss.ch.getD x.ch {}
    x.ch < 64 && g.st = 2 && g.sig ≠ 7 && m.rd P.gnssCn0Mask ≤ g.cn0 && m.rd P.gnssElevMask * 100 ≤ g.el && !m.satOut (sysOf g.sig) g.prn)

/-- Unknowns of a solution (R306, R314): a clock bias per system, and three of position. -/
def Mod.unknowns (m : Mod) (timeOnly : Bool) (l : List GResid) : Nat :=
  ((List.range 4).filter (fun s => l.any (fun x => sysOf (m.gnss.ch.getD x.ch {}).sig = s))).length + (if timeOnly then 0 else 3)

/-- The sine of an angle in 0.01° up to 90°, times 2^30, by its series. -/
def sin30 (a : Nat) : Int :=
  let x : Int := (a * 3373259426 / 18000 : Nat)
  let one : Int := 2 ^ 30
  let mul := fun (a b : Int) => a * b / one
  let x2 := mul x x
  let t3 := mul x x2
  let t5 := mul t3 x2
  let t7 := mul t5 x2
  let t9 := mul t7 x2
  let t11 := mul t9 x2
  x - t3 / 6 + t5 / 120 - t7 / 5040 + t9 / 362880 - t11 / 39916800

/-- 10^(k ÷ 20) times 2^20, by its twentieth power. -/
def tenRoot (k : Nat) : Nat :=
  (List.range 24).foldl (fun r i => let b := r + 2 ^ (23 - i); if b ^ 20 ≤ 10 ^ k * 2 ^ 400 then b else r) 0

/-- σ_i in µm of a channel's measurement (R306). -/
def Mod.sigmaOf (m : Mod) (g : GCh) : Nat :=
  let s := (sin30 (Nat.min g.el 9000)).toNat
  if s = 0 then 0 else m.rd P.gnssSig0 * 1000 * tenRoot (40 - g.cn0) * 2 ^ 10 / s

/-- r_i ÷ σ_i times 65,536 (R308). -/
def Mod.normResid (m : Mod) (x : GResid) : Int := rdiv (x.r * 65536000) (m.sigmaOf (m.gnss.ch.getD x.ch {}))

/-- The residual check of R308 on one set of residuals, without a root: Σ (r ÷ σ)² ≤ (threshold)² (n − u). -/
def Mod.residOk (m : Mod) (timeOnly : Bool) (l : List GResid) : Bool :=
  let u := m.unknowns timeOnly l
  u + 1 ≤ l.length
    && (l.foldl (fun s x => s + m.normResid x * m.normResid x) (0 : Int)).toNat ≤ (256 * m.rd P.gnssResThr) ^ 2 * (l.length - u)

/-- The measurement of the greatest abs(r ÷ σ) (R308). -/
def Mod.worst (m : Mod) (l : List GResid) : Option GResid :=
  l.foldl (fun b x => match b with
    | some y => if (m.normResid y).natAbs < (m.normResid x).natAbs then some x else b
    | none => some x) none

/-- One satellite is removed (R308). -/
def Mod.exclude (m : Mod) (x : GResid) : Mod :=
  let g := m.gnss.ch.getD x.ch {}
  let s := sysOf g.sig
  let m1 := m.setGnss (fun k => { k with excl := k.excl.filter (fun e => !(e.1 = s && e.2.1 = g.prn))
                                        ++ [(s, g.prn, m.now + m.rd P.gnssExclHoldS * 1000000000)] })
  ((m1.inc P.gnssExclusions).flag P.gnssFlags 8).raise 99 0x0718 (leBytes 1 s ++ leBytes 1 g.prn ++ leBytes 4 (toU 32 (rdiv (m.normResid x) 256)))

/-- The residual check with its removals (R308): the residuals of the solution that stands, and whether it passes. -/
def Mod.residCheck (timeOnly : Bool) : Nat → List (List GResid) → Mod → List GResid × Bool × Mod
  | _, [], m => ([], false, m)
  | n, l :: more, m =>
    let k := m.usable l
    if m.residOk timeOnly k then (k, true, m)
    else
      match n, m.worst k with
      | n + 1, some x =>
        match more with
        | [] => (k.filter (fun y => y.ch ≠ x.ch), false, m.exclude x)
        | _ :: _ => Mod.residCheck timeOnly n more (m.exclude x)
      | _, _ => (k, false, m)

/-- What a solution's checks find: its reason (0 none, 1 RESIDUAL, 2 OSC, 3 DRIFT, 4 FEW_SV, 5 FIRST), Δ, the bound. -/
structure Verdict where
  reason : Nat
  delta : Int
  bound : Nat
  used : List GResid
deriving DecidableEq, Repr

/-- Source time less raw count of a solution, in ns: GPS time on the PTP timescale (R321) with R300's delay. -/
def Mod.solOfs (m : Mod) (g : GnssSol) : Int :=
  (g.gps : Int) + 315964819 * 1000000000 + m.cal P.gnssDlyNow - (m.extend g.cnt : Int)

/-- The checks of R308 and R309. -/
def Mod.checkSol (m : Mod) (timeOnly : Bool) (g : GnssSol) : Verdict × Mod :=
  let (used, ok, m1) := Mod.residCheck timeOnly (m.rd P.gnssExclMax) g.tries m
  let need := if timeOnly then m.rd P.gnssKtMinSv else m.rd P.gnssMinSv
  let e := m.extend g.cnt
  let delta := m.solOfs g + (e : Int) - m.timeOf e
  let bound := m.rd P.gnssOscK * m.epsAsOf e / 256 + m.rd P.gnssOscFloor
  let jump : Bool := match m.gnss.lastDelta with
    | some d => m.rd P.gnssOscFloor < (delta - d).natAbs
    | none => false
  let reason :=
    if !ok then (if used.length < need then 4 else 1)
    else if used.length < need then 4
    else if m.time.isSet && !m.gnss.accepted && bound < delta.natAbs then 2
    else if m.rd P.gnssDriftMax * 100 < g.drift.natAbs then 3
    else if !m.time.valid && jump then 5
    else 0
  ({ reason := reason, delta := delta, bound := bound, used := used }, m1)

/-- The channels' reports are taken (R319), and their loops move (R302): the discriminator of the mode, the code and the carrier. -/
def Mod.takeReports (m : Mod) (l : List GReport) : Mod :=
  l.foldl (fun m r => m.setGch r.ch (fun g =>
    let d := discOf (m.rd P.gnssMpMode) r.corr
    let f := Config.carrierLoop (m.rd P.gnssPllBw) g.carrier (r.corr.getD 3 0)
    { g with cn0 := r.cn0 % 256, az := r.az % 65536, el := r.el % 65536, corr := r.corr, disc := d,
             code := Config.codeLoop (m.rd P.gnssDllBw) f g.code d, carrier := f })) m

/-- A correction that came at `t` applies at an epoch `e` (R306): it came before it, and is no older than GNSS_DIFF_AGE_MAX. -/
def Mod.fresh? (m : Mod) (e t : Nat) : Bool := t ≤ e && e ≤ t + m.rd P.gnssDiffAgeMax * 1000000000

/-- What corrects a satellite at an epoch (R306): 2 RTCM 3, else 1 SBAS, as GNSS_DIFF_SRC admits them and their age allows, else 0 nothing. -/
def Mod.corrOf (m : Mod) (e : Nat) (sbas : List (Nat × Nat × Nat)) (sys prn : Nat) : Nat :=
  let src := m.rd P.gnssDiffSrc
  if src.testBit 1 && m.gnss.diffs.any (fun d => d.sys = sys && d.prn = prn && (m.fresh? e d.at_ || d.old.any (m.fresh? e))) then 2
  else if src.testBit 0 && (m.rd P.gnssSignals).testBit 7 && sbas.any (fun x => x.1 = sys && x.2.1 = prn && m.fresh? e (m.extend x.2.2)) then 1
  else 0

/-- What corrects a channel's measurement for the ionosphere (R306): 2 the combination of both bands where both are tracked, 1 the SBAS grid where
SBAS is used, else 0 the broadcast model. -/
def Mod.ionoOf (m : Mod) (g : GCh) (diff : Nat) : Nat :=
  if m.gnss.ch.any (fun c => c.st = 2 && sysOf c.sig = sysOf g.sig && c.prn = g.prn && c.low ≠ g.low) then 2
  else if diff = 1 then 1 else 0

/-- A solution is published (R306, R319). -/
def Mod.publish (m : Mod) (timeOnly : Bool) (g : GnssSol) (v : Verdict) : Mod :=
  let by_ := fun (x : GResid) => let c := m.gnss.ch.getD x.ch {}; m.corrOf (m.extend g.cnt) g.sbas (sysOf c.sig) c.prn
  let fix := if timeOnly then 1 else if v.used.any (fun x => by_ x = 2) then 4 else if v.used.any (fun x => by_ x = 1) then 3 else 2
  let t := g.gps + (m.calN P.gnssDlyNow)
  let busy := (m.gnss.ch.filter (fun c => c.st ≠ 0)).length
  let trk := (m.gnss.ch.filter (fun c => c.st = 2)).length
  let pos := fun (m : Mod) => if timeOnly then m else
    (((((((m.wrI P.gnssLat g.lat).wrI P.gnssLon g.lon).wrI P.gnssHgt g.hgt).wrI P.gnssVelN g.vn).wrI P.gnssVelE g.ve).wrI
      P.gnssVelU g.vu).wr P.gnssErr (65536 * Nat.min g.vErr 65535 + Nat.min g.hErr 65535)).wr P.gnssDop
        (65536 * Nat.min g.pDop 65535 + Nat.min g.hDop 65535)
  let m1 := ((pos m).inc P.gnssFixSeq).wr P.gnssFixT g.cnt
  let m2 := m1.wr P.gnssNsv (65536 * v.used.length + 256 * trk + busy)
  let m3 := ((m2.wr P.gnssTSecLo (t / 1000000000)).wr P.gnssTSecHi (t / 1000000000 / 2 ^ 32)).wr P.gnssTNs (t % 1000000000)
  let m4 := (((m3.wr P.gnssTErr (Nat.min g.tErr 65535)).wrI P.gnssOscDelta v.delta).wrI P.gnssDrift g.drift).wr P.gnssLeap g.leap
  let m5 := v.used.foldl (fun m x => m.setGch x.ch (fun c => { c with res := x.r, diff := by_ x, iono := m.ionoOf c (by_ x) })) m4
  m5.setGnss (fun k => { k with fix := fix })

/-- A solution's trust (R310): the solution that passes is counted; one that fails restarts the count. -/
def Mod.trust (m : Mod) (v : Verdict) : Mod :=
  let n := m.rd P.gnssTrustN
  if v.reason = 0 then
    let c := Nat.min (m.gnss.count + 1) n
    if n ≤ c then m.setGnss (fun g => { g with count := c, trusted := true, shown := true, armed := true, oscLock := false, accepted := false, reason := 0 })
    else m.setGnss (fun g => { g with count := c, trusted := false, shown := false, reason := 0 })
  else
    let lock := v.reason = 2 || v.reason = 3
    let m1 := if v.reason = 2 && !m.gnss.oscLock then
        m.raise 99 0x071A (leBytes 4 (toU 32 v.delta) ++ leBytes 4 (Nat.min v.bound 0xFFFFFFFF)) else m
    let m2 := m1.setGnss (fun g => { g with count := 0, trusted := false, shown := false, armed := false, reason := v.reason, oscLock := g.oscLock || lock,
                                            accepted := g.accepted && !lock })
    let m3 := (m2.inc P.gnssUntrusted).flag P.gnssFlags 4
    if m.gnss.armed then m3.raiseOnce 99 0x0719 0 (fun _ => leBytes 1 v.reason) else m3

/-- The position is held (R30, R312): in KEEP-TIME the last fix, and in TRACK until the first. -/
def Mod.posHeld (m : Mod) : Bool := m.sys.gnssMode ≠ 0 && m.gnss.held.isSome

/-- The valid position at an instant: latitude and longitude (R312). A fix from before the move to TRACK serves no instant after it (R30). -/
def Mod.positionAt (m : Mod) (t : Nat) : Option (Int × Int) :=
  if m.sys.gnssMode = 0 then none
  else if m.posHeld && (m.sys.gnssMode = 2 || m.gnss.trackAt ≤ t) then
    if m.rd P.gnssKtPosValid = 1 && m.gnss.trusted then m.gnss.held.map (fun f => (f.lat, f.lon)) else none
  else if m.sys.gnssMode = 2 then none
  else
    match m.gnss.fixes.find? (fun f => f.t ≤ t && (t < m.gnss.trackAt || m.gnss.trackAt ≤ f.t)) with
    | some f =>
      if t ≤ f.t + m.rd P.gnssPosHoldMs * 1000000 then some (Config.advance (f.lat, f.lon) f.vn f.ve (t - f.t)) else none
    | none => none

/-- The lot's origin is the first valid position in it (R181), a fix or a held position. -/
def Mod.lotOrigin (m : Mod) : Mod :=
  if m.trk.lotOrg.isSome then m else { m with trk := { m.trk with lotOrg := m.positionAt m.now } }

/-- A trusted solution is delivered (R311, R312, R316, R321); the first valid position gives a lot its origin (R181). -/
def Mod.deliver (m : Mod) (timeOnly : Bool) (g : GnssSol) (v : Verdict) : Mod :=
  let t := m.extend g.cnt
  let m1 := (m.inc P.gnssFixes).setGnss (fun k =>
    { k with lastTrust := some m.now, untrustedBursts := 0, pos := if timeOnly then k.pos else some (g.lat, g.lon, g.hgt) })
  let m2 := if m1.gnss.firstFix || timeOnly then m1
    else
      let ttff := match m1.gnss.firstGrant with
        | some f => (t - f) / 1000000
        | none => 0
      ((m1.setGnss (fun k => { k with firstFix := true, ttff := ttff })).wr P.gnssTtff (Nat.min ttff 0xFFFFFF)).raise 97 0x0708
        (leBytes 1 (3 - m1.gnss.startType) ++ leBytes 4 ttff)
  let m3 := if m2.gnss.lost then
      (m2.setGnss (fun k => { k with lost := false })).raise 98 0x0711 (leBytes 4 (toU 32 v.delta)) else m2
  let valid := !timeOnly && 2 ≤ m3.gnss.fix && (m.rd P.gnssHErrMax = 0 || g.hErr ≤ m.rd P.gnssHErrMax)
  let f : Fix := { t := t, lat := g.lat, lon := g.lon, hgt := g.hgt, vn := g.vn, ve := g.ve, hErr := g.hErr }
  let m4 := if valid then
      m3.setGnss (fun k => { k with fixes := f :: k.fixes.filter (fun x => t ≤ x.t + 60000000000),
                                    held := if m.sys.gnssMode = 2 then some f else none }) else m3
  let m5 := m4.lotOrigin
  (({ m5 with time := { m5.time with leapKnown := true, leapDown := g.leapDown } }.wr P.timeLeap (256 * field g.leap 8 8 + (field g.leap 7 0 + 19) % 256)).gnssAvailable true).timeOffer 1 (m.solOfs g) (Nat.min g.tErr 65535)

/-- Blocks of the sample stream are lost whole at their causeway (R18): counted, and reported by an event of the receiver's sources, which the
spec gives no source and no code (log 151). -/
def Mod.streamLost (m : Mod) (n : Nat) : Mod :=
  if n = 0 then m
  else
    let r := m.draw
    (r.2.setGnss (fun g => { g with blocksLost := g.blocksLost + n })).raise (96 + toU 32 r.1 % 6) (toU 16 (r.1 / 6)) (leBytes 4 n)

/-- One solution taken: checks, publication, trust, delivery. -/
def Mod.takeSol (m : Mod) (timeOnly : Bool) (g : GnssSol) : Mod :=
  let m0 := (m.streamLost g.lost).takeReports g.reports
  let (v, m1) := m0.checkSol timeOnly g
  let m2 := if v.used = [] then m1.setGnss (fun k => { k with fix := 0 }) else m1.publish timeOnly g v
  let m3 := (m2.trust v).setGnss (fun k => { k with lastDelta := if v.used = [] then none else some v.delta })
  let m4 := if m3.gnss.trusted then m3.deliver timeOnly g v else m3
  let at_ := g.gps + 315964819 * 1000000000
  let m5 := match g.alm with
    | some a => { m4 with nv := { m4.nv with gnssAlm := some (at_, a) } }
    | none => m4
  g.eph.foldl (fun m e => { m with nv := { m.nv with
    gnssEph := m.nv.gnssEph.filter (fun x => !(x.1 = e.1 && x.2.1 = e.2.1)) ++ [(e.1, e.2.1, at_, e.2.2)] } }) m5

/-- Raw counts between epochs (R306): GNSS_RATE 1, 2, 5 or 10 Hz. -/
def Mod.epochEvery (m : Mod) : Nat :=
  match m.rd P.gnssRate with
  | 0 => 1000000000
  | 1 => 500000000
  | 2 => 200000000
  | _ => 100000000

/-- GNSS_EPOCH (R306 to R311, R315): a solution within 50 ms of its epoch, a period of GNSS_RATE after the last one; in KEEP-TIME only while
tracking continuously, which ends as R315 says. -/
def gnssEpoch (g : GnssSol) (m : Mod) : Mod :=
  let e := m.extend g.cnt
  if m.gnssOn && (m.sys.gnssMode = 1 || m.gnss.continuous ≠ 0) && m.gnss.epochAt.all (fun a => a + m.epochEvery ≤ e) && m.now ≤ e + 50000000 then
    let m1 := (m.setGnss (fun k => { k with epochAt := some e })).takeSol false g
    let trk := (m1.gnss.ch.filter (fun c => c.st = 2)).length
    let done := (m1.gnss.continuous = 1 && m1.gnss.trusted && m1.gnss.fixes.head?.any (fun f => f.t = e))
      || (m1.gnss.continuous = 2 && m.rd P.gnssKtMinSv ≤ trk)
    if done then m1.setGnss (fun k => { k with continuous := 0, shortBursts := 0 }) else m1
  else m

/-- GNSS_EXCLUSION_EXPIRE (R308). -/
def gnssExclusionExpire (sys prn : Nat) (m : Mod) : Mod :=
  m.setGnss (fun g => { g with excl := g.excl.filter (fun e => !(e.1 = sys && e.2.1 = prn && e.2.2 ≤ m.now)) })

/-- GNSS_DIFF_STALE (R307). -/
def gnssDiffStale (m : Mod) : Mod :=
  match m.gnss.corr with
  | some t =>
    if !m.gnss.stale && t + m.rd P.gnssDiffAgeMax * 1000000000 < m.now then
      ((m.setGnss (fun g => { g with stale := true })).flag P.gnssFlags 2).raise 100 0x0720 (leBytes 1 1)
    else m
  | none => m

/-- A message number the receiver uses (R307). -/
def rtcmUsed (n : Nat) : Bool :=
  [1005, 1006, 1074, 1075, 1077, 1094, 1095, 1097, 1114, 1115, 1117, 1124, 1125, 1127].contains n

/-- `n` bits of a message at bit `o`, the most significant first. -/
def bitsAt (b : List Byte) (o n : Nat) : Nat := beVal b / 2 ^ (8 * b.length - o - n) % 2 ^ n

/-- The station's position of message 1005 or 1006 in 0.1 mm (R307): three fields of 38 bits. -/
def stationOf (b : List Byte) : Int × Int × Int := (sext 38 (bitsAt b 34 38), sext 38 (bitsAt b 74 38), sext 38 (bitsAt b 114 38))

/-- The pseudoranges of an MSM message (R307): system, PRN and the first signal's pseudorange in 2^-29 light-ms, of each satellite that has one. The
layout is RTCM 10403's: masks at bits 73, 137 and 169, then the satellites' rough ranges, then the signals' fine pseudoranges. -/
def msmRanges (n : Nat) (b : List Byte) : List (Nat × Nat × Nat) :=
  let sys := if n < 1094 then 0 else if n < 1114 then 1 else if n < 1124 then 3 else 2
  let more := n % 10 ≠ 4
  let wide := n % 10 = 7
  let sats := (List.range 64).filter (fun i => bitsAt b (73 + i) 1 = 1)
  let k := sats.length
  let g := ((List.range 32).filter (fun i => bitsAt b (137 + i) 1 = 1)).length
  let base := 169 + k * g
  let fine := base + k * (if more then 36 else 18)
  let w := if wide then 20 else 15
  let cells := (List.range (k * g)).filter (fun c => bitsAt b (169 + c) 1 = 1)
  (sats.zip (List.range k)).filterMap (fun (i, j) =>
    match (cells.zip (List.range cells.length)).find? (fun c => c.1 / g = j) with
    | some (_, q) =>
      let whole := bitsAt b (base + 8 * j) 8
      let part := bitsAt b (base + (if more then 12 else 8) * k + 10 * j) 10
      let f := sext w (bitsAt b (fine + w * q) w)
      if whole = 255 || f = -((2 ^ (w - 1) : Nat) : Int) then none
      else some (sys, (i + 1 + (if sys = 3 then 192 else 0)) % 256,
        (((whole * 2 ^ 29 + part * 2 ^ 19 : Nat) : Int) + f * (if wide then 1 else 32)).toNat)
    | none => none)

/-- The code-differential corrections that an MSM message gives (R307), once the station's position is known. -/
def Mod.corrections (m : Mod) (n : Nat) (b : List Byte) : List GDiff :=
  match m.gnss.station with
  | some p => (msmRanges n b).map (fun (s, q, r) =>
      { sys := s, prn := q, at_ := m.now, old := (m.gnss.diffs.find? (fun d => d.sys = s && d.prn = q)).map (·.at_), range := r,
        val := Config.codeCorrection p s q r })
  | none => []

/-- An RTCM 3 message of number `n` reaches the receiver (R307, R381): pseudoranges are corrections, 1005 and 1006 the station. -/
def Mod.rtcm (m : Mod) (e : Nat × List Byte) : Mod :=
  let n := e.1
  if !m.isG || !rtcmUsed n then m
  else
    let m1 := m.setGnss (fun g => { g with corrMsgs := assocAdd g.corrMsgs n 1, corrData := assocSet g.corrData n e.2 })
    if n ≤ 1006 then m1.setGnss (fun g => { g with station := some (stationOf e.2) })
    else
      let l := m.corrections n e.2
      if l = [] then m1
      else
        let m2 := m1.setGnss (fun g => { g with diffs := g.diffs.filter (fun d => !l.any (fun x => x.sys = d.sys && x.prn = d.prn)) ++ l,
                                                corr := some m.now, stale := false })
        if m.gnss.stale then m2.raise 100 0x0721 (leBytes 1 1) else m2

/-- The effect of a write of 1 to GNSS_ACCEPT (R310). -/
def Mod.gnssAcceptNow (m : Mod) : Mod :=
  if m.gnss.oscLock then
    (m.setGnss (fun g => { g with oscLock := false, accepted := true, count := 0 })).raise 99 0x071B
      (leBytes 4 (toU 32 ((m.gnss.lastDelta).getD 0)))
  else m

/-- The effect of a write of 1 to GNSS_COLD (R305): what is stored is discarded, and the receiver restarts cold. -/
def Mod.gnssColdNow (m : Mod) : Mod :=
  if !m.isG then m
  else
    let m1 := { m with nv := { m.nv with gnssAlm := none, gnssEph := [], gnssPos := none, gnssDrift := 0, gnssLeap := 0 } }
    if !m.gnss.started then m1
    else
      let m2 := m1.gnssQuiet.setGnss (fun g => { g with pos := none, startType := 0, firstGrant := none, fixes := [], held := none, lastTrust := none })
      if m.sys.gnssMode = 0 then m2 else m2.gnssBegin

/-! ### Keep-time and loss (R314 to R316) -/

/-- A burst instant has come within the last millisecond, the unit of GNSS_KT_OFS (R314, log 144). -/
def Mod.burstNow (m : Mod) : Bool := m.burstClock.fmod 1000000000 < 1000000

/-- GNSS_BURST_START (R314): once at each burst instant; each channel searches for its signal. -/
def gnssBurstStart (m : Mod) : Mod :=
  if m.gnssOn && m.sys.gnssMode = 2 && m.gnss.continuous = 0 && m.gnss.burst.isNone && m.burstNow && m.gnss.burstSec ≠ some m.burstSecond then
    (m.setGnss (fun g =>
      { g with burst := some m.now, burstSec := some m.burstSecond, ch := g.ch.map (fun c => if c.st = 2 then { c with st := 1 } else c) })).inc
      P.gnssBursts
  else m

/-- GNSS_BURST_END (R314, R315), 40 ms after its start: the burst's time-only solution, or its shortfall. -/
def gnssBurstEnd (g : GnssSol) (m : Mod) : Mod :=
  if m.gnssOn && m.gnss.burst.any (fun b => b + 40000000 ≤ m.now) then
    let m0 := m.setGnss (fun k => { k with burst := none, ch := k.ch.map (GCh.searchOn m.now) })
    let n := ((m0.takeReports g.reports).usable (g.tries.headD [])).length
    let m1 := m0.takeSol true g
    let m2 := if m1.gnss.trusted then m1 else m1.setGnss (fun k => { k with untrustedBursts := k.untrustedBursts + 1 })
    if n < m.rd P.gnssKtMinSv then
      let m3 := (m2.flag P.gnssFlags 1).raise 101 0x0728 (leBytes 1 n)
      if 1 ≤ m.gnss.shortBursts then
        ((m3.setGnss (fun k => { k with shortBursts := 0, continuous := 2, lossFrom := m.now })).raise 101 0x0729 (leBytes 1 2)).acqAsk
      else m3.setGnss (fun k => { k with shortBursts := 1 })
    else m2.setGnss (fun k => { k with shortBursts := 0 })
  else m

/-- GNSS_LOSS (R316): no trusted solution delivered for GNSS_LOSS_MS of TRACK or of continuous tracking, or over two bursts. A trust that stood is to
be regained; a count that already runs goes on (R310). -/
def gnssLoss (m : Mod) : Mod :=
  let timed := m.sys.gnssMode = 1 || m.gnss.continuous ≠ 0
  let late : Bool := (timed && Nat.max (m.gnss.lastTrust.getD 0) m.gnss.lossFrom + m.rd P.gnssLossMs * 1000000 ≤ m.now)
    || (m.sys.gnssMode = 2 && 2 ≤ m.gnss.untrustedBursts)
  if m.gnssOn && !m.gnss.lost && late then
    let cause := if m.gnss.ch.any (fun c => c.st = 2) then 2 else 1
    let m1 := m.setGnss (fun g => { g with lost := true, trusted := false, count := if g.trusted then 0 else g.count })
    (((m1.inc P.gnssLosses).flag P.gnssFlags 16).raise 98 0x0710 (leBytes 1 cause)).gnssAvailable false
  else m

/-! ### Positions (R312) and views (R319) -/

/-- RECEIVER of GNSS_STATE. -/
def Mod.receiver (m : Mod) : Nat :=
  if !m.gnssOn then 0
  else if m.gnss.burst.isSome then 4
  else if m.gnss.acq = .active then 2
  else if m.gnss.acq = .asked then 1
  else if m.gnss.ch.any (fun c => c.st = 2) then 3
  else 5

/-- GNSS_STATE (R319). -/
def Mod.gnssState (m : Mod) : Nat :=
  8192 * m.receiver + 1024 * m.gnss.fix + 512 * bit m.gnss.shown + 256 * bit m.posHeld + 128 * bit (m.positionAt m.now).isSome
    + 16 * m.gnss.reason + 8 * bit m.gnss.oscLock + 2 * m.gnss.ant + bit (m.gnss.startType = 2)

/-- Word `w` of GNSS_CH of a channel (R319). -/
def Mod.gnssChWord (m : Mod) (i : Nat) : Nat :=
  let c := m.gnss.ch.getD (i / 4) {}
  match i % 4 with
  | 0 => 16777216 * c.sig + 65536 * c.prn + 256 * c.cn0 + c.st
  | 1 => 65536 * c.az + c.el
  | 2 => toU 32 c.res
  | _ => c.mp

/-- The milestone stores the last trusted position, the oscillator offset and the leap seconds (R305). -/
def Mod.gnssStore (m : Mod) : Mod :=
  let due : Bool := match m.gnss.storedAt with
    | some t => t + 10000000000 ≤ m.now
    | none => true
  if m.gnss.lastTrust.isSome && due then
    { m with gnss := { m.gnss with storedAt := some m.now },
             nv := { m.nv with gnssPos := m.gnss.pos.orElse (fun _ => m.nv.gnssPos), gnssDrift := m.rdI P.gnssDrift, gnssLeap := m.rd P.gnssLeap } }
  else m

/-! ### The commands as the queue gives them -/

/-- ANTENNA_OPEN (R299). -/
def execAntennaOpen (t ma : Nat) (s : State) : Host.Outcome State Fault Refusal := s.run t (antennaOpen ma)

/-- ANTENNA_SHORT (R299). -/
def execAntennaShort (t ma : Nat) (s : State) : Host.Outcome State Fault Refusal := s.run t (antennaShort ma)

/-- ANTENNA_RETRY (R299). -/
def execAntennaRetry (t : Nat) (s : State) : Host.Outcome State Fault Refusal := s.run t antennaRetry

/-- ANTENNA_NORMAL (R299). -/
def execAntennaNormal (t ma : Nat) (s : State) : Host.Outcome State Fault Refusal := s.run t (antennaNormal ma)

/-- GNSS_ACQ_REQUEST (R303). -/
def execGnssAcqRequest (t : Nat) (s : State) : Host.Outcome State Fault Refusal := s.run t gnssAcqRequest

/-- GNSS_ACQ_END (R303). -/
def execGnssAcqEnd (t : Nat) (all : Bool) (s : State) : Host.Outcome State Fault Refusal := s.run t (gnssAcqEnd all)

/-- GNSS_SIDE_PEAK (R302). -/
def execGnssSidePeak (t c ve p vl : Nat) (s : State) : Host.Outcome State Fault Refusal := s.run t (gnssSidePeak c ve p vl)

/-- GNSS_EPOCH (R306). -/
def execGnssEpoch (t : Nat) (g : GnssSol) (s : State) : Host.Outcome State Fault Refusal := s.run t (gnssEpoch g)

/-- GNSS_EXCLUSION_EXPIRE (R308). -/
def execGnssExclusionExpire (t sys prn : Nat) (s : State) : Host.Outcome State Fault Refusal := s.run t (gnssExclusionExpire sys prn)

/-- GNSS_DIFF_STALE (R307). -/
def execGnssDiffStale (t : Nat) (s : State) : Host.Outcome State Fault Refusal := s.run t gnssDiffStale

/-- GNSS_BURST_START (R314). -/
def execGnssBurstStart (t : Nat) (s : State) : Host.Outcome State Fault Refusal := s.run t gnssBurstStart

/-- GNSS_BURST_END (R314). -/
def execGnssBurstEnd (t : Nat) (g : GnssSol) (s : State) : Host.Outcome State Fault Refusal := s.run t (gnssBurstEnd g)

/-- GNSS_LOSS (R316). -/
def execGnssLoss (t : Nat) (s : State) : Host.Outcome State Fault Refusal := s.run t gnssLoss

/-- GNSS_LOST_LOCK (R303). -/
def execGnssLostLock (t c : Nat) (s : State) : Host.Outcome State Fault Refusal := s.run t (gnssLostLock c)

/-- GNSS_LOCK_SEARCH_END (R303). -/
def execGnssLockSearchEnd (t c : Nat) (s : State) : Host.Outcome State Fault Refusal := s.run t (gnssLockSearchEnd c)

/-- GNSS_SIGNAL_TRACKED (R303). -/
def execGnssSignalTracked (t sig : Nat) (low : Bool) (prn el : Nat) (s : State) : Host.Outcome State Fault Refusal :=
  s.run t (gnssSignalTracked sig low prn el)

end Sys2Proof.Machine
end

