-- ==== Sys2Proof/Machine/Tally.lean ====
section
/-!
DEFINITION. Machine/Tally.lean: tallies, quality maps, the lot and the rates for the loop engine (R161, R179 to R182).
-/
namespace Sys2Proof.Machine

/-! ### Recipes -/

/-- The default action of a recipe (R41): true for REJECT. -/
def Mod.dfltOf (m : Mod) (r : Nat) : Bool :=
  match m.sys.rb with
  | some rb => (rb.recipes.find? (fun q => q.idx = r)).any (fun q => q.dflt = 1)
  | none => false

/-! ### Tallies (R180) -/

/-- The tally of a recipe. -/
def Mod.tally (m : Mod) (r : Nat) : Tally := m.trk.tally.getD r {}

/-- The tally of a recipe changed. -/
def Mod.setTally (m : Mod) (r : Nat) (f : Tally → Tally) : Mod :=
  { m with trk := { m.trk with tally := updAt m.trk.tally r f } }

/-- The interval is closed to new pieces and not yet final. -/
def Tally.closing (t : Tally) : Bool := t.num ≠ 0 && !t.isOpen && !t.isFinal

/-- An interval becomes final (R180). -/
def Mod.tallyFinal (m : Mod) (r : Nat) : Mod :=
  (m.setTally r (fun t => { t with isOpen := false, isFinal := true })).raise 54 0x0329
    (leBytes 1 r ++ leBytes 2 (m.tally r).num)

/-- A closed interval whose last piece has closed becomes final (R180). -/
def Mod.tallySettle (m : Mod) (r : Nat) : Mod :=
  if (m.tally r).closing && !m.trk.live.any (fun t => t.recipe = r) then m.tallyFinal r else m

/-- A recipe's interval opens (R180, R422); one that was not final becomes so. -/
def Mod.tallyOpen (m : Mod) (r : Nat) : Mod :=
  let m1 := if (m.tally r).closing || (m.tally r).isOpen then m.tallyFinal r else m
  m1.setTally r (fun t => { isOpen := true, num := t.num + 1, tOpen := m.raw })

/-- A recipe's interval is closed to new pieces (R180). -/
def Mod.tallyClose (m : Mod) (r : Nat) : Mod :=
  if (m.tally r).isOpen then (m.setTally r (fun t => { t with isOpen := false, tClose := m.raw })).tallySettle r else m

/-- The intervals that a restored milestone left open or not final are closed with its raw count (R422). -/
def Mod.tallyRecover (m : Mod) (mj : Nat) : Mod :=
  (List.range 16).foldl (fun m r =>
    if (m.tally r).closing || (m.tally r).isOpen then
      (m.setTally r (fun t => { t with isOpen := false, tClose := mj % 2 ^ 32 })).tallyFinal r
    else m) m

/-- What the tally and the map take of a closed piece (R180, R181). -/
structure Account where
  recipe : Nat
  outcome : Nat
  flags : Nat
  mass : Nat
  /-- Reported class of a decided piece. -/
  cls : Option Nat
  /-- Never tracked, for want of a slot (R161). -/
  tableFull : Bool := false
deriving DecidableEq, Repr

/-- The estimated mass counts as accepted: the piece was not blown. -/
def Account.accepted (a : Account) : Bool := a.outcome = 1 || a.outcome = 3 || a.outcome = 4

/-- A tally with a piece added (R180). -/
def Tally.add (t : Tally) (a : Account) : Tally :=
  let up := fun (n : Nat) (b : Bool) => if b then (n + 1) % 2 ^ 32 else n
  { t with
    out := updAt t.out (a.outcome - 1) (fun n => up n true), contra := up t.contra (a.flags.testBit 2),
    degraded := up t.degraded (a.flags.testBit 1), revised := up t.revised (a.flags.testBit 8),
    late := up t.late (a.flags.testBit 9), massAcc := t.massAcc + (if a.accepted then a.mass else 0),
    massRej := t.massRej + (if a.accepted then 0 else a.mass), tableFull := up t.tableFull a.tableFull,
    cls := match a.cls with
      | some c => updAt t.cls c (fun n => up n true)
      | none => t.cls }

/-- The lifetime count of an outcome, saturating (R416). -/
def Mod.lifeCount (m : Mod) (o : Nat) : Mod :=
  { m with bist := { m.bist with life := updAt m.bist.life (o - 1) (fun n => Nat.min (n + 1) 0xFFFFFFFF) } }

/-- A piece is tallied (R180). -/
def Mod.tallyPiece (m : Mod) (a : Account) : Mod :=
  (((m.setTally a.recipe (fun t => t.add a)).inc P.trkOut (a.outcome - 1)).lifeCount a.outcome).tallySettle a.recipe

/-- Word `w` of a tally's 32 words (R180). -/
def Tally.word (t : Tally) (w : Nat) : Nat :=
  let v := match w with
    | 0 => 2 ^ 31 * bit t.isOpen + 2 ^ 30 * bit t.isFinal + t.num % 65536
    | 1 => t.tOpen
    | 2 => t.tClose
    | 8 => t.contra
    | 9 => t.degraded
    | 10 => t.revised
    | 11 => t.late
    | 12 => t.massAcc / 1000
    | 13 => t.massRej / 1000
    | 14 => t.tableFull
    | 15 => 0
    | n => if n < 8 then t.out.getD (n - 3) 0 else t.cls.getD (n - 16) 0
  v % 2 ^ 32

/-! ### Quality maps (R181) -/

/-- A map cell with a piece added. -/
def MapCell.add (c : MapCell) (a : Account) (sec : Nat) : MapCell :=
  let up := fun (n : Nat) (b : Bool) => if b then (n + 1) % 2 ^ 32 else n
  { c with
    acc := up c.acc (a.outcome = 1), rej := up c.rej (a.outcome = 2), missed := up c.missed (a.outcome = 3),
    dead := up c.dead (a.outcome = 4 || a.outcome = 5), massAcc := c.massAcc + (if a.accepted then a.mass else 0),
    massRej := c.massRej + (if a.accepted then 0 else a.mass), lastSec := sec,
    cls := match a.cls with
      | some k => updAt c.cls k (fun n => Nat.min (n + 1) 65535)
      | none => c.cls }

/-- A cell of the map with its key; a cell that another bin held is cleared. -/
def Mod.mapCell (m : Mod) (i key : Nat) : MapCell :=
  match m.trk.map.find? (fun c => c.cell = i) with
  | some c => if c.key = key then c else { cell := i, key := key }
  | none => { cell := i, key := key }

/-- A map cell stored. -/
def Mod.setMapCell (m : Mod) (c : MapCell) : Mod :=
  { m with trk := { m.trk with map := m.trk.map.filter (fun d => d.cell ≠ c.cell) ++ [c] } }

/-- The cell of an offset east and north in dm (R181); none outside the grid. -/
def mapIndex (size : Nat) (e n : Int) : Option Nat :=
  let r := n.fdiv size + 127
  let c := e.fdiv size + 128
  if 0 ≤ r && r ≤ 254 && 0 ≤ c && c ≤ 255 then some (r.toNat * 256 + c.toNat) else none

/-- The position of a piece that closes now, as the position map takes it (R181). -/
def Mod.mapPos (m : Mod) : Option (Int × Int) := m.positionAt (m.now - m.rd P.trkMapDelayMs * 1000000)

/-- A piece that closes now has no valid position for the position map (R24, R181). -/
def Mod.mapLost (m : Mod) : Bool := m.rd P.trkMapKind = 2 && m.mapPos.isNone

/-- A piece enters the map (R181); whether it had no valid position. While the lot has no origin, no position is valid for it (log 64). -/
def Mod.mapPiece (m : Mod) (a : Account) : Mod × Bool :=
  let sec := m.log.opSec
  match m.rd P.trkMapKind with
  | 1 =>
    let s := sec - m.trk.lotSec
    let bin := Nat.max 1 (m.rd P.trkMapBinS)
    (m.setMapCell ((m.mapCell (s / bin % 65536) (s / bin * bin)).add a sec), false)
  | 2 =>
    let m1 := m.lotOrigin
    match m.mapPos, m1.trk.lotOrg with
    | some p, some org =>
      let d := Config.eastNorth org p
      match mapIndex (Nat.max 1 (m.rd P.trkMapCellDm)) d.1 d.2 with
      | some i => (m1.setMapCell ((m.mapCell i 0).add a sec), false)
      | none => ((m1.setMapCell ((m.mapCell 65281 0).add a sec)).raise 55 0x032A (leBytes 4 m.trk.lotId), false)
    | _, _ => (m1.setMapCell ((m.mapCell 65280 0).add a sec), true)
  | _ => (m, false)

/-- The 64-byte record of a map cell (R181). -/
def MapCell.bytes (c : MapCell) : List Byte :=
  leBytes 4 c.key ++ leBytes 4 c.acc ++ leBytes 4 c.rej ++ leBytes 4 c.missed ++ leBytes 4 c.dead
    ++ leBytes 4 (c.massAcc / 1000 % 2 ^ 32) ++ leBytes 4 (c.massRej / 1000 % 2 ^ 32) ++ leBytes 4 c.lastSec
    ++ c.cls.flatMap (fun n => leBytes 2 n)

/-! ### The lot and the loop engine's rates (R182) -/

/-- TRK_LOT (R182): the lot closes at the next milestone. -/
def trkLotWrite (v : Nat) (m : Mod) : Mod := if v % 2 = 1 then { m with trk := { m.trk with lotReq := true } } else m

/-- A requested lot closes at a milestone, and the next one opens (R181, R182). -/
def Mod.lotClose (m : Mod) : Mod :=
  if m.trk.lotReq then
    let old := m.trk.lotId
    let m1 : Mod := { m with trk := { m.trk with lotReq := false, lotId := (old + 1) % 2 ^ 32, map := [], lotSec := m.log.opSec,
                                                 lotOrg := none } }
    m1.lotOrigin.raise 54 0x0328 (leBytes 4 old)
  else m

/-- The zone of a lane block (R182): zone z holds floor(z × B ÷ 8) to floor((z + 1) × B ÷ 8) − 1. -/
def rateZone (b lane : Nat) : Nat := if b = 0 then 0 else Nat.min 7 (((lane + 1) * 8 - 1) / b)

/-- A zone's rates with a piece added (R182). -/
def ZoneRate.add (z : ZoneRate) (a : Account) : ZoneRate :=
  { pieces := z.pieces + 1, rejected := z.rejected + bit (a.outcome = 2 || a.outcome = 5),
    missed := z.missed + bit (a.outcome = 3), massAcc := z.massAcc + (if a.accepted then a.mass else 0),
    massRej := z.massRej + (if a.accepted then 0 else a.mass) }

/-- A closed piece enters the rates of its zone and of the whole curtain (R182). -/
def Mod.ratePiece (m : Mod) (a : Account) (lane : Nat) : Mod :=
  let up := fun (l : List ZoneRate) (z : Nat) => updAt l z (fun r => r.add a)
  { m with trk := { m.trk with rates := up (up m.trk.rates (rateZone m.laneCount lane)) 8 } }

/-- The five published values of a zone in thousandths of their units (R182, R276), over `ns`. -/
def ZoneRate.publish (z : ZoneRate) (ns : Nat) : List Int :=
  let per := fun (n : Nat) => rdiv ((n * 1000000000000 : Nat) : Int) ns
  [per z.pieces, per z.rejected, per z.missed, rdiv ((z.massAcc * 1000000000 : Nat) : Int) ns,
   rdiv ((z.massRej * 1000000000 : Nat) : Int) ns]

/-- TALLY_LOOP_PUBLISH (R182): every TRK_LOOP_PERIOD. -/
def tallyLoopPublish (m : Mod) : Mod :=
  let ns := m.now - m.trk.rateFrom
  if m.running && m.rd P.trkLoopPeriod * 1000000 ≤ ns && 0 < ns then
    { m with trk := { m.trk with pub := m.trk.rates.flatMap (fun z => z.publish ns), pubAt := some m.now, rateFrom := m.now,
                                 rates := List.replicate 9 {} } }
  else m

/-- TRK_CLR (R184). -/
def trkClr (m : Mod) : Mod := m.wr P.trkLivePeak 0

/-! ### The commands as the queue gives them -/

/-- TALLY_LOOP_PUBLISH (R182). -/
def execTallyLoopPublish (t : Nat) (s : State) : Host.Outcome State Fault Refusal := s.run t tallyLoopPublish

end Sys2Proof.Machine
end

