-- ==== Sys2Proof/Machine/Track.lean ====
section
/-!
DEFINITION. Machine/Track.lean: tracks up to their admission to a piece job: the entry (R159), readiness (R148, R170),
the default action (R175), the job dispatcher (R126, R128, R420), lost revisions (R177).
-/
namespace Sys2Proof.Machine

/-! ### What a track has latched and gathered (R29, R50, R159) -/

/-- A flag word with bit `n` set to a truth value. -/
def flagTo (f n : Nat) (b : Bool) : Nat := if b then f ||| 2 ^ n else if f.testBit n then f - 2 ^ n else f

/-- Ports that the latched variant excludes. -/
def Track.excl (t : Track) : Nat :=
  match t.variant with
  | some i => field (lrd t.vals P.fusVariant i) 7 0
  | none => 0

/-- Sensors of the latched set (R29): the ports in use that it does not exclude. -/
def Track.ports (t : Track) : List Nat := (List.range 8).filter (fun p => lrd t.vals P.camEn p = 1 && !t.excl.testBit p)

/-- A port's height in force for the piece (R50, R134). -/
def Mod.trkHt (m : Mod) (t : Track) (p : Nat) : Nat := (calVal m.nv.calf t.calu P.fusHNow p 0).toNat

/-- An observation of a port is associated. -/
def Track.saw (t : Track) (p : Nat) : Bool := t.obs.any (fun o => o.port = p)

/-- Every port of the set has an observation. -/
def Track.sawAll (t : Track) : Bool := t.ports.all t.saw

/-- Every observation associated with it, those that it has not acted on too (R159, R164). -/
def Track.assoc (t : Track) : List Obs := t.obs ++ t.held ++ t.recorded

/-- Ports with an observation associated: PORTS_SEEN (R159). -/
def Track.seen (t : Track) (p : Nat) : Bool := t.assoc.any (fun o => o.port = p)

/-- A sensor's features are missing among observations (R137, R148); a required sensor's observation may come until the latest start (R170). -/
def Track.missing (t : Track) (obs : List Obs) (p : Nat) : Bool :=
  let os := obs.filter (fun o => o.port = p)
  t.overdue.testBit p || os = [] || lrd t.vals P.fusLostMax * sumOf (os.map (·.lines)) < 100 * sumOf (os.map (·.lost))
    || (lrd t.vals P.fusBgiAction = 1 && os.any (·.bgi))

/-- A required sensor is missing (R148). -/
def Track.lacks (t : Track) (obs : List Obs) : Bool :=
  t.ports.any (fun p => (lrd t.vals P.fusRequired).testBit p && t.missing obs p)

/-- The entry's fields formed from its observations (R159). -/
def Track.gather (t : Track) (lanes : Nat) : Track :=
  let mass := sumOf (t.obs.map (·.mass))
  let xa := rdiv (t.obs.foldl (fun a o => a + (o.mass : Int) * o.xa) 0) mass
  let f := flagTo (flagTo (flagTo (flagTo t.flags 11 (t.obs.any (·.edge))) 10 (t.obs.any (·.span))) 5 (t.obs.any (·.oversize)))
    4 (t.obs.any (·.bgi))
  { t with
    flags := f, tFirst := (t.obs.map (·.t)).foldl Nat.min t.tFirst,
    ta := (rdiv ((sumOf (t.obs.map (fun o => o.mass * o.ta)) : Nat) : Int) mass).toNat, xa := xa,
    lane := Nat.min (xa.toNat / 16384) (lanes - 1),
    colFirst := (t.obs.map (·.colFirst)).foldl Nat.min t.colFirst, colLast := maxOf t.colLast (t.obs.map (·.colLast)) }

/-- An observation joins a track. -/
def Mod.addObs (m : Mod) (serial : Nat) (o : Obs) : Mod :=
  m.setTrack serial (fun t => { t with obs := t.obs ++ [o] }.gather m.laneCount)

/-! ### The entry as it reads (R159, R160) -/

/-- STATE of R169. -/
def TState.code : TState → Nat
  | .free => 0 | .open_ => 1 | .ready => 2 | .running => 3 | .decided => 4 | .revising => 5 | .committed => 6

/-- The port whose settings sequence numbers the entry shows (R159). -/
def Track.seqPort (t : Track) : Option Nat :=
  match (List.range 8).filter (fun p => t.assoc.any (fun o => o.port = p && o.span)) with
  | p :: _ => some p
  | [] => ((List.range 8).filter t.seen).head?

/-- SEQ0 and SEQ1 (R159). -/
def Track.seqs (t : Track) : Nat × Nat :=
  match t.seqPort with
  | none => (0, 0)
  | some p =>
    let os := sortBy (fun a b => a.t ≤ b.t) (t.assoc.filter (fun o => o.port = p))
    ((os.map (·.seq0)).headD 0, (os.map (·.seq1)).getLastD 0)

/-- The 64 bytes of a track entry (R159). -/
def Track.bytes (t : Track) : List Byte :=
  let raw := fun (n : Nat) => leBytes 4 (n % 2 ^ 32)
  leBytes 4 t.serial ++ leBytes 1 t.st.code ++ leBytes 1 t.recipe
    ++ leBytes 1 (128 * bit t.variant.isSome + t.variant.getD 0) ++ leBytes 1 t.outcome
    ++ leBytes 4 (t.flags + 65536 * t.cause) ++ raw t.tFirst ++ raw t.ta ++ leBytes 3 (toU 24 t.xa) ++ leBytes 1 t.lane
    ++ leBytes 2 t.colFirst ++ leBytes 2 t.colLast ++ raw t.tCross ++ raw t.tCommit ++ raw t.tDecided
    ++ leBytes 1 (maskOf ((List.range 8).filter t.seen)) ++ leBytes 1 t.portsLate
    ++ leBytes 1 (maskOf ((List.range 8).filter (fun p => t.assoc.any (fun o => o.port = p && o.span))))
    ++ leBytes 1 (128 * bit t.verdict + 64 * bit t.cverdict + t.cls) ++ leBytes 2 t.seqs.1 ++ leBytes 2 t.seqs.2
    ++ leBytes 3 t.mass ++ leBytes 1 t.score ++ leBytes 4 (Config.mainRef 0 t.slot)
    ++ leBytes 4 (if t.plan.isSome then Config.mainRef 1 t.slot else 0) ++ raw t.tClose

/-- The entry of a slot: a live track's, else a closed one's (R160). -/
def Mod.entryOf (m : Mod) (slot : Nat) : List Byte :=
  match (m.trk.live ++ m.trk.done).find? (fun t => t.slot = slot) with
  | some t => t.bytes
  | none => List.replicate 64 0

/-! ### The default action and lost revisions (R175, R177) -/

/-- T_CROSS of a track with the triples in force (R141, R142). -/
def Mod.crossOf (m : Mod) (t : Track) : Nat :=
  trackTime (m.lane t.lane) (m.rd P.fusHRef) (m.rd P.fusDhMin) (pointsOf (m.trkHt t) t.obs) 0

/-- A waiting piece leaves the admission queue. -/
def Mod.unwait (m : Mod) (serial : Nat) : Mod :=
  { m with cell := { m.cell with queue := m.cell.queue.filter (fun w => w.serial ≠ serial) } }

/-- The plan of a default action of REJECT (R175, R188), and its pulses. -/
def Mod.defaultPlan (m : Mod) (t : Track) (tCross : Nat) : Mod :=
  let plan := m.makePlan t.delays t.vals (m.trkHt t) t.obs t.colFirst t.colLast (m.lane t.lane) t.ta tCross true true false
  ((m.setTrack t.serial (fun t => { t with plan := some plan, tCommit := plan.commit })).noteClip t.serial plan).insertPlan t.serial

/-- SENSOR_MISSING of a piece that takes the default action (R148, R175): every due instant has passed and a required sensor's features
are missing. -/
def Track.short (t : Track) (cause : Nat) : Bool := cause = 7 || (t.readyAt.isSome && t.lacks t.obs)

/-- The observations that a track has held join it (R177). -/
def Mod.joinHeld (m : Mod) (serial : Nat) : Mod :=
  match m.track? serial with
  | none => m
  | some t => t.held.foldl (fun m o => m.addObs serial o) (m.setTrack serial (fun t => { t with held := [] }))

/-- A piece without a verdict takes its recipe's default action (R175). -/
def Mod.giveDefault (m : Mod) (serial cause : Nat) : Mod :=
  match m.track? serial with
  | none => m
  | some t =>
    if t.st = .decided || t.st = .revising || t.st = .committed then m
    else
      let dflt := m.dfltOf t.recipe
      let tCross := if t.readyAt.isSome then t.tCross else m.crossOf t
      let m1 := ((m.unwait serial).joinHeld serial).setTrack serial (fun t =>
        { t with cause := cause, st := .committed, verdict := dflt, tCross := tCross, lateAt := none,
                 flags := if t.short cause then flagTo t.flags 3 true else t.flags })
      let m2 := (m1.inc P.trkDl (cause - 1)).raise 53 0x0324 (leBytes 4 serial ++ leBytes 1 cause)
      match m2.track? serial with
      | some t => if dflt then m2.defaultPlan t tCross else m2
      | none => m2

/-- A revision is lost (R177): reason 1 refused, 2 aborted, 3 poisoned, 4 mismatched, 5 missing a copy. -/
def Mod.revLost (m : Mod) (serial reason : Nat) : Mod :=
  if (m.track? serial).isNone then m
  else
    (((m.unwait serial).inc P.trkRevLost).setTrack serial (fun t =>
      { t with revisedOnce := true, lateAt := none, st := if t.st = .revising then .decided else t.st })).raise 53 0x0326
      (leBytes 4 serial ++ leBytes 1 reason)

/-! ### The job dispatcher (R126, R128, R420) -/

/-- The towers in service that carry jobs (R110, R122): those that the placement marks as never gated, and all where it marks fewer than
the two that a PAIRED job needs. -/
def Mod.jobHosts (m : Mod) : List Nat :=
  let l := m.towersOk.filter (fun t => (m.tower t).never)
  if l.length < 2 then m.towersOk else l

/-- A tower can take a job now (R110, R127). -/
def Mod.hostUp (m : Mod) (t : Nat) : Bool := m.towerUp t && !(m.tower t).gated

/-- Physical towers of a piece's copies (R122, R128): in SINGLE one that can take it. -/
def Mod.jobTowers (m : Mod) (serial : Nat) : List Nat :=
  if m.paired then
    let ts := m.jobHosts
    let k := ts.length
    let a := Config.jobTower serial 0 % k
    let b := Config.jobTower serial 1 % k
    [ts.getD a 0, ts.getD (if a = b then (a + 1) % k else b) 0]
  else
    let ts := m.jobHosts.filter m.hostUp
    [ts.getD (Config.jobTower serial 0 % ts.length) 0]

/-- A waiting piece comes before another (R126). -/
def Wait.before (a b : Wait) : Bool := a.commit < b.commit || (a.commit = b.commit && later 32 b.serial a.serial)

/-- The first of waiting pieces. -/
def firstWait : List Wait → Option Wait
  | [] => none
  | w :: r => some (r.foldl (fun b x => if x.before b then x else b) w)

/-- A waiting piece may take a slot now (R126, R170, R420). -/
def Mod.admissible (m : Mod) (w : Wait) : Bool :=
  match m.track? w.serial with
  | none => false
  | some t => m.now ≤ w.latest && (w.revision || !t.lacks t.obs) && (m.jobTowers w.serial).all m.hostUp

/-- The motion samples of a track are due (R143): its last due observation is associated. -/
def Track.motionDue (t : Track) : Bool := t.readyAt.isSome && !t.motion && (!t.byDue || t.sawAll)

/-- A track's motion samples are taken once (R143, R153). -/
def Mod.takeMotion (m : Mod) (serial : Nat) : Mod :=
  match m.track? serial with
  | none => m
  | some t =>
    if t.motionDue then
      (m.setTrack serial (fun t => { t with motion := true })).motionSamples (m.trkHt t)
        (t.obs.filter (fun o => !m.excluded.testBit o.port))
    else m

/-- The fused vector of a piece (R147, R148): each sensor of the latched set gives its vector, zero where its features are missing; then the
piece's own values, its aligned velocity being v_b(h_A) of its LANE's triple (DESIGN CHOICE, log 139). -/
def Mod.fusedVec (m : Mod) (t : Track) : List Int :=
  t.ports.flatMap (fun p =>
    let n := lrd t.vals P.fusFeatCh p
    if t.missing t.obs p then List.replicate n 0 else sensorVec n (lrd t.vals P.fusPool p) (t.obs.filter (fun o => o.port = p)))
  ++ Config.pieceBytes (t.colFirst, t.colLast) (sumOf (t.obs.map (·.mass))) ((m.lane t.lane).speedAt (m.rd P.fusHRef) (m.rd P.fusHAlign) / 10 ^ 12)

/-- The delays in force of every channel, any of which a plan may select: channel, d_c and d_hs,c in µs (R191). -/
def Mod.delaysNow (m : Mod) (vals : Store) : List (Nat × Nat × Nat) :=
  (List.range (lrd vals P.ejChannels)).map (fun c => (c, m.dOpen c, m.dHs c))

/-- The job of a track as its admission copies it (R142, R147, R186 to R191). -/
def Mod.jobOf (m : Mod) (t : Track) (w : Wait) : Job :=
  let l := m.lane t.lane
  let lanes := l :: t.obs.map (fun o => m.lane o.lane)
  let tCross := m.crossOf t
  { serial := t.serial, revision := w.revision, start := m.now, sample := w.sample, towers := m.jobTowers t.serial, obs := t.obs,
    lanes := lanes, fused := m.fusedVec t, tCross := tCross,
    plan := m.makePlan [] t.vals (m.trkHt t) t.obs t.colFirst t.colLast l t.ta tCross (lanes.any (fun x => !x.warm)) false w.revision }

/-- A job runs. -/
def Mod.addJob (m : Mod) (j : Job) : Mod := { m with cell := { m.cell with jobs := m.cell.jobs ++ [j] } }

/-- A waiting piece takes a slot (R126, R132, R169). -/
def Mod.admitJob (m : Mod) (w : Wait) : Mod :=
  let m0 := { m with cell := { m.cell with queue := m.cell.queue.filter (fun x => x ≠ w) } }
  let m1 := (m0.takeMotion w.serial).setTrack w.serial (fun t => if w.revision then { t with overdue := 0 } else t)
  match m1.track? w.serial with
  | none => m1
  | some t =>
    let st : TState := if w.revision then .revising else .running
    let j := m1.jobOf t w
    let m2 := j.towers.foldl (fun m t => m.perfTower t 0x0D 1)
      ((if w.revision then m1 else m1.perfModule 0x45 1).addJob j)
    let m3 := (m2.setTrack w.serial (fun t =>
      { t with st := st, revisedOnce := t.revisedOnce || w.revision, delays := m1.delaysNow t.vals })).joinHeld w.serial
    (m3.peak P.cellWaitMax (m.now - w.since)).peak P.cellSlotsPeak m3.cell.jobs.length

/-- Free slots go to the waiting pieces that may take them, the earliest first (R126). -/
def Mod.dispatch (m : Mod) : Nat → Mod
  | 0 => m
  | k + 1 =>
    if m.slots ≤ m.cell.jobs.length then m
    else
      match firstWait (m.cell.queue.filter m.admissible) with
      | none => m
      | some w => (m.admitJob w).dispatch k

/-- Every free slot is given out. -/
def Mod.tryAdmit (m : Mod) : Mod := m.dispatch 64

/-- A waiting piece is turned away (R126, R177). -/
def Mod.turnAway (m : Mod) (w : Wait) (cause : Nat) : Mod :=
  if w.revision then m.revLost w.serial 1 else m.giveDefault w.serial cause

/-- A piece enters the admission queue of 1,024, or displaces the one with the latest commit point (R126). CELL_JOBS_REFUSED counts the
pieces refused at their latest start only (DESIGN CHOICE, log 106). -/
def Mod.enqueue (m : Mod) (w : Wait) : Mod :=
  if m.cell.queue.length < 1024 then ({ m with cell := { m.cell with queue := m.cell.queue ++ [w] } }).tryAdmit
  else
    let victim := m.cell.queue.foldl (fun (b : Wait) x => if b.before x then x else b) w
    let q := (m.cell.queue ++ [w]).filter (fun x => x ≠ victim)
    let m1 := ({ m with cell := { m.cell with queue := q } }.inc P.cellQueueFulls).raise 45 0x020A (leBytes 4 victim.serial)
    (m1.turnAway victim 3).tryAdmit

/-- Decision latency bound less the job bound and the verdict write (R21, R126). -/
def Mod.sampleLead (m : Mod) : Nat := if m.half then 1580000 else 780000

/-- The latest start of a job with a commit point and a last contributing sample (R126). -/
def Mod.latestStart (m : Mod) (commit sample : Nat) : Nat := Nat.min (commit - m.jobBound) (sample + m.sampleLead)

/-- Pieces taken in over any 400 µs (R126). -/
def Mod.rateBudget (m : Mod) : Nat := m.rd P.sysRateCap * 400 / 1000000

/-- PIECE_READY (R126): within the rate budget the piece enters the admission queue. The budget counts it here, when the dispatcher takes it
in (DESIGN CHOICE, log 140: its first admission could also be its slot). -/
def Mod.pieceReady (m : Mod) (serial commit sample : Nat) : Mod :=
  let recent := m.cell.admits.filter (fun a => m.now < a + 400000)
  if m.rateBudget ≤ recent.length then ({ m with cell := { m.cell with admits := recent } }).giveDefault serial 1
  else
    ({ m with cell := { m.cell with admits := m.now :: recent } }).enqueue
      { serial := serial, revision := false, commit := commit, latest := m.latestStart commit sample, sample := sample, since := m.now }

/-! ### Readiness (R148, R170) -/

/-- The due instant of a port for a track (R148). -/
def Mod.dueAt (m : Mod) (t : Track) (p : Nat) : Nat :=
  let d := maxOf 0 (t.obs.map (fun o => o.lines * m.rd P.camLinePeriod o.port))
  trackTime (m.lane t.lane) (m.rd P.fusHRef) (m.rd P.fusDhMin) (pointsOf (m.trkHt t) t.obs) (m.trkHt t p) + d / 2
    + 2 * m.rd P.camLinePeriod p

/-- Due instants of the ports still without an observation. -/
def Mod.dues (m : Mod) (t : Track) : List Nat := (t.ports.filter (fun p => !t.saw p)).map (m.dueAt t)

/-- The arrival of the last contributing sample (R20, R170): of the sensors whose features enter the decision, of all where none does, and
of the due instants that passed. -/
def Mod.lastSample (m : Mod) (t : Track) (byDue : Bool) : Nat :=
  let os := t.obs.filter (fun o => t.ports.contains o.port && !t.missing t.obs o.port)
  maxOf (maxOf 0 ((if os = [] then t.obs else os).map (·.arrived))) (if byDue then m.dues t else [])

/-- A track that has every observation or passed due instant becomes ready (R170); `byDue` when a due instant did it. -/
def Mod.checkReady (m : Mod) (serial : Nat) (byDue : Bool) : Mod :=
  match m.track? serial with
  | none => m
  | some t =>
    if t.st = .open_ && (m.dues t).all (fun d => d ≤ m.now) then
      let tCross := m.crossOf t
      let commit := tCross - lrd t.vals P.trkProvLead * 1000
      let sample := m.lastSample t byDue
      (m.setTrack serial (fun t =>
        { t with st := .ready, readyAt := some m.now, byDue := byDue, tCross := tCross, tCommit := commit })).pieceReady serial
        commit sample
    else m

/-- OBSERVATION_DUE (R148, R170): a port's due instant passes without an observation. -/
def observationDue (serial port : Nat) (m : Mod) : Mod :=
  match m.track? serial with
  | none => m
  | some t => if t.ports.contains port && !t.saw port && m.dueAt t port ≤ m.now then m.checkReady serial true else m

/-- MOTION_UPDATE (R143, R144). -/
def motionUpdate (serial : Nat) (m : Mod) : Mod := m.takeMotion serial

/-! ### Deadlines and closing (R175, R176, R179) -/

/-- PIECE_LATEST_START (R126, R170, R177, R420): a waiting piece or revision has no slot at its latest start. -/
def pieceLatestStart (serial : Nat) (m : Mod) : Mod :=
  match m.cell.queue.find? (fun w => w.serial = serial), m.track? serial with
  | some w, some t =>
    if m.now < w.latest then m
    else
      let m0 := { m with cell := { m.cell with queue := m.cell.queue.filter (fun x => x ≠ w) } }
      if !w.revision && t.lacks t.obs then m0.giveDefault serial 7
      else if !w.revision && m.paired && !(m.jobTowers serial).all m.towerUp then m0.giveDefault serial 8
      else ((m0.inc P.cellJobsRefused).raise 45 0x0208 (leBytes 4 serial)).turnAway w 2
  | _, _ => m

/-- PROVISIONAL_COMMIT_PASS (R175). -/
def provisionalCommitPass (serial : Nat) (m : Mod) : Mod :=
  match m.track? serial with
  | none => m
  | some t => if (t.st = .ready || t.st = .running) && t.tCommit ≤ m.now then m.giveDefault serial 15 else m

/-- COMMIT_POINT (R176). -/
def commitPoint (serial : Nat) (m : Mod) : Mod :=
  match m.track? serial with
  | none => m
  | some t =>
    if (t.st = .decided || t.st = .revising) && t.tCommit ≤ m.now then m.setTrack serial (fun t => { t with st := .committed }) else m

/-- The outcome of a track that closes (R179). -/
def Track.outcomeOf (t : Track) : Nat :=
  if t.verdict then
    if t.plan.any Plan.allFired then (if t.cause = 0 then 2 else 5) else 3
  else if t.cause = 0 then 1 else 4

/-- A piece was decided by a verdict of its own. -/
def Track.decided (t : Track) : Bool := t.cause = 0 && (t.st = .decided || t.st = .revising || t.st = .committed)

/-- A track closes with an outcome (R158, R179 to R182): its slot is freed, the piece tallied and mapped. -/
def Mod.closeTrack (m : Mod) (t : Track) (outcome : Nat) : Mod :=
  let m0 := m.unwait t.serial
  let m1 := { m0 with trk := { m0.trk with live := m0.trk.live.filter (fun x => x.serial ≠ t.serial), freed := m0.trk.freed ++ [t.slot] } }
  let f1 := flagTo t.flags 12 (!m.time.valid)
  let a : Account := { recipe := t.recipe, outcome := outcome, flags := f1, mass := t.mass, cls := if t.decided then some t.cls else none }
  let (m2, noPos) := if t.lot = m.trk.lotId then m1.mapPiece a else (m1, m1.mapLost)
  let t1 := { t with st := .free, outcome := outcome, tClose := m.now, flags := flagTo f1 13 noPos }
  let m3 := { m2 with trk := { m2.trk with done := m2.trk.done ++ [t1] } }
  (m3.tallyPiece a).ratePiece a t.lane

/-- The end of a REJECT's last air window, shifts included (R179, R204). -/
def Mod.airEnd (m : Mod) (t : Track) : Nat :=
  match t.plan with
  | none => 0
  | some p =>
    p.end_ + maxOf p.moved ((m.ej.pulses.filter (fun q => q.serial = t.serial)).map (fun q =>
      let h := (q.into.bind (fun i => m.ej.pulses.find? (fun x => x.id = i))).getD q
      m.releaseOf h - q.off))

/-- The instant at which a track's verdict lets it close (R179); none before a verdict. -/
def Mod.closeAt (m : Mod) (t : Track) : Option Nat :=
  if t.st = .open_ || t.st = .ready || t.st = .running then none
  else if t.verdict then some (m.airEnd t)
  else some (t.tCross + lrd t.vals P.trkCloseAfter * 1000)

/-- The commit instant M_j of a milestone since E_0 (R415). -/
def Mod.msInstant (m : Mod) (j : Nat) : Nat := m.bist.e0 + j * 5000000

/-- A milestone's instant has passed and the milestone has not been taken: no piece closes before it (R415). -/
def Mod.msOverdue (m : Mod) : Bool := m.running && m.msInstant m.bist.msIdx < m.now

/-- TRACK_CLOSE (R179): by its air window, its accept close time or its life. -/
def trackClose (serial : Nat) (m : Mod) : Mod :=
  match m.track? serial with
  | none => m
  | some t =>
    if m.msOverdue then m else
    let life : Bool := t.tFirst + lrd t.vals P.trkLife * 1000 ≤ m.now
    match m.closeAt t with
    | some c => if c ≤ m.now || life then m.closeTrack t t.outcomeOf else m
    | none =>
      if life then
        let m1 := m.giveDefault serial 10
        match m1.track? serial with
        | some t1 => m1.closeTrack t1 t1.outcomeOf
        | none => m1
      else m

/-! ### The commands as the queue gives them -/

/-- PIECE_LATEST_START (R126). -/
def execPieceLatestStart (t serial : Nat) (s : State) : Host.Outcome State Fault Refusal := s.run t (pieceLatestStart serial)

/-- MOTION_UPDATE (R144). -/
def execMotionUpdate (t serial : Nat) (s : State) : Host.Outcome State Fault Refusal := s.run t (motionUpdate serial)

/-- OBSERVATION_DUE (R148). -/
def execObservationDue (t serial port : Nat) (s : State) : Host.Outcome State Fault Refusal := s.run t (observationDue serial port)

/-- PROVISIONAL_COMMIT_PASS (R175). -/
def execProvisionalCommitPass (t serial : Nat) (s : State) : Host.Outcome State Fault Refusal := s.run t (provisionalCommitPass serial)

/-- COMMIT_POINT (R176). -/
def execCommitPoint (t serial : Nat) (s : State) : Host.Outcome State Fault Refusal := s.run t (commitPoint serial)

/-- TRACK_CLOSE (R179). -/
def execTrackClose (t serial : Nat) (s : State) : Host.Outcome State Fault Refusal := s.run t (trackClose serial)

end Sys2Proof.Machine
end

