-- ==== Sys2Proof/Machine/Restart.lean ====
section
/-!
DEFINITION. Machine/Restart.lean: milestones (R415 to R418) and the restarts of a running module (R419 to R422).
-/
namespace Sys2Proof.Machine

/-! ### Milestones -/

/-- The dial values with PERSIST (R52). -/
def Mod.persistent (m : Mod) : List (Nat × Nat × Nat × Nat × Nat) :=
  match m.sys.rb with
  | some rb => (rb.dials.filter (·.persist)).map (fun d => (d.dial, d.target, d.hi, d.lo, field (m.word d.target).toNat d.hi d.lo))
  | none => []

/-- What a milestone of commit instant `mj` commits (R416). -/
def Mod.msContent (m : Mod) (mj : Nat) : MsContent :=
  let org := m.trk.lotOrg.getD (0, 0)
  { num := m.bist.msNum, mj := mj, tally := m.trk.tally, life := m.bist.life, map := m.trk.map, lotId := m.trk.lotId,
    lotOrg := (m.trk.lotSec, org.1, org.2), lotPos := m.trk.lotOrg.isSome, oldest := m.log.oldest, next := m.log.next,
    clears := m.log.clears, opSec := m.log.opSec, cycles := m.log.cycles, serial := m.bist.serial, recipe := m.sys.recipe,
    pend := m.sys.pend.map (·.1), dials := m.persistent, rbId := m.sys.rb.map (·.id), unacc := m.bist.unacc,
    unaccFirst := m.bist.unaccFirst }

/-- The newest valid copy of the milestone store (R418). -/
def Nv.milestone (n : Nv) : Option MsContent :=
  ((n.ms.filter (·.ok)).map (·.c)).foldl (fun (b : Option MsContent) c =>
    match b with
    | none => some c
    | some d => if d.num < c.num then some c else b) none

/-- What the last milestone committed (R415, R416). -/
def Mod.committed (m : Mod) : MsContent := m.nv.milestone.getD {}

/-- BIST_MS_SEQ and BIST_MS_T show the last milestone committed (R425). -/
def Mod.msShow (m : Mod) : Mod := (m.wr P.bistMsSeq m.committed.num).wr P.bistMsT (m.committed.mj % 2 ^ 32)

/-- A milestone is written into copy number mod 2 (R415). -/
def Mod.msCommit (m : Mod) (mj : Nat) : Mod :=
  let copy : MsCopy := { ok := true, c := m.msContent mj }
  let m1 := { m with nv := { m.nv with ms := m.nv.ms.set (m.bist.msNum % 2) copy },
                     bist := { m.bist with msNum := m.bist.msNum + 1 } }
  m1.msShow

/-- MILESTONE (R182, R305, R415, R416, R450): at M_j; `counts` are those of the cell array since the last snapshot. -/
def milestone (counts : List (Nat × Nat)) (m : Mod) : Mod :=
  if m.running && m.msInstant m.bist.msIdx ≤ m.now then
    let b := m.bist
    let m1 := { m with bist := { b with msIdx := b.msIdx + 1, fails := if b.msFailed then b.fails else 0, msFailed := false } }
    (m1.lotClose.gnssStore.msCommit (m.msInstant b.msIdx)).perfSnapshot counts
  else m

/-! ### Restarts -/

/-- The module after a restart: what survives is the non-volatile store (R407, R414) and the module's identity (R4); `cause` is the next start's. -/
def Mod.fresh (m : Mod) (cause : Nat) : Mod := 
  { nv := { m.nv with cause := cause }, free := m.free, bist := { phase := .off }, regs := m.regs.filter (fun e => e.1 < 0x10) }

/-- The recorder writes what its queue holds (R396). -/
def Mod.recDrain (m : Mod) : Mod := m.log.q.foldl Mod.recWrite { m with log := { m.log with q := [] } }

/-- The outcome of a live track at a fault (R421), and whether cause RECOVERY gives it. -/
def Mod.faultOutcome (m : Mod) (t : Track) : Nat × Bool :=
  if t.st = .committed && !t.verdict then (if t.cause = 0 then (1, false) else (4, false))
  else if t.verdict && (t.st = .decided || t.st = .revising || t.st = .committed) then (t.outcomeOf, false)
  else if m.dfltOf t.recipe then (3, true)
  else (4, true)

/-- A track closes at a fault (R175, R421). -/
def Mod.faultClose (m : Mod) (t : Track) : Mod :=
  let (o, rec) := m.faultOutcome t
  if rec then
    let t1 := { t with cause := 11, st := .committed, verdict := m.dfltOf t.recipe,
                       flags := if t.short 11 then flagTo t.flags 3 true else t.flags }
    (((m.inc P.trkDl 10).raise 53 0x0324 (leBytes 4 t.serial ++ leBytes 1 11))).closeTrack t1 o
  else m.closeTrack t o

/-- Counts by outcome of tracks that close at a fault (R421), two bytes each. -/
def outcomeCounts (os : List Nat) : List Byte :=
  [1, 2, 3, 4, 5].flatMap (fun o => leBytes 2 (Nat.min 65535 (os.filter (fun x => x = o)).length))

/-- The end of a run (R421): no further pulse starts and running pulses are cut, each missed with cause FAULT, so that the live tracks
close with their outcomes and causes (R423); the interval of the recipe in force becomes final, and the final milestone is committed, which closes a lot that is to close (R182). -/
def Mod.closeDown (m : Mod) : Mod :=
  let m0 := m.ejectStop.ejectCut
  let os := m0.trk.live.map (fun t => (m0.faultOutcome t).1)
  let m1 := m0.trk.live.foldl Mod.faultClose m0
  let m2 := (m1.tallyClose m1.sys.recipe).raise 125 0x0A75 (outcomeCounts os)
  let m3 := m2.lotClose.gnssStore.flush.recDrain
  m3.msCommit m.now

/-- A controlled full restart (R421): the run ends, and the module starts again. -/
def Mod.controlledRestart (m : Mod) (cause : Nat) : Mod := if m.running then m.closeDown.fresh cause else m.fresh cause

/-- An unrecovered restart (R422): nothing is closed and nothing committed. -/
def Mod.unrecoveredRestart (m : Mod) (cause : Nat) : Mod := m.fresh cause

/-- MILESTONE_WRITE_FAILED (R417): the last milestone's write fails; its copy is not valid. -/
def milestoneWriteFailed (m : Mod) : Mod :=
  if m.running && !m.bist.msFailed && m.bist.msIdx ≠ 0 then
    let n := m.bist.msNum - 1
    let bad : MsCopy := { ok := false, c := ((m.nv.ms[n % 2]?).map (·.c)).getD {} }
    let m1 : Mod := { m with nv := { m.nv with ms := m.nv.ms.set (n % 2) bad }, bist := { m.bist with msFailed := true, fails := m.bist.fails + 1 } }
    let m2 : Mod := (((m1.inc P.bistMsFails).flag P.bistFlags 4).raise 125 0x0A71 (leBytes 4 n)).msShow
    if 2 ≤ m2.bist.fails then m2.unrecoveredRestart 5 else m2
  else m

/-- SUPERVISORY_WATCHDOG (R419): no progress for 50 ms. -/
def supervisoryWatchdog (m : Mod) : Mod := if m.running then m.unrecoveredRestart 4 else m

/-! ### The commands as the queue gives them -/

/-- MILESTONE (R415). -/
def execMilestone (t : Nat) (counts : List (Nat × Nat)) (s : State) : Host.Outcome State Fault Refusal := s.run t (milestone counts)

/-- MILESTONE_WRITE_FAILED (R417). -/
def execMilestoneWriteFailed (t : Nat) (s : State) : Host.Outcome State Fault Refusal := s.run t milestoneWriteFailed

/-- SUPERVISORY_WATCHDOG (R419). -/
def execSupervisoryWatchdog (t : Nat) (s : State) : Host.Outcome State Fault Refusal := s.run t supervisoryWatchdog

end Sys2Proof.Machine
end

