-- ==== Sys2Proof/Machine/Decide.lean ====
section
/-!
DEFINITION. Machine/Decide.lean: the decision (R149, R150, R172 to R177), PAIRED comparison (R128 to R130), jobs that end,
cell failures and tower restarts (R118, R126, R127, R420).
-/
namespace Sys2Proof.Machine

/-! ### The decision policy (R149, R173) -/

/-- The first of a list that no later one beats. -/
def pick {α : Type} (better : α → α → Bool) : List α → Option α
  | [] => none
  | x :: r => some (r.foldl (fun b y => if better y b then y else b) x)

/-- A class's verdict group (R149): true for REJECT. -/
def groupOf (vals : Store) (n : Nat) : Bool := (lrd vals P.fusClassGroup).testBit n

/-- A class's rank (R149). -/
def rankOf (vals : Store) (n : Nat) : Nat :=
  if n < 8 then field (lrd vals P.fusClassRankLo) (4 * n + 3) (4 * n) else field (lrd vals P.fusClassRankHi) (4 * n - 29) (4 * n - 32)

/-- A port's weight (R149). -/
def weightOf (vals : Store) (p : Nat) : Nat :=
  if p < 4 then field (lrd vals P.fusSensWeightLo) (8 * p + 7) (8 * p) else field (lrd vals P.fusSensWeightHi) (8 * p - 25) (8 * p - 32)

/-- A confident sensor: its port, top class, confidence (R147, R149). -/
structure Head where
  port : Nat
  cls : Nat
  q : Nat
deriving DecidableEq, Repr

/-- What the policy gives (R173): the verdict, the reported class, the classifier's verdict, the flags UNSURE and
CONTRADICTION. -/
structure Ruling where
  reject : Bool
  cls : Nat
  clf : Bool
  unsure : Bool
  contra : Bool
deriving DecidableEq, Repr

/-- The highest-scoring class among some, the lower index at equal scores. -/
def topClass (s : List Nat) (ns : List Nat) : Option Nat := pick (fun a b => s.getD b 0 < s.getD a 0) ns

/-- Rules 3 to 5 (R173): the verdict, the class, UNSURE. -/
def classifierRule (vals : Store) (s : List Nat) : Bool × Nat × Bool :=
  let all := List.range 16
  let top := (topClass s all).getD 0
  let rej := all.filter (fun n => groupOf vals n && lrd vals P.trkThr n ≤ s.getD n 0)
  if s.getD top 0 < lrd vals P.trkMinConf then (lrd vals P.trkUnsureAction = 1, top, true)
  else
    match pick (fun a b => rankOf vals b < rankOf vals a || (rankOf vals a = rankOf vals b && s.getD b 0 < s.getD a 0)) rej with
    | some n => (true, n, false)
    | none => (false, (topClass s (all.filter (fun n => !groupOf vals n))).getD top, false)

/-- A head is preferred at equal standing (R149): the higher confidence, then the lower port. -/
def Head.beats (a b : Head) : Bool := b.q < a.q || (a.q = b.q && a.port < b.port)

/-- The head of highest rank (R149). -/
def byRank (vals : Store) (a b : Head) : Bool := rankOf vals b.cls < rankOf vals a.cls || (rankOf vals a.cls = rankOf vals b.cls && a.beats b)

/-- The head of greatest weight × confidence (R149). -/
def byWeight (vals : Store) (a b : Head) : Bool :=
  let w := fun (h : Head) => weightOf vals h.port * h.q
  w b < w a || (w a = w b && a.beats b)

/-- A flat contradiction's verdict and class under FUS_CONTRA_POLICY (R149); none without one. Under policy 0 with the highest rank in both
groups, the class is one of the REJECT group, whose verdict the tie gives (DESIGN CHOICE, log 138). -/
def contradiction (vals : Store) (k : List Head) : Option (Bool × Nat) :=
  let rej := k.filter (fun h => groupOf vals h.cls)
  let acc := k.filter (fun h => !groupOf vals h.cls)
  if rej = [] || acc = [] then none
  else
    let best := fun (l : List Head) => maxOf 0 (l.map (fun h => rankOf vals h.cls))
    let sum := fun (l : List Head) => sumOf (l.map (fun h => weightOf vals h.port * h.q))
    let pol := lrd vals P.fusContraPolicy
    let v : Bool := match pol with
      | 0 => best acc ≤ best rej
      | 1 => true
      | 2 => false
      | _ => sum acc ≤ sum rej
    let side := if v then rej else acc
    (pick (if pol = 3 then byWeight vals else byRank vals) side).map (fun h => (v, h.cls))

/-- The verdict and the reported class (R173); a flat contradiction is flagged whichever rule decides (R149). -/
def ruling (vals : Store) (oversize : Bool) (s : List Nat) (k : List Head) : Ruling :=
  let c := classifierRule vals s
  let flat := contradiction vals k
  let act := lrd vals P.trkOversizeAction
  if oversize && (act = 1 || act = 2) then
    { reject := act = 2, cls := (topClass s (List.range 16)).getD 0, clf := c.1, unsure := false, contra := flat.isSome }
  else
    match flat with
    | some v => { reject := v.1, cls := v.2, clf := c.1, unsure := false, contra := true }
    | none => { reject := c.1, cls := c.2.1, clf := c.1, unsure := c.2.2, contra := false }

/-! ### The verdict is written (R150, R174, R176, R177) -/

/-- The confident set K (R149): every sensor of the latched set whose confidence reaches FUS_Q_HIGH. -/
def confident (t : Track) (line : ResultLine) : List Head :=
  (line.heads.map (fun h => ({ port := h.1, cls := h.2.1, q := h.2.2 } : Head))).filter (fun h =>
    t.ports.contains h.port && lrd t.vals P.fusQHigh ≤ h.q)

/-- The track with a verdict written (R159, R174). -/
def Track.withVerdict (t : Track) (job : Job) (line : ResultLine) (r : Ruling) (plan : Plan) (now : Nat) : Track :=
  let f := flagTo (flagTo (flagTo (flagTo t.flags 0 job.plan.cold) 2 r.contra) 3 (t.ports.any (t.missing job.obs))) 6 r.unsure
  { t with
    st := if plan.commit ≤ now then .committed else .decided, flags := flagTo f 1 t.variant.isSome, tCross := job.tCross,
    tCommit := plan.commit, tDecided := now, verdict := r.reject, cverdict := r.clf, cls := r.cls,
    mass := Nat.min line.mass 0xFFFFFF, score := line.scores.getD r.cls 0, plan := some plan }

/-- FUS_CONTRA_PIECES (R150): once, at the first written decision that carries CONTRADICTION. -/
def Mod.contraCount (m : Mod) (t : Track) (r : Ruling) : Mod :=
  if r.contra && !t.contraDone then
    ((m.inc P.fusContraPieces).flag P.fusFlags 2).setTrack t.serial (fun t => { t with contraDone := true })
  else m

/-- A revision that is due begins to wait for its slot, or is lost (R177). -/
def Mod.startRevision (m : Mod) (serial : Nat) : Mod :=
  match m.track? serial with
  | none => m
  | some t =>
    match t.lateAt with
    | none => m
    | some a =>
      let latest := m.latestStart t.tCommit a
      if t.st = .decided && m.now ≤ latest then
        m.enqueue { serial := serial, revision := true, commit := t.tCommit, latest := latest, sample := a, since := m.now }
      else m.revLost serial 1

/-- A decision's time from its last contributing sample (R26, R455). -/
def Mod.noteDecision (m : Mod) (job : Job) : Mod :=
  (m.peak P.sysDecLatMax (m.now - job.sample)).perfHist P.perfHDec.base (if m.half then 2400000 else 1200000) (m.now - job.sample)

/-- The first verdict of a piece (R172 to R176). -/
def Mod.firstVerdict (m : Mod) (t : Track) (job : Job) (line : ResultLine) : Mod :=
  let k := confident t line
  let r := ruling t.vals (job.obs.any (·.oversize)) line.scores k
  let m1 := (m.setTrack t.serial (fun t => t.withVerdict job line r job.plan m.now)).contraCount t r
  let m2 := m1.noteDecision job
  let m3 := if t.variant.isSome then m2.inc P.fusDegradedPieces else m2
  let mc := m3.noteClip t.serial job.plan
  let m4 := if r.reject then mc.insertPlan t.serial else mc
  let m5 := m4.pairsCount t.ports (fun p => !t.missing job.obs p) (k.map (fun h => (h.port, groupOf t.vals h.cls))) r.clf
  m5.startRevision t.serial

/-- A revised verdict (R177, R195): while the verdict stands its commit point never moves later. -/
def Mod.revisedVerdict (m : Mod) (t : Track) (job : Job) (line : ResultLine) : Mod :=
  let r := ruling t.vals (job.obs.any (·.oversize)) line.scores (confident t line)
  let plan := if r.reject = t.verdict then { job.plan with commit := Nat.min job.plan.commit t.tCommit } else job.plan
  let write := fun (t : Track) => let t1 := t.withVerdict job line r plan m.now; { t1 with flags := flagTo t1.flags 8 true }
  let m1 := (m.setTrack t.serial write).contraCount t r
  let m2 := m1.noteDecision job
  let m3 := if t.verdict then m2.withdrawPlan t.serial else m2
  let mc := m3.noteClip t.serial plan
  let m4 := if r.reject then mc.insertPlan t.serial else mc
  if r.reject = t.verdict then m4
  else (m4.inc P.trkRevChanged).raise 53 0x0325 (leBytes 4 t.serial ++ leBytes 1 t.cls ++ leBytes 1 r.cls)

/-! ### Jobs that end (R126, R129, R130) -/

/-- The job of a piece. -/
def Mod.job? (m : Mod) (serial : Nat) (revision : Bool) : Option Job :=
  m.cell.jobs.find? (fun j => j.serial = serial && j.revision = revision)

/-- A job leaves its slot; its towers have carried work until now (R110, R126). -/
def Mod.dropJob (m : Mod) (j : Job) : Mod :=
  j.towers.foldl Mod.worked
    { m with cell := { m.cell with jobs := m.cell.jobs.filter (fun x => !(x.serial = j.serial && x.revision = j.revision)) } }

/-- How long a copy of a job took to its result line (R455): to the raw count that the line gives, if it lies within the job, else to now. -/
def Mod.copyTook (m : Mod) (j : Job) (l : ResultLine) : Nat :=
  let w := m.extend l.wrote
  if j.start ≤ w && w ≤ m.now then w - j.start else m.now - j.start

/-- A copy of a job ends on a tower (R126, R455, R456): its line written at its own instant, or aborted (log 120). -/
def Mod.copyEnds (m : Mod) (j : Job) (t : Nat) (line : Option ResultLine) : Mod :=
  match line with
  | some l => m.perfJob t 0x0E m.jobBound (m.copyTook j l)
  | none => m.perfJob t 0x0F m.jobBound m.jobBound

/-- A job leaves its slot, each of its copies with its line or without one. -/
def Mod.jobEnds (m : Mod) (j : Job) (copies : List (Option ResultLine)) : Mod :=
  j.towers.zipIdx.foldl (fun m e => m.copyEnds j e.1 (copies.getD e.2 none)) (m.dropJob j)

/-- A mismatch counted against a tower (R129, R130). -/
def Mod.mismatch (m : Mod) (t : Nat) : Mod :=
  let win := m.rd P.cellMismatchWindow * 1000000000
  let l := m.now :: (m.tower t).misses.filter (fun a => m.now < a + win)
  let m1 := m.inc P.cellTMismatch t
  if m.rd P.cellMismatchLimit ≤ l.length then
    (m1.setTower t (fun w => { w with misses := [] })).raise 46 0x020D (leBytes 1 t ++ leBytes 4 l.length)
  else m1.setTower t (fun w => { w with misses := l })

/-- A job ends without a result (R129, R175, R177): the cause of its piece, or the reason its revision is lost. COMPARE says that the
comparison gave the default action (R159), which no revision takes. -/
def Mod.failJob (m : Mod) (j : Job) (compare : Bool) (cause reason : Nat) : Mod :=
  if j.revision then m.revLost j.serial reason
  else (m.setTrack j.serial (fun t => { t with flags := if compare then flagTo t.flags 7 true else t.flags })).giveDefault j.serial cause

/-- The 12 plan bytes of a job's result line (R190): what the rules give where the line's operand leaves them out. -/
def resultPlan (l : ResultLine) (p : Plan) : List Byte := if l.plan = [] then p.bytes else l.plan

/-- The plan that a result line holds (R190), of a job whose own plan is `p` and whose copied delays are `ds` (R191). -/
def Mod.linePlan (m : Mod) (ds : List (Nat × Nat × Nat)) (p : Plan) (b : List Byte) : Plan :=
  if b = p.bytes then p
  else
    let fire := m.extend (leAt b 0 4)
    let n := Nat.min 8 (leAt b 10 1)
    let f := leAt b 11 1
    let at_ := fun (g : Nat × Nat → Nat) => (List.range n).map (fun i => ((assocGet ds (leAt b 8 2 + i)).map g).getD 0)
    let dO := at_ (·.1)
    { p with fire := fire, end_ := fire + leAt b 4 2 * 1000, slack := leAt b 6 2, firstCh := leAt b 8 2, count := n,
             dflt := f.testBit 3, revised := f.testBit 2, clipped := f.testBit 1, cold := f.testBit 0,
             dOpen := dO, dHs := at_ (·.2), commit := fire - maxOf 0 dO * 1000 - 200000 }

/-- A job delivers its result (R172, R177, R190): discarded where its piece has had its cause, or has closed. -/
def Mod.deliverJob (m : Mod) (j0 : Job) (line : ResultLine) : Mod :=
  let m1 := m.inc P.cellJobsDone
  match m1.track? j0.serial with
  | none => m1
  | some t =>
    let j := { j0 with plan := m.linePlan t.delays j0.plan (resultPlan line j0.plan) }
    if j.revision then (if t.st = .revising then m1.revisedVerdict t j line else m1.revLost j.serial 2)
    else if t.st = .running then m1.firstVerdict t j line else m1

/-- What the comparator compares of a result line (R128): its data, wherever the line is held. -/
def resultData (l : ResultLine) (p : Plan) : ResultLine := { l with plan := resultPlan l p, held := none, wrote := 0 }

/-- Result lines are read where they are held (R114, R129): whether one came poisoned. -/
def Mod.takeHeld (m : Mod) (lines : List ResultLine) : Mod × Bool :=
  let r := m.takeLines (lines.filterMap (·.held))
  (r.1, r.2 ≠ [])

/-- The comparator settles a job whose copies have delivered (R129). A PAIRED job that ends for a poisoned line sets the comparison flag
whichever line it was (log 107). -/
def Mod.settleJob (m : Mod) (j : Job) (lines : List ResultLine) (poisoned : Bool) : Mod :=
  match lines with
  | [] => m
  | line :: others =>
    if poisoned then m.failJob j (others ≠ []) 5 3
    else if others.all (fun l => resultData l j.plan = resultData line j.plan) then m.deliverJob j line
    else
      let m1 := (m.inc P.cellPairMismatches).raise 46 0x020B (leBytes 4 j.serial ++ j.towers.flatMap (leBytes 1))
      (j.towers.foldl Mod.mismatch m1).failJob j true 6 4

/-! ### Cell failure and tower restart (R127, R420) -/

/-- A tower begins a warm restart because a cell has failed (R127, R420): cause 1 poisoned program or weights, 2 no progress,
3 register-file parity. -/
def Mod.towerFail (m : Mod) (t cell cause : Nat) : Mod :=
  if !m.towerUp t then m
  else
    let m1 := ((m.raise (32 + t / 2) 0x0204 (leBytes 1 t ++ leBytes 1 cell ++ leBytes 1 cause)).raise (32 + t / 2) 0x0205
      (leBytes 1 t)).inc P.cellTRestarts t
    let m2 := ((m1.setTower t (fun w => { w with restarting := some m.now, gated := false, resuming := false, grantedAt := none })).stillEnd
      t).stillBegin (16 + t)
    let lost := m2.cell.jobs.filter (fun j => j.towers.contains t)
    lost.foldl (fun m j => (m.dropJob j).failJob j false 8 2) m2

/-- CELL_FAILURE (R127): an idle spare holds no program and no work, so only its parity can fail (R123). -/
def cellFailure (t cell cause : Nat) (m : Mod) : Mod :=
  if t < 16 && cell < 64 && 1 ≤ cause && cause ≤ 3 && (cause = 3 || (m.tower t).bound.contains cell) then (m.towerFail t cell cause).tryAdmit else m

/-- What the lines a job has read do to it (R114, R118): poisoned data; poisoned programs or weights fail their cells; both
main-memory copies poisoned make a full restart. -/
structure ReadResult where
  m : Mod
  data : Bool
  both : Bool

/-- The lines that a job, a stage or a reload reads on a tower (R114, R118), of a PAIRED job the first copy's. -/
def Mod.jobReads (m : Mod) (t : Nat) (reads : List LineRead) : ReadResult :=
  let r := m.takesFor t reads
  let bad := r.2
  let cells := (bad.filter (fun l => l.use = 1 && l.tag = 1)).map (fun l => (field l.addr 20 17, field l.addr 16 11))
  { m := if cells = [] then r.1 else (cells.foldl (fun m c => m.towerFail c.1 c.2 1) r.1).tryAdmit, data := bad.any (fun l => l.use = 0),
    both := bad.any (fun l => l.use = 2) && bad.any (fun l => l.use = 3) }

/-- A job's copies complete (R128, R129, R172): every copy's line has arrived within the bound. -/
def Mod.jobComplete (m : Mod) (serial : Nat) (revision : Bool) (copies : List (Option ResultLine)) (reads : List LineRead) : Mod :=
  match m.job? serial revision with
  | none => m
  | some j =>
    let lines := copies.filterMap id
    if m.now ≤ j.start + m.jobBound && lines.length = j.towers.length && copies.length = j.towers.length then
      let r := m.jobReads (j.towers.headD 0) reads
      if r.both then r.m.controlledRestart 2
      else
        match r.m.job? serial revision with
        | none => r.m.tryAdmit
        | some j =>
          let h := r.m.takeHeld lines
          ((h.1.jobEnds j copies).settleJob j lines (r.data || h.2)).tryAdmit
    else m

/-- PIECE_JOB_COMPLETE (R172). -/
def pieceJobComplete (serial : Nat) (copies : List (Option ResultLine)) (reads : List LineRead) (m : Mod) : Mod :=
  m.jobComplete serial false copies reads

/-- REVISION_JOB_COMPLETE (R177). -/
def revisionJobComplete (serial : Nat) (copies : List (Option ResultLine)) (reads : List LineRead) (m : Mod) : Mod :=
  m.jobComplete serial true copies reads

/-- JOB_ABORT (R114, R126, R129): a job still runs at its bound; `copies` are its copies' lines, none where a copy has delivered none. A line
that has come is read where it is held. Where both lines of a PAIRED job are missing, event 0x0209 names the first copy's tower (DESIGN
CHOICE, log 108). -/
def jobAbort (serial : Nat) (copies : List (Option ResultLine)) (m : Mod) : Mod :=
  match m.cell.jobs.find? (fun j => j.serial = serial) with
  | none => m
  | some j =>
    let came := fun (i : Nat) => (copies.getD i none).isSome
    let late := (j.towers.zipIdx.filter (fun (_, i) => !came i)).map (·.1)
    if m.now < j.start + m.jobBound || late = [] then m
    else
      let m0 := (m.jobEnds j copies).takeHeld
        ((copies.take j.towers.length).filterMap id) |>.1
      if late.length = j.towers.length then
        (((m0.inc P.cellJobsAborted).raise 45 0x0209 (leBytes 4 serial ++ leBytes 1 (j.towers.headD 0))).failJob j false 4 2).tryAdmit
      else
        let t := late.headD 0
        (((m0.mismatch t).raise 46 0x020C (leBytes 4 serial ++ leBytes 1 t)).failJob j true 6 5).tryAdmit

/-- The lines of a tower's SRAM are cleared (R127). -/
def Mod.clearSram (m : Mod) (t : Nat) : Mod :=
  { m with cell := { m.cell with lines := m.cell.lines.filter (fun e => !(e.1 / 2 ^ 28 = 1 && field e.1 20 17 = t)) } }

/-- TOWER_WARM_RESTART_COMPLETE (R127): the SRAM is cleared, the reload and the quick test of a tower end; `cell` names the cell that failed the
test, `reads` the lines of the reload that decode to something. -/
def towerWarmRestartComplete (t : Nat) (ok : Bool) (cell : Nat) (reads : List LineRead) (m : Mod) : Mod :=
  match (m.tower t).restarting with
  | none => m
  | some s =>
    let r := (m.clearSram t).jobReads t (reads.filter (fun l => l.use ≠ 1))
    if r.both then r.m.controlledRestart 2
    else if ok then
      let m1 := (r.m.setTower t (fun w => { w with restarting := none, busyAt := m.now })).stillEnd (16 + t)
      (m1.raise (32 + t / 2) 0x0206 (leBytes 1 t ++ leBytes 4 ((m.now - s) / 1000))).tryAdmit
    else (r.m.raise (32 + t / 2) 0x0207 (leBytes 1 t ++ leBytes 1 cell)).controlledRestart 3

/-! ### Stages (R18, R118, R127) -/

/-- Stage `k` of a port runs on its tower: the lines it reads, and its output line, lost where a line of data came poisoned, or its
tower restarts (R110, R118, R127). -/
def Mod.stage (m : Mod) (p k : Nat) (lost : Bool) (reads : List LineRead) (f : Mod → Bool → Mod) : Mod :=
  let r := m.jobReads (m.physTower (Config.stageTower p k)) reads
  if r.both then r.m.controlledRestart 2
  else f (r.m.worked (m.physTower (Config.stageTower p k))) (lost || r.data || r.m.stageDown p k)

/-- COLOUR_RECONSTRUCTION (R80, R81): the port's oldest line that waits. -/
def colourReconstruction (p : Nat) (lost : Bool) (reads : List LineRead) (m : Mod) : Mod :=
  if (m.port p).lines = [] then m else m.stage p 0 lost reads (fun m b => m.colourLine p b)

/-- RESAMPLE_LINE (R135): the port's oldest reconstructed line becomes a row of its layer. -/
def resampleLine (p : Nat) (lost : Bool) (reads : List LineRead) (m : Mod) : Mod :=
  if (m.port p).recon = [] then m else m.stage p 1 lost reads (fun m b => m.resample p b)

/-- FEATURE_ROW (R105, R106, R136 to R138): the extractor's cells run, and deliver, for the port's oldest row, the feature channels of
each column. -/
def featureRow (p : Nat) (vecs : List (List Int)) (lost : Bool) (runs : List CellRun) (reads : List LineRead) (m : Mod) : Mod :=
  if (m.port p).rows = [] then m
  else m.stage p 2 lost reads (fun m b => (runs.foldl Mod.cellRun m).feature p vecs b)

/-! ### The commands as the queue gives them -/

/-- COLOUR_RECONSTRUCTION (R80). -/
def execColourReconstruction (t p : Nat) (lost : Bool) (reads : List LineRead) (s : State) : Host.Outcome State Fault Refusal :=
  s.run t (colourReconstruction p lost reads)

/-- RESAMPLE_LINE (R135). -/
def execResampleLine (t p : Nat) (lost : Bool) (reads : List LineRead) (s : State) : Host.Outcome State Fault Refusal :=
  s.run t (resampleLine p lost reads)

/-- FEATURE_ROW (R136). -/
def execFeatureRow (t p : Nat) (vecs : List (List Int)) (lost : Bool) (runs : List CellRun) (reads : List LineRead) (s : State) : Host.Outcome State Fault Refusal :=
  s.run t (featureRow p vecs lost runs reads)

/-- PIECE_JOB_COMPLETE (R172). -/
def execPieceJobComplete (t serial : Nat) (copies : List (Option ResultLine)) (reads : List LineRead) (s : State) : Host.Outcome State Fault Refusal :=
  s.run t (pieceJobComplete serial copies reads)

/-- JOB_ABORT (R126). -/
def execJobAbort (t serial : Nat) (copies : List (Option ResultLine)) (s : State) : Host.Outcome State Fault Refusal :=
  s.run t (jobAbort serial copies)

/-- REVISION_JOB_COMPLETE (R177). -/
def execRevisionJobComplete (t serial : Nat) (copies : List (Option ResultLine)) (reads : List LineRead) (s : State) : Host.Outcome State Fault Refusal :=
  s.run t (revisionJobComplete serial copies reads)

/-- CELL_FAILURE (R127). -/
def execCellFailure (t tower cell cause : Nat) (s : State) : Host.Outcome State Fault Refusal := s.run t (cellFailure tower cell cause)

/-- TOWER_WARM_RESTART_COMPLETE (R127). -/
def execTowerWarmRestartComplete (t tower : Nat) (ok : Bool) (cell : Nat) (reads : List LineRead) (s : State) : Host.Outcome State Fault Refusal :=
  s.run t (towerWarmRestartComplete tower ok cell reads)

end Sys2Proof.Machine
end

