-- ==== Sys2Proof/Machine/Assoc.lean ====
section
/-!
DEFINITION. Machine/Assoc.lean: observations reach association; windows, fragments, the auction; opening and joining tracks
(R138, R158, R161 to R168, R177, R178).
-/
namespace Sys2Proof.Machine

/-! ### Cost and gate (R163, R164) -/

/-- The differences dt, dx and dw of a pair (R163). -/
def diffOf (o : Obs) (t : Track) : Int × Int × Int :=
  ((o.ta : Int) - t.ta, o.xa - t.xa, ((o.colLast : Int) - o.colFirst) - ((t.colLast : Int) - t.colFirst))

/-- The cost of a pair, rounded down and saturated (R163). -/
def Mod.costOf (m : Mod) (o : Obs) (t : Track) : Nat :=
  let d := diffOf o t
  let st := m.rd P.trkSigT ^ 2
  let sx := m.rd P.trkSigX ^ 2
  let sw := m.rd P.trkSigW ^ 2
  let q := fun (x : Int) => x.natAbs * x.natAbs
  Nat.min 65535 (256 * (q d.1 * sx * sw + q d.2.1 * st * sw + q d.2.2 * st * sx) / (st * sx * sw))

/-- The pair passes the gate (R163). -/
def Mod.gated (m : Mod) (o : Obs) (t : Track) : Bool :=
  let d := diffOf o t
  !t.excl.testBit o.port && d.1.natAbs ≤ m.rd P.trkGateT && d.2.1.natAbs ≤ m.rd P.trkGateX && m.costOf o t ≤ m.rd P.trkGateC

/-- The observation is a fragment of the track (R164): of any observation associated with it. -/
def Mod.fragmentOf (m : Mod) (o : Obs) (t : Track) : Bool :=
  !t.excl.testBit o.port && (diffOf o t).1.natAbs ≤ m.rd P.trkGateT
    && t.assoc.any (fun q => q.port = o.port && q.colFirst ≤ o.colLast && o.colFirst ≤ q.colLast)

/-- A track is preferred to another for an observation: lower cost, then the earlier serial (R164, R166). -/
def Mod.closer (m : Mod) (o : Obs) (a b : Track) : Bool :=
  m.costOf o a < m.costOf o b || (m.costOf o a = m.costOf o b && later 32 b.serial a.serial)

/-- The track that takes an observation as a fragment (R164). -/
def Mod.fragmentTrack (m : Mod) (o : Obs) : Option Track := pick (m.closer o) (m.trk.live.filter (m.fragmentOf o))

/-! ### Windows and their parts (R165) -/

/-- One part of a window: observations with their numbers in it, and tracks. -/
structure Part where
  obs : List (Nat × Obs)
  trks : List Track

/-- Twice the median of integers (R165). -/
def median2 (l : List Int) : Int :=
  let s := sortBy (fun a b => decide (a ≤ b)) l
  let n := s.length
  if n % 2 = 1 then 2 * s.getD (n / 2) 0 else s.getD (n / 2 - 1) 0 + s.getD (n / 2) 0

/-- Tracks to the left of a median, or at it, and those to the right. -/
def sideTracks (m2 : Int) (ts : List Track) : List Track × List Track :=
  (ts.filter (fun t => 2 * t.xa ≤ m2), ts.filter (fun t => m2 < 2 * t.xa))

/-- The tracks of a part divided in two (R165). Where the tracks' median equals their greatest X_A though not all are equal, and the left part
would again receive every track, they too are divided by their serials (DESIGN CHOICE, log 141). -/
def divideTracks (p : Part) : List Track × List Track :=
  let a := sideTracks (median2 (p.obs.map (fun o => o.2.xa))) p.trks
  if a.1 ≠ [] && a.2 ≠ [] then a
  else
    let b := sideTracks (median2 (p.trks.map (·.xa))) p.trks
    if b.1 ≠ [] && b.2 ≠ [] then b
    else
      let s := sortBy (fun (x y : Track) => !later 32 x.serial y.serial) p.trks
      (s.take (s.length / 2), s.drop (s.length / 2))

/-- A part split in two (R165): an observation goes with its lowest-cost track, to the left at equal cost. -/
def Mod.splitPart (m : Mod) (p : Part) : Part × Part :=
  let d := divideTracks p
  let low := fun (o : Obs) (ts : List Track) => ((ts.filter (m.gated o)).map (m.costOf o)).foldl Nat.min 65536
  let left := fun (o : Nat × Obs) => decide (low o.2 d.1 ≤ low o.2 d.2)
  ({ obs := p.obs.filter left, trks := d.1 }, { obs := p.obs.filter (fun o => !left o), trks := d.2 })

/-- The parts of a window, from left to right, each with at most 64 tracks; and the track counts of the parts that were split. -/
def Mod.parts (m : Mod) : Nat → Part → List Part × List Nat
  | 0, p => ([p], [])
  | k + 1, p =>
    if p.trks.length ≤ 64 then ([p], [])
    else
      let d := m.splitPart p
      let a := m.parts k d.1
      let b := m.parts k d.2
      (a.1 ++ b.1, p.trks.length :: (a.2 ++ b.2))

/-! ### The auction (R166) -/

/-- An auction in progress: the track's price and owner by serial, the observations that chose a new track, the bids. -/
structure Auction where
  price : List (Nat × Int) := []
  owner : List (Nat × Nat) := []
  fresh : List Nat := []
  bids : Nat := 0

/-- The track an observation holds. -/
def Auction.trackOf (a : Auction) (i : Nat) : Option Nat := (a.owner.find? (fun e => e.2 = i)).map (·.1)

/-- An observation that neither holds a track nor has chosen a new one. -/
def Auction.open_ (a : Auction) (i : Nat) : Bool := (a.trackOf i).isNone && !a.fresh.contains i

/-- An observation's value for a gated track less its price. -/
def Mod.netValue (m : Mod) (a : Auction) (o : Obs) (t : Track) : Int :=
  (m.rd P.trkGateC : Int) - m.costOf o t - (assocGet a.price t.serial).getD 0

/-- One observation's turn: a bid, or the new track (R166). -/
def Mod.bid (m : Mod) (a : Auction) (i : Nat) (o : Obs) (ts : List Track) : Auction :=
  let new : Int := (m.rd P.trkGateC : Int) - m.rd P.trkNewCost
  let val := m.netValue a o
  match pick (fun x y => val y < val x || (val x = val y && later 32 y.serial x.serial)) ts with
  | none => { a with fresh := i :: a.fresh }
  | some b =>
    if val b < new then { a with fresh := i :: a.fresh }
    else
      let second := ((ts.filter (fun x => x.serial ≠ b.serial)).map val).foldl max new
      let price := (assocGet a.price b.serial).getD 0 + (val b - second) + m.rd P.trkEps
      { a with price := assocSet a.price b.serial price, owner := assocSet a.owner b.serial i, bids := a.bids + 1 }

/-- The auction of a part: observations in order of T_A bid until none is left, or until the window's bids reach their limit
(R166); whether they did. -/
def Mod.auction (m : Mod) (p : Part) : Nat → Auction → Auction × Bool
  | 0, a => (a, false)
  | k + 1, a =>
    if m.rd P.trkBidMax ≤ a.bids then (a, true)
    else
      match p.obs.find? (fun o => a.open_ o.1) with
      | none => (a, false)
      | some o => m.auction p k (m.bid a o.1 o.2 (p.trks.filter (m.gated o.2)))

/-- Observations that the limit has left take free tracks of lowest cost in order of T_A (R166). -/
def Mod.greedy (m : Mod) (p : Part) (a : Auction) : Auction :=
  (p.obs.filter (fun o => a.open_ o.1)).foldl (fun a o =>
    let free := p.trks.filter (fun t => m.gated o.2 t && (assocGet a.owner t.serial).isNone)
    match pick (m.closer o.2) free with
    | some t => if m.costOf o.2 t ≤ m.rd P.trkNewCost then { a with owner := assocSet a.owner t.serial o.1 } else { a with fresh := o.1 :: a.fresh }
    | none => { a with fresh := o.1 :: a.fresh }) a

/-- A part solved: a track assigned in an earlier part is not offered (R165). -/
def Mod.solvePart (m : Mod) (s : List (Nat × Nat) × Nat × Option Nat) (p : Part) : List (Nat × Nat) × Nat × Option Nat :=
  let q : Part := { p with trks := p.trks.filter (fun t => (assocGet s.1 t.serial).isNone) }
  let r := m.auction q (m.rd P.trkBidMax + 66) { bids := s.2.1 }
  if r.2 then
    let n := (q.obs.filter (fun o => r.1.open_ o.1)).length
    let a := m.greedy q r.1
    (s.1 ++ a.owner, a.bids, some (s.2.2.getD 0 + n))
  else (s.1 ++ r.1.owner, r.1.bids, s.2.2)

/-- A closed window is solved (R164 to R166): the choices, and the splits' track counts. -/
def Mod.solve (m : Mod) (obs : List Obs) : Solution × List Nat :=
  let order := sortBy (fun (a b : Nat × Obs) => decide (a.2.ta ≤ b.2.ta)) (obs.zipIdx.map (fun (o, i) => (i, o)))
  let frag := order.filterMap (fun o => (m.fragmentTrack o.2).map (fun t => (o.1, t.serial)))
  let rest := order.filter (fun o => (assocGet frag o.1).isNone)
  let trks := m.trk.live.filter (fun t => rest.any (fun o => m.gated o.2 t))
  let ps := m.parts trks.length { obs := rest, trks := trks }
  let r := ps.1.foldl m.solvePart ([], 0, none)
  let choice := (List.range obs.length).map (fun i =>
    match assocGet frag i with
    | some s => some s
    | none => (r.1.find? (fun e => e.2 = i)).map (·.1))
  ({ choice := choice, left := r.2.2 }, ps.2)

/-- The first closed window is solved if it is not yet; its splits are counted (R165). -/
def Mod.solveHead (m : Mod) : Mod :=
  match m.trk.wins with
  | [] => m
  | w :: r =>
    if w.sol.isSome then m
    else
      let s := m.solve w.obs
      let m1 := { m with trk := { m.trk with wins := { w with sol := some s.1 } :: r } }
      s.2.foldl (fun m n => (m.inc P.trkWinSplits).raise 52 0x0321 (leBytes 2 n)) m1

/-- The open window closes (R165). -/
def Mod.closeWindow (m : Mod) : Mod :=
  match m.trk.win with
  | none => m
  | some w =>
    let c : Closed := { obs := w.obs, sol := none }
    ({ m with trk := { m.trk with win := none, wins := m.trk.wins ++ [c] } }).solveHead

/-- ASSOC_WINDOW_CLOSE (R165): TRK_WIN_NS after the window opened; at 64 observations it has closed by itself. -/
def assocWindowClose (m : Mod) : Mod :=
  match m.trk.win with
  | none => m
  | some w => if w.opened + m.rd P.trkWinNs ≤ m.now || 64 ≤ w.obs.length then m.closeWindow else m

/-! ### Observations (R138, R153) -/

/-- An observation enters the open window, which closes at 64 (R165). -/
def Mod.offer (m : Mod) (o : Obs) : Mod :=
  let w : Window := match m.trk.win with
    | some w => { w with obs := w.obs ++ [o] }
    | none => { opened := m.now, obs := [o] }
  let m1 := { m with trk := { m.trk with win := some w } }
  if 64 ≤ w.obs.length then m1.closeWindow else m1

/-- OBSERVATION_CLOSE (R134, R138, R139, R153): the port's oldest closed region becomes an observation. -/
def observationClose (p : Nat) (m : Mod) : Mod :=
  let layer := m.fus.layers.getD p {}
  match layer.closed with
  | [] => m
  | (b, ovr) :: rest =>
    let m1 := { m with fus := { m.fus with layers := m.fus.layers.set p { layer with closed := rest } } }
    if b.cells.length < m.rd P.fusMinCells then m1.inc P.fusSmall
    else if !m.heightOk p then m1
    else
      let m2 := m1.inc P.fusObs
      if m.excluded.testBit p then m2 else m2.offer (m2.makeObs p b ovr)

/-! ### Opening and joining (R158, R161, R162, R167, R168, R177, R178) -/

/-- A free slot, first freed first taken (R158), and the module without it. -/
def Mod.takeSlot (m : Mod) : Option (Nat × Mod) :=
  if m.trk.fresh < 8192 then some (m.trk.fresh, { m with trk := { m.trk with fresh := m.trk.fresh + 1 } })
  else
    match m.trk.freed with
    | s :: r => some (s, { m with trk := { m.trk with freed := r } })
    | [] => none

/-- TABLE_FULL (R161): the piece is tallied at once. -/
def Mod.tableFull (m : Mod) (serial lane : Nat) : Mod :=
  let m1 := (((m.inc P.trkTableFulls).raise 52 0x0320 (leBytes 4 serial)).inc P.trkDl 8).raise 53 0x0324 (leBytes 4 serial ++ leBytes 1 9)
  let a : Account := { recipe := m.sys.recipe, outcome := if m.dfltOf m.sys.recipe then 3 else 4,
                       flags := flagTo 0 12 (!m.time.valid), mass := 0, cls := none, tableFull := true }
  (((m1.mapPiece a).1).tallyPiece a).ratePiece a lane

/-- The closed entry of a slot gives way: a piece of it that still has pulses stays known as one whose miss has been told (R203). -/
def Mod.forgetEntry (m : Mod) (slot : Nat) : Mod :=
  let told := (m.trk.done.filter (fun d => d.slot = slot && d.missNoted)).map (·.serial)
  let pend := fun (n : Nat) => m.ej.pulses.any (fun p => p.serial = n)
  if told.any pend then { m with ej := { m.ej with noted := m.ej.noted.filter pend ++ told.filter pend } } else m

/-- TRACK_OPEN (R158, R161, R162). -/
def Mod.openTrack (m : Mod) (o : Obs) : Mod :=
  let serial := m.bist.serial
  let m1 := { m with bist := { m.bist with serial := (serial + 1) % 2 ^ 32 } }
  match m1.takeSlot with
  | none => m1.tableFull serial o.lane
  | some (slot, m2) =>
    let t : Track :=
      { slot := slot, serial := serial, st := .open_, recipe := m.sys.recipe, variant := m.fus.variant, tFirst := o.t, ta := o.ta, xa := o.xa,
        lane := o.lane, colFirst := o.colFirst, colLast := o.colLast, obs := [o], lot := m.trk.lotId, vals := m.regs, calu := m.sys.calu }
    let t1 := t.gather m.laneCount
    let m3 := { m2.forgetEntry slot with trk := { m2.trk with live := m2.trk.live ++ [t1], done := m2.trk.done.filter (fun d => d.slot ≠ slot) } }
    ((m3.inc P.trkOpened).peak P.trkLivePeak m3.trk.live.length).checkReady serial false

/-- A late sample recorded without effect (R178): it is associated (R159), and the fields formed from the track's observations stand
(DESIGN CHOICE, log 142). -/
def Mod.recordLate (m : Mod) (t : Track) (o : Obs) : Mod :=
  let m1 := (m.setTrack t.serial (fun t =>
    { t with portsLate := t.portsLate ||| 2 ^ o.port, flags := flagTo t.flags 9 true, recorded := t.recorded ++ [o] })).inc P.trkLate
  if t.tCommit ≤ m.now then m1.raise 53 0x0327 (leBytes 4 t.serial ++ leBytes 1 o.port) else m1

/-- A sample of a required sensor whose features a waiting piece lacks (R170). -/
def Track.awaits (t : Track) (o : Obs) : Bool := t.st = .ready && (lrd t.vals P.fusRequired).testBit o.port && t.missing t.obs o.port

/-- A late sample (R170, R177, R178): the job that waits for it runs with it, else it starts a revision, joins one that waits, or is
recorded. Before a verdict no commit point bounds its revision's start; while the piece waits for its slot it is held for the revision. -/
def Mod.lateSample (m : Mod) (t : Track) (o : Obs) : Mod :=
  if t.cause ≠ 0 || t.st = .committed || t.tCommit ≤ m.now then m.recordLate t o
  else if t.awaits o then
    let m1 := m.addObs t.serial o
    let sooner := fun (w : Wait) => if w.serial = t.serial then
        let s := Nat.max w.sample (match m1.track? t.serial with
          | some k => m1.lastSample k false
          | none => 0)
        { w with sample := s, latest := m.latestStart w.commit s }
      else w
    ({ m1 with cell := { m1.cell with queue := m1.cell.queue.map sooner } }).tryAdmit
  else
    let a := t.lateAt.getD o.arrived
    let latest := if t.tDecided = 0 then a + m.sampleLead else m.latestStart t.tCommit a
    if t.revisedOnce || latest < m.now then m.recordLate t o
    else
      let m1 := if t.st = .ready then m.setTrack t.serial (fun t => { t with held := t.held ++ [o] }) else m.addObs t.serial o
      match t.lateAt with
      | some _ => m1
      | none =>
        let m2 := (m1.setTrack t.serial (fun t => { t with lateAt := some o.arrived })).inc P.trkRevisions
        if t.st = .decided then m2.startRevision t.serial else m2

/-- The first observation of a port comes after the port's due instant (R148); a required sensor's may (R170). -/
def Mod.pastDue (m : Mod) (t : Track) (o : Obs) : Bool :=
  !t.saw o.port && !(lrd t.vals P.fusRequired).testBit o.port && m.dueAt t o.port < m.now

/-- An observation joins a track (R148, R167, R168). -/
def Mod.joinTrack (m : Mod) (t : Track) (o : Obs) : Mod :=
  if t.st = .open_ then
    let late := if m.pastDue t o then t.overdue ||| 2 ^ o.port else t.overdue
    ((m.setTrack t.serial (fun t => { t with overdue := late })).addObs t.serial o).checkReady t.serial false
  else m.lateSample t o

/-- One observation of a window takes its choice (R167). -/
def Mod.applyChoice (m : Mod) (o : Obs) (c : Option Nat) : Mod :=
  match c with
  | none => m.openTrack o
  | some s =>
    match m.track? s with
    | some t => m.joinTrack t o
    | none => m.inc P.trkLate

/-- ASSOC_WINDOW_RESULT (R162, R166, R167): the oldest closed window's solution takes effect in order of T_A. -/
def assocWindowResult (m : Mod) : Mod :=
  match m.trk.wins with
  | [] => m
  | w :: r =>
    match w.sol with
    | none => m
    | some s =>
      let order := sortBy (fun (a b : Nat × Obs) => decide (a.2.ta ≤ b.2.ta)) (w.obs.zipIdx.map (fun (o, i) => (i, o)))
      let m1 := { m with trk := { m.trk with wins := r } }
      let m2 := match s.left with
        | some n => (m1.inc P.trkBidLimits).raise 52 0x0322 (leBytes 2 n)
        | none => m1
      (order.foldl (fun m o => m.applyChoice o.2 (s.choice.getD o.1 none)) m2).solveHead

/-! ### The commands as the queue gives them -/

/-- OBSERVATION_CLOSE (R138). -/
def execObservationClose (t p : Nat) (s : State) : Host.Outcome State Fault Refusal := s.run t (observationClose p)

/-- ASSOC_WINDOW_CLOSE (R165). -/
def execAssocWindowClose (t : Nat) (s : State) : Host.Outcome State Fault Refusal := s.run t assocWindowClose

/-- ASSOC_WINDOW_RESULT (R167). -/
def execAssocWindowResult (t : Nat) (s : State) : Host.Outcome State Fault Refusal := s.run t assocWindowResult

end Sys2Proof.Machine
end

