-- ==== Sys2Proof/Machine/Can.lean ====
section
/-!
DEFINITION. Machine/Can.lean: the CAN FD channels (chapter 15). Routing of consumed frames to Volron is in
Machine/NetCan.lean.
-/
namespace Sys2Proof.Machine

/-- A CAN channel. -/
def Mod.canCh (m : Mod) (ch : Nat) : CanCh := m.can.ch.getD ch {}

/-- A CAN channel changed. -/
def Mod.setCan (m : Mod) (ch : Nat) (f : CanCh → CanCh) : Mod := { m with can := { m.can with ch := updAt m.can.ch ch f } }

/-- Data bytes of a DLC in a frame format (ISO 11898-1). -/
def dlcLen (fd : Bool) (dlc : Nat) : Nat :=
  if dlc ≤ 8 then dlc
  else if !fd then 8
  else match dlc with
    | 9 => 12
    | 10 => 16
    | 11 => 20
    | 12 => 24
    | 13 => 32
    | 14 => 48
    | _ => 64

/-- The least DLC that carries `n` bytes. -/
def lenDlc (n : Nat) : Nat :=
  if n ≤ 8 then n else if n ≤ 12 then 9 else if n ≤ 16 then 10 else if n ≤ 20 then 11 else if n ≤ 24 then 12
  else if n ≤ 32 then 13 else if n ≤ 48 then 14 else 15

/-- A channel that takes part in the bus: a mode other than off, usable, not in bus-off, no state of R33. -/
def Mod.canLive (m : Mod) (ch : Nat) : Bool := ch < 4 && (m.canCh ch).st < 2

/-! ### The receive ring (R351 to R353) -/

/-- An entry goes to the next free slot of the ring. -/
def CanCh.store (c : CanCh) (e : CanEntry) (shadow lost : Bool) : CanCh :=
  { c with ring := c.ring ++ [(e, shadow, lost)], slots := assocSet c.slots ((c.head + c.ring.length) % 512) (e, shadow, lost) }

/-- A frame is discarded whole (R353). -/
def Mod.canDiscard (m : Mod) (ch : Nat) : Mod :=
  (((m.setCan ch (fun c => { c with lostBefore := true })).inc P.canRxDiscarded ch).flag P.canFlags 4 ch).raiseOnce
    (112 + ch) 0x0905 ch (fun n => leBytes 4 n)

/-- A frame reaches the ring, the shadow buffer, or is discarded (R351, R353). -/
def Mod.canKeep (m : Mod) (ch : Nat) (e : CanEntry) : Mod :=
  let c := m.canCh ch
  let seq := (c.seq + 1) % 2 ^ 32
  let e1 := { e with seq := seq % 65536 }
  if c.ring.length = 512 then m.canDiscard ch
  else if c.ring.length = 511 && c.reading.isSome then
    if c.shadow.isSome then m.canDiscard ch
    else (m.setCan ch (fun c => { c with shadow := some (e1, c.lostBefore), lostBefore := false, seq := seq })).inc
      P.canRxShadowed ch
  else m.setCan ch (fun c => { c.store e1 false c.lostBefore with lostBefore := false, seq := seq })

/-- The firmware begins to read the entry at the head (R353). -/
def CanCh.take (c : CanCh) : CanCh :=
  match c.ring with
  | e :: r => { c with reading := some e, ring := r, head := (c.head + 1) % 512 }
  | [] => c

/-- The read completes: a shadow frame moves into the freed slot (R353). -/
def CanCh.release (c : CanCh) : CanCh :=
  match c.shadow with
  | some (e, lost) => { c.store e true lost with reading := none, shadow := none }
  | none => { c with reading := none }

/-! ### Error confinement (R358) -/

/-- The state that the counters give: 0 active, 1 passive, 2 bus-off. -/
def errState (tec rec : Nat) : Nat := if 256 ≤ tec then 2 else if 128 ≤ tec || 128 ≤ rec then 1 else 0

/-- The counters change, with the events of each change of state (R358, R361). -/
def Mod.canCounters (m : Mod) (ch tec rec : Nat) : Mod :=
  let c := m.canCh ch
  let st := errState tec rec
  let m1 := m.setCan ch (fun c => { c with tec := tec, rec_ := rec, st := st, busOffAt := if st = 2 then m.now else c.busOffAt })
  if st = c.st then m1
  else if st = 1 then (m1.flag P.canFlags 1 ch).raise (112 + ch) 0x0901 (leBytes 2 tec ++ leBytes 1 rec)
  else if st = 2 then ((m1.inc P.canBusoffs ch).flag P.canFlags 2 ch).raise (112 + ch) 0x0903 (leBytes 2 tec)
  else m1.raise (112 + ch) 0x0902

/-! ### Transmission (R356, R357) -/

/-- The order in which queued frames are offered (R356). -/
def CanTx.key (f : CanTx) : Nat := if f.ext then 2 * f.id + 1 else 2 * (f.id * 2 ^ 18)

/-- An Address Claimed or Cannot Claim of the data link (R359). -/
def CanTx.isClaim (f : CanTx) : Bool := f.from_ = 1 && f.id / 256 = 0x18EEFF

/-- A queued frame may be offered in an attempt that began at an instant: it was queued by then, and until an address is held the
data link sends nothing but claims (R356, R360). -/
def CanCh.mayOffer (c : CanCh) (sof : Nat) (f : CanTx) : Bool := f.at_ ≤ sof && (f.from_ ≠ 1 || f.isClaim || c.iso = .held)

/-- The position of the frame that is offered in an attempt that began at an instant (R356). -/
def CanCh.txHead (c : CanCh) (sof : Nat) : Nat :=
  let best := (c.txq.filter (c.mayOffer sof)).foldl (fun b f => Nat.min b f.key) (2 ^ 40)
  c.txq.findIdx (fun f => c.mayOffer sof f && f.key = best)

/-- A frame enters the transmit queue of 32, or is refused (R356). -/
def Mod.canQueue (m : Mod) (ch : Nat) (f : CanTx) : Mod × Bool :=
  if (m.canCh ch).txq.length < 32 then (m.setCan ch (fun c => { c with txq := c.txq ++ [f] }), true) else (m, false)

/-- Space in the transmit queue is taken by the frames that wait for it (R365). -/
def CanCh.refill (now : Nat) (c : CanCh) : CanCh :=
  let n := 32 - c.txq.length
  { c with txq := c.txq ++ (c.txWait.take n).map (fun f => { f with at_ := now }), txWait := c.txWait.drop n }

/-- A frame of the Volron transport enters the queue as space allows (R365). -/
def Mod.canOffer (m : Mod) (ch : Nat) (f : CanTx) : Mod := m.setCan ch (fun c => { c with txWait := c.txWait ++ [f] }.refill m.now)

/-- A frame that the data link sends: classical, 29-bit, 8 bytes. -/
def Mod.isoFrame (m : Mod) (id : Nat) (data : List Byte) : CanTx :=
  { id := id, ext := true, fd := false, brs := false, dlc := 8, data := padTo 8 data, at_ := m.now, from_ := 1, sid := 0 }

/-! ### Address claiming (R360) -/

/-- CAN_ISO_NAME. -/
def Mod.isoName (m : Mod) (ch : Nat) : Nat := m.rd P.canIsoNameHi ch * 2 ^ 32 + m.rd P.canIsoNameLo ch

/-- Address Claimed from an address; from 254 it is Cannot Claim (R359). It waits for space in the queue (log 147). -/
def Mod.isoClaim (m : Mod) (ch sa : Nat) : Mod := m.canOffer ch (m.isoFrame (0x18EEFF00 + sa) (leBytes 8 (m.isoName ch)))

/-- Frames of the data link leave the queues, but for those kept. -/
def CanCh.isoPurge (keep : CanTx → Bool) (c : CanCh) : CanCh :=
  { c with txq := c.txq.filter (fun f => f.from_ ≠ 1 || keep f), txWait := c.txWait.filter (fun f => f.from_ ≠ 1 || keep f) }

/-- The use of an address ends at once (R360): its frames, its TP sessions, with event 0x0909, and what waits for them. -/
def Mod.isoQuit (m : Mod) (ch : Nat) : Mod :=
  (m.canCh ch).tp.foldl (fun m e => m.raise (112 + ch) 0x0909 (leBytes 1 e.peer ++ leBytes 3 e.pgn))
    (m.setCan ch (fun c => { c.isoPurge (fun _ => false) with tp := [], isoOut := [] }))

/-- Claiming begins (R360): after the road book is applied and after each bus-off recovery. Frames of the data link that stand queued
from the preferred address stay (R358), but for claims, which are made anew. -/
def Mod.isoStart (m : Mod) (ch : Nat) : Mod :=
  if (m.rd P.canCfg ch).testBit 0 && m.rd P.canMode ch = 1 then
    let pref := field (m.rd P.canIsoAddr ch) 23 16
    let m1 := if (m.canCh ch).sa = pref then m else m.isoQuit ch
    (m1.setCan ch (fun c => { c.isoPurge (fun f => !f.isClaim) with
      iso := .waiting, isoAt := m.now, claimSent := false, lost := [], sa := pref })).wr P.canIsoSa 254 ch
  else m

/-- The next address of the range, wrapping from high to low, that is not lost (R360). -/
def nextAddr (lo hi sa : Nat) (lost : List Nat) : Option Nat :=
  let n := hi + 1 - lo
  let from_ := if lo ≤ sa && sa < hi then sa + 1 else lo
  ((List.range n).map (fun k => lo + (from_ - lo + k) % n)).find? (fun a => !lost.contains a)

/-- The module loses its address (R360). -/
def Mod.isoLose (m : Mod) (ch : Nat) : Mod :=
  let c := m.canCh ch
  let r := m.rd P.canIsoAddr ch
  let lost := c.sa :: c.lost
  let m1 := ((m.isoQuit ch).setCan ch (fun c => { c with lost := lost, claimSent := false })).wr P.canIsoSa 254 ch |>.flag P.canFlags 16 ch
  match nextAddr (field r 15 8) (field r 7 0) c.sa lost with
  | some a => (m1.setCan ch (fun c => { c with sa := a, iso := .claimed, isoAt := m.now })).isoClaim ch a
  | none =>
    ((m1.setCan ch (fun c => { c with sa := 254, iso := .cannot })).isoClaim ch 254).raise (112 + ch) 0x0908 (leBytes 1 c.sa)

/-- An address is in use or being claimed. -/
def CanCh.claiming (c : CanCh) : Bool := c.iso = .claimed || c.iso = .held

/-- The PF of a frame of the data link: a parameter group of page 0, whose bits 25 and 24 of the identifier are zero (R359). -/
def CanEntry.pf (e : CanEntry) : Option Nat := if field e.id 25 24 = 0 then some (field e.id 23 16) else none

/-- The data link sees a frame (R359, R360): Address Claimed for its address, or a Request for it. -/
def Mod.isoReceive (m : Mod) (ch : Nat) (e : CanEntry) : Mod :=
  let c := m.canCh ch
  let pf := e.pf
  let da := field e.id 15 8
  let sa := field e.id 7 0
  if pf = some 0xEE && c.claiming && sa = c.sa then
    if leVal (e.data.take 8) < m.isoName ch then m.isoLose ch else m.isoClaim ch c.sa
  else if pf = some 0xEA && leVal (e.data.take 3) = 0xEE00 && (da = 255 || da = c.sa) then
    if c.claiming then m.isoClaim ch c.sa else if c.iso = .cannot then m.isoClaim ch 254 else m
  else m

/-! ### The commands -/

/-- A frame as the bus carries it. -/
def entryOf (f : CanFrame) (stamp : Nat) (tx : Bool) : CanEntry :=
  { stamp := stamp, seq := 0, id := f.id, ext := f.ext, fd := f.fd, brs := f.brs, esi := f.esi, tx := tx, rtr := f.rtr,
    dlc := f.dlc, data := padTo 64 (f.data.take (dlcLen f.fd f.dlc)) }

/-- The stamp of a frame whose start-of-frame edge was seen at raw count `sof` (R352). -/
def Mod.canStamp (m : Mod) (ch sof : Nat) : Nat := toU 32 ((sof : Int) - m.cal P.canRxLat ch)

/-- CAN_FRAME_RECEIVED (R346, R351, R353, R358). -/
def canFrameReceived (ch sof : Nat) (f : CanFrame) (m : Mod) : Mod :=
  if !m.canLive ch then m
  else if f.fd && !(m.rd P.canCfg ch).testBit 3 then m.flag P.canFlags 32 ch
  else
    let c := m.canCh ch
    let rx := if 127 < c.rec_ then 119 else c.rec_ - 1
    ((m.canCounters ch c.tec rx).inc P.canRxFrames ch).canKeep ch (entryOf f (m.canStamp ch sof) false)

/-- The secondary sample point in clock periods for a measured transmitter delay (R350). -/
def Mod.canSsp (m : Mod) (ch tdc : Nat) : Nat :=
  let d := m.rd P.canDbt ch
  let o := m.rd P.canTdco ch
  tdc + (if o = 0 then (field d 28 24 + 1) * (2 + field d 20 16) else o)

/-- A transmitter delay is measured in an FD frame's data phase (R350): CAN_TDC_NOW and the secondary sample point follow. -/
def Mod.canTdc (m : Mod) (ch tdc : Nat) : Mod :=
  (m.wr P.canTdcNow (Nat.min tdc 255) ch).setCan ch (fun c => { c with ssp := m.canSsp ch (Nat.min tdc 255) })

/-- The claim of the data link's address has left the module: its 250 ms run (R360). -/
def CanCh.claimOut (now : Nat) (f : CanTx) (c : CanCh) : CanCh :=
  if f.isClaim && f.id % 256 = c.sa && c.iso = .claimed && !c.claimSent then { c with claimSent := true, isoAt := now } else c

/-- CAN_FRAME_TRANSMITTED (R350, R351, R356): the attempt began at raw count `sof`; `tdc` is the measured transmitter delay. -/
def canFrameTransmitted (ch sof tdc : Nat) (m : Mod) : Mod :=
  let c := m.canCh ch
  let i := c.txHead (m.extend sof)
  match c.txq[i]? with
  | some f =>
    if m.canLive ch && m.rd P.canMode ch = 1 then
      let fr : CanFrame := { id := f.id, ext := f.ext, fd := f.fd, brs := f.brs && (m.rd P.canCfg ch).testBit 2,
                             esi := f.fd && c.st = 1, rtr := false, dlc := f.dlc, data := f.data }
      let e := entryOf fr (m.canStamp ch sof) true
      let m1 := (m.setCan ch (fun c => ({ c with txq := c.txq.eraseIdx i, sent := c.sent ++ [e] }.claimOut m.now f).refill m.now)).inc P.canTxFrames ch
      let m2 := if f.fd then m1.canTdc ch tdc else m1
      (m2.canCounters ch (c.tec - 1) c.rec_).canKeep ch e
    else m
  | none => m

/-- The data link is told that a claim stayed unsent: it sends the claim again (R357, R360; log 147). -/
def Mod.claimAgain (m : Mod) (ch : Nat) (f : CanTx) : Mod :=
  let c := m.canCh ch
  if f.isClaim && f.id % 256 = c.sa && ((c.iso = .claimed && !c.claimSent) || c.iso = .cannot) then m.isoClaim ch c.sa else m

/-- A frame leaves the queue unsent, and its sender is told (R357). -/
def Mod.canExpire (m : Mod) (ch i : Nat) : Mod :=
  match (m.canCh ch).txq[i]? with
  | some f =>
    ((((m.setCan ch (fun c => { c with txq := c.txq.eraseIdx i, unsent := c.unsent ++ [f] }.refill m.now)).inc P.canTxExpired ch).flag
      P.canFlags 8 ch).raise (112 + ch) 0x0906 (leBytes 4 f.id)).claimAgain ch f
  | none => m

/-- An attempt of this channel's own: lost arbitration, a transmit error, no acknowledge, a stuff error in arbitration. -/
def ownAttempt (kind : Nat) : Bool := kind ≤ 1 || kind = 4 || kind = 5

/-- CAN_ERROR (R350, R357, R358). `kind`: 0 lost arbitration, 1 transmit error, 2 receive error, 3 receive error counted by 8,
4 no acknowledge, which an error-passive transmitter does not count, 5 a stuff error in arbitration that the transmitter does not count.
An attempt needs normal mode and a queued frame; `tdc` is the delay that it measured. A frame whose timeout passed during it is removed. -/
def canError (ch kind : Nat) (tdc : Option Nat) (m : Mod) : Mod :=
  if !m.canLive ch || (ownAttempt kind && (m.rd P.canMode ch ≠ 1 || (m.canCh ch).txq = [])) then m
  else
    let c := m.canCh ch
    let m1 := if kind = 0 then m else m.inc P.canErrFrames ch
    let m2 := match kind with
      | 1 => m1.canCounters ch (c.tec + 8) c.rec_
      | 2 => m1.canCounters ch c.tec (Nat.min 255 (c.rec_ + 1))
      | 3 => m1.canCounters ch c.tec (Nat.min 255 (c.rec_ + 8))
      | 4 => if c.st = 1 then m1 else m1.canCounters ch (c.tec + 8) c.rec_
      | _ => m1
    let m3 := match tdc with
      | some d => if ownAttempt kind && (m.rd P.canCfg ch).testBit 3 then m2.canTdc ch d else m2
      | none => m2
    let i := c.txq.findIdx (fun f => f.late)
    if ownAttempt kind && i < c.txq.length then m3.canExpire ch i else m3

/-- CAN_TX_TIMEOUT (R357): the oldest frame unsent CAN_TX_TIMEOUT after queueing; `busy` says that an attempt to send it
is in progress, which completes. -/
def canTxTimeout (ch : Nat) (busy : Bool) (m : Mod) : Mod :=
  let lim := m.rd P.canTxTimeout ch * 1000000
  let i := (m.canCh ch).txq.findIdx (fun f => f.at_ + lim ≤ m.now && !f.late)
  if ch < 4 && i < (m.canCh ch).txq.length then
    if busy then m.setCan ch (fun c => { c with txq := updAt c.txq i (fun f => { f with late := true }) }) else m.canExpire ch i
  else m

/-- Half nanoseconds of a bit of the nominal phase (R348): 12.5 ns × NBRP × (1 + NTSEG1 + NTSEG2). -/
def Mod.canBit (m : Mod) (ch : Nat) : Nat :=
  let w := m.rd P.canNbt ch
  25 * ((field w 31 24 + 1) * (3 + field w 23 16 + field w 15 9))

/-- CAN_BUSOFF_RECOVERED (R358, R360): 128 occurrences of 11 recessive bits take no less than 1,408 bits. -/
def canBusoffRecovered (ch : Nat) (m : Mod) : Mod :=
  let c := m.canCh ch
  if ch < 4 && c.st = 2 && 2 * c.busOffAt + 1408 * m.canBit ch ≤ 2 * m.now then
    ((m.setCan ch (fun c => { c with st := 0, tec := 0, rec_ := 0 })).raise (112 + ch) 0x0904
      (leBytes 4 ((m.now - c.busOffAt) / 1000))).isoStart ch
  else m

/-- ISO_CLAIM_SEND (R360): after 0.6 ms × NAME[7:0]. -/
def isoClaimSend (ch : Nat) (m : Mod) : Mod :=
  let c := m.canCh ch
  if ch < 4 && c.iso = .waiting && c.isoAt + 600000 * (m.isoName ch % 256) ≤ m.now then
    (m.setCan ch (fun c => { c with iso := .claimed, isoAt := m.now, claimSent := false })).isoClaim ch c.sa
  else m

/-- ISO_ADDRESS_HELD (R360): 250 ms after the claim left the module. -/
def isoAddressHeld (ch : Nat) (m : Mod) : Mod :=
  let c := m.canCh ch
  if m.canLive ch && c.iso = .claimed && c.claimSent && c.isoAt + 250000000 ≤ m.now then
    ((m.setCan ch (fun c => { c with iso := .held })).wr P.canIsoSa c.sa ch).raise (112 + ch) 0x0907 (leBytes 1 c.sa)
  else m

/-- The channels start with the road book (R347, R360). -/
def Mod.canStart (m0 : Mod) : Mod :=
  let m : Mod := { m0 with can := { m0.can with started := true } }
  (List.range 4).foldl (fun m ch =>
    if m.rd P.canMode ch ≠ 0 && !(m.canCh ch).unusable then (m.setCan ch (fun c => { c with st := 0 })).isoStart ch else m) m

/-- CAN_STATE of a channel (R362): its default until the channels start. -/
def Mod.canState (m : Mod) (ch : Nat) : Nat :=
  let c := m.canCh ch
  if !m.can.started then 64 * bit c.unusable else
  64 * bit c.unusable + 16 * c.st + 8 * bit (c.st = 2) + 4 * bit (c.iso = .held) + 2 * bit (c.iso = .cannot)
    + bit (m.rd P.canMode ch = 2)

/-- The 80 bytes of a ring entry (R351). -/
def entryBytes (e : CanEntry) (shadow lost : Bool) : List Byte :=
  leBytes 4 e.stamp ++ leBytes 4 e.id ++ leBytes 1 e.dlc
    ++ leBytes 1 (128 * bit e.ext + 64 * bit e.rtr + 32 * bit e.fd + 16 * bit e.brs + 8 * bit e.esi + 4 * bit e.tx
      + 2 * bit shadow + bit lost)
    ++ leBytes 2 e.seq ++ leBytes 4 0 ++ padTo 64 e.data

/-- Word `w` of the receive ring's slot `k`. -/
def Mod.canRingWord (m : Mod) (ch k w : Nat) : Word :=
  match assocGet (m.canCh ch).slots k with
  | some (e, s, l) => w32 (leAt (entryBytes e s l) (4 * w) 4)
  | none => 0#32

/-! ### The commands as the queue gives them -/

/-- CAN_FRAME_RECEIVED (R351). -/
def execCanFrameReceived (t ch sof : Nat) (f : CanFrame) (s : State) : Host.Outcome State Fault Refusal :=
  s.run t (canFrameReceived ch sof f)

/-- CAN_FRAME_TRANSMITTED (R356). -/
def execCanFrameTransmitted (t ch sof tdc : Nat) (s : State) : Host.Outcome State Fault Refusal := s.run t (canFrameTransmitted ch sof tdc)

/-- CAN_ERROR (R358). -/
def execCanError (t ch kind : Nat) (tdc : Option Nat) (s : State) : Host.Outcome State Fault Refusal := s.run t (canError ch kind tdc)

/-- CAN_TX_TIMEOUT (R357). -/
def execCanTxTimeout (t ch : Nat) (busy : Bool) (s : State) : Host.Outcome State Fault Refusal := s.run t (canTxTimeout ch busy)

/-- CAN_BUSOFF_RECOVERED (R358). -/
def execCanBusoffRecovered (t ch : Nat) (s : State) : Host.Outcome State Fault Refusal := s.run t (canBusoffRecovered ch)

/-- ISO_CLAIM_SEND (R360). -/
def execIsoClaimSend (t ch : Nat) (s : State) : Host.Outcome State Fault Refusal := s.run t (isoClaimSend ch)

/-- ISO_ADDRESS_HELD (R360). -/
def execIsoAddressHeld (t ch : Nat) (s : State) : Host.Outcome State Fault Refusal := s.run t (isoAddressHeld ch)

end Sys2Proof.Machine
end

