-- ==== Sys2Proof/Machine/Evc.lean ====
section
/-!
DEFINITION. Machine/Evc.lean: the delivery queue and event streams (R384 to R387), the recorder's commands (chapter 17).
-/
namespace Sys2Proof.Machine

/-- Sessions changed. -/
def Mod.setSession (m : Mod) (sid : Nat) (f : Session → Session) : Mod :=
  { m with net := { m.net with sessions := m.net.sessions.map (fun s => if s.id = sid then f s else s) } }

/-! ### The delivery queue (R384, R385) -/

/-- A subscription admits an event (R385). -/
def Sub.admits (s : Sub) (e : Ev) : Bool := s.mask.testBit e.src && e.prio ≤ s.maxPrio

/-- An event enters a session's stream buffer of 256 under the discard rule of R384 (R385). -/
def Session.push (s : Session) (e : Ev) : Session :=
  let q := s.buf ++ [e]
  if q.length ≤ 256 then { s with buf := q }
  else { s with buf := q.eraseIdx (newestLowest (q.map (·.prio))), lost := s.lost + 1 }

/-- An open session takes an event that leaves the queue. -/
def Session.offer (e : Ev) (s : Session) : Session :=
  if s.opened && e.stream && s.sub.any (fun x => x.admits e) then s.push e else s

/-- The firmware takes the event at the head of the queue (R384). -/
def Mod.serveEvent (m : Mod) : Mod :=
  match m.evc.q with
  | [] => m
  | e :: q =>
    let last := if e.fw then assocSet m.evc.last e.src (e.code, e.raw % 2 ^ 32) else m.evc.last
    { m with evc := { m.evc with q := q, last := last, tick := [] }, net := { m.net with sessions := m.net.sessions.map (Session.offer e) } }

/-- A session's discards since a number of them, reported (R389). -/
def Mod.streamLoss (m : Mod) (before : List (Nat × Nat)) : Mod :=
  m.net.sessions.foldl (fun m s =>
    let n := s.lost - (assocGet before s.id).getD 0
    if n = 0 then m else (m.flag P.netFlags 8).raise 118 0x0920 (leBytes 4 s.id ++ leBytes 4 n)) m

/-- EVC_QUEUE_SERVICE (R384): the firmware takes `n` events. -/
def evcQueueService (n : Nat) (m : Mod) : Mod :=
  let before := m.net.sessions.map (fun s => (s.id, s.lost))
  ((List.range n).foldl (fun m _ => m.serveEvent) m).streamLoss before

/-! ### The recorder's commands (chapter 17) -/

/-- A record torn by a power fail: its slot is written in part, so that its CHECK is wrong, and NEXT does not move (R395). -/
def Mod.recTear (m : Mod) (r : Rec) : Mod :=
  if m.log.full then m
  else
    let r1 := { r with seq := m.log.next, opSec := m.log.opSec, cycle := m.log.cycles, check := 0 }
    { m with nv := { m.nv with slots := assocSet m.nv.slots (m.log.next % 8192) { r1 with check := (r1.checkOf + 1) % 256 } } }

/-- RECORDER_WRITE (R396): the recorder, once it has its pointers (log 150), writes the record at the head of its queue. `torn`: outside
RUNNING, which the hold-up covers, power fails during the writing (R395). -/
def recorderWrite (torn : Bool) (m : Mod) : Mod :=
  match m.log.q with
  | [] => m
  | r :: q =>
    if !m.log.ready then m
    else if torn && !m.running then (m.recTear r).fresh m.nv.cause
    else ({ m with log := { m.log with q := q } }).recWrite r

/-- Tokens that have fallen due since start (R398). -/
def Mod.tokensDue (m : Mod) : Nat := m.now * m.rd P.logRate / 10 ^ 9

/-- LOG_TOKEN (R398): each bucket gains the tokens that have fallen due, up to LOG_BURST. -/
def logToken (m : Mod) : Mod :=
  let k := m.tokensDue
  let n := k - m.log.toks
  m.log.buckets.foldl (fun m b => m.setBucket { b with tokens := Nat.min (m.rd P.logBurst) (b.tokens + n) })
    { m with log := { m.log with toks := Nat.max k m.log.toks } }

/-- The order of summaries at an interval's end (R399). -/
def Bucket.before (a b : Bucket) : Bool := a.src < b.src || (a.src = b.src && a.code ≤ b.code)

/-- One summary (R399). -/
def Mod.summary (m : Mod) (b : Bucket) : Mod :=
  (m.setBucket { b with suppressed := 0 }).recInternal 0x0A02 (leBytes 2 b.code ++ leBytes 1 b.src ++ [0] ++ leBytes 4 b.suppressed)

/-- LOG_INTERVAL_END (R399): an interval of 10^9 raw counts has ended. -/
def logIntervalEnd (m : Mod) : Mod :=
  let k := m.now / 10 ^ 9
  if k ≤ m.log.ivals then m
  else
    (sortBy Bucket.before (m.log.buckets.filter (fun b => b.suppressed ≠ 0))).foldl Mod.summary
      { m with log := { m.log with ivals := k } }

/-- OPERATING_SECOND (R393): each whole second of raw counts. -/
def operatingSecond (m : Mod) : Mod :=
  let k := m.now / 10 ^ 9
  { m with log := { m.log with opSec := (m.log.opSec + (k - m.log.secs)) % 2 ^ 32, secs := Nat.max k m.log.secs } }

/-- The record of a sequence number as its slot holds it (R394). -/
def Mod.recAt (m : Mod) (seq : Nat) : Option Rec := assocGet m.nv.slots (seq % 8192)

/-- Up to `n` records from a sequence number on, stopping before NEXT (R402, R403). -/
def Mod.recsFrom (m : Mod) (first n : Nat) : List Rec :=
  let k := Nat.min n ((m.log.next + 2 ^ 32 - first % 2 ^ 32) % 2 ^ 32)
  (List.range k).filterMap (fun i => m.recAt ((first + i) % 2 ^ 32))

/-- A number lies from OLDEST to NEXT (R7, R403, R404). -/
def LogSt.holds (l : LogSt) (s : Nat) : Bool := (s + 2 ^ 32 - l.oldest % 2 ^ 32) % 2 ^ 32 ≤ l.fill

/-- LOG_CURSOR (R403). -/
def logCursor (v : Nat) (m : Mod) : Mod :=
  let m1 := m.wr P.logCursor v
  { m1 with log := { m1.log with winFirst := v % 2 ^ 32, winClears := m1.log.clears,
                                 window := if m1.log.holds v then m1.recsFrom v 16 else [] } }

/-- A clear up to a number (R404): earlier records are held no more, though their slots stand until they are written anew (R394). The fill
is judged before the clear's own record (R401). -/
def Mod.recClear (m : Mod) (upto slot : Nat) : Mod :=
  (({ m with log := { m.log with oldest := upto, clears := (m.log.clears + 1) % 2 ^ 32, full := false } }).recWarn).recInternal 0x0A04 (leBytes 4 upto ++ leBytes 1 slot ++ [0, 0, 0])

/-- EVC_CLR (R391). -/
def evcClr (m : Mod) : Mod := { m with evc := { m.evc with peak := 0 } }

/-- The computed words of the EVC and LOG blocks (R391, R406). -/
def Mod.logView (m : Mod) (a : Nat) : Option Nat :=
  if a = P.evcSeq.base then some m.evc.seq
  else if a = P.evcQNow.base then some m.evc.q.length
  else if a = P.evcQPeak.base then some m.evc.peak
  else if a = P.evcFlags.base then some (bit m.evc.dropFlag)
  else if a = P.logOldest.base then some m.log.oldest
  else if a = P.logNext.base then some m.log.next
  else if a = P.logFill.base then some m.log.fill
  else if a = P.logState.base then some (2 * bit m.log.warned + bit m.log.full)
  else if a = P.logFlags.base then some m.log.flags
  else if a = P.logSuppressed.base then some m.log.suppressed
  else if a = P.logNotRecorded.base then some m.log.notRecorded
  else if a = P.logOverflows.base then some m.log.overflows
  else if a = P.logClears.base then some m.log.clears
  else if a = P.logOpSec.base then some m.log.opSec
  else if a = P.logCycles.base then some m.log.cycles
  else if a = P.logWinFirst.base then some m.log.winFirst
  else if a = P.logWinCount.base then some m.log.window.length
  else if a = P.logWinClears.base then some m.log.winClears
  else
    match P.evcDropped.find a, P.evcCount.find a, P.evcLast.find a, P.logWindow.find a with
    | some (i, _), _, _, _ => some (m.evc.dropped.getD i 0)
    | _, some (s, _), _, _ => some ((assocGet m.evc.counts s).getD 0)
    | _, _, some (s, w), _ => some (match assocGet m.evc.last s with
        | some (code, raw) => if w = 0 then code else raw
        | none => 0)
    | _, _, _, some (k, _) => some (match m.log.window[k / 8]? with
        | some r => leAt r.bytes (4 * (k % 8)) 4
        | none => 0)
    | _, _, _, _ => none

/-! ### The commands as the queue gives them -/

/-- EVC_QUEUE_SERVICE (R384). -/
def execEvcQueueService (t n : Nat) (s : State) : Host.Outcome State Fault Refusal := s.run t (evcQueueService n)

/-- RECORDER_WRITE (R396). -/
def execRecorderWrite (t : Nat) (torn : Bool) (s : State) : Host.Outcome State Fault Refusal := s.run t (recorderWrite torn)

/-- LOG_TOKEN (R398). -/
def execLogToken (t : Nat) (s : State) : Host.Outcome State Fault Refusal := s.run t logToken

/-- LOG_INTERVAL_END (R399). -/
def execLogIntervalEnd (t : Nat) (s : State) : Host.Outcome State Fault Refusal := s.run t logIntervalEnd

/-- OPERATING_SECOND (R393). -/
def execOperatingSecond (t : Nat) (s : State) : Host.Outcome State Fault Refusal := s.run t operatingSecond

end Sys2Proof.Machine
end

