-- ==== Sys2Proof/Machine/Lsw.lean ====
section
/-!
DEFINITION. Machine/Lsw.lean: the protected load switch channels (chapter 11).
-/
namespace Sys2Proof.Machine

/-- A load switch channel changed. -/
def Mod.setLsw (m : Mod) (k : Nat) (f : LswCh → LswCh) : Mod :=
  { m with lsw := { m.lsw with ch := updAt m.lsw.ch k f } }

/-- A load switch channel. -/
def Mod.lswCh (m : Mod) (k : Nat) : LswCh := m.lsw.ch.getD k {}

/-- Event source of a channel (R271). -/
def lswSrc (k : Nat) : Nat := 80 + k / 3

/-- The nominal voltage of input A or B in mV (R256). -/
def Mod.loadNom (m : Mod) (inp : Nat) : Nat := if (m.rd P.tollLoadNom).testBit inp then 24000 else 12000

/-- A channel is set in TOLL_SAFETY_LSW (R244). -/
def Mod.lswSafety (m : Mod) (k : Nat) : Bool := (m.rd P.tollSafetyLsw).testBit k

/-- The road book is applied and no state of R33 holds: its output tests run or have run, or the module is RUNNING (R34, R408). -/
def Mod.placed (m : Mod) : Bool :=
  match m.bist.phase with
  | .outputs | .ready | .running => true
  | _ => false

/-- Outputs may be driven: every output is off until RUNNING (R33, R407, R408). -/
def Mod.driving (m : Mod) : Bool := m.running

/-- A channel with LSW_OV_OFF stays off while its input is above its range (R268). -/
def Mod.lswBarred (m : Mod) (k : Nat) : Bool := m.rd P.lswOvOff k = 1 && (if k % 2 = 0 then m.toll.loadAHigh else m.toll.loadBHigh)

/-- A switch-on request of channel `k` (R258): held back while its input is at or below its threshold, put off until the input is back in
range where that bars it (R268), and put off while its thermal latch is set until the latch clears (R265). -/
def Mod.lswRequest (m : Mod) (k : Nat) (retry : Bool) : Mod :=
  let c := m.lswCh k
  if !m.driving || !(m.rd P.lswEn).testBit k || c.unusable || c.latched || c.on then m
  else if c.thermal then m.setLsw k (fun c => { c with thermalOff := true })
  else if m.lswBarred k then m.setLsw k (fun c => { c with ovOff := true, wait := false, held := false })
  else
    let m1 := m.setLsw k (fun c => { c with wait := true, isRetry := retry, thermalOff := false, uvOff := false, ovOff := false,
                                            held := m.lsw.uv.getD (k % 2) false })
    if m.lsw.uv.getD (k % 2) false then m1
    else m1.ask (.lsw k) (if m.lswSafety k then 0 else 2) (if k % 2 = 0 then .loadA else .loadB) m.now (m.rd P.lswIAllow k)

/-- The grant of a switch-on (R258, R259): the switch turns on and its inrush window begins. -/
def Mod.lswGranted (m : Mod) (k : Nat) : Mod :=
  let win := m.rd P.lswTInrush k ≠ 0
  m.setLsw k (fun c => { c with on := true, wait := false, held := false, inrush := win, counted := 0,
                                since := if m.lsw.uv.getD (k % 2) false then none else some m.now, onAt := m.now, open_ := false,
                                duty := if m.rd P.lswFreq k = 0 then 1000 else c.duty, nextAt := m.now, vSum := 0, vN := 0,
                                trip := 0, iSum := 0, iN := 0, openAt := none })

/-- A channel switches off, or its waiting request is withdrawn. -/
def Mod.lswOff (m : Mod) (k : Nat) : Mod :=
  (m.setLsw k (fun c => { c with on := false, wait := false, held := false, inrush := false, since := none, counted := 0,
                                 open_ := false, duty := 0, trip := 0, openAt := none })).unask (.lsw k)

/-- LSW_ON changes (R258, R266): at a dial write, a recipe's effective instant, or the start. -/
def Mod.lswOnChanged (m : Mod) (k : Nat) (old new : Bool) : Mod :=
  if new && !old then m.lswRequest k false
  else if old && !new then
    (m.lswOff k).setLsw k (fun c => { c with retryAt := none, thermalOff := false, uvOff := false, ovOff := false, count := 0,
                                             isRetry := false })
  else m

/-- An overcurrent fault (R262, R266): off, and a retry falls due, or the channel latches off. -/
def Mod.lswFault (m : Mod) (k : Nat) : Mod :=
  let c := m.lswCh k
  let m1 := ((m.lswOff k).inc P.lswChTrips k).flag P.lswFlags 1
  if c.count = m.rd P.lswRetries k then
    ((m1.setLsw k (fun c => { c with latched := true, retryAt := none })).flag P.lswFlags 2).raise (lswSrc k) 0x0504 (leBytes 1 k)
  else m1.setLsw k (fun c => { c with retryAt := some (m.now + m.rd P.lswRetryMs k * 1000000) })

/-- A retry takes place (R266, R267): it consumes one count and issues its request. -/
def Mod.lswRetry (m : Mod) (k : Nat) : Mod :=
  let n := (m.lswCh k).count + 1
  let m1 := ((m.setLsw k (fun c => { c with retryAt := none, count := n })).inc P.lswRetriesDone).raise (lswSrc k) 0x0503
    (leBytes 1 k ++ leBytes 1 n)
  m1.lswRequest k true

/-- INRUSH_WINDOW_END (R259, R263): the window has counted LSW_T_INRUSH. -/
def inrushWindowEnd (k : Nat) (m : Mod) : Mod :=
  let c := m.lswCh k
  let t := c.counted + (match c.since with
    | some s => m.now - s
    | none => 0)
  if c.on && c.inrush && m.rd P.lswTInrush k * 1000000 ≤ t then m.setLsw k (fun c => { c with inrush := false, since := none, counted := t })
  else m

/-- The duty of R261 before the least times, from the set duty and the voltages in mV; an input of 0 V leaves it open. -/
def lswComp (comp dset vref vin : Nat) (free : Int) : Nat :=
  if comp = 0 then dset
  else if vin = 0 then (clampI 0 1000 free).toNat
  else if comp = 1 then (clampI 0 1000 (rdiv ((dset * vref : Nat) : Int) vin)).toNat
  else (clampI 0 1000 (rdiv ((dset * vref * vref : Nat) : Int) (vin * vin))).toNat

/-- The least on-time and off-time of R257 applied to a duty in 0.1 % at a frequency in Hz. -/
def lswLeast (k freq d : Nat) : Nat :=
  let least := if k < 8 then 200000 else 100000
  let on := d * 1000000 / freq
  let off := (1000 - d) * 1000000 / freq
  let d1 := if d ≠ 0 && on < least then Nat.min 1000 (rdiv ((least * freq : Nat) : Int) 1000000).toNat else d
  if d1 < 1000 && off < least then 1000 else d1

/-- V_in of a channel's period that starts, as a sum of samples and their count (R261): the last sample where the period before gave none. -/
def Mod.lswVin (m : Mod) (k : Nat) : Nat × Nat :=
  let c := m.lswCh k
  if c.vN = 0 then (if k % 2 = 0 then m.toll.loadA else m.toll.loadB, 1) else (c.vSum, c.vN)

/-- LSW_PWM_PERIOD (R260, R261): a period of a switched-on channel starts, 1 ÷ LSW_FREQ after the last. -/
def lswPwmPeriod (k : Nat) (m : Mod) : Mod :=
  let f := m.rd P.lswFreq k
  if k < 24 && (m.lswCh k).on && f ≠ 0 && (m.lswCh k).nextAt ≤ m.now then
    let (vin, n) := m.lswVin k
    let src := m.rd P.lswSrc k
    let dset := if src = 0 then m.rd P.lswDuty k else (clampI 0 1000 (m.loopOut src)).toNat
    let vref := n * (if m.rd P.lswVref k = 0 then m.loadNom (k % 2) else m.rd P.lswVref k)
    let comp := m.rd P.lswComp k
    let (free, m1) := if comp ≠ 0 && vin = 0 then m.draw else (0, m)
    m1.setLsw k (fun c =>
      { c with duty := lswLeast k f (lswComp comp dset vref vin free), nextAt := m.now + 10 ^ 9 / f, vSum := 0, vN := 0 })
  else m

/-- A channel's current in mA from its sense reading (R272). -/
def Mod.lswMa (m : Mod) (k raw : Nat) : Nat := (rdiv ((raw * m.calN P.lswIsense k : Nat) : Int) 65536).toNat

/-- The fixed hard short threshold of a channel's class, mA (R257). -/
def hardShortMa (k : Nat) : Nat := if k < 8 then 60000 else 20000

/-- LSW_HARD_SHORT (R262): the current at or above the fixed threshold of R257. -/
def lswHardShort (k raw : Nat) (m : Mod) : Mod :=
  let ma := m.lswMa k raw
  if (m.lswCh k).on && hardShortMa k ≤ ma then
    ((m.inc P.lswHardShorts).raise (lswSrc k) 0x0501 (leBytes 1 k ++ leBytes 4 ma)).lswFault k
  else m

/-- The current limit in force on a channel (R262), in mA. -/
def Mod.lswLimit (m : Mod) (k : Nat) : Nat := if (m.lswCh k).inrush then m.rd P.lswIInrush k else m.rd P.lswITrip k

/-- A switched-on channel is in its on-time (R260, R262): its period's duty has not run out. -/
def Mod.lswOnTime (m : Mod) (k : Nat) : Bool :=
  let c := m.lswCh k
  let f := m.rd P.lswFreq k
  c.on && (f = 0 || c.duty = 1000 || m.now + 10 ^ 9 / f < c.nextAt + c.duty * (10 ^ 9 / f) / 1000)

/-- A channel's sample (R257, R262, R269, R272): each 100 µs the die's temperature; in its on-time, trip time, which one at or below the limit
resets and off-time pauses; the mean over each millisecond of on-time, and since when it has been below LSW_I_OPEN. -/
def Mod.lswSample (m : Mod) (s : LswSmp) : Mod :=
  let k := s.k
  let c := m.lswCh k
  let m0 := if m.now % 100000 = 0 && k < 24 then m.wrI P.lswTDie s.temp k else m
  if 24 ≤ k || !m.lswOnTime k then m0
  else
    let ma := m.lswMa k s.raw
    let m1 := m0.setLsw k (fun c =>
      { c with trip := if m.lswLimit k < ma then c.trip + 1 else 0, lastMa := ma, iSum := c.iSum + ma, iN := c.iN + 1 })
    if c.iN + 1 < 100 then m1
    else
      let mean := (c.iSum + ma) / (c.iN + 1)
      (m1.wr P.lswINow (Nat.min 80000 mean) k).setLsw k (fun c =>
        { c with iSum := 0, iN := 0, openAt := if !c.inrush && mean < m.rd P.lswIOpen k then some (c.openAt.getD m.now) else none })

/-- LSW_OVERCURRENT_TRIP (R262, R264): the limit in force, 1 inrush or 2 steady, exceeded for LSW_T_TRIP of on-time. -/
def lswOvercurrentTrip (k : Nat) (m : Mod) : Mod :=
  let c := m.lswCh k
  if c.on && 0 < c.trip && 100 * m.rd P.lswTTrip k ≤ c.trip then
    ((m.inc P.lswTrips).raise (lswSrc k) 0x0502
      (leBytes 1 k ++ leBytes 1 (if c.inrush then 1 else 2) ++ leBytes 4 c.lastMa)).lswFault k
  else m

/-- LSW_THERMAL_LATCH (R265): the die at 165 °C; `raw` is the sense reading of the channel's current. -/
def lswThermalLatch (k : Nat) (temp : Int) (raw : Nat) (m : Mod) : Mod :=
  let c := m.lswCh k
  if k < 24 && !c.thermal && 1650 ≤ temp then
    let m1 := ((((m.lswOff k).setLsw k (fun c => { c with thermal := true })).inc P.lswThermals).flag P.lswFlags 4).wrI P.lswTDie
      temp k
    let m2 := m1.raise (lswSrc k) 0x0506 (leBytes 1 k ++ leBytes 2 (toU 16 temp))
    if c.on && m.rd P.lswITrip k < m.lswMa k raw then m2.lswFault k
    else if c.on || c.wait then m2.setLsw k (fun c => { c with thermalOff := true })
    else m2
  else m

/-- LSW_THERMAL_CLEAR (R265, R267): the die below 135 °C. -/
def lswThermalClear (k : Nat) (temp : Int) (m : Mod) : Mod :=
  let c := m.lswCh k
  if c.thermal && temp < 1350 then
    let m1 := ((m.setLsw k (fun c => { c with thermal := false })).wrI P.lswTDie temp k).raise (lswSrc k) 0x0507 (leBytes 1 k)
    let due : Bool := match c.retryAt with
      | some d => d ≤ m.now
      | none => false
    if c.latched then m1
    else if due then m1.lswRetry k
    else if c.thermalOff && m.rd P.lswOn k = 1 then m1.lswRequest k false
    else m1
  else m

/-- LSW_RETRY_DUE (R266, R267): a retry that falls due while the thermal latch is set waits. -/
def lswRetryDue (k : Nat) (m : Mod) : Mod :=
  let c := m.lswCh k
  match c.retryAt with
  | some d => if d ≤ m.now && !c.thermal then m.lswRetry k else m
  | none => m

/-- LSW_RETRY_RESET (R266): 1 s of continuous on-time without a fault. -/
def lswRetryReset (k : Nat) (m : Mod) : Mod :=
  let c := m.lswCh k
  if c.on && c.onAt + 10 ^ 9 ≤ m.now then m.setLsw k (fun c => { c with count := 0 }) else m

/-- One channel named by LSW_CLR (R266): the count returns to 0, a latched channel is released and, with LSW_ON set,
asks to switch on. -/
def Mod.lswClear (m : Mod) (k : Nat) : Mod :=
  let c := m.lswCh k
  let m1 := m.setLsw k (fun c => { c with count := 0, latched := false })
  if c.latched then
    let m2 := m1.raise (lswSrc k) 0x0505 (leBytes 1 k)
    if m.rd P.lswOn k = 1 then m2.lswRequest k false else m2
  else m1

/-- LSW_CLR (R266): bit 15 names every channel. -/
def lswClr (v : Nat) (m : Mod) : Mod :=
  let m1 := m.wr P.lswClr v
  if v.testBit 15 then (List.range 24).foldl Mod.lswClear m1 else m1.lswClear (field v 4 0)

/-- The channels of an input. -/
def lswOf (inp : Nat) : List Nat := (List.range 24).filter (fun k => k % 2 = inp)

/-- The undervoltage threshold of an input in mV (R268): 0 takes the lower end of its operating range. -/
def Mod.lswUv (m : Mod) (inp : Nat) : Nat :=
  let v := if inp = 0 then m.rd P.lswUvA else m.rd P.lswUvB
  if v ≠ 0 then v else if m.loadNom inp = 24000 then 18000 else 9000

/-- LSW_UNDERVOLTAGE_THRESHOLD (R263, R268): a sample crosses the input's threshold. -/
def lswUndervoltageThreshold (inp : Nat) (below : Bool) (mv : Nat) (m : Mod) : Mod :=
  if 2 ≤ inp || m.lsw.uv.getD inp false = below || below != decide (mv ≤ m.lswUv inp) then m
  else
    let m1 := { m with lsw := { m.lsw with uv := m.lsw.uv.set inp below, sagDone := m.lsw.sagDone.set inp false,
                                           uvAt := m.lsw.uvAt.set inp (some m.now) } }
    let m2 := if inp = 0 then { m1 with toll := { m1.toll with loadA := mv } } else { m1 with toll := { m1.toll with loadB := mv } }
    if below then
      (lswOf inp).foldl (fun m k => m.setLsw k (fun c =>
        match c.since with
        | some s => { c with counted := c.counted + (m.now - s), since := none }
        | none => c)) m2
    else
      (lswOf inp).foldl (fun m k =>
        let c := m.lswCh k
        let m3 := if c.on && c.inrush && c.since.isNone then m.setLsw k (fun c => { c with since := some m.now }) else m
        if c.wait && c.held then m3.lswRequest k c.isRetry else m3) m2

/-- LSW_UV_SWITCH_OFF (R268): the input at or below its threshold for LSW_UV_OFF_MS; a request that still waits for its grant goes with the
channels that are on. -/
def lswUvSwitchOff (inp mv : Nat) (m : Mod) : Mod :=
  let long : Bool := match m.lsw.uvAt.getD inp none with
    | some s => s + m.rd P.lswUvOffMs * 1000000 ≤ m.now
    | none => false
  if inp < 2 && m.lsw.uv.getD inp false && long && !m.lsw.sagDone.getD inp false then
    let m1 := (lswOf inp).foldl (fun m k =>
      let c := m.lswCh k
      if !m.lswSafety k && (c.on || (c.wait && !c.held)) then (m.lswOff k).setLsw k (fun c => { c with uvOff := true }) else m) m
    (((({ m1 with lsw := { m1.lsw with off := m1.lsw.off.set inp true, sagDone := m1.lsw.sagDone.set inp true } }).inc P.lswUvOffs).flag P.lswFlags 16)).raise
      80 0x0509 (leBytes 1 inp ++ leBytes 4 mv)
  else m

/-- LSW_UV_RESTORE (R268): above the threshold again for 10 ms. -/
def lswUvRestore (inp : Nat) (m : Mod) : Mod :=
  let long : Bool := match m.lsw.uvAt.getD inp none with
    | some s => s + 10000000 ≤ m.now
    | none => false
  if inp < 2 && m.lsw.off.getD inp false && !m.lsw.uv.getD inp false && long then
    let m1 := { m with lsw := { m.lsw with off := m.lsw.off.set inp false } }
    let m2 := (lswOf inp).foldl (fun m k =>
      if (m.lswCh k).uvOff && m.rd P.lswOn k = 1 then m.lswRequest k false else m) m1
    m2.raise 80 0x050A (leBytes 1 inp)
  else m

/-- The input has gone above its operating range (R268): channels with LSW_OV_OFF switch off, and their requests are put off. -/
def Mod.lswOvervoltage (m : Mod) (inp : Nat) : Mod :=
  (lswOf inp).foldl (fun m k =>
    if m.rd P.lswOvOff k = 1 && ((m.lswCh k).on || (m.lswCh k).wait) then (m.lswOff k).setLsw k (fun c => { c with ovOff := true }) else m) m

/-- LSW_OV_RESTORE (R268): 10 ms after the input is back in range. -/
def lswOvRestore (inp : Nat) (m : Mod) : Mod :=
  let back : Bool := match m.lsw.ovAt.getD inp none with
    | some s => s + 10000000 ≤ m.now
    | none => false
  if inp < 2 && back then
    (lswOf inp).foldl (fun m k => if (m.lswCh k).ovOff && m.rd P.lswOn k = 1 then m.lswRequest k false else m)
      { m with lsw := { m.lsw with ovAt := m.lsw.ovAt.set inp none } }
  else m

/-- LSW_OPEN_LOAD (R269): the mean on-time current below LSW_I_OPEN for 100 ms. -/
def lswOpenLoad (k : Nat) (m : Mod) : Mod :=
  let c := m.lswCh k
  if c.on && !c.inrush && !c.open_ && c.openAt.any (fun a => a + 100000000 ≤ m.now) then
    ((m.setLsw k (fun c => { c with open_ := true })).flag P.lswFlags 8).raise (lswSrc k) 0x0508 (leBytes 1 k ++ leBytes 4 (m.rd P.lswINow k))
  else m

/-- LSW_OPEN_CLEARED (R269): the mean has risen to LSW_I_OPEN. -/
def lswOpenCleared (k : Nat) (m : Mod) : Mod :=
  if (m.lswCh k).open_ && m.rd P.lswIOpen k ≤ m.rd P.lswINow k then m.setLsw k (fun c => { c with open_ := false }) else m

/-- LSW_STATE of a channel (R272). -/
def LswCh.state (c : LswCh) : Nat :=
  128 * bit c.unusable + 64 * bit c.latched + 32 * bit c.thermal + 16 * bit c.retryAt.isSome + 8 * bit c.open_
    + 4 * bit c.inrush + 2 * bit c.wait + bit c.on

/-- The modelled draw of input A or B in mA (R254, R259). -/
def Mod.loadDraw (m : Mod) (inp : Nat) : Nat :=
  sumOf ((lswOf inp).map (fun k =>
    let c := m.lswCh k
    if !c.on then 0 else if c.inrush then m.rd P.lswIAllow k else m.rd P.lswISteady k))

/-! ### The commands as the queue gives them -/

/-- INRUSH_WINDOW_END (R259). -/
def execInrushWindowEnd (t k : Nat) (s : State) : Host.Outcome State Fault Refusal := s.run t (inrushWindowEnd k)

/-- LSW_PWM_PERIOD (R261). -/
def execLswPwmPeriod (t k : Nat) (s : State) : Host.Outcome State Fault Refusal := s.run t (lswPwmPeriod k)

/-- LSW_HARD_SHORT (R262). -/
def execLswHardShort (t k raw : Nat) (s : State) : Host.Outcome State Fault Refusal := s.run t (lswHardShort k raw)

/-- LSW_OVERCURRENT_TRIP (R262). -/
def execLswOvercurrentTrip (t k : Nat) (s : State) : Host.Outcome State Fault Refusal := s.run t (lswOvercurrentTrip k)

/-- LSW_THERMAL_LATCH (R265). -/
def execLswThermalLatch (t k : Nat) (temp : Int) (raw : Nat) (s : State) : Host.Outcome State Fault Refusal :=
  s.run t (lswThermalLatch k temp raw)

/-- LSW_THERMAL_CLEAR (R265). -/
def execLswThermalClear (t k : Nat) (temp : Int) (s : State) : Host.Outcome State Fault Refusal := s.run t (lswThermalClear k temp)

/-- LSW_RETRY_DUE (R266). -/
def execLswRetryDue (t k : Nat) (s : State) : Host.Outcome State Fault Refusal := s.run t (lswRetryDue k)

/-- LSW_RETRY_RESET (R266). -/
def execLswRetryReset (t k : Nat) (s : State) : Host.Outcome State Fault Refusal := s.run t (lswRetryReset k)

/-- LSW_UV_SWITCH_OFF (R268). -/
def execLswUvSwitchOff (t inp mv : Nat) (s : State) : Host.Outcome State Fault Refusal := s.run t (lswUvSwitchOff inp mv)

/-- LSW_UV_RESTORE (R268). -/
def execLswUvRestore (t inp : Nat) (s : State) : Host.Outcome State Fault Refusal := s.run t (lswUvRestore inp)

/-- LSW_OV_RESTORE (R268). -/
def execLswOvRestore (t inp : Nat) (s : State) : Host.Outcome State Fault Refusal := s.run t (lswOvRestore inp)

/-- LSW_OPEN_LOAD (R269). -/
def execLswOpenLoad (t k : Nat) (s : State) : Host.Outcome State Fault Refusal := s.run t (lswOpenLoad k)

/-- LSW_UNDERVOLTAGE_THRESHOLD (R263). -/
def execLswUndervoltageThreshold (t inp : Nat) (below : Bool) (mv : Nat) (s : State) : Host.Outcome State Fault Refusal :=
  s.run t (lswUndervoltageThreshold inp below mv)

/-- LSW_OPEN_CLEARED (R269). -/
def execLswOpenCleared (t k : Nat) (s : State) : Host.Outcome State Fault Refusal := s.run t (lswOpenCleared k)

end Sys2Proof.Machine
end

