-- ==== Sys2Proof/Machine/RoadBook.lean ====
section
/-!
DEFINITION. Machine/RoadBook.lean: reading a road book from flash: checks 1 to 13 (R32, R35 to R42, R485, R486),
applying it (R34, R52 to R56), and the words of a recipe in force (R49).
-/
namespace Sys2Proof.Machine

/-- A record as it stands in the body (R37). -/
structure RRec where
  off : Nat
  typ : Nat
  scope : Nat
  pl : List Byte

/-- What reading yields: a reason code and offset (R485), or a value. -/
abbrev Chk (α : Type) := Except (Nat × Nat) α

/-- All bytes are zero. -/
def zeros (l : List Byte) : Bool := l.all (fun b => b = 0#8)

/-- Pairs of ADDRESS and VALUE of a SET or CALU payload (R38). -/
def pairsOf : List Byte → List (Nat × Word)
  | a0 :: a1 :: a2 :: a3 :: v0 :: v1 :: v2 :: v3 :: r =>
    (leVal [a0, a1, a2, a3], w32 (leVal [v0, v1, v2, v3])) :: pairsOf r
  | _ => []

/-- Words of a payload. -/
def wordsOf : List Byte → List Word
  | a :: b :: c :: d :: r => w32 (leVal [a, b, c, d]) :: wordsOf r
  | _ => []

/-- The words that a TABLE payload writes (R39). -/
def tablePairs (pl : List Byte) : List (Nat × Word) :=
  (wordsOf (pl.drop 8)).zipIdx.map (fun (w, k) => (leAt pl 0 4 + 4 * k, w))

/-- The payload length up to a multiple of 4. -/
def pad4 (n : Nat) : Nat := (n + 3) / 4 * 4

/-- Bytes are whole UTF-8 (RFC 3629, which R8's notation leaves to the word): `n` more bytes of a character are due, the next from `lo`
to `hi`. -/
def utf8From (n lo hi : Nat) : List Byte → Bool
  | [] => n = 0
  | x :: r =>
    let b := x.toNat
    if 0 < n then lo ≤ b && b ≤ hi && utf8From (n - 1) 0x80 0xBF r
    else if b < 0x80 then utf8From 0 0 0 r
    else if 0xC2 ≤ b && b ≤ 0xDF then utf8From 1 0x80 0xBF r
    else if 0xE0 ≤ b && b ≤ 0xEF then utf8From 2 (if b = 0xE0 then 0xA0 else 0x80) (if b = 0xED then 0x9F else 0xBF) r
    else if 0xF0 ≤ b && b ≤ 0xF4 then utf8From 3 (if b = 0xF0 then 0x90 else 0x80) (if b = 0xF4 then 0x8F else 0xBF) r
    else false

/-- A NAME is UTF-8 padded with zeros (R38, R41, R42): after its first zero there are zeros alone. -/
def nameOk (l : List Byte) : Bool :=
  let text := l.takeWhile (fun b => b ≠ 0#8)
  utf8From 0 0 0 text && zeros (l.drop text.length)

/-- The payload of a record is well formed (R37, R38, R40 to R42). -/
def payloadOk (typ scope : Nat) (pl : List Byte) : Bool :=
  let len := pl.length
  match typ with
  | 0x01 => len % 8 = 0
  | 0x02 => 8 ≤ len && len = 8 + 4 * leAt pl 4 4
  | 0x03 =>
    0x24 ≤ len && 1 ≤ leAt pl 0 2 && leAt pl 0 2 ≤ 0xFFF && leAt pl 2 1 ≤ 2 && leAt pl 3 1 = 0
      && len = 0x24 + pad4 (leAt pl 4 4) && zeros (pl.drop (0x24 + leAt pl 4 4))
  | 0x04 =>
    0x20 ≤ len && leAt pl 0 1 = scope && leAt pl 0 1 ≤ 15 && leAt pl 1 1 ≤ 2 && leAt pl 2 1 ≤ 1
      && leAt pl 3 1 = 0 && nameOk ((pl.drop 4).take 24) && 1 ≤ leAt pl 0x1C 2 && leAt pl 0x1C 2 ≤ 64 && leAt pl 0x1E 2 = 0
      && len = 0x20 + pad4 (2 * leAt pl 0x1C 2) && zeros (pl.drop (0x20 + 2 * leAt pl 0x1C 2))
  | 0x05 =>
    len = 0x30 && leAt pl 0 1 ≤ 63 && leAt pl 1 1 < 8 && leAt pl 2 1 ≤ 1 && leAt pl 5 3 = 0 && leAt pl 0x1A 2 = 0
      && nameOk (pl.drop 0x1C)
  | 0x06 => len % 8 = 0
  | 0x7F => len = 0
  | _ => false

/-- The scope that a record type admits (R38). -/
def scopeOk (typ scope : Nat) : Bool :=
  match typ with
  | 0x01 => scope = 0xFF || scope ≤ 15
  | 0x02 => scope = 0xFF || scope ≤ 15
  | 0x04 => scope ≤ 15
  | _ => scope = 0xFF

/-- A DIALDEF payload (R42). -/
def dialOf (pl : List Byte) : DialDef :=
  let fl := leAt pl 1 1
  { dial := leAt pl 0 1, keep := fl.testBit 0, persist := fl.testBit 1, signed := fl.testBit 2, role := leAt pl 2 1,
    hi := leAt pl 3 1, lo := leAt pl 4 1, target := leAt pl 8 4, min := leAt pl 0xC 4, max := leAt pl 0x10 4,
    step := leAt pl 0x14 4, interval := leAt pl 0x18 2 }

/-- A bound or value of a dial as a number: two's complement of 32 bits where the dial is signed (R42, R51). -/
def DialDef.num (d : DialDef) (v : Nat) : Int := if d.signed then sext 32 v else v

/-- Two dials share a bit of one parameter (R42). -/
def dialsClash (a b : DialDef) : Bool := a.target = b.target && a.lo ≤ b.hi && b.lo ≤ a.hi

/-- A record repeats what the records before it give: a MODEL_ID (R40), a dial number, a bit of a dial's field, or it is a
dial beyond the 64th (R42). Two MODEL records with one NONCE are no repeat: R40 calls the nonce unique per record and names no
check for it (DESIGN CHOICE, log 96). -/
def repeats (seen : List RRec) (r : RRec) : Bool :=
  match r.typ with
  | 0x03 => seen.any (fun e => e.typ = 3 && leAt e.pl 0 2 = leAt r.pl 0 2)
  | 0x05 =>
    64 ≤ (seen.filter (fun e => e.typ = 5)).length || seen.any (fun e => e.typ = 5 &&
      ((dialOf e.pl).dial = (dialOf r.pl).dial || dialsClash (dialOf e.pl) (dialOf r.pl)))
  | _ => false

/-- Check 7 along the body (R37, R38, R485): the records read so far, the last of type `prev`, the next at `off`. -/
def readRecords (img : List Byte) (total count : Nat) : Nat → Nat → List RRec → Nat → Chk (List RRec)
  | 0, off, _, _ => .error (0x07, off)
  | fuel + 1, off, seen, prev =>
    let typ := leAt img off 1
    let scope := leAt img (off + 1) 1
    let len := leAt img (off + 4) 4
    let stop := off + 8 + len
    let r : RRec := { off := off, typ := typ, scope := scope, pl := (img.drop (off + 8)).take len }
    if total < off + 8 || total < stop || leAt img (off + 2) 2 ≠ 0 || len % 4 ≠ 0 || typ < prev || !scopeOk typ scope
        || !payloadOk typ scope r.pl || count ≤ seen.length || repeats seen r then .error (0x07, off)
    else if typ = 0x7F then
      if stop < total then .error (0x11, off)
      else if seen.length + 1 < count then .error (0x07, off)
      else .ok [r]
    else if stop = total then .error (0x11, off)
    else (readRecords img total count fuel stop (seen ++ [r]) typ).map (fun l => r :: l)

/-- A later record repeats a key of an earlier one: its offset. -/
def firstRepeat (l : List (Nat × Nat)) : Option Nat :=
  (l.zipIdx.find? (fun (e, k) => (l.take k).any (fun d => d.1 = e.1))).map (fun (e, _) => e.2)

/-- The words a scope's SET and TABLE records write, with the offset of each record. -/
def scopeWords (recs : List RRec) (scope : Nat) : List (Nat × Word × Nat) :=
  (recs.filter (fun r => r.scope = scope && (r.typ = 1 || r.typ = 2))).flatMap (fun r =>
    (if r.typ = 1 then pairsOf r.pl else tablePairs r.pl).map (fun (a, w) => (a, w, r.off)))

/-- The word of an address among written words. -/
def wordIn (l : List (Nat × Word × Nat)) (a : Nat) : Option Word := (l.find? (fun e => e.1 = a)).map (·.2.1)

/-- The words of one whole table (R39): CAM_TONE holds three tables of 2,048 words for each port. -/
def tableLen (p : Param) : Nat := if p.base = P.camTone.base then 2048 else p.n2

/-- The access class that SET and TABLE records admit (R39), and the marks a recipe scope needs. -/
def writable (scope : Nat) (p : Param) : Bool := (p.cls = .boot || p.cls = .dial) && (scope = 0xFF || p.per)

/-- One address of a SET or TABLE record passes check 8 but for its range. -/
def addrOk (scope a : Nat) (w : Word) : Bool :=
  !(0x20000000 ≤ a && a < 0x22000000) && a < 0x40000000 &&
    (match paramAt a with
     | some (p, i, _) => writable scope p && p.bitsOk i w
     | none => false)

/-- A TABLE record fills one declared table whole (R39). -/
def tableOk (pl : List Byte) : Bool :=
  match paramAt (leAt pl 0 4) with
  | some (p, _, j) => p.tbl && j % tableLen p = 0 && leAt pl 4 4 = tableLen p
  | none => false

/-- The value of every configuration that a written word is judged in lies in its range (R486). -/
def rangesOk (base : List (Nat × Word × Nat)) (ovr : Nat → List (Nat × Word × Nat)) (recipes : List Nat)
    (scope a : Nat) (w : Word) : Bool :=
  match paramAt a with
  | none => false
  | some (p, i, j) =>
    let gb := fun x => (wordIn base x).getD (dfltAt x)
    let gr := fun (r x : Nat) => (wordIn (ovr r) x).getD (gb x)
    if scope = 0xFF then
      p.inRange gb i j w && recipes.all (fun r => (wordIn (ovr r) a).isSome || p.inRange (gr r) i j w)
    else p.inRange (gr scope) i j w

/-- Check 8 on one record (R32, R39, R42, R486). A DIALDEF whose TARGET lies in the calibration, recipe or model ranges fails as an
unassigned address does: those ranges hold no parameter of a block (DESIGN CHOICE, log 97). -/
def check8 (base : List (Nat × Word × Nat)) (ovr : Nat → List (Nat × Word × Nat)) (recipes : List Nat)
    (r : RRec) : Bool :=
  match r.typ with
  | 0x01 => (pairsOf r.pl).all (fun (a, w) => addrOk r.scope a w && rangesOk base ovr recipes r.scope a w)
  | 0x02 => tableOk r.pl && (tablePairs r.pl).all (fun (a, w) =>
      addrOk r.scope a w && rangesOk base ovr recipes r.scope a w)
  | 0x05 => (paramAt (leAt r.pl 8 4)).isSome
  | _ => true

/-- An address written twice within one scope: the offset of the later record, the first in reading order (R39, R485). -/
def dupWord (recs : List RRec) : Option Nat :=
  firstRepeat ((recs.filter (fun r => r.typ = 1 || r.typ = 2)).flatMap (fun r =>
    (if r.typ = 1 then pairsOf r.pl else tablePairs r.pl).map (fun (a, _) => (r.scope * 2 ^ 32 + a, r.off))))

/-- A value fits the dial's field (R42, R51). -/
def DialDef.fits (d : DialDef) (v : Int) : Bool :=
  let n := d.hi + 1 - d.lo
  if d.signed then -((2 : Int) ^ (n - 1)) ≤ v && v < (2 : Int) ^ (n - 1) else 0 ≤ v && v < (2 : Int) ^ n

/-- The dial's field in a word, as a number. -/
def DialDef.get (d : DialDef) (w : Word) : Int :=
  let f := field w.toNat d.hi d.lo
  if d.signed then sext (d.hi + 1 - d.lo) f else f

/-- The dial's field of a word set. -/
def DialDef.put (d : DialDef) (w : Word) (v : Int) : Word := Wset w d.hi d.lo (toU (d.hi + 1 - d.lo) v)

/-- Check 11 on one dial, given the words its target has in the base and in each recipe (R42). -/
def dialOk (d : DialDef) (words : List Word) : Bool :=
  match paramAt d.target with
  | none => false
  | some (p, _, _) =>
    p.cls = .dial && d.lo ≤ d.hi && d.hi < 32
      && (List.range 32).all (fun b => !(d.lo ≤ b && b ≤ d.hi) || p.mask.testBit b)
      && (!d.persist || d.keep) && d.fits (d.num d.min) && d.fits (d.num d.max) && d.num d.min ≤ d.num d.max
      && words.all (fun w => d.num d.min ≤ d.get w && d.get w ≤ d.num d.max)

/-- A RECIPE payload (R41). -/
def recipeOf (pl : List Byte) : Recipe :=
  { idx := leAt pl 0 1, gnss := leAt pl 1 1, dflt := leAt pl 2 1,
    models := (List.range (leAt pl 0x1C 2)).map (fun k => leAt pl (0x20 + 2 * k) 2), payload := pl }

/-- A MODEL payload (R40). -/
def modelOf (off : Nat) (pl : List Byte) : Model :=
  { id := leAt pl 0 2, kind := leAt pl 2 1, len := leAt pl 4 4, ofs := off, nonce := (pl.drop 8).take 12,
    tag := (pl.drop 0x14).take 16, ct := (pl.drop 0x24).take (leAt pl 4 4) }

/-- The first offset of a list of findings, in reading order. -/
def firstOff (l : List (Option Nat)) : Option Nat :=
  (l.filterMap id).foldl (fun m o => match m with | none => some o | some n => some (Nat.min n o)) none

/-- Turns a finding into a failure with its reason code. -/
def failAt (code : Nat) : Option Nat → Chk Unit
  | none => .ok ()
  | some off => .error (code, off)

/-- Check 13 (R24, R32, R249, R252): the base declares the supply model, and its charge covers four boosts. The
failure names the record of the first parameter of the model, or 0. -/
def check13 (base : List (Nat × Word × Nat)) : Option Nat :=
  let need := [P.tollCBulk, P.tollVSet, P.tollVFloor, P.tollISup, P.tollQBoost].map (fun p => p.base)
  let v := fun a => ((wordIn base a).getD (dfltAt a)).toNat
  if need.any (fun a => (wordIn base a).isNone) then some 0
  else if v P.tollCBulk.base * (v P.tollVSet.base - v P.tollVFloor.base) < 4 * 1000 * v P.tollQBoost.base then
    some (((base.find? (fun e => e.1 = P.tollCBulk.base)).map (·.2.2)).getD 0)
  else none

/-- Checks 1 to 5 on the header (R32, R35, R36). R32 gives no check for the header's Reserved fields and VARIANT_MASK bits 7 to 2, so none
is made (DESIGN CHOICE, log 95). -/
def checkHead (m : Mod) (img : List Byte) : Chk Unit :=
  let total := leAt img 8 4
  let vm := leAt img 0xE 1
  let signer := leAt img 0xF 1
  if img.take 4 ≠ [0x4B#8, 0x5A#8, 0x52#8, 0x42#8] then .error (0x01, 0)
  else if leAt img 4 2 ≠ 1 || leAt img 6 2 ≠ 0 then .error (0x02, 0)
  else if leAt img 0xC 2 ≠ 0x03C0 || vm &&& m.rd P.sysVariant = 0 || m.rd P.sysHwRev < leAt img 0x10 2 then .error (0x03, 0)
  else if total < 168 || 268435456 < total || total % 4 ≠ 0 then .error (0x04, 0)
  else
    match assocGet m.bist.actVkeys signer with
    | none => .error (0x05, 0)
    | some key =>
      if !Config.ecdsaVerify key (Config.sha256 (img.take 0x60)) ((img.drop 0x60).take 64) then .error (0x05, 0) else .ok ()

/-- Checks 1 to 6 (R32). -/
def checkHeader (m : Mod) (img : List Byte) : Chk Unit := do
  checkHead m img
  if Config.sha256 ((img.take (leAt img 8 4)).drop 0xA0) ≠ (img.drop 0x28).take 32 then .error (0x06, 0) else .ok ()

/-- Checks 8 to 13 on the records (R32, R485). -/
def checkRecords (m : Mod) (img : List Byte) (recs : List RRec) : Chk RoadBook := do
  let recipeRecs := recs.filter (fun r => r.typ = 4)
  let recipes := recipeRecs.map (fun r => recipeOf r.pl)
  let scopes := (List.range 16).filter (fun s => recs.any (fun r => r.scope = s))
  let base := scopeWords recs 0xFF
  let ovr := fun r => scopeWords recs r
  failAt 0x08 (firstOff [(recs.find? (fun r => !check8 base ovr scopes r)).map (·.off), dupWord recs])
  failAt 0x0D ((recipeRecs.find? (fun r => m.rd P.sysVariant = 2 && leAt r.pl 1 1 ≠ 0)).map (·.off))
  let models := (recs.filter (fun r => r.typ = 3)).map (fun r => modelOf r.off r.pl)
  let start := ((wordIn base P.sysRecipeStart.base).getD 0#32).toNat
  let startBad := !(recipes.any (fun r => r.idx = start) || (start = 255 && !recipes.isEmpty))
  failAt 0x0E (firstOff
    [firstRepeat (recipeRecs.map (fun r => (leAt r.pl 0 1, r.off))),
     (recipeRecs.find? (fun r => (recipeOf r.pl).models.any (fun i => !models.any (fun q => q.id = i)))).map (·.off),
     (recs.find? (fun r => (r.typ = 1 || r.typ = 2) && r.scope ≠ 0xFF && !recipes.any (fun q => q.idx = r.scope))).map
       (·.off),
     if startBad then some (((base.find? (fun e => e.1 = P.sysRecipeStart.base)).map (·.2.2)).getD 0) else none])
  let gb := fun x => (wordIn base x).getD (dfltAt x)
  let dialRecs := recs.filter (fun r => r.typ = 5)
  failAt 0x0F ((dialRecs.find? (fun r =>
    let d := dialOf r.pl
    !dialOk d (gb d.target :: recipes.map (fun q => (wordIn (ovr q.idx) d.target).getD (gb d.target))))).map (·.off))
  let caluRecs := recs.filter (fun r => r.typ = 6)
  failAt 0x10 ((caluRecs.find? (fun r => (pairsOf r.pl).any (fun (a, w) =>
    match (if 0x01000000 ≤ a then calAt (a - 0x01000000) else none) with
    | some (c, _, _) => !caluOk c w
    | none => true))).map (·.off))
  failAt 0x0C (check13 base)
  return { id := leAt img 0x18 8, hash := (img.drop 0x28).take 32, base := base.map (fun (a, w, _) => (a, w)),
           ovr := recipes.flatMap (fun r => (ovr r.idx).map (fun (a, w, _) => (r.idx, a, w))), recipes := recipes,
           dials := dialRecs.map (fun r => dialOf r.pl), calu := caluRecs.flatMap (fun r => pairsOf r.pl), models := models }

/-- Checks 1 to 13 (R32). `flashErr` names a flash read that could not be repaired: the offset of the record being
read, 0 in the header; it stops the reading there with 0x12, in the body where checks 1 to 5 have passed: check 6 reads the
body whole. -/
def checkRoadBook (m : Mod) (flashErr : Option Nat) : Chk RoadBook :=
  let img := ((m.nv.regions[1]?).map (·.img)).getD []
  match flashErr with
  | some off => if off = 0 then .error (0x12, 0) else (checkHead m img).bind (fun _ => .error (0x12, off))
  | none => do
    checkHeader m img
    let recs ← readRecords img (leAt img 8 4) (leAt img 0x14 4) (img.length / 8 + 1) 0xA0 [] 0
    checkRecords m img recs

/-! ### The configuration in force -/

/-- A recipe's overlay words. -/
def RoadBook.overlay (rb : RoadBook) (r : Nat) : List (Nat × Word) :=
  (rb.ovr.filter (fun e => e.1 = r)).map (fun e => (e.2.1, e.2.2))

/-- The base value of an address. -/
def RoadBook.baseWord (rb : RoadBook) (a : Nat) : Word := (assocGet rb.base a).getD (dfltAt a)

/-- The value of an address under a recipe: its overlay, or the base. -/
def RoadBook.recipeWord (rb : RoadBook) (r a : Nat) : Word := (assocGet (rb.overlay r) a).getD (rb.baseWord a)

/-- The GNSS mode of a recipe (R41). -/
def RoadBook.gnssOf (rb : RoadBook) (r : Nat) : Nat :=
  match rb.recipes.find? (fun q => q.idx = r) with
  | some q => q.gnss
  | none => 0

/-- A word under a recipe change (R49): the new value but for the bits of dials with KEEP. -/
def RoadBook.changed (rb : RoadBook) (a : Nat) (old new : Word) : Word :=
  (rb.dials.filter (fun d => d.keep && d.target = a)).foldl (fun w d => d.put w (d.get old)) new

/-- The addresses that a change from recipe `o` to recipe `n` touches: both overlays and every dial's target. -/
def RoadBook.touched (rb : RoadBook) (o n : Nat) : List Nat :=
  (rb.overlay o).map (·.1) ++ (rb.overlay n).map (·.1) ++ rb.dials.map (·.target)

/-- The words of the register space after a change of recipe (R49). -/
def Mod.applyRecipe (m : Mod) (rb : RoadBook) (o n : Nat) : Mod :=
  (rb.touched o n).foldl (fun m a => m.setWord a (rb.changed a (m.word a) (rb.recipeWord n a))) m

/-- A list of words written. -/
def Mod.setWords (m : Mod) (l : List (Nat × Word)) : Mod := l.foldl (fun m e => m.setWord e.1 e.2) m

/-- The entry into ROADBOOK_INVALID (R33, R57): nothing of the road book is in force, so every output is still off. -/
def Mod.rbFail (m : Mod) (code off : Nat) : Mod :=
  (((m.wr P.sysRbStatus code).wr P.sysRbOffset off).setPhase .rbInvalid).raise 122 0x0A41
    (leBytes 1 code ++ leBytes 4 off)

/-- The start recipe (R52): the recipe, and a pending change that is discarded; `sameId`: the milestone's road book ID is this one's. -/
def startRecipe (rb : RoadBook) (ms : MsContent) (start : Nat) (sameId : Bool) : Nat × Option Nat :=
  let declared := fun r => rb.recipes.any (fun q => q.idx = r)
  let lowest := (rb.recipes.map (·.idx)).foldl Nat.min 15
  if start ≠ 255 then (start, ms.pend)
  else if !sameId then (lowest, ms.pend)
  else
    match ms.pend with
    | some p => if declared p then (p, none) else (if declared ms.recipe then ms.recipe else lowest, some p)
    | none => (if declared ms.recipe then ms.recipe else lowest, none)

/-- The word a persistent dial takes at start, or the reason it takes none (R52). -/
def dialRestore (d : DialDef) (sameId : Bool) (stored : List (Nat × Nat × Nat × Nat × Nat)) : Except Nat Nat :=
  match stored.find? (fun e => e.1 = d.dial) with
  | none => .error 1
  | some (_, target, hi, lo, v) =>
    if !sameId then .error 2
    else if target ≠ d.target || hi ≠ d.hi || lo ≠ d.lo then .error 3
    else
      let n : Int := if d.signed then sext (d.hi + 1 - d.lo) v else v
      if n < d.num d.min || d.num d.max < n then .error 4 else .ok v

/-- The persistent dials at start (R52, R57). -/
def Mod.restoreDials (m : Mod) (rb : RoadBook) (sameId : Bool) (stored : List (Nat × Nat × Nat × Nat × Nat)) : Mod :=
  (rb.dials.filter (·.persist)).foldl (fun m d =>
    match dialRestore d sameId stored with
    | .ok v => m.setWord d.target (Wset (m.word d.target) d.hi d.lo v)
    | .error r => m.raise 122 0x0A46 (leBytes 1 d.dial ++ leBytes 1 r)) m

/-- The user calibration store at start (R55, R56): the words in force, SYS_CALU_STATE, whether one copy needs
rewriting. A seeded store is written to both copies. A CALU address that the road book's records repeat takes the last value: R39's
rule on repeats is for SET and TABLE (DESIGN CHOICE, log 98). -/
def Mod.startCalu (m : Mod) (rb : RoadBook) (sameId : Bool) : Mod :=
  let good := m.nv.calu.filter (·.ok)
  let best := good.foldl (fun (b : Option CaluCopy) c =>
    match b with
    | none => some c
    | some d => if later 32 c.seq d.seq then some c else some d) none
  match best, sameId with
  | some c, true =>
    if good.length = 2 then { m with sys := { m.sys with calu := c.words, caluOne := false } }
    else
      (({ m with sys := { m.sys with calu := c.words, caluOne := true } }).wr P.sysCaluState 2).raise 122 0x0A42 [2#8]
  | _, _ =>
    let seq := ((best.map (·.seq)).getD 0 + 1) % 2 ^ 32
    let words := rb.calu.foldl (fun (l : List (Nat × Word)) e => assocSet l e.1 e.2) []
    (({ m with sys := { m.sys with calu := words, caluOne := false },
               nv := { m.nv with calu := [{ ok := true, seq := seq, words := words },
                                          { ok := true, seq := seq, words := words }] } }).wr P.sysCaluState 1).raise
      122 0x0A42 [1#8]

/-- The road book is applied (R34): base records, start recipe, persistent dials, user calibration. The parts of
other blocks that follow are those of the step MAIN_MEMORY_TEST_COMPLETE. -/
def Mod.applyRoadBook (m : Mod) (rb : RoadBook) (ms : MsContent) : Mod :=
  let sameId := m.nv.rbId = some rb.id
  let start := ((assocGet rb.base P.sysRecipeStart.base).getD 0#32).toNat
  let same := decide (ms.rbId = some rb.id)
  let (r, dropped) := startRecipe rb ms start same
  let m1 := (m.setWords rb.base).setWords (rb.overlay r)
  let m2 := { m1 with sys := { m1.sys with rb := some rb, parsed := none, recipe := r,
                                           gnssMode := rb.gnssOf r } }
  let m3 := (m2.restoreDials rb same ms.dials).startCalu rb sameId
  let m4 := (((((m3.wr P.sysRbStatus 0).wr P.sysRbOffset 0).wr P.sysRbIdLo (rb.id % 2 ^ 32)).wr P.sysRbIdHi
    (rb.id / 2 ^ 32)).wr P.sysRecipeCount rb.recipes.length).wr P.sysDialCount rb.dials.length
  let m5 := (m4.wr P.sysRecipeNow r).raise 122 0x0A40 (leBytes 4 rb.id)
  let m6 :=
    match dropped with
    | some p => (m5.inc P.sysRecipeSuperseded).raise 122 0x0A47 (leBytes 1 p)
    | none => m5
  { m6 with nv := { m6.nv with rbId := some rb.id, net := rb.base.filter (fun e => e.1 / 0x1000000 = 0x0F) } }

end Sys2Proof.Machine
end

