-- ==== Sys2Proof/Machine/Update.lean ====
section
/-!
DEFINITION. Machine/Update.lean: the flash regions and their updates (R426 to R436), the dome, its erasure and its
provisioning (R439 to R447).
-/
namespace Sys2Proof.Machine

/-- A reply: its STATUS (R374), the body after STATUS, and the module. -/
abbrev Reply := Nat × List Byte × Mod

/-- A flash region: 0 firmware, 1 road book. -/
def Mod.region (m : Mod) (r : Nat) : Region := m.nv.regions.getD r {}

/-- A flash region changed. -/
def Mod.setRegion (m : Mod) (r : Nat) (f : Region → Region) : Mod :=
  { m with nv := { m.nv with regions := updAt m.nv.regions r f } }

/-! ### Flash -/

/-- Bytes programmed at an offset; flash that is not listed reads 0xFF. -/
def flashPut (l : List Byte) (off : Nat) (d : List Byte) : List Byte :=
  l.take off ++ List.replicate (off - l.length) 0xFF#8 ++ d ++ l.drop (off + d.length)

/-- A block of 64 KiB erased (R426). -/
def flashErase (l : List Byte) (b : Nat) : List Byte :=
  l.take (b * 65536) ++ List.replicate (Nat.min 65536 (l.length - b * 65536)) 0xFF#8 ++ l.drop (b * 65536 + 65536)

/-- A page of 1,024 bytes, filled with 0xFF (R426). -/
def flashPage (l : List Byte) : List Byte := l.take 1024 ++ List.replicate (1024 - l.length) 0xFF#8

/-- An update of the region is open (R434). -/
def Region.busy (g : Region) : Bool := g.st = 2 || g.st = 3

/-- The next flash operation that an open update needs (R431, R432): false to erase a block, true to program a page. The first
block is erased once data has come, another just before its first page is programmed; the header page comes last, once the hash has matched. -/
def Region.need (g : Region) : Option Bool :=
  if !g.busy || g.ofs ≤ 160 then none
  else if g.hashed then some true
  else if g.erasedBlocks = 0 then some false
  else if 1024 ≤ g.buf.length || (g.ofs = g.len && !g.buf.isEmpty) then some (g.prog / 65536 < g.erasedBlocks)
  else none

/-- A region asks the toll gate for its next flash operation (R244, R426). -/
def Mod.flashNext (m : Mod) (r : Nat) : Mod :=
  if (m.region r).op.isSome || (m.region r).need.isNone then m else m.ask (.flash r) 4 .logic m.now (m.rd P.tollPFlash)

/-- The grant of a region's flash operation: it begins. -/
def Mod.flashGranted (m : Mod) (r : Nat) : Mod :=
  match (m.region r).need with
  | some b =>
    m.setRegion r (fun g =>
      { g with op := some b, touched := true, cut := true, opAt := if !b then g.erasedBlocks else if g.hashed then 0 else g.prog })
  | none => m.endGrant (.flash r)

/-- An update ends without completing (R435): `cause` 1 ABORT, 2 session closed, 3 program error. -/
def Mod.updateEnds (m : Mod) (r cause : Nat) : Mod :=
  ((m.unask (.flash r)).setRegion r (fun g =>
    { g with st := if cause = 3 then 5 else if g.touched then 1 else g.before, hdr := [], owner := 0, stale := g.op.isSome,
             hashed := false, buf := if g.op = some true && !g.hashed then g.buf.take 1024 else [], reason := if cause = 3 then 7 else g.reason })).raise 121 0x0A24
    (leBytes 1 r ++ leBytes 1 cause)

/-- The updates that a session holds end with it (R435). -/
def Mod.updatesClose (m : Mod) (sid : Nat) : Mod :=
  [0, 1].foldl (fun m r => if (m.region r).busy && (m.region r).owner = sid then m.updateEnds r 2 else m) m

/-- The page that a program operation writes (R431, R432). -/
def Region.page (g : Region) : List Byte := flashPage (if g.hashed then g.hdr else g.buf)

/-- FLASH_OPERATION_COMPLETE (R426, R431, R432, R435): the operation that runs on a region ends, well or not; with the header page the
region is COMPLETE. -/
def flashOperationComplete (r : Nat) (ok : Bool) (m : Mod) : Mod :=
  let g := m.region r
  match g.op with
  | none => m
  | some prog =>
    let m1 := m.endGrant (.flash r)
    let bytes := if !ok then g.bytes else if prog then flashPut g.bytes g.opAt g.page else flashErase g.bytes g.opAt
    let m2 := m1.setRegion r (fun g => { g with op := none, stale := false, bytes := bytes })
    if g.stale then (m2.setRegion r (fun g => { g with buf := [] })).flashNext r
    else if !ok then (m2.flag P.secFlags 1).updateEnds r 3
    else if g.hashed then
      (m2.setRegion r (fun g => { g with st := 4, cut := false, hashed := false, hdr := [], owner := 0 })).raise 121 0x0A22
        (leBytes 1 r ++ leBytes 4 (leAt g.hdr (if r = 0 then 0x14 else 0x18) 4))
    else if prog then (m2.setRegion r (fun g => { g with prog := g.prog + 1024, buf := g.buf.drop 1024 })).flashNext r
    else (m2.setRegion r (fun g => { g with erasedBlocks := g.erasedBlocks + 1 })).flashNext r

/-- The body of the image under update as flash holds it: the header page is still apart (R431). -/
def Region.bodyRead (g : Region) : List Byte := ((g.hdr ++ (g.bytes.drop 1024)).take g.len).drop 160

/-- UPDATE_VERIFY_COMPLETE (R432): read-back hashing ends. On a match the header page is due, under a grant of its own (R426). -/
def updateVerifyComplete (r : Nat) (m : Mod) : Mod :=
  let g := m.region r
  if g.st = 3 && g.op.isNone && g.need.isNone then
    if Config.sha256 g.bodyRead = (g.hdr.drop 0x28).take 32 then
      (m.setRegion r (fun g => { g with hashed := true })).flashNext r
    else
      (((m.setRegion r (fun g => { g with st := 5, reason := 6, hdr := [], owner := 0 })).flag P.secFlags 1)).raise 121 0x0A23
        (leBytes 1 r ++ leBytes 1 6)
  else m

/-- The regions as a start finds them (R433, R435, R436): an image whose header stands is the one that this start reads. -/
def Nv.findRegions (n : Nv) : Nv :=
  let magic : Nat → List Byte := fun r => if r = 0 then [0x4B#8, 0x5A#8, 0x46#8, 0x57#8] else [0x4B#8, 0x5A#8, 0x52#8, 0x42#8]
  { n with regions := n.regions.zipIdx.map (fun (g, r) => 
      if !g.cut && g.bytes.take 4 = magic r then { bytes := g.bytes, st := 0, img := g.bytes } else { bytes := g.bytes, cut := g.cut }) }

/-! ### The firmware image (R427, R428) -/

/-- The checks of R429 on a firmware header. -/
def checkFirmware (m : Mod) (img : List Byte) : Chk Unit :=
  let total := leAt img 8 4
  if img.take 4 ≠ [0x4B#8, 0x5A#8, 0x46#8, 0x57#8] then .error (0x01, 0)
  else if leAt img 4 2 ≠ 1 then .error (0x02, 0)
  else if leAt img 0xC 2 ≠ 0x03C0 || leAt img 0xE 1 &&& m.rd P.sysVariant = 0 || m.rd P.sysHwRev < leAt img 0x10 2 then
    .error (0x03, 0)
  else if total < 1184 || 33554432 < total || total % 4 ≠ 0 then .error (0x04, 0)
  else if !Config.ecdsaVerify Config.firmwareKey (Config.sha256 (img.take 0x60)) ((img.drop 0x60).take 64) then .error (0x05, 0)
  else if leAt img 0x18 4 < m.nv.dome.rollback then .error (0x20, 0)
  else .ok ()

/-- The boot ROM runs the firmware image that flash holds (R428). -/
def Mod.firmwareOk (m : Mod) : Bool :=
  let img := (m.region 0).img
  match checkFirmware m img with
  | .ok () => Config.sha256 ((img.take (leAt img 8 4)).drop 0xA0) = (img.drop 0x28).take 32
  | .error _ => false

/-- The image reaches RUNNING or ROADBOOK_INVALID: the rollback counter rises to its level (R428). -/
def Mod.fwReached (m : Mod) : Mod :=
  if m.nv.dome.rollback < m.bist.fwRollback then
    ({ m with nv := { m.nv with dome := { m.nv.dome with rollback := m.bist.fwRollback } } }).raise 121 0x0A26
      (leBytes 4 m.bist.fwRollback)
  else m

/-! ### The update messages (R429 to R434) -/

/-- Bytes after STATUS of a reply that carries a reason. -/
def reasonBytes (r : Nat) : List Byte := leBytes 1 r ++ [0]

/-- UPDATE_BEGIN (R429, R430, R434). -/
def updateBegin (sid : Nat) (b : List Byte) (m : Mod) : Reply :=
  let r := leAt b 0 1
  let h := b.drop 4
  if b.length ≠ 164 then (1, [], m)
  else if 2 ≤ r then (13, reasonBytes 0, m)
  else if (m.region r).busy then (5, reasonBytes 1, m)
  else
    match if r = 0 then checkFirmware m h else checkHead m h with
    | .error (code, _) =>
      (11, reasonBytes code, (m.setRegion r (fun g => { g with reason := code })).raise 121 0x0A21 (leBytes 1 r ++ leBytes 1 code))
    | .ok () =>
      let total := leAt h 8 4
      (0, reasonBytes 0, (m.setRegion r (fun g =>
        { g with before := g.st, st := 2, touched := false, hdr := h, buf := if g.op.isSome then g.buf else [], ofs := 160,
                 len := total, prog := 1024, erasedBlocks := 0, hashed := false, ended := false, owner := sid })).raise 121 0x0A20
        (leBytes 1 r ++ leBytes 4 total))

/-- UPDATE_DATA (R431, R434). -/
def updateData (sid : Nat) (b : List Byte) (m : Mod) : Reply :=
  let r := leAt b 0 1
  let len := leAt b 2 2
  let off := leAt b 4 4
  let d := b.drop 8
  let g := m.region r
  let answer := fun (st reason : Nat) (m : Mod) => (st, reasonBytes reason ++ leBytes 4 (m.region r).ofs, m)
  if b.length < 8 || d.length ≠ len then (1, [], m)
  else if 2 ≤ r then answer 13 0 m
  else if !g.busy then answer 11 0 m
  else if g.owner ≠ sid then answer 5 1 m
  else if off ≠ g.ofs || g.len < off + len || len < 4 || 1024 < len || (len % 4 ≠ 0 && off + len ≠ g.len) then answer 13 0 m
  else
    let head := d.take (1024 - off)
    let rest := d.drop (1024 - off)
    if g.stale || 65536 < g.buf.length + rest.length then answer 5 2 m
    else
      answer 0 0 ((m.setRegion r (fun g => { g with hdr := g.hdr ++ head, buf := g.buf ++ rest, ofs := off + len })).flashNext r)

/-- UPDATE_END (R432, R434). -/
def updateEnd (sid : Nat) (b : List Byte) (m : Mod) : Reply :=
  let r := leAt b 0 1
  let g := m.region r
  if b.length ≠ 4 then (1, [], m)
  else if 2 ≤ r then (13, reasonBytes 0, m)
  else if !g.busy then (11, reasonBytes 0, m)
  else if g.owner ≠ sid then (5, reasonBytes 1, m)
  else if g.ofs ≠ g.len then (13, reasonBytes 0, m)
  else (0, reasonBytes 0, (m.setRegion r (fun g => { g with st := 3, ended := true })).flashNext r)

/-- UPDATE_ABORT (R434, R435). -/
def updateAbort (sid : Nat) (b : List Byte) (m : Mod) : Reply :=
  let r := leAt b 0 1
  let g := m.region r
  if b.length ≠ 4 then (1, [], m)
  else if 2 ≤ r then (13, [0, 0], m)
  else if !g.busy then (11, [0, 0], m)
  else if g.owner ≠ sid then (5, [1, 0], m)
  else (0, [0, 0], m.updateEnds r 1)

/-- UPDATE_STATUS (R430, R433). -/
def updateStatus (b : List Byte) (m : Mod) : Reply :=
  let r := leAt b 0 1
  let g := m.region r
  if b.length ≠ 4 then (1, [], m)
  else if 2 ≤ r then (13, [], m)
  else (0, leBytes 1 g.st ++ leBytes 1 g.reason ++ leBytes 4 g.ofs ++ leBytes 4 g.len ++ leBytes 4 g.owner, m)

/-! ### The dome (R439 to R447) -/

/-- The dome changed. -/
def Mod.setDome (m : Mod) (f : Dome → Dome) : Mod := { m with nv := { m.nv with dome := f m.nv.dome } }

/-- The next draw of the dome. -/
def Mod.domeDraw (m : Mod) : Nat × Mod := (m.nv.draws, { m with nv := { m.nv with draws := m.nv.draws + 1 } })

/-- The erasure of R442: `cause` 1 test access, 2 deep test; none completes an interrupted one under its own cause. -/
def Mod.eraseSecrets (m : Mod) (cause : Nat) : Mod :=
  let (n, m1) := m.domeDraw
  ({ m1 with bist := { m1.bist with actModel := none } }).setDome (fun d =>
    { d with modelKey := none, slots := [], identity := some (Config.domeKeyPair n), erased := true,
             eraseCount := (d.eraseCount + 1) % 2 ^ 32, eraseCause := cause, pending := false })

/-- PROVISION_INFO (R444): a new nonce is drawn. -/
def provisionInfo (b : List Byte) (m : Mod) : Reply :=
  if b.length ≠ 0 then (1, [], m)
  else
    let (n, m1) := m.domeDraw
    let nonce := padTo 16 (Config.domeRandom n)
    let pub := padTo 64 ((m.nv.dome.identity.map (·.2)).getD [])
    (0, leBytes 8 m.nv.serial ++ nonce ++ pub ++ leBytes 4 m.nv.dome.provCount, m1.setDome (fun d => { d with nonce := some nonce }))

/-- The ASCII bytes of a text. -/
def ascii (s : String) : List Byte := s.toList.map (fun c => BitVec.ofNat 8 c.toNat)

/-- The payload of a provisioning token, opened with the dome's identity key (R446). -/
def Mod.tokenPayload (m : Mod) (tok nonce : List Byte) : Option (List Byte) :=
  let priv := (m.nv.dome.identity.map (·.1)).getD []
  let z := Config.ecdhP256 priv ((tok.drop 0x20).take 64)
  let key := Config.hmacSha256 z (ascii "KZPT-KEY" ++ leBytes 8 m.nv.serial ++ nonce)
  Config.aesGcmOpen key ((tok.drop 0x60).take 12) (tok.take 0x60) ((tok.drop 0x80).take 808) ((tok.drop 0x6C).take 16)

/-- A session slot of a payload (R446). -/
def payloadSlot (pl : List Byte) (i : Nat) : Nat × List Byte × Bool :=
  (i, (pl.drop (40 + 32 * i)).take 32, (leAt pl 34 2).testBit i)

/-- The checks of R447 in their order: the reason, or the payload. -/
def Mod.tokenCheck (m : Mod) (tok : List Byte) : Except Nat (List Byte) :=
  let nonce := (tok.drop 0x10).take 16
  let pub := (tok.drop 0x3A8).take 64
  if tok.take 4 ≠ ascii "KZPT" || leAt tok 4 2 ≠ 1 || leAt tok 8 8 ≠ m.nv.serial then .error 0x30
  else if m.nv.dome.nonce ≠ some nonce then .error 0x31
  else if !Config.ecdsaVerify Config.provisioningRoot (Config.sha256 (ascii "KZPE" ++ pub)) ((tok.drop 0x3E8).take 64) then
    .error 0x32
  else if !Config.ecdsaVerify pub (Config.sha256 (tok.take 0x428)) ((tok.drop 0x428).take 64) then .error 0x33
  else
    match m.tokenPayload tok nonce with
    | none => .error 0x34
    | some pl =>
      if m.nv.dome.erased && !((leAt tok 6 2).testBit 0 && leAt pl 32 2 &&& leAt pl 34 2 ≠ 0) then .error 0x35 else .ok pl

/-- The commit of an accepted token (R447). -/
def Dome.provision (d : Dome) (modelKey : Bool) (pl : List Byte) : Dome :=
  let new := (bitsSet 16 (leAt pl 32 2)).map (payloadSlot pl)
  let vk := (bitsSet 4 (leAt pl 36 1)).map (fun i => (i, (pl.drop (552 + 64 * i)).take 64))
  { d with modelKey := if modelKey then some (pl.take 32) else d.modelKey,
           slots := d.slots.filter (fun e => !new.any (fun x => x.1 = e.1)) ++ new,
           vkeys := d.vkeys.filter (fun e => !vk.any (fun x => x.1 = e.1)) ++ vk, erased := false,
           provCount := (d.provCount + 1) % 2 ^ 32, nonce := none }

/-- PROVISION (R446, R447). -/
def provision (b : List Byte) (m : Mod) : Reply :=
  if b.length ≠ 1128 then (1, [], m)
  else
    match m.tokenCheck b with
    | .error reason =>
      (11, reasonBytes reason ++ leBytes 4 m.nv.dome.provCount, (m.flag P.secFlags 2).raise 123 0x0A53 (leBytes 1 reason))
    | .ok pl =>
      let m1 := m.setDome (fun d => d.provision ((leAt b 6 2).testBit 0) pl)
      (0, reasonBytes 0 ++ leBytes 4 m1.nv.dome.provCount, m1.raise 123 0x0A52 (leBytes 4 m1.nv.dome.provCount))

/-! ### The commands as the queue gives them -/

/-- FLASH_OPERATION_COMPLETE (R431). -/
def execFlashOperationComplete (t r : Nat) (ok : Bool) (s : State) : Host.Outcome State Fault Refusal :=
  s.run t (flashOperationComplete r ok)

/-- UPDATE_VERIFY_COMPLETE (R432). -/
def execUpdateVerifyComplete (t r : Nat) (s : State) : Host.Outcome State Fault Refusal := s.run t (updateVerifyComplete r)

end Sys2Proof.Machine
end

