-- ==== Sys2Proof/Machine/Net.lean ====
section
/-!
DEFINITION. Machine/Net.lean: the session layer of Volron (R363 to R375, R382, R386, R387): transports, messages that leave,
sessions, the acceptance of requests. The requests' own effects are those of Machine/Msgs.lean.
-/
namespace Sys2Proof.Machine

/-! ### Messages that the module sends (R365 to R368) -/

/-- The header of a message that the module sends. -/
def OutMsg.header (o : OutMsg) : List Byte :=
  [0x56#8, 0x4C#8, 1#8] ++ leBytes 1 o.kind ++ leBytes 2 o.typ ++ leBytes 2 o.body.length ++ leBytes 4 o.sid ++ leBytes 4 o.seq

/-- The tag of a header and a body under a session key (R368). -/
def tagOf (key header body : List Byte) : List Byte := padTo 16 (Config.hmacSha256 key (header ++ body))

/-- A message with its tag. -/
def OutMsg.sign (o : OutMsg) (key : List Byte) : OutMsg := { o with tag := tagOf key o.header o.body }

/-- The bytes of a message. -/
def OutMsg.bytes (o : OutMsg) : List Byte := o.header ++ o.body ++ o.tag

/-- Segments of a message for a CAN transport (R365): index, FIRST and LAST in their places, data. -/
def canSegments (size : Nat) : Nat → Nat → List Byte → List (Nat × Nat × List Byte)
  | 0, _, _ => []
  | fuel + 1, i, l =>
    let first := if i = 0 then 128 else 0
    if l.length ≤ size then [(i, first + 64, padTo size l)]
    else (i, first, l.take size) :: canSegments size fuel (i + 1) (l.drop size)

/-- A message leaves on CAN channel `ch` for peer `n` (R365); the TAG of an outbound message is open. -/
def Mod.canMessage (m : Mod) (ch n : Nat) (bytes : List Byte) : Mod :=
  let fd := (m.rd P.canCfg ch).testBit 3
  let (x, m1) := m.draw
  let tag := toU 4 x
  (canSegments (if fd then 62 else 6) 256 0 bytes).foldl (fun m s =>
    let f : CanTx := { id := m.rd P.netCanBase + 2 * n + 1, ext := true, fd := fd, brs := fd && (m.rd P.canCfg ch).testBit 2,
                       dlc := if fd then 15 else 8, data := leBytes 1 (s.2.1 + tag) ++ leBytes 1 s.1 ++ s.2.2, at_ := m.now,
                       from_ := 0, sid := 0 }
    m.canOffer ch f) m1

/-! ### The transport protocol of the implement bus (R359, R366) -/

/-- The ISO 11783 channel (R359). -/
def Mod.isoCh (m : Mod) : Option Nat := (List.range 4).find? (fun ch => (m.rd P.canCfg ch).testBit 0 && m.rd P.canMode ch = 1)

/-- A frame of the transport protocol, by PF, to a destination. -/
def Mod.tpFrame (m : Mod) (ch pf da : Nat) (data : List Byte) : Mod :=
  m.canOffer ch (m.isoFrame (0x1C000000 + pf * 65536 + da * 256 + (m.canCh ch).sa) data)

/-- Packets of seven bytes that a size needs. -/
def tpPackets (size : Nat) : Nat := (size + 6) / 7

/-- Packet `n` of a message. -/
def tpPacket (data : List Byte) (n : Nat) : List Byte :=
  let l := (data.drop (7 * (n - 1))).take 7
  leBytes 1 n ++ l ++ List.replicate (7 - l.length) 0xFF#8

/-- A message to every station: the announcement and its packets (R359). -/
def Mod.tpBroadcast (m : Mod) (ch : Nat) (bytes : List Byte) : Mod :=
  (List.range (tpPackets bytes.length)).foldl (fun m k => m.tpFrame ch 0xEB 255 (tpPacket bytes (k + 1)))
    (m.tpFrame ch 0xEC 255 (leBytes 1 32 ++ leBytes 2 bytes.length ++ leBytes 1 (tpPackets bytes.length) ++ leBytes 1 255 ++ leBytes 3 0xEF00))

/-- Silences that end a session of the transport protocol (PRESUMED, ISO 11783-3; log 148): between packets, after a clear to send and
towards a receiver, after a receiver's hold. -/
def tpT1 : Nat := 750000000
def tpT2 : Nat := 1250000000
def tpT4 : Nat := 1050000000

/-- A session towards a peer begins with its request to send; towards address 255 the message is broadcast. -/
def Mod.tpBegin (m : Mod) (ch peer : Nat) (bytes : List Byte) : Mod :=
  let t : Tp := { peer := peer, pgn := 0xEF00, out := true, size := bytes.length, next := 1, data := bytes, due := m.now + tpT2 }
  if peer = 255 then m.tpBroadcast ch bytes
  else (m.setCan ch (fun c => { c with tp := c.tp ++ [t] })).tpFrame ch 0xEC peer
    (leBytes 1 16 ++ leBytes 2 bytes.length ++ leBytes 1 (tpPackets bytes.length) ++ leBytes 1 255 ++ leBytes 3 0xEF00)

/-- A message goes to a peer of the implement bus as Proprietary A (R366), once an address is held. -/
def Mod.isoSend (m : Mod) (ch peer : Nat) (bytes : List Byte) : Mod :=
  let c := m.canCh ch
  if c.iso ≠ .held then m
  else if bytes.length ≤ 8 then m.canOffer ch (m.isoFrame (0x18EF0000 + peer * 256 + c.sa) bytes)
  else if c.tp.any (fun t => t.out && t.peer = peer) then m.setCan ch (fun c => { c with isoOut := c.isoOut ++ [(peer, bytes)] })
  else m.tpBegin ch peer bytes

/-- A session towards a peer has ended: the next message for it begins its own. -/
def Mod.tpNext (m : Mod) (ch peer : Nat) : Mod :=
  match (m.canCh ch).isoOut.find? (fun e => e.1 = peer) with
  | some e =>
    let i := (m.canCh ch).isoOut.findIdx (fun e => e.1 = peer)
    (m.setCan ch (fun c => { c with isoOut := c.isoOut.eraseIdx i })).tpBegin ch peer e.2
  | none => m

/-- Sessions with a peer in one direction are dropped. -/
def Mod.tpDrop (m : Mod) (ch peer : Nat) (out : Bool) : Mod :=
  m.setCan ch (fun c => { c with tp := c.tp.filter (fun t => !(t.peer = peer && t.out = out)) })

/-- Connection abort with its reason (R359). -/
def Mod.tpAbort (m : Mod) (ch peer reason pgn : Nat) : Mod :=
  m.tpFrame ch 0xEC peer (leBytes 1 255 ++ leBytes 1 reason ++ leBytes 3 0xFFFFFF ++ leBytes 3 pgn)

/-- A session whose peer fell silent ends with event 0x0909 (R359; log 148). -/
def Mod.tpSilent (m : Mod) (ch : Nat) (t : Tp) : Mod :=
  let m1 := (m.tpDrop ch t.peer t.out).raise (112 + ch) 0x0909 (leBytes 1 t.peer ++ leBytes 3 t.pgn)
  let m2 := if t.bam then m1 else m1.tpAbort ch t.peer 3 t.pgn
  if t.out then m2.tpNext ch t.peer else m2

/-- Sessions that silence ends. -/
def Mod.tpExpire (m : Mod) (ch : Nat) : Mod := ((m.canCh ch).tp.filter (fun t => t.due ≤ m.now)).foldl (fun m t => m.tpSilent ch t) m

/-- A session's silence is counted from now. -/
def Mod.tpHeard (m : Mod) (ch peer : Nat) (out : Bool) (wait : Nat) : Mod :=
  m.setCan ch (fun c => { c with tp := c.tp.map (fun t => if t.peer = peer && t.out = out then { t with due := m.now + wait } else t) })

/-- A connection-management frame from a peer (R359): a message of more than 1,785 bytes is refused with reason 9 of ISO 11783-3, and
where it is a broadcast it is passed over. -/
def Mod.tpManage (m : Mod) (ch peer : Nat) (d : List Byte) : Mod :=
  let size := leAt d 1 2
  let pgn := leAt d 5 3
  match leAt d 0 1 with
  | 16 =>
    let t : Tp := { peer := peer, pgn := pgn, out := false, size := size, next := 1, data := [], due := m.now + tpT2 }
    if 1785 < size then (m.tpDrop ch peer false).tpAbort ch peer 9 pgn
    else ((m.tpDrop ch peer false).setCan ch (fun c => { c with tp := c.tp ++ [t] })).tpFrame ch 0xEC peer
      (leBytes 1 17 ++ leBytes 1 (leAt d 3 1) ++ leBytes 1 1 ++ leBytes 2 0xFFFF ++ leBytes 3 pgn)
  | 32 =>
    let t : Tp := { peer := peer, pgn := pgn, out := false, size := size, next := 1, data := [], bam := true, due := m.now + tpT1 }
    if 1785 < size then m.tpDrop ch peer false
    else (m.tpDrop ch peer false).setCan ch (fun c => { c with tp := c.tp ++ [t] })
  | 17 =>
    match (m.canCh ch).tp.find? (fun t => t.out && t.peer = peer && t.pgn = pgn) with
    | some t =>
      (List.range (leAt d 1 1)).foldl (fun m k => m.tpFrame ch 0xEB peer (tpPacket t.data (leAt d 2 1 + k)))
        (m.tpHeard ch peer true (if leAt d 1 1 = 0 then tpT4 else tpT2))
    | none => m
  | 19 => (m.tpDrop ch peer true).tpNext ch peer
  | 255 =>
    if (m.canCh ch).tp.any (fun t => t.peer = peer && t.pgn = pgn) then
      ((m.setCan ch (fun c => { c with tp := c.tp.filter (fun t => !(t.peer = peer && t.pgn = pgn)) })).raise (112 + ch) 0x0909
        (leBytes 1 peer ++ leBytes 3 pgn)).tpNext ch peer
    else m
  | _ => m

/-- A data frame from a peer (R359): the message, once whole. -/
def Mod.tpData (m : Mod) (ch peer : Nat) (global : Bool) (d : List Byte) : Mod × Option (Nat × List Byte) :=
  match (m.canCh ch).tp.find? (fun t => !t.out && t.peer = peer) with
  | none => (m, none)
  | some t =>
    if leAt d 0 1 ≠ t.next then
      let m1 := (m.tpDrop ch peer false).raise (112 + ch) 0x0909 (leBytes 1 peer ++ leBytes 3 t.pgn)
      (if global then m1 else m1.tpAbort ch peer 7 t.pgn, none)
    else
      let data := t.data ++ (d.drop 1).take 7
      if t.size ≤ data.length then
        let m1 := m.tpDrop ch peer false
        let m2 := if global then m1 else
          m1.tpFrame ch 0xEC peer (leBytes 1 19 ++ leBytes 2 t.size ++ leBytes 1 (tpPackets t.size) ++ leBytes 1 255 ++ leBytes 3 t.pgn)
        (m2, some (t.pgn, data.take t.size))
      else
        (m.setCan ch (fun c => { c with tp := c.tp.map (fun x =>
          if !x.out && x.peer = peer then { x with next := t.next + 1, data := data, due := m.now + tpT1 } else x) }), none)

/-- A message can leave by a transport: by the implement bus only once an address is held there (R366). -/
def Mod.reaches (m : Mod) (tr : Nat) : Bool := tr ≤ 5 || m.isoCh.any (fun ch => (m.canCh ch).iso = .held)

/-- A message leaves by its transport (R363). -/
def Mod.post (m : Mod) (o : OutMsg) : Mod :=
  if !m.reaches o.tr then m
  else
    let m1 := ({ m with net := { m.net with sent := m.net.sent ++ [o] } }).inc P.netTxMsgs
    if o.tr ≤ 1 then m1
    else if o.tr ≤ 5 then m1.canMessage (o.tr - 2) o.peer o.bytes
    else match m.isoCh with
      | some ch => m1.isoSend ch o.peer o.bytes
      | none => m1

/-! ### Sessions (R369 to R371) -/

/-- A session by its identifier. -/
def Mod.session? (m : Mod) (sid : Nat) : Option Session := m.net.sessions.find? (fun s => s.id = sid)

/-- A session leaves the table. -/
def Mod.dropSession (m : Mod) (sid : Nat) : Mod :=
  { m with net := { m.net with sessions := m.net.sessions.filter (fun s => s.id ≠ sid) } }

/-- A session closes (R370, R389): `cause` 1 BYE, 2 idle, 3 AUTH. Its updates end (R435). -/
def Mod.closeSession (m : Mod) (sid cause : Nat) : Mod :=
  ((m.dropSession sid).updatesClose sid).raise 117 0x0919 (leBytes 4 sid ++ leBytes 1 cause)

/-- A stream message of a session (R386, R387). -/
def Mod.stream (m : Mod) (s : Session) (typ : Nat) (body : List Byte) : Mod :=
  let o : OutMsg := { tr := s.tr, peer := s.peer, typ := typ, kind := 2, sid := s.id, seq := s.msgNo + 1, body := body, tag := [] }
  let o1 := o.sign s.key
  (m.setSession s.id (fun x => { x with msgNo := x.msgNo + 1, held := (o1 :: x.held).take 16 })).post o1

/-- An event as an item of an EVENT message (R386). -/
def Ev.item (e : Ev) : List Byte :=
  leBytes 2 e.code ++ leBytes 1 e.src ++ leBytes 1 (128 * bit e.valid + 64 * bit e.held + 32 * bit e.recorded + e.prio)
    ++ leBytes 4 e.seq ++ leBytes 4 e.raw ++ leBytes 4 (if e.valid then e.rep % 10 ^ 9 else 0)
    ++ leBytes 6 (if e.valid then e.rep / 10 ^ 9 else 0) ++ leBytes 2 0 ++ padTo 12 e.data

/-- An EVENT message is due (R386). -/
def Mod.streamDue (m : Mod) (s : Session) : Bool :=
  s.buf.any (fun e => e.prio = 0) || 39 ≤ s.buf.length || s.buf.any (fun e => e.raw + m.rd P.netBatchMs * 1000000 ≤ m.now)

/-- EVENT_STREAM_SEND (R386): the session in slot `i` is sent its oldest events, at most 39. -/
def eventStreamSend (i : Nat) (m : Mod) : Mod :=
  match m.net.sessions.find? (fun s => s.idx = i && s.opened) with
  | some s =>
    if s.sub.isSome && m.streamDue s then
      let l := s.buf.take 39
      (m.setSession s.id (fun x => { x with buf := x.buf.drop 39, lost := 0 })).stream s 0x0051
        (leBytes 2 l.length ++ leBytes 2 (Nat.min s.lost 65535) ++ l.flatMap Ev.item)
    else m
  | none => m

/-- The address that R371 counts by: the IPv4 address, the CAN peer or the ISO 11783 address. -/
def authAddr (tr peer : Nat) : Nat × Nat := if tr ≤ 1 then (0, peer / 65536) else (tr, peer)

/-- A failed AUTH step (R371). -/
def Mod.authFailed (m : Mod) (tr peer : Nat) : Mod :=
  let a := authAddr tr peer
  let here := fun (f : AuthFails) => f.tr = a.1 && f.addr = a.2
  let old := (((m.net.fails.find? here).map (·.times)).getD []).filter (fun t => m.now < t + 60 * 10 ^ 9)
  let times := m.now :: old
  let rest := m.net.fails.filter (fun f => !here f)
  let net := if 5 ≤ times.length then { m.net with fails := rest, locked := (a.1, a.2, m.now + 60 * 10 ^ 9) :: m.net.locked }
    else { m.net with fails := { tr := a.1, addr := a.2, times := times } :: rest }
  (({ m with net := net }).flag P.netFlags 16).raise 117 0x091A (leBytes 1 tr ++ leBytes 4 a.2)

/-- AUTH_LOCKOUT_END (R371). -/
def authLockoutEnd (tr addr : Nat) (m : Mod) : Mod :=
  { m with net := { m.net with locked := m.net.locked.filter (fun l => !(l.1 = tr && l.2.1 = addr && l.2.2 ≤ m.now)) } }

/-- HELLO from an address is refused (R371). -/
def Mod.lockedOut (m : Mod) (tr peer : Nat) : Bool :=
  let a := authAddr tr peer
  m.net.locked.any (fun l => l.1 = a.1 && l.2.1 = a.2 && m.now < l.2.2)

/-- The lowest free slot of the session table. -/
def Mod.freeSlot (m : Mod) : Nat := ((List.range 8).find? (fun i => !m.net.sessions.any (fun s => s.idx = i))).getD 0

/-- What Volron admits now: 0 nothing, 1 as in ROADBOOK_INVALID (R382), 2 as in recovery mode (R438), 3 everything. -/
def Mod.netState (m : Mod) : Nat :=
  match m.bist.phase with
  | .off | .deep => 0
  | .running => 3
  | .safe | .recovery => 2
  | _ => 1

/-- A transport carries Volron now (R363, R366, R382). -/
def Mod.carries (m : Mod) (tr : Nat) : Bool :=
  match m.netState with
  | 0 => false
  | 3 =>
    if tr ≤ 1 then true
    else if tr ≤ 5 then
      (m.rd P.netCanCh).testBit (tr - 2) && !(m.rd P.canCfg (tr - 2)).testBit 0 && m.canLive (tr - 2)
    else tr = 6 && m.isoCh.any (fun ch => (m.canCh ch).iso = .held)
  | _ => tr = 1

/-- Why a HELLO is refused (R369 to R371, R375, R382, R443): the STATUS, or the slot's key. -/
def Mod.helloCheck (m : Mod) (tr peer slot role : Nat) : Except Nat (List Byte) :=
  if m.lockedOut tr peer then .error 15
  else if m.nv.dome.erased then .error 14
  else
    match m.nv.dome.slots.find? (fun e => e.1 = slot) with
    | none => .error 14
    | some (_, key, svc) =>
      if role ≠ bit svc then .error 3
      else if m.netState ≠ 3 && role = 0 then .error 3
      else if role = 1 && tr ≠ 1 && m.rd P.netSvcAnywhere = 0 then .error 4
      else if 8 ≤ m.net.sessions.length then .error 16
      else .ok key

/-- A CHALLENGE or another untagged reply (R367, R369). -/
def Mod.bareReply (m : Mod) (msg : Msg) (sid : Nat) (body : List Byte) : Mod :=
  m.post { tr := msg.tr, peer := msg.peer, typ := msg.typ, kind := 1, sid := sid, seq := msg.seq, body := body, tag := [] }

/-- HELLO (R369 to R371). -/
def Mod.hello (m : Mod) (msg : Msg) : Mod :=
  let refuse := fun (m : Mod) (st : Nat) => m.bareReply msg 0 (leBytes 2 st ++ leBytes 2 0 ++ leBytes 4 0 ++ List.replicate 16 0)
  let slot := leAt msg.body 0 1
  let role := leAt msg.body 1 1
  if msg.body.length ≠ 20 then refuse m 1
  else
    match m.helloCheck msg.tr msg.peer slot role with
    | .error st => refuse (if st = 16 then m.raise 117 0x091B (leBytes 1 msg.tr) else m) st
    | .ok key =>
      let (n, m1) := m.domeDraw
      let sid := 1 + Config.domeSession n % (2 ^ 32 - 1)
      let nm := padTo 16 (Config.domeRandom n)
      let nc := (msg.body.drop 4).take 16
      let s : Session := { idx := m.freeSlot, id := sid, opened := false, slot := slot, role := role, tr := msg.tr, peer := msg.peer,
                           key := Config.hmacSha256 key (ascii "VOLRON-S" ++ nc ++ nm ++ leBytes 4 sid), nonceC := nc, nonceM := nm,
                           since := m.now, lastMsg := m.now }
      ({ m1 with net := { m1.net with sessions := m1.net.sessions ++ [s] } }).bareReply msg 0
        (leBytes 2 0 ++ leBytes 2 0 ++ leBytes 4 sid ++ nm)

/-- The header bytes of a message as received. -/
def msgHeader (g : Msg) : List Byte :=
  leBytes 2 g.magic ++ leBytes 1 g.version ++ leBytes 1 g.kind ++ leBytes 2 g.typ ++ leBytes 2 g.len ++ leBytes 4 g.sid ++ leBytes 4 g.seq

/-- The header and length of a message are right (R367, R368). -/
def msgOk (g : Msg) : Bool :=
  g.magic = 0x4C56 && g.version = 1 && g.len = g.body.length && g.len ≤ 1440

/-- A message's tag is right under a session's key (R368). -/
def msgTagOk (g : Msg) (s : Session) : Bool := g.tag = tagOf s.key (msgHeader g) g.body

/-- A reply within a session (R372, R374): it is kept for repeats. -/
def Mod.reply (m : Mod) (sid : Nat) (typ seq status : Nat) (body : List Byte) : Mod :=
  match m.session? sid with
  | none => m
  | some s =>
    let o : OutMsg := { tr := s.tr, peer := s.peer, typ := typ, kind := 1, sid := sid, seq := seq, body := leBytes 2 status ++ body, tag := [] }
    let o1 := o.sign s.key
    (m.setSession sid (fun x => { x with cache := ((seq, o1) :: x.cache).take 16 })).post o1

/-- AUTH of a pending session (R369 to R371). -/
def Mod.auth (m : Mod) (msg : Msg) (s : Session) : Mod :=
  if !msgTagOk msg s then
    (((m.dropSession s.id).inc P.netTagFails).authFailed s.tr s.peer).raise 117 0x0919 (leBytes 4 s.id ++ leBytes 1 3)
  else if msg.body ≠ padTo 16 (Config.hmacSha256 s.key (ascii "VOLRON-C" ++ s.nonceC ++ s.nonceM)) then
    (((m.reply s.id 0x0003 msg.seq 15 (leBytes 2 0 ++ List.replicate 16 0)).dropSession s.id).authFailed s.tr s.peer)
  else
    ((m.setSession s.id (fun x => { x with opened := true, lastMsg := m.now, lastSeq := some msg.seq })).reply s.id 0x0003 msg.seq 0
      (leBytes 2 0 ++ padTo 16 (Config.hmacSha256 s.key (ascii "VOLRON-M" ++ s.nonceC ++ s.nonceM)))).raise 117 0x0918
      (leBytes 4 s.id ++ leBytes 1 s.role ++ leBytes 1 s.tr)

/-- A pending session's AUTH has arrived in its 5 s and waits behind another request (R369, R373). -/
def Mod.authWaits (m : Mod) (s : Session) : Bool :=
  m.net.waiting.any (fun e => e.2.typ = 0x0003 && e.2.sid = s.id && e.2.tr = s.tr && e.2.peer = s.peer && e.1 ≤ s.since + 5 * 10 ^ 9)

/-- AUTH_TIMEOUT (R369): the session in slot `i` has waited 5 s for AUTH. -/
def authTimeout (i : Nat) (m : Mod) : Mod :=
  match m.net.sessions.find? (fun s => s.idx = i && !s.opened) with
  | some s => if s.since + 5 * 10 ^ 9 ≤ m.now && !m.authWaits s then m.dropSession s.id else m
  | none => m

/-- SESSION_IDLE_TIMEOUT (R370): the session in slot `i` has accepted nothing for NET_IDLE_S. -/
def sessionIdleTimeout (i : Nat) (m : Mod) : Mod :=
  match m.net.sessions.find? (fun s => s.idx = i && s.opened) with
  | some s => if s.lastMsg + m.rd P.netIdleS * 10 ^ 9 ≤ m.now then m.closeSession s.id 2 else m
  | none => m

/-! ### Requests (R372 to R375, R382, R438) -/

/-- A type of R375 or R430 that a session's request may carry. -/
def typeDefined (typ : Nat) : Bool :=
  [0x0004, 0x0005, 0x0010, 0x0011, 0x0020, 0x0021, 0x0030, 0x0031, 0x0040, 0x0041, 0x0050, 0x0052, 0x0058, 0x005A, 0x0060, 0x0061,
   0x0070, 0x0080, 0x0081, 0x0082, 0x0083, 0x0084, 0x0090, 0x0091].contains typ

/-- A type is one of update and debug (R375). -/
def typeUpdate (typ : Nat) : Bool := 0x0080 ≤ typ && typ ≤ 0x00BF

/-- The STATUS that refuses a request before its own rules, or none (R374, R375, R382, R438). -/
def Mod.gate (m : Mod) (s : Session) (typ : Nat) : Option Nat :=
  if m.netState ≠ 3 && !([0x0003, 0x0004, 0x0005, 0x0010, 0x0060].contains typ || typeUpdate typ) then some 4
  else if typ = 0x0003 then some 4
  else if !typeDefined typ then some 2
  else if (typ = 0x0030 || typ = 0x0061) && s.tr ≠ 1 && m.rd P.netSvcAnywhere = 0 then some 4
  else if typ = 0x0058 && 1 < s.tr then some 4
  else if typeUpdate typ && s.tr ≠ 1 then some 4
  else if typ = 0x0070 && m.rd P.sysVariant = 2 then some 4
  else if (typ = 0x0030 || typ = 0x0061 || typeUpdate typ) && s.role = 0 then some 3
  else none

/-- The effects of the request types, given the session and the body; CAL_WRITE leaves its group in execution. -/
abbrev Handler := Nat → Session → Nat → List Byte → Mod → Reply

/-- A request that its session accepts is executed and answered (R372, R373). -/
def Mod.execute (h : Handler) (m : Mod) (s : Session) (msg : Msg) : Mod :=
  let m1 := m.setSession s.id (fun x => { x with lastSeq := some msg.seq, lastMsg := m.now })
  match m1.gate s msg.typ with
  | some st => m1.reply s.id msg.typ msg.seq st []
  | none =>
    let (st, body, m2) := h msg.typ s msg.seq msg.body m1
    if m2.net.cal.isSome then m2
    else
      let m3 := m2.reply s.id msg.typ msg.seq st body
      if msg.typ = 0x0004 && st = 0 then m3.closeSession s.id 1 else m3

/-- A request of an open session (R368, R370, R372). -/
def Mod.sessionMsg (h : Handler) (m : Mod) (s : Session) (msg : Msg) : Mod :=
  if msg.tr ≠ s.tr || msg.peer ≠ s.peer || !msgTagOk msg s then m.inc P.netTagFails
  else
    match s.cache.find? (fun e => e.1 = msg.seq) with
    | some e => (m.inc P.netDuplicates).post e.2
    | none => if s.lastSeq.all (fun q => later 32 msg.seq q) then m.execute h s msg else m

/-- A message received at raw count `at_` is executed (R368 to R372, R445). -/
def Mod.take (h : Handler) (m : Mod) (at_ : Nat) (msg : Msg) : Mod :=
  if !msgOk msg then m.inc P.netTagFails
  else if msg.kind ≠ 0 then m
  else if msg.typ = 0x0001 then m.hello msg
  else if msg.sid = 0 && m.nv.dome.erased && msg.tr = 1 && (msg.typ = 0x0090 || msg.typ = 0x0091) then
    let (st, body, m1) := if msg.typ = 0x0090 then provisionInfo msg.body m else provision msg.body m
    m1.bareReply msg 0 (leBytes 2 st ++ body)
  else
    match m.session? msg.sid with
    | none => m.bareReply msg 0 (leBytes 2 19)
    | some s =>
      if s.opened then m.sessionMsg h s msg
      else if msg.tr ≠ s.tr || msg.peer ≠ s.peer then m.inc P.netTagFails
      else if msg.typ = 0x0003 && at_ ≤ s.since + 5 * 10 ^ 9 then m.auth msg s
      else m.bareReply msg 0 (leBytes 2 19)

/-- A message has come whole (R373): it waits while another request executes. -/
def Mod.receive (h : Handler) (m : Mod) (msg : Msg) : Mod :=
  if !m.carries msg.tr then m
  else
    let m1 := m.inc P.netRxMsgs
    if m1.net.cal.isSome then { m1 with net := { m1.net with waiting := m1.net.waiting ++ [(m1.now, msg)] } } else m1.take h m1.now msg

/-- The requests that waited are executed in their order, until one goes on (R373). -/
def Mod.runWaiting (h : Handler) (m : Mod) : Mod :=
  m.net.waiting.foldl (fun m e =>
    if m.net.cal.isSome then { m with net := { m.net with waiting := m.net.waiting ++ [e] } } else m.take h e.1 e.2)
    { m with net := { m.net with waiting := [] } }

/-! ### Stream requests (R385, R387) -/

/-- EVENT_SUBSCRIBE (R385, R386): a subscription numbers its messages from 1; messages sent before stay held for resending (R387). -/
def eventSubscribe (s : Session) (b : List Byte) (m : Mod) : Reply :=
  if b.length ≠ 20 then (1, [], m)
  else
    let mask := leVal (b.take 16)
    (0, [], m.setSession s.id (fun x =>
      { x with sub := if mask = 0 then none else some { mask := mask, maxPrio := leAt b 16 1 }, buf := [], lost := 0,
               msgNo := if mask = 0 then x.msgNo else 0 }))

/-- STREAM_RESEND (R387). -/
def streamResend (s : Session) (b : List Byte) (m : Mod) : Reply :=
  if b.length ≠ 4 then (1, [], m)
  else
    match s.held.find? (fun o => o.seq = leVal b) with
    | some o => (0, [], m.post o)
    | none => (18, [], m)

/-! ### Ethernet (R364) -/

/-- The switch serves frames: not off, and not in a state of R33, where nothing leaves on J15. -/
def Mod.switchOn (m : Mod) : Bool := m.running

/-- Link state of a port: 0 down, 1 100 Mbit/s, 2 1000 Mbit/s. Ports 0 and 1, and 2 for the service port. -/
def Mod.link (m : Mod) (port : Nat) : Nat :=
  let w := m.rd P.netLink
  if port = 2 then field w 4 4 else field w (2 * port + 1) (2 * port)

/-- ETH_LINK_CHANGE (R364, R389, R390): `speed` 0 down, 1 100 Mbit/s, 2 1000 Mbit/s. -/
def ethLinkChange (port speed : Nat) (m : Mod) : Mod :=
  if 3 ≤ port || 3 ≤ speed || m.net.ethBad.contains port || m.link port = (if port = 2 then Nat.min speed 1 else speed) || m.bist.phase = .off then m
  else
    let w := m.rd P.netLink
    let w1 := if port = 2 then setField w 4 4 (Nat.min speed 1) else setField w (2 * port + 1) (2 * port) speed
    let m1 := (m.wr P.netLink w1).flag P.netFlags 1
    if speed = 0 then m1.raise 116 0x0911 (leBytes 1 port) else m1.raise 116 0x0910 (leBytes 1 port ++ leBytes 1 speed)

/-- A datagram is discarded (R364, R389). -/
def Mod.rxDiscard (m : Mod) : Mod :=
  ((m.inc P.netRxDiscarded).flag P.netFlags 2).raise 116 0x0912 (leBytes 4 1)

/-- The MAC address of the host interface, and of the service interface (R390). -/
def Mod.hostMac (m : Mod) (svc : Bool) : Nat := (m.nv.mac + bit svc) % 2 ^ 48

/-- Learned addresses with one seen at a port; beyond 1,024 none is learned (R364). -/
def Mod.learn (m : Mod) (mac port : Nat) : Mod :=
  let rest := m.net.macs.filter (fun e => e.mac ≠ mac)
  if rest.length < 1024 then
    { m with net := { m.net with macs := rest ++ [{ mac := mac, port := port, seen := m.now }] } }
  else m

/-- Frames leave at ports. -/
def Mod.ethSend (m : Mod) (ports : List Nat) (f : List Byte) : Mod :=
  { m with net := { m.net with ethOut := m.net.ethOut ++ (ports.filter (fun p => m.link p ≠ 0)).map (fun p => (p, f)) } }

/-- Bytes of an Ethernet frame whose payload is IPv4 with a part of a fragmented datagram (R364). -/
def isFragment (f : List Byte) : Bool := beVal ((f.drop 12).take 2) = 0x0800 && beVal ((f.drop 20).take 2) % 16384 ≠ 0

/-- An IPv4 UDP datagram longer than Volron's largest (R364). -/
def tooLong (f : List Byte) : Bool :=
  beVal ((f.drop 12).take 2) = 0x0800 && leAt f 23 1 = 17 && 1480 < beVal ((f.drop (14 + 4 * (leAt f 14 1 % 16) + 4)).take 2)

/-- A PTP frame, which ends at its port (R333, R364). PRESUMED (log 25): Ethernet type 0x88F7, or UDP port 319 or 320. -/
def isPtp (f : List Byte) : Bool :=
  let udpPort := beVal ((f.drop (14 + 4 * (leAt f 14 1 % 16) + 2)).take 2)
  beVal ((f.drop 12).take 2) = 0x88F7
    || (beVal ((f.drop 12).take 2) = 0x0800 && leAt f 23 1 = 17 && (udpPort = 319 || udpPort = 320))

/-- ETHERNET_FRAME_RECEIVED (R364): at port 0, 1 or 2, the last being the service port, which the switch never bridges. Port 3 is
the host interface's own side. PTP messages end at their port. `refused` says that the host causeway cannot take it. -/
def ethernetFrameReceived (port : Nat) (refused : Bool) (f : List Byte) (m : Mod) : Mod :=
  let dst := beVal (f.take 6)
  let src := beVal ((f.drop 6).take 6)
  let group := (beVal (f.take 1)) % 2 = 1
  let bad := isFragment f || tooLong f || refused
  if 3 ≤ port || m.link port = 0 || f.length < 14 then m
  else if port = 2 then
    if (dst = m.hostMac true || group) && bad then m.rxDiscard else m
  else if !m.switchOn then m
  else
    let m1 := m.learn src port
    let m2 := if (dst = m.hostMac false || group) && bad then m1.rxDiscard else m1
    if isPtp f || dst = m.hostMac false then m2
    else
      match m2.net.macs.find? (fun e => e.mac = dst && m.now < e.seen + 300 * 10 ^ 9) with
      | some e => if group || e.port = port then (if group then m2.ethSend [1 - port] f else m2) else m2.ethSend [e.port] f
      | none => m2.ethSend [1 - port] f

/-- MAC_AGE_OUT (R364): an address not seen for 300 s. -/
def macAgeOut (mac : Nat) (m : Mod) : Mod :=
  { m with net := { m.net with macs := m.net.macs.filter (fun e => !(e.mac = mac && e.seen + 300 * 10 ^ 9 ≤ m.now)) } }

/-- An interface answers: the host interface at ports 0 and 1, the service interface at port 2. -/
def Mod.answers (m : Mod) (port ip : Nat) : Bool :=
  m.link port ≠ 0 &&
    (if port = 2 then m.netState ≠ 0 && ip = m.rd P.netSvcIp else port < 2 && m.switchOn && ip = m.rd P.netIp)

/-- ARP_REQUEST (R364): a request for `ip` from a station, answered with the interface's MAC address. -/
def arpRequest (port ip sha spa : Nat) (m : Mod) : Mod :=
  if m.answers port ip then
    let mac := m.hostMac (port = 2)
    m.ethSend [port] (beBytes 6 sha ++ beBytes 6 mac ++ beBytes 2 0x0806 ++ beBytes 2 1 ++ beBytes 2 0x0800 ++ [6, 4] ++ beBytes 2 2
      ++ beBytes 6 mac ++ beBytes 4 ip ++ beBytes 6 sha ++ beBytes 4 spa)
  else m

/-- The Internet checksum of a list of bytes. -/
def inetSum (l : List Byte) : Nat :=
  let rec go : List Byte → Nat
    | a :: b :: r => a.toNat * 256 + b.toNat + go r
    | [a] => a.toNat * 256
    | [] => 0
  let s := go l
  let s1 := s % 65536 + s / 65536
  65535 - (s1 % 65536 + s1 / 65536)

/-- ICMP_ECHO (R364): an echo request to `ip` from a station, with its identifier, sequence and data as `pl`. The identification
and the time to live of the answer are open. -/
def icmpEcho (port ip smac sip : Nat) (pl : List Byte) (m : Mod) : Mod :=
  if m.answers port ip then
    let (x, m1) := m.draw
    let icmp0 := [0, 0, 0, 0] ++ pl
    let icmp := [0, 0] ++ beBytes 2 (inetSum icmp0) ++ pl
    let head := fun (sum : Nat) => [0x45, 0] ++ beBytes 2 (20 + icmp.length) ++ beBytes 2 (toU 16 x) ++ [0, 0]
      ++ beBytes 1 (toU 8 (x / 65536)) ++ [1] ++ beBytes 2 sum ++ beBytes 4 ip ++ beBytes 4 sip
    m1.ethSend [port] (beBytes 6 smac ++ beBytes 6 (m.hostMac (port = 2)) ++ beBytes 2 0x0800 ++ head (inetSum (head 0)) ++ icmp)
  else m

/-! ### The commands as the queue gives them -/

/-- ETH_LINK_CHANGE (R364). -/
def execEthLinkChange (t port speed : Nat) (s : State) : Host.Outcome State Fault Refusal := s.run t (ethLinkChange port speed)

/-- ARP_REQUEST (R364). -/
def execArpRequest (t port ip sha spa : Nat) (s : State) : Host.Outcome State Fault Refusal := s.run t (arpRequest port ip sha spa)

/-- ICMP_ECHO (R364). -/
def execIcmpEcho (t port ip smac sip : Nat) (pl : List Byte) (s : State) : Host.Outcome State Fault Refusal :=
  s.run t (icmpEcho port ip smac sip pl)

/-- AUTH_TIMEOUT (R369). -/
def execAuthTimeout (t sess : Nat) (s : State) : Host.Outcome State Fault Refusal := s.run t (authTimeout sess)

/-- AUTH_LOCKOUT_END (R371). -/
def execAuthLockoutEnd (t tr addr : Nat) (s : State) : Host.Outcome State Fault Refusal := s.run t (authLockoutEnd tr addr)

/-- SESSION_IDLE_TIMEOUT (R370). -/
def execSessionIdleTimeout (t sess : Nat) (s : State) : Host.Outcome State Fault Refusal := s.run t (sessionIdleTimeout sess)

/-- EVENT_STREAM_SEND (R386). -/
def execEventStreamSend (t sess : Nat) (s : State) : Host.Outcome State Fault Refusal := s.run t (eventStreamSend sess)

/-- ETHERNET_FRAME_RECEIVED (R364). -/
def execEthernetFrameReceived (t port : Nat) (refused : Bool) (f : List Byte) (s : State) : Host.Outcome State Fault Refusal :=
  s.run t (ethernetFrameReceived port refused f)

/-- MAC_AGE_OUT (R364). -/
def execMacAgeOut (t mac : Nat) (s : State) : Host.Outcome State Fault Refusal := s.run t (macAgeOut mac)

end Sys2Proof.Machine
end

