-- ==== Sys2Proof/Machine/Toll.lean ====
section
/-!
DEFINITION. Machine/Toll.lean: the supplies and the toll gate (chapter 10).
-/
namespace Sys2Proof.Machine

/-- The toll gate's state changed. -/
def Mod.setToll (m : Mod) (f : TollSt → TollSt) : Mod := { m with toll := f m.toll }

/-! ### The budgets -/

/-- R (R249): what is left of the granted reservations, in µC. -/
def TollSt.reserved (t : TollSt) : Nat := sumOf (t.res.map (·.left))

/-- A (R249) in nC. -/
def Mod.availNc (m : Mod) : Int :=
  (m.rd P.tollCBulk : Int) * ((m.toll.vb : Int) - (m.rd P.tollVFloor : Int)) - 1000 * (m.toll.reserved : Int)

/-- P_M (R253), in mW. -/
def Mod.powerModel (m : Mod) : Nat := m.rd P.tollPBase + sumOf (m.toll.active.map (·.2))

/-- The standing current of the panels (R97, R254), in mA. -/
def Mod.panelStanding (m : Mod) : Nat := sumOf (m.panels.map (·.standing))

/-- Increases of panel current granted and not yet presented: they fill the panel budget (R254; DEDUCED, log 115). -/
def Mod.panelPledged (m : Mod) : Nat := sumOf (m.panels.map (·.pledged))

/-- The cap that R28's first table gives a combination, in mW. -/
def Mod.comboPower (m : Mod) : Nat :=
  match m.half, m.paired with
  | false, false => 96000
  | false, true => 110000
  | true, false => 25000
  | true, true => 27500

/-- The logic cap in force from start (R253), in mW: none in PLANT. -/
def Mod.logicCap (m : Mod) : Nat :=
  if !m.fieldProfile then 0
  else if m.rd P.sysLogicCap = 0 then m.comboPower
  else m.rd P.sysLogicCap * 1000

/-- A budget's limit and draw on a load input (R254). -/
def Mod.loadLimit (m : Mod) (inp : Nat) : Nat := if inp = 0 then m.rd P.tollLoadaMa else m.rd P.tollLoadbMa

/-- A request fits its budget (R247 to R249, R253, R254). -/
def Mod.tollFits (m : Mod) (r : TollReq) : Bool :=
  let output : Bool := match r.who with
    | .lsw _ | .pv _ | .pulse _ _ => true
    | _ => false
  if !m.placed then (match r.who with
    | .flash _ => true
    | _ => false)
  else if output && !m.driving then false
  else if r.cls = 0 then true
  else if 2 ≤ r.cls && m.toll.holdup then false
  else
    match r.budget with
    | .vhi => (1000 * (m.rd P.tollQBoost : Int) ≤ m.availNc) && !m.toll.vhiLow && !m.toll.vhiHigh && !m.toll.vloAbsent
    | .loadA => m.loadDraw 0 + r.amount ≤ m.loadLimit 0
    | .loadB => m.loadDraw 1 + r.amount ≤ m.loadLimit 1
    | .panel => m.rd P.tollPanelMa = 0 || m.panelStanding + m.panelPledged + r.amount ≤ m.rd P.tollPanelMa
    | .logic => !m.fieldProfile || m.powerModel + r.amount ≤ m.toll.cap

/-! ### The order (R245) -/

/-- The requester number of a request. -/
def Asker.number : Asker → Nat
  | .lsw k => k
  | .pv p => p
  | .pulse _ ch => ch
  | .panel n => n
  | .tower t => t
  | .scrub => 0
  | .gnss => 1
  | .flash r => 2 + r

/-- A request stands ahead of another on its budget (R245). -/
def TollReq.ahead (a b : TollReq) : Bool :=
  a.cls < b.cls || (a.cls = b.cls && (a.key < b.key || (a.key = b.key && a.who.number ≤ b.who.number)))

/-- The requests of a budget in order. -/
def Mod.tollQueue (m : Mod) (b : Budget) : List TollReq := sortBy TollReq.ahead (m.toll.reqs.filter (fun r => r.budget = b))

/-! ### Grants (R246 to R250) -/

/-- A safety grant that takes a load budget above its limit is reported (R247). -/
def Mod.safetyNote (m : Mod) (r : TollReq) : Mod :=
  let inp := if r.budget = .loadA then 0 else 1
  if r.cls = 0 && m.loadLimit inp < m.loadDraw inp then
    m.raise 6 0x0028 (leBytes 1 r.who.number ++ leBytes 4 (m.loadDraw inp))
  else m

/-- The requester takes its grant. -/
def Mod.giveGrant (m : Mod) (r : TollReq) : Mod :=
  match r.who with
  | .lsw k => m.lswGranted k
  | .pv p => m.pvGranted p
  | .pulse id ch => m.pulseGranted id ch r.amount
  | .panel n => m.panelGranted n r.amount
  | .tower t => m.towerGranted t
  | .scrub => m.scrubGrant
  | .gnss => m.gnssGranted
  | .flash n => m.flashGranted n

/-- A request is granted (R246): it is counted with its wait, and a class 3 or 4 grant is active until its end. -/
def Mod.tollGrant (m : Mod) (r : TollReq) : Mod :=
  let active := if 3 ≤ r.cls then m.toll.active ++ [(r.who, r.amount)] else m.toll.active
  let m1 := m.setToll (fun t => { t with reqs := t.reqs.filter (fun q => q.who ≠ r.who), active := active })
  (((m1.inc P.tollGrants r.cls).peak P.tollWaitMax ((m.now - r.at_) / 1000) r.cls).giveGrant r).safetyNote r

/-- Grants in order until one does not fit: those behind it wait (R245). -/
def Mod.tollRun (m : Mod) : List TollReq → Mod
  | [] => m
  | r :: rest => if m.tollFits r then (m.tollGrant r).tollRun rest else m

/-- The requests that have had their first answer, and it was no grant, are counted (R246). -/
def Mod.tollWaits (m : Mod) : Mod :=
  let m1 := (m.toll.reqs.filter (fun r => !r.waited)).foldl (fun m r => m.inc P.tollWaited r.cls) m
  m1.setToll (fun t => { t with reqs := t.reqs.map (fun r => { r with waited := true }) })

/-- The charge left of a reservation once a bank has drawn for the boost of its own pulse, the one that runs on its channel (R249). -/
def Mod.reserveAfter (m : Mod) (drawn : List (Nat × Nat)) (r : Reserve) : Reserve :=
  match assocGet drawn r.ch with
  | some d => if (m.runningOn r.ch).any (fun p => p.id = r.id) then { r with left := m.rd P.tollQBoost - d } else r
  | none => r

/-! ### Samples (R238, R239, R251, R261, R272) -/

/-- The operating range of a load input in mV (R238). -/
def Mod.loadRange (m : Mod) (inp : Nat) : Nat × Nat := if m.loadNom inp = 24000 then (18000, 32000) else (9000, 16000)

/-- A tick's sample is beyond the limit of a condition of R239: 0 VALVE_HI low, 1 VALVE_HI high, 2 VALVE_LO outside, 3 VALVE_LO below 10 V, 4 LOAD_A,
5 LOAD_B outside their range, 6 and 7 above it. -/
def Mod.isBeyond (m : Mod) (s : Supplies) (c : Nat) : Bool :=
  match c with
  | 0 => s.vb < 40000
  | 1 => 56000 < s.vhiTop
  | 2 => s.vloLow < 20000 || 30000 < s.vloTop
  | 3 => s.vloLow < 10000
  | 4 => s.loadA < (m.loadRange 0).1 || (m.loadRange 0).2 < s.loadA
  | 5 => s.loadB < (m.loadRange 1).1 || (m.loadRange 1).2 < s.loadB
  | 6 => (m.loadRange 0).2 < s.loadA
  | _ => (m.loadRange 1).2 < s.loadB

/-- The runs of ticks or samples beyond and within each limit (R239): the load inputs are sampled every 10 µs. -/
def Mod.supplyRuns (m : Mod) (s : Supplies) : Mod :=
  (List.range 8).foldl (fun m c =>
    if 4 ≤ c && m.now % 10000 ≠ 0 then m
    else if m.isBeyond s c then m.setToll (fun t => { t with beyond := updAt t.beyond c (· + 1), within := t.within.set c 0 })
    else m.setToll (fun t => { t with beyond := t.beyond.set c 0, within := updAt t.within c (· + 1) })) m

/-- A sample of a load input enters its millisecond's mean (R272), and the PWM periods of its channels (R261). -/
def Mod.loadSample (m : Mod) (inp mv : Nat) : Mod :=
  let sum := m.toll.loadSum.getD inp 0 + mv
  let n := m.toll.loadN.getD inp 0 + 1
  let m1 :=
    if n < 100 then m.setToll (fun t => { t with loadSum := t.loadSum.set inp sum, loadN := t.loadN.set inp n })
    else (m.setToll (fun t => { t with loadSum := t.loadSum.set inp 0, loadN := t.loadN.set inp 0 })).wr
      (if inp = 0 then P.lswVaNow else P.lswVbNow) (Nat.min 65535 (sum / n))
  (lswOf inp).foldl (fun m k => m.setLsw k (fun c => { c with vSum := c.vSum + mv, vN := c.vN + 1 })) m1

/-- A bank was in boost in a window, or no tick of it has been sampled (R251): the ticks saw one, or one that began in it runs still. -/
def Mod.winBoost (m : Mod) (w : VWin) : Bool :=
  w.boost || w.fresh || (List.range 384).any (fun c => (m.vch c).phase ≠ .idle && !(m.vch c).hs && (m.vch c).start / 1000000 = w.k)

/-- V_B in its window (R251): a window that ends waits for its check. -/
def Mod.windowTick (m : Mod) (vb : Nat) : Mod :=
  let k := m.now / 1000000
  let low : Bool := vb + 1000 < m.rd P.tollVSet
  let boost : Bool := (List.range 24).any m.bankBoosts
  m.setToll (fun t =>
    if t.win.k = k then
      { t with win := { t.win with first := if t.win.fresh then vb else t.win.first, last := vb, low := t.win.low && low,
                                   boost := t.win.boost || boost, fresh := false } }
    else { t with win := { k := k, first := vb, last := vb, low := low, boost := boost }, winDone := some { t.win with boost := m.winBoost t.win } })

/-- The samples of a tick are taken (R238, R239, R249, R251): those of the valve supplies on every tick, those of the load inputs and switches on
every tenth. -/
def Mod.tollSamples (m : Mod) (sup : Supplies) (drawn : List (Nat × Nat)) : Mod :=
  let m1 := m.setToll (fun t =>
    { t with vb := sup.vb, vloLow := sup.vloLow, vloTop := sup.vloTop, logicIn := sup.logicIn, res := t.res.map (m.reserveAfter drawn) })
  let m2 := (((m1.wr P.vlvVhiNow (Nat.min sup.vhi 65535)).wr P.vlvVloNow (Nat.min sup.vlo 65535)).windowTick sup.vb).supplyRuns sup
  if m.now % 10000 = 0 then
    sup.lsw.foldl Mod.lswSample (((m2.setToll (fun t => { t with loadA := sup.loadA, loadB := sup.loadB })).loadSample 0 sup.loadA).loadSample
      1 sup.loadB)
  else m2

/-- TOLL_TICK (R246), on each tick of 1 µs: the samples of the tick, and the charge in µC that each channel's boost has drawn so far. -/
def tollTick (sup : Supplies) (drawn : List (Nat × Nat)) (m : Mod) : Mod :=
  if m.now % 1000 ≠ 0 then m
  else
    ([Budget.loadA, .loadB, .vhi, .panel, .logic].foldl (fun m b => m.tollRun (m.tollQueue b)) (m.tollSamples sup drawn).scrubDue).tollWaits

/-! ### The valve and load supplies (R239) -/

/-- Bits of TOLL_FLAGS for the conditions of R239, as in TOLL_STATE. -/
def condBit (cond : Nat) : Nat :=
  match cond with
  | 0 => 5
  | 1 => 4
  | 2 => 3
  | 3 => 2
  | 4 => 0
  | _ => 1

/-- A condition of R239 holds: 0 VALVE_HI low, 1 VALVE_HI high, 2 VALVE_LO outside, 3 VALVE_LO below 10 V, 4 LOAD_A, 5 LOAD_B. -/
def TollSt.cond (t : TollSt) (c : Nat) : Bool :=
  match c with
  | 0 => t.vhiLow
  | 1 => t.vhiHigh
  | 2 => t.vloOut
  | 3 => t.vloAbsent
  | 4 => t.loadAOut
  | 5 => t.loadBOut
  | _ => false

/-- A condition set or cleared. -/
def TollSt.setCond (t : TollSt) (c : Nat) (b : Bool) : TollSt :=
  match c with
  | 0 => { t with vhiLow := b }
  | 1 => { t with vhiHigh := b }
  | 2 => { t with vloOut := b }
  | 3 => { t with vloAbsent := b }
  | 4 => { t with loadAOut := b }
  | 5 => { t with loadBOut := b }
  | _ => t

/-- The event source of a condition (R255). -/
def condSource (c : Nat) : Nat := if c ≤ 1 then 2 else if c ≤ 3 then 3 else c

/-- The event of a condition that sets (R255). -/
def condCode (c : Nat) : Nat :=
  match c with
  | 0 => 0x0010
  | 1 => 0x0011
  | 2 => 0x0018
  | 3 => 0x0019
  | _ => 0x0020

/-- A load input has stood above its range for 10 samples: channels switch off (R239, R268). -/
def Mod.loadAbove (m : Mod) (inp : Nat) : Mod :=
  if m.toll.beyond.getD (6 + inp) 0 < 10 || (if inp = 0 then m.toll.loadAHigh else m.toll.loadBHigh) then m
  else
    let m1 := m.setToll (fun t => if inp = 0 then { t with loadAHigh := true } else { t with loadBHigh := true })
    ({ m1 with lsw := { m1.lsw with ovAt := m1.lsw.ovAt.set inp none } }).lswOvervoltage inp

/-- The voltage in mV that the event of a condition reports (R255): of VALVE_LO the sample that is beyond. -/
def TollSt.condMv (t : TollSt) (c : Nat) : Nat :=
  match c with
  | 0 => t.vb
  | 1 => t.vb
  | 2 => if t.vloLow < 20000 then t.vloLow else t.vloTop
  | 3 => t.vloLow
  | 4 => t.loadA
  | _ => t.loadB

/-- SUPPLY_CONDITION_SET (R239, R268): 10 consecutive ticks or samples beyond a limit; while a load input stays out of its range, it may
still go above it. -/
def supplyConditionSet (cond : Nat) (m : Mod) : Mod :=
  if 6 ≤ cond then m
  else
    let m1 :=
      if m.toll.cond cond || m.toll.beyond.getD cond 0 < 10 then m
      else ((m.setToll (fun t => t.setCond cond true)).flag P.tollFlags (2 ^ condBit cond)).raise (condSource cond) (condCode cond)
        (leBytes 4 (m.toll.condMv cond))
    if 4 ≤ cond then m1.loadAbove (cond - 4) else m1

/-- A load input is back in range after having been above it (R268). -/
def Mod.loadBack (m : Mod) (inp : Nat) : Mod :=
  let high := if inp = 0 then m.toll.loadAHigh else m.toll.loadBHigh
  let m1 := m.setToll (fun t => if inp = 0 then { t with loadAHigh := false } else { t with loadBHigh := false })
  if high then { m1 with lsw := { m1.lsw with ovAt := m1.lsw.ovAt.set inp (some m.now) } } else m1

/-- SUPPLY_CONDITION_CLEAR (R239): 1 ms of consecutive ticks or samples back within a limit. -/
def supplyConditionClear (cond : Nat) (m : Mod) : Mod :=
  if !m.toll.cond cond || m.toll.within.getD cond 0 < (if cond < 4 then 1000 else 100) then m
  else
    let m1 := m.setToll (fun t => t.setCond cond false)
    match cond with
    | 0 => m1.raise 2 0x0012
    | 1 => m1.raise 2 0x0012
    | 2 => m1.raise 3 0x001A
    | 3 =>
      if m.toll.vloOut && m.toll.within.getD 2 0 = 0 then m1.raise 3 0x001B (leBytes 4 (m.toll.condMv 2)) else m1
    | c => (m1.raise (condSource c) 0x0021).loadBack (c - 4)

/-! ### LOGIC_IN (R240 to R242) -/

/-- The hold-up store's charge in µJ, and the module that has looked (R241, R242): full 200 ms after it was drawn on; before that the spec gives no
course, and the charge is a free value from what was left up to full (log 116). -/
def Mod.storeCharge (m : Mod) : Nat × Mod :=
  let left := m.toll.store
  if m.toll.storeAt + 200000000 ≤ m.now || 1100000 ≤ left then (1100000, m)
  else
    let d := m.draw
    (left + d.1.natAbs % (1100000 - left + 1), d.2)

/-- The least hold-up in ns that a charge in µJ gives a combination (R28, R241). -/
def Mod.holdupNs (m : Mod) (uj : Nat) : Nat := uj * 1000000 / m.comboPower

/-- LOGIC_DROPOUT (R240, R241): below the threshold for 100 µs; `mv` is the highest LOGIC_IN of that time. Before RUNNING the store is not
relied on: the sequence begins again (R408). -/
def logicDropout (mv : Nat) (m : Mod) : Mod :=
  if m.placed && !m.toll.holdup && mv < (if m.fieldProfile then 6000 else 9000) then
    if !m.running then m.fresh m.nv.cause else
    let c := m.storeCharge
    (((c.2.setToll (fun t => { t with holdup := true, holdupAt := m.now, logicIn := mv, store := c.1 })).flag P.tollFlags (2 ^ 9)).inc
      P.tollHoldups).raise 1 0x0004 (leBytes 4 mv)
  else m

/-- COLD_CRANK (R240): in FIELD a dip below 9 V begins, or has ended. -/
def coldCrank (begins : Bool) (mv : Nat) (m : Mod) : Mod :=
  if !m.fieldProfile || !m.placed || m.toll.crank = begins then m
  else if begins then
    if mv < 9000 then
      (((m.setToll (fun t => { t with crank := true, crankAt := m.now, logicIn := mv })).flag P.tollFlags (2 ^ 8)).inc
        P.tollCranks).raise 0 0x0001 (leBytes 4 mv)
    else m
  else if mv < 9000 then m
  else (m.setToll (fun t => { t with crank := false, logicIn := mv })).raise 0 0x0002 (leBytes 4 ((m.now - m.toll.crankAt) / 1000000))

/-- LOGIC_OVERVOLTAGE (R240): above 36 V. -/
def logicOvervoltage (mv : Nat) (m : Mod) : Mod :=
  if 36000 < mv && !m.toll.logicHigh then
    ((m.setToll (fun t => { t with logicHigh := true, logicIn := mv })).flag P.tollFlags (2 ^ 7)).raise 0 0x0003 (leBytes 4 mv)
  else m

/-- LOGIC_OVERVOLTAGE_END (R240, R256): back to 36 V or below. -/
def logicOvervoltageEnd (mv : Nat) (m : Mod) : Mod :=
  if mv ≤ 36000 then m.setToll (fun t => { t with logicHigh := false, logicIn := mv }) else m

/-- HOLDUP_RESTORE (R242): above the threshold for 1 ms during hold-up; `mv` is the lowest LOGIC_IN of that time. The store has given what the
combination draws at most. -/
def holdupRestore (mv : Nat) (m : Mod) : Mod :=
  if m.toll.holdup && m.toll.holdupAt + 1000000 ≤ m.now && (if m.fieldProfile then 6500 else 9500) < mv then
    (m.setToll (fun t =>
      { t with holdup := false, logicIn := mv, store := t.store - m.comboPower * (m.now - t.holdupAt) / 1000000, storeAt := m.now })).raise 1 0x0005 (leBytes 4 ((m.now - m.toll.holdupAt) / 1000))
  else m

/-- POWER_FAIL (R242, R419): the store reaches its end, not before the least hold-up of its charge (R28, R241). -/
def powerFail (m : Mod) : Mod :=
  if m.toll.holdup && m.toll.holdupAt + m.holdupNs m.toll.store ≤ m.now then (m.raise 1 0x0006 (leBytes 4 ((m.now - m.toll.holdupAt) / 1000))).controlledRestart 1 else m

/-- RECHARGE_CHECK (R251): the last window that has ended, once: V_B's rise over it, where V_B stayed 1 V below the set voltage and no bank was in
boost. -/
def rechargeCheck (m : Mod) : Mod :=
  let ended : Bool := m.toll.win.k < m.now / 1000000
  match (if ended then some m.toll.win else m.toll.winDone) with
  | none => m
  | some w =>
    let rise : Int := (w.last : Int) - (w.first : Int)
    let m1 := m.setToll (fun t => { t with winDone := none, win := if ended then { t.win with boost := true } else t.win })
    if w.low && !m.winBoost w && 2 * rise * (m.rd P.tollCBulk : Int) < 1000 * (m.rd P.tollISup : Int) then
      m1.raiseOnce 2 0x0013 0 (fun _ => leBytes 4 (toU 32 rise))
    else m1

/-- LOGIC_POWER_CHECK (R253): the 1 s mean of LOGIC_IN power in mW. -/
def logicPowerCheck (mw : Nat) (m : Mod) : Mod :=
  let ovr := m.fieldProfile && m.toll.cap ≠ 0 && m.toll.cap * 105 < mw * 100
  let m1 := (m.wr P.tollPLogic (Nat.min mw 131071)).setToll (fun t => { t with overCap := ovr })
  let m2 := if ovr && !m.toll.overCap then m1.flag P.tollFlags (2 ^ 6) else m1
  if ovr then m2.raiseOnce 8 0x0030 0 (fun _ => leBytes 4 mw) else m2

/-- TOLL_CLR (R256). -/
def tollClr (m : Mod) : Mod := (List.range 5).foldl (fun m n => m.wr P.tollWaitMax 0 n) m

/-- TOLL_STATE (R256). -/
def TollSt.word (t : TollSt) : Nat :=
  512 * bit t.holdup + 256 * bit t.crank + 128 * bit t.logicHigh + 64 * bit t.overCap + 32 * bit t.vhiLow + 16 * bit t.vhiHigh
    + 8 * bit t.vloOut + 4 * bit t.vloAbsent + 2 * bit t.loadBOut + bit t.loadAOut

/-- The computed words of the TOLL block (R256). -/
def Mod.tollView (m : Mod) (a : Nat) : Option Nat :=
  if a = P.tollVBulk.base then some m.toll.vb
  else if a = P.tollQAvail.base then some (toU 32 (tdiv m.availNc 1000))
  else if a = P.tollQRes.base then some m.toll.reserved
  else if a = P.tollPModel.base then some (Nat.min m.powerModel 131071)
  else if a = P.tollPCap.base then some m.toll.cap
  else if a = P.tollLoadaNow.base then some (Nat.min (m.loadDraw 0) 131071)
  else if a = P.tollLoadbNow.base then some (Nat.min (m.loadDraw 1) 131071)
  else if a = P.tollPanelNow.base then some m.panelStanding
  else if a = P.tollState.base then some m.toll.word
  else none

/-! ### The commands as the queue gives them -/

/-- LOGIC_DROPOUT (R241). -/
def execLogicDropout (t mv : Nat) (s : State) : Host.Outcome State Fault Refusal := s.run t (logicDropout mv)

/-- COLD_CRANK (R240). -/
def execColdCrank (t : Nat) (begins : Bool) (mv : Nat) (s : State) : Host.Outcome State Fault Refusal := s.run t (coldCrank begins mv)

/-- LOGIC_OVERVOLTAGE (R240). -/
def execLogicOvervoltage (t mv : Nat) (s : State) : Host.Outcome State Fault Refusal := s.run t (logicOvervoltage mv)

/-- HOLDUP_RESTORE (R242). -/
def execHoldupRestore (t mv : Nat) (s : State) : Host.Outcome State Fault Refusal := s.run t (holdupRestore mv)

/-- POWER_FAIL (R242). -/
def execPowerFail (t : Nat) (s : State) : Host.Outcome State Fault Refusal := s.run t powerFail

/-- SUPPLY_CONDITION_SET (R239). -/
def execSupplyConditionSet (t cond : Nat) (s : State) : Host.Outcome State Fault Refusal := s.run t (supplyConditionSet cond)

/-- SUPPLY_CONDITION_CLEAR (R239). -/
def execSupplyConditionClear (t cond : Nat) (s : State) : Host.Outcome State Fault Refusal := s.run t (supplyConditionClear cond)

/-- TOLL_TICK (R246). -/
def execTollTick (t : Nat) (sup : Supplies) (drawn : List (Nat × Nat)) (s : State) : Host.Outcome State Fault Refusal :=
  s.run t (tollTick sup drawn)

/-- RECHARGE_CHECK (R251). -/
def execRechargeCheck (t : Nat) (s : State) : Host.Outcome State Fault Refusal := s.run t rechargeCheck

/-- LOGIC_POWER_CHECK (R253). -/
def execLogicPowerCheck (t mw : Nat) (s : State) : Host.Outcome State Fault Refusal := s.run t (logicPowerCheck mw)

/-- LOGIC_OVERVOLTAGE_END (R240). -/
def execLogicOvervoltageEnd (t mv : Nat) (s : State) : Host.Outcome State Fault Refusal := s.run t (logicOvervoltageEnd mv)

end Sys2Proof.Machine
end

