-- ==== Sys2Proof/Machine/Views.lean ====
section
/-!
DEFINITION. Machine/Views.lean: what every address of the parameter space reads as (R43, R45, R160, R376): computed parameters,
stored ones, calibration and recipe words.
-/
namespace Sys2Proof.Machine

/-! ### Recipe changes -/

/-- The commit instant of the first milestone at least 20 ms after an acceptance (R47, R415). -/
def Mod.effectiveAt (m : Mod) (accepted : Nat) : Nat :=
  m.bist.e0 + (accepted + 20000000 - m.bist.e0 + 4999999) / 5000000 * 5000000

/-- SYS_RECIPE_PEND (R46). -/
def Mod.recipePend (m : Mod) : Nat :=
  match m.sys.pend with
  | some (i, _) => 16 + i
  | none => 0

/-- The last or pending effective instant (R46). -/
def Mod.recipeAt (m : Mod) : Nat :=
  match m.sys.pend with
  | some (_, acc) => m.effectiveAt acc
  | none => m.sys.at_

/-! ### The blocks -/

/-- SYS (R26, R46). -/
def Mod.sysView (m : Mod) (a : Nat) : Option Nat :=
  if a = P.sysModeNow.base then
    some (64 * bit m.fus.variant.isSome + 16 * m.sys.gnssMode + field (m.rd P.sysMode) 2 0)
  else if a = P.sysTowerOk.base then some (maskOf m.towersOk)
  else if a = P.sysRecipePend.base then some m.recipePend
  else if a = P.sysRecipeAt.base then some (m.recipeAt % 2 ^ 32)
  else none

/-- CAM (R86). -/
def Mod.camView (m : Mod) (a : Nat) : Option Nat :=
  let p := (a - 0x02000000) / 0x100000
  let c := m.port p
  match a % 0x100000 with
  | 0x200 => some (m.camStatus p)
  | 0x208 => some ((c.frames - 1) % 2 ^ 32)
  | 0x20C => some c.seqNow
  | 0x210 => some (m.camSeqPend p)
  | _ =>
    match P.camStatZone.find a, P.camStatHist.find a with
    | some (p, j), _ => some (m.statZoneWord p j)
    | _, some (p, j) => some (m.statHistWord p j)
    | _, _ => none

/-- BG (R104). -/
def Mod.bgView (m : Mod) (a : Nat) : Option Nat := (P.bgStatus.find a).map (fun ij => m.bgStatus ij.1)

/-- CELL (R132). -/
def Mod.cellView (m : Mod) (a : Nat) : Option Nat :=
  if a = P.cellSlots.base then some m.slots
  else if a = P.cellSlotsBusy.base then some m.cell.jobs.length
  else if a = P.cellQueueNow.base then some m.cell.queue.length
  else
    match P.cellTOkLo.find a, P.cellTOkHi.find a, P.cellTMap.find a with
    | some (t, _), _, _ => some (field (m.tower t).cells 31 0)
    | _, some (t, _), _ => some (field (m.tower t).cells 63 32)
    | _, _, some (t, _) => some (m.towerMap t)
    | _, _, _ => none

/-- FUS (R157). -/
def Mod.fusView (m : Mod) (a : Nat) : Option Nat :=
  if a = P.fusSuspect.base then some m.suspectMask
  else if a = P.fusSuspectWhy.base then
    some ((List.range 8).foldl (fun w p => w + m.suspect p * 4 ^ p) 0)
  else
    match P.fusWarm.find a with
    | some (k, _) => some (maskOf ((List.range 32).filter (fun b => (m.lane (32 * k + b)).warm)))
    | none =>
      match P.fusVNow.find a, P.fusANow.find a, P.fusWNow.find a, P.fusMStat.find a with
      | some (b, _), _, _, _ => some (Nat.min (m.lane b).v 8000000)
      | _, some (b, _), _, _ => some (m.lane b).a
      | _, _, some (b, _), _ => some (toU 32 (clampI (-2000000) 2000000 (m.lane b).w))
      | _, _, _, some (b, _) => some (m.lane b).stat
      | _, _, _, _ => none

/-- A cell record of the map as the last milestone committed it (R181, R416). -/
def MsContent.mapBytes (c : MsContent) (i : Nat) : List Byte :=
  match c.map.find? (fun d => d.cell = i) with
  | some d => d.bytes
  | none => List.replicate 64 0

/-- TRK (R184): tallies and map as of the last milestone, entries as they stand (R160). -/
def Mod.trkView (m : Mod) (a : Nat) : Option Nat :=
  if a = P.trkLotId.base then some m.trk.lotId
  else if a = P.trkLive.base then some m.trk.live.length
  else
    match P.trkTally.find a, P.trkEntry.find a, P.trkMap.find a with
    | some (k, _), _, _ => some ((m.committed.tally.getD (k / 32) {}).word (k % 32))
    | _, some (k, _), _ => some (leAt (m.entryOf (k / 16)) (4 * (k % 16)) 4)
    | _, _, some (k, _) => some (leAt (m.committed.mapBytes (k / 16)) (4 * (k % 16)) 4)
    | _, _, _ => none

/-- EJ and VLV (R207, R237). -/
def Mod.vlvView (m : Mod) (a : Nat) : Option Nat :=
  if a = P.ejQNow.base then some m.ejQNow
  else if a = P.vlvBankOk.base then some (maskOf ((List.range 24).filter (fun b => m.vlv.bankOk.getD b false)))
  else
    match P.vlvChState.find a, P.vlvDNow.find a, P.vlvDhsNow.find a, P.vlvTCoil.find a, P.vlvPState.find a with
    | some (c, _), _, _, _, _ => some ((m.vch c).settled m.now).state
    | _, some (c, _), _, _, _ => some (m.dOpen c)
    | _, _, some (c, _), _, _ => some (m.dHs c)
    | _, _, _, some (c, _), _ => some (toU 16 (m.vch c).tenth)
    | _, _, _, _, some (p, _) => some (m.pch p).state
    | _, _, _, _, _ => none

/-- LSW (R272). -/
def Mod.lswView (m : Mod) (a : Nat) : Option Nat :=
  match P.lswState.find a, P.lswDutyNow.find a, P.lswRetryNow.find a with
  | some (k, _), _, _ => some (m.lswCh k).state
  | _, some (k, _), _ => some (m.lswCh k).duty
  | _, _, some (k, _) => some (m.lswCh k).count
  | _, _, _ => none

/-- LOOP_TR_STATE (R296). -/
def TrSt.code : TrSt → Nat
  | .idle => 0 | .armed => 1 | .triggered => 2 | .complete => 3

/-- Word `w` of a trace buffer (R287): its records lie in a ring. -/
def Mod.traceWord (m : Mod) (n w : Nat) : Nat :=
  let t := m.loop.traces.getD n {}
  let sigs := field (m.rd P.loopTrCfg n) 25 24 + 1
  let cap := 4096 / sigs
  let s := w / sigs
  if cap ≤ s || t.n = 0 then 0
  else
    let newest := t.n - 1
    let back := (newest % cap + cap - s) % cap
    toU 32 ((t.recs.getD back []).getD (w % sigs) 0)

/-- The state of an analogue input (R296). -/
def Ain.word (a : Ain) : Nat := 16 * bit a.unusable + 8 * bit a.fault + 4 * bit a.low + 2 * bit a.overrange + bit a.ovr

/-- LOOP and AIN (R296, R297). -/
def Mod.loopView (m : Mod) (a : Nat) : Option Nat :=
  match P.loopTrState.find a, P.loopTrT0.find a, P.loopTrFirst.find a, P.loopTrSeq.find a with
  | some (n, _), _, _, _ => some (m.loop.traces.getD n {}).st.code
  | _, some (n, _), _, _ => some ((m.loop.traces.getD n {}).t0 % 2 ^ 32)
  | _, _, some (n, _), _ => some (m.loop.traces.getD n {}).first
  | _, _, _, some (n, _) => some (m.loop.traces.getD n {}).seq
  | _, _, _, _ =>
    match P.loopUNow.find a, P.loopTrData.find a with
    | some (l, _), _ => some (toU 32 (m.loopOut l))
    | _, some (n, w) => some (m.traceWord n w)
    | _, _ => none

/-- AIN (R297). -/
def Mod.ainView (m : Mod) (a : Nat) : Option Nat :=
  match P.ainState.find a, P.ainEncPos.find a, P.ainEncVel.find a, P.ainEncZpos.find a, P.ainFrqNow.find a with
  | some (n, _), _, _, _, _ => some (m.loop.ain.getD n {}).word
  | _, some (e, _), _, _, _ => some (toU 32 (m.loop.enc.getD e {}).pos)
  | _, _, some (e, _), _, _ => some (toU 32 (m.loop.enc.getD e {}).vel)
  | _, _, _, some (e, _), _ => some (toU 32 (m.loop.enc.getD e {}).zpos)
  | _, _, _, _, some (f, _) => some (m.loop.frq.getD f {}).value
  | _, _, _, _, _ => none

/-- GNSS (R319). -/
def Mod.gnssView (m : Mod) (a : Nat) : Option Nat :=
  if a = P.gnssState.base then some m.gnssState else (P.gnssCh.find a).map (fun ij => m.gnssChWord ij.1)

/-- TIME (R344). A 64-bit or signed count shows its low word here and its high word beside it. -/
def Mod.timeView (m : Mod) (a : Nat) : Option Nat :=
  let secs := m.time.ofs.fdiv 1000000000
  if a = P.timeState.base then some m.timeState
  else if a = P.timeSecLo.base then some (m.reported / sec % 2 ^ 32)
  else if a = P.timeSecHi.base then some m.time.secHi
  else if a = P.timeNs.base then some m.time.ns
  else if a = P.timeRaw.base then some m.raw
  else if a = P.timeRawHi.base then some m.time.rawHi
  else if a = P.timeOfsSecLo.base then some (toU 48 secs % 2 ^ 32)
  else if a = P.timeOfsSecHi.base then some (toU 48 secs / 2 ^ 32)
  else if a = P.timeOfsNs.base then some (m.time.ofs - secs * 1000000000).toNat
  else if a = P.timeTrim.base then some (toU 32 m.timeTrim)
  else (P.timePtpState.find a).map (fun ij => (m.time.ports.getD ij.1 {}).st)

/-- CAN (R362). -/
def Mod.canView (m : Mod) (a : Nat) : Option Nat :=
  let ch := (a - 0x0E000000) / 0x100
  let c := m.canCh ch
  if a < 0x0E000400 then
    match a % 0x100 with
    | 0x80 => some (m.canState ch)
    | 0x84 => some (65536 * c.tec + c.rec_)
    | 0x90 => some c.seq
    | 0x94 => some c.head
    | 0x98 => some (c.ring.length)
    | _ => none
  else (P.canRxRing.find a).map (fun ij => (m.canRingWord ij.1 (ij.2 / 20) (ij.2 % 20)).toNat)

/-- NET (R390). -/
def Mod.netView (m : Mod) (a : Nat) : Option Nat :=
  let slot := fun (i : Nat) => m.net.sessions.find? (fun s => s.idx = i)
  if a = P.netMacLo.base then some (m.nv.mac % 2 ^ 32)
  else if a = P.netMacHi.base then some (m.nv.mac / 2 ^ 32 % 65536)
  else if a = P.netSessions.base then some (m.net.sessions.filter (·.opened)).length
  else
    match P.netSessId.find a, P.netSessInfo.find a with
    | some (i, _), _ => some (match slot i with
        | some s => s.id
        | none => 0)
    | _, some (i, _) => some (match slot i with
        | some s => 256 * s.tr + 16 * s.slot + s.role
        | none => 0)
    | _, _ => none

/-- SEC (R449). -/
def Mod.secView (m : Mod) (a : Nat) : Option Nat :=
  let d := m.nv.dome
  if a = P.secState.base then
    some (32 * bit m.bist.recovery + 16 * bit m.bist.tapOpen + 8 * bit d.erased + 4 * bit d.modelKey.isSome + 2 * bit d.identity.isSome
      + bit m.bist.erasePend)
  else if a = P.secSlots.base then some (maskOf (d.slots.map (·.1)))
  else if a = P.secSlotRole.base then some (maskOf ((d.slots.filter (fun e => e.2.2)).map (·.1)))
  else if a = P.secVkeys.base then some (maskOf (d.vkeys.map (·.1)))
  else if a = P.secFwRollback.base then some d.rollback
  else if a = P.secFwVersion.base then some m.bist.fwVersion
  else if a = P.secProvCount.base then some d.provCount
  else if a = P.secEraseCount.base then some d.eraseCount
  else if a = P.secEraseCause.base then some d.eraseCause
  else if a = P.secSerialLo.base then some (m.nv.serial % 2 ^ 32)
  else if a = P.secSerialHi.base then some (m.nv.serial / 2 ^ 32 % 2 ^ 32)
  else
    match P.secIdPub.find a with
    | some (k, _) => some (leAt (padTo 64 ((d.identity.map (·.2)).getD [])) (4 * k) 4)
    | none =>
      let g := m.region ((a - 0x12000100) / 0x20)
      match P.secUpdState.find a, P.secUpdReason.find a, P.secUpdOffset.find a, P.secUpdLen.find a, P.secUpdSession.find a with
      | some _, _, _, _, _ => some g.st
      | _, some _, _, _, _ => some g.reason
      | _, _, some _, _, _ => some g.ofs
      | _, _, _, some _, _ => some g.len
      | _, _, _, _, some _ => some g.owner
      | _, _, _, _, _ => none

/-- BIST_STATE (R407, R425, R437). -/
def Phase.code : Phase → Nat
  | .running => 1
  | .rbInvalid => 2
  | .safe => 3
  | .deep => 3
  | _ => 0

/-- BIST (R425). -/
def Mod.bistView (m : Mod) (a : Nat) : Option Nat :=
  if a = P.bistState.base then some m.bist.phase.code
  else if a = P.bistDeepRes.base then some m.nv.deepRes.toNat
  else if a = P.bistUnacc.base then some m.bist.unacc
  else if a = P.bistUnaccFirst.base then some m.bist.unaccFirst
  else (P.bistLife.find a).map (fun ij => m.bist.life.getD ij.1 0)

/-- The computed parameters; none where the word is stored. -/
def Mod.view (m : Mod) (a : Nat) : Option Nat :=
  match a / 0x1000000 with
  | 0 => m.sysView a
  | 1 => m.tollView a
  | 2 => m.camView a
  | 3 => m.bgView a
  | 4 => m.cellView a
  | 5 => m.fusView a
  | 6 => m.trkView a
  | 7 => m.vlvView a
  | 8 => m.vlvView a
  | 9 => m.lswView a
  | 10 => m.loopView a
  | 11 => m.ainView a
  | 12 => m.gnssView a
  | 13 => m.timeView a
  | 14 => m.canView a
  | 15 => m.netView a
  | 16 => m.logView a
  | 17 => m.logView a
  | 18 => m.secView a
  | 19 => m.bistView a
  | 20 => (m.perfWord a).map (·.toNat)
  | _ => none

/-! ### Calibration and recipe words (R45, R53) -/

/-- The calibration parameter's value in force at an address of its owning block, none elsewhere (R53); a camera port's is that of the
frame in progress (R75). -/
def Mod.calView (m : Mod) (a : Nat) : Option Nat :=
  calTable.findSome? (fun c => (c.par.find a).map (fun ij =>
    toU c.par.w (if a / 0x1000000 = 2 then m.colCal ij.1 [] c.par ij.2 else m.cal c.par ij.1 ij.2)))

/-- The user calibration word at a CALU address (R53). -/
def Mod.caluWord (m : Mod) (a : Nat) : Word :=
  match calAt (a - 0x01000000) with
  | some (c, _, _) => (assocGet m.sys.calu a).getD (caluDflt c.kind)
  | none => 0#32

/-- The factory calibration word at a CALF address (R53). -/
def Mod.calfWord (m : Mod) (a : Nat) : Word :=
  match calAt a with
  | some _ => (assocGet m.nv.calf a).getD (calfDflt a)
  | none => 0#32

/-- A word of a recipe's payload or of the models' lengths (R45). -/
def Mod.modelWord (m : Mod) (a : Nat) : Word :=
  match m.sys.rb with
  | none => 0#32
  | some rb =>
    if a < 0x40100000 then
      match rb.recipes.find? (fun r => r.idx = (a - 0x40000000) / 0x10000) with
      | some r => w32 (leAt r.payload (a % 0x10000) 4)
      | none => 0#32
    else
      match rb.models.find? (fun d => d.id = (a - 0x40100000) / 4) with
      | some d => w32 d.len
      | none => 0#32

/-- A computed value in a parameter's Bits column (R10): what exceeds its width shows the width's largest value (log 9). -/
def Param.shown (p : Param) (v : Nat) : Word :=
  if p.mask = 2 ^ p.w - 1 && !p.sg then w32 (Nat.min v (2 ^ p.w - 1)) else w32 (v &&& p.mask)

/-- What an address reads as (R3, R43, R45, R53, R376). An address that no chapter assigns, or that is no word's, reads zero. -/
def Mod.readWord (m : Mod) (a : Nat) : Word :=
  if a % 4 ≠ 0 then 0#32
  else if 0x20000000 ≤ a && a < 0x21000000 then m.calfWord a
  else if 0x21000000 ≤ a && a < 0x22000000 then m.caluWord a
  else if 0x40000000 ≤ a && a < 0x80000000 then m.modelWord a
  else if a / 0x1000000 = 12 && m.rd P.sysVariant = 2 then 0#32
  else
    match paramAt a with
    | none => 0#32
    | some (p, _, _) =>
      if p.cls = .stat || a / 0x1000000 = 16 || a / 0x1000000 = 17 then
        match m.calView a with
        | some v => p.shown v
        | none => (m.view a).elim (m.word a) p.shown
      else m.word a

/-- A read and what it latches (R323, R344): TIME_RAW latches TIME_RAW_HI, TIME_SEC_LO latches TIME_SEC_HI and TIME_NS. -/
def Mod.readAt (m : Mod) (a : Nat) : Word × Mod :=
  let w := m.readWord a
  if a = P.timeRaw.base then (w, { m with time := { m.time with rawHi := m.now / 2 ^ 32 % 2 ^ 32 } })
  else if a = P.timeSecLo.base then
    (w, { m with time := { m.time with secHi := m.reported / sec / 2 ^ 32 % 65536, ns := m.reported % sec } })
  else (w, m)

/-- Consecutive words read in order (R376). -/
def Mod.readMany (m : Mod) (a : Nat) : Nat → List Word × Mod
  | 0 => ([], m)
  | n + 1 =>
    let r := m.readAt a
    let rest := r.2.readMany (a + 4) n
    (r.1 :: rest.1, rest.2)

end Sys2Proof.Machine
end

