-- ==== Sys2Proof/Machine/Write.lean ====
section
/-!
DEFINITION. Machine/Write.lean: what changes the parameter space at run time (chapter 2): changes of recipe, dials, user
calibration, and the write of a register (R10, R11, R44, R376), with the deep test that one of them starts (R413).
-/
namespace Sys2Proof.Machine

/-! ### Words that change -/

/-- One word of a block's settings changes; a camera port notes it for its latch point (R74). -/
def Mod.changeWord (m : Mod) (e : Nat × Word) : Mod :=
  if m.word e.1 = e.2 then m else (m.camNote e.1 (m.word e.1) e.2).setWord e.1 e.2

/-- Settings change (R49, R51, R55): the panels and the load switches follow. -/
def Mod.changeWords (m : Mod) (l : List (Nat × Word)) : Mod :=
  let m1 := (l.foldl Mod.changeWord m).panelsAfter m
  (List.range 24).foldl (fun x k => x.lswOnChanged k (m.rd P.lswOn k = 1) (m1.rd P.lswOn k = 1)) m1

/-! ### Recipes (R47 to R49) -/

/-- A recipe has a RECIPE record. -/
def Mod.declared (m : Mod) (i : Nat) : Bool := m.sys.rb.any (fun rb => rb.recipes.any (fun r => r.idx = i))

/-- Event 0x0A44 (R48): a request is superseded. -/
def Mod.superseded (m : Mod) (old new : Nat) : Mod :=
  (m.inc P.sysRecipeSuperseded).raise 122 0x0A44 (leBytes 1 old ++ leBytes 1 new)

/-- A pending change set. -/
def Mod.setPend (m : Mod) (p : Option (Nat × Nat)) : Mod := { m with sys := { m.sys with pend := p } }

/-- A request for a recipe (R47, R48): its STATUS, and the module. -/
def Mod.recipeRequest (m : Mod) (i : Nat) : Nat × Mod :=
  if !m.declared i then (12, m)
  else
    let m1 := m.wr P.sysRecipeSel i
    match m.sys.pend with
    | none => (0, if i = m.sys.recipe then m1 else m1.setPend (some (i, m.now)))
    | some (j, _) =>
      if i = m.sys.recipe then (0, (m1.setPend none).superseded j i) else (0, (m1.setPend (some (i, m.now))).superseded j i)

/-- The words of a change from recipe `o` to recipe `n` (R49). -/
def Mod.recipeWords (m : Mod) (rb : RoadBook) (o n : Nat) : List (Nat × Word) :=
  (rb.touched o n).map (fun a => (a, rb.changed a (m.word a) (rb.recipeWord n a)))

/-- RECIPE_EFFECTIVE (R49): at the pending change's effective instant the new recipe comes into force. -/
def recipeEffective (m : Mod) : Mod :=
  match m.sys.pend, m.sys.rb with
  | some (n, acc), some rb =>
    if m.running && m.effectiveAt acc ≤ m.now then
      let o := m.sys.recipe
      let m1 := m.changeWords (m.recipeWords rb o n)
      let m2 : Mod := { m1 with sys := { m1.sys with recipe := n, pend := none, at_ := m.effectiveAt acc } }
      let m3 := ((m2.wr P.sysRecipeNow n).lanesRecipe.evaluateSet).gnssModeTo (rb.gnssOf n)
      ((m3.tallyClose o).tallyOpen n).raise 122 0x0A43 (leBytes 1 o ++ leBytes 1 n)
    else m
  | _, _ => m

/-! ### Dials (R51) -/

/-- Why a write to a dial is refused: its STATUS, or none. -/
def Mod.dialRefuse (m : Mod) (role : Nat) (d : DialDef) (v : Int) : Option Nat :=
  let cur := d.get (m.word d.target)
  if role < d.role then some 3
  else if !d.fits v || v < d.num d.min || d.num d.max < v then some 7
  else if d.step ≠ 0 && (d.step : Int) < (v - cur).natAbs then some 8
  else if (assocGet m.sys.dialAt d.dial).any (fun t => m.now < t + d.interval * 1000000) then some 9
  else if !d.keep && m.sys.pend.isSome then some 10
  else none

/-- A write to a dial (R51): its STATUS, the field's value in force after it, and the module. -/
def Mod.dialWrite (m : Mod) (role dial v : Nat) : Nat × Nat × Mod :=
  match (m.sys.rb.map (·.dials)).getD [] |>.find? (fun d => d.dial = dial) with
  | none => (6, 0, m)
  | some d =>
    match m.dialRefuse role d (d.num v) with
    | some st => (st, toU 32 (d.get (m.word d.target)), m)
    | none =>
      let m1 := m.changeWords [(d.target, d.put (m.word d.target) (d.num v))]
      (0, toU 32 (d.get (m1.word d.target)), { m1 with sys := { m1.sys with dialAt := assocSet m1.sys.dialAt d.dial m.now } })

/-! ### User calibration (R53, R55) -/

/-- A pair of a group is the CALU word of a calibration parameter with a legal value (R53, R378). -/
def caluPairOk (e : Nat × Word) : Bool :=
  0x21000000 ≤ e.1 && e.1 < 0x22000000 && (calAt (e.1 - 0x01000000)).any (fun c => caluOk c.1 e.2)

/-- The commit sequence number of the store in force (R55). -/
def Mod.caluSeq (m : Mod) : Nat :=
  (((m.nv.calu.filter (·.ok)).map (·.seq)).foldl (fun (b : Option Nat) q => some (b.elim q (fun x => if later 32 q x then q else x)))
    none).getD 0

/-- CALU_GROUP_COMMIT (R55, R373, R378): both copies hold the group; it is acknowledged and applied. -/
def Mod.caluCommit (m : Mod) (g : CalGroup) : Mod :=
  let seq := (m.caluSeq + 1) % 2 ^ 32
  let words := g.words.foldl (fun l e => assocSet l e.1 e.2) m.sys.calu
  let copy : CaluCopy := { ok := true, seq := seq, words := words }
  let m1 := words.foldl (fun x e => if x.settingWord e.1 = e.2 then x else x.camNote e.1 (x.settingWord e.1) e.2) m
  let m2 : Mod := { m1 with sys := { m1.sys with calu := words, caluOne := false }, nv := { m1.nv with calu := [copy, copy] },
                            net := { m1.net with cal := none } }
  (((m2.panelsAfter m).inc P.sysCaluWrites).raise 122 0x0A45 (leBytes 4 seq)).reply g.sid 0x0030 g.seq 0
    (leBytes 2 0 ++ leBytes 4 seq)

/-! ### The deep test (R413) -/

/-- Every output off, and the blocks that drive them as a start finds them (R33). -/
def Mod.allOff (m : Mod) : Mod :=
  let d : Mod := {}
  { m with cams := d.cams, panels := d.panels, cell := d.cell, fus := d.fus, trk := d.trk, ej := d.ej, vlv := d.vlv, toll := d.toll,
           lsw := d.lsw, loop := d.loop, gnss := d.gnss, can := d.can,
           time := { m.time with pps := false, outs := d.time.outs, validOut := false } }

/-- A write of 1 to BIST_DEEP, by a session of key slot `slot` (R413, R442). `cut` says that power fails during the erasure,
which leaves its mark. -/
def deepTest (slot : Nat) (cut : Bool) (m : Mod) : Mod :=
  if cut then (m.setDome (fun d => { d with pending := true, pendCause := 2 })).controlledRestart 1
  else
    let m1 := (m.eraseSecrets 2).raise 124 0x0A65 (leBytes 1 slot)
    let m2 := ((m1.closeDown.wr P.bistSafeCause 0x12).setPhase .deep).raise 124 0x0A64 [0x12#8]
    { m2.allOff with bist := { m2.bist with deepAt := m.now } }

/-- DEEP_TEST_COMPLETE (R413): the test has taken its 12 s; its result is kept, and the module starts again. -/
def deepTestComplete (result coverage duration : Nat) (m : Mod) : Mod :=
  if m.bist.phase = .deep && m.bist.deepAt + 12000000000 ≤ m.now then
    let w := w32 (result % 4 * 2 ^ 30 + coverage % 2 ^ 14 * 2 ^ 16 + duration % 2 ^ 16)
    let m1 : Mod := { m with nv := { m.nv with deepRes := w } }
    m1.flush.recDrain.fresh 6
  else m

/-! ### Writes (R10, R11, R44) -/

/-- A W1C write clears the bits it names, but for those that the module sets at this very instant (R11). -/
def Mod.w1c (m : Mod) (a w : Nat) : Mod :=
  let v := w - (w &&& m.marked a)
  if a = P.evcFlags.base then { m with evc := { m.evc with dropFlag := m.evc.dropFlag && !v.testBit 0 } }
  else if a = P.logFlags.base then { m with log := { m.log with flags := m.log.flags - (m.log.flags &&& v) } }
  else
    let x := (m.word a).toNat
    m.setWord a (w32 (x - (x &&& v)))

/-- The effect of an accepted write to parameter `p`, element `i`, of class CMD, once its word is stored. `counts` are the cell
array's counts since the last snapshot, for PERF_SNAP. -/
def Mod.cmdEffect (m : Mod) (slot : Nat) (counts : List (Nat × Nat)) (p : Param) (i a v : Nat) : Mod :=
  if p.base = P.sysDecLatClr.base then m.wr P.sysDecLatMax 0
  else if p.base = P.cellClr.base then cellClr m
  else if p.base = P.fusMotionReset.base then fusMotionReset m
  else if p.base = P.fusSuspectClr.base then fusSuspectClr v m
  else if p.base = P.trkLot.base then trkLotWrite v m
  else if p.base = P.trkClr.base then trkClr m
  else if p.base = P.ejClr.base then ejClr m
  else if p.base = P.tollClr.base then tollClr m
  else if p.base = P.vlvChClr.base then vlvChClr v m
  else if p.base = P.vlvPClr.base then vlvPClr i m
  else if p.base = P.lswClr.base then lswClr v m
  else if p.base = P.loopTrCmd.base then
    if v = 1 then traceArm i m else if v = 2 then traceTriggerCmd i m else traceStop i m
  else if p.base = P.gnssAccept.base then m.gnssAcceptNow
  else if p.base = P.gnssCold.base then m.gnssColdNow
  else if p.base = P.timeOutAtHi.base then timeOutArm i v m
  else if p.base = P.evcClr.base then evcClr m
  else if p.base = P.logCursor.base then logCursor v m
  else if p.base = P.bistDeep.base then deepTest slot false m
  else if p.base = P.perfSnap.base then perfSnap counts m
  else if 0x14000000 ≤ a && a < 0x15000000 then m.perfWrite a (w32 v)
  else m

/-- Why a write is refused (R10, R43, R44, R376): its STATUS and no effect; or the parameter and its element. -/
def Mod.writeCheck (m : Mod) (role a : Nat) (v : Word) : Except Nat (Param × Nat × Nat) :=
  if a % 4 ≠ 0 || 0x20000000 ≤ a || (a / 0x1000000 = 12 && m.rd P.sysVariant = 2) then .error 11
  else
    match paramAt a with
    | none => .error 11
    | some (p, i, j) =>
      if p.cls = .dial then .error 6
      else if p.cls ≠ .cmd && p.cls ≠ .w1c then .error 11
      else if p.svc && role = 0 then .error 3
      else if !p.bitsOk i v then .error 11
      else if !p.inRange m.word i j v then .error 13
      else .ok (p, i, j)

/-- A write to a register (R44, R376): its STATUS, and the module. -/
def Mod.writeWord (m : Mod) (role slot : Nat) (counts : List (Nat × Nat)) (a : Nat) (v : Word) : Nat × Mod :=
  match m.writeCheck role a v with
  | .error st => (st, m)
  | .ok (p, i, _) =>
    if p.cls = .w1c then (0, m.w1c a v.toNat)
    else if p.base = P.sysRecipeSel.base then m.recipeRequest v.toNat
    else (0, (m.setWord a v).cmdEffect slot counts p i a v.toNat)

/-- A write by a session of a role and a key slot reaches a running module (R382). -/
def writeNow (role slot : Nat) (counts : List (Nat × Nat)) (a : Nat) (v : Word) (m : Mod) : Mod :=
  if m.running then (m.writeWord role slot counts a v).2 else m

/-- A write to element `i` of a parameter that has a command of its own. -/
def cmdWrite (p : Param) (i role : Nat) (counts : List (Nat × Nat)) (v : Word) (m : Mod) : Mod :=
  if i < p.n1 then writeNow role 0 counts (p.addr i) v m else m

/-- DEEP_TEST (R413): a write to BIST_DEEP by a session of key slot `slot`; `cut` says that power fails during the erasure. -/
def deepTestWrite (role slot : Nat) (v : Word) (cut : Bool) (m : Mod) : Mod :=
  if cut && m.running && (m.writeCheck role P.bistDeep.base v).isOk then deepTest slot true m
  else writeNow role slot [] P.bistDeep.base v m

/-! ### The commands as the queue gives them -/

/-- DEEP_TEST (R413). -/
def execDeepTest (t role slot : Nat) (v : Word) (cut : Bool) (s : State) : Host.Outcome State Fault Refusal :=
  s.run t (deepTestWrite role slot v cut)

/-- DEEP_TEST_COMPLETE (R413). -/
def execDeepTestComplete (t result coverage duration : Nat) (s : State) : Host.Outcome State Fault Refusal :=
  s.run t (deepTestComplete result coverage duration)

/-- RECIPE_EFFECTIVE (R49). -/
def execRecipeEffective (t : Nat) (s : State) : Host.Outcome State Fault Refusal := s.run t recipeEffective

/-- SYS_DEC_LAT_CLR (R26). -/
def execSysDecLatClr (t role : Nat) (v : Word) (s : State) : Host.Outcome State Fault Refusal :=
  s.run t (cmdWrite P.sysDecLatClr 0 role [] v)

/-- CELL_CLR (R132). -/
def execCellClr (t role : Nat) (v : Word) (s : State) : Host.Outcome State Fault Refusal := s.run t (cmdWrite P.cellClr 0 role [] v)

/-- TRK_CLR (R184). -/
def execTrkClr (t role : Nat) (v : Word) (s : State) : Host.Outcome State Fault Refusal := s.run t (cmdWrite P.trkClr 0 role [] v)

/-- EJ_CLR (R207). -/
def execEjClr (t role : Nat) (v : Word) (s : State) : Host.Outcome State Fault Refusal := s.run t (cmdWrite P.ejClr 0 role [] v)

/-- TOLL_CLR (R256). -/
def execTollClr (t role : Nat) (v : Word) (s : State) : Host.Outcome State Fault Refusal := s.run t (cmdWrite P.tollClr 0 role [] v)

/-- EVC_CLR (R391). -/
def execEvcClr (t role : Nat) (v : Word) (s : State) : Host.Outcome State Fault Refusal := s.run t (cmdWrite P.evcClr 0 role [] v)

/-- FUS_MOTION_RESET (R146). -/
def execFusMotionReset (t role : Nat) (v : Word) (s : State) : Host.Outcome State Fault Refusal :=
  s.run t (cmdWrite P.fusMotionReset 0 role [] v)

/-- FUS_SUSPECT_CLR (R152). -/
def execFusSuspectClr (t role : Nat) (v : Word) (s : State) : Host.Outcome State Fault Refusal :=
  s.run t (cmdWrite P.fusSuspectClr 0 role [] v)

/-- TRK_LOT (R182). -/
def execTrkLot (t role : Nat) (v : Word) (s : State) : Host.Outcome State Fault Refusal := s.run t (cmdWrite P.trkLot 0 role [] v)

/-- VLV_CH_CLR (R230). -/
def execVlvChClr (t role : Nat) (v : Word) (s : State) : Host.Outcome State Fault Refusal := s.run t (cmdWrite P.vlvChClr 0 role [] v)

/-- VLV_P_CLR (R233). -/
def execVlvPClr (t role p : Nat) (v : Word) (s : State) : Host.Outcome State Fault Refusal := s.run t (cmdWrite P.vlvPClr p role [] v)

/-- LSW_CLR (R266). -/
def execLswClr (t role : Nat) (v : Word) (s : State) : Host.Outcome State Fault Refusal := s.run t (cmdWrite P.lswClr 0 role [] v)

/-- TRACE_ARM (R288). -/
def execTraceArm (t role n : Nat) (s : State) : Host.Outcome State Fault Refusal := s.run t (cmdWrite P.loopTrCmd n role [] 1#32)

/-- TRACE_TRIGGER (R288). -/
def execTraceTrigger (t role n : Nat) (s : State) : Host.Outcome State Fault Refusal := s.run t (cmdWrite P.loopTrCmd n role [] 2#32)

/-- TRACE_STOP (R288). -/
def execTraceStop (t role n : Nat) (s : State) : Host.Outcome State Fault Refusal := s.run t (cmdWrite P.loopTrCmd n role [] 3#32)

/-- GNSS_ACCEPT (R310). -/
def execGnssAccept (t role : Nat) (v : Word) (s : State) : Host.Outcome State Fault Refusal := s.run t (cmdWrite P.gnssAccept 0 role [] v)

/-- GNSS_COLD (R305). -/
def execGnssCold (t role : Nat) (v : Word) (s : State) : Host.Outcome State Fault Refusal := s.run t (cmdWrite P.gnssCold 0 role [] v)

/-- TIME_OUT_ARM (R339). -/
def execTimeOutArm (t role n : Nat) (v : Word) (s : State) : Host.Outcome State Fault Refusal :=
  s.run t (cmdWrite P.timeOutAtHi n role [] v)

/-- LOG_CURSOR (R403). -/
def execLogCursor (t role : Nat) (v : Word) (s : State) : Host.Outcome State Fault Refusal := s.run t (cmdWrite P.logCursor 0 role [] v)

/-- PERF_SNAP (R450). -/
def execPerfSnap (t role : Nat) (v : Word) (counts : List (Nat × Nat)) (s : State) : Host.Outcome State Fault Refusal :=
  s.run t (cmdWrite P.perfSnap 0 role counts v)

end Sys2Proof.Machine
end

