-- ==== Sys2Proof/Machine/Msgs.lean ====
section
/-!
DEFINITION. Machine/Msgs.lean: what each type of Volron request does (R375 to R381, R402, R404, R430): bodies, replies, effects. A
request's acceptance is that of Machine/Net.lean.
-/
namespace Sys2Proof.Machine

/-! ### Reading and writing (R376, R378) -/

/-- Words may be read from the blocks that recovery mode admits (R438). -/
def Mod.readable (m : Mod) (a n : Nat) : Bool :=
  m.netState ≠ 2 || [a, a + 4 * (n - 1)].all (fun x => x / 0x1000000 = 0 || (0x11 ≤ x / 0x1000000 && x / 0x1000000 ≤ 0x13))

/-- READ (R376): `cal` for CAL_READ, which reads CALU addresses alone (R375). -/
def msgRead (cal : Bool) (b : List Byte) (m : Mod) : Reply :=
  let a := leAt b 0 4
  let n := leAt b 4 2
  if b.length ≠ 8 then (1, [], m)
  else if n = 0 || 256 < n then (13, [], m)
  else if cal && !(0x21000000 ≤ a && a + 4 * n ≤ 0x22000000) then (13, [], m)
  else if !m.readable a n then (13, [], m)
  else
    let r := m.readMany a n
    (0, leBytes 2 n ++ wordBytes r.1, r.2)

/-- The pairs of a WRITE, one after another: their statuses and the module. -/
def Mod.writePairs (m : Mod) (role slot : Nat) (counts : List (Nat × Nat)) (l : List (Nat × Word)) : List Byte × Mod :=
  l.foldl (fun (acc : List Byte × Mod) e =>
    let r := if acc.2.running then acc.2.writeWord role slot counts e.1 e.2 else (4, acc.2)
    (acc.1 ++ leBytes 2 r.1, r.2)) ([], m)

/-- WRITE (R376). -/
def msgWrite (s : Session) (counts : List (Nat × Nat)) (b : List Byte) (m : Mod) : Reply :=
  let n := leAt b 0 2
  if b.length < 4 then (1, [], m)
  else if n = 0 || 64 < n then (13, [], m)
  else if b.length ≠ 4 + 8 * n then (1, [], m)
  else
    let r := m.writePairs s.role s.slot counts (pairsOf (b.drop 4))
    (0, leBytes 2 n ++ r.1, r.2)

/-- RECIPE_SELECT (R377). -/
def msgRecipe (b : List Byte) (m : Mod) : Reply :=
  if b.length ≠ 4 then (1, [], m)
  else
    let r := m.recipeRequest (leAt b 0 1)
    (r.1, leBytes 2 r.2.recipePend ++ leBytes 4 r.2.recipeAt, r.2)

/-- DIAL_SET (R377). -/
def msgDial (s : Session) (b : List Byte) (m : Mod) : Reply :=
  if b.length ≠ 8 then (1, [], m)
  else
    let r := m.dialWrite s.role (leAt b 0 1) (leAt b 4 4)
    (r.1, leBytes 2 0 ++ leBytes 4 r.2.1, r.2.2)

/-- CAL_WRITE (R378): a legal group goes into execution and is answered at its commit. -/
def msgCalWrite (s : Session) (seq : Nat) (b : List Byte) (m : Mod) : Reply :=
  let n := leAt b 0 2
  let l := pairsOf (b.drop 4)
  if b.length < 4 then (1, [], m)
  else if n = 0 || 64 < n then (13, [], m)
  else if b.length ≠ 4 + 8 * n then (1, [], m)
  else
    match findPos (fun e => !caluPairOk e) l with
    | some k => (17, leBytes 2 k ++ leBytes 4 m.caluSeq, m)
    | none =>
      (0, [], { m with net := { m.net with cal := some { sid := s.id, seq := seq, tr := s.tr, peer := s.peer, words := l } } })

/-! ### Tallies and the map (R379) -/

/-- MILESTONE_RAW. -/
def Mod.msRaw (m : Mod) : Nat := m.committed.mj % 2 ^ 32

/-- TALLY_READ (R379). -/
def msgTally (b : List Byte) (m : Mod) : Reply :=
  let r := leAt b 0 1
  if b.length ≠ 4 then (1, [], m)
  else if 15 < r then (13, [], m)
  else
    (0, leBytes 2 0 ++ leBytes 4 m.msRaw ++ leBytes 4 (m.committed.mj / 2 ^ 32)
      ++ (List.range 32).flatMap (fun w => leBytes 4 ((m.committed.tally.getD r {}).word w)), m)

/-- MAP_READ (R379). -/
def msgMap (b : List Byte) (m : Mod) : Reply :=
  let first := leAt b 0 2
  let n := leAt b 2 2
  if b.length ≠ 4 then (1, [], m)
  else if n = 0 || 22 < n || 65536 < first + n then (13, [], m)
  else
    (0, leBytes 2 n ++ leBytes 4 m.committed.lotId ++ leBytes 4 m.msRaw
      ++ (List.range n).flatMap (fun k => m.committed.mapBytes (first + k)), m)

/-! ### CAN frames (R380) -/

/-- FRAME_SUBSCRIBE (R380). -/
def msgFrames (s : Session) (b : List Byte) (m : Mod) : Reply :=
  if b.length ≠ 4 then (1, [], m)
  else if 15 < leAt b 0 1 then (13, [], m)
  else (0, [], m.setSession s.id (fun x => { x with frames := leAt b 0 1 }))

/-- The frame of a FRAME_SEND body: a ring entry without STAMP and SEQ (R351, R380). -/
def frameOf (sid now : Nat) (b : List Byte) : CanTx :=
  let flags := leAt b 5 1
  let fd := flags.testBit 5
  let dlc := leAt b 4 1
  { id := leAt b 0 4, ext := flags.testBit 7, fd := fd, brs := flags.testBit 4, rtr := flags.testBit 6, dlc := dlc,
    data := (b.drop 10).take (dlcLen fd dlc), at_ := now, from_ := 2, sid := sid }

/-- FRAME_SEND (R356, R380). A remote frame, which the controller never transmits (R345), is refused (log 149). -/
def msgFrameSend (s : Session) (b : List Byte) (m : Mod) : Reply :=
  let ch := leAt b 0 1
  let f := frameOf s.id m.now (b.drop 4)
  if b.length ≠ 78 then (1, [], m)
  else if 3 < ch || 15 < f.dlc || (if f.ext then 2 ^ 29 else 2 ^ 11) ≤ f.id then (13, [], m)
  else if m.rd P.canTxAllow ch ≠ 1 || f.rtr || (f.fd && !(m.rd P.canCfg ch).testBit 3) then (11, [], m)
  else
    let r := m.canQueue ch f
    (if r.2 then 0 else 20, [], r.1)

/-! ### The recorder (R402, R404) -/

/-- RECORDER_WINDOW (R402). -/
def msgWindow (b : List Byte) (m : Mod) : Reply :=
  let from0 := leAt b 0 4
  let n := leAt b 4 2
  let out := fun (st : Nat) (l : List Rec) =>
    (st, leBytes 2 l.length ++ leBytes 4 m.log.oldest ++ leBytes 4 m.log.next ++ leBytes 4 m.log.clears ++ l.flatMap Rec.bytes, m)
  if b.length ≠ 8 then (1, [], m)
  else if n = 0 || 44 < n then (13, [], m)
  else if m.log.holds from0 then out 0 (m.recsFrom from0 n)
  else if later 32 m.log.oldest from0 then out 18 []
  else out 13 []

/-- RECORDER_CLEAR (R404). -/
def msgClear (s : Session) (b : List Byte) (m : Mod) : Reply :=
  let upto := leAt b 0 4
  let out := fun (st : Nat) (m : Mod) => (st, leBytes 2 0 ++ leBytes 4 m.log.oldest ++ leBytes 4 m.log.next, m)
  if b.length ≠ 4 then (1, [], m)
  else if !m.log.holds upto || (m.log.full && upto = m.log.oldest) then out 13 m
  else out 0 (m.recClear upto s.slot)

/-! ### Corrections (R381) -/

/-- One bit of the CRC of an RTCM 3 frame. -/
def crc24Step : Nat → Nat → Nat
  | 0, c => c
  | k + 1, c => crc24Step k (if 2 ^ 23 ≤ c then (2 * c ^^^ 0x1864CFB) % 2 ^ 24 else 2 * c)

/-- CRC-24Q over bytes. -/
def crc24 (l : List Byte) : Nat := l.foldl (fun c b => crc24Step 8 (c ^^^ (b.toNat * 65536))) 0

/-- The messages of the RTCM 3 frames in bytes, each with its number, and what is left of an unfinished one. -/
def rtcmFrames : Nat → List Byte → List (Nat × List Byte) × List Byte
  | 0, l => ([], l)
  | fuel + 1, l =>
    match l with
    | [] => ([], [])
    | b :: r =>
      if b ≠ 0xD3#8 then rtcmFrames fuel r
      else if l.length < 3 then ([], l)
      else
        let n := beVal ((l.drop 1).take 2)
        if 1024 ≤ n then rtcmFrames fuel r
        else if l.length < n + 6 then ([], l)
        else if crc24 (l.take (n + 3)) = beVal ((l.drop (n + 3)).take 3) then
          let rest := rtcmFrames fuel (l.drop (n + 6))
          (if n < 2 then rest.1 else (beVal ((l.drop 3).take 2) / 16, (l.drop 3).take n) :: rest.1, rest.2)
        else rtcmFrames fuel r

/-- CORRECTION (R307, R381). -/
def msgCorrection (b : List Byte) (m : Mod) : Reply :=
  if b.length < 4 then (1, [], m)
  else
    let l := m.gnss.rtcmBuf ++ b.drop 4
    let r := rtcmFrames l.length l
    (0, [], r.1.foldl Mod.rtcm (m.setGnss (fun g => { g with rtcmBuf := r.2 })))

/-! ### All types -/

/-- What a request does (R375): `counts` are the cell array's counts since the last snapshot, for a write to PERF_SNAP. -/
def handler (counts : List (Nat × Nat)) : Handler := fun typ s seq b m =>
  match typ with
  | 0x0004 => if b.length = 0 then (0, [], m) else (1, [], m)
  | 0x0005 => if b.length = 0 then (0, leBytes 4 m.raw, m) else (1, [], m)
  | 0x0010 => msgRead false b m
  | 0x0011 => msgWrite s counts b m
  | 0x0020 => msgRecipe b m
  | 0x0021 => msgDial s b m
  | 0x0030 => msgCalWrite s seq b m
  | 0x0031 => msgRead true b m
  | 0x0040 => msgTally b m
  | 0x0041 => msgMap b m
  | 0x0050 => eventSubscribe s b m
  | 0x0052 => streamResend s b m
  | 0x0058 => msgFrames s b m
  | 0x005A => msgFrameSend s b m
  | 0x0060 => msgWindow b m
  | 0x0061 => msgClear s b m
  | 0x0070 => msgCorrection b m
  | 0x0080 => updateBegin s.id b m
  | 0x0081 => updateData s.id b m
  | 0x0082 => updateEnd s.id b m
  | 0x0083 => updateAbort s.id b m
  | 0x0084 => updateStatus b m
  | 0x0090 => provisionInfo b m
  | 0x0091 => provision b m
  | _ => (2, [], m)

/-- A message of a command's own type is received; a message of another type is no occurrence of that command. -/
def volron (typ : Nat) (counts : List (Nat × Nat)) (g : Msg) (m : Mod) : Mod :=
  if g.typ = typ then m.receive (handler counts) g else m

/-- UNKNOWN_TYPE (R374): a request of a type that no rule defines. -/
def unknownType (g : Msg) (m : Mod) : Mod :=
  if typeDefined g.typ || g.typ = 0x0001 || g.typ = 0x0003 then m else m.receive (handler []) g

/-- CALU_GROUP_COMMIT (R55, R373): the group in execution is committed, and the requests that waited are executed. -/
def caluGroupCommit (counts : List (Nat × Nat)) (m : Mod) : Mod :=
  match m.net.cal with
  | some g => (m.caluCommit g).runWaiting (handler counts)
  | none => m

/-- RECIPE_SELECT (R47, R377): a write of SYS_RECIPE_SEL, or the message. -/
def recipeSelect (q : RecipeReq) (m : Mod) : Mod :=
  match q with
  | .write role v => writeNow role 0 [] P.sysRecipeSel.base v m
  | .msg g => volron 0x0020 [] g m

/-- REGISTER_WRITE (R10, R44, R376): one write by a session of a role and a key slot, or a WRITE message with its pairs. -/
def registerWrite (q : WriteReq) (counts : List (Nat × Nat)) (m : Mod) : Mod :=
  match q with
  | .pair role slot a v => writeNow role slot counts a v m
  | .msg g => volron 0x0011 counts g m

/-! ### The commands as the queue gives them -/

/-- RECIPE_SELECT (R47). -/
def execRecipeSelect (t : Nat) (q : RecipeReq) (s : State) : Host.Outcome State Fault Refusal := s.run t (recipeSelect q)

/-- DIAL_SET (R51). -/
def execDialSet (t : Nat) (g : Msg) (s : State) : Host.Outcome State Fault Refusal := s.run t (volron 0x0021 [] g)

/-- CAL_WRITE (R378). -/
def execCalWrite (t : Nat) (g : Msg) (s : State) : Host.Outcome State Fault Refusal := s.run t (volron 0x0030 [] g)

/-- CALU_GROUP_COMMIT (R55). -/
def execCaluGroupCommit (t : Nat) (counts : List (Nat × Nat)) (s : State) : Host.Outcome State Fault Refusal :=
  s.run t (caluGroupCommit counts)

/-- CAL_READ (R375). -/
def execCalRead (t : Nat) (g : Msg) (s : State) : Host.Outcome State Fault Refusal := s.run t (volron 0x0031 [] g)

/-- REGISTER_WRITE (R44). -/
def execRegisterWrite (t : Nat) (q : WriteReq) (counts : List (Nat × Nat)) (s : State) : Host.Outcome State Fault Refusal :=
  s.run t (registerWrite q counts)

/-- READ (R376). -/
def execRead (t : Nat) (g : Msg) (s : State) : Host.Outcome State Fault Refusal := s.run t (volron 0x0010 [] g)

/-- CORRECTION (R381). -/
def execCorrection (t : Nat) (g : Msg) (s : State) : Host.Outcome State Fault Refusal := s.run t (volron 0x0070 [] g)

/-- HELLO (R369). -/
def execHello (t : Nat) (g : Msg) (s : State) : Host.Outcome State Fault Refusal := s.run t (volron 0x0001 [] g)

/-- AUTH (R369). -/
def execAuth (t : Nat) (g : Msg) (s : State) : Host.Outcome State Fault Refusal := s.run t (volron 0x0003 [] g)

/-- BYE (R370). -/
def execBye (t : Nat) (g : Msg) (s : State) : Host.Outcome State Fault Refusal := s.run t (volron 0x0004 [] g)

/-- PING (R375). -/
def execPing (t : Nat) (g : Msg) (s : State) : Host.Outcome State Fault Refusal := s.run t (volron 0x0005 [] g)

/-- TALLY_READ (R379). -/
def execTallyRead (t : Nat) (g : Msg) (s : State) : Host.Outcome State Fault Refusal := s.run t (volron 0x0040 [] g)

/-- MAP_READ (R379). -/
def execMapRead (t : Nat) (g : Msg) (s : State) : Host.Outcome State Fault Refusal := s.run t (volron 0x0041 [] g)

/-- EVENT_SUBSCRIBE (R385). -/
def execEventSubscribe (t : Nat) (g : Msg) (s : State) : Host.Outcome State Fault Refusal := s.run t (volron 0x0050 [] g)

/-- STREAM_RESEND (R387). -/
def execStreamResend (t : Nat) (g : Msg) (s : State) : Host.Outcome State Fault Refusal := s.run t (volron 0x0052 [] g)

/-- FRAME_SUBSCRIBE (R380). -/
def execFrameSubscribe (t : Nat) (g : Msg) (s : State) : Host.Outcome State Fault Refusal := s.run t (volron 0x0058 [] g)

/-- FRAME_SEND (R380). -/
def execFrameSend (t : Nat) (g : Msg) (s : State) : Host.Outcome State Fault Refusal := s.run t (volron 0x005A [] g)

/-- UNKNOWN_TYPE (R374). -/
def execUnknownType (t : Nat) (g : Msg) (s : State) : Host.Outcome State Fault Refusal := s.run t (unknownType g)

/-- RECORDER_WINDOW (R402). -/
def execRecorderWindow (t : Nat) (g : Msg) (s : State) : Host.Outcome State Fault Refusal := s.run t (volron 0x0060 [] g)

/-- RECORDER_CLEAR (R404). -/
def execRecorderClear (t : Nat) (g : Msg) (s : State) : Host.Outcome State Fault Refusal := s.run t (volron 0x0061 [] g)

/-- UPDATE_BEGIN (R429). -/
def execUpdateBegin (t : Nat) (g : Msg) (s : State) : Host.Outcome State Fault Refusal := s.run t (volron 0x0080 [] g)

/-- UPDATE_DATA (R431). -/
def execUpdateData (t : Nat) (g : Msg) (s : State) : Host.Outcome State Fault Refusal := s.run t (volron 0x0081 [] g)

/-- UPDATE_END (R432). -/
def execUpdateEnd (t : Nat) (g : Msg) (s : State) : Host.Outcome State Fault Refusal := s.run t (volron 0x0082 [] g)

/-- UPDATE_ABORT (R435). -/
def execUpdateAbort (t : Nat) (g : Msg) (s : State) : Host.Outcome State Fault Refusal := s.run t (volron 0x0083 [] g)

/-- UPDATE_STATUS (R430). -/
def execUpdateStatus (t : Nat) (g : Msg) (s : State) : Host.Outcome State Fault Refusal := s.run t (volron 0x0084 [] g)

/-- PROVISION_INFO (R444). -/
def execProvisionInfo (t : Nat) (g : Msg) (s : State) : Host.Outcome State Fault Refusal := s.run t (volron 0x0090 [] g)

/-- PROVISION (R447). -/
def execProvision (t : Nat) (g : Msg) (s : State) : Host.Outcome State Fault Refusal := s.run t (volron 0x0091 [] g)

end Sys2Proof.Machine
end

