-- ==== Sys2Proof/Machine/NetCan.lean ====
section
/-!
DEFINITION. Machine/NetCan.lean: what the firmware does with the frames of the receive rings (R353 to R355): Volron's segments
(R365), the data link of the implement bus (R359, R366), mirrored frames (R380), recorded frames.
-/
namespace Sys2Proof.Machine

/-! ### Volron over CAN (R365) -/

/-- A message from its bytes, as transport `tr` delivers it from a peer (R365, R367). -/
def msgOf (tr peer : Nat) (b : List Byte) : Msg :=
  let len := leAt b 6 2
  { tr := tr, peer := peer, magic := leAt b 0 2, version := leAt b 2 1, kind := leAt b 3 1, typ := leAt b 4 2, len := len,
    sid := leAt b 8 4, seq := leAt b 12 4, body := (b.drop 16).take len, tag := ((b.drop 16).drop len).take 16 }

/-- A partial message is one of a channel, a peer and a TAG. -/
def Reasm.is (r : Reasm) (ch peer tag : Nat) : Bool := r.ch = ch && r.peer = peer && r.tag = tag

/-- Partial messages of a channel, a peer and a TAG are dropped. -/
def Mod.reasmDrop (m : Mod) (ch peer tag : Nat) : Mod :=
  { m with net := { m.net with reasm := m.net.reasm.filter (fun r => !r.is ch peer tag) } }

/-- A partial message is discarded and counted (R365, R389). -/
def Mod.reasmFail (m : Mod) (ch peer tag : Nat) : Mod :=
  (((m.reasmDrop ch peer tag).inc P.netCanReasmFails).flag P.netFlags 4).raise 118 0x0921 (leBytes 1 ch ++ leBytes 1 peer)

/-- A partial message grows by a segment; with its last segment the message is received. -/
def Mod.reasmTake (m : Mod) (h : Handler) (r : Reasm) (last : Bool) : Mod :=
  if last then (m.reasmDrop r.ch r.peer r.tag).receive h (msgOf (2 + r.ch) r.peer r.bytes)
  else { m.reasmDrop r.ch r.peer r.tag with net := { m.net with reasm := (m.reasmDrop r.ch r.peer r.tag).net.reasm ++ [r] } }

/-- A segment of a peer (R365). -/
def Mod.segment (m : Mod) (h : Handler) (ch peer : Nat) (d : List Byte) : Mod :=
  let head := leAt d 0 1
  let tag := head % 16
  let idx := leAt d 1 1
  let data := d.drop 2
  let old := m.net.reasm.find? (fun r => r.is ch peer tag)
  if head.testBit 7 then
    let m1 := if old.isSome then m.reasmFail ch peer tag else m
    if idx ≠ 0 then (if old.isSome then m1 else m1.reasmFail ch peer tag)
    else if !head.testBit 6 && 4 ≤ (m1.net.reasm.filter (fun r => r.ch = ch && r.peer = peer)).length then m1
    else m1.reasmTake h { ch := ch, peer := peer, tag := tag, next := 1, last := m.now, bytes := data } (head.testBit 6)
  else
    match old with
    | none => m
    | some r =>
      if idx ≠ r.next then m.reasmFail ch peer tag
      else m.reasmTake h { r with next := r.next + 1, last := m.now, bytes := r.bytes ++ data } (head.testBit 6)

/-- A frame passed to the Volron CAN transport (R363, R365). -/
def Mod.volronFrame (m : Mod) (h : Handler) (ch : Nat) (e : CanEntry) : Mod :=
  let base := m.rd P.netCanBase
  if e.ext && !e.rtr && base ≤ e.id && e.id < base + 64 && (e.id - base) % 2 = 0 && m.carries (2 + ch) then
    m.segment h ch ((e.id - base) / 2) (e.data.take (dlcLen e.fd e.dlc))
  else m

/-- CAN_REASSEMBLY_TIMEOUT (R365). -/
def canReassemblyTimeout (ch peer tag : Nat) (m : Mod) : Mod :=
  match m.net.reasm.find? (fun r => r.is ch peer tag) with
  | some r => if r.last + m.rd P.netCanReasmMs * 1000000 ≤ m.now then m.reasmFail ch peer tag else m
  | none => m

/-! ### The implement bus (R359, R366) -/

/-- A frame passed to the data link (R359, R360, R366): claims and their requests; the transport protocol; Proprietary A to the
module's address. -/
def Mod.isoFrameIn (m : Mod) (h : Handler) (ch : Nat) (e : CanEntry) : Mod :=
  if m.isoCh ≠ some ch || !e.ext || e.rtr then m
  else
    let m1 := m.isoReceive ch e
    let c := m1.canCh ch
    let pf := e.pf
    let da := field e.id 15 8
    let sa := field e.id 7 0
    let d := e.data.take 8
    if c.iso ≠ .held then m1
    else if pf = some 0xEC && (da = c.sa || (da = 255 && leAt d 0 1 = 32)) then m1.tpManage ch sa d
    else if pf = some 0xEB && (da = c.sa || da = 255) then
      let r := m1.tpData ch sa (da = 255) d
      match r.2 with
      | some (pgn, b) => if pgn = 0xEF00 && da = c.sa then r.1.receive h (msgOf 6 sa b) else r.1
      | none => r.1
    else if pf = some 0xEF && da = c.sa then m1.receive h (msgOf 6 sa (d.take e.dlc))
    else m1

/-! ### Rules (R355) -/

/-- A rule matches a frame (R355). -/
def Mod.ruleMatch (m : Mod) (ch r : Nat) (e : CanEntry) : Bool :=
  let w := fun (k : Nat) => m.rd P.canRule ch (4 * r + k)
  let mt := w 2
  (e.id &&& w 1) = (w 0 &&& w 1) && (!mt.testBit 5 || e.ext = mt.testBit 4) && (!mt.testBit 3 || e.fd = mt.testBit 2)
    && (!mt.testBit 1 || e.rtr = mt.testBit 0)

/-- The destinations of a frame (R355): [3] RECORD, [2] MIRROR, [1] ISO, [0] VOLRON. -/
def Mod.destOf (m : Mod) (ch : Nat) (e : CanEntry) : Nat :=
  let d :=
    match (List.range (m.rd P.canRules ch)).find? (fun r => m.ruleMatch ch r e) with
    | some r => m.rd P.canRule ch (4 * r + 3)
    | none => m.rd P.canDefaultDest ch
  if e.tx then d &&& 4 else d

/-- An entry goes to its destinations; a mirrored one is added to those that leave with this service. -/
def Mod.routeEntry (h : Handler) (ch : Nat) (acc : Mod × List (List Byte)) (x : CanEntry × Bool × Bool) : Mod × List (List Byte) :=
  let d := acc.1.destOf ch x.1
  let m1 := if d.testBit 0 then acc.1.volronFrame h ch x.1 else acc.1
  let m2 := if d.testBit 1 then m1.isoFrameIn h ch x.1 else m1
  let m3 := if d.testBit 3 then
      m2.raise (112 + ch) 0x090A (leBytes 4 x.1.id ++ leBytes 1 x.1.dlc ++ leBytes 4 x.1.stamp) else m2
  (m3, if d.testBit 2 then acc.2 ++ [entryBytes x.1 x.2.1 x.2.2] else acc.2)

/-- Mirrored entries in parts of at most 17 (R380). -/
def mirrorParts : Nat → List (List Byte) → List (List (List Byte))
  | 0, _ => []
  | _, [] => []
  | fuel + 1, l => l.take 17 :: mirrorParts fuel (l.drop 17)

/-- Mirrored frames of a channel leave to the sessions that subscribe to it (R380). -/
def Mod.mirror (m : Mod) (ch : Nat) (l : List (List Byte)) : Mod :=
  ((m.net.sessions.filter (fun s => s.opened && s.frames.testBit ch)).map (·.id)).foldl (fun m sid =>
    (mirrorParts l.length l).foldl (fun m part =>
      match m.session? sid with
      | some s => m.stream s 0x0059 (leBytes 2 part.length ++ leBytes 2 0 ++ part.flatten)
      | none => m) m) m

/-- The firmware takes the entry at the head and routes it. -/
def Mod.ringTake (h : Handler) (ch : Nat) (acc : Mod × List (List Byte)) : Mod × List (List Byte) :=
  match (acc.1.canCh ch).ring with
  | x :: _ => Mod.routeEntry h ch (acc.1.setCan ch CanCh.take, acc.2) x
  | [] => acc

/-- CAN_RING_SERVICE (R353 to R355): the firmware ends the read in progress, consumes `n` entries, and where `hold` says so begins to
read one more, which stays occupied. Sessions of the transport protocol whose peer fell silent end. `counts` serve a write to PERF_SNAP among the requests that the frames complete. -/
def canRingService (ch n : Nat) (hold : Bool) (counts : List (Nat × Nat)) (m : Mod) : Mod :=
  if 4 ≤ ch then m
  else
    let h := handler counts
    let m1 := (m.setCan ch CanCh.release).tpExpire ch
    let r := (List.range n).foldl (fun acc _ =>
      let x := Mod.ringTake h ch acc
      (x.1.setCan ch CanCh.release, x.2)) (m1, ([] : List (List Byte)))
    let r1 := if hold then Mod.ringTake h ch r else r
    r1.1.mirror ch r1.2

/-! ### The commands as the queue gives them -/

/-- CAN_RING_SERVICE (R355). -/
def execCanRingService (t ch n : Nat) (hold : Bool) (counts : List (Nat × Nat)) (s : State) : Host.Outcome State Fault Refusal :=
  s.run t (canRingService ch n hold counts)

/-- CAN_REASSEMBLY_TIMEOUT (R365). -/
def execCanReassemblyTimeout (t ch peer tag : Nat) (s : State) : Host.Outcome State Fault Refusal :=
  s.run t (canReassemblyTimeout ch peer tag)

end Sys2Proof.Machine
end

