-- ==== Sys2Proof/Machine/Start.lean ====
section
/-!
DEFINITION. Machine/Start.lean: the power-up sequence, self-test, SAFE, recovery mode and first use (R408 to R414, R418, R422,
R437, R441, R442), checks 14 and 15 of the road book (R32).
-/
namespace Sys2Proof.Machine

/-! ### The start condition (R408, R466) -/

/-- A start condition may be met: no power-up sequence has gone beyond its core tests, and no run is on. -/
def Phase.startable : Phase → Bool
  | .core | .off | .rbInvalid | .safe | .recovery => true
  | _ => false

/-- The module as the start condition finds it: what a restart keeps, the regions and the dome as they stand, and the NET
parameters of the last road book accepted (R382, R438). -/
def Mod.begin (m : Mod) (mv : Nat) (tapEn recovery : Bool) : Mod :=
  let nv0 := m.nv.findRegions
  let found := nv0.dome.pending
  let d0 := nv0.dome
  let dome : Dome := { nv0.dome with nonce := none, pending := found || tapEn, pendCause := if found then nv0.dome.pendCause else 1 }
  let m1 := m.fresh m.nv.cause
  let m2 : Mod := { m1 with nv := { nv0 with dome := dome, tripped := false }, toll := { m1.toll with logicIn := mv, logicUp := true },
                            bist := { phase := .core, tapHeld := tapEn, recHeld := recovery, erasePend := found,
                                      actModel := d0.modelKey, actVkeys := d0.vkeys } }
  m2.setWords m2.nv.net

/-- START_CONDITION (R408): LOGIC_IN at `mv` has been at or above 9.5 V for 10 ms; `board` is the board's temperature in 0.1 °C, which
counts after a thermal trip (R466); `tapEn` and `recovery` are the contacts of J20 and J16. -/
def startCondition (mv : Nat) (board : Int) (tapEn recovery : Bool) (m : Mod) : Mod :=
  if m.bist.phase.startable && 9500 ≤ mv && !(m.nv.tripped && 950 < board) then m.begin mv tapEn recovery else m

/-- START_SUPPLY_DIP (R408): before the road book is applied, a dip ends the sequence; the start condition begins it again. -/
def startSupplyDip (mv : Nat) (m : Mod) : Mod :=
  match m.bist.phase with
  | .outputs | .ready | .running | .deep | .off => m
  | _ => if mv < 9000 then m.fresh m.nv.cause else m

/-! ### Test reports (R410, R411, R424, R425) -/

/-- The units that a test covers, as it counts them (R411, R425): cells, ports, panels, channels of test 9 with its banks from 384,
proportional channels, load switches, CAN channels, Ethernet ports, inputs, the receiver. -/
def testUnits : Nat → List Nat
  | 6 => List.range 1024
  | 7 | 8 => List.range 8
  | 9 => List.range 408
  | 10 => List.range 32
  | 11 => List.range 24
  | 12 => List.range 4
  | 13 => List.range 3
  | 14 => List.range 56
  | 15 => [0]
  | _ => []

/-- The units that a report gives as failed: those of a failed test, and every unit that a test covers which was not run for its clock
(R410). -/
def failedUnits (r : TestRes) : List Nat := if r.result = 1 then r.units else if r.result = 2 && 5 ≤ r.test then testUnits r.test else []

/-- A test reports (R411): BIST_RES, BIST_UNIT, BIST_UNITS, and the events of failed units and of a test not run. -/
def Mod.testReport (m : Mod) (r : TestRes) : Mod :=
  let w := r.result % 4 * 2 ^ 30 + r.coverage % 2 ^ 14 * 2 ^ 16 + r.duration % 2 ^ 16
  let m1 := ((m.wr P.bistRes w r.test).wr P.bistUnit ((failedUnits r).headD 0) r.test).wr P.bistUnits (failedUnits r).length r.test
  let m2 := if r.result = 2 then m1.raise 124 0x0A62 (leBytes 1 r.test ++ leBytes 1 r.pre) else m1
  let m3 := if r.result = 3 then m2.flag P.bistFlags 2 else m2
  if r.test < 5 then m3
  else (failedUnits r).foldl (fun m u => (m.flag P.bistFlags 1).raise 124 0x0A61 (leBytes 1 r.test ++ leBytes 2 u)) m3

/-- The reports of some tests. -/
def Mod.testReports (m : Mod) (res : List TestRes) (tests : List Nat) : Mod :=
  (res.filter (fun r => tests.contains r.test)).foldl Mod.testReport m

/-- The failed units of a test among reports. -/
def failedOf (res : List TestRes) (test : Nat) : List Nat := (res.filter (fun r => r.test = test)).flatMap failedUnits

/-- Result of a test as BIST_RES has it: 0 pass, 1 fail, 2 not run, 3 deferred. -/
def Mod.testResult (m : Mod) (n : Nat) : Nat := field (m.rd P.bistRes n) 31 30

/-! ### The restored milestone (R393 to R395, R414, R418, R422) -/

/-- Records written after the last milestone are adopted (R395), and whether the first that is not is torn: its CHECK is wrong. -/
def Mod.adopt : Nat → Mod → Mod × Bool
  | 0, m => (m, false)
  | fuel + 1, m =>
    match m.recAt m.log.next with
    | none => (m, false)
    | some r =>
      if r.check ≠ r.checkOf then (m, true)
      else if r.seq ≠ m.log.next then (m, false)
      else Mod.adopt fuel { m with log := { m.log with next := (m.log.next + 1) % 2 ^ 32 } }

/-- The power-cycle count rises, and is written at once (R393). -/
def Mod.countCycle (m : Mod) : Mod :=
  let n := (m.nv.cycles + 1) % 2 ^ 24
  { m with nv := { m.nv with cycles := n }, log := { m.log with cycles := n } }

/-- A torn record is dropped, and its number issued again: the recorder writes a record of it (R395, R397, R405). -/
def Mod.dropTorn (m : Mod) : Mod :=
  ({ m with log := { m.log with flags := m.log.flags ||| 8 } }.mark P.logFlags.base 8).recInternal 0x0A05 (leBytes 4 m.log.next)

/-- What a milestone holds comes back (R414, R418). -/
def Mod.restore (m : Mod) (c : MsContent) : Mod :=
  let m1 : Mod := { m with
    trk := { m.trk with tally := c.tally, map := c.map, lotId := c.lotId, lotSec := c.lotOrg.1,
                        lotOrg := if c.lotPos then some c.lotOrg.2 else none },
    log := { m.log with oldest := c.oldest, next := c.next, clears := c.clears, opSec := (c.opSec + m.log.opSec) % 2 ^ 32 },
    bist := { m.bist with life := c.life, unacc := c.unacc, unaccFirst := c.unaccFirst, serial := (c.serial + 65536) % 2 ^ 32,
                          serialFrom := some c.serial, msNum := c.num + 1 } }
  let r := Mod.adopt 8192 m1
  let l := r.1.log
  let old := if 8192 < l.fill then (l.next + 2 ^ 32 - 8192) % 2 ^ 32 else l.oldest
  let m2 : Mod := { r.1 with log := { l with oldest := old, full := 8192 ≤ l.fill, ready := true } }
  (if r.2 then m2.dropTorn else m2).recBegin.msShow

/-- The events of a start (R418, R422, R424): 0x0A72 where the copy that is not valid is the newer; and the accounts of an unrecovered restart. -/
def Mod.startEvents (m : Mod) (c : MsContent) : Mod :=
  let cause := m.nv.cause
  let m1 := (m.wr P.bistStartCause cause).raise 125 0x0A70 (leBytes 1 cause ++ leBytes 3 m.log.cycles)
  let m2 := if m.nv.ms.any (fun x => !x.ok && c.num < x.c.num) then m1.raise 125 0x0A72 (leBytes 4 c.num) else m1
  let m3 := if [1, 2, 3, 6].contains cause then m2.raise 125 0x0A73 (leBytes 1 cause) else m2
  let m4 := m3.tallyRecover c.mj
  if cause = 4 || cause = 5 then
    let m5 : Mod := { m4 with bist := { m4.bist with unrecovered := true, unacc := (m4.bist.unacc + 65536) % 2 ^ 32, unaccFirst := c.serial } }
    (m5.flag P.bistFlags 8).raise 125 0x0A74 (leBytes 4 c.serial ++ leBytes 4 65536)
  else m4

/-- MRAM is restored (R408, R418): false where no copy of the milestone store is valid. -/
def Mod.restoreMram (m : Mod) : Mod × Bool :=
  let m1 := m.countCycle
  match m1.nv.milestone with
  | some c => ((m1.restore c).startEvents c, true)
  | none => ((m1.wr P.bistStartCause m1.nv.cause).raise 125 0x0A70 (leBytes 1 m1.nv.cause ++ leBytes 3 m1.log.cycles), false)

/-! ### SAFE, recovery mode, erasure (R412, R437, R442) -/

/-- SAFE is entered (R407, R412, R437), where the firmware's version reads 0 (R449). -/
def Mod.enterSafe (m : Mod) (cause : Nat) : Mod :=
  let m1 : Mod := { m with bist := { m.bist with phase := .safe, fwVersion := 0 } }
  (((m1.wr P.bistSafeCause cause).raise 124 0x0A64 (leBytes 1 cause)).raise 121 0x0A25 [3#8]).recJudge

/-- Recovery mode is entered (R437): `cause` 1 firmware, 2 contact. -/
def Mod.enterRecovery (m : Mod) (cause : Nat) : Mod :=
  (({ m with bist := { m.bist with phase := .recovery, recovery := true } }).raise 121 0x0A25 (leBytes 1 cause)).recJudge

/-- The erasures due at core test 3 (R441, R442): an interrupted one first, then that for the test access port, which opens. -/
def Mod.startErase (m : Mod) : Mod :=
  if !m.nv.dome.pending then m
  else
    let m1 := if m.bist.erasePend then
        let x := m.eraseSecrets m.nv.dome.pendCause
        x.raise 123 0x0A55 (leBytes 4 x.nv.dome.eraseCount) else m
    if m.bist.tapHeld then
      let x := m1.eraseSecrets 1
      ({ x with bist := { x.bist with tapOpen := true } }).raise 123 0x0A50 (leBytes 4 x.nv.dome.eraseCount)
    else m1

/-- The running firmware's VERSION and ROLLBACK (R427). -/
def Mod.noteFirmware (m : Mod) : Mod :=
  let img := (m.region 0).img
  { m with bist := { m.bist with fwVersion := leAt img 0x14 4, fwRollback := leAt img 0x18 4 } }

/-- The core tests have ended (R408, R411, R412, R428, R437): `safe` is the cause of SAFE, or none. Supervisory MRAM that failed test 0 is
neither restored nor written. -/
def Mod.coreDone (m : Mod) (safe : Option Nat) : Mod :=
  if safe = some 1 then (m.wr P.bistSafeCause 1).setPhase .safe
  else
    let r := m.restoreMram
    let m1 : Mod := { r.1 with nv := { r.1.nv with cause := 0 }, bist := { r.1.bist with retryAt := none } }
    match safe, r.2 with
    | some c, _ => m1.enterSafe c
    | none, false => m1.enterSafe 8
    | none, true =>
      if !m1.firmwareOk then m1.enterRecovery 1
      else if m1.bist.recHeld then m1.enterRecovery 2
      else m1.noteFirmware.setPhase .tests

/-- Core tests report (R410 to R412): a failure ends them in SAFE, a test not run waits for its retry. -/
def Mod.coreTests (m : Mod) (res : List TestRes) : Mod :=
  let m0 := m.testReports res [0, 1, 2, 3, 4]
  let m1 := if m0.testResult 3 = 2 then m0 else m0.startErase
  match (List.range 5).find? (fun n => m1.testResult n = 1) with
  | some n => m1.coreDone (some (n + 1))
  | none =>
    if (List.range 5).any (fun n => m1.testResult n = 2) then { m1 with bist := { m1.bist with retryAt := some m1.now } }
    else m1.coreDone none

/-- CORE_TESTS_COMPLETE (R408, R411): core tests 0 to 4 report. -/
def coreTestsComplete (res : List TestRes) (m : Mod) : Mod :=
  if m.bist.phase = .core && m.toll.logicUp && m.bist.retryAt.isNone then m.coreTests res else m

/-- CORE_TEST_RETRY (R410): the core tests that were not run report again, 100 ms later. -/
def coreTestRetry (res : List TestRes) (m : Mod) : Mod :=
  match m.bist.retryAt with
  | some t =>
    if m.bist.phase = .core && t + 100000000 ≤ m.now then m.coreTests (res.filter (fun r => m.testResult r.test = 2)) else m
  | none => m

/-- CORE_TEST_NOT_RUN_TIMEOUT (R410): 5 s after the start condition a core test has still not run. -/
def coreTestNotRunTimeout (m : Mod) : Mod :=
  if m.bist.phase = .core && m.bist.retryAt.isSome && 5000000000 ≤ m.now then m.coreDone (some 7) else m

/-! ### The cell test and the tests beside it (R411, R122, R123) -/

/-- The towers after the cell test: usable cells, towers in service, logical towers (R122, R123). -/
def testedTowers (badCells badTowers : List Nat) : List Tower :=
  let bad := fun (t : Nat) => (badCells.filter (fun c => c / 64 = t)).eraseDups
  let ok := fun (t : Nat) => !badTowers.contains t && (bad t).length ≤ 4
  (List.range 16).map (fun t =>
    { ok := ok t, cells := 2 ^ 64 - 1 - sumOf ((bad t).map (fun c => 2 ^ (c % 64))),
      bound := if ok t then ((List.range 64).filter (fun c => !(bad t).contains (64 * t + c))).take 60 else [],
      logical := if ok t then some ((List.range t).filter ok).length else none })

/-- The units that tests 7, 8 and 12 to 15 report as failed are unusable (R411). Test 14 counts analogue inputs from 0, encoders from 32 and
frequency inputs from 40. -/
def Mod.markUnits (m : Mod) (res : List TestRes) : Mod :=
  let m1 := (failedOf res 7).foldl (fun m p => m.setPort p (fun c => { c with unusable := true })) m
  let m2 := (failedOf res 8).foldl (fun m n => m.setPanel n (fun c => { c with unusable := true })) m1
  let m3 := (failedOf res 12).foldl (fun m ch => m.setCan ch (fun c => { c with unusable := true })) m2
  let l := m3.loop
  let bad := failedOf res 14
  { m3 with net := { m3.net with ethBad := failedOf res 13 },
            loop := { l with ain := l.ain.zipIdx.map (fun (a, k) => { a with unusable := bad.contains k }),
                             enc := l.enc.zipIdx.map (fun (a, k) => { a with unusable := bad.contains (32 + k) }),
                             frq := l.frq.zipIdx.map (fun (a, k) => { a with unusable := bad.contains (40 + k) }) },
            bist := { m3.bist with gnssBad := m3.isG && failedOf res 15 ≠ [] } }

/-- CELL_TEST_COMPLETE (R408, R410, R411): tests 6 to 8 and 12 to 15 report, with the cells and towers that failed: every one, where test 6
was not run for its clock. -/
def cellTestComplete (res : List TestRes) (badCells badTowers : List Nat) (m : Mod) : Mod :=
  if m.bist.phase = .tests then
    let res1 := if m.isG then res else res.filter (fun r => r.test ≠ 15)
    let m1 := (m.testReports res1 [6, 7, 8, 12, 13, 14, 15]).markUnits res1
    let none6 := res1.any (fun r => r.test = 6 && r.result = 2)
    let m2 : Mod := { m1 with cell := { m1.cell with
      towers := testedTowers (if none6 then List.range 1024 else badCells) (if none6 then List.range 16 else badTowers) } }
    m2.setPhase .checks
  else m

/-! ### The road book (R32, R33) -/

/-- ROADBOOK_INVALID is entered (R32, R33, R428). -/
def Mod.invalid (m : Mod) (code off : Nat) : Mod := (m.rbFail code off).fwReached.recJudge

/-- ROADBOOK_CHECKS_COMPLETE (R32): checks 1 to 13 end. `flashErr` is the offset of a flash read that could not be repaired. -/
def roadbookChecksComplete (flashErr : Option Nat) (m : Mod) : Mod :=
  if m.bist.phase = .checks then
    match checkRoadBook m flashErr with
    | .error (code, off) => m.invalid code off
    | .ok rb => ({ m with sys := { m.sys with parsed := some rb } }).setPhase .memory
  else m

/-- A MODEL record authenticates under the model key (R40). -/
def modelOk (key : List Byte) (rbId : Nat) (d : Model) : Bool :=
  (Config.aesGcmOpen key d.nonce (leBytes 8 rbId ++ leBytes 2 d.id ++ leBytes 1 d.kind ++ leBytes 4 d.len) d.ct d.tag).isSome

/-- The plaintext of a MODEL record, as the dome writes it into main memory (R40, R440). -/
def modelPlain (key : List Byte) (rbId : Nat) (d : Model) : List Byte :=
  (Config.aesGcmOpen key d.nonce (leBytes 8 rbId ++ leBytes 2 d.id ++ leBytes 1 d.kind ++ leBytes 4 d.len) d.ct d.tag).getD []

/-- Check 14 decrypts the MODEL records in their order, up to one that does not authenticate (R32, R440). -/
def Mod.loadModels (m : Mod) (rb : RoadBook) : Mod :=
  match m.bist.actModel with
  | none => m
  | some key =>
    { m with cell := { m.cell with
      models := (rb.models.takeWhile (modelOk key rb.id)).map (fun d => (d.id, d.kind, modelPlain key rb.id d)) } }

/-- Checks 14 and 15 (R32, R123): the reason code and offset of the one that fails. -/
def Mod.lastChecks (m : Mod) (rb : RoadBook) : Option (Nat × Nat) :=
  let k := m.towersOk.length
  match m.bist.actModel with
  | none => some (0x09, 0)
  | some key =>
    match rb.models.find? (fun d => !modelOk key rb.id d) with
    | some d => some (0x0A, d.ofs)
    | none =>
      let allow := (rb.baseWord P.sysAllow.base).toNat
      if (k < 16 && !allow.testBit 0) || k < (rb.baseWord P.cellMinTowers.base).toNat then some (0x0B, 0) else none

/-- Logical tower `j` runs a per-pixel or per-grid stage of some port with `k` towers in service (R80, R110, R122, R135, R136). -/
def runsStage (k j : Nat) : Bool := (List.range 8).any (fun p => (List.range 3).any (fun s => Config.stageTower p s % k = j))

/-- Boot placement (R34, R110, R122): the placement for the towers in service is loaded, with its marks; a tower that runs a stage carries
decision-path work, and is never gated. -/
def Mod.place (m : Mod) : Mod :=
  let k := m.towersOk.length
  let mark := fun (w : Tower) => { w with never := w.logical.any (fun j => Config.neverGated k j || runsStage k j) }
  ({ m with cell := { m.cell with towers := m.cell.towers.map mark } }).wr P.cellPlaceTowers k

/-- In PAIRED each tower that the placement gives job copies lends its ledger, from start to the next start (R454). -/
def Mod.lend (m : Mod) : Mod := { m with perf := { m.perf with lent := if m.paired then maskOf m.jobHosts else 0 } }

/-- The start's own part of applying a road book (R27, R34, R253, R347, R398, R401). -/
def Mod.applied (m : Mod) (rb : RoadBook) : Mod :=
  let m0 := m.setWords (m.nv.net.map (fun e => (e.1, dfltAt e.1)))
  let m1 := m0.applyRoadBook rb m0.committed
  let m2 := (m1.wr P.sysRateCap (m1.rateCap m1.towersOk.length)).canStart
  let m3 : Mod := { m2 with toll := { m2.toll with cap := m2.logicCap }, log := { m2.log with toks := m2.tokensDue } }
  (m3.log.buckets.foldl (fun m b => m.setBucket { b with tokens := Nat.min b.tokens (m.rd P.logBurst) }) m3).place.lend.recJudge

/-- MAIN_MEMORY_TEST_COMPLETE (R32, R34, R408, R411): test 5 reports with its failing lines as channel and line; checks 14 and 15 follow, and
the road book is applied. -/
def mainMemoryTestComplete (res : TestRes) (badLines : List (Nat × Nat)) (flashErr : Option Nat) (m : Mod) : Mod :=
  if m.bist.phase = .memory then
    let m1 := m.testReports [res] [5]
    if res.result = 2 || (List.range 4).any (fun ch => 4096 < (badLines.filter (fun l => l.1 = ch)).length) then m1.enterSafe 6
    else
      let m2 : Mod := { m1 with bist := { m1.bist with retired := badLines } }
      match m2.sys.parsed, flashErr with
      | none, _ => m2
      | some _, some off => m2.invalid 0x12 off
      | some rb, none =>
        let m3 := m2.loadModels rb
        match m3.lastChecks rb with
        | some (code, off) => ({ m3 with sys := { m3.sys with parsed := none } }).invalid code off
        | none => (m3.applied rb).setPhase .outputs
  else m

/-! ### The output tests (R410, R411) -/

/-- What test 9 leaves: banks in service, lost banks, unusable channels, channels latched for an open coil. Channels count from 0, banks from 384. -/
def Mod.valveTested (m : Mod) (deferred : Bool) (bad opens : List Nat) : Mod :=
  let m1 := opens.foldl (fun m c => m.setVch c (fun v => { v with latched := true, fault := 1 })) m
  { m1 with vlv := { m1.vlv with
      bankOk := (List.range 24).map (fun b => !deferred && !bad.contains (384 + b)),
      bankLost := (List.range 24).map (fun b => bad.contains (384 + b)),
      ch := m1.vlv.ch.zipIdx.map (fun (v, c) => { v with unusable := deferred || bad.contains c }) } }

/-- What test 10 leaves. -/
def Mod.pvTested (m : Mod) (deferred : Bool) (bad : List Nat) : Mod :=
  { m with vlv := { m.vlv with pv := m.vlv.pv.zipIdx.map (fun (c, p) => { c with unusable := deferred || bad.contains p }) } }

/-- What test 11 leaves. -/
def Mod.lswTested (m : Mod) (deferred : Bool) (bad : List Nat) : Mod :=
  { m with lsw := { m.lsw with ch := m.lsw.ch.zipIdx.map (fun (c, k) => { c with unusable := deferred || bad.contains k }) } }

/-- What an output test leaves (R410, R411). -/
def Mod.outputTested (m : Mod) (r : TestRes) (opens : List Nat) : Mod :=
  let d := r.result = 3
  match r.test with
  | 9 => m.valveTested d (failedUnits r) opens
  | 10 => m.pvTested d (failedUnits r)
  | 11 => m.lswTested d (failedUnits r)
  | _ => m

/-- The load switches that the road book commands on ask for it (R258). -/
def Mod.lswBegin (m : Mod) : Mod :=
  (List.range 24).foldl (fun m k =>
    let c := m.lswCh k
    if m.rd P.lswOn k = 1 && !c.wait && c.retryAt.isNone && !c.uvOff && !c.ovOff then m.lswRequest k false else m) m

/-- The tests of a start that have a result (R411). -/
def Mod.tests (m : Mod) : List Nat := if m.isG then List.range 16 else List.range 15

/-- Start self-test ends (R424): its counts, and BIST_COVERAGE, whose weights are open. -/
def Mod.selfTestEnd (m : Mod) : Mod :=
  let n := fun (p : Nat → Bool) => leBytes 1 (m.tests.filter (fun t => p (m.testResult t))).length
  let r := m.draw
  (r.2.wr P.bistCoverage ((r.1 % 10001).toNat)).raise 124 0x0A60 (n (fun x => x = 0) ++ n (fun x => x = 1) ++ n (fun x => 2 ≤ x))

/-- OUTPUT_TESTS_COMPLETE (R408, R410, R411): tests 9 to 11 report, `opens` being the channels whose coil was found open; templates, panels
and GNSS start, and the coils' temperatures begin from the board's. -/
def outputTestsComplete (res : List TestRes) (opens : List Nat) (board : Int) (m : Mod) : Mod :=
  if m.bist.phase = .outputs then
    let out := res.filter (fun r => 9 ≤ r.test && r.test ≤ 11)
    let m1 := out.foldl (fun m r => m.outputTested r opens) (((m.testReports out [9, 10, 11]).valveTested false [] []))
    let m2 : Mod := { m1 with bist := { m1.bist with deferred := (out.filter (fun r => r.result = 3)).map (·.test) } }
    let m3 := (List.range 8).foldl Mod.tplStart (m2.coilStart board)
    (m3.panelsStart.gnssStart.selfTestEnd).setPhase .ready
  else m

/-- The first multiple of 1,000 at or after an instant (R409). -/
def epochAt (now : Nat) : Nat := (now + 999) / 1000 * 1000

/-- ENTER_RUNNING (R77, R409), once the templates of the start have been sent. -/
def enterRunning (m : Mod) : Mod :=
  if m.bist.phase = .ready && m.cams.all (fun c => c.tplQ.isEmpty) then
    let m1 : Mod := { m with
      bist := { m.bist with phase := .running, e0 := epochAt m.now, msIdx := 0 },
      trk := { m.trk with rateFrom := m.now }, cell := { m.cell with scrubNext := m.now + m.scrubEvery },
      cams := m.cams.map (fun c => if c.inService then c else { c with outSince := some m.now }) }
    (((m1.wr P.bistStartMs (Nat.min 65535 (m.now / 1000000))).fusionStart.tallyOpen m.sys.recipe).fwReached).lswBegin
  else m

/-- Every sample of the supplies of an output test has lain in its range for 1 s (R410): of VALVE_HI and VALVE_LO 1,000,000, each 1 µs, of
LOAD_A and LOAD_B 100,000, each 10 µs. -/
def Mod.supplyHeld (m : Mod) (test : Nat) : Bool :=
  (if test = 9 then [0, 1, 2] else [4, 5]).all (fun c => (if c < 4 then 1000000 else 100000) ≤ m.toll.within.getD c 0)

/-- DEFERRED_TEST_RUN (R410): a deferred output test has run; its outputs enter service, or are marked as failed. -/
def deferredTestRun (r : TestRes) (opens : List Nat) (m : Mod) : Mod :=
  if m.driving && m.supplyHeld r.test && m.bist.deferred.contains r.test && r.result ≠ 3 then
    let m1 := ((m.testReport r).outputTested r opens).raise 124 0x0A63 (leBytes 1 r.test ++ leBytes 1 r.result)
    ({ m1 with bist := { m1.bist with deferred := m1.bist.deferred.filter (fun t => t ≠ r.test) } }).lswBegin
  else m

/-! ### Contacts and temperature -/

/-- TAP_EN_IGNORED (R441): TAP_EN rises outside the start condition. -/
def tapEnIgnored (m : Mod) : Mod := if m.bist.phase = .off then m else (m.flag P.secFlags 4).raise 123 0x0A54 (leBytes 1 m.bist.phase.code)

/-- BOARD_THERMAL_TRIP (R466): at 110.0 °C LOGIC_IN is disconnected, and what follows is a dropout (R241). -/
def boardThermalTrip (board : Int) (m : Mod) : Mod :=
  if board < 1100 || m.bist.phase = .off then m
  else
    let m1 : Mod := { m.wrI P.vlvTBoard board with nv := { m.nv with tripped := true } }
    if m1.placed then logicDropout 0 m1 else m1.fresh m1.nv.cause

/-! ### The commands as the queue gives them -/

/-- START_CONDITION (R408). -/
def execStartCondition (t mv : Nat) (board : Int) (tapEn recovery : Bool) (s : State) : Host.Outcome State Fault Refusal :=
  s.run t (startCondition mv board tapEn recovery)

/-- START_SUPPLY_DIP (R408). -/
def execStartSupplyDip (t mv : Nat) (s : State) : Host.Outcome State Fault Refusal := s.run t (startSupplyDip mv)

/-- CORE_TESTS_COMPLETE (R411). -/
def execCoreTestsComplete (t : Nat) (res : List TestRes) (s : State) : Host.Outcome State Fault Refusal := s.run t (coreTestsComplete res)

/-- CORE_TEST_RETRY (R410). -/
def execCoreTestRetry (t : Nat) (res : List TestRes) (s : State) : Host.Outcome State Fault Refusal := s.run t (coreTestRetry res)

/-- CORE_TEST_NOT_RUN_TIMEOUT (R410). -/
def execCoreTestNotRunTimeout (t : Nat) (s : State) : Host.Outcome State Fault Refusal := s.run t coreTestNotRunTimeout

/-- CELL_TEST_COMPLETE (R411). -/
def execCellTestComplete (t : Nat) (res : List TestRes) (badCells badTowers : List Nat) (s : State) : Host.Outcome State Fault Refusal :=
  s.run t (cellTestComplete res badCells badTowers)

/-- ROADBOOK_CHECKS_COMPLETE (R32). -/
def execRoadbookChecksComplete (t : Nat) (flashErr : Option Nat) (s : State) : Host.Outcome State Fault Refusal :=
  s.run t (roadbookChecksComplete flashErr)

/-- MAIN_MEMORY_TEST_COMPLETE (R411). -/
def execMainMemoryTestComplete (t : Nat) (res : TestRes) (badLines : List (Nat × Nat)) (flashErr : Option Nat) (s : State) : Host.Outcome State Fault Refusal :=
  s.run t (mainMemoryTestComplete res badLines flashErr)

/-- OUTPUT_TESTS_COMPLETE (R411). -/
def execOutputTestsComplete (t : Nat) (res : List TestRes) (opens : List Nat) (board : Int) (s : State) : Host.Outcome State Fault Refusal :=
  s.run t (outputTestsComplete res opens board)

/-- ENTER_RUNNING (R409). -/
def execEnterRunning (t : Nat) (s : State) : Host.Outcome State Fault Refusal := s.run t enterRunning

/-- DEFERRED_TEST_RUN (R410). -/
def execDeferredTestRun (t : Nat) (r : TestRes) (opens : List Nat) (s : State) : Host.Outcome State Fault Refusal :=
  s.run t (deferredTestRun r opens)

/-- TAP_EN_IGNORED (R441). -/
def execTapEnIgnored (t : Nat) (s : State) : Host.Outcome State Fault Refusal := s.run t tapEnIgnored

/-- BOARD_THERMAL_TRIP (R466). -/
def execBoardThermalTrip (t : Nat) (board : Int) (s : State) : Host.Outcome State Fault Refusal := s.run t (boardThermalTrip board)

end Sys2Proof.Machine
end

