-- ==== Sys2Proof/Machine/Dispatch.lean ====
section
/-!
DEFINITION. Machine/Dispatch.lean: one arm per command, each one call of its meaning.
-/
namespace Sys2Proof.Machine

/-- The effect of a command on everything but the queue. -/
def exec (i : Instr) (s : State) : Host.Outcome State Fault Refusal :=
  match i with
  | .startCondition t mv board tapEn recovery => Sys2Proof.Machine.execStartCondition t mv board tapEn recovery s
  | .startSupplyDip t mv => Sys2Proof.Machine.execStartSupplyDip t mv s
  | .coreTestsComplete t res => Sys2Proof.Machine.execCoreTestsComplete t res s
  | .coreTestRetry t res => Sys2Proof.Machine.execCoreTestRetry t res s
  | .coreTestNotRunTimeout t => Sys2Proof.Machine.execCoreTestNotRunTimeout t s
  | .cellTestComplete t res badCells badTowers => Sys2Proof.Machine.execCellTestComplete t res badCells badTowers s
  | .roadbookChecksComplete t flashErr => Sys2Proof.Machine.execRoadbookChecksComplete t flashErr s
  | .mainMemoryTestComplete t res badLines flashErr => Sys2Proof.Machine.execMainMemoryTestComplete t res badLines flashErr s
  | .outputTestsComplete t res opens board => Sys2Proof.Machine.execOutputTestsComplete t res opens board s
  | .enterRunning t => Sys2Proof.Machine.execEnterRunning t s
  | .deferredTestRun t r opens => Sys2Proof.Machine.execDeferredTestRun t r opens s
  | .tapEnIgnored t => Sys2Proof.Machine.execTapEnIgnored t s
  | .milestone t counts => Sys2Proof.Machine.execMilestone t counts s
  | .milestoneWriteFailed t => Sys2Proof.Machine.execMilestoneWriteFailed t s
  | .supervisoryWatchdog t => Sys2Proof.Machine.execSupervisoryWatchdog t s
  | .deepTest t role slot v cut => Sys2Proof.Machine.execDeepTest t role slot v cut s
  | .deepTestComplete t result coverage duration => Sys2Proof.Machine.execDeepTestComplete t result coverage duration s
  | .boardThermalTrip t board => Sys2Proof.Machine.execBoardThermalTrip t board s
  | .recipeSelect t q => Sys2Proof.Machine.execRecipeSelect t q s
  | .recipeEffective t => Sys2Proof.Machine.execRecipeEffective t s
  | .dialSet t g => Sys2Proof.Machine.execDialSet t g s
  | .calWrite t g => Sys2Proof.Machine.execCalWrite t g s
  | .caluGroupCommit t counts => Sys2Proof.Machine.execCaluGroupCommit t counts s
  | .calRead t g => Sys2Proof.Machine.execCalRead t g s
  | .registerWrite t q counts => Sys2Proof.Machine.execRegisterWrite t q counts s
  | .read t g => Sys2Proof.Machine.execRead t g s
  | .sysDecLatClr t role v => Sys2Proof.Machine.execSysDecLatClr t role v s
  | .cellClr t role v => Sys2Proof.Machine.execCellClr t role v s
  | .trkClr t role v => Sys2Proof.Machine.execTrkClr t role v s
  | .ejClr t role v => Sys2Proof.Machine.execEjClr t role v s
  | .tollClr t role v => Sys2Proof.Machine.execTollClr t role v s
  | .evcClr t role v => Sys2Proof.Machine.execEvcClr t role v s
  | .expPulse t p => Sys2Proof.Machine.execExpPulse t p s
  | .frameStart t p clk => Sys2Proof.Machine.execFrameStart t p clk s
  | .cameraLine t p stamp samples ovr => Sys2Proof.Machine.execCameraLine t p stamp samples ovr s
  | .frameEnd t p => Sys2Proof.Machine.execFrameEnd t p s
  | .statsPublish t p => Sys2Proof.Machine.execStatsPublish t p s
  | .templateSent t p => Sys2Proof.Machine.execTemplateSent t p s
  | .templateReply t p bytes => Sys2Proof.Machine.execTemplateReply t p bytes s
  | .templateReplyTimeout t p => Sys2Proof.Machine.execTemplateReplyTimeout t p s
  | .portClockLoss t p => Sys2Proof.Machine.execPortClockLoss t p s
  | .colourReconstruction t p lost reads => Sys2Proof.Machine.execColourReconstruction t p lost reads s
  | .resampleLine t p lost reads => Sys2Proof.Machine.execResampleLine t p lost reads s
  | .featureRow t p vecs lost runs reads => Sys2Proof.Machine.execFeatureRow t p vecs lost runs reads s
  | .observationClose t p => Sys2Proof.Machine.execObservationClose t p s
  | .panelRegionWritten t n r => Sys2Proof.Machine.execPanelRegionWritten t n r s
  | .panelStatusFrame t n words => Sys2Proof.Machine.execPanelStatusFrame t n words s
  | .panelLinkDown t n => Sys2Proof.Machine.execPanelLinkDown t n s
  | .panelLinkRetry t n up => Sys2Proof.Machine.execPanelLinkRetry t n up s
  | .panelSelection t n => Sys2Proof.Machine.execPanelSelection t n s
  | .panelLoadBoundary t n => Sys2Proof.Machine.execPanelLoadBoundary t n s
  | .panelEnableEdge t n rise => Sys2Proof.Machine.execPanelEnableEdge t n rise s
  | .pieceLatestStart t serial => Sys2Proof.Machine.execPieceLatestStart t serial s
  | .pieceJobComplete t serial copies reads => Sys2Proof.Machine.execPieceJobComplete t serial copies reads s
  | .jobAbort t serial copies => Sys2Proof.Machine.execJobAbort t serial copies s
  | .revisionJobComplete t serial copies reads => Sys2Proof.Machine.execRevisionJobComplete t serial copies reads s
  | .cellFailure t tower cell cause => Sys2Proof.Machine.execCellFailure t tower cell cause s
  | .towerWarmRestartComplete t tower ok cell reads => Sys2Proof.Machine.execTowerWarmRestartComplete t tower ok cell reads s
  | .sramScrub t reads => Sys2Proof.Machine.execSramScrub t reads s
  | .memoryScrubBurst t reads => Sys2Proof.Machine.execMemoryScrubBurst t reads s
  | .towerGate t tower => Sys2Proof.Machine.execTowerGate t tower s
  | .towerResume t tower => Sys2Proof.Machine.execTowerResume t tower s
  | .motionUpdate t serial => Sys2Proof.Machine.execMotionUpdate t serial s
  | .laneBlockWarm t b => Sys2Proof.Machine.execLaneBlockWarm t b s
  | .laneBlockStale t b => Sys2Proof.Machine.execLaneBlockStale t b s
  | .fusMotionReset t role v => Sys2Proof.Machine.execFusMotionReset t role v s
  | .fusSuspectClr t role v => Sys2Proof.Machine.execFusSuspectClr t role v s
  | .observationDue t serial port => Sys2Proof.Machine.execObservationDue t serial port s
  | .sensorAbsent t p => Sys2Proof.Machine.execSensorAbsent t p s
  | .suspectReminder t => Sys2Proof.Machine.execSuspectReminder t s
  | .assocWindowClose t => Sys2Proof.Machine.execAssocWindowClose t s
  | .assocWindowResult t => Sys2Proof.Machine.execAssocWindowResult t s
  | .provisionalCommitPass t serial => Sys2Proof.Machine.execProvisionalCommitPass t serial s
  | .commitPoint t serial => Sys2Proof.Machine.execCommitPoint t serial s
  | .trackClose t serial => Sys2Proof.Machine.execTrackClose t serial s
  | .trkLot t role v => Sys2Proof.Machine.execTrkLot t role v s
  | .tallyLoopPublish t => Sys2Proof.Machine.execTallyLoopPublish t s
  | .pulseFirm t serial ch => Sys2Proof.Machine.execPulseFirm t serial ch s
  | .holdStartInstant t serial ch => Sys2Proof.Machine.execHoldStartInstant t serial ch s
  | .pulseStart t serial ch refused rail last => Sys2Proof.Machine.execPulseStart t serial ch refused rail last s
  | .pulseLatestStart t serial ch => Sys2Proof.Machine.execPulseLatestStart t serial ch s
  | .pulseRelease t ch => Sys2Proof.Machine.execPulseRelease t ch s
  | .lowSideOpen t ch last => Sys2Proof.Machine.execLowSideOpen t ch last s
  | .boostEnd t ch code => Sys2Proof.Machine.execBoostEnd t ch code s
  | .hsRiseEnd t ch code => Sys2Proof.Machine.execHsRiseEnd t ch code s
  | .decayEnd t ch code => Sys2Proof.Machine.execDecayEnd t ch code s
  | .arrivalDetected t ch smp => Sys2Proof.Machine.execArrivalDetected t ch smp s
  | .coilTempUpdate t board codes => Sys2Proof.Machine.execCoilTempUpdate t board codes s
  | .openCoil t ch code => Sys2Proof.Machine.execOpenCoil t ch code s
  | .shortOvercurrent t ch code last => Sys2Proof.Machine.execShortOvercurrent t ch code last s
  | .lowSideStuckOn t ch smp lasts => Sys2Proof.Machine.execLowSideStuckOn t ch smp lasts s
  | .bankStageFault t b smp lasts => Sys2Proof.Machine.execBankStageFault t b smp lasts s
  | .vlvChClr t role v => Sys2Proof.Machine.execVlvChClr t role v s
  | .pvPwmPeriod t p raw duty => Sys2Proof.Machine.execPvPwmPeriod t p raw duty s
  | .pvOpenLoad t p raw => Sys2Proof.Machine.execPvOpenLoad t p raw s
  | .pvShort t p raw => Sys2Proof.Machine.execPvShort t p raw s
  | .pvRetry t p => Sys2Proof.Machine.execPvRetry t p s
  | .pvOvertemp t p raw temp => Sys2Proof.Machine.execPvOvertemp t p raw temp s
  | .vlvPClr t role p v => Sys2Proof.Machine.execVlvPClr t role p v s
  | .logicDropout t mv => Sys2Proof.Machine.execLogicDropout t mv s
  | .coldCrank t begins mv => Sys2Proof.Machine.execColdCrank t begins mv s
  | .logicOvervoltage t mv => Sys2Proof.Machine.execLogicOvervoltage t mv s
  | .holdupRestore t mv => Sys2Proof.Machine.execHoldupRestore t mv s
  | .powerFail t => Sys2Proof.Machine.execPowerFail t s
  | .supplyConditionSet t cond => Sys2Proof.Machine.execSupplyConditionSet t cond s
  | .supplyConditionClear t cond => Sys2Proof.Machine.execSupplyConditionClear t cond s
  | .tollTick t sup drawn => Sys2Proof.Machine.execTollTick t sup drawn s
  | .rechargeCheck t => Sys2Proof.Machine.execRechargeCheck t s
  | .logicPowerCheck t mw => Sys2Proof.Machine.execLogicPowerCheck t mw s
  | .inrushWindowEnd t k => Sys2Proof.Machine.execInrushWindowEnd t k s
  | .lswPwmPeriod t k => Sys2Proof.Machine.execLswPwmPeriod t k s
  | .lswHardShort t k raw => Sys2Proof.Machine.execLswHardShort t k raw s
  | .lswOvercurrentTrip t k => Sys2Proof.Machine.execLswOvercurrentTrip t k s
  | .lswThermalLatch t k temp raw => Sys2Proof.Machine.execLswThermalLatch t k temp raw s
  | .lswThermalClear t k temp => Sys2Proof.Machine.execLswThermalClear t k temp s
  | .lswRetryDue t k => Sys2Proof.Machine.execLswRetryDue t k s
  | .lswRetryReset t k => Sys2Proof.Machine.execLswRetryReset t k s
  | .lswClr t role v => Sys2Proof.Machine.execLswClr t role v s
  | .lswUvSwitchOff t inp mv => Sys2Proof.Machine.execLswUvSwitchOff t inp mv s
  | .lswUvRestore t inp => Sys2Proof.Machine.execLswUvRestore t inp s
  | .lswOvRestore t inp => Sys2Proof.Machine.execLswOvRestore t inp s
  | .lswOpenLoad t k => Sys2Proof.Machine.execLswOpenLoad t k s
  | .loopTick t => Sys2Proof.Machine.execLoopTick t s
  | .traceArm t role n => Sys2Proof.Machine.execTraceArm t role n s
  | .traceTrigger t role n => Sys2Proof.Machine.execTraceTrigger t role n s
  | .traceStop t role n => Sys2Proof.Machine.execTraceStop t role n s
  | .ainWindow t n samples => Sys2Proof.Machine.execAinWindow t n samples s
  | .ainOverrange t n ua => Sys2Proof.Machine.execAinOverrange t n ua s
  | .ainShuntReclose t n => Sys2Proof.Machine.execAinShuntReclose t n s
  | .ainLowCurrent t n ua => Sys2Proof.Machine.execAinLowCurrent t n ua s
  | .ainFaultClear t n => Sys2Proof.Machine.execAinFaultClear t n s
  | .ainPiezoHit t n low v => Sys2Proof.Machine.execAinPiezoHit t n low v s
  | .ainHitRate t n => Sys2Proof.Machine.execAinHitRate t n s
  | .encoderEdge t e a b ns => Sys2Proof.Machine.execEncoderEdge t e a b ns s
  | .encoderIndex t e ns => Sys2Proof.Machine.execEncoderIndex t e ns s
  | .freqEdge t f ns => Sys2Proof.Machine.execFreqEdge t f ns s
  | .antennaOpen t ma => Sys2Proof.Machine.execAntennaOpen t ma s
  | .antennaShort t ma => Sys2Proof.Machine.execAntennaShort t ma s
  | .antennaRetry t => Sys2Proof.Machine.execAntennaRetry t s
  | .antennaNormal t ma => Sys2Proof.Machine.execAntennaNormal t ma s
  | .gnssAcqRequest t => Sys2Proof.Machine.execGnssAcqRequest t s
  | .gnssAcqEnd t all => Sys2Proof.Machine.execGnssAcqEnd t all s
  | .gnssSidePeak t c ve p vl => Sys2Proof.Machine.execGnssSidePeak t c ve p vl s
  | .gnssEpoch t g => Sys2Proof.Machine.execGnssEpoch t g s
  | .gnssExclusionExpire t sys prn => Sys2Proof.Machine.execGnssExclusionExpire t sys prn s
  | .gnssDiffStale t => Sys2Proof.Machine.execGnssDiffStale t s
  | .gnssAccept t role v => Sys2Proof.Machine.execGnssAccept t role v s
  | .gnssCold t role v => Sys2Proof.Machine.execGnssCold t role v s
  | .gnssBurstStart t => Sys2Proof.Machine.execGnssBurstStart t s
  | .gnssBurstEnd t g => Sys2Proof.Machine.execGnssBurstEnd t g s
  | .gnssLoss t => Sys2Proof.Machine.execGnssLoss t s
  | .correction t g => Sys2Proof.Machine.execCorrection t g s
  | .rawCounterWrap t => Sys2Proof.Machine.execRawCounterWrap t s
  | .timeEpsUpdate t => Sys2Proof.Machine.execTimeEpsUpdate t s
  | .timeSlewUpdate t => Sys2Proof.Machine.execTimeSlewUpdate t s
  | .timeSet t => Sys2Proof.Machine.execTimeSet t s
  | .timeStep t => Sys2Proof.Machine.execTimeStep t s
  | .timeHoldEnd t => Sys2Proof.Machine.execTimeHoldEnd t s
  | .ptpEventMessage t n g => Sys2Proof.Machine.execPtpEventMessage t n g s
  | .ptpMessageTimer t n kind egress => Sys2Proof.Machine.execPtpMessageTimer t n kind egress s
  | .ptpAnnounceTimeout t n => Sys2Proof.Machine.execPtpAnnounceTimeout t n s
  | .ppsEdge t => Sys2Proof.Machine.execPpsEdge t s
  | .ppsPulseEnd t => Sys2Proof.Machine.execPpsPulseEnd t s
  | .timeOutArm t role n v => Sys2Proof.Machine.execTimeOutArm t role n v s
  | .timeOutEdge t n => Sys2Proof.Machine.execTimeOutEdge t n s
  | .timeOutPulseEnd t n => Sys2Proof.Machine.execTimeOutPulseEnd t n s
  | .captureEdge t n rising => Sys2Proof.Machine.execCaptureEdge t n rising s
  | .canFrameReceived t ch sof f => Sys2Proof.Machine.execCanFrameReceived t ch sof f s
  | .canRingService t ch n hold counts => Sys2Proof.Machine.execCanRingService t ch n hold counts s
  | .canFrameTransmitted t ch sof tdc => Sys2Proof.Machine.execCanFrameTransmitted t ch sof tdc s
  | .canError t ch kind tdc => Sys2Proof.Machine.execCanError t ch kind tdc s
  | .canTxTimeout t ch busy => Sys2Proof.Machine.execCanTxTimeout t ch busy s
  | .canBusoffRecovered t ch => Sys2Proof.Machine.execCanBusoffRecovered t ch s
  | .isoClaimSend t ch => Sys2Proof.Machine.execIsoClaimSend t ch s
  | .isoAddressHeld t ch => Sys2Proof.Machine.execIsoAddressHeld t ch s
  | .canReassemblyTimeout t ch peer tag => Sys2Proof.Machine.execCanReassemblyTimeout t ch peer tag s
  | .ethLinkChange t port speed => Sys2Proof.Machine.execEthLinkChange t port speed s
  | .arpRequest t port ip sha spa => Sys2Proof.Machine.execArpRequest t port ip sha spa s
  | .icmpEcho t port ip smac sip pl => Sys2Proof.Machine.execIcmpEcho t port ip smac sip pl s
  | .hello t g => Sys2Proof.Machine.execHello t g s
  | .auth t g => Sys2Proof.Machine.execAuth t g s
  | .authTimeout t sess => Sys2Proof.Machine.execAuthTimeout t sess s
  | .authLockoutEnd t tr addr => Sys2Proof.Machine.execAuthLockoutEnd t tr addr s
  | .bye t g => Sys2Proof.Machine.execBye t g s
  | .sessionIdleTimeout t sess => Sys2Proof.Machine.execSessionIdleTimeout t sess s
  | .ping t g => Sys2Proof.Machine.execPing t g s
  | .tallyRead t g => Sys2Proof.Machine.execTallyRead t g s
  | .mapRead t g => Sys2Proof.Machine.execMapRead t g s
  | .eventSubscribe t g => Sys2Proof.Machine.execEventSubscribe t g s
  | .streamResend t g => Sys2Proof.Machine.execStreamResend t g s
  | .frameSubscribe t g => Sys2Proof.Machine.execFrameSubscribe t g s
  | .frameSend t g => Sys2Proof.Machine.execFrameSend t g s
  | .unknownType t g => Sys2Proof.Machine.execUnknownType t g s
  | .evcQueueService t n => Sys2Proof.Machine.execEvcQueueService t n s
  | .eventStreamSend t sess => Sys2Proof.Machine.execEventStreamSend t sess s
  | .recorderWrite t torn => Sys2Proof.Machine.execRecorderWrite t torn s
  | .logToken t => Sys2Proof.Machine.execLogToken t s
  | .logIntervalEnd t => Sys2Proof.Machine.execLogIntervalEnd t s
  | .operatingSecond t => Sys2Proof.Machine.execOperatingSecond t s
  | .recorderWindow t g => Sys2Proof.Machine.execRecorderWindow t g s
  | .recorderClear t g => Sys2Proof.Machine.execRecorderClear t g s
  | .logCursor t role v => Sys2Proof.Machine.execLogCursor t role v s
  | .updateBegin t g => Sys2Proof.Machine.execUpdateBegin t g s
  | .updateData t g => Sys2Proof.Machine.execUpdateData t g s
  | .updateEnd t g => Sys2Proof.Machine.execUpdateEnd t g s
  | .updateAbort t g => Sys2Proof.Machine.execUpdateAbort t g s
  | .updateStatus t g => Sys2Proof.Machine.execUpdateStatus t g s
  | .flashOperationComplete t r ok => Sys2Proof.Machine.execFlashOperationComplete t r ok s
  | .updateVerifyComplete t r => Sys2Proof.Machine.execUpdateVerifyComplete t r s
  | .provisionInfo t g => Sys2Proof.Machine.execProvisionInfo t g s
  | .provision t g => Sys2Proof.Machine.execProvision t g s
  | .perfSnap t role v counts => Sys2Proof.Machine.execPerfSnap t role v counts s
  | .perfSample t tower n cell skid ended raw pc serial => Sys2Proof.Machine.execPerfSample t tower n cell skid ended raw pc serial s
  | .perfTagRecord t tower cell discarded issue raw value cycles pc why => Sys2Proof.Machine.execPerfTagRecord t tower cell discarded issue raw value cycles pc why s
  | .pvOvertempCleared t p temp => Sys2Proof.Machine.execPvOvertempCleared t p temp s
  | .logicOvervoltageEnd t mv => Sys2Proof.Machine.execLogicOvervoltageEnd t mv s
  | .lswUndervoltageThreshold t inp below mv => Sys2Proof.Machine.execLswUndervoltageThreshold t inp below mv s
  | .lswOpenCleared t k => Sys2Proof.Machine.execLswOpenCleared t k s
  | .gnssLostLock t c => Sys2Proof.Machine.execGnssLostLock t c s
  | .gnssLockSearchEnd t c => Sys2Proof.Machine.execGnssLockSearchEnd t c s
  | .gnssSignalTracked t sig low prn el => Sys2Proof.Machine.execGnssSignalTracked t sig low prn el s
  | .ethernetFrameReceived t port refused f => Sys2Proof.Machine.execEthernetFrameReceived t port refused f s
  | .macAgeOut t mac => Sys2Proof.Machine.execMacAgeOut t mac s

end Sys2Proof.Machine
end

