-- ==== Sys2Proof/Safety.lean ====
section
/-!
DEFINITION. Safety.lean: what a safe state and a safe step are, and what a command leaves alone, in the terms that claims use.
-/
namespace Sys2Proof.Machine

/-- The parameter store is in its canonical form: addresses rising, no word at its default. -/
def State.Canonical (s : State) : Prop := Store.wf s.m.regs = true

/-- The step answers a next state: the module neither faults nor is refused. -/
def State.Goes (s : State) : Prop := ∃ s', step s = .next s'

/-- The command in front completes: the step answers a next state with the rest of the queue. -/
def State.Takes (s : State) : Prop := ∀ c rest, s.pending = c :: rest → ∃ s', step s = .next s' ∧ s'.pending = rest

/-- The command answers a next state that keeps the queue, and of whose module `Q` holds. -/
def State.Yields (s : State) (c : Instr) (Q : Mod → Prop) : Prop := ∃ m', exec c s = .next { s with m := m' } ∧ Q m'

/-- The areas of the module that a frame names. -/
inductive Area where
  | free | sys | evc | log | net | time | bist | nv | cams | panels | cell | fus | trk | ej | vlv | toll | lsw | loop | gnss | can
  | perf
deriving DecidableEq, Repr

/-- An area stands as it did. Of the recorder, the event controller, the store and the loops this leaves out what events that a
command raises change by rule: the queues, counts, record slots and triggered traces (R383, R392, R288). -/
def Area.same (p : Area) (a b : Mod) : Prop :=
  match p with
  | .free => b.free = a.free
  | .sys => b.sys = a.sys
  | .evc => b.evc.last = a.evc.last
  | .log => b.log.oldest = a.log.oldest ∧ b.log.clears = a.log.clears ∧ b.log.opSec = a.log.opSec ∧ b.log.cycles = a.log.cycles
      ∧ b.log.winFirst = a.log.winFirst ∧ b.log.window = a.log.window ∧ b.log.winClears = a.log.winClears
      ∧ b.log.toks = a.log.toks ∧ b.log.ivals = a.log.ivals ∧ b.log.secs = a.log.secs ∧ b.log.ready = a.log.ready
      ∧ b.log.judged = a.log.judged
  | .net => b.net = a.net
  | .time => b.time = a.time
  | .bist => b.bist = a.bist
  | .nv => b.nv = { a.nv with slots := b.nv.slots }
  | .cams => b.cams = a.cams
  | .panels => b.panels = a.panels
  | .cell => b.cell = a.cell
  | .fus => b.fus = a.fus
  | .trk => b.trk = a.trk
  | .ej => b.ej = a.ej
  | .vlv => b.vlv = a.vlv
  | .toll => b.toll = a.toll
  | .lsw => b.lsw = a.lsw
  | .loop => b.loop = { a.loop with traces := b.loop.traces }
  | .gnss => b.gnss = a.gnss
  | .can => b.can = a.can
  | .perf => b.perf = a.perf

/-- Of the areas only those listed change, and of the parameters only those at the addresses listed and LOOP_FLAGS, which a
completed trace marks. The clock stands at the command's instant (R15, R16). -/
structure Mod.Frame (t : Nat) (areas : List Area) (words : List Nat) (a b : Mod) : Prop where
  clock : b.now = (a.at t).now
  areas : ∀ p, p ∉ areas → p.same a b
  words : Store.wf a.regs = true → ∀ x, x ∉ words → x ≠ P.loopFlags.addr → Store.get b.regs x = Store.get a.regs x

/-- A request is one that its session accepts and that is executed now (R366 to R373): it comes by a transport that carries
Volron, whole, with the right tag, from the session's own address, later than all before it. -/
structure State.Accepts (s : State) (g : Msg) (x : Session) : Prop where
  canonical : s.Canonical
  carried : s.m.carries g.tr = true
  idle : s.m.net.cal = none
  whole : msgOk g = true
  request : g.kind = 0
  named : g.sid ≠ 0
  found : s.m.session? g.sid = some x
  opened : x.opened = true
  tr : g.tr = x.tr
  peer : g.peer = x.peer
  tag : msgTagOk g x = true
  fresh : x.lastSeq.all (fun q => later 32 g.seq q) = true
  new : x.cache.find? (fun e => e.1 = g.seq) = none

/-- The module when an accepted request is executed: counted, its SEQ and its instant noted (R370, R372). -/
def Mod.accepting (m : Mod) (g : Msg) (x : Session) : Mod :=
  (m.inc P.netRxMsgs).setSession x.id (fun y => { y with lastSeq := some g.seq, lastMsg := m.now })

/-- What is left after a restart (R407, R414): the non-volatile store with the start's cause, and the module's identity words below
0x10. Everything else is as State.reset has it, and the module waits for a start condition. -/
def Restarted (nv : Nv) (cause : Nat) (a b : Mod) : Prop :=
  { b with regs := [] } = { ({ } : Mod) with nv := { nv with cause := cause }, free := a.free, bist := { phase := .off }, regs := [] }
  ∧ (Store.wf a.regs = true → ∀ x, b.word x = if x < 0x10 then a.word x else dfltAt x)

/-- The words that the reading of stored lines may change (R114, R132): the counts of its 21 locations, and the last error. -/
def lineWords : List Nat :=
  [P.cellErrFlags.addr, P.cellErrLastLoc.addr, P.cellErrLastAddr.addr, P.cellErrLastT.addr]
    ++ (List.range 21).flatMap (fun l => [P.cellCe1.addr l, P.cellCe2.addr l, P.cellUe.addr l, P.cellAddr.addr l])

/-- No trace waits for an event of this source (R288). -/
def Mod.NoTrace (m : Mod) (src : Nat) : Prop :=
  ∀ n, n < 8 → field (m.rd P.loopTrTrig n) 31 30 = 3 → field (m.rd P.loopTrTrig n) 6 0 ≠ src

/-- An event of this source that is raised at `t` is numbered, counted and at most queued: none other waits to be taken or was numbered
in the same 1 µs, no trace waits for it, the delivery queue has room, and its route does not record it (R288, R383, R384). -/
def Mod.Plain (m : Mod) (t src : Nat) : Prop :=
  m.evc.raised = [] ∧ (m.at t).tickNow = [] ∧ m.NoTrace src ∧ (m.rd P.evcRoute src).testBit 2 = false ∧ m.evc.q.length < 4096

/-- Exactly one event was raised, of this source (R383). -/
def RaisedOne (src : Nat) (a b : Mod) : Prop :=
  b.evc.seq = (a.evc.seq + 1) % 2 ^ 32 ∧ b.evc.counts = assocAdd a.evc.counts src 1

/-- The firmware is told of one event, of this source and code: it stands at the end of the delivery queue (R384). -/
def Told (src code : Nat) (a b : Mod) : Prop :=
  ∃ e : Ev, b.evc.q = a.evc.q ++ [e] ∧ e.src = src ∧ e.code = code ∧ e.fw = true

/-- A load switch channel as a switch-off leaves it (R258, R262). -/
def LswCh.dark (c : LswCh) : LswCh :=
  { c with on := false, wait := false, held := false, inrush := false, since := none, counted := 0, open_ := false, duty := 0,
           trip := 0, openAt := none }

/-- Nothing stands against a load switch channel's switch-on but its load input (R258, R270). -/
def Mod.lswMayAsk (m : Mod) (k : Nat) : Prop :=
  m.driving = true ∧ (m.rd P.lswEn).testBit k = true ∧ (m.lswCh k).unusable = false ∧ (m.lswCh k).latched = false
    ∧ m.lswBarred k = false
    ∧ (m.lswCh k).on = false

/-- The commands that are one Volron request, with the type each carries (R375, R430); `counts` goes with WRITE. -/
def requestCommands (counts : List (Nat × Nat)) : List (Nat × (Nat → Msg → Instr)) :=
  [(0x0004, .bye), (0x0005, .ping), (0x0010, .read), (0x0011, fun t g => .registerWrite t (.msg g) counts),
   (0x0020, fun t g => .recipeSelect t (.msg g)), (0x0021, .dialSet), (0x0030, .calWrite), (0x0031, .calRead),
   (0x0040, .tallyRead), (0x0041, .mapRead), (0x0050, .eventSubscribe), (0x0052, .streamResend), (0x0058, .frameSubscribe),
   (0x005A, .frameSend), (0x0060, .recorderWindow), (0x0061, .recorderClear), (0x0070, .correction), (0x0080, .updateBegin),
   (0x0081, .updateData), (0x0082, .updateEnd), (0x0083, .updateAbort), (0x0084, .updateStatus), (0x0090, .provisionInfo),
   (0x0091, .provision)]

/-- The counters of Volron messages received and sent (R390), which every request that is answered raises. -/
def netCounters : List Nat := [P.netRxMsgs.addr, P.netTxMsgs.addr]

/-- The words in which a channel's arrival samples are counted and shown (R221 to R223). -/
def detWords (c : Nat) : List Nat := [P.vlvDetValid.addr, P.vlvDetGated.addr, P.vlvFlags.addr, P.vlvDLast.addr c]

/-- The words in which missed pulses are counted, with those of their waits and of the queue that those merged into them enter (R203, R207,
R250). -/
def missWords : List Nat :=
  [P.ejFlags.addr, P.tollExpired1.addr, P.ejQPeak.addr] ++ (List.range 24).map (fun b => P.ejBankWaitMax.addr b) ++ (List.range 8).map (fun n => P.ejMiss.addr n)
    ++ (List.range 384).map (fun c => P.ejChMissed.addr c)

/-- The words that a GNSS solution may change (R306 to R311, R326 to R328). -/
def solutionWords : List Nat :=
  [P.gnssExclusions.addr, P.gnssFlags.addr, P.gnssLat.addr, P.gnssLon.addr, P.gnssHgt.addr, P.gnssVelN.addr, P.gnssVelE.addr,
   P.gnssVelU.addr, P.gnssErr.addr, P.gnssDop.addr, P.gnssFixSeq.addr, P.gnssFixT.addr, P.gnssNsv.addr, P.gnssTSecLo.addr,
   P.gnssTSecHi.addr, P.gnssTNs.addr, P.gnssTErr.addr, P.gnssOscDelta.addr, P.gnssDrift.addr, P.gnssLeap.addr, P.gnssUntrusted.addr,
   P.gnssFixes.addr, P.gnssTtff.addr, P.timeLeap.addr, P.timeFreq.addr, P.timeSlewLeft.addr, P.timeHoldovers.addr, P.timeFlags.addr,
   P.timeAltOffset.addr]

/-- The message last sent is the reply to a request of session `x`: its STATUS and what follows it (R367, R372, R374). -/
def Answered (g : Msg) (x : Session) (status : Nat) (body : List Byte) (a b : Mod) : Prop :=
  ∃ o : OutMsg, b.net.sent = a.net.sent ++ [o] ∧ o.typ = g.typ ∧ o.kind = 1 ∧ o.sid = x.id ∧ o.seq = g.seq ∧ o.tr = x.tr
    ∧ o.peer = x.peer ∧ o.body = leBytes 2 status ++ body ∧ o.tag = tagOf x.key o.header o.body

end Sys2Proof.Machine
end

