-- ==== Sys2Proof/Certificates/Slice0/Obligations.lean ====
section
/-!
DEFINITION. Certificates/Slice0/Obligations.lean: what is claimed of the model, one definition a claim. Each says which rule of spec/
it formalises, or which sections it rests on; OBLIGATIONS.json lists them.
-/
open Sys2Proof Sys2Proof.Machine


/-! ### The queue of commands and the whole machine -/

/-- With command `c` at the front of the queue, a step is `exec` of `c` on the state with the queue's rest. Log 1 (the model's own choice):
on an empty queue the module idles. -/
def Obligations.StepRunsFrontCommand : Prop :=
  (∀ (s : State) (c : Instr) (rest : List Instr), s.pending = c :: rest → step s = exec c { s with pending := rest })
  ∧ (∀ s : State, s.pending = [] → step s = .next s)

/-- R9, R10: every command completes: whatever the state and the operands, of each of the 223 commands, `exec` answers a next state, which
keeps the queue, and whose parameter store is canonical where the state's was. -/
def Obligations.EveryCommandCompletes : Prop :=
  ∀ (c : Instr) (s : State), ∃ m', exec c s = .next { s with m := m' } ∧ (s.Canonical → Store.wf m'.regs = true)

/-- The invariant that every step keeps holds right after reset, where the raw counter stands at 0 (R323), no event has been raised, no
parameter differs from its default (R9) and no command waits. -/
def Obligations.ResetMeetsInvariant : Prop :=
  State.reset.Canonical ∧ State.reset.pending = [] ∧ State.reset.m.now = 0 ∧ State.reset.m.evc.raised = []
  ∧ State.reset.m.evc.seq = 0 ∧ State.reset.m.evc.q = [] ∧ State.reset.m.net.sessions = []
  ∧ (∀ a, State.reset.m.word a = dfltAt a)

/-- R9, R10: whatever the command in front, a step of a state whose parameter store is canonical (every word that differs from its default
listed once, at its address) answers a next state, takes that command alone from the queue, and leaves the store canonical. -/
def Obligations.EveryStepKeepsStoreCanonical : Prop :=
  ∀ s : State, s.Canonical → ∃ s', step s = .next s' ∧ s'.Canonical ∧ s'.pending = s.pending.tail

/-! ### The event controller (R383, R384, R488) -/

/-- R383, R384: one event that a command raises, the first in its tick of 1 µs, takes the next event number (modulo 2^32) and counts for its
source; where its route has neither FW nor STREAM it is in no queue; where it has one of them and the queue of 4,096 has room, it stands
at the end of the queue with its number, the source's priority, the raw count and the time of its instant. Where another command raised
an event in that tick which stands last in the queue, the two take the tick's numbers in the order of priority, source and code. (Where
no trace waits for events of its source, and its route has not RECORD.) R384: an event that meets a full delivery queue of 4,096
discards the newest event of the lowest priority present, which may be the arriving one, and counts the discard for that priority. -/
def Obligations.EventsAreNumberedAndQueued : Prop :=
  (∀ (m : Mod) (r : Raised), m.evc.raised = [r] → m.NoTrace r.src → (m.rd P.evcRoute r.src).testBit 2 = false →
    let b := m.flush
    let seq := (m.evc.seq + 1) % 2 ^ 32
    let queued : List Ev → Nat → List Ev → Prop := fun q n q' =>
      ∃ e : Ev, b.evc.q = q ++ [e] ++ q' ∧ e.seq = n ∧ e.src = r.src ∧ e.code = r.code ∧ e.data = r.data
        ∧ e.prio = m.prio r.src ∧ e.raw = m.now ∧ e.valid = m.time.valid ∧ e.rep = m.reported
        ∧ e.fw = (m.rd P.evcRoute r.src).testBit 0 ∧ e.stream = (m.rd P.evcRoute r.src).testBit 1
    ((m.rd P.evcRoute r.src).testBit 0 = false → (m.rd P.evcRoute r.src).testBit 1 = false → m.tickNow = [] →
      b.evc.seq = seq ∧ b.evc.counts = assocAdd m.evc.counts r.src 1 ∧ b.evc.raised = [] ∧ b.log = m.log ∧ b.evc.q = m.evc.q)
    ∧ (((m.rd P.evcRoute r.src).testBit 0 = true ∨ (m.rd P.evcRoute r.src).testBit 1 = true) → m.evc.q.length < 4096 →
      (m.tickNow = [] →
        b.evc.seq = seq ∧ b.evc.counts = assocAdd m.evc.counts r.src 1 ∧ b.evc.raised = [] ∧ b.log = m.log ∧ queued m.evc.q seq [])
      ∧ (∀ (q : List Ev) (e : Ev) (x : Ticked), m.tickNow = [x] → m.evc.q = q ++ [e] → e.seq = x.seq → x.seq = m.evc.seq →
          (∀ y ∈ q, y.seq ≠ x.seq ∧ y.seq ≠ seq) →
        ((m.prio r.src < x.prio ∨ (m.prio r.src = x.prio ∧ (r.src < x.src ∨ (r.src = x.src ∧ r.code < x.code)))) →
          queued q x.seq [{ e with seq := seq }])
        ∧ ((x.prio < m.prio r.src ∨ (x.prio = m.prio r.src ∧ (x.src < r.src ∨ (x.src = r.src ∧ x.code ≤ r.code)))) →
          queued (q ++ [e]) seq []))))
  ∧ (∀ (m : Mod) (e : Ev), m.evc.q.length = 4096 →
    ∃ i, i ≤ 4096 ∧ (m.queueEvent e).evc.q = (m.evc.q ++ [e]).eraseIdx i ∧ (m.queueEvent e).evc.q.length = 4096
      ∧ (m.queueEvent e).evc.dropFlag = true
      ∧ (∀ x ∈ m.evc.q ++ [e], x.prio ≤ ((m.evc.q ++ [e]).getD i e).prio)
      ∧ (∀ j, i < j → j ≤ 4096 → ((m.evc.q ++ [e]).getD j e).prio ≠ ((m.evc.q ++ [e]).getD i e).prio)
      ∧ (m.queueEvent e).evc.dropped = m.evc.dropped.modify ((m.evc.q ++ [e]).getD i e).prio (fun n => (n + 1) % 2 ^ 32))

/-! ### Volron (chapter 15) -/

/-- R375, R376, R379, R402, R430: a request that reads is answered OK with what it asks for, and changes nothing else: the words of a READ
are those the module reads at that instant, TALLY_READ and MAP_READ show the last milestone. -/
def Obligations.ReadingRequestsAnswered : Prop :=
  ∀ (s : State) (t : Nat) (g : Msg) (x : Session), s.Accepts g x → s.m.gate x g.typ = none →
    let n := leAt g.body 4 2
    let a := leAt g.body 0 4
    let m1 := (s.m.at t).accepting g x
    (g.typ = 0x0005 → g.body = [] →
      s.Yields (.ping t g) fun m' => Answered g x 0 (leBytes 4 (s.m.at t).raw) s.m m'
        ∧ Mod.Frame t [.net, .can, .free] netCounters s.m m')
    ∧ (g.typ = 0x0010 → g.body.length = 8 → 1 ≤ n → n ≤ 256 → m1.readable a n = true →
      s.Yields (.read t g) fun m' => Answered g x 0 (leBytes 2 n ++ wordBytes (m1.readMany a n).1) s.m m'
        ∧ Mod.Frame t [.net, .can, .free, .time] netCounters s.m m')
    ∧ (g.typ = 0x0031 → g.body.length = 8 → 1 ≤ n → n ≤ 256 → 0x21000000 ≤ a → a + 4 * n ≤ 0x22000000 → m1.readable a n = true →
      s.Yields (.calRead t g) fun m' => Answered g x 0 (leBytes 2 n ++ wordBytes (m1.readMany a n).1) s.m m'
        ∧ Mod.Frame t [.net, .can, .free, .time] netCounters s.m m')
    ∧ (g.typ = 0x0040 → g.body.length = 4 → leAt g.body 0 1 ≤ 15 →
      s.Yields (.tallyRead t g) fun m' => Answered g x 0 (leBytes 2 0 ++ leBytes 4 s.m.msRaw ++ leBytes 4 (s.m.committed.mj / 2 ^ 32)
          ++ (List.range 32).flatMap (fun w => leBytes 4 ((s.m.committed.tally.getD (leAt g.body 0 1) {}).word w))) s.m m'
        ∧ Mod.Frame t [.net, .can, .free] netCounters s.m m')
    ∧ (g.typ = 0x0041 → g.body.length = 4 → 1 ≤ leAt g.body 2 2 → leAt g.body 2 2 ≤ 22 →
        leAt g.body 0 2 + leAt g.body 2 2 ≤ 65536 →
      s.Yields (.mapRead t g) fun m' => Answered g x 0 (leBytes 2 (leAt g.body 2 2) ++ leBytes 4 s.m.committed.lotId ++ leBytes 4 s.m.msRaw
          ++ (List.range (leAt g.body 2 2)).flatMap (fun k => s.m.committed.mapBytes (leAt g.body 0 2 + k))) s.m m'
        ∧ Mod.Frame t [.net, .can, .free] netCounters s.m m')
    ∧ (g.typ = 0x0060 → g.body.length = 8 → 1 ≤ n → n ≤ 44 → s.m.log.holds a = true →
      s.Yields (.recorderWindow t g) fun m' => Answered g x 0 (leBytes 2 (s.m.recsFrom a n).length ++ leBytes 4 s.m.log.oldest
          ++ leBytes 4 s.m.log.next ++ leBytes 4 s.m.log.clears ++ (s.m.recsFrom a n).flatMap Rec.bytes) s.m m'
        ∧ Mod.Frame t [.net, .can, .free] netCounters s.m m')
    ∧ (g.typ = 0x0084 → g.body.length = 4 → leAt g.body 0 1 < 2 →
      s.Yields (.updateStatus t g) fun m' =>
        (let r := s.m.region (leAt g.body 0 1)
         Answered g x 0 (leBytes 1 r.st ++ leBytes 1 r.reason ++ leBytes 4 r.ofs ++ leBytes 4 r.len ++ leBytes 4 r.owner) s.m m')
        ∧ Mod.Frame t [.net, .can, .free] netCounters s.m m')

/-- R369 to R374, R382: whatever a request is, one that a rule turns away is answered with that rule's STATUS and nothing after it, and
changes nothing but the session that sent it and the counters of messages. R374: a request of a type that no rule defines is answered
UNKNOWN_TYPE (2) while the module runs, or NOT_HERE (4) where R382 admits no such type. -/
def Obligations.RefusedRequestsChangeNothing : Prop :=
  (∀ (counts : List (Nat × Nat)), ∀ p ∈ requestCommands counts, ∀ (s : State) (t : Nat) (g : Msg) (x : Session) (st : Nat),
    g.typ = p.1 → s.Accepts g x → s.m.gate x g.typ = some st →
    s.Yields (p.2 t g) fun m' => Answered g x st [] s.m m' ∧ Mod.Frame t [.net, .can, .free] netCounters s.m m')
  ∧ (∀ (s : State) (t : Nat) (g : Msg) (x : Session), s.Accepts g x → typeDefined g.typ = false → g.typ ≠ 1 → g.typ ≠ 3 →
    s.Yields (.unknownType t g) fun m' =>
      Answered g x (if s.m.netState = 3 ∨ typeUpdate g.typ = true then 2 else 4) [] s.m m'
      ∧ Mod.Frame t [.net, .can, .free] netCounters s.m m')

/-- R368: the module discards a message with a wrong MAGIC, VERSION or LENGTH, and one of an open session whose tag is not the first 16
bytes of HMAC-SHA-256 under the session key over the header and the body; it counts it in NET_TAG_FAILS and answers nothing. No state
changes but that counter and the count of messages received. R372: a request whose SEQ is that of one of the last 16 accepted is not
executed again: its reply goes out once more and the request is counted in NET_DUPLICATES. Any other request that is not later than the
latest accepted is discarded. -/
def Obligations.WrongMessagesDiscarded : Prop :=
  (∀ (counts : List (Nat × Nat)), ∀ p ∈ requestCommands counts, ∀ (s : State) (t : Nat) (g : Msg), g.typ = p.1 → s.Canonical →
    s.m.carries g.tr = true → s.m.net.cal = none →
    let discarded := s.Yields (p.2 t g) fun m' => m'.net = s.m.net
      ∧ m'.rd P.netTagFails = (s.m.rd P.netTagFails + 1) % 2 ^ 32
      ∧ Mod.Frame t [] [P.netRxMsgs.addr, P.netTagFails.addr] s.m m'
    ((g.magic ≠ 0x4C56 ∨ g.version ≠ 1 ∨ g.len ≠ g.body.length ∨ 1440 < g.len) → discarded)
    ∧ (∀ x, g.kind = 0 → g.sid ≠ 0 → s.m.session? g.sid = some x → x.opened = true →
        g.magic = 0x4C56 → g.version = 1 → g.len = g.body.length → g.len ≤ 1440 →
        g.tag ≠ padTo 16 (Config.hmacSha256 x.key (msgHeader g ++ g.body)) → discarded)
    ∧ (∀ x, g.kind = 0 → g.sid ≠ 0 → s.m.session? g.sid = some x → x.opened = true →
        g.magic = 0x4C56 → g.version = 1 → g.len = g.body.length → g.len ≤ 1440 →
        (g.tr ≠ x.tr ∨ g.peer ≠ x.peer) → discarded))
  ∧ (∀ (counts : List (Nat × Nat)), ∀ p ∈ requestCommands counts, ∀ (s : State) (t : Nat) (g : Msg) (x : Session), g.typ = p.1 →
    s.Canonical → s.m.carries g.tr = true → s.m.net.cal = none → msgOk g = true → g.kind = 0 → g.sid ≠ 0 →
    s.m.session? g.sid = some x → x.opened = true → g.tr = x.tr → g.peer = x.peer → msgTagOk g x = true →
    (∀ e, x.cache.find? (fun e => e.1 = g.seq) = some e → e.2.tr = x.tr →
      s.Yields (p.2 t g) fun m' => m'.net = { s.m.net with sent := s.m.net.sent ++ [e.2] }
        ∧ m'.rd P.netDuplicates = (s.m.rd P.netDuplicates + 1) % 2 ^ 32
        ∧ Mod.Frame t [.net, .can, .free] (P.netDuplicates.addr :: netCounters) s.m m')
    ∧ (∀ q, x.cache.find? (fun e => e.1 = g.seq) = none → x.lastSeq = some q → later 32 g.seq q = false →
      s.Yields (p.2 t g) fun m' => m'.net = s.m.net ∧ Mod.Frame t [] [P.netRxMsgs.addr] s.m m'))

/-- R373: a request that comes while a CAL_WRITE is in execution waits behind those that came before it. -/
def Obligations.RequestsWaitForCalWrite : Prop :=
  ∀ (counts : List (Nat × Nat)), ∀ p ∈ requestCommands counts, ∀ (s : State) (t : Nat) (g : Msg), g.typ = p.1 →
    s.m.carries g.tr = true → s.m.net.cal.isSome = true →
    s.Yields (p.2 t g) fun m' => m'.net = { s.m.net with waiting := s.m.net.waiting ++ [((s.m.at t).now, g)] }
      ∧ Mod.Frame t [.net] [P.netRxMsgs.addr] s.m m'

/-- R370, R380, R385, R387: within a session BYE closes it, EVENT_SUBSCRIBE replaces its subscription and empties its stream (the messages
sent before stay held), FRAME_SUBSCRIBE sets its channels, and STREAM_RESEND sends a held message again or answers GONE (18). -/
def Obligations.SessionRequestsTakeEffect : Prop :=
  ∀ (s : State) (t : Nat) (g : Msg) (x : Session), s.Accepts g x → s.m.gate x g.typ = none →
    (g.typ = 0x0004 → g.body = [] →
      s.Yields (.bye t g) fun m' => m'.session? x.id = none ∧ Answered g x 0 [] s.m m'
        ∧ Mod.Frame t [.net, .can, .free, .nv, .toll] netCounters s.m m')
    ∧ (g.typ = 0x0050 → g.body.length = 20 →
      s.Yields (.eventSubscribe t g) fun m' => Answered g x 0 [] s.m m'
        ∧ (∃ y, m'.session? x.id = some y ∧ y.buf = [] ∧ y.lost = 0 ∧ y.held = x.held
            ∧ (leVal (g.body.take 16) ≠ 0 → y.msgNo = 0)
            ∧ y.sub = if leVal (g.body.take 16) = 0 then none else some { mask := leVal (g.body.take 16), maxPrio := leAt g.body 16 1 })
        ∧ Mod.Frame t [.net, .can, .free] netCounters s.m m')
    ∧ (g.typ = 0x0058 → g.body.length = 4 → leAt g.body 0 1 ≤ 15 →
      s.Yields (.frameSubscribe t g) fun m' => Answered g x 0 [] s.m m'
        ∧ (∃ y, m'.session? x.id = some y ∧ y.frames = leAt g.body 0 1 ∧ y.sub = x.sub ∧ y.buf = x.buf)
        ∧ Mod.Frame t [.net, .can, .free] netCounters s.m m')
    ∧ (g.typ = 0x0052 → g.body.length = 4 → x.held.find? (fun o => o.seq = leVal g.body) = none →
      s.Yields (.streamResend t g) fun m' => Answered g x 18 [] s.m m' ∧ Mod.Frame t [.net, .can, .free] netCounters s.m m')
    ∧ (∀ o, g.typ = 0x0052 → g.body.length = 4 → x.held.find? (fun o => o.seq = leVal g.body) = some o → o.tr = x.tr →
      s.Yields (.streamResend t g) fun m' =>
        (∃ r : OutMsg, m'.net.sent = s.m.net.sent ++ [o, r] ∧ r.typ = g.typ ∧ r.kind = 1 ∧ r.sid = x.id ∧ r.seq = g.seq
          ∧ r.body = leBytes 2 0)
        ∧ Mod.Frame t [.net, .can, .free] netCounters s.m m')

/-- R51, R377: DIAL_SET is judged by the conditions of R51 in their order. Accepted, it writes the dial's field alone and answers OK;
refused, it answers the condition's STATUS and leaves the value. Either way the reply shows the field's value in force after it. R47,
R48, R377: a recipe that the road book declares and that is not in force becomes the pending change at the instant of the request; a
request meeting a pending change supersedes it, and one for the recipe in force withdraws it. One that is not declared is refused
NO_RECIPE (12). The same holds of a write to SYS_RECIPE_SEL, which answers nothing. -/
def Obligations.DialSetIsJudged : Prop :=
  (∀ (s : State) (t : Nat) (g : Msg) (x : Session) (d : DialDef), s.Accepts g x → s.m.gate x g.typ = none → g.typ = 0x0021 →
    g.body.length = 8 →
    ((s.m.sys.rb.map (·.dials)).getD []).find? (fun d => d.dial = leAt g.body 0 1) = some d →
    let m1 := (s.m.at t).accepting g x
    (∀ st, m1.dialRefuse x.role d (d.num (leAt g.body 4 4)) = some st →
      s.Yields (.dialSet t g) fun m' =>
        Answered g x st (leBytes 2 0 ++ leBytes 4 (toU 32 (d.get (m1.word d.target)))) s.m m'
        ∧ m'.sys.dialAt = s.m.sys.dialAt ∧ Mod.Frame t [.net, .can, .free] netCounters s.m m')
    ∧ (m1.dialRefuse x.role d (d.num (leAt g.body 4 4)) = none → d.target ≠ P.bgSuperseded.addr 0 → d.target ≠ P.bgSuperseded.addr 1 →
        d.target ≠ P.netTxMsgs.addr → d.target ≠ P.loopFlags.addr →
      s.Yields (.dialSet t g) fun m' =>
        m'.word d.target = d.put (m1.word d.target) (d.num (leAt g.body 4 4))
        ∧ assocGet m'.sys.dialAt d.dial = some (s.m.at t).now
        ∧ Answered g x 0 (leBytes 2 0 ++ leBytes 4 (toU 32 (d.get (m'.word d.target)))) s.m m'
        ∧ Mod.Frame t [.sys, .cams, .panels, .lsw, .toll, .net, .can, .free]
            (d.target :: P.bgSuperseded.addr 0 :: P.bgSuperseded.addr 1 :: netCounters) s.m m'))
  ∧ ((∀ (s : State) (t : Nat) (g : Msg) (x : Session), s.Accepts g x → s.m.gate x g.typ = none → g.typ = 0x0020 → g.body.length = 4 →
    let i := leAt g.body 0 1
    (s.m.declared i = false → s.Yields (.recipeSelect t (.msg g)) fun m' => m'.sys = s.m.sys
      ∧ Answered g x 12 (leBytes 2 s.m.recipePend ++ leBytes 4 s.m.recipeAt) s.m m'
      ∧ Mod.Frame t [.net, .can, .free] netCounters s.m m')
    ∧ (s.m.declared i = true → s.Yields (.recipeSelect t (.msg g)) fun m' =>
      m'.sys = { s.m.sys with pend := if i = s.m.sys.recipe then none else some (i, (s.m.at t).now) }
      ∧ Answered g x 0 (leBytes 2 m'.recipePend ++ leBytes 4 m'.recipeAt) s.m m'
      ∧ Mod.Frame t [.sys, .net, .can, .free] (P.sysRecipeSel.addr :: P.sysRecipeSuperseded.addr :: netCounters) s.m m'))
  ∧ (∀ (s : State) (t role : Nat) (v : Word), s.m.running = true → s.m.writeCheck role P.sysRecipeSel.base v = .ok (P.sysRecipeSel, 0, 0) →
    s.m.declared v.toNat = true → s.Yields (.recipeSelect t (.write role v)) fun m' =>
      m'.sys = { s.m.sys with pend := if v.toNat = s.m.sys.recipe then none else some (v.toNat, (s.m.at t).now) }
      ∧ Mod.Frame t [.sys] [P.sysRecipeSel.addr, P.sysRecipeSuperseded.addr] s.m m'))

/-- R55, R373, R378: a CAL_WRITE whose pairs are all legal goes into execution and is answered only when CALU_GROUP_COMMIT has both copies
written; one with an illegal pair is refused CAL_RANGE (17) with its index and writes nothing. -/
def Obligations.CalibrationGroupsApplyWhole : Prop :=
  (∀ (s : State) (t : Nat) (g : Msg) (x : Session), s.Accepts g x → s.m.gate x g.typ = none → g.typ = 0x0030 →
    1 ≤ leAt g.body 0 2 → leAt g.body 0 2 ≤ 64 → g.body.length = 4 + 8 * leAt g.body 0 2 →
    (∀ k, findPos (fun e => !caluPairOk e) (pairsOf (g.body.drop 4)) = some k →
      s.Yields (.calWrite t g) fun m' => Answered g x 17 (leBytes 2 k ++ leBytes 4 s.m.caluSeq) s.m m'
        ∧ Mod.Frame t [.net, .can, .free] netCounters s.m m')
    ∧ (findPos (fun e => !caluPairOk e) (pairsOf (g.body.drop 4)) = none →
      s.Yields (.calWrite t g) fun m' =>
        m'.net.cal = some { sid := x.id, seq := g.seq, tr := x.tr, peer := x.peer, words := pairsOf (g.body.drop 4) }
        ∧ m'.net.sent = s.m.net.sent ∧ Mod.Frame t [.net] [P.netRxMsgs.addr] s.m m'))
  ∧ (∀ (s : State) (t : Nat) (counts : List (Nat × Nat)) (g : CalGroup) (x : Session), s.Canonical → s.m.net.cal = some g → s.m.net.waiting = [] →
      s.m.session? g.sid = some x → s.m.reaches x.tr = true →
    s.Yields (.caluGroupCommit t counts) fun m' =>
      let words := g.words.foldl (fun l e => assocSet l e.1 e.2) s.m.sys.calu
      let seq := (s.m.caluSeq + 1) % 2 ^ 32
      m'.sys.calu = words ∧ m'.nv.calu = List.replicate 2 { ok := true, seq := seq, words := words } ∧ m'.net.cal = none
      ∧ (∃ o : OutMsg, m'.net.sent = s.m.net.sent ++ [o] ∧ o.typ = 0x0030 ∧ o.sid = g.sid ∧ o.seq = g.seq
          ∧ o.body = leBytes 2 0 ++ (leBytes 2 0 ++ leBytes 4 seq))
      ∧ Mod.Frame t [.sys, .nv, .net, .cams, .panels, .can, .free]
          [P.sysCaluWrites.addr, P.bgSuperseded.addr 0, P.bgSuperseded.addr 1, P.netTxMsgs.addr] s.m m')

/-- R369, R370, R371, R443: HELLO opens a pending session with a key derived from the slot's key and both nonces, and is answered with
CHALLENGE, untagged and outside any session; where it is refused it is answered with the STATUS alone and no session appears. R368 to
R371: AUTH of a pending session within 5 s of CHALLENGE. The right proof opens the session; a wrong proof is answered AUTH (15) and a
wrong tag is not answered; in either failure the pending session is gone. R369, R370, R371: a pending session whose 5 s are over is
dropped, unless its AUTH came in time and waits behind a CAL_WRITE (R373); an open one that accepted nothing for NET_IDLE_S closes, and
an address's lockout ends after its 60 s; no other session and no other lockout is touched. -/
def Obligations.HelloAndAuthOpenSessions : Prop :=
  (∀ (s : State) (t : Nat) (g : Msg), s.Canonical → s.m.carries g.tr = true → s.m.net.cal = none → msgOk g = true → g.kind = 0 →
    g.typ = 1 → g.body.length = 20 →
    let slot := leAt g.body 0 1
    let role := leAt g.body 1 1
    let n := s.m.nv.draws
    let sid := 1 + Config.domeSession n % (2 ^ 32 - 1)
    let nm := padTo 16 (Config.domeRandom n)
    let nc := (g.body.drop 4).take 16
    let o : List Byte → OutMsg := fun b =>
      { tr := g.tr, peer := g.peer, typ := 1, kind := 1, sid := 0, seq := g.seq, body := b, tag := [] }
    let x : List Byte → Session := fun key =>
      { idx := s.m.freeSlot, id := sid, opened := false, slot := slot, role := role, tr := g.tr, peer := g.peer,
        key := Config.hmacSha256 key (ascii "VOLRON-S" ++ nc ++ nm ++ leBytes 4 sid), nonceC := nc, nonceM := nm,
        since := (s.m.at t).now, lastMsg := (s.m.at t).now }
    (∀ key, (s.m.at t).helloCheck g.tr g.peer slot role = .ok key →
      s.Yields (.hello t g) fun m' =>
        m'.net.sessions = s.m.net.sessions ++ [x key] ∧ m'.net.sent = s.m.net.sent ++ [o (leBytes 2 0 ++ leBytes 2 0 ++ leBytes 4 sid ++ nm)]
        ∧ m'.nv.draws = n + 1 ∧ Mod.Frame t [.net, .nv, .can, .free] netCounters s.m m')
    ∧ (∀ st, (s.m.at t).helloCheck g.tr g.peer slot role = .error st →
      s.Yields (.hello t g) fun m' => m'.net.sessions = s.m.net.sessions
        ∧ m'.net.sent = s.m.net.sent ++ [o (leBytes 2 st ++ leBytes 2 0 ++ leBytes 4 0 ++ List.replicate 16 0)]
        ∧ Mod.Frame t [.net, .can, .free] netCounters s.m m'))
  ∧ (∀ (s : State) (t : Nat) (g : Msg) (x : Session), s.Canonical → s.m.carries g.tr = true → s.m.net.cal = none → msgOk g = true →
    g.kind = 0 → g.typ = 3 → s.m.session? g.sid = some x → x.opened = false → g.tr = x.tr → g.peer = x.peer →
    (s.m.at t).now ≤ x.since + 5 * 10 ^ 9 →
    let proof := padTo 16 (Config.hmacSha256 x.key (ascii "VOLRON-C" ++ x.nonceC ++ x.nonceM))
    (msgTagOk g x = true → g.body = proof →
      s.Yields (.auth t g) fun m' =>
        (∃ y, m'.session? x.id = some y ∧ y.opened = true ∧ y.lastSeq = some g.seq ∧ y.lastMsg = (s.m.at t).now ∧ y.key = x.key
            ∧ y.tr = x.tr ∧ y.peer = x.peer ∧ y.role = x.role)
        ∧ Answered g x 0 (leBytes 2 0 ++ padTo 16 (Config.hmacSha256 x.key (ascii "VOLRON-M" ++ x.nonceC ++ x.nonceM))) s.m m'
        ∧ Mod.Frame t [.net, .can, .free] netCounters s.m m')
    ∧ (msgTagOk g x = true → g.body ≠ proof →
      s.Yields (.auth t g) fun m' => m'.session? x.id = none ∧ Answered g x 15 (leBytes 2 0 ++ List.replicate 16 0) s.m m'
        ∧ Mod.Frame t [.net, .can, .free] (P.netFlags.addr :: netCounters) s.m m')
    ∧ (msgTagOk g x = false →
      s.Yields (.auth t g) fun m' => m'.session? x.id = none ∧ m'.net.sent = s.m.net.sent
        ∧ m'.rd P.netTagFails = (s.m.rd P.netTagFails + 1) % 2 ^ 32
        ∧ Mod.Frame t [.net] [P.netRxMsgs.addr, P.netTagFails.addr, P.netFlags.addr] s.m m'))
  ∧ ((∀ (s : State) (t i : Nat) (x : Session), s.m.net.sessions.find? (fun y => y.idx = i && !y.opened) = some x →
    x.since + 5 * 10 ^ 9 ≤ (s.m.at t).now → s.m.authWaits x = false →
    s.Yields (.authTimeout t i) fun m' => m'.net = { s.m.net with sessions := s.m.net.sessions.filter (fun y => y.id ≠ x.id) }
      ∧ Mod.Frame t [.net] [] s.m m')
  ∧ (∀ (s : State) (t i : Nat) (x : Session), s.m.net.sessions.find? (fun y => y.idx = i && y.opened) = some x →
    x.lastMsg + s.m.rd P.netIdleS * 10 ^ 9 ≤ (s.m.at t).now →
    s.Yields (.sessionIdleTimeout t i) fun m' => m'.net = { s.m.net with sessions := s.m.net.sessions.filter (fun y => y.id ≠ x.id) }
      ∧ Mod.Frame t [.net, .nv, .toll] [] s.m m')
  ∧ (∀ (s : State) (t tr addr : Nat),
    s.Yields (.authLockoutEnd t tr addr) fun m' =>
      m'.net = { s.m.net with locked := s.m.net.locked.filter (fun l => !(l.1 = tr && l.2.1 = addr && l.2.2 ≤ (s.m.at t).now)) }
      ∧ Mod.Frame t [.net] [] s.m m'))

/-- R356, R380, R381, R404: FRAME_SEND queues its frame, answers QUEUE_FULL (20), or is REFUSED (11) where the channel lets no such frame
out (a remote frame never, log 149); CORRECTION keeps the bytes of an unfinished RTCM frame; RECORDER_CLEAR takes OLDEST to UPTO_SEQ,
counts the clear, and leaves every slot but those of its own records as it is. -/
def Obligations.QueueingRequestsTakeEffect : Prop :=
  ∀ (s : State) (t : Nat) (g : Msg) (x : Session), s.Accepts g x → s.m.gate x g.typ = none →
    let ch := leAt g.body 0 1
    let f := frameOf x.id (s.m.at t).now (g.body.drop 4)
    (g.typ = 0x005A → g.body.length = 78 → ch ≤ 3 → f.dlc ≤ 15 → f.id < (if f.ext then 2 ^ 29 else 2 ^ 11) →
        s.m.rd P.canTxAllow ch = 1 → (f.fd = true → (s.m.rd P.canCfg ch).testBit 3 = true) → f.rtr = false →
      s.Yields (.frameSend t g) fun m' =>
        Answered g x (if (s.m.canCh ch).txq.length < 32 then 0 else 20) [] s.m m'
        ∧ (s.m.can.ch.length = 4 → (s.m.canCh ch).txq.length < 32 → (s.m.canCh ch).txq ++ [f] <+: (m'.canCh ch).txq)
        ∧ Mod.Frame t [.net, .can, .free] netCounters s.m m')
    ∧ (g.typ = 0x005A → g.body.length = 78 → ch ≤ 3 → f.dlc ≤ 15 → f.id < (if f.ext then 2 ^ 29 else 2 ^ 11) →
        (s.m.rd P.canTxAllow ch ≠ 1 ∨ (f.fd = true ∧ (s.m.rd P.canCfg ch).testBit 3 = false) ∨ f.rtr = true) →
      s.Yields (.frameSend t g) fun m' => Answered g x 11 [] s.m m' ∧ Mod.Frame t [.net, .can, .free] netCounters s.m m')
    ∧ (g.typ = 0x0070 → 4 ≤ g.body.length →
      s.Yields (.correction t g) fun m' => Answered g x 0 [] s.m m'
        ∧ m'.gnss.rtcmBuf = (rtcmFrames (s.m.gnss.rtcmBuf ++ g.body.drop 4).length (s.m.gnss.rtcmBuf ++ g.body.drop 4)).2
        ∧ Mod.Frame t [.net, .can, .free, .gnss] netCounters s.m m')
    ∧ (g.typ = 0x0061 → g.body.length = 4 → s.m.log.holds (leVal g.body) = true → (s.m.log.full = true → leVal g.body ≠ s.m.log.oldest) →
      s.Yields (.recorderClear t g) fun m' => m'.log.oldest = leVal g.body ∧ (s.m.log.ready = false → m'.nv = s.m.nv)
        ∧ (∀ k, k ≠ s.m.log.next % 8192 → k ≠ (s.m.log.next + 1) % 8192 → assocGet m'.nv.slots k = assocGet s.m.nv.slots k)
        ∧ m'.log.clears = (s.m.log.clears + 1) % 2 ^ 32
        ∧ (∃ o : OutMsg, m'.net.sent = s.m.net.sent ++ [o] ∧ o.typ = g.typ ∧ o.sid = x.id ∧ o.seq = g.seq
            ∧ o.body.take 8 = leBytes 2 0 ++ leBytes 2 0 ++ leBytes 4 (leVal g.body))
        ∧ Mod.Frame t [.net, .can, .free, .log] netCounters s.m m')

/-! ### Updates, the dome, Ethernet (chapters 15, 18 and 19) -/

/-- R429 to R435: an update opens with UPDATE_BEGIN, takes its data in order, enters VERIFYING with UPDATE_END and is given up with
UPDATE_ABORT, each answered OK with the region as these rules leave it. R426, R431, R432: a flash operation that ends well leaves its
page programmed or its block erased and nothing else of the region's bytes changed; one that fails fails the update with reason 7.
Read-back hashing that matches asks for the header page, whose programming completes the region; hashing that does not match fails it
with reason 6. -/
def Obligations.UpdateRequestsTakeEffect : Prop :=
  (∀ (s : State) (t : Nat) (g : Msg) (x : Session), s.Accepts g x → s.m.gate x g.typ = none →
    let r := leAt g.body 0 1
    let e := s.m.region r
    r < 2 → s.m.nv.regions.length = 2 →
    (g.typ = 0x0080 → g.body.length = 164 → e.busy = false →
        (if r = 0 then checkFirmware ((s.m.at t).accepting g x) (g.body.drop 4) else checkHead ((s.m.at t).accepting g x) (g.body.drop 4)) = .ok () →
      s.Yields (.updateBegin t g) fun m' => Answered g x 0 [0, 0] s.m m'
        ∧ ((m'.region r).st = 2 ∧ (m'.region r).hdr = g.body.drop 4 ∧ (m'.region r).ofs = 160 ∧ (m'.region r).owner = x.id
          ∧ (m'.region r).len = leAt (g.body.drop 4) 8 4 ∧ (m'.region r).bytes = e.bytes)
        ∧ m'.region (1 - r) = s.m.region (1 - r) ∧ Mod.Frame t [.net, .can, .free, .nv] netCounters s.m m')
    ∧ (g.typ = 0x0081 → 8 ≤ g.body.length → g.body.length = 8 + leAt g.body 2 2 → e.busy = true → e.owner = x.id → e.stale = false →
        leAt g.body 4 4 = e.ofs → e.ofs + leAt g.body 2 2 ≤ e.len → 4 ≤ leAt g.body 2 2 → leAt g.body 2 2 ≤ 1024 →
        (leAt g.body 2 2 % 4 = 0 ∨ e.ofs + leAt g.body 2 2 = e.len) → e.buf.length + leAt g.body 2 2 ≤ 65536 →
      s.Yields (.updateData t g) fun m' =>
        Answered g x 0 ([0, 0] ++ leBytes 4 (e.ofs + leAt g.body 2 2)) s.m m'
        ∧ ((m'.region r).ofs = e.ofs + leAt g.body 2 2 ∧ (m'.region r).hdr ++ (m'.region r).buf.drop e.buf.length
            = e.hdr ++ g.body.drop 8)
        ∧ m'.region (1 - r) = s.m.region (1 - r) ∧ Mod.Frame t [.net, .can, .free, .nv, .toll] netCounters s.m m')
    ∧ (g.typ = 0x0082 → g.body.length = 4 → e.busy = true → e.owner = x.id → e.ofs = e.len →
      s.Yields (.updateEnd t g) fun m' => Answered g x 0 [0, 0] s.m m' ∧ (m'.region r).st = 3 ∧ (m'.region r).bytes = e.bytes
        ∧ m'.region (1 - r) = s.m.region (1 - r) ∧ Mod.Frame t [.net, .can, .free, .nv, .toll] netCounters s.m m')
    ∧ (g.typ = 0x0083 → g.body.length = 4 → e.busy = true → e.owner = x.id →
      s.Yields (.updateAbort t g) fun m' => Answered g x 0 [0, 0] s.m m'
        ∧ (m'.region r).st = (if e.touched then 1 else e.before) ∧ (m'.region r).owner = 0 ∧ (m'.region r).bytes = e.bytes
        ∧ m'.region (1 - r) = s.m.region (1 - r) ∧ Mod.Frame t [.net, .can, .free, .nv, .toll] netCounters s.m m'))
  ∧ (∀ (s : State) (t r : Nat), r < 2 → s.m.nv.regions.length = 2 →
    let e := s.m.region r
    (∀ prog, e.op = some prog →
      s.Yields (.flashOperationComplete t r true) fun m' =>
        (m'.region r).bytes = (if prog then flashPut e.bytes e.opAt e.page else flashErase e.bytes e.opAt)
        ∧ (m'.region r).op = none ∧ (m'.region r).stale = false ∧ m'.region (1 - r) = s.m.region (1 - r)
        ∧ Mod.Frame t [.nv, .toll] [] s.m m')
    ∧ (∀ prog, e.op = some prog → e.stale = false →
      s.Yields (.flashOperationComplete t r false) fun m' =>
        (m'.region r).bytes = e.bytes ∧ (m'.region r).st = 5 ∧ (m'.region r).reason = 7 ∧ (m'.region r).op = none
        ∧ m'.region (1 - r) = s.m.region (1 - r) ∧ Mod.Frame t [.nv, .toll] [P.secFlags.addr] s.m m')
    ∧ (e.op = some true → e.hashed = true → e.stale = false →
      s.Yields (.flashOperationComplete t r true) fun m' =>
        (m'.region r).bytes = flashPut e.bytes e.opAt (flashPage e.hdr) ∧ (m'.region r).st = 4 ∧ (m'.region r).owner = 0 ∧ (m'.region r).cut = false
        ∧ (m'.region r).hashed = false ∧ m'.region (1 - r) = s.m.region (1 - r) ∧ Mod.Frame t [.nv, .toll] [] s.m m')
    ∧ (e.st = 3 → e.op = none → e.need = none → 160 < e.ofs →
      s.Yields (.updateVerifyComplete t r) fun m' =>
        (if Config.sha256 e.bodyRead = (e.hdr.drop 0x28).take 32
         then (m'.region r) = { e with hashed := true } ∧ m'.asking (.flash r) = true
         else (m'.region r).st = 5 ∧ (m'.region r).reason = 6 ∧ (m'.region r).owner = 0 ∧ m'.toll = s.m.toll)
        ∧ (m'.region r).bytes = e.bytes ∧ m'.region (1 - r) = s.m.region (1 - r)
        ∧ Mod.Frame t [.nv, .toll] [P.secFlags.addr] s.m m'))

/-- R444, R447: PROVISION_INFO draws a new nonce and returns the device's serial, the nonce, its public key and the count of provisionings.
PROVISION commits an accepted token as R447 says; a refused token changes no item of the dome and answers REFUSED (11). -/
def Obligations.ProvisioningTakesEffect : Prop :=
  ∀ (s : State) (t : Nat) (g : Msg) (x : Session), s.Accepts g x → s.m.gate x g.typ = none →
    (g.typ = 0x0090 → g.body = [] →
      let nonce := padTo 16 (Config.domeRandom s.m.nv.draws)
      s.Yields (.provisionInfo t g) fun m' =>
        Answered g x 0 (leBytes 8 s.m.nv.serial ++ nonce ++ padTo 64 ((s.m.nv.dome.identity.map (·.2)).getD [])
          ++ leBytes 4 s.m.nv.dome.provCount) s.m m'
        ∧ m'.nv.dome = { s.m.nv.dome with nonce := some nonce } ∧ m'.nv.draws = s.m.nv.draws + 1
        ∧ Mod.Frame t [.net, .can, .free, .nv] netCounters s.m m')
    ∧ (∀ pl, g.typ = 0x0091 → g.body.length = 1128 → s.m.tokenCheck g.body = .ok pl →
      s.Yields (.provision t g) fun m' =>
        Answered g x 0 ([0, 0] ++ leBytes 4 m'.nv.dome.provCount) s.m m'
        ∧ m'.nv.dome = s.m.nv.dome.provision ((leAt g.body 6 2).testBit 0) pl ∧ m'.nv.draws = s.m.nv.draws
        ∧ Mod.Frame t [.net, .can, .free, .nv] netCounters s.m m')
    ∧ (∀ reason, g.typ = 0x0091 → g.body.length = 1128 → s.m.tokenCheck g.body = .error reason →
      s.Yields (.provision t g) fun m' =>
        Answered g x 11 (leBytes 1 reason ++ [0] ++ leBytes 4 s.m.nv.dome.provCount) s.m m'
        ∧ Mod.Frame t [.net, .can, .free] (P.secFlags.addr :: netCounters) s.m m')

/-- R364, R389: a link that changes is shown in NET_LINK; the interfaces answer ARP with their own MAC address, and ICMP echo with the data
sent to them, at the port the request came from and nowhere else. R364: a frame for another station leaves at the other port, or at the
port where its address was learned; its sender's address is learned; an address that was not seen for 300 s is forgotten. -/
def Obligations.EthernetPortsAnswer : Prop :=
  ((∀ (s : State) (t port speed : Nat), s.Canonical → port < 2 → speed < 3 → s.m.net.ethBad.contains port = false →
    s.m.bist.phase ≠ .off → s.m.link port ≠ speed →
    s.Yields (.ethLinkChange t port speed) fun m' => m'.link port = speed ∧ m'.link (1 - port) = s.m.link (1 - port)
      ∧ m'.link 2 = s.m.link 2 ∧ Mod.Frame t [] [P.netLink.addr, P.netFlags.addr] s.m m')
  ∧ (∀ (s : State) (t port ip sha spa : Nat), s.m.answers port ip = true →
    s.Yields (.arpRequest t port ip sha spa) fun m' =>
      (∃ f : List Byte, m'.net = { s.m.net with ethOut := s.m.net.ethOut ++ [(port, f)] } ∧ f.length = 42
        ∧ f.take 6 = beBytes 6 sha ∧ (f.drop 6).take 6 = beBytes 6 (s.m.hostMac (port = 2)) ∧ (f.drop 12).take 2 = beBytes 2 0x0806
        ∧ (f.drop 20).take 2 = beBytes 2 2 ∧ (f.drop 22).take 6 = beBytes 6 (s.m.hostMac (port = 2))
        ∧ (f.drop 28).take 4 = beBytes 4 ip)
      ∧ Mod.Frame t [.net] [] s.m m')
  ∧ (∀ (s : State) (t port ip smac sip : Nat) (pl : List Byte), s.m.answers port ip = true →
    s.Yields (.icmpEcho t port ip smac sip pl) fun m' =>
      (∃ f : List Byte, m'.net = { s.m.net with ethOut := s.m.net.ethOut ++ [(port, f)] } ∧ f.take 6 = beBytes 6 smac
        ∧ f.drop 38 = pl)
      ∧ Mod.Frame t [.net, .free] [] s.m m'))
  ∧ ((∀ (s : State) (t port : Nat) (f : List Byte), s.m.evc.raised = [] → s.Canonical → port < 2 → s.m.link port ≠ 0 → s.m.link (1 - port) ≠ 0 →
    s.m.running = true → 14 ≤ f.length →
    let dst := beVal (f.take 6)
    let src := beVal ((f.drop 6).take 6)
    let me : MacEntry := { mac := src, port := port, seen := (s.m.at t).now }
    isPtp f = false → dst ≠ s.m.hostMac false → beVal (f.take 1) % 2 = 0 → src ≠ dst →
    (s.m.net.macs = [] →
      s.Yields (.ethernetFrameReceived t port false f) fun m' =>
        m'.net = { s.m.net with macs := [me], ethOut := s.m.net.ethOut ++ [(1 - port, f)] } ∧ Mod.Frame t [.net] [] s.m m')
    ∧ (∀ e, s.m.net.macs = [e] → e.mac = dst → (s.m.at t).now < e.seen + 300 * 10 ^ 9 → e.port = port →
      s.Yields (.ethernetFrameReceived t port false f) fun m' =>
        m'.net = { s.m.net with macs := [e, me] } ∧ Mod.Frame t [.net] [] s.m m'))
  ∧ (∀ (s : State) (t mac : Nat), s.Yields (.macAgeOut t mac) fun m' =>
      (∀ e, e ∈ m'.net.macs ↔ e ∈ s.m.net.macs ∧ ¬(e.mac = mac ∧ e.seen + 300 * 10 ^ 9 ≤ (s.m.at t).now))
      ∧ m'.net = { s.m.net with macs := m'.net.macs } ∧ Mod.Frame t [.net] [] s.m m'))

/-! ### Writes of registers (chapter 2) -/

/-- R10, R11, R43, R44: a write that the module refuses changes nothing and is answered in a WRITE reply with its status alone; a write of a
W1C field clears the bits that it names, but for those that the module sets at that very instant, and changes no other word. R26, R132,
R184, R207, R256, R391: a write of 1 to a clear command takes the peaks it names to 0 and leaves everything else. R10, R44: outside its
range (1 here), or with a reserved bit, a clear command is refused as a whole and has no effect. -/
def Obligations.RegisterWritesTakeEffect : Prop :=
  ((∀ (s : State) (t role slot a st : Nat) (v : Word) (counts : List (Nat × Nat)), s.m.evc.raised = [] → s.Canonical →
    s.m.running = true → s.m.writeCheck role a v = .error st →
    s.Yields (.registerWrite t (.pair role slot a v) counts) fun m' => m' = s.m.at t)
  ∧ (∀ (s : State) (t role slot a : Nat) (v : Word) (counts : List (Nat × Nat)) (p : Param) (i j : Nat), s.m.evc.raised = [] →
    s.Canonical → s.m.running = true → s.m.writeCheck role a v = .ok (p, i, j) → p.cls = .w1c → a ≠ P.evcFlags.base →
    a ≠ P.logFlags.base →
    s.Yields (.registerWrite t (.pair role slot a v) counts) fun m' =>
      m'.word a = s.m.word a &&& ~~~(v &&& ~~~w32 ((s.m.at t).marked a)) ∧ (∀ c, c ≠ a → m'.word c = s.m.word c) ∧ Mod.Frame t [] [a] s.m m')
  ∧ (∀ (s : State) (t role slot : Nat) (counts : List (Nat × Nat)), s.m.evc.raised = [] → s.Canonical → s.m.running = true →
    s.Yields (.registerWrite t (.pair role slot P.evcFlags.base 1#32) counts) fun m' =>
      m'.evc = { s.m.evc with dropFlag := s.m.evc.dropFlag && ((s.m.at t).marked P.evcFlags.base).testBit 0 } ∧ Mod.Frame t [] [] s.m m')
  ∧ (∀ (s : State) (t role slot : Nat) (v : Word) (counts : List (Nat × Nat)), s.m.evc.raised = [] → s.Canonical → s.m.running = true →
    v.toNat < 16 →
    s.Yields (.registerWrite t (.pair role slot P.logFlags.base v) counts) fun m' =>
      (∀ b, m'.log.flags.testBit b = (s.m.log.flags.testBit b && (!v.toNat.testBit b || ((s.m.at t).marked P.logFlags.base).testBit b)))
      ∧ m'.log = { s.m.log with flags := m'.log.flags } ∧ m'.evc = s.m.evc ∧ Mod.Frame t [] [] s.m m')
  ∧ (∀ (s : State) (t : Nat) (g : Msg) (x : Session) (counts : List (Nat × Nat)) (st : Nat), s.Accepts g x →
    s.m.gate x g.typ = none → g.typ = 0x0011 → g.body.length = 12 → leAt g.body 0 2 = 1 → s.m.running = true →
    ((s.m.at t).accepting g x).writeCheck x.role (leAt g.body 4 4) (w32 (leAt g.body 8 4)) = .error st →
    s.Yields (.registerWrite t (.msg g) counts) fun m' =>
      Answered g x 0 (leBytes 2 1 ++ leBytes 2 st) s.m m' ∧ Mod.Frame t [.net, .can, .free] netCounters s.m m'))
  ∧ (∀ (s : State) (t role : Nat), s.m.evc.raised = [] → s.Canonical → s.m.running = true →
    s.Yields (.sysDecLatClr t role 1#32) (fun m' => m'.rd P.sysDecLatMax = 0
      ∧ Mod.Frame t [] [P.sysDecLatClr.addr, P.sysDecLatMax.addr] s.m m')
    ∧ s.Yields (.cellClr t role 1#32) (fun m' => m'.rd P.cellSlotsPeak = 0 ∧ m'.rd P.cellWaitMax = 0
      ∧ Mod.Frame t [] [P.cellClr.addr, P.cellSlotsPeak.addr, P.cellWaitMax.addr] s.m m')
    ∧ s.Yields (.trkClr t role 1#32) (fun m' => m'.rd P.trkLivePeak = 0 ∧ Mod.Frame t [] [P.trkClr.addr, P.trkLivePeak.addr] s.m m')
    ∧ s.Yields (.ejClr t role 1#32) (fun m' => m'.rd P.ejQPeak = 0 ∧ m'.rd P.ejEnergisedPeak = 0 ∧ m'.rd P.ejShiftMax = 0
      ∧ (∀ b, b < 24 → m'.rd P.ejBankWaitMax b = 0)
      ∧ Mod.Frame t [] ([P.ejClr.addr, P.ejQPeak.addr, P.ejEnergisedPeak.addr, P.ejShiftMax.addr]
          ++ (List.range 24).map (fun b => P.ejBankWaitMax.addr b)) s.m m')
    ∧ s.Yields (.tollClr t role 1#32) (fun m' => (∀ n, n < 5 → m'.rd P.tollWaitMax n = 0)
      ∧ Mod.Frame t [] (P.tollClr.addr :: (List.range 5).map (fun n => P.tollWaitMax.addr n)) s.m m')
    ∧ s.Yields (.evcClr t role 1#32) (fun m' => m'.evc = { s.m.evc with peak := 0 } ∧ Mod.Frame t [] [P.evcClr.addr] s.m m'))
  ∧ (∀ (s : State) (t role slot : Nat) (v : Word) (cut : Bool), s.m.evc.raised = [] → s.Canonical → v ≠ 1#32 →
    ∀ c ∈ [Instr.sysDecLatClr t role v, .cellClr t role v, .trkClr t role v, .ejClr t role v, .tollClr t role v, .evcClr t role v,
        .fusMotionReset t role v, .trkLot t role v, .gnssAccept t role v, .gnssCold t role v, .perfSnap t role v [],
        .deepTest t role slot v cut],
      s.Yields c fun m' => m' = s.m.at t)

/-! ### Event delivery and the recorder (chapters 16 and 17) -/

/-- R384, R385: the firmware takes the event at the head of the queue; EVC_LAST of its source follows if it had the FW route, and every open
session that admits it takes it into its stream buffer, where there is room. R386: when an EVENT message is due, the session in slot `i`
is sent its oldest events, at most 39, with the number it lost. -/
def Obligations.EventsReachFirmwareAndSessions : Prop :=
  (∀ (s : State) (t : Nat) (e : Ev) (q : List Ev), s.m.evc.raised = [] → s.m.evc.q = e :: q →
    ((s.m.net.sessions.map (·.id)).Nodup) → (∀ x ∈ s.m.net.sessions, x.buf.length < 256) →
    s.Yields (.evcQueueService t 1) fun m' =>
      m'.evc = { s.m.evc with q := q, tick := [],
                              last := if e.fw then assocSet s.m.evc.last e.src (e.code, e.raw % 2 ^ 32) else s.m.evc.last }
      ∧ m'.net = { s.m.net with sessions := s.m.net.sessions.map (fun x =>
          if x.opened = true ∧ e.stream = true ∧ (∃ b, x.sub = some b ∧ b.mask.testBit e.src = true ∧ e.prio ≤ b.maxPrio)
          then { x with buf := x.buf ++ [e] } else x) }
      ∧ Mod.Frame t [.evc, .net] [] s.m m')
  ∧ (∀ (s : State) (t i : Nat) (x : Session), s.m.net.sessions.find? (fun y => y.idx = i && y.opened) = some x →
    s.m.session? x.id = some x → x.sub.isSome = true → (s.m.at t).streamDue x = true →
    s.Yields (.eventStreamSend t i) fun m' =>
      (∃ o : OutMsg, m'.net.sent = s.m.net.sent ++ [o] ∧ o.typ = 0x0051 ∧ o.kind = 2 ∧ o.sid = x.id ∧ o.seq = x.msgNo + 1
        ∧ o.tr = x.tr ∧ o.peer = x.peer
        ∧ o.body = leBytes 2 (Nat.min 39 x.buf.length) ++ leBytes 2 (Nat.min x.lost 65535) ++ (x.buf.take 39).flatMap Ev.item
        ∧ (∃ y, m'.session? x.id = some y ∧ y.buf = x.buf.drop 39 ∧ y.lost = 0 ∧ y.msgNo = x.msgNo + 1
            ∧ y.held = (o :: x.held).take 16))
      ∧ Mod.Frame t [.net, .can, .free] [P.netTxMsgs.addr] s.m m')

/-- R394, R395, R396, R400, R401: once it has its pointers (log 150) the recorder writes the record at the head of its queue whole, with the
next number and the operating seconds and power cycles of its writing, into slot NEXT mod 8192; when full it counts the record and
writes nothing; the record that meets the last free slot is replaced by the full record 0x0A01, and the recorder stops. Where power
fails during a writing, outside RUNNING, that record alone is torn: its slot's CHECK is wrong, and the module waits for its next start.
R399: at an interval's end a pair that had suppressions has its summary 0x0A02 written (code, source, number) as the next record, and
its number starts again at 0. R403: a write of LOG_CURSOR loads up to 16 records from that number into LOG_WINDOW in one step, none
where the number lies before OLDEST or after NEXT. -/
def Obligations.RecorderWritesInOrder : Prop :=
  (∀ (s : State) (t : Nat) (r : Rec) (q : List Rec), s.m.evc.raised = [] → s.m.log.q = r :: q → s.m.log.ready = true →
    (s.m.log.full = false → s.m.log.fill < 8191 → s.m.log.warned = false →
        (s.m.rd P.logWarnFill = 0 ∨ s.m.log.fill + 1 < s.m.rd P.logWarnFill) →
      s.Yields (.recorderWrite t false) fun m' =>
        m'.log = { s.m.log with q := q, next := (s.m.log.next + 1) % 2 ^ 32 }
        ∧ (∃ w : Rec, m'.nv.slots = assocSet s.m.nv.slots (s.m.log.next % 8192) w ∧ w.check = w.checkOf
          ∧ { w with check := 0 } = { r with seq := s.m.log.next, opSec := s.m.log.opSec, cycle := s.m.log.cycles, check := 0 })
        ∧ m'.evc = s.m.evc ∧ Mod.Frame t [] [] s.m m')
    ∧ (s.m.log.full = true → s.m.rd P.logWarnFill = 0 → s.m.log.warned = false →
      s.Yields (.recorderWrite t false) fun m' =>
        m'.log = { s.m.log with q := q, notRecorded := (s.m.log.notRecorded + 1) % 2 ^ 32 }
        ∧ m'.nv = s.m.nv ∧ m'.evc = s.m.evc ∧ Mod.Frame t [] [] s.m m')
    ∧ (s.m.log.full = false → s.m.log.fill = 8191 → s.m.rd P.logWarnFill = 0 → s.m.log.warned = false →
        s.m.evc.q.length < 4096 → s.m.NoTrace 120 →
      s.Yields (.recorderWrite t false) fun m' =>
        m'.log = { s.m.log with q := q, full := true, flags := s.m.log.flags ||| 1, next := (s.m.log.next + 1) % 2 ^ 32 }
        ∧ (∃ w : Rec, m'.nv.slots = assocSet s.m.nv.slots (s.m.log.next % 8192) w ∧ w.seq = s.m.log.next ∧ w.code = 0x0A01 ∧ w.src = 120
          ∧ w.internal = true ∧ w.data = padTo 8 (leBytes 2 r.code ++ leBytes 1 r.src))
        ∧ Mod.Frame t [] [] s.m m')
    ∧ (s.m.running = false → s.m.log.full = false →
      s.Yields (.recorderWrite t true) fun m' =>
        ∃ w : Rec, w.check ≠ w.checkOf
          ∧ Restarted { s.m.nv with slots := assocSet s.m.nv.slots (s.m.log.next % 8192) w } s.m.nv.cause s.m m'))
  ∧ (∀ (s : State) (t : Nat) (b : Bucket), s.m.evc.raised = [] → s.m.log.ivals < (s.m.at t).now / 10 ^ 9 → s.m.log.buckets = [b] →
    b.suppressed ≠ 0 → s.m.log.ready = true → s.m.log.full = false → s.m.log.fill < 8191 → s.m.log.warned = false → s.m.rd P.logWarnFill = 0 →
    s.m.evc.q.length < 4096 →
    s.m.NoTrace 120 →
    s.Yields (.logIntervalEnd t) fun m' =>
      (∃ w : Rec, m'.nv.slots = assocSet s.m.nv.slots (s.m.log.next % 8192) w ∧ w.seq = s.m.log.next ∧ w.code = 0x0A02 ∧ w.src = 120
        ∧ w.internal = true ∧ w.data = padTo 8 (leBytes 2 b.code ++ leBytes 1 b.src ++ [0] ++ leBytes 4 b.suppressed))
      ∧ m'.log.next = (s.m.log.next + 1) % 2 ^ 32 ∧ m'.log.ivals = (s.m.at t).now / 10 ^ 9
      ∧ (m'.bucket b.src b.code).suppressed = 0 ∧ (m'.bucket b.src b.code).tokens = Nat.min (s.m.rd P.logBurst) b.tokens
      ∧ Mod.Frame t [.log] [] s.m m')
  ∧ (∀ (s : State) (t role : Nat) (v : Word), s.m.evc.raised = [] → s.Canonical → s.m.running = true →
    s.Yields (.logCursor t role v) fun m' =>
      m'.log.winFirst = v.toNat ∧ m'.log.winClears = s.m.log.clears
      ∧ m'.log.window = (if s.m.log.holds v.toNat then s.m.recsFrom v.toNat 16 else []) ∧ m'.log.window.length ≤ 16
      ∧ m'.nv = s.m.nv ∧ m'.evc = s.m.evc ∧ Mod.Frame t [.log] [P.logCursor.addr] s.m m')

/-- R393, R398, R399: operating seconds count the whole seconds of raw counts; each bucket gains the tokens that have fallen due, up to
LOG_BURST; an interval in which nothing was suppressed ends with no record. -/
def Obligations.RecorderClocksRun : Prop :=
  ∀ (s : State) (t : Nat), s.m.evc.raised = [] →
    let now := (s.m.at t).now
    let due := now * s.m.rd P.logRate / 10 ^ 9
    s.Yields (.operatingSecond t) (fun m' =>
      m'.log = { s.m.log with opSec := (s.m.log.opSec + (now / 10 ^ 9 - s.m.log.secs)) % 2 ^ 32, secs := Nat.max (now / 10 ^ 9) s.m.log.secs }
      ∧ m'.evc = s.m.evc ∧ m'.nv = s.m.nv ∧ Mod.Frame t [.log] [] s.m m')
    ∧ ((s.m.log.buckets.map (fun b => (b.src, b.code))).Nodup →
      s.Yields (.logToken t) fun m' =>
        (∀ src code, (m'.bucket src code).tokens = Nat.min (s.m.rd P.logBurst) ((s.m.bucket src code).tokens + (due - s.m.log.toks))
          ∧ (m'.bucket src code).suppressed = (s.m.bucket src code).suppressed)
        ∧ m'.log = { s.m.log with buckets := m'.log.buckets, toks := Nat.max due s.m.log.toks }
        ∧ m'.evc = s.m.evc ∧ m'.nv = s.m.nv ∧ Mod.Frame t [.log] [] s.m m')
    ∧ (s.m.log.ivals < now / 10 ^ 9 → (∀ b ∈ s.m.log.buckets, b.suppressed = 0) →
      s.Yields (.logIntervalEnd t) fun m' => m'.log = { s.m.log with ivals := now / 10 ^ 9 } ∧ m'.evc = s.m.evc ∧ m'.nv = s.m.nv
        ∧ Mod.Frame t [.log] [] s.m m')

/-! ### Start-up, milestones and restarts (chapter 18) -/

/-- R408, R436, R447: the start condition begins the power-up sequence at raw count 0 with the contacts and the supply as found, with the
keys of the dome as they stand (which a provisioning of this run does not change) and the images whose header stands whole; a dip below
9 V before the road book is applied ends the sequence, and the non-volatile store stands. Where the condition is not met nothing
happens. R408, R410 to R412: core tests 0 to 4 that all pass restore the milestone and let the sequence go on; the first that fails
takes the module into SAFE with the test's cause; one that was not run is tried again; after 5 s without a run the module is in SAFE,
cause 7. -/
def Obligations.StartConditionBeginsSequence : Prop :=
  ((∀ (s : State) (t mv : Nat) (board : Int) (tap rec : Bool), s.m.bist.phase.startable = true → 9500 ≤ mv →
      (s.m.nv.tripped = true → board ≤ 950) →
    s.Yields (.startCondition t mv board tap rec) fun m' =>
      m'.now = 0 ∧ m'.bist.phase = .core ∧ m'.bist.tapHeld = tap ∧ m'.bist.recHeld = rec ∧ m'.bist.retryAt = none
      ∧ m'.nv.tripped = false ∧ m'.toll.logicIn = mv ∧ m'.nv.ms = s.m.nv.ms ∧ m'.nv.calu = s.m.nv.calu ∧ m'.nv.slots = s.m.nv.slots
      ∧ m'.nv.dome.slots = s.m.nv.dome.slots ∧ m'.nv.dome.modelKey = s.m.nv.dome.modelKey ∧ m'.nv.dome.nonce = none
      ∧ m'.nv.dome.pending = (s.m.nv.dome.pending || tap) ∧ m'.nv.regions.map (·.bytes) = s.m.nv.regions.map (·.bytes)
      ∧ m'.bist.actModel = s.m.nv.dome.modelKey ∧ m'.bist.actVkeys = s.m.nv.dome.vkeys
      ∧ (∀ r, r < 2 → s.m.nv.regions.length = 2 → (m'.region r).img =
          if (s.m.region r).cut = false ∧ (s.m.region r).bytes.take 4 = (if r = 0 then [0x4B#8, 0x5A#8, 0x46#8, 0x57#8] else [0x4B#8, 0x5A#8, 0x52#8, 0x42#8])
          then (s.m.region r).bytes else [])
      ∧ m'.net.sessions = [] ∧ m'.evc.q = [] ∧ m'.evc.seq = 0 ∧ m'.sys.rb = none)
  ∧ (∀ (s : State) (t mv : Nat) (board : Int) (tap rec : Bool), s.m.evc.raised = [] → s.Canonical →
      s.m.bist.phase.startable = false ∨ mv < 9500 ∨ (s.m.nv.tripped = true ∧ 950 < board) →
    s.Yields (.startCondition t mv board tap rec) fun m' => m' = s.m.at t)
  ∧ (∀ (s : State) (t mv : Nat), s.m.bist.phase ∈ [Phase.core, .tests, .checks, .memory, .rbInvalid, .safe, .recovery] → mv < 9000 →
    s.Yields (.startSupplyDip t mv) fun m' => Restarted s.m.nv s.m.nv.cause s.m m')
  ∧ (∀ (s : State) (t mv : Nat), s.m.evc.raised = [] → s.Canonical → s.m.bist.phase ∈ [Phase.outputs, .ready, .running] →
    s.Yields (.startSupplyDip t mv) fun m' => m' = s.m.at t))
  ∧ (∀ (s : State) (t : Nat) (res : List TestRes), s.Canonical → s.m.bist.phase = .core → s.m.nv.dome.pending = false →
    (s.m.toll.logicUp = true → s.m.bist.retryAt = none → res.map (·.test) = [0, 1, 2, 3, 4] →
      (∀ k, k < 5 → (∀ r ∈ res, r.result = if r.test = k then 1 else 0) →
        s.Yields (.coreTestsComplete t res) fun m' => m'.bist.phase = .safe ∧ m'.rd P.bistSafeCause = k + 1)
      ∧ (∀ c, (∀ r ∈ res, r.result = 0) → s.m.nv.milestone = some c → s.m.firmwareOk = true → s.m.bist.recHeld = false →
        s.Yields (.coreTestsComplete t res) fun m' => m'.bist.phase = .tests ∧ m'.bist.retryAt = none
          ∧ m'.log.cycles = (s.m.nv.cycles + 1) % 2 ^ 24 ∧ m'.nv.cycles = m'.log.cycles ∧ m'.bist.life = c.life
          ∧ m'.bist.serial = (c.serial + 65536) % 2 ^ 32 ∧ m'.bist.msNum = c.num + 1 ∧ m'.trk.map = c.map ∧ m'.trk.lotId = c.lotId
          ∧ m'.log.ready = true ∧ m'.log.opSec = (c.opSec + s.m.log.opSec) % 2 ^ 32 ∧ m'.nv.ms = s.m.nv.ms
          ∧ (assocGet s.m.nv.slots (c.next % 8192) = none → ({ oldest := c.oldest, next := c.next } : LogSt).fill ≤ 8192 →
              m'.log.oldest = c.oldest))
      ∧ ((∀ r ∈ res, r.result = 0 ∨ r.result = 2) → (∃ r ∈ res, r.result = 2) →
        s.Yields (.coreTestsComplete t res) fun m' => m'.bist = { s.m.bist with retryAt := some (s.m.at t).now }
          ∧ Mod.Frame t [.bist] ((List.range 5).flatMap (fun n => [P.bistRes.addr n, P.bistUnit.addr n, P.bistUnits.addr n])) s.m m'))
    ∧ (∀ t0 c r, s.m.bist.retryAt = some t0 → t0 + 100000000 ≤ (s.m.at t).now → res = [r] → r.test < 5 → r.result = 0 →
        s.m.testResult r.test = 2 → (∀ n, n < 5 → n ≠ r.test → s.m.testResult n = 0) → s.m.nv.milestone = some c →
        s.m.firmwareOk = true → s.m.bist.recHeld = false →
      s.Yields (.coreTestRetry t res) fun m' => m'.bist.phase = .tests ∧ m'.bist.retryAt = none ∧ m'.bist.life = c.life
        ∧ m'.bist.msNum = c.num + 1 ∧ m'.log.cycles = (s.m.nv.cycles + 1) % 2 ^ 24)
    ∧ (s.m.bist.retryAt.isSome = true → 5000000000 ≤ (s.m.at t).now →
      s.Yields (.coreTestNotRunTimeout t) fun m' => m'.bist.phase = .safe ∧ m'.rd P.bistSafeCause = 7))

/-- R32, R122, R123, R408, R410, R411, R440, R454: the cell test leaves each tower's usable cells, a tower with more than 4 failed cells out
of service, and the logical towers counted over those in service; checks 1 to 13 let the parsed road book go on to the main memory test,
or take the module to ROADBOOK_INVALID with the check's code and offset; the models are decrypted into main memory, and in PAIRED the
towers of job copies lend their ledger; a memory channel with more than 4,096 failing lines, or a memory test not run for its clock,
takes it into SAFE. A cell test not run leaves no tower in service. -/
def Obligations.RoadBookIsCheckedAtStart : Prop :=
  (∀ (s : State) (t : Nat) (res : List TestRes) (badCells badTowers : List Nat), s.m.bist.phase = .tests →
      (∀ r ∈ res, r.test = 6 → r.result ≠ 2) →
    s.Yields (.cellTestComplete t res badCells badTowers) fun m' => m'.bist.phase = .checks ∧ m'.cell.towers.length = 16
      ∧ (∀ k, k < 16 →
          ((m'.cell.towers.getD k {}).ok = true ↔ k ∉ badTowers ∧ ((badCells.filter (fun c => c / 64 = k)).eraseDups).length ≤ 4)
          ∧ (∀ c, c < 64 → ((m'.cell.towers.getD k {}).cells.testBit c = true ↔ 64 * k + c ∉ badCells)))
      ∧ Mod.Frame t [.bist, .cell, .cams, .panels, .can, .net, .loop]
          (P.bistFlags.addr :: [6, 7, 8, 12, 13, 14, 15].flatMap (fun n => [P.bistRes.addr n, P.bistUnit.addr n, P.bistUnits.addr n])) s.m m')
  ∧ (∀ (s : State) (t : Nat) (res : List TestRes) (badCells badTowers : List Nat), s.m.bist.phase = .tests →
      (∃ r ∈ res, r.test = 6 ∧ r.result = 2) →
    s.Yields (.cellTestComplete t res badCells badTowers) fun m' => m'.bist.phase = .checks ∧ m'.towersOk = []
      ∧ ∀ k, k < 16 → ∀ c, c < 64 → (m'.cell.towers.getD k {}).cells.testBit c = false)
  ∧ (∀ (s : State) (t : Nat) (e : Option Nat), s.m.bist.phase = .checks →
    (∀ rb, checkRoadBook (s.m.at t) e = .ok rb →
      s.Yields (.roadbookChecksComplete t e) fun m' => m'.bist = { s.m.bist with phase := .memory }
        ∧ m'.sys = { s.m.sys with parsed := some rb } ∧ Mod.Frame t [.bist, .sys] [] s.m m')
    ∧ (∀ code off, checkRoadBook (s.m.at t) e = .error (code, off) → s.Canonical →
      s.Yields (.roadbookChecksComplete t e) fun m' => m'.bist = { s.m.bist with phase := .rbInvalid } ∧ m'.log.judged = true
        ∧ m'.rd P.sysRbStatus = code % 2 ^ P.sysRbStatus.w ∧ m'.rd P.sysRbOffset = off % 2 ^ P.sysRbOffset.w ∧ m'.sys = s.m.sys
        ∧ m'.nv.dome = { s.m.nv.dome with rollback := Nat.max s.m.nv.dome.rollback s.m.bist.fwRollback }
        ∧ Mod.Frame t [.bist, .nv, .log] [P.sysRbStatus.addr, P.sysRbOffset.addr] s.m m'))
  ∧ (∀ (s : State) (t : Nat) (res : TestRes) (bad : List (Nat × Nat)) (rb : RoadBook), s.m.bist.phase = .memory → res.test = 5 →
      s.m.sys.parsed = some rb →
    ((∀ ch, ch < 4 → (bad.filter (fun l => l.1 = ch)).length ≤ 4096) → res.result ≠ 2 → s.m.lastChecks rb = none →
      s.Yields (.mainMemoryTestComplete t res bad none) fun m' => m'.bist.phase = .outputs ∧ m'.bist.retired = bad
        ∧ m'.sys.rb = some rb ∧ m'.sys.parsed = none ∧ m'.log.judged = true
        ∧ (∀ key, s.m.bist.actModel = some key →
            m'.cell.models = rb.models.map (fun d => (d.id, d.kind, modelPlain key rb.id d)))
        ∧ m'.perf.lent = (if m'.paired then maskOf m'.jobHosts else 0))
    ∧ (∀ e, s.Canonical → (res.result = 2 ∨ ∃ ch, ch < 4 ∧ 4096 < (bad.filter (fun l => l.1 = ch)).length) →
      s.Yields (.mainMemoryTestComplete t res bad e) fun m' => m'.bist = { s.m.bist with phase := .safe, fwVersion := 0 }
        ∧ m'.rd P.bistSafeCause = 6 ∧ m'.sys = s.m.sys))

/-- R409 to R411: the output tests leave the deferred tests waiting and the module ready; RUNNING is entered with E_0 the first multiple of
1,000 at or after that instant; a deferred test that runs is no longer deferred; TAP_EN outside a start condition is only noted (R441).
-/
def Obligations.RunningIsEntered : Prop :=
  (∀ (s : State) (t : Nat) (res : List TestRes) (opens : List Nat) (board : Int), s.m.bist.phase = .outputs →
    s.Yields (.outputTestsComplete t res opens board) fun m' => m'.bist.phase = .ready
      ∧ m'.bist.deferred = (res.filter (fun r => 9 ≤ r.test && r.test ≤ 11 && r.result = 3)).map (·.test) ∧ m'.bist.e0 = s.m.bist.e0)
  ∧ (∀ (s : State) (t : Nat), s.Canonical → s.m.bist.phase = .ready → (∀ c ∈ s.m.cams, c.tplQ = []) →
    s.Yields (.enterRunning t) fun m' => m'.bist.phase = .running ∧ m'.bist.e0 % 1000 = 0 ∧ (s.m.at t).now ≤ m'.bist.e0
      ∧ m'.bist.e0 < (s.m.at t).now + 1000 ∧ m'.bist.msIdx = 0
      ∧ m'.rd P.bistStartMs = Nat.min 65535 ((s.m.at t).now / 1000000)
      ∧ Mod.Frame t [.bist, .trk, .cell, .cams, .fus, .nv, .lsw, .toll] [P.bistStartMs.addr] s.m m')
  ∧ (∀ (s : State) (t : Nat) (r : TestRes) (opens : List Nat), s.m.running = true → s.m.bist.deferred.contains r.test = true →
      9 ≤ r.test → r.test ≤ 11 → r.result ≠ 3 → s.m.supplyHeld r.test = true →
    s.Yields (.deferredTestRun t r opens) fun m' =>
      m'.bist = { s.m.bist with deferred := s.m.bist.deferred.filter (fun k => k ≠ r.test) }
      ∧ Mod.Frame t [.bist, .vlv, .lsw, .toll] [P.bistRes.addr r.test, P.bistUnit.addr r.test, P.bistUnits.addr r.test, P.bistFlags.addr] s.m m')
  ∧ (∀ (s : State) (t : Nat), s.Canonical → s.m.bist.phase ≠ .off →
    s.Yields (.tapEnIgnored t) fun m' => (m'.rd P.secFlags).testBit 2 = true ∧ Mod.Frame t [] [P.secFlags.addr] s.m m')

/-- R415 to R417: at its commit instant a milestone writes the state at that instant, with the milestone number, into copy number mod 2 and
leaves the other copy; a write that fails leaves the other copy as the last valid one, and the second failure in succession restarts the
module with cause 5. R413, R419, R422, R466: the watchdog restarts a running module with cause 4, nothing closed and nothing committed;
a deep test erases the dome's secrets, drives every output off, and 12 s later restarts with cause 6 and its result; power that fails
during the erasure leaves its mark; at 110.0 °C LOGIC_IN is disconnected, which ends a start that has not reached RUNNING. -/
def Obligations.MilestonesCommitAndRestartsFollow : Prop :=
  ((∀ (s : State) (t : Nat) (counts : List (Nat × Nat)), s.Canonical → s.m.running = true → s.m.nv.ms.length = 2 →
      s.m.bist.e0 + s.m.bist.msIdx * 5000000 ≤ (s.m.at t).now →
    s.Yields (.milestone t counts) fun m' =>
      (∃ c : MsCopy, m'.nv.ms = s.m.nv.ms.set (s.m.bist.msNum % 2) c ∧ c.ok = true ∧ c.c.num = s.m.bist.msNum
        ∧ c.c.mj = s.m.bist.e0 + s.m.bist.msIdx * 5000000 ∧ c.c.tally = s.m.trk.tally ∧ c.c.life = s.m.bist.life
        ∧ c.c.serial = s.m.bist.serial ∧ c.c.recipe = s.m.sys.recipe ∧ c.c.pend = s.m.sys.pend.map (·.1) ∧ c.c.dials = s.m.persistent
        ∧ c.c.rbId = s.m.sys.rb.map (·.id) ∧ c.c.oldest = s.m.log.oldest ∧ c.c.next = s.m.log.next ∧ c.c.clears = s.m.log.clears
        ∧ c.c.opSec = s.m.log.opSec ∧ c.c.cycles = s.m.log.cycles ∧ c.c.unacc = s.m.bist.unacc ∧ c.c.unaccFirst = s.m.bist.unaccFirst
        ∧ c.c.lotId = m'.trk.lotId ∧ c.c.map = m'.trk.map)
      ∧ m'.bist = { s.m.bist with msNum := s.m.bist.msNum + 1, msIdx := s.m.bist.msIdx + 1,
                                  fails := if s.m.bist.msFailed then s.m.bist.fails else 0, msFailed := false }
      ∧ (s.m.trk.lotReq = true → m'.trk.lotId = (s.m.trk.lotId + 1) % 2 ^ 32 ∧ m'.trk.map = [] ∧ m'.trk.lotReq = false)
      ∧ (s.m.trk.lotReq = false → m'.trk = s.m.trk) ∧ m'.perf.snapSeq = (s.m.perf.snapSeq + 1) % 2 ^ 32
      ∧ Mod.Frame t [.bist, .nv, .trk, .gnss, .perf, .free] [P.bistMsSeq.addr, P.bistMsT.addr] s.m m')
  ∧ (∀ (s : State) (t : Nat), s.Canonical → s.m.running = true → s.m.bist.msFailed = false → s.m.bist.msIdx ≠ 0 →
      s.m.bist.msNum ≠ 0 → s.m.nv.ms.length = 2 →
    let n := s.m.bist.msNum - 1
    (s.m.bist.fails = 0 →
      s.Yields (.milestoneWriteFailed t) fun m' => (m'.nv.ms[n % 2]?).map (·.ok) = some false
        ∧ m'.nv.ms[(n + 1) % 2]? = s.m.nv.ms[(n + 1) % 2]?
        ∧ m'.rd P.bistMsFails = (s.m.rd P.bistMsFails + 1) % 2 ^ P.bistMsFails.w
        ∧ m'.bist = { s.m.bist with msFailed := true, fails := 1 }
        ∧ Mod.Frame t [.bist, .nv] [P.bistMsFails.addr, P.bistFlags.addr, P.bistMsSeq.addr, P.bistMsT.addr] s.m m')
    ∧ (1 ≤ s.m.bist.fails →
      s.Yields (.milestoneWriteFailed t) fun m' => m'.bist = { phase := .off } ∧ m'.nv.cause = 5 ∧ (m'.nv.ms[n % 2]?).map (·.ok) = some false
        ∧ m'.nv.ms[(n + 1) % 2]? = s.m.nv.ms[(n + 1) % 2]? ∧ m'.evc.q = [] ∧ m'.net.sessions = [])))
  ∧ ((∀ (s : State) (t : Nat), s.m.running = true →
    s.Yields (.supervisoryWatchdog t) fun m' => Restarted s.m.nv 4 s.m m')
  ∧ (∀ (s : State) (t role slot : Nat), s.Canonical → s.m.running = true → 1 ≤ role →
    s.Yields (.deepTest t role slot 1#32 false) fun m' => m'.bist.phase = .deep ∧ m'.nv.dome.slots = [] ∧ m'.nv.dome.modelKey = none
      ∧ m'.nv.dome.erased = true ∧ m'.nv.dome.eraseCause = 2 ∧ m'.nv.dome.eraseCount = (s.m.nv.dome.eraseCount + 1) % 2 ^ 32
      ∧ m'.rd P.bistSafeCause = 0x12 ∧ m'.bist.deepAt = (s.m.at t).now ∧ m'.now = (s.m.at t).now
      ∧ (∀ p ∈ [Area.cams, .panels, .cell, .fus, .trk, .ej, .vlv, .toll, .lsw, .loop, .gnss, .can], p.same {} m')
      ∧ m'.time.pps = false ∧ m'.time.outs = ({} : TimeSt).outs)
  ∧ (∀ (s : State) (t role slot : Nat), s.Canonical → s.m.running = true → 1 ≤ role →
    s.Yields (.deepTest t role slot 1#32 true) fun m' => m'.bist = { phase := .off } ∧ m'.nv.cause = 1 ∧ m'.nv.dome.pending = true
      ∧ m'.nv.dome.pendCause = 2 ∧ m'.nv.dome.slots = s.m.nv.dome.slots ∧ m'.net.sessions = [] ∧ m'.trk.live = [])
  ∧ (∀ (s : State) (t result coverage duration : Nat), s.m.bist.phase = .deep → s.m.bist.deepAt + 12000000000 ≤ (s.m.at t).now →
      s.m.log.q = [] → s.m.evc.raised = [] →
    s.Yields (.deepTestComplete t result coverage duration) fun m' =>
      Restarted { s.m.nv with deepRes := w32 (result % 4 * 2 ^ 30 + coverage % 2 ^ 14 * 2 ^ 16 + duration % 2 ^ 16) } 6 s.m m')
  ∧ (∀ (s : State) (t : Nat) (board : Int), 1100 ≤ board → s.m.running = true → s.m.toll.holdup = false →
    s.Yields (.boardThermalTrip t board) fun m' => m'.nv.tripped = true ∧ m'.toll.holdup = true ∧ m'.toll.logicIn = 0
      ∧ m'.toll.holdupAt = (s.m.at t).now ∧ m'.bist = s.m.bist
      ∧ Mod.Frame t [.nv, .toll, .free] [P.vlvTBoard.addr, P.tollFlags.addr, P.tollHoldups.addr] s.m m')
  ∧ (∀ (s : State) (t : Nat) (board : Int), 1100 ≤ board → s.m.running = false → s.m.bist.phase ≠ .off → s.m.toll.holdup = false →
    s.Yields (.boardThermalTrip t board) fun m' => Restarted { s.m.nv with tripped := true } s.m.nv.cause s.m m'))

/-- R47 to R49, R180: RECIPE_EFFECTIVE completes: at the effective instant of a pending recipe `exec` answers the next state in which that
recipe is in force, all at once: its words, its place in SYS_RECIPE_NOW, its GNSS mode, and its tally's interval, with the old recipe's
interval closed to new pieces. Before that instant, and with no recipe pending, it changes nothing. -/
def Obligations.RecipeTakesEffect : Prop :=
  (∀ (s : State) (t n acc : Nat) (rb : RoadBook), s.Canonical → s.m.running = true → s.m.sys.pend = some (n, acc) → s.m.sys.rb = some rb →
      n < 16 → s.m.effectiveAt acc ≤ (s.m.at t).now →
    let words := (s.m.at t).recipeWords rb s.m.sys.recipe n
    let others := [P.sysRecipeNow.addr, P.sysSuspect.addr, P.bgSuperseded.addr 0, P.bgSuperseded.addr 1,
      P.timeFreq.addr, P.timeSlewLeft.addr, P.timeHoldovers.addr, P.timeFlags.addr]
    ∃ m', exec (.recipeEffective t) s = .next { s with m := m' }
      ∧ m'.sys.recipe = n ∧ m'.sys.pend = none ∧ m'.sys.at_ = s.m.effectiveAt acc ∧ m'.sys.gnssMode = rb.gnssOf n
      ∧ m'.sys.rb = s.m.sys.rb ∧ m'.sys.calu = s.m.sys.calu ∧ m'.rd P.sysRecipeNow = n
      ∧ ((words.map (·.1)).Nodup → ∀ a v, (a, v) ∈ words → a ∉ others → a ≠ P.loopFlags.addr → m'.word a = v)
      ∧ (s.m.trk.tally.length = 16 → s.m.sys.recipe < 16 → (m'.tally n).isOpen = true ∧ (m'.tally n).tOpen = (s.m.at t).raw
          ∧ (n ≠ s.m.sys.recipe → (m'.tally s.m.sys.recipe).isOpen = false))
      ∧ Mod.Frame t [.free, .sys, .cams, .panels, .fus, .trk, .toll, .lsw, .gnss, .time] (words.map (·.1) ++ others) s.m m')
  ∧ (∀ (s : State) (t : Nat), s.Canonical → s.m.evc.raised = [] →
      (∀ n acc, s.m.sys.pend = some (n, acc) → (s.m.at t).now < s.m.effectiveAt acc) →
    exec (.recipeEffective t) s = .next { s with m := s.m.at t })

/-! ### Camera ports (chapter 3) -/

/-- R66 to R68, R84, R99: the port's next EXP pulse rises at its place in the train, ON or OFF and as wide as the settings in force say, and
carries the panels' state of its instant; on a port that has lost its clock it is a lost line; a frame begins on a port in service, or
on one whose clock has come (back), with the settings set that awaited it. R62 to R66, R70, R71, R74: a whole line that follows the last
takes its pulse's place, exposure centre, samples and panel marks; one that the causeway discarded, one of a wrong length, and a second
one on its pulse keep their place in the sequence and nothing else; pulses without a line before a frame's first leave lost lines behind
the frame before; the frame ends, SHORT where its latch point was never reached: its end is then the latch point. -/
def Obligations.PulsesFramesAndLines : Prop :=
  (∀ (s : State) (t p : Nat), s.m.portUsed p = true → s.m.running = true → p < s.m.cams.length →
    let c := s.m.port p
    let k := c.kNext
    (∀ on, s.m.bist.e0 + s.m.rd P.camExpPhase p + k * s.m.rd P.camLinePeriod p ≤ (s.m.at t).now → c.expOld = [] → c.expSets = [] →
        (on = true ↔ s.m.rd P.camInterleave p = 1 ∨ (s.m.rd P.camInterleave p = 2 ∧ k % 2 = 0)) →
      s.Yields (.expPulse t p) fun m' =>
        (m'.port p).kNext = k + 1
        ∧ (m'.port p).pulses.head? = some { k := k, e := s.m.bist.e0 + s.m.rd P.camExpPhase p + k * s.m.rd P.camLinePeriod p,
                                            w := if on then s.m.rd P.camExpOn p else s.m.rd P.camExpOff p, on := on,
                                            pres := s.m.presents, bgInv := if on then s.m.bgMask else 0 }
        ∧ (c.lostClock = false ∨ c.inService = true → (m'.port p).lines = c.lines ∧ m'.rd P.camLinesLost p = s.m.rd P.camLinesLost p)
        ∧ (c.lostClock = true → c.inService = false → s.Canonical →
            (∃ l : Line, (m'.port p).lines = c.lines ++ [l] ∧ l.lost = true ∧ l.idx = c.idx ∧ l.px = [])
            ∧ m'.rd P.camLinesLost p = (s.m.rd P.camLinesLost p + 1) % 2 ^ P.camLinesLost.w % 2 ^ 32)
        ∧ (∀ q, q ≠ p → m'.port q = s.m.port q)
        ∧ Mod.Frame t [.cams] [P.camLinesLost.addr p, P.camFlags.addr p] s.m m')
    ∧ (∀ clk, c.inFrame = false → c.inService = true ∨ clk = true → s.m.suspect p ≠ 2 →
      s.Yields (.frameStart t p clk) fun m' =>
        (m'.port p).inService = true ∧ (m'.port p).inFrame = true ∧ (m'.port p).frames = c.frames + 1 ∧ (m'.port p).idx = 0
        ∧ (m'.port p).seqNow = c.seqPend.getD c.seqNow ∧ (m'.port p).seqPend = none ∧ (m'.port p).latched = false
        ∧ (∀ q, q ≠ p → m'.port q = s.m.port q) ∧ Mod.Frame t [.cams] [] s.m m')
    ∧ (∀ clk, c.inFrame = false → c.inService = true ∨ clk = true → s.m.suspect p = 2 → p < s.m.fus.suspect.length →
      s.Yields (.frameStart t p clk) fun m' =>
        (m'.port p).inFrame = true ∧ m'.suspect p = 0 ∧ (∀ q, q ≠ p → m'.port q = s.m.port q)
        ∧ Mod.Frame t [.cams, .fus] [P.sysSuspect.addr, P.fusFlags.addr] s.m m'))
  ∧ (∀ (s : State) (t p stamp : Nat) (samples : List Nat) (q : Pulse) (d : Int), s.Canonical → s.m.portUsed p = true → p < s.m.cams.length →
    let c := s.m.port p
    c.inFrame = true →
    (c.inService = true → c.latched = true → (s.m.at t).nearest p ((s.m.at t).extend stamp) = some (q, d) →
        4 * d.natAbs ≤ s.m.rd P.camLinePeriod p →
      ((∀ k, c.kLast = some k → q.k = k + 1) → samples.length = s.m.rd P.camLineSamples p * s.m.camC p →
        s.Yields (.cameraLine t p stamp samples false) fun m' =>
          (∃ l : Line, (m'.port p).lines = c.lines ++ [l] ∧ l.frame = c.frames - 1 ∧ l.idx = c.idx ∧ l.seq = c.seqNow ∧ l.on = q.on ∧ l.w = q.w
            ∧ l.t = ((((s.m.at t).extend stamp : Nat) : Int) - s.m.colCal p [] P.camLatNow).toNat - q.w / 2 ∧ l.arr = (s.m.at t).now
            ∧ l.lost = false ∧ l.px = s.m.unpackLine p samples ∧ l.pres = q.pres ∧ l.bgInv = q.bgInv ∧ l.col = c.colOld)
          ∧ (m'.port p).idx = c.idx + 1 ∧ (m'.port p).kLast = some q.k
          ∧ m'.rd P.camLines p = (s.m.rd P.camLines p + 1) % 2 ^ P.camLines.w % 2 ^ 32 ∧ (∀ r, r ≠ p → m'.port r = s.m.port r)
          ∧ Mod.Frame t [.cams] [P.camLines.addr p] s.m m')
      ∧ (∀ ovr, (ovr = true ∧ ∀ k, c.kLast = some k → q.k ≤ k + 1)
            ∨ ((∃ k, c.kLast = some k ∧ q.k ≤ k) ∧ samples.length = s.m.rd P.camLineSamples p * s.m.camC p) →
        s.Yields (.cameraLine t p stamp samples ovr) fun m' =>
          (∃ l : Line, (m'.port p).lines = c.lines ++ [l] ∧ l.idx = c.idx ∧ l.lost = true ∧ l.px = [])
          ∧ (m'.port p).idx = c.idx + 1
          ∧ m'.rd P.camLinesLost p = (s.m.rd P.camLinesLost p + 1) % 2 ^ P.camLinesLost.w % 2 ^ 32 ∧ (∀ r, r ≠ p → m'.port r = s.m.port r)
          ∧ Mod.Frame t [.cams] [P.camLinesLost.addr p, P.camFlags.addr p] s.m m')
      ∧ ((∀ k, c.kLast = some k → q.k ≤ k + 1) → samples.length ≠ s.m.rd P.camLineSamples p * s.m.camC p →
        s.Yields (.cameraLine t p stamp samples false) fun m' =>
          (∃ l : Line, (m'.port p).lines = c.lines ++ [l] ∧ l.idx = c.idx ∧ l.lost = true ∧ l.px = [])
          ∧ (m'.port p).idx = c.idx + 1 ∧ (m'.rd P.camFlags p).testBit 1 = true
          ∧ m'.rd P.camLinesBad p = (s.m.rd P.camLinesBad p + 1) % 2 ^ P.camLinesBad.w % 2 ^ 32 ∧ (∀ r, r ≠ p → m'.port r = s.m.port r)
          ∧ Mod.Frame t [.cams] [P.camLinesBad.addr p, P.camFlags.addr p] s.m m')
      ∧ (∀ k, c.idx = 0 → 1 < c.frames → c.kLast = some k → k + 1 < q.k → samples.length = s.m.rd P.camLineSamples p * s.m.camC p →
        s.Yields (.cameraLine t p stamp samples false) fun m' =>
          (∃ l : Line, (m'.port p).lines = c.lines ++ lostLines (c.frames - 2) c.endIdx c.endSeq (s.m.at t).now (q.k - k - 1) ++ [l]
            ∧ l.frame = c.frames - 1 ∧ l.idx = 0 ∧ l.lost = false)
          ∧ (m'.port p).idx = 1 ∧ (m'.port p).kLast = some q.k
          ∧ m'.rd P.camLinesLost p = (s.m.rd P.camLinesLost p + (q.k - k - 1)) % 2 ^ P.camLinesLost.w % 2 ^ 32
          ∧ (∀ r, r ≠ p → m'.port r = s.m.port r)
          ∧ Mod.Frame t [.cams] [P.camLinesLost.addr p, P.camFlags.addr p, P.camLines.addr p] s.m m'))
    ∧ (c.latched = true → c.idx ≤ s.m.rd P.camFrameLines p →
      s.Yields (.frameEnd t p) fun m' => m'.port p = { (c.acc (fun a => { a with ended := true })) with inFrame := false }
        ∧ (∀ r, r ≠ p → m'.port r = s.m.port r) ∧ Mod.Frame t [.cams] [] s.m m')
    ∧ (c.latched = false → c.idx ≤ s.m.rd P.camFrameLines p →
      s.Yields (.frameEnd t p) fun m' => (m'.port p).inFrame = false ∧ (m'.port p).latched = true
        ∧ (m'.port p).fresh = c.fresh.filter (fun x => (s.m.at t).now ≤ x.at_)
        ∧ (m'.port p).seqPend = (if c.fresh.any (fun x => x.at_ < (s.m.at t).now) = true then some ((c.seqPend.getD c.seqNow + 1) % 65536) else c.seqPend)
        ∧ (m'.rd P.camFlags p).testBit 2 = true ∧ (∀ r, r ≠ p → m'.port r = s.m.port r)
        ∧ Mod.Frame t [.cams] [P.camFlags.addr p] s.m m'))

/-- R82 to R84: the set of the oldest frame that has ended is published whole; the loss of a port's clock ends its frame with LINES_LOST and
takes the port out of service, and the lines whose pulses have risen are lost. R77 to R79: a template's bytes go out in line, when their
time on the serial line has passed; one with a reply waits CAM_SER_TIMEOUT for it; the right bytes confirm it, and its time running out
leaves it unconfirmed, counted and reported. -/
def Obligations.StatisticsAndTemplates : Prop :=
  (∀ (s : State) (t p : Nat), s.Canonical → p < 8 → p < s.m.cams.length →
    let c := s.m.port p
    (∀ a, c.accs.find? (·.ended) = some a →
      s.Yields (.statsPublish t p) fun m' => (m'.port p).pub = some (a, (s.m.at t).now)
        ∧ m'.rd P.camStatSeq p = (s.m.rd P.camStatSeq p + 1) % 2 ^ P.camStatSeq.w % 2 ^ 32
        ∧ m'.rd P.camStatFrame p = a.num % 2 ^ P.camStatFrame.w % 2 ^ 32 ∧ m'.rd P.camStatRx p = a.rx % 2 ^ P.camStatRx.w % 2 ^ 32
        ∧ m'.rd P.camStatLines p = 65536 * Nat.min 65535 a.offLines + Nat.min 65535 a.onLines
        ∧ (∀ r, r ≠ p → m'.port r = s.m.port r)
        ∧ Mod.Frame t [.cams] [P.camStatSeq.addr p, P.camStatFrame.addr p, P.camStatSetseq.addr p, P.camStatLines.addr p,
            P.camStatT0.addr p, P.camStatT1.addr p, P.camStatRx.addr p] s.m m')
    ∧ (s.m.portUsed p = true → s.m.running = true → c.inService = true ∨ c.lostClock = false →
      (c.inFrame = false → s.Yields (.portClockLoss t p) fun m' =>
        (m'.port p).inService = false ∧ (m'.port p).clock = false ∧ (m'.port p).lostClock = true
        ∧ (m'.port p).outSince = some (c.outSince.getD (s.m.at t).now) ∧ (m'.port p).inFrame = false
        ∧ (m'.port p).lines = c.lines ++ lostLines (c.frames - 1) c.idx c.seqNow (s.m.at t).now ((s.m.at t).inFlight p)
        ∧ (∀ r, r ≠ p → m'.port r = s.m.port r) ∧ Mod.Frame t [.cams] [P.camLinesLost.addr p, P.camFlags.addr p] s.m m')
      ∧ (c.inFrame = true → (∃ a ∈ c.accs, a.num + 1 = c.frames) → (∀ a ∈ c.accs, a.num + 1 = c.frames → a.ended = false) →
        s.Yields (.portClockLoss t p) fun m' =>
        (m'.port p).inService = false ∧ (m'.port p).clock = false ∧ (m'.port p).lostClock = true
        ∧ (m'.port p).outSince = some (c.outSince.getD (s.m.at t).now) ∧ (m'.port p).inFrame = false
        ∧ (∃ a : FrameAcc, (m'.port p).pub = some (a, (s.m.at t).now) ∧ a.num + 1 = c.frames ∧ a.lost = true ∧ a.ended = true)
        ∧ m'.rd P.camStatSeq p = (s.m.rd P.camStatSeq p + 1) % 2 ^ P.camStatSeq.w % 2 ^ 32
        ∧ (∀ r, r ≠ p → m'.port r = s.m.port r)
        ∧ Mod.Frame t [.cams] [P.camLinesLost.addr p, P.camFlags.addr p, P.camStatSeq.addr p, P.camStatFrame.addr p, P.camStatSetseq.addr p,
            P.camStatLines.addr p, P.camStatT0.addr p, P.camStatT1.addr p, P.camStatRx.addr p] s.m m')))
  ∧ (∀ (s : State) (t p : Nat), s.Canonical → p < 8 → p < s.m.cams.length →
    let c := s.m.port p
    (∀ k b rest, c.tplQ = (k, b) :: rest → c.tplWait = none → c.serAt + s.m.serTime p b.length ≤ (s.m.at t).now →
      s.Yields (.templateSent t p) fun m' =>
        m'.port p = (if s.m.tplByte p k 1 = 0 then { c with serOut := c.serOut ++ b, serAt := (s.m.at t).now, tplQ := rest, unconf := c.unconf.filter (· ≠ k) }
          else { c with serOut := c.serOut ++ b, serAt := (s.m.at t).now, tplWait := some (k, (s.m.at t).now + s.m.rd P.camSerTimeout p * 1000) })
        ∧ (∀ r, r ≠ p → m'.port r = s.m.port r) ∧ Mod.Frame t [.cams] [] s.m m')
    ∧ (∀ k u bytes, c.tplWait = some (k, u) → (s.m.at t).now ≤ u →
        bytes.take (s.m.tplByte p k 1) = (List.range (s.m.tplByte p k 1)).map (fun i => BitVec.ofNat 8 (s.m.tplByte p k (4 + i))) →
      s.Yields (.templateReply t p bytes) fun m' =>
        m'.port p = { c with tplWait := none, tplQ := c.tplQ.tail, unconf := c.unconf.filter (· ≠ k), serAt := (s.m.at t).now }
        ∧ (∀ r, r ≠ p → m'.port r = s.m.port r) ∧ Mod.Frame t [.cams] [] s.m m')
    ∧ (∀ k u, c.tplWait = some (k, u) → u ≤ (s.m.at t).now →
      s.Yields (.templateReplyTimeout t p) fun m' => (m'.port p).tplWait = none ∧ (m'.port p).tplQ = c.tplQ.tail
        ∧ (m'.port p).serAt = (s.m.at t).now ∧ k ∈ (m'.port p).unconf ∧ m'.rd P.camTplFails p = (s.m.rd P.camTplFails p + 1) % 2 ^ P.camTplFails.w % 2 ^ 32
        ∧ (m'.rd P.camFlags p).testBit 5 = true ∧ (∀ r, r ≠ p → m'.port r = s.m.port r)
        ∧ Mod.Frame t [.cams] [P.camTplFails.addr p, P.camFlags.addr p] s.m m'))

/-- R80, R110, R118, R127, R135: a port's oldest line is reconstructed, and its oldest reconstructed line resampled to the grid; a line
whose data come poisoned, or that is lost with its tower, keeps its place with nothing in it; the tower that ran the stage has carried
work. -/
def Obligations.LinesAreReconstructedAndResampled : Prop :=
  ∀ (s : State) (t p : Nat) (reads : List LineRead) (l : Line) (r : List Line), p < s.m.cams.length →
    let bad := ((s.m.at t).takeLines reads).2 ≠ []
    let ran := fun (k : Nat) => ((s.m.at t).worked (s.m.physTower (Config.stageTower p k))).cell
    (∀ r ∈ reads, r.use = 0) →
    let w := 2 ^ s.m.rd P.fusPrefilt p
    let n := s.m.rd P.camLineSamples p
    ((s.m.port p).lines = l :: r →
      (∀ lost, lost = true ∨ bad ∨ s.m.stageDown p 0 = true →
        s.Yields (.colourReconstruction t p lost reads) fun m' =>
          m'.port p = { s.m.port p with lines := r, recon := (s.m.port p).recon ++ [{ l with lost := true, px := [] }] }
          ∧ (∀ q, q ≠ p → m'.port q = s.m.port q) ∧ Mod.Frame t [.cams, .cell] lineWords s.m m')
      ∧ (l.lost = false → s.m.stageDown p 0 = false →
        s.Yields (.colourReconstruction t p false []) fun m' => m'.cell = ran 0 ∧
          (∃ px, m'.port p = { s.m.port p with lines := r, recon := (s.m.port p).recon ++ [{ l with px := px }] }
            ∧ px.length = l.px.length ∧ (∀ ch ∈ px, ch.length = n ∧ ∀ v ∈ ch, v ≤ 65535) ∧ { l with px := px } = s.m.reconLine p l)
          ∧ (∀ q, q ≠ p → m'.port q = s.m.port q) ∧ Mod.Frame t [.cams, .cell] [] s.m m'))
    ∧ ((s.m.port p).recon = l :: r →
      (∀ lost, lost = true ∨ bad ∨ l.lost = true ∨ s.m.stageDown p 1 = true →
        s.Yields (.resampleLine t p lost reads) fun m' =>
          m'.port p = { s.m.port p with recon := r, rows := (s.m.port p).rows ++ [{ l with lost := true, px := [] }] }
          ∧ (∀ q, q ≠ p → m'.port q = s.m.port q) ∧ Mod.Frame t [.cams, .cell] lineWords s.m m')
      ∧ (l.lost = false → s.m.stageDown p 1 = false →
        s.Yields (.resampleLine t p false []) fun m' => m'.cell = ran 1 ∧
          m'.port p = { s.m.port p with recon := r, rows := (s.m.port p).rows ++ [{ l with px := l.px.map (fun o =>
            (List.range (s.m.rd P.fusCols)).map (fun k => resampleAt w n o (s.m.cal P.fusGeoNow p k))) }] }
          ∧ (∀ q, q ≠ p → m'.port q = s.m.port q) ∧ Mod.Frame t [.cams, .cell] [] s.m m'))

/-! ### Background panels (chapter 4) -/

/-- R90, R91, R95 to R97, R100: a region's frame goes out with its codes, one frame time after its request and the region before it, one
that is being presented not before the boundary; from 5 µs before a boundary the groups that are wholly confirmed are chosen, or, where
the current would rise, asked for at the toll gate; at the boundary one LOAD presents the chosen groups whole, with the IREF they were
chosen with; with none chosen one front buffer is read in turn. R92, R98, R100, R101: a status frame's bits are the panel's; a reply
whose CRC agrees confirms its region, one that differs has it written again; a link without a valid frame for 100 µs is lost and darkens
the panel; it is retried every 10 ms, and one that is back has every region written anew; ENABLE follows the edges of its schedule in
the strobed mode alone. -/
def Obligations.PanelsArePresentedAndFollowed : Prop :=
  (∀ (s : State) (t n : Nat), n < s.m.panels.length → (s.m.panel n).linkUp = true →
    let p := s.m.panel n
    let v := s.m.rd P.bgIref n
    let cand := (p.groups.filter (s.m.mayShow n)).map (fun g => { g with irefV := v })
    let sel := p.groups.filter (·.selected)
    (∀ r, p.presenting r = true → s.Yields (.panelRegionWritten t n r) fun m' =>
        (∀ k, m'.panel k = s.m.panel k) ∧ Mod.Frame t [] [] s.m m')
    ∧ (∀ r g, p.presenting r = false → p.groups.find? (fun g => g.stands r .queued) = some g →
        Nat.max p.linkFree (g.since r) + writeFrameNs ≤ (s.m.at t).now →
      s.Yields (.panelRegionWritten t n r) fun m' =>
        m'.panel n = { p with out := p.out ++ [s.m.writeFrame n r, panelFrame 3 r [0]], linkFree := (s.m.at t).now, groups := changeFirst (fun g => g.stands r .queued) (fun g => g.setRegion r (fun x =>
          { x with stage := .written, crc := crc32 (packCodes (s.m.regionCodes n r)), sum := sumOf (s.m.regionCodes n r) })) p.groups }
        ∧ (∀ k, k ≠ n → m'.panel k = s.m.panel k) ∧ Mod.Frame t [.panels] [] s.m m')
    ∧ (s.m.running = true → p.unusable = false → p.picked ≤ p.boundaries → s.m.loadAt p.boundaries ≤ (s.m.at t).now + 5000 →
        s.m.panelAfterMa n cand ≤ p.standing ∨ cand = [] →
      s.Yields (.panelSelection t n) fun m' =>
        m'.panel n = { p with picked := p.boundaries + 1, groups := p.groups.map (fun g => if s.m.mayShow n g then { g with irefV := v, selected := true } else g) }
        ∧ (∀ k, k ≠ n → m'.panel k = s.m.panel k) ∧ Mod.Frame t [.panels] [] s.m m')
    ∧ (s.m.running = true → p.unusable = false → p.picked ≤ p.boundaries → s.m.loadAt p.boundaries ≤ (s.m.at t).now + 5000 →
        cand ≠ [] → p.standing < s.m.panelAfterMa n cand → (∀ g ∈ cand, g.asked = false) →
        s.m.asking (.panel n) = false →
      s.Yields (.panelSelection t n) fun m' =>
        m'.panel n = { p with picked := p.boundaries + 1, groups := p.groups.map (fun g => if s.m.mayShow n g then { g with irefV := v, asked := true } else g) }
        ∧ (∃ q : TollReq, m'.toll = { s.m.toll with reqs := s.m.toll.reqs ++ [q] } ∧ q.who = .panel n ∧ q.cls = 2 ∧ q.budget = .panel
          ∧ q.amount = s.m.panelAfterMa n cand - p.standing ∧ q.key = s.m.loadAt p.boundaries ∧ q.at_ = (s.m.at t).now)
        ∧ (∀ k, k ≠ n → m'.panel k = s.m.panel k) ∧ Mod.Frame t [.panels, .toll] [] s.m m')
    ∧ (s.Canonical → n < 2 → s.m.running = true → s.m.panelUsed n = true → p.unusable = false → s.m.loadAt p.boundaries ≤ (s.m.at t).now →
        sel ≠ [] → p.faulty = [] →
      s.Yields (.panelLoadBoundary t n) fun m' =>
        (m'.panel n).groups = (p.groups.filter (fun g => !g.selected)).map (·.waited ((sel.flatMap (fun g => g.regions)).map (·.r)) (s.m.at t).now)
        ∧ (m'.panel n).shown = true
        ∧ (m'.panel n).standing = s.m.panelAfterMa n sel ∧ (m'.panel n).boundaries = p.boundaries + 1 ∧ (m'.panel n).pledged = 0
        ∧ (m'.panel n).iref = p.irefAfter sel ∧ m'.asking (.panel n) = false
        ∧ (m'.panel n).out = p.out ++ [panelFrame 2 0 [maskOf ((sel.flatMap (fun g => g.regions)).map (·.r))]]
        ∧ m'.rd P.bgPresentSeq n = (s.m.rd P.bgPresentSeq n + 1) % 2 ^ P.bgPresentSeq.w % 2 ^ 32
        ∧ m'.rd P.bgUpdates n = (s.m.rd P.bgUpdates n + (sel.flatMap (fun g => g.regions)).length) % 2 ^ P.bgUpdates.w % 2 ^ 32
        ∧ (∀ k, k ≠ n → m'.panel k = s.m.panel k)
        ∧ Mod.Frame t [.panels, .toll] [P.bgPresentSeq.addr n, P.bgUpdates.addr n] s.m m')
    ∧ (s.m.running = true → s.m.panelUsed n = true → p.unusable = false → s.m.loadAt p.boundaries ≤ (s.m.at t).now → sel = [] → p.faulty = [] →
      s.Yields (.panelLoadBoundary t n) fun m' =>
        (m'.panel n).boundaries = p.boundaries + 1 ∧ (m'.panel n).out = p.out ++ [panelFrame 3 (if p.nextRead < s.m.panelRegions n then p.nextRead else 0) [1]]
        ∧ m'.asking (.panel n) = false ∧ (m'.panel n).reading = some (if p.nextRead < s.m.panelRegions n then p.nextRead else 0) ∧ (m'.panel n).groups = p.groups
        ∧ (m'.panel n).front = p.front ∧ (∀ k, k ≠ n → m'.panel k = s.m.panel k) ∧ Mod.Frame t [.panels, .toll] [] s.m m'))
  ∧ (∀ (s : State) (t n : Nat), n < 2 → n < s.m.panels.length → s.m.panelUsed n = true → s.Canonical →
    let p := s.m.panel n
    (∀ status, p.linkUp = true → p.unusable = false →
      s.Yields (.panelStatusFrame t n [panelSync, status]) fun m' =>
        m'.panel n = { p with overtemp := status.testBit 31, uv := status.testBit 30, sinkFault := status.testBit 29,
                              failedEmitters := field status 28 16, temp := sext 8 (field status 15 8), heard := (s.m.at t).now }
        ∧ (∀ k, k ≠ n → m'.panel k = s.m.panel k) ∧ Mod.Frame t [.panels] [] s.m m')
    ∧ (∀ status a r crc g x, field a 20 16 = r → a.testBit 0 = false → p.linkUp = true → p.unusable = false → p.groups = [g] → g.regions = [x] → x.r = r → x.stage = .written →
        p.faulty = [] →
      (x.crc = crc → s.Yields (.panelStatusFrame t n [panelSync, status, a, crc]) fun m' =>
        (m'.panel n).groups = [{ g with regions := [{ x with stage := .confirmed }] }] ∧ (m'.panel n).faulty = []
        ∧ Mod.Frame t [.panels] [] s.m m')
      ∧ (x.crc ≠ crc → x.tries < 2 → s.Yields (.panelStatusFrame t n [panelSync, status, a, crc]) fun m' =>
        (m'.panel n).groups = [{ g with regions := [{ x with stage := .queued, tries := x.tries + 1 }] }]
        ∧ m'.rd P.bgCrcFails n = (s.m.rd P.bgCrcFails n + 1) % 2 ^ P.bgCrcFails.w % 2 ^ 32
        ∧ Mod.Frame t [.panels] [P.bgCrcFails.addr n] s.m m'))
    ∧ (p.linkUp = true → p.heard + 100000 ≤ (s.m.at t).now →
      s.Yields (.panelLinkDown t n) fun m' =>
        m'.panel n = { p with linkUp := false, reading := none, enable := false, retryAt := (s.m.at t).now + 10000000 }
        ∧ (∀ k, k ≠ n → m'.panel k = s.m.panel k) ∧ Mod.Frame t [.panels] [] s.m m')
    ∧ (p.linkUp = false → p.unusable = false → p.retryAt ≤ (s.m.at t).now →
      s.Yields (.panelLinkRetry t n false) fun m' => m'.panel n = { p with retryAt := p.retryAt + 10000000 }
        ∧ (∀ k, k ≠ n → m'.panel k = s.m.panel k) ∧ Mod.Frame t [.panels] [] s.m m')
    ∧ (p.linkUp = false → p.unusable = false → p.retryAt ≤ (s.m.at t).now →
      s.Yields (.panelLinkRetry t n true) fun m' => (m'.panel n).linkUp = true ∧ (m'.panel n).shown = false
        ∧ (∃ g : PGroup, (m'.panel n).groups = [g] ∧ g.iref = true ∧ g.selected = false
            ∧ g.regions.map (·.r) = List.range (s.m.panelRegions n) ∧ (∀ x ∈ g.regions, x.stage = .queued ∧ x.from_ = (s.m.at t).now))
        ∧ m'.asking (.panel n) = false ∧ (∀ k, k ≠ n → m'.panel k = s.m.panel k) ∧ Mod.Frame t [.panels, .toll] [] s.m m')
    ∧ (∀ rise, s.Yields (.panelEnableEdge t n rise) fun m' =>
        m'.panel n = (if s.m.rd P.bgMode = 2 ∧ s.m.running = true ∧ rise = (s.m.at t).enHigh then { p with enable := rise && s.m.mayLight n } else p)
        ∧ (∀ k, k ≠ n → m'.panel k = s.m.panel k) ∧ Mod.Frame t [.panels] [] s.m m'))

/-! ### Fusion (chapter 6) -/

/-- R105, R106, R135 to R139, R153: the extractor's row takes the next row number of its layer, a lost row extends every open region and
starts none; a cell that works keeps its saturated accumulator, its SAT flag and its shifted result, and a spare, an unusable cell and a
cell of a lost tower do no work (R122, R123); a closed region becomes an observation of its port, or is too small and only counted, or
its port is excluded and it is counted alone. -/
def Obligations.RowsBecomeObservations : Prop :=
  ∀ (s : State) (t p : Nat), s.Canonical → p < 8 → p < s.m.cams.length → p < s.m.fus.layers.length →
    let layer := s.m.fus.layers.getD p {}
    let rowOf := fun (l : Line) (gone : Bool) => ({ n := layer.n, t := l.t, arr := l.arr, seq := l.seq, lost := gone } : GridRow)
    (∀ l rest vecs reads lost, (s.m.port p).rows = l :: rest → (∀ r ∈ reads, r.use = 0) →
        lost = true ∨ l.lost = true ∨ ((s.m.at t).takesFor (s.m.physTower (Config.stageTower p 2)) reads).2 ≠ []
          ∨ s.m.stageDown p 2 = true →
      s.Yields (.featureRow t p vecs lost [] reads) fun m' =>
        (m'.fus.layers.getD p {}).n = layer.n + 1
        ∧ (m'.fus.layers.getD p {}).blobs = (layer.blobs.map (fun b => { b with rows := b.rows ++ [rowOf l true] })).filter (fun b => !s.m.oversize b)
        ∧ (m'.port p).rows = rest ∧ (m'.port p).prevRow = some l ∧ (∀ q, q ≠ p → m'.port q = s.m.port q)
        ∧ (∀ q, q ≠ p → m'.fus.layers.getD q {} = s.m.fus.layers.getD q {}) ∧ Mod.Frame t [.cams, .fus, .cell, .perf, .free] lineWords s.m m')
    ∧ (∀ l rest vecs, (s.m.port p).rows = l :: rest → l.lost = false → s.m.stageDown p 2 = false → s.m.colVal p l.col P.camInterleave ≠ 2 → layer.blobs = [] →
        (∀ v ∈ vecs, toU 8 (v.getD (s.m.rd P.fusObjCh p) 0) < s.m.rd P.fusObjThr) →
      s.Yields (.featureRow t p vecs false [] []) fun m' =>
        m'.fus.layers.getD p {} = { layer with n := layer.n + 1 }
        ∧ m'.port p = { s.m.port p with rows := rest, prevRow := some l } ∧ (∀ q, q ≠ p → m'.port q = s.m.port q)
        ∧ (∀ q, q ≠ p → m'.fus.layers.getD q {} = s.m.fus.layers.getD q {})
        ∧ m'.cell = ((s.m.at t).worked (s.m.physTower (Config.stageTower p 2))).cell ∧ Mod.Frame t [.cams, .fus, .cell] [] s.m m')
    ∧ (∀ vecs lost, ∀ run : CellRun, (s.m.port p).rows ≠ [] → s.m.cellWorks run.cell = true → run.shift ≤ 31 → run.width = 8 ∨ run.width = 16 ∨ run.width = 32 →
      s.Yields (.featureRow t p vecs lost [run] []) fun m' =>
        let a := macRun run.fmt (if run.clear then 0 else (assocGet s.m.cell.acc run.cell).getD 0) run.ops
        assocGet m'.cell.acc run.cell = some a.1 ∧ assocGet m'.cell.out run.cell = some (accOut run.shift run.width run.signed a.1)
        ∧ (run.cell ∈ m'.cell.sat ↔ run.cell ∈ s.m.cell.sat ∨ a.2 = true)
        ∧ (∀ c, c ≠ run.cell → assocGet m'.cell.acc c = assocGet s.m.cell.acc c) ∧ Mod.Frame t [.cams, .fus, .cell] [] s.m m')
    ∧ (∀ vecs lost, ∀ run : CellRun, (s.m.port p).rows ≠ [] → s.m.cellWorks run.cell = false →
      s.Yields (.featureRow t p vecs lost [run] []) fun m' =>
        m'.cell = ((s.m.at t).worked (s.m.physTower (Config.stageTower p 2))).cell ∧ Mod.Frame t [.cams, .fus, .cell] [] s.m m')
    ∧ (∀ b ovr rest, layer.closed = (b, ovr) :: rest →
      (b.cells.length < s.m.rd P.fusMinCells →
        s.Yields (.observationClose t p) fun m' => m'.fus = { s.m.fus with layers := s.m.fus.layers.set p { layer with closed := rest } }
          ∧ m'.rd P.fusSmall = (s.m.rd P.fusSmall + 1) % 2 ^ 32 ∧ Mod.Frame t [.fus] [P.fusSmall.addr] s.m m')
      ∧ (s.m.rd P.fusMinCells ≤ b.cells.length → s.m.heightOk p = true → s.m.excluded.testBit p = true →
        s.Yields (.observationClose t p) fun m' => m'.fus = { s.m.fus with layers := s.m.fus.layers.set p { layer with closed := rest } }
          ∧ m'.rd P.fusObs = (s.m.rd P.fusObs + 1) % 2 ^ 32 ∧ Mod.Frame t [.fus] [P.fusObs.addr] s.m m')
      ∧ (s.m.rd P.fusMinCells ≤ b.cells.length → s.m.heightOk p = true → s.m.excluded.testBit p = false →
          (∀ w, s.m.trk.win = some w → w.obs.length < 63) →
        s.Yields (.observationClose t p) fun m' =>
          (∃ o : Obs, o.port = p ∧ o.oversize = ovr ∧ o.mass = sumOf (b.cells.map (·.obj)) ∧ o.colFirst = b.span.1 ∧ o.colLast = b.span.2
            ∧ m'.trk = { s.m.trk with win := some (match s.m.trk.win with
              | some w => { w with obs := w.obs ++ [o] }
              | none => { opened := (s.m.at t).now, obs := [o] }) })
          ∧ m'.fus = { s.m.fus with layers := s.m.fus.layers.set p { layer with closed := rest } }
          ∧ m'.rd P.fusObs = (s.m.rd P.fusObs + 1) % 2 ^ 32 ∧ Mod.Frame t [.fus, .trk] [P.fusObs.addr] s.m m'))

/-- R143 to R146: a track's motion samples are taken once; a cold lane block accepts them and counts them, and no other lane block changes;
a lane block turns warm after 200 of them, cold when none came for FUS_STALE_S, and cold at the nominal triple at a reset. -/
def Obligations.LaneBlocksFollowMotion : Prop :=
  ∀ (s : State) (t : Nat), s.Canonical →
    (∀ serial k top rest, s.m.track? serial = some k → k.motionDue = true →
      let obs := k.obs.filter (fun o => !s.m.excluded.testBit o.port)
      let bot := rest.getLastD top
      obs.any (fun o => o.oversize || o.linesLost) = false → pointsOf (s.m.trkHt k) obs = top :: rest → s.m.rd P.fusDhMin ≤ top.h - bot.h →
        top.t < bot.t → (s.m.lane bot.lane).warm = false → bot.lane < s.m.fus.lanes.length →
      s.Yields (.motionUpdate t serial) fun m' =>
        m'.trk.live = s.m.trk.live.map (fun x => if x.serial = serial then { x with motion := true } else x)
        ∧ (m'.lane bot.lane).nv = (s.m.lane bot.lane).nv + 1 ∧ (m'.lane bot.lane).nw = (s.m.lane bot.lane).nw + 1
        ∧ (m'.lane bot.lane).lastV = (s.m.at t).now ∧ (m'.lane bot.lane).warm = false
        ∧ (∀ b, b ≠ bot.lane → m'.lane b = s.m.lane b)
        ∧ Mod.Frame t [.trk, .fus] [P.fusMotionDiscards.addr, P.fusFlags.addr] s.m m')
    ∧ (∀ b, b < s.m.laneCount → b < s.m.fus.lanes.length → (s.m.lane b).warm = false → 200 ≤ (s.m.lane b).nv →
        (s.m.lane b).coldAt + 2 * 10 ^ 9 ≤ (s.m.at t).now →
      s.Yields (.laneBlockWarm t b) fun m' => m'.lane b = { s.m.lane b with warm := true } ∧ (∀ k, k ≠ b → m'.lane k = s.m.lane k)
        ∧ Mod.Frame t [.fus] [] s.m m')
    ∧ (∀ b, b < s.m.fus.lanes.length → (s.m.lane b).warm = true → (s.m.lane b).lastV + s.m.rd P.fusStaleS * 10 ^ 9 ≤ (s.m.at t).now →
      s.Yields (.laneBlockStale t b) fun m' =>
        m'.lane b = { s.m.lane b with warm := false, coldAt := (s.m.at t).now, nv := 0, na := 0, nw := 0 }
        ∧ (∀ k, k ≠ b → m'.lane k = s.m.lane k) ∧ Mod.Frame t [.fus] [] s.m m')
    ∧ (∀ role, 1 ≤ role → s.m.running = true → s.m.laneCount ≤ s.m.fus.lanes.length →
      s.Yields (.fusMotionReset t role 1#32) fun m' =>
        (∀ b, b < s.m.laneCount → (m'.lane b).v = s.m.rd P.fusVNom ∧ (m'.lane b).a = s.m.rd P.fusANom ∧ (m'.lane b).w = 0
          ∧ (m'.lane b).warm = false ∧ (m'.lane b).nv = 0)
        ∧ Mod.Frame t [.fus] [P.fusMotionReset.addr] s.m m')

/-- R29, R151 to R154: a port out of service too long is suspect as ABSENT; a suspect for contradiction is cleared by the bits of
FUS_SUSPECT_CLR alone; the set of sensors is evaluated anew, and a suspect that no variant covers is reported again every FUS_REMIND_S.
-/
def Obligations.SuspectsChangeSensorSet : Prop :=
  ∀ (s : State) (t : Nat), s.Canonical → s.m.fus.suspect.length = 8 →
    (∀ p u, p < 8 → (s.m.port p).outSince = some u → s.m.rd P.camEn p = 1 → s.m.suspect p = 0 →
        u + s.m.rd P.fusAbsentMs * 10 ^ 6 < (s.m.at t).now →
      s.Yields (.sensorAbsent t p) fun m' => m'.suspect p = 2 ∧ (∀ q, q ≠ p → m'.suspect q = s.m.suspect q)
        ∧ m'.fus.variant = m'.chooseVariant ∧ m'.excluded = m'.excludedOf m'.fus.variant % 2 ^ P.sysSuspect.w
        ∧ m'.fus.lanes = s.m.fus.lanes ∧ Mod.Frame t [.fus] [P.sysSuspect.addr, P.fusFlags.addr] s.m m')
    ∧ (∀ role v, 1 ≤ role → s.m.running = true → (v : Word).toNat < 256 →
      s.Yields (.fusSuspectClr t role v) fun m' =>
        (∀ p, p < 8 → m'.suspect p = if v.toNat.testBit p = true ∧ s.m.suspect p = 1 then 0 else s.m.suspect p)
        ∧ m'.fus.lanes = s.m.fus.lanes
        ∧ Mod.Frame t [.fus] [P.fusSuspectClr.addr, P.sysSuspect.addr, P.fusFlags.addr] s.m m')
    ∧ (s.m.fus.kept = true → s.m.fus.remindAt + s.m.rd P.fusRemindS * 10 ^ 9 ≤ (s.m.at t).now → s.m.suspectMask ≠ 0 → s.m.chooseVariant = none →
      s.Yields (.suspectReminder t) fun m' => m'.fus = { s.m.fus with variant := none, kept := true, remindAt := (s.m.at t).now }
        ∧ m'.excluded = 0 ∧ Mod.Frame t [.fus] [P.sysSuspect.addr, P.fusFlags.addr] s.m m')

/-! ### The cell array (chapter 5) -/

/-- R110, R114, R117, R119: a tower without work for more than 100 µs is gated, where the placement lets it be, and its grant ends; one that
is to work again asks for its grant and resumes 2 µs after it; a line that a reader corrects is counted and written back corrected, a
poisoned one counted and left as it stands, an address past a cell's 1,536 lines gives nothing (R105), and the line store keeps its
canonical form; a granted burst moves the scrub on by 4,096 lines. -/
def Obligations.TowersAndLinesAreKept : Prop :=
  ∀ (s : State) (t k : Nat), s.Canonical → k < s.m.cell.towers.length →
    let w := s.m.tower k
    (s.m.towerUp k = true → w.gated = false → w.never = false → w.busyAt + 100000 < (s.m.at t).now → s.m.cell.jobs.any (fun j => j.towers.contains k) = false →
      s.Yields (.towerGate t k) fun m' => m'.tower k = { w with gated := true, resuming := false, grantedAt := none }
        ∧ (∀ q, q ≠ k → m'.tower q = s.m.tower q) ∧ m'.toll = { s.m.toll with active := s.m.toll.active.filter (fun a => a.1 ≠ .tower k) }
        ∧ m'.perf = { s.m.perf with stillAt := assocSet s.m.perf.stillAt k (s.m.at t).now } ∧ Mod.Frame t [.cell, .toll, .perf] [] s.m m')
    ∧ (s.m.towerUp k = true → w.gated = true → w.grantedAt = none → w.resuming = false → s.m.asking (.tower k) = false →
      s.Yields (.towerResume t k) fun m' => m'.tower k = { w with resuming := true } ∧ (∀ q, q ≠ k → m'.tower q = s.m.tower q)
        ∧ (∃ q : TollReq, m'.toll = { s.m.toll with reqs := s.m.toll.reqs ++ [q] } ∧ q.who = .tower k ∧ q.cls = 3 ∧ q.budget = .logic
          ∧ q.amount = s.m.rd P.tollPTower ∧ q.key = (s.m.at t).now ∧ q.at_ = (s.m.at t).now)
        ∧ Mod.Frame t [.cell, .toll] [] s.m m')
    ∧ (∀ g, s.m.towerUp k = true → w.gated = true → w.grantedAt = some g → g + 2000 ≤ (s.m.at t).now →
      s.Yields (.towerResume t k) fun m' => m'.tower k = { w with gated := false, resuming := false, grantedAt := none, busyAt := (s.m.at t).now }
        ∧ (∀ q, q ≠ k → m'.tower q = s.m.tower q) ∧ Mod.Frame t [.cell, .perf] [] s.m m')
    ∧ (∀ r, r.tag = 1 → lineExists r.tag r.addr = false →
      s.Yields (.sramScrub t [r]) fun m' => m'.cell = s.m.cell ∧ Mod.Frame t [] [] s.m m')
    ∧ (∀ r, r.tag = 1 → lineExists r.tag r.addr = true → r.merge = [] → let l := (lineLoc r.tag r.addr).1
      let holds := fun (m' : Mod) (w : List Nat) => m'.lineAt r.tag r.addr = w ∧ m'.cell.towers = s.m.cell.towers
        ∧ (linesWf s.m.cell.lines = true → linesWf m'.cell.lines = true)
        ∧ ∀ tag addr, lineKey tag addr ≠ lineKey r.tag r.addr → m'.lineAt tag addr = s.m.lineAt tag addr
      (decodeLine r.tag r.addr (s.m.found r) = .clean → s.Yields (.sramScrub t [r]) fun m' => holds m' (s.m.found r) ∧ Mod.Frame t [.cell] [] s.m m')
      ∧ (∀ n word, decodeLine r.tag r.addr (s.m.found r) = .corrected n word →
          (((assocGet s.m.cell.ce l).getD []).length < s.m.rd P.cellCeLimit) →
        s.Yields (.sramScrub t [r]) fun m' => holds m' word
          ∧ (n = 1 → m'.rd P.cellCe1 l = (s.m.rd P.cellCe1 l + 1) % 2 ^ P.cellCe1.w % 2 ^ 32)
          ∧ (n ≠ 1 → m'.rd P.cellCe2 l = (s.m.rd P.cellCe2 l + 1) % 2 ^ P.cellCe2.w % 2 ^ 32)
          ∧ m'.rd P.cellErrLastAddr = r.addr % 2 ^ P.cellErrLastAddr.w % 2 ^ 32
          ∧ Mod.Frame t [.cell, .perf, .free] lineWords s.m m')
      ∧ (decodeLine r.tag r.addr (s.m.found r) = .uncorrectable →
        s.Yields (.sramScrub t [r]) fun m' => m'.rd P.cellUe l = (s.m.rd P.cellUe l + 1) % 2 ^ P.cellUe.w % 2 ^ 32
          ∧ holds m' (s.m.found r) ∧ Mod.Frame t [.cell] lineWords s.m m')
      ∧ (decodeLine r.tag r.addr (s.m.found r) = .address →
        s.Yields (.sramScrub t [r]) fun m' => m'.rd P.cellAddr l = (s.m.rd P.cellAddr l + 1) % 2 ^ P.cellAddr.w % 2 ^ 32
          ∧ holds m' (s.m.found r) ∧ Mod.Frame t [.cell] lineWords s.m m'))
    ∧ (∀ reads, s.m.cell.scrubGranted = true → s.m.cell.scrubPos + 4096 < 2 ^ 28 →
      s.Yields (.memoryScrubBurst t reads) fun m' => m'.cell.scrubPos = s.m.cell.scrubPos + 4096 ∧ m'.cell.scrubGranted = false
        ∧ m'.cell.scrubNext = s.m.cell.scrubNext + s.m.rd P.cellScrubHours * 3600 * 10 ^ 9 / 65536 ∧ m'.cell.towers = s.m.cell.towers
        ∧ m'.toll = { s.m.toll with active := s.m.toll.active.filter (fun a => a.1 ≠ .scrub) }
        ∧ Mod.Frame t [.cell, .toll, .perf] lineWords s.m m')
    ∧ (∀ reads, s.m.cell.scrubGranted = true → 2 ^ 28 ≤ s.m.cell.scrubPos + 4096 →
      s.Yields (.memoryScrubBurst t reads) fun m' => m'.cell.scrubPos = 0 ∧ m'.cell.scrubGranted = false
        ∧ m'.rd P.cellScrubPasses = (s.m.rd P.cellScrubPasses + 1) % 2 ^ P.cellScrubPasses.w % 2 ^ 32
        ∧ Mod.Frame t [.cell, .toll, .perf] (P.cellScrubPasses.addr :: lineWords) s.m m')

/-- R118, R126, R127, R420: a cell that fails (a spare's parity alone) takes its tower into a warm restart and no job holds it any more; the
restart's end returns it to service with its SRAM cleared, and a tower that fails its quick test restarts the module with cause 3; a
piece without a slot at its latest start, and a job that still runs at its bound, take their recipe's default action. R126, R170, R175:
at its latest start a waiting piece leaves the queue and takes the default action, cause 2 without a slot, cause 7 where a required
sensor is missing. -/
def Obligations.CellFailuresAreContained : Prop :=
  (∀ (s : State) (t : Nat), s.Canonical → s.m.cell.queue = [] →
    (∀ k cell cause, k < 16 → k < s.m.cell.towers.length → cell < 64 → 1 ≤ cause → cause ≤ 3 → s.m.towerUp k = true →
        cause = 3 ∨ (s.m.tower k).bound.contains cell = true → s.m.cell.jobs.any (fun j => j.towers.contains k) = false →
      s.Yields (.cellFailure t k cell cause) fun m' =>
        m'.tower k = { s.m.tower k with restarting := some (s.m.at t).now, gated := false, resuming := false, grantedAt := none }
        ∧ (∀ q, q ≠ k → m'.tower q = s.m.tower q) ∧ m'.cell.jobs = s.m.cell.jobs
        ∧ m'.rd P.cellTRestarts k = (s.m.rd P.cellTRestarts k + 1) % 2 ^ P.cellTRestarts.w % 2 ^ 32
        ∧ Mod.Frame t [.cell, .perf] [P.cellTRestarts.addr k] s.m m')
    ∧ (∀ k cell cause, k < 16 → cell < 64 → 1 ≤ cause → cause ≤ 3 → s.m.towerUp k = true →
        cause = 3 ∨ (s.m.tower k).bound.contains cell = true →
      s.Yields (.cellFailure t k cell cause) fun m' => ∀ j ∈ m'.cell.jobs, j ∈ s.m.cell.jobs ∧ j.towers.contains k = false)
    ∧ (∀ k cell u, k < 16 → k < s.m.cell.towers.length → (s.m.tower k).restarting = some u →
      s.Yields (.towerWarmRestartComplete t k true cell []) fun m' => m'.tower k = { s.m.tower k with restarting := none, busyAt := (s.m.at t).now }
        ∧ m'.cell.lines = s.m.cell.lines.filter (fun e => !(e.1 / 2 ^ 28 = 1 && field e.1 20 17 = k))
        ∧ (∀ q, q ≠ k → m'.tower q = s.m.tower q) ∧ m'.cell.jobs = s.m.cell.jobs ∧ Mod.Frame t [.cell, .perf] [] s.m m')
    ∧ (∀ k cell u, (s.m.tower k).restarting = some u →
      s.Yields (.towerWarmRestartComplete t k false cell []) fun m' => m'.bist = { phase := .off } ∧ m'.nv.cause = 3 ∧ m'.trk.live = []
        ∧ m'.net.sessions = [])
    ∧ (∀ serial j k, s.m.cell.jobs.find? (fun j => j.serial = serial) = some j → j.revision = false → j.towers ≠ [] →
        j.start + s.m.jobBound ≤ (s.m.at t).now → s.m.track? serial = some k → k.st = .running → s.m.dfltOf k.recipe = false →
      s.Yields (.jobAbort t serial []) fun m' =>
        (∃ k', m'.track? serial = some k' ∧ k'.st = .committed ∧ k'.cause = 4 ∧ k'.verdict = false ∧ k'.obs = k.obs ∧ k'.slot = k.slot)
        ∧ m'.cell.jobs = s.m.cell.jobs.filter (fun x => !(x.serial = j.serial && x.revision = j.revision))
        ∧ m'.rd P.cellJobsAborted = (s.m.rd P.cellJobsAborted + 1) % 2 ^ P.cellJobsAborted.w % 2 ^ 32
        ∧ m'.rd P.trkDl 3 = (s.m.rd P.trkDl 3 + 1) % 2 ^ 32
        ∧ Mod.Frame t [.trk, .cell, .perf, .free] [P.cellJobsAborted.addr, P.trkDl.addr 3] s.m m'))
  ∧ (∀ (s : State) (t serial : Nat) (w : Wait) (k : Track), s.Canonical → s.m.cell.queue.find? (fun w => w.serial = serial) = some w →
    s.m.track? serial = some k → w.latest ≤ (s.m.at t).now → w.revision = false → k.st = .ready → s.m.dfltOf k.recipe = false →
    (k.lacks k.obs = true →
      s.Yields (.pieceLatestStart t serial) fun m' =>
        (∃ k', m'.track? serial = some k' ∧ k'.st = .committed ∧ k'.cause = 7 ∧ k'.verdict = false ∧ k'.obs = k.obs ∧ k'.flags.testBit 3 = true)
        ∧ m'.cell.queue = s.m.cell.queue.filter (fun x => x.serial ≠ serial) ∧ m'.rd P.trkDl 6 = (s.m.rd P.trkDl 6 + 1) % 2 ^ 32
        ∧ Mod.Frame t [.trk, .cell] [P.trkDl.addr 6] s.m m')
    ∧ (k.lacks k.obs = false → s.m.paired = false →
      s.Yields (.pieceLatestStart t serial) fun m' =>
        (∃ k', m'.track? serial = some k' ∧ k'.st = .committed ∧ k'.cause = 2 ∧ k'.verdict = false ∧ k'.obs = k.obs)
        ∧ m'.cell.queue = s.m.cell.queue.filter (fun x => x.serial ≠ serial)
        ∧ m'.rd P.cellJobsRefused = (s.m.rd P.cellJobsRefused + 1) % 2 ^ P.cellJobsRefused.w % 2 ^ 32
        ∧ m'.rd P.trkDl 1 = (s.m.rd P.trkDl 1 + 1) % 2 ^ 32
        ∧ Mod.Frame t [.trk, .cell] [P.cellJobsRefused.addr, P.trkDl.addr 1] s.m m'))

/-- R129, R149, R172 to R174, R177: a job whose copies agree gives its piece the policy's verdict and class at once (here ACCEPT), with its
plan's commit point; a revision writes the revised verdict and marks it; the slot is free and the job counted. -/
def Obligations.JobsGiveVerdicts : Prop :=
  ∀ (s : State) (t serial : Nat) (j : Job) (line : ResultLine) (k : Track), s.Canonical → s.m.cell.queue = [] → s.m.track? serial = some k →
    j.towers.length = 1 → (s.m.at t).now ≤ j.start + s.m.jobBound → line.held = none → line.plan = [] ∨ line.plan = j.plan.bytes →
    k.lateAt = none →
    let r := ruling k.vals (j.obs.any (·.oversize)) line.scores (confident k line)
    r.reject = false →
    (s.m.job? serial false = some j → k.st = .running →
      s.Yields (.pieceJobComplete t serial [some line] []) fun m' =>
        (∃ k', m'.track? serial = some k' ∧ k'.verdict = false ∧ k'.cls = r.cls ∧ k'.cverdict = r.clf ∧ k'.tDecided = (s.m.at t).now
          ∧ k'.tCross = j.tCross ∧ k'.tCommit = j.plan.commit ∧ k'.plan = some j.plan
          ∧ k'.st = (if j.plan.commit ≤ (s.m.at t).now then .committed else .decided) ∧ k'.obs = k.obs)
        ∧ m'.cell.jobs = s.m.cell.jobs.filter (fun x => !(x.serial = serial && x.revision = false))
        ∧ m'.rd P.cellJobsDone = (s.m.rd P.cellJobsDone + 1) % 2 ^ 32
        ∧ Mod.Frame t [.trk, .cell, .fus, .perf, .free] ([P.cellJobsDone.addr, P.sysDecLatMax.addr, P.ejClipped.addr, P.ejFlags.addr, P.fusContraPieces.addr, P.fusFlags.addr,
            P.fusDegradedPieces.addr, P.sysSuspect.addr] ++ (List.range 28).map (fun i => P.fusPairContra.addr i)
            ++ (List.range 8).map (fun p => P.fusAgree.addr p)) s.m m')
    ∧ (s.m.job? serial true = some j → k.st = .revising → k.verdict = false →
      s.Yields (.revisionJobComplete t serial [some line] []) fun m' =>
        (∃ k', m'.track? serial = some k' ∧ k'.verdict = false ∧ k'.cls = r.cls ∧ k'.flags.testBit 8 = true
          ∧ k'.tDecided = (s.m.at t).now ∧ k'.tCommit = Nat.min j.plan.commit k.tCommit)
        ∧ m'.cell.jobs = s.m.cell.jobs.filter (fun x => !(x.serial = serial && x.revision = true))
        ∧ m'.rd P.cellJobsDone = (s.m.rd P.cellJobsDone + 1) % 2 ^ 32
        ∧ Mod.Frame t [.trk, .cell, .perf, .free] [P.cellJobsDone.addr, P.sysDecLatMax.addr, P.ejClipped.addr, P.ejFlags.addr, P.fusContraPieces.addr, P.fusFlags.addr] s.m m')

/-! ### Tracking and the decision (chapter 7) -/

/-- R148, R165, R167, R170: a window closes at its time and is solved; an observation without a track opens one, with the next serial; a
track whose last due instant passes becomes ready and waits for its slot. -/
def Obligations.ObservationsFormTracks : Prop :=
  ∀ (s : State) (t : Nat), s.Canonical →
    (∀ w, s.m.trk.win = some w → w.opened + s.m.rd P.trkWinNs ≤ (s.m.at t).now ∨ 64 ≤ w.obs.length → s.m.trk.wins = [] →
      s.Yields (.assocWindowClose t) fun m' => m'.trk.win = none
        ∧ (∃ sol, m'.trk.wins = [{ obs := w.obs, sol := some sol }] ∧ sol.choice.length = w.obs.length)
        ∧ m'.trk.live = s.m.trk.live ∧ Mod.Frame t [.trk] [P.trkWinSplits.addr] s.m m')
    ∧ (∀ o, s.m.trk.wins = [{ obs := [o], sol := some { choice := [none], left := none } }] → s.m.trk.fresh < 8192 →
        s.m.track? s.m.bist.serial = none →
      s.Yields (.assocWindowResult t) fun m' => m'.trk.wins = [] ∧ m'.bist.serial = (s.m.bist.serial + 1) % 2 ^ 32
        ∧ m'.trk.fresh = s.m.trk.fresh + 1
        ∧ (∃ k, m'.track? s.m.bist.serial = some k ∧ k.obs = [o] ∧ k.slot = s.m.trk.fresh ∧ k.recipe = s.m.sys.recipe
          ∧ k.variant = s.m.fus.variant ∧ k.lot = s.m.trk.lotId)
        ∧ m'.trk.live.map (·.serial) = s.m.trk.live.map (·.serial) ++ [s.m.bist.serial])
    ∧ (∀ serial p k, s.m.track? serial = some k → k.ports.contains p = true → k.saw p = false → s.m.dueAt k p ≤ (s.m.at t).now → k.st = .open_ →
        (∀ d ∈ s.m.dues k, d ≤ (s.m.at t).now) → s.m.slots ≤ s.m.cell.jobs.length → s.m.cell.queue.length < 1024 →
        (s.m.cell.admits.filter (fun a => (s.m.at t).now < a + 400000)).length < s.m.rateBudget →
      s.Yields (.observationDue t serial p) fun m' =>
        (∃ k', m'.track? serial = some k' ∧ k'.st = .ready ∧ k'.readyAt = some (s.m.at t).now ∧ k'.byDue = true ∧ k'.tCross = s.m.crossOf k
          ∧ k'.tCommit = s.m.crossOf k - lrd k.vals P.trkProvLead * 1000 ∧ k'.obs = k.obs)
        ∧ (∃ w : Wait, m'.cell.queue = s.m.cell.queue ++ [w] ∧ w.serial = serial ∧ w.revision = false ∧ w.since = (s.m.at t).now)
        ∧ Mod.Frame t [.trk, .cell] [] s.m m')

/-- R169, R175, R176, R179, R180: a track without a verdict at its provisional commit point takes the default action, cause 15; a decided
one is committed at its commit point; one whose close instant has come leaves the table, and is counted once, by its outcome, for its
recipe and for the module's life; while a milestone is overdue it waits for it (R415). R182: a write of 1 to TRK_LOT requests a new lot,
which the next milestone opens; the loop engine's rates are published once each TRK_LOOP_PERIOD and begin again at zero. -/
def Obligations.TracksCommitAndClose : Prop :=
  (∀ (s : State) (t serial : Nat) (k : Track), s.Canonical → s.m.track? serial = some k →
    (k.st = .ready ∨ k.st = .running → k.tCommit ≤ (s.m.at t).now → s.m.dfltOf k.recipe = false →
      s.Yields (.provisionalCommitPass t serial) fun m' =>
        (∃ k', m'.track? serial = some k' ∧ k'.st = .committed ∧ k'.cause = 15 ∧ k'.verdict = false ∧ k'.obs = k.obs ∧ k'.slot = k.slot)
        ∧ m'.rd P.trkDl 14 = (s.m.rd P.trkDl 14 + 1) % 2 ^ 32 ∧ Mod.Frame t [.trk, .cell] [P.trkDl.addr 14] s.m m')
    ∧ (k.st = .decided ∨ k.st = .revising → k.tCommit ≤ (s.m.at t).now →
      s.Yields (.commitPoint t serial) fun m' => m'.track? serial = some { k with st := .committed }
        ∧ m'.trk.live.length = s.m.trk.live.length ∧ Mod.Frame t [.trk] [] s.m m')
    ∧ (∀ c, s.m.closeAt k = some c → c ≤ (s.m.at t).now → (s.m.at t).msOverdue = false → s.m.rd P.trkMapKind = 0 → k.recipe < s.m.trk.tally.length →
        k.outcomeOf ≤ s.m.bist.life.length →
      s.Yields (.trackClose t serial) fun m' => m'.track? serial = none
        ∧ m'.trk.live = s.m.trk.live.filter (fun x => x.serial ≠ serial) ∧ m'.trk.freed = s.m.trk.freed ++ [k.slot]
        ∧ (∃ d, m'.trk.done = s.m.trk.done ++ [d] ∧ d.serial = k.serial ∧ d.outcome = k.outcomeOf ∧ d.tClose = (s.m.at t).now)
        ∧ 1 ≤ k.outcomeOf ∧ k.outcomeOf ≤ 5
        ∧ m'.rd P.trkOut (k.outcomeOf - 1) = (s.m.rd P.trkOut (k.outcomeOf - 1) + 1) % 2 ^ 32
        ∧ m'.bist.life.getD (k.outcomeOf - 1) 0 = Nat.min (s.m.bist.life.getD (k.outcomeOf - 1) 0 + 1) 0xFFFFFFFF
        ∧ (m'.tally k.recipe).out.getD (k.outcomeOf - 1) 0
            = (if k.outcomeOf ≤ (s.m.tally k.recipe).out.length then ((s.m.tally k.recipe).out.getD (k.outcomeOf - 1) 0 + 1) % 2 ^ 32 else 0)
        ∧ Mod.Frame t [.trk, .cell, .bist] [P.trkOut.addr (k.outcomeOf - 1)] s.m m')
    ∧ (s.m.evc.raised = [] → (s.m.at t).msOverdue = true → s.Yields (.trackClose t serial) fun m' => m' = s.m.at t))
  ∧ (∀ (s : State) (t : Nat), s.m.running = true → s.Canonical →
    (∀ role, s.Yields (.trkLot t role 1#32) fun m' => m'.trk = { s.m.trk with lotReq := true } ∧ Mod.Frame t [.trk] [P.trkLot.addr] s.m m')
    ∧ (s.m.trk.rateFrom < (s.m.at t).now → s.m.trk.rateFrom + s.m.rd P.trkLoopPeriod * 1000000 ≤ (s.m.at t).now →
      s.Yields (.tallyLoopPublish t) fun m' =>
        m'.trk = { s.m.trk with pub := s.m.trk.rates.flatMap (fun z => z.publish ((s.m.at t).now - s.m.trk.rateFrom)),
                                pubAt := some (s.m.at t).now, rateFrom := (s.m.at t).now, rates := List.replicate 9 {} }
        ∧ Mod.Frame t [.trk] [] s.m m'))

/-! ### Ejection (chapter 8) -/

/-- R196, R197, R200, R203: at its firm instant a pulse asks for its boost grant, or is missed too late; at its hold-start instant it keeps
the boost that it was granted, or starts as a hold-start; at its start its channel is driven; at its latest start it is missed with the
cause that stood against it. -/
def Obligations.PulsesBecomeFirmAndStart : Prop :=
  ∀ (s : State) (t serial ch : Nat) (p : EPulse), s.Canonical → s.m.pulse? serial ch = some p → p.into = none → ch < 384 →
    let now := (s.m.at t).now
    (p.firm = false → p.firmAt ≤ now → p.firmAt + 2000 ≤ p.s + p.slack → s.m.asking (.pulse p.id p.ch) = false →
      s.Yields (.pulseFirm t serial ch) fun m' =>
        m'.ej = { s.m.ej with pulses := s.m.ej.pulses.map (fun q => if q.id = p.id then
          { q with firm := true, k := p.firmAt, grant := .asked, planned := tickOf (Nat.max q.s (p.firmAt + 2000)) } else q) }
        ∧ (∃ q : TollReq, m'.toll = { s.m.toll with reqs := s.m.toll.reqs ++ [q] } ∧ q.who = .pulse p.id p.ch ∧ q.cls = 1 ∧ q.budget = .vhi
          ∧ q.key = p.s + p.slack ∧ q.amount = s.m.rd P.tollQBoost ∧ q.at_ = now)
        ∧ Mod.Frame t [.ej, .toll] [] s.m m')
    ∧ (p.firm = false → p.firmAt ≤ now → p.s + p.slack < p.firmAt + 2000 → p.grant = .none →
      s.Yields (.pulseFirm t serial ch) fun m' =>
        (∀ q ∈ m'.ej.pulses, q.id ≠ p.id ∧ q.into ≠ some p.id) ∧ m'.rd P.ejMiss 6 = (s.m.rd P.ejMiss 6 + 1) % 2 ^ 32
        ∧ m'.rd P.ejChMissed ch = (s.m.rd P.ejChMissed ch + 1) % 2 ^ 32 ∧ m'.toll = s.m.toll ∧ Mod.Frame t [.ej, .trk] missWords s.m m')
    ∧ (p.firm = true → p.judged = false → p.started = none → Nat.min p.hsAt (tickOf p.hsAt) ≤ now → p.grant = .held →
      s.Yields (.holdStartInstant t serial ch) fun m' =>
        m'.ej = { s.m.ej with pulses := s.m.ej.pulses.map (fun q => if q.id = p.id then { q with judged := true } else q) }
        ∧ Mod.Frame t [.ej] [] s.m m')
    ∧ (p.firm = true → p.judged = false → p.started = none → Nat.min p.hsAt (tickOf p.hsAt) ≤ now → p.grant = .asked → (s.m.at t).overlapped p = false →
        s.m.hsAllowed p = true → p.hsAt + p.dHs - p.fire ≤ p.slack →
      s.Yields (.holdStartInstant t serial ch) fun m' =>
        m'.ej = { s.m.ej with pulses := s.m.ej.pulses.map (fun q => if q.id = p.id then
          { q with judged := true, grant := .none, hs := true, lam := p.hsAt + p.dHs - p.fire, planned := tickOf p.hsAt } else q) }
        ∧ m'.toll = { s.m.toll with reqs := s.m.toll.reqs.filter (fun r => r.who ≠ .pulse p.id p.ch) }
        ∧ m'.rd P.tollExpired1 = (s.m.rd P.tollExpired1 + 1) % 2 ^ 32
        ∧ (let note := fun (x : Track) => if x.serial = serial then
            { x with plan := x.plan.map (fun q => { q with mode := q.mode ||| 2 ^ p.bit }) } else x
           m'.trk = { s.m.trk with live := s.m.trk.live.map note, done := s.m.trk.done.map note })
        ∧ Mod.Frame t [.ej, .toll, .trk] [P.tollExpired1.addr, P.ejFlags.addr] s.m m')
    ∧ (s.m.ej.stopped = false → p.planned ≤ now → (s.m.at t).ready p = true → s.m.obstacle p = 0 → (s.m.at t).mustYield p = false →
        s.m.runningOn ch = none → ch < s.m.vlv.ch.length → now % 1000 = 0 → ∀ rail last,
      s.Yields (.pulseStart t serial ch false rail last) fun m' =>
        let p1 := { p with started := some now, shift := now - p.own }
        m'.ej = { s.m.ej with pulses := s.m.ej.pulses.map (fun q => if q.id = p.id then p1 else q) }
        ∧ (m'.vch ch).phase = (if p.hs then .hsRise else .boost) ∧ (m'.vch ch).energised = true ∧ (m'.vch ch).opened = false
        ∧ (m'.vch ch).start = now ∧ (m'.vch ch).off = m'.releaseOf p1 ∧ (m'.vch ch).pband = (s.m.vch ch).band ∧ (m'.vch ch).cut = none
        ∧ (∀ c, c ≠ ch → m'.vch c = { s.m.vch c with hiSeen := (m'.vch c).hiSeen, duty := (m'.vch c).duty })
        ∧ m'.rd P.ejPulses = (s.m.rd P.ejPulses + 1) % 2 ^ 32 ∧ m'.rd P.vlvPulses = (s.m.rd P.vlvPulses + 1) % 2 ^ 32
        ∧ m'.rd P.vlvChPulses ch = (s.m.rd P.vlvChPulses ch + 1) % 2 ^ 32
        ∧ Mod.Frame t [.ej, .vlv, .trk] [P.ejBankWaitMax.addr (bankOf ch), P.vlvDetNone.addr, P.vlvBoosts.addr, P.vlvPulses.addr,
            P.vlvChPulses.addr ch, P.ejPulses.addr, P.ejHoldStarts.addr, P.ejEnergisedPeak.addr, P.ejShifted.addr, P.ejFlags.addr] s.m m')
    ∧ (∀ old, s.m.ej.stopped = false → p.planned ≤ now → (s.m.at t).ready p = true → s.m.obstacle p = 0 → (s.m.at t).mustYield p = false →
        (p.hs = true ∨ p.grant = .held) → s.m.runningOn ch = some old → old.id ≠ p.id → s.m.followers old.id = [] → ch < s.m.vlv.ch.length → now % 1000 = 0 →
        (s.m.vch ch).energised = true → (s.m.vch ch).phase ≠ .idle → ((s.m.vch ch).judged = false ∨ (s.m.vch ch).arr ≠ none) → ∀ rail last,
      s.Yields (.pulseStart t serial ch false rail last) fun m' =>
        (∀ q ∈ m'.ej.pulses, q.id ≠ old.id) ∧ (∃ q ∈ m'.ej.pulses, q.id = p.id ∧ q.started = some now)
        ∧ (m'.vch ch).restarted = true ∧ (m'.vch ch).arr = none ∧ (m'.vch ch).judged = false
        ∧ (m'.vch ch).d = (s.m.vch ch).d ∧ (m'.vch ch).dhs = (s.m.vch ch).dhs
        ∧ (m'.vch ch).phase = (if p.hs then .hsRise else .boost) ∧ (m'.vch ch).energised = true
        ∧ (m'.vch ch).start = now ∧ (m'.vch ch).pband = (m'.vch ch).band
        ∧ (last.length ≠ 500 → (m'.vch ch).band = (s.m.vch ch).band ∧ (m'.vch ch).tc = (s.m.vch ch).tc)
        ∧ (∀ c, c ≠ ch → m'.vch c = { s.m.vch c with hiSeen := (m'.vch c).hiSeen, duty := (m'.vch c).duty })
        ∧ m'.rd P.vlvDetNone = (s.m.rd P.vlvDetNone + 1) % 2 ^ 32 ∧ m'.rd P.ejRestarts = (s.m.rd P.ejRestarts + 1) % 2 ^ 32
        ∧ Mod.Frame t [.ej, .vlv, .trk] [P.ejBankWaitMax.addr (bankOf ch), P.vlvDetNone.addr, P.vlvBoosts.addr, P.vlvPulses.addr,
            P.vlvChPulses.addr ch, P.ejPulses.addr, P.ejHoldStarts.addr, P.ejEnergisedPeak.addr, P.ejShifted.addr, P.ejFlags.addr,
            P.ejRestarts.addr, P.ejShiftMax.addr] s.m m')
    ∧ (p.firm = true → p.started = none → p.latest ≤ now → p.hs = false → p.grant = .asked →
      s.Yields (.pulseLatestStart t serial ch) fun m' =>
        (∀ q ∈ m'.ej.pulses, q.id ≠ p.id ∧ q.into ≠ some p.id) ∧ m'.rd P.ejMiss 2 = (s.m.rd P.ejMiss 2 + 1) % 2 ^ 32
        ∧ m'.toll = { s.m.toll with reqs := s.m.toll.reqs.filter (fun r => r.who ≠ .pulse p.id p.ch) }
        ∧ Mod.Frame t [.ej, .trk, .toll] missWords s.m m')
    ∧ (p.firm = true → p.started = none → p.latest ≤ now → p.grant = .held → s.m.obstacle p ≠ 0 →
      s.Yields (.pulseLatestStart t serial ch) fun m' =>
        (∀ q ∈ m'.ej.pulses, q.id ≠ p.id ∧ q.into ≠ some p.id) ∧ m'.rd P.ejMiss (s.m.obstacle p - 1) = (s.m.rd P.ejMiss (s.m.obstacle p - 1) + 1) % 2 ^ 32
        ∧ m'.toll = { s.m.toll with res := s.m.toll.res.filter (fun r => r.id ≠ p.id) }
        ∧ Mod.Frame t [.ej, .trk, .toll] missWords s.m m')

/-- R212 to R214, R216, R220 to R223, R226, R229: a boost that reaches I_PEAK ends in hold, at T_BOOST_MAX as a fault that is counted; the
hold-start's rise ends in hold; hold takes its band's current and chopping periods each drawn from 64 steps (free values, log 113); the
low side opens ADV before the release, where a hold phase whose stage was not HI corrects the coil's temperature; at its release the
pulse is fired and leaves the queue; the decay ends in rest below 20 mA; an arrival that is no valid sample is counted alone, and a
valid one waits, and enters its channel's estimate as the low side opens. What a phase's end clears for pulses that wait is noted with
them (R200). -/
def Obligations.PulsesRunTheirProfile : Prop :=
  ∀ (s : State) (t ch : Nat), s.Canonical → ch < 384 → ch < s.m.vlv.ch.length →
    let v := s.m.vch ch
    let now := (s.m.at t).now
    let sets := fun (m' : Mod) (w : VCh) => m'.vlv = { s.m.vlv with ch := s.m.vlv.ch.set ch w }
    let bare := fun (q : EPulse) => { q with obst := 0 }
    let held := { v with
      phase := .hold, holdAt := now, holdMa := if v.minHold then s.m.rd P.vlvIHoldMin else s.m.rd P.vlvIHold v.pband, opens := 0,
      chopKey := Config.freeValue s.m.free, chopNs := chopLength (s.m.rd P.vlvChopF) (Config.freeValue s.m.free) 0 }
    (∀ code, v.phase = .boost → s.m.rd P.vlvIPeak v.pband ≤ s.m.coilMa ch code →
      s.Yields (.boostEnd t ch code) fun m' => m'.vch ch = { held with hiSeen := false } ∧ m'.free = s.m.free + 1
        ∧ (∀ c, c ≠ ch → m'.vch c = { s.m.vch c with duty := (m'.vch c).duty }) ∧ m'.vlv.bankHi = s.m.vlv.bankHi.set (bankOf ch) false
        ∧ (∀ c ∈ bankChannels (bankOf ch), (m'.vch c).phase = .hsRise → c < s.m.vlv.ch.length → (m'.vch c).duty = (1, 1))
        ∧ m'.toll = { s.m.toll with res := s.m.toll.res.filter (fun r => r.id ≠ (s.m.runningOn ch).elim 0 (·.id)) }
        ∧ m'.ej.pulses.map bare = s.m.ej.pulses.map bare ∧ Mod.Frame t [.vlv, .toll, .ej, .free] [] s.m m')
    ∧ (∀ code, v.phase = .boost → s.m.coilMa ch code < s.m.rd P.vlvIPeak v.pband → v.start + s.m.rd P.vlvTBoostMax v.pband * 1000 ≤ now →
      s.Yields (.boostEnd t ch code) fun m' =>
        m'.vch ch = { held with hiSeen := false, cut := some (v.cut.getD now), fault := 3 }
        ∧ (∀ c, c ≠ ch → m'.vch c = { s.m.vch c with duty := (m'.vch c).duty }) ∧ m'.vlv.bankHi = s.m.vlv.bankHi.set (bankOf ch) false
        ∧ m'.rd P.vlvBoostTimeouts = (s.m.rd P.vlvBoostTimeouts + 1) % 2 ^ 32 ∧ m'.rd P.vlvFaults = (s.m.rd P.vlvFaults + 1) % 2 ^ 32
        ∧ m'.ej.pulses.map bare = s.m.ej.pulses.map bare
        ∧ Mod.Frame t [.vlv, .toll, .ej, .free] [P.vlvBoostTimeouts.addr, P.vlvFaults.addr, P.vlvFlags.addr] s.m m')
    ∧ (∀ code, v.phase = .hsRise →
        s.m.rd P.vlvIPeak v.pband ≤ s.m.coilMa ch code ∨ v.start + s.m.rd P.vlvHsTMax * 1000 ≤ now →
      s.Yields (.hsRiseEnd t ch code) fun m' =>
        sets m' { held with hiSeen := s.m.vlv.bankHi.getD (bankOf ch) false } ∧ m'.free = s.m.free + 1
        ∧ Mod.Frame t [.vlv, .free] [] s.m m')
    ∧ (∀ last, v.energised = true → v.opened = false → v.phase = .hold → v.hiSeen = true → v.arr = none →
        v.off ≤ now + s.m.rd P.vlvAdv v.pband * 1000 →
      s.Yields (.lowSideOpen t ch last) fun m' =>
        sets m' { v.released now with opened := true, holdMa := 0, phase := .decay } ∧ Mod.Frame t [.vlv] [] s.m m')
    ∧ (∀ last d l, v.energised = true → v.opened = false → v.phase = .hold → v.hiSeen = true → v.arr = some (d, l) →
        v.off ≤ now + s.m.rd P.vlvAdv v.pband * 1000 → v.hs = false → v.d.n < 16 → v.pend = [] →
      s.Yields (.lowSideOpen t ch last) fun m' =>
        let e : Est := { n := v.d.n + 1, x := v.d.x + rdiv (((d * 65536 : Nat) : Int) - v.d.x) (Nat.min (v.d.n + 1) (s.m.rd P.vlvLearnN)), disc := [] }
        sets m' { v with opened := true, holdMa := 0, phase := .decay, arr := none, valid := Nat.min 65535 (v.valid + 1), d := e,
                         pend := if 16 ≤ v.d.n + 1 then [(true, (rdiv e.x 65536).toNat, some (now + 10000))] else [] }
        ∧ m'.rd P.vlvDetValid = (s.m.rd P.vlvDetValid + 1) % 2 ^ 32
        ∧ m'.rd P.vlvDLast ch = Nat.min l 65535 * 65536 + Nat.min d 65535
        ∧ Mod.Frame t [.vlv] [P.vlvDetValid.addr, P.vlvDLast.addr ch] s.m m')
    ∧ (∀ last : List CoilSmp, v.energised = true → v.opened = false → v.phase = .hold → v.hiSeen = false → v.holdAt + 1000000 ≤ now →
        v.off ≤ now + s.m.rd P.vlvAdv v.pband * 1000 → last.length = 500 →
        let i := sumOf (last.map (fun x => s.m.coilMa ch x.code))
        let rho := s.m.calN P.vlvRes ch
        v.arr = none → i ≠ 0 → rho ≠ 0 → s.m.rd P.vlvRcorr ≠ 0 →
      s.Yields (.lowSideOpen t ch last) fun m' =>
        let rhoM := rdiv (last.foldl (fun a x => a + s.m.coilNv ch x) 0) i
        let tm := 20 * degree + rdiv ((rhoM - (rho : Int) * 1000) * 100000 * degree) (rho * 1000 * 393)
        let tc := v.tc + rdiv ((tm - v.tc) * (s.m.rd P.vlvRcorr : Int)) 256
        sets m' { v.released now with opened := true, holdMa := 0, phase := .decay, tc := tc, band := s.m.bandOf v.band tc }
        ∧ Mod.Frame t [.vlv] [] s.m m')
    ∧ (∀ p, v.energised = true → v.phase ≠ .idle → v.phase ≠ .boost → v.off ≤ now → now % 1000 = 0 → s.m.runningOn ch = some p → v.arr = none →
      s.Yields (.pulseRelease t ch) fun m' => sets m' { v.released now with energised := false, opened := true, holdMa := 0, phase := .decay }
        ∧ (∀ q ∈ m'.ej.pulses, q.id ≠ p.id ∧ q.into ≠ some p.id ∧ ∃ r ∈ s.m.ej.pulses, bare r = bare q)
        ∧ (∀ q ∈ s.m.ej.pulses, q.id ≠ p.id → (∀ f ∈ s.m.followers p.id, q.id ≠ f.id) → ∃ r ∈ m'.ej.pulses, bare r = bare q)
        ∧ Mod.Frame t [.vlv, .ej, .trk] [P.ejShiftMax.addr] s.m m')
    ∧ (∀ code, v.phase = .decay → s.m.coilMa ch code < 20 → v.judged = true → v.arr = none → v.settled now = v →
      s.Yields (.decayEnd t ch code) fun m' => sets m' { v with phase := .idle } ∧ Mod.Frame t [.vlv] [] s.m m')
    ∧ (∀ code boost x u, v.phase = .decay → s.m.coilMa ch code < 20 → v.judged = true → v.arr = none → v.dMeas = none → v.dhsMeas = none →
        v.pend = [(boost, x, some u)] → u ≤ now →
      s.Yields (.decayEnd t ch code) fun m' =>
        sets m' { v with phase := .idle, pend := [], dMeas := if boost then some x else none, dhsMeas := if boost then none else some x }
        ∧ (boost = true → m'.dOpen ch = x) ∧ (boost = false → m'.dHs ch = x)
        ∧ (s.m.Plain t 73 → (s.m.rd P.evcRoute 73).testBit 0 = true → Told 73 (if boost then 0x0416 else 0x0418) s.m m'))
    ∧ (∀ code, v.phase = .decay → s.m.coilMa ch code < 20 → v.judged = false → v.settled now = v →
      s.Yields (.decayEnd t ch code) fun m' => sets m' { v with phase := .idle, judged := true, arr := none }
        ∧ m'.rd P.vlvDetNone = (s.m.rd P.vlvDetNone + 1) % 2 ^ 32 ∧ Mod.Frame t [.vlv] [P.vlvDetNone.addr] s.m m')
    ∧ (∀ (smp : List CoilSmp) na lam i, v.phase ≠ .idle → v.phase ≠ .decay → v.judged = false → v.pend = [] → v.start + smp.length * 1000 ≤ now →
        arrivalFrom (s.m.arrivalTh ch) (s.m.rd P.vlvDetBlank) (s.m.rd P.vlvDetMax) 1 none
          (fluxRun (s.m.rhoNow ch) 0 (smp.map (fun x => (s.m.coilNv ch x, s.m.coilMa ch x.code)))) = some (na, lam, i) →
      (v.restarted = true ∨ (∃ c, v.cut = some c ∧ c < v.start + na * 1000) ∨ (∃ x ∈ smp.take na, 4095 ≤ x.code) →
        s.Yields (.arrivalDetected t ch smp) fun m' => sets m' { v with judged := true }
          ∧ m'.rd P.vlvDetNone = (s.m.rd P.vlvDetNone + 1) % 2 ^ 32 ∧ Mod.Frame t [.vlv] [P.vlvDetNone.addr] s.m m')
      ∧ (v.restarted = false → (∀ c, v.cut = some c → v.start + na * 1000 ≤ c) → (∀ x ∈ smp.take na, x.code < 4095) →
        s.Yields (.arrivalDetected t ch smp) fun m' =>
          sets m' { v with judged := true, arr := some (na + s.m.calN P.vlvAirLat ch, (rdiv lam (i * 1000000)).toNat) }
          ∧ Mod.Frame t [.vlv] [] s.m m'))

/-- R225 to R230: each coil's temperature takes its step and its band follows; an open coil ends its pulse and is retried; a short latches
its channel, which then holds no pulse that waits; a bank whose low side sticks or whose stage fails is lost, and no other channel is; a
latched channel that VLV_CH_CLR names returns to service. What this clears for pulses that wait is noted with them (R200). -/
def Obligations.CoilsAndFaultsAreContained : Prop :=
  ∀ (s : State) (t : Nat), s.Canonical → s.m.vlv.ch.length = 384 →
    let bare := fun (q : EPulse) => { q with obst := 0 }
    (∀ board (codes : List (Nat × List Nat)),
        let step := fun c => s.m.coilStep c board (sumOf ((((assocGet codes c).getD []).take 1000).map (fun x => s.m.coilMa c x ^ 2)))
        s.m.vlv.tempSet = true → s.m.vlv.tempAt ≤ (s.m.at t).now →
        (∀ c, c < 384 → (s.m.vch c).protect = false ∧ step c < s.m.rdI P.vlvTProt * 100000000) →
      s.Yields (.coilTempUpdate t board codes) fun m' =>
        (∀ c, c < 384 → m'.vch c = { s.m.vch c with tc := step c, band := s.m.bandOf (s.m.vch c).band (step c) })
        ∧ m'.vlv.tempAt = s.m.vlv.tempAt + 1000000
        ∧ m'.rdI P.vlvTBoard = sext P.vlvTBoard.w (toU P.vlvTBoard.w board % 2 ^ P.vlvTBoard.w)
        ∧ Mod.Frame t [.vlv] [P.vlvTBoard.addr] s.m m')
    ∧ (∀ ch code p, ch < 384 → ((s.m.vch ch).phase = .boost ∧ (s.m.vch ch).start + 50000 ≤ (s.m.at t).now)
          ∨ ((s.m.vch ch).phase = .hsRise ∧ (s.m.vch ch).start + 200000 ≤ (s.m.at t).now) → s.m.coilMa ch code < 100 →
        s.m.runningOn ch = some p → s.m.followers p.id = [] → (s.m.vch ch).opens + 1 < s.m.rd P.vlvOpenLimit → (s.m.vch ch).arr = none →
      s.Yields (.openCoil t ch code) fun m' =>
        m'.vch ch = { (s.m.vch ch).released (s.m.at t).now with
                        cut := some ((s.m.vch ch).cut.getD (s.m.at t).now), energised := false, opened := true, holdMa := 0,
                        phase := .decay, fault := 1, opens := (s.m.vch ch).opens + 1 }
        ∧ (∀ c, c ≠ ch → m'.vch c = { s.m.vch c with duty := (m'.vch c).duty })
        ∧ m'.ej.pulses.map bare = (s.m.ej.pulses.filter (fun q => q.id ≠ p.id)).map bare
        ∧ m'.rd P.ejMiss 7 = (s.m.rd P.ejMiss 7 + 1) % 2 ^ 32 ∧ m'.rd P.vlvFaults = (s.m.rd P.vlvFaults + 1) % 2 ^ 32
        ∧ Mod.Frame t [.ej, .vlv, .toll, .trk] ([P.vlvFaults.addr, P.vlvFlags.addr] ++ missWords) s.m m')
    ∧ (∀ ch code last, ch < 384 → (s.m.vch ch).phase ≠ .idle → s.m.rd P.vlvIShort ≤ s.m.coilMa ch code → (∀ q ∈ s.m.ej.pulses, q.into = none) →
      s.Yields (.shortOvercurrent t ch code last) fun m' =>
        (m'.vch ch).latched = true ∧ (m'.vch ch).fault = 2 ∧ (m'.vch ch).energised = false ∧ (m'.vch ch).phase = .decay
        ∧ (∀ c, c ≠ ch → m'.vch c = { s.m.vch c with duty := (m'.vch c).duty })
        ∧ (∀ q ∈ m'.ej.pulses, (q.ch = ch → q.started.isSome = true) ∧ ∃ r ∈ s.m.ej.pulses, bare r = bare q)
        ∧ (∀ q ∈ s.m.ej.pulses, (∀ x ∈ s.m.ej.pulses, x.ch = ch → x.id ≠ q.id) → ∃ r ∈ m'.ej.pulses, bare r = bare q)
        ∧ m'.rd P.vlvFaults = (s.m.rd P.vlvFaults + 1) % 2 ^ 32
        ∧ (m'.vch ch).arr = none
        ∧ Mod.Frame t [.ej, .vlv, .toll, .trk] (detWords ch ++ [P.vlvFaults.addr, P.vlvFlags.addr] ++ missWords) s.m m')
    ∧ (∀ b cmd fault lasts, b < 24 → b < s.m.vlv.bankOk.length → b < s.m.vlv.bankLost.length → s.m.vlv.bankOk.getD b false = true →
        (∃ smp : List BankSmp, cmd = Instr.bankStageFault t b smp lasts ∧ fault = 5 ∧ 5 ≤ smp.length
          ∧ ∀ x ∈ smp, 3000 < ((x.com : Int) - (stageMv (s.m.stageOf b) x : Int)).natAbs)
        ∨ (∃ (c0 : Nat) (smp : List CoilSmp), cmd = Instr.lowSideStuckOn t c0 smp lasts ∧ fault = 4 ∧ c0 < 384 ∧ bankOf c0 = b
          ∧ s.m.stageOf b ≠ 0 ∧ s.m.lowSideOn c0 = false ∧ 20 ≤ smp.length ∧ ∀ x ∈ smp, x.on = false ∧ 100 ≤ s.m.coilMa c0 x.code) →
      s.Yields cmd fun m' =>
        m'.vlv.bankOk = s.m.vlv.bankOk.set b false ∧ m'.vlv.bankLost = s.m.vlv.bankLost.set b true ∧ m'.vlv.bankHi.getD b false = false
        ∧ (∀ c ∈ bankChannels b, (m'.vch c).energised = false ∧ (m'.vch c).fault = fault)
        ∧ (∀ c, bankOf c ≠ b → m'.vch c = s.m.vch c) ∧ m'.rd P.vlvFaults = (s.m.rd P.vlvFaults + 1) % 2 ^ 32
        ∧ Mod.Frame t [.ej, .vlv, .toll, .trk] ((bankChannels b).flatMap detWords ++ [P.vlvFaults.addr, P.vlvFlags.addr] ++ missWords) s.m m')
    ∧ (∀ role ch, ch < 384 → s.m.running = true → (s.m.vch ch).latched = true →
      s.Yields (.vlvChClr t role (w32 ch)) fun m' =>
        m'.vlv = { s.m.vlv with ch := s.m.vlv.ch.set ch { s.m.vch ch with latched := false, opens := 0 } }
        ∧ Mod.Frame t [.vlv] [P.vlvChClr.addr] s.m m')

/-! ### Proportional channels (chapter 9) -/

/-- R232, R233, R237: a channel takes its base and dither at each PWM period and switches on at once where no class gates it, and shows the
mean of each dither period that ends; an open load of 10 ms and a short switch it off, with a retry in 100 ms until its retries are
spent; over-temperature holds it off until it has cooled; VLV_P_CLR clears a latched one. -/
def Obligations.ProportionalChannelsFollow : Prop :=
  ∀ (s : State) (t p : Nat), s.Canonical → p < 32 → p < s.m.vlv.pv.length → (s.m.rd P.tollSafetyPv).testBit p = false →
    let c := s.m.pch p
    let now := (s.m.at t).now
    let sets := fun (m' : Mod) (w : PCh) => m'.vlv = { s.m.vlv with pv := s.m.vlv.pv.set p w }
    let unasked := { s.m.toll with reqs := s.m.toll.reqs.filter (fun r => r.who ≠ .pv p) }
    (∀ raw duty, s.m.running = true → s.m.rd P.vlvPEn p = 1 → c.nextAt ≤ now → c.active = true ∨ (c.waiting = false ∧ c.free = true) →
      s.Yields (.pvPwmPeriod t p raw duty) fun m' =>
        let ma := s.m.pvMa p raw
        let b := (s.m.at t).pvBase p
        let f := s.m.rd P.vlvPDithF p
        let d := if b = 0 ∨ f = 0 then 0 else ditherAt (s.m.rd P.vlvPDithA p) f (s.m.rd P.vlvPDithShape p) now
        let k := now * f / 10 ^ 9
        let w := if c.dith = k then { c with dithSum := c.dithSum + ma, dithN := c.dithN + 1 } else { c with dith := k, dithSum := ma, dithN := 1 }
        sets m' { w with active := true, base := b, setNow := (clampI 0 3000 (b + d)).toNat, nextAt := now + 10 ^ 9 / s.m.rd P.vlvPFreq p,
                         openAt := if 95 ≤ duty ∧ 200 ≤ c.setNow ∧ 2 * ma < c.setNow then some (c.openAt.getD now) else none,
                         faults := if 0 < b ∧ b ≤ 2 * (ma : Int) then 0 else c.faults }
        ∧ m'.rd P.vlvPINow p = (if c.dith = k ∨ c.dithN = 0 then s.m.rd P.vlvPINow p else Nat.min 4095 (c.dithSum / c.dithN))
        ∧ Mod.Frame t [.vlv] [P.vlvPINow.addr p] s.m m')
    ∧ (∀ raw a, c.active = true → 200 ≤ c.setNow → 2 * s.m.pvMa p raw < c.setNow → c.openAt = some a → a + 10000000 ≤ now →
        c.faults + 1 < s.m.rd P.vlvPRetries p →
      s.Yields (.pvOpenLoad t p raw) fun m' =>
        sets m' { c with active := false, waiting := false, setNow := 0, openAt := none, faults := c.faults + 1,
                         retryAt := some (now + 100000000), open_ := true, short := false }
        ∧ m'.toll = unasked ∧ Mod.Frame t [.vlv, .toll] [] s.m m')
    ∧ (∀ raw, c.active = true → 4500 ≤ s.m.pvMa p raw → s.m.rd P.vlvPRetries p ≤ c.faults + 1 →
      s.Yields (.pvShort t p raw) fun m' =>
        sets m' { c with active := false, waiting := false, setNow := 0, openAt := none, faults := c.faults + 1, retryAt := none,
                         latched := true, short := true, open_ := false }
        ∧ m'.toll = unasked ∧ Mod.Frame t [.vlv, .toll] [] s.m m')
    ∧ (∀ d, c.retryAt = some d → d ≤ now → c.overtemp = false → c.active = false → c.waiting = false → c.unusable = false →
        c.latched = false →
      s.Yields (.pvRetry t p) fun m' => sets m' { c with retryAt := none, short := false, open_ := false, active := true }
        ∧ Mod.Frame t [.vlv] [] s.m m')
    ∧ (∀ raw temp, c.overtemp = false → 1500 ≤ temp →
      s.Yields (.pvOvertemp t p raw temp) fun m' =>
        sets m' { c with active := false, waiting := false, setNow := 0, openAt := none, overtemp := true }
        ∧ m'.toll = unasked ∧ Mod.Frame t [.vlv, .toll] [] s.m m')
    ∧ (∀ temp, c.overtemp = true → temp < 1300 → c.retryAt = none → s.m.rd P.vlvPEn p = 1 → s.m.running = true → c.active = false →
        c.waiting = false → c.unusable = false → c.latched = false →
      s.Yields (.pvOvertempCleared t p temp) fun m' => sets m' { c with overtemp := false, active := true } ∧ Mod.Frame t [.vlv] [] s.m m')
    ∧ (∀ role, s.m.running = true → c.latched = true →
      s.Yields (.vlvPClr t role p 1#32) fun m' => sets m' { c with latched := false, faults := 0, short := false, open_ := false }
        ∧ Mod.Frame t [.vlv] [P.vlvPClr.addr p] s.m m')

/-! ### Supplies and the toll gate (chapter 10) -/

/-- R239 to R242, R251, R253, R268, R419: each supply condition sets after 10 ticks or samples beyond its limit and clears after 1 ms within
it; a load input above its range switches off the channels that ask for it; LOGIC_IN's dropout, restoration, dips and overvoltage are
followed and counted; a hold-up store at its end ends the run, and the next start's cause is 1; a window in which V_B recharges too
slowly is reported; the logic power is compared with its cap. What the store holds less than 200 ms after it was drawn on is a free
value between what was left and full (the spec gives no course, log 116). -/
def Obligations.SuppliesAreFollowed : Prop :=
  ∀ (s : State) (t mv : Nat), s.Canonical →
    let now := (s.m.at t).now
    (s.m.running = true → s.m.toll.holdup = false → mv < (if s.m.fieldProfile then 6000 else 9000) →
      s.Yields (.logicDropout t mv) fun m' =>
        m'.toll = { s.m.toll with holdup := true, holdupAt := now, logicIn := mv, store := m'.toll.store }
        ∧ (s.m.toll.storeAt + 200000000 ≤ now → m'.toll.store = 1100000 ∧ m'.free = s.m.free)
        ∧ Nat.min s.m.toll.store 1100000 ≤ m'.toll.store ∧ m'.toll.store ≤ 1100000
        ∧ m'.rd P.tollHoldups = (s.m.rd P.tollHoldups + 1) % 2 ^ 32 ∧ (m'.rd P.tollFlags).testBit 9 = true
        ∧ Mod.Frame t [.toll, .free] [P.tollFlags.addr, P.tollHoldups.addr] s.m m')
    ∧ (s.m.placed = true → s.m.running = false → s.m.toll.holdup = false → mv < (if s.m.fieldProfile then 6000 else 9000) →
      s.Yields (.logicDropout t mv) fun m' => Restarted s.m.nv s.m.nv.cause s.m m')
    ∧ (s.m.fieldProfile = true → s.m.placed = true → s.m.toll.crank = false → mv < 9000 →
      s.Yields (.coldCrank t true mv) fun m' => m'.toll = { s.m.toll with crank := true, crankAt := now, logicIn := mv }
        ∧ m'.rd P.tollCranks = (s.m.rd P.tollCranks + 1) % 2 ^ 32
        ∧ Mod.Frame t [.toll] [P.tollFlags.addr, P.tollCranks.addr] s.m m')
    ∧ (s.m.fieldProfile = true → s.m.placed = true → s.m.toll.crank = true → 9000 ≤ mv →
      s.Yields (.coldCrank t false mv) fun m' => m'.toll = { s.m.toll with crank := false, logicIn := mv }
        ∧ Mod.Frame t [.toll] [] s.m m')
    ∧ (36000 < mv → s.m.toll.logicHigh = false →
      s.Yields (.logicOvervoltage t mv) fun m' => m'.toll = { s.m.toll with logicHigh := true, logicIn := mv }
        ∧ (m'.rd P.tollFlags).testBit 7 = true ∧ Mod.Frame t [.toll] [P.tollFlags.addr] s.m m')
    ∧ (mv ≤ 36000 → s.Yields (.logicOvervoltageEnd t mv) fun m' => m'.toll = { s.m.toll with logicHigh := false, logicIn := mv }
        ∧ Mod.Frame t [.toll] [] s.m m')
    ∧ (s.m.toll.holdup = true → s.m.toll.holdupAt + 1000000 ≤ now → (if s.m.fieldProfile then 6500 else 9500) < mv →
      s.Yields (.holdupRestore t mv) fun m' => m'.toll = { s.m.toll with
          holdup := false, logicIn := mv, storeAt := now,
          store := s.m.toll.store - s.m.comboPower * (now - s.m.toll.holdupAt) / 1000000 } ∧ Mod.Frame t [.toll] [] s.m m')
    ∧ (s.m.toll.holdup = true → s.m.toll.holdupAt + s.m.toll.store * 1000000 / s.m.comboPower ≤ now →
      s.Yields (.powerFail t) fun m' => m'.bist = { phase := .off } ∧ m'.nv.cause = 1 ∧ m'.trk.live = [] ∧ m'.net.sessions = []
        ∧ m'.toll = {})
    ∧ (∀ cond, cond < 6 → s.m.toll.cond cond = false → 10 ≤ s.m.toll.beyond.getD cond 0 →
        cond < 4 ∨ s.m.toll.beyond.getD (cond + 2) 0 < 10 →
      s.Yields (.supplyConditionSet t cond) fun m' => m'.toll = s.m.toll.setCond cond true ∧ m'.toll.cond cond = true
        ∧ (m'.rd P.tollFlags).testBit (condBit cond) = true ∧ Mod.Frame t [.toll] [P.tollFlags.addr] s.m m')
    ∧ (∀ inp, inp < 2 → s.m.lsw.ch.length = 24 → s.m.toll.cond (4 + inp) = true → 10 ≤ s.m.toll.beyond.getD (6 + inp) 0 →
        (if inp = 0 then s.m.toll.loadAHigh else s.m.toll.loadBHigh) = false →
      s.Yields (.supplyConditionSet t (4 + inp)) fun m' => (if inp = 0 then m'.toll.loadAHigh else m'.toll.loadBHigh) = true
        ∧ (∀ k, k < 24 → m'.lswCh k = if k % 2 = inp ∧ s.m.rd P.lswOvOff k = 1 ∧ ((s.m.lswCh k).on = true ∨ (s.m.lswCh k).wait = true) then
            { (s.m.lswCh k).dark with ovOff := true } else s.m.lswCh k)
        ∧ Mod.Frame t [.toll, .lsw] [] s.m m')
    ∧ (∀ cond, cond < 4 → s.m.toll.cond cond = true → 1000 ≤ s.m.toll.within.getD cond 0 →
      s.Yields (.supplyConditionClear t cond) fun m' => m'.toll = s.m.toll.setCond cond false ∧ m'.toll.cond cond = false
        ∧ Mod.Frame t [.toll] [] s.m m')
    ∧ (∀ inp, inp < 2 → inp < s.m.lsw.ovAt.length → s.m.toll.cond (4 + inp) = true → 100 ≤ s.m.toll.within.getD (4 + inp) 0 →
        (if inp = 0 then s.m.toll.loadAHigh else s.m.toll.loadBHigh) = true →
      s.Yields (.supplyConditionClear t (4 + inp)) fun m' => m'.toll.cond (4 + inp) = false
        ∧ m'.lsw = { s.m.lsw with ovAt := s.m.lsw.ovAt.set inp (some now) } ∧ Mod.Frame t [.toll, .lsw] [] s.m m')
    ∧ (∀ w, s.m.Plain t 2 → s.m.evc.once = [] →
        (if s.m.toll.win.k < now / 1000000 then some s.m.toll.win else s.m.toll.winDone) = some w →
      s.Yields (.rechargeCheck t) fun m' =>
        let rise : Int := (w.last : Int) - (w.first : Int)
        m'.toll = { s.m.toll with
          winDone := none, win := if s.m.toll.win.k < now / 1000000 then { w with boost := true } else s.m.toll.win }
        ∧ (w.low = true → s.m.winBoost w = false → 2 * rise * (s.m.rd P.tollCBulk : Int) < 1000 * (s.m.rd P.tollISup : Int) → RaisedOne 2 s.m m')
        ∧ (w.low = false ∨ s.m.winBoost w = true ∨ 1000 * (s.m.rd P.tollISup : Int) ≤ 2 * rise * (s.m.rd P.tollCBulk : Int) → m'.evc = s.m.evc)
        ∧ Mod.Frame t [.toll] [] s.m m')
    ∧ (s.Yields (.logicPowerCheck t mv) fun m' =>
        let ovr := s.m.fieldProfile && s.m.toll.cap ≠ 0 && s.m.toll.cap * 105 < mv * 100
        m'.toll = { s.m.toll with overCap := ovr } ∧ m'.rd P.tollPLogic = Nat.min mv 131071
        ∧ (ovr = true → s.m.toll.overCap = false → (m'.rd P.tollFlags).testBit 6 = true)
        ∧ (ovr = false → m'.rd P.tollFlags = s.m.rd P.tollFlags)
        ∧ Mod.Frame t [.toll] [P.tollPLogic.addr, P.tollFlags.addr] s.m m')

/-- R238, R239, R244 to R250: at each tick the gate takes the samples of the supplies, counts how long each has stood beyond and within its
limits, and grants a waiting boost that fits its budget, reserving its charge; one that does not fit waits, and is counted so once. -/
def Obligations.TollGateGrantsWhatFits : Prop :=
  ∀ (s : State) (t : Nat) (sup : Supplies) (drawn : List (Nat × Nat)), s.Canonical → s.m.cell.scrubGranted = true →
    (s.m.at t).now % 1000 = 0 →
    let took := (s.m.at t).tollSamples sup drawn
    let words := [P.vlvVhiNow.addr, P.vlvVloNow.addr, P.lswVaNow.addr, P.lswVbNow.addr]
      ++ (List.range 24).flatMap (fun k => [P.lswTDie.addr k, P.lswINow.addr k])
    (s.m.toll.reqs = [] →
      s.Yields (.tollTick t sup drawn) fun m' => m'.toll = took.toll
        ∧ m'.toll.vb = sup.vb ∧ m'.toll.vloLow = sup.vloLow ∧ m'.toll.vloTop = sup.vloTop ∧ m'.toll.logicIn = sup.logicIn
        ∧ ((s.m.at t).now % 10000 = 0 → m'.toll.loadA = sup.loadA ∧ m'.toll.loadB = sup.loadB)
        ∧ m'.rd P.vlvVhiNow = Nat.min sup.vhi 65535 ∧ m'.rd P.vlvVloNow = Nat.min sup.vlo 65535
        ∧ (∀ c, c < 8 → c < 4 ∨ (s.m.at t).now % 10000 = 0 → s.m.toll.beyond.length = 8 → s.m.toll.within.length = 8 →
            m'.toll.beyond.getD c 0 = (if s.m.isBeyond sup c then s.m.toll.beyond.getD c 0 + 1 else 0)
            ∧ m'.toll.within.getD c 0 = (if s.m.isBeyond sup c then 0 else s.m.toll.within.getD c 0 + 1))
        ∧ Mod.Frame t [.toll, .lsw] words s.m m')
    ∧ (∀ r id ch, s.m.toll.reqs = [r] → r.who = .pulse id ch → r.cls = 1 → r.budget = .vhi → took.tollFits r = true →
      s.Yields (.tollTick t sup drawn) fun m' =>
        m'.toll = { took.toll with reqs := [], res := took.toll.res ++ [{ id := id, ch := ch, left := r.amount }] }
        ∧ (∀ p ∈ m'.ej.pulses, p.id = id → p.grant = .held) ∧ m'.ej.pulses.map (·.id) = s.m.ej.pulses.map (·.id)
        ∧ m'.rd P.tollGrants 1 = (s.m.rd P.tollGrants 1 + 1) % 2 ^ 32
        ∧ Mod.Frame t [.toll, .ej, .lsw] (P.tollGrants.addr 1 :: P.tollWaitMax.addr 1 :: words) s.m m')
    ∧ (∀ r, s.m.toll.reqs = [r] → r.waited = false → r.cls < 5 → took.tollFits r = false →
      s.Yields (.tollTick t sup drawn) fun m' => m'.toll = { took.toll with reqs := [{ r with waited := true }] }
        ∧ m'.rd P.tollWaited r.cls = (s.m.rd P.tollWaited r.cls + 1) % 2 ^ 32
        ∧ Mod.Frame t [.toll, .lsw] (P.tollWaited.addr r.cls :: words) s.m m')

/-! ### Load switches (chapter 11) -/

/-- R259 to R267, R269: the inrush window closes when it has counted its time; each PWM period takes its duty, which is a free value where
the input's voltage is 0 and compensation is asked (the spec states no result there, log 33); a short or a trip switches the channel
off, to be retried or latched; the thermal latch switches it off and a retry waits for its end; a second of on-time restores the
retries. -/
def Obligations.LoadSwitchesRunAndTrip : Prop :=
  ∀ (s : State) (t k : Nat), s.Canonical → k < 24 → k < s.m.lsw.ch.length →
    let c := s.m.lswCh k
    let now := (s.m.at t).now
    let sets := fun (m' : Mod) (w : LswCh) => m'.lsw = { s.m.lsw with ch := s.m.lsw.ch.set k w }
    let unasked := { s.m.toll with reqs := s.m.toll.reqs.filter (fun r => r.who ≠ .lsw k) }
    (∀ u, c.on = true → c.inrush = true → c.since = some u → s.m.rd P.lswTInrush k * 1000000 ≤ c.counted + (now - u) →
      s.Yields (.inrushWindowEnd t k) fun m' => sets m' { c with inrush := false, since := none, counted := c.counted + (now - u) }
        ∧ Mod.Frame t [.lsw] [] s.m m')
    ∧ (c.on = true → s.m.rd P.lswFreq k ≠ 0 → c.nextAt ≤ now →
      s.Yields (.lswPwmPeriod t k) fun m' =>
        let f := s.m.rd P.lswFreq k
        let last := if k % 2 = 0 then s.m.toll.loadA else s.m.toll.loadB
        let vin := if c.vN = 0 then last else c.vSum
        let n := if c.vN = 0 then 1 else c.vN
        let dset := if s.m.rd P.lswSrc k = 0 then s.m.rd P.lswDuty k else (clampI 0 1000 ((s.m.at t).loopOut (s.m.rd P.lswSrc k))).toNat
        let vref := n * (if s.m.rd P.lswVref k = 0 then s.m.loadNom (k % 2) else s.m.rd P.lswVref k)
        (s.m.rd P.lswComp k = 0 ∨ vin ≠ 0 →
          sets m' { c with duty := lswLeast k f (lswComp (s.m.rd P.lswComp k) dset vref vin 0), nextAt := now + 10 ^ 9 / f, vSum := 0, vN := 0 }
          ∧ m'.free = s.m.free)
        ∧ (s.m.rd P.lswComp k ≠ 0 → vin = 0 →
          sets m' { c with duty := lswLeast k f (clampI 0 1000 (Config.freeValue s.m.free)).toNat, nextAt := now + 10 ^ 9 / f, vSum := 0,
                           vN := 0 }
          ∧ m'.free = s.m.free + 1)
        ∧ Mod.Frame t [.lsw, .free] [] s.m m')
    ∧ (∀ raw, c.on = true → (if k < 8 then 60000 else 20000) ≤ s.m.lswMa k raw → c.count ≠ s.m.rd P.lswRetries k →
      s.Yields (.lswHardShort t k raw) fun m' => sets m' { c.dark with retryAt := some (now + s.m.rd P.lswRetryMs k * 1000000) }
        ∧ m'.toll = unasked ∧ m'.rd P.lswHardShorts = (s.m.rd P.lswHardShorts + 1) % 2 ^ 32
        ∧ m'.rd P.lswChTrips k = (s.m.rd P.lswChTrips k + 1) % 2 ^ 32
        ∧ Mod.Frame t [.lsw, .toll] [P.lswHardShorts.addr, P.lswChTrips.addr k, P.lswFlags.addr] s.m m')
    ∧ (c.on = true → c.count = s.m.rd P.lswRetries k → 0 < c.trip → 100 * s.m.rd P.lswTTrip k ≤ c.trip →
      s.Yields (.lswOvercurrentTrip t k) fun m' => sets m' { c.dark with latched := true, retryAt := none }
        ∧ m'.toll = unasked ∧ m'.rd P.lswTrips = (s.m.rd P.lswTrips + 1) % 2 ^ 32
        ∧ m'.rd P.lswChTrips k = (s.m.rd P.lswChTrips k + 1) % 2 ^ 32
        ∧ Mod.Frame t [.lsw, .toll] [P.lswTrips.addr, P.lswChTrips.addr k, P.lswFlags.addr] s.m m')
    ∧ (∀ temp raw, c.thermal = false → 1650 ≤ temp → c.on = true → s.m.lswMa k raw ≤ s.m.rd P.lswITrip k →
      s.Yields (.lswThermalLatch t k temp raw) fun m' => sets m' { c.dark with thermal := true, thermalOff := true } ∧ m'.toll = unasked
        ∧ m'.rd P.lswThermals = (s.m.rd P.lswThermals + 1) % 2 ^ 32
        ∧ Mod.Frame t [.lsw, .toll] [P.lswThermals.addr, P.lswTDie.addr k, P.lswFlags.addr] s.m m')
    ∧ (∀ temp, c.thermal = true → temp < 1350 → c.retryAt = none → c.thermalOff = false →
      s.Yields (.lswThermalClear t k temp) fun m' => sets m' { c with thermal := false } ∧ Mod.Frame t [.lsw] [P.lswTDie.addr k] s.m m')
    ∧ (∀ d, c.retryAt = some d → d ≤ now → c.thermal = false → s.m.lswMayAsk k → s.m.lsw.uv.getD (k % 2) false = false →
        s.m.asking (.lsw k) = false →
      s.Yields (.lswRetryDue t k) fun m' =>
        sets m' { c with retryAt := none, count := c.count + 1, wait := true, isRetry := true, thermalOff := false, uvOff := false,
                         ovOff := false, held := false }
        ∧ (∃ q : TollReq, m'.toll = { s.m.toll with reqs := s.m.toll.reqs ++ [q] } ∧ q.who = .lsw k
          ∧ q.cls = (if s.m.lswSafety k then 0 else 2) ∧ q.amount = s.m.rd P.lswIAllow k ∧ q.at_ = now)
        ∧ m'.rd P.lswRetriesDone = (s.m.rd P.lswRetriesDone + 1) % 2 ^ 32
        ∧ Mod.Frame t [.lsw, .toll] [P.lswRetriesDone.addr] s.m m')
    ∧ (c.on = true → c.onAt + 10 ^ 9 ≤ now →
      s.Yields (.lswRetryReset t k) fun m' => sets m' { c with count := 0 } ∧ Mod.Frame t [.lsw] [] s.m m')
    ∧ (∀ role, s.m.running = true → c.latched = true → s.m.rd P.lswOn k = 0 →
      s.Yields (.lswClr t role (w32 k)) fun m' => sets m' { c with count := 0, latched := false }
        ∧ Mod.Frame t [.lsw] [P.lswClr.addr] s.m m')
    ∧ (∀ a, c.on = true → c.inrush = false → c.open_ = false → c.openAt = some a → a + 100000000 ≤ now →
      s.Yields (.lswOpenLoad t k) fun m' => sets m' { c with open_ := true } ∧ Mod.Frame t [.lsw] [P.lswFlags.addr] s.m m')
    ∧ (c.open_ = true → s.m.rd P.lswIOpen k ≤ s.m.rd P.lswINow k →
      s.Yields (.lswOpenCleared t k) fun m' => sets m' { c with open_ := false } ∧ Mod.Frame t [.lsw] [] s.m m')

/-- R263, R268: below its input's threshold an inrush window stops counting; when that has lasted, the input's channels that are no safety
channels switch off, and they ask again when the input is back; so do channels that an overvoltage switched off, 10 ms after its end. -/
def Obligations.LoadInputsSwitchChannels : Prop :=
  ∀ (s : State) (t inp : Nat), s.Canonical → inp < 2 → s.m.lsw.ch.length = 24 → s.m.lsw.uv.length = 2 → s.m.lsw.off.length = 2 →
    let now := (s.m.at t).now
    (∀ mv, s.m.lsw.uv.getD inp false = false → mv ≤ s.m.lswUv inp →
      s.Yields (.lswUndervoltageThreshold t inp true mv) fun m' =>
        m'.lsw.uv = s.m.lsw.uv.set inp true ∧ m'.lsw.uvAt = s.m.lsw.uvAt.set inp (some now)
        ∧ (∀ k u, k < 24 → k % 2 = inp → (s.m.lswCh k).since = some u →
          m'.lswCh k = { s.m.lswCh k with since := none, counted := (s.m.lswCh k).counted + (now - u) })
        ∧ (∀ k, k % 2 ≠ inp ∨ (s.m.lswCh k).since = none → m'.lswCh k = s.m.lswCh k)
        ∧ m'.toll = (if inp = 0 then { s.m.toll with loadA := mv } else { s.m.toll with loadB := mv })
        ∧ Mod.Frame t [.lsw, .toll] [] s.m m')
    ∧ (∀ mv, s.m.lsw.uv.getD inp false = true → s.m.lswUv inp < mv → (∀ c ∈ s.m.lsw.ch, c.wait = false) →
      s.Yields (.lswUndervoltageThreshold t inp false mv) fun m' =>
        m'.lsw.uv = s.m.lsw.uv.set inp false ∧ m'.lsw.uvAt = s.m.lsw.uvAt.set inp (some now)
        ∧ (∀ k, k < 24 → m'.lswCh k = if k % 2 = inp ∧ (s.m.lswCh k).on = true ∧ (s.m.lswCh k).inrush = true ∧ (s.m.lswCh k).since = none then
            { s.m.lswCh k with since := some now } else s.m.lswCh k)
        ∧ Mod.Frame t [.lsw, .toll] [] s.m m')
    ∧ (∀ mv u, s.m.lsw.uv.getD inp false = true → s.m.lsw.uvAt.getD inp none = some u → u + s.m.rd P.lswUvOffMs * 1000000 ≤ now →
        s.m.lsw.sagDone.getD inp false = false →
      s.Yields (.lswUvSwitchOff t inp mv) fun m' => m'.lsw.off = s.m.lsw.off.set inp true ∧ m'.lsw.sagDone = s.m.lsw.sagDone.set inp true
        ∧ (∀ k, k < 24 → m'.lswCh k = if k % 2 = inp ∧ s.m.lswSafety k = false
              ∧ ((s.m.lswCh k).on = true ∨ ((s.m.lswCh k).wait = true ∧ (s.m.lswCh k).held = false)) then
            { (s.m.lswCh k).dark with uvOff := true } else s.m.lswCh k)
        ∧ m'.rd P.lswUvOffs = (s.m.rd P.lswUvOffs + 1) % 2 ^ 32
        ∧ Mod.Frame t [.lsw, .toll] [P.lswUvOffs.addr, P.lswFlags.addr] s.m m')
    ∧ (∀ u, s.m.lsw.off.getD inp false = true → s.m.lsw.uv.getD inp false = false → s.m.lsw.uvAt.getD inp none = some u → u + 10000000 ≤ now →
      s.Yields (.lswUvRestore t inp) fun m' => m'.lsw.off = s.m.lsw.off.set inp false ∧ m'.lsw.uv = s.m.lsw.uv
        ∧ (∀ k, k < 24 → k % 2 = inp → (s.m.lswCh k).uvOff = true → s.m.rd P.lswOn k = 1 → s.m.lswMayAsk k → (s.m.lswCh k).thermal = false →
          (m'.lswCh k).wait = true ∧ (m'.lswCh k).uvOff = false ∧ m'.asking (.lsw k) = true)
        ∧ (∀ k, k % 2 ≠ inp ∨ (s.m.lswCh k).uvOff = false → m'.lswCh k = s.m.lswCh k) ∧ Mod.Frame t [.lsw, .toll] [] s.m m')
    ∧ (∀ u, s.m.lsw.ovAt.getD inp none = some u → u + 10000000 ≤ now → s.m.lsw.uv.getD inp false = false →
      s.Yields (.lswOvRestore t inp) fun m' => m'.lsw.ovAt = s.m.lsw.ovAt.set inp none
        ∧ (∀ k, k < 24 → k % 2 = inp → (s.m.lswCh k).ovOff = true → s.m.rd P.lswOn k = 1 → s.m.lswMayAsk k → (s.m.lswCh k).thermal = false →
          (m'.lswCh k).wait = true ∧ (m'.lswCh k).ovOff = false ∧ m'.asking (.lsw k) = true)
        ∧ (∀ k, k % 2 ≠ inp ∨ (s.m.lswCh k).ovOff = false → m'.lswCh k = s.m.lswCh k) ∧ Mod.Frame t [.lsw, .toll] [] s.m m')

/-! ### The control engine and the machine inputs (chapter 12) -/

/-- R273 to R276, R279, R281, R283, R293, R294: a tick, 50 µs after the last on the raw count from E_0, takes every encoder's velocity and
frequency input, runs the loops that are due, and is counted; none runs before its instant; the output of a loop stands until its fixed
write instant; a loop that is OFF answers LOOP_U_SAFE, one in MANUAL its setting within its limits, one in AUTO an output within its
limits. R288: a trace that is armed discards its content and keeps its sequence number; a trigger sets how many records remain; a stop
leaves a complete trace as it is and any other idle. -/
def Obligations.LoopsRunEachTick : Prop :=
  (∀ (s : State) (t : Nat), s.Canonical → s.m.running = true → s.m.loop.ctx.length = 64 → s.m.loop.enc.length = 8 → s.m.loop.frq.length = 16 →
    let i := s.m.loop.tick
    let at_ := s.m.bist.e0 + i * 50000
    let inputs := fun (m' : Mod) =>
      m'.loop.tick = i + 1 ∧ m'.rd P.loopTicks = (s.m.rd P.loopTicks + 1) % 2 ^ 32 ∧ m'.loop.ain = s.m.loop.ain
      ∧ (∀ e, e < 8 → (m'.loop.enc.getD e {}).vel
          = sat32 (rdiv (sext 32 (toU 32 ((s.m.loop.enc.getD e {}).pos - (s.m.loop.enc.getD e {}).hist.getD (s.m.rd P.ainEncVwin e - 1) 0)) * 20000)
              (s.m.rd P.ainEncVwin e))
          ∧ (m'.loop.enc.getD e {}).pos = (s.m.loop.enc.getD e {}).pos)
      ∧ (∀ f, f < 16 → (m'.loop.frq.getD f {}).edges = (s.m.loop.frq.getD f {}).edges
          ∧ ((s.m.loop.frq.getD f {}).edges = [] → (m'.loop.frq.getD f {}).value = 0))
    let loopWords := fun (l : Nat) => [P.loopTicks.addr, P.loopFallbacks.addr, P.loopMNow.addr l, P.loopRNow.addr l, P.loopENow.addr l,
      P.loopINow.addr l, P.loopAgeNow.addr l, P.loopQ.addr l, P.loopState.addr l]
    ((s.m.at t).now < at_ → s.Yields (.loopTick t) fun m' => m'.loop = s.m.loop ∧ Mod.Frame t [] [] s.m m')
    ∧ (at_ ≤ (s.m.at t).now → s.m.dueLoops i = [] → s.Yields (.loopTick t) fun m' => inputs m' ∧ m'.loop.ctx = s.m.loop.ctx ∧ Mod.Frame t [.loop] [P.loopTicks.addr] s.m m')
    ∧ (∀ l, at_ ≤ (s.m.at t).now → s.m.dueLoops i = [l] →
        s.Yields (.loopTick t) fun m' => inputs m' ∧ (∀ k, k ≠ l → m'.loop.ctx.getD k {} = s.m.loop.ctx.getD k {})
          ∧ (m'.loop.ctx.getD l {}).wroteAt = some (at_ + 1000 + 480) ∧ (m'.loop.ctx.getD l {}).uOld = (s.m.loop.ctx.getD l {}).u
          ∧ ((s.m.at t).now < at_ + 1000 + 480 → m'.loopOut l = ((s.m.loop.ctx.getD l {}).u).getD (s.m.rdI P.loopUSafe l))
          ∧ (s.m.rd P.loopMode l = 0 → (m'.loop.ctx.getD l {}).u = some (s.m.rdI P.loopUSafe l) ∧ (m'.loop.ctx.getD l {}).iacc = 0
            ∧ (m'.loop.ctx.getD l {}).mode = 0)
          ∧ (s.m.rd P.loopMode l = 2 → (m'.loop.ctx.getD l {}).u
              = some (clampI (s.m.rdI P.loopUMin l) (s.m.rdI P.loopUMax l) (s.m.rdI P.loopManual l)) ∧ (m'.loop.ctx.getD l {}).mode = 2)
          ∧ (s.m.rd P.loopMode l = 1 → s.m.rd P.loopMaxAge l = 0 → s.m.rd P.loopUSlew l = 0 → s.m.rdI P.loopUMin l ≤ s.m.rdI P.loopUMax l →
              ∃ u, (m'.loop.ctx.getD l {}).u = some u ∧ s.m.rdI P.loopUMin l ≤ u ∧ u ≤ s.m.rdI P.loopUMax l
                ∧ (m'.loop.ctx.getD l {}).mode = 1)
          ∧ Mod.Frame t [.loop] (loopWords l) s.m m'))
  ∧ (∀ (s : State) (t role n : Nat), s.Canonical → s.m.running = true → s.m.Plain t 93 → n < 8 → n < s.m.loop.traces.length →
    let x := s.m.loop.traces.getD n {}
    let y := { x with st := .triggered, left := s.m.trCap n - field (s.m.rd P.loopTrTrig n) 27 16 }
    s.Yields (.traceArm t role n) (fun m' => m'.loop = { s.m.loop with traces := s.m.loop.traces.set n { st := .armed, seq := x.seq } }
      ∧ m'.evc = s.m.evc ∧ Mod.Frame t [] [P.loopTrCmd.addr n] s.m m')
    ∧ s.Yields (.traceStop t role n) (fun m' =>
      m'.loop = { s.m.loop with traces := s.m.loop.traces.set n { x with st := if x.st = .complete then .complete else .idle } }
      ∧ m'.evc = s.m.evc ∧ Mod.Frame t [] [P.loopTrCmd.addr n] s.m m')
    ∧ (x.st = .armed → field (s.m.rd P.loopTrTrig n) 27 16 < s.m.trCap n →
      s.Yields (.traceTrigger t role n) fun m' =>
        m'.loop = { s.m.loop with traces := s.m.loop.traces.set n y }
        ∧ RaisedOne 93 s.m m' ∧ Mod.Frame t [] [P.loopTrCmd.addr n] s.m m'))

/-- R289 to R294: a window's mean is delivered with its instant unless the input is in fault, which holds the last value; an overrange opens
the shunt for 1 s, a low current is a fault until 10 ms in range; a hit is a rise to the threshold from below the rearm level, counted
after the dead time; an encoder counts its quadrature edges up or down, and an edge of both is an error; a frequency input keeps its
edges; a level that has not held its filter time is none. -/
def Obligations.InputsAreMeasured : Prop :=
  ∀ (s : State) (t n : Nat), s.Canonical →
    let now := (s.m.at t).now
    let a := s.m.loop.ain.getD n {}
    let ains := fun (m' : Mod) (w : Ain) => m'.loop = { s.m.loop with ain := s.m.loop.ain.set n w, traces := m'.loop.traces }
    (n < 32 → n < s.m.loop.ain.length →
      (∀ samples, s.m.rd P.ainMode n = 0 → samples.length = s.m.ainLen n → a.unusable = false → a.fault = false →
          (∀ c, a.clearedAt = some c → c + samples.length * 5000 ≤ now) →
        s.Yields (.ainWindow t n samples) fun m' =>
          ains m' { a with ovr := samples.any (fun x => x ≤ -32768 || 32767 ≤ x), at_ := some now, clearedAt := none }
          ∧ m'.word (P.ainValNow.addr n) = w32 (toU P.ainValNow.w (s.m.ainValue n samples) % 2 ^ P.ainValNow.w)
          ∧ Mod.Frame t [.loop] [P.ainValNow.addr n] s.m m')
      ∧ (∀ samples, s.m.rd P.ainMode n = 1 → samples.length = s.m.ainLen n → a.unusable = false → a.fault = true →
        s.Yields (.ainWindow t n samples) fun m' => 
          let low := s.m.rd P.ainLowUa n ≠ 0 ∧ samples.any (fun x => x * 24000 < (s.m.rd P.ainLowUa n * 65536 : Nat)) = true
          ains m' { a with ovr := false, badAt := if low then now else a.badAt } ∧ Mod.Frame t [.loop] [] s.m m')
      ∧ (∀ ua, s.m.rd P.ainMode n = 1 → a.shuntOpen = none → 26000 < ua →
        s.Yields (.ainOverrange t n ua) fun m' => ains m' { a with overrange := true, shuntOpen := some now, badAt := now } ∧ Mod.Frame t [.loop] [] s.m m')
      ∧ (∀ u, a.shuntOpen = some u → u + 10 ^ 9 ≤ now →
        s.Yields (.ainShuntReclose t n) fun m' => ains m' { a with shuntOpen := none, badAt := now } ∧ Mod.Frame t [.loop] [] s.m m')
      ∧ (∀ ua, s.m.rd P.ainMode n = 1 → ua < s.m.rd P.ainLowUa n →
        s.Yields (.ainLowCurrent t n ua) fun m' => ains m' { a with low := true, badAt := now } ∧ Mod.Frame t [.loop] [] s.m m')
      ∧ (a.fault = true → a.shuntOpen = none → a.badAt + 10000000 ≤ now →
        s.Yields (.ainFaultClear t n) fun m' => ains m' { a with low := false, overrange := false, clearedAt := some now }
          ∧ Mod.Frame t [.loop] [] s.m m')
      ∧ (∀ low v, s.m.rd P.ainMode n = 2 → a.unusable = false → let armed := a.armed || low < s.m.rd P.ainHitRearm n
        ((∀ h, a.lastHit = some h → h + s.m.rd P.ainHitDead n * 1000 ≤ now) → armed = true → s.m.rd P.ainHitThr n ≤ (v : Int).natAbs →
          s.Yields (.ainPiezoHit t n low v) fun m' => ains m' { a with lastHit := some now, hits := now :: a.hits, armed := false }
            ∧ m'.rd P.ainHitsTotal n = (s.m.rd P.ainHitsTotal n + 1) % 2 ^ 32 ∧ Mod.Frame t [.loop] [P.ainHitsTotal.addr n] s.m m')
        ∧ (armed = false ∨ v.natAbs < s.m.rd P.ainHitThr n →
          s.Yields (.ainPiezoHit t n low v) fun m' => ains m' { a with armed := armed } ∧ Mod.Frame t [.loop] [] s.m m')
        ∧ (∀ h, a.lastHit = some h → now < h + s.m.rd P.ainHitDead n * 1000 → armed = true → s.m.rd P.ainHitThr n ≤ v.natAbs →
          s.Yields (.ainPiezoHit t n low v) fun m' => ains m' { a with armed := false } ∧ Mod.Frame t [.loop] [] s.m m'))
      ∧ (s.m.rd P.ainMode n = 2 → a.unusable = false →
        s.Yields (.ainHitRate t n) fun m' =>
          let hits := a.hits.filter (fun h => now < h + s.m.rd P.ainHitWin n * 1000000)
          ains m' { a with hits := hits, at_ := some now }
          ∧ m'.word (P.ainValNow.addr n)
            = w32 (toU P.ainValNow.w (rdiv ((hits.length * 1000 : Nat) : Int) (s.m.rd P.ainHitWin n)) % 2 ^ P.ainValNow.w)
          ∧ Mod.Frame t [.loop] [P.ainValNow.addr n] s.m m'))
    ∧ (n < 8 → n < s.m.loop.enc.length → (s.m.rd P.ainEncCfg n).testBit 9 = true →
      let c := s.m.loop.enc.getD n {}
      let encs := fun (m' : Mod) (w : Enc) => m'.loop = { s.m.loop with enc := s.m.loop.enc.set n w, traces := m'.loop.traces }
      c.unusable = false → ∀ ns,
      (field (s.m.rd P.ainEncCfg n) 7 0 * 100 ≤ ns →
      (∀ x y, (c.a, c.b, x, y) ∈ [(false, false, true, false), (true, false, true, true), (true, true, false, true), (false, true, false, false)] →
        s.Yields (.encoderEdge t n x y ns) fun m' => encs m' { c with a := x, b := y, pos := sext 32 (toU 32 (c.pos + 1)) }
          ∧ Mod.Frame t [.loop] [] s.m m')
      ∧ (∀ x y, (c.a, c.b, x, y) ∈ [(false, false, false, true), (false, true, true, true), (true, true, true, false), (true, false, false, false)] →
        s.Yields (.encoderEdge t n x y ns) fun m' => encs m' { c with a := x, b := y, pos := sext 32 (toU 32 (c.pos - 1)) }
          ∧ Mod.Frame t [.loop] [] s.m m')
      ∧ s.Yields (.encoderEdge t n (!c.a) (!c.b) ns) (fun m' => encs m' { c with a := !c.a, b := !c.b }
          ∧ m'.rd P.ainEncErrs n = (s.m.rd P.ainEncErrs n + 1) % 2 ^ 32 ∧ Mod.Frame t [.loop] [P.ainEncErrs.addr n] s.m m')
      ∧ s.Yields (.encoderIndex t n ns) (fun m' =>
          let home := (s.m.rd P.ainEncCfg n).testBit 8 && !c.zdone && c.a && c.b
          encs m' { c with zpos := c.pos, pos := if home then 0 else c.pos, zdone := c.zdone || home } ∧ Mod.Frame t [.loop] [] s.m m'))
      ∧ (ns < field (s.m.rd P.ainEncCfg n) 7 0 * 100 →
        (∀ x y, s.Yields (.encoderEdge t n x y ns) fun m' => m'.loop = s.m.loop ∧ Mod.Frame t [] [] s.m m')
        ∧ s.Yields (.encoderIndex t n ns) (fun m' => m'.loop = s.m.loop ∧ Mod.Frame t [] [] s.m m')))
    ∧ (n < 16 → n < s.m.loop.frq.length → (s.m.rd P.ainFrqCfg n).testBit 8 = true → (s.m.loop.frq.getD n {}).unusable = false →
      ∀ ns, field (s.m.rd P.ainFrqCfg n) 7 0 * 100 ≤ ns →
      s.Yields (.freqEdge t n ns) fun m' =>
        (m'.loop.frq.getD n {}).edges = now :: ((s.m.loop.frq.getD n {}).edges.take 1
          ++ ((s.m.loop.frq.getD n {}).edges.drop 1).filter (fun e => now - e ≤ s.m.rd P.ainFrqWin n * 1000000))
        ∧ (∀ f, f ≠ n → m'.loop.frq.getD f {} = s.m.loop.frq.getD f {}) ∧ m'.loop.enc = s.m.loop.enc ∧ m'.loop.ain = s.m.loop.ain
        ∧ m'.rd P.ainFrqEdges n = (s.m.rd P.ainFrqEdges n + 1) % 2 ^ 32 ∧ Mod.Frame t [.loop] [P.ainFrqEdges.addr n] s.m m')

/-! ### GNSS (chapter 13) -/

/-- R299, R301 to R303: the antenna's state follows its current, below 3 mA for 100 ms, 120 mA for 1 ms or between, with its supply off at a
short until the retry 1 s later; a session is asked for when it is due and ends when all is tracked or its time is over; a channel is
given to a new signal above the elevation mask, never two to one signal of one band; it moves off a side peak toward the larger side,
loses its lock, finds it again or gives up 10 s later. -/
def Obligations.ReceiverAcquiresAndTracks : Prop :=
  ∀ (s : State) (t : Nat), s.Canonical →
    let now := (s.m.at t).now
    let g := s.m.gnss
    (∀ ma, s.m.antennaJudged = true →
      (g.ant ≠ 1 → ma < 3 → g.antAt + 100000000 ≤ now → s.Yields (.antennaOpen t ma) fun m' => m'.gnss = { g with ant := 1 } ∧ (m'.rd P.gnssFlags).testBit 5 = true
        ∧ Mod.Frame t [.gnss] [P.gnssFlags.addr] s.m m')
      ∧ (120 ≤ ma → g.antAt + 1000000 ≤ now → s.Yields (.antennaShort t ma) fun m' =>
        m'.gnss = { g with ant := 2, antOn := false, antAt := now } ∧ Mod.Frame t [.gnss] [P.gnssFlags.addr] s.m m')
      ∧ (g.ant ≠ 0 → 3 ≤ ma → ma < 120 → s.Yields (.antennaNormal t ma) fun m' => m'.gnss = { g with ant := 0 } ∧ (m'.rd P.gnssFlags).testBit 5 = true
        ∧ Mod.Frame t [.gnss] [P.gnssFlags.addr] s.m m'))
    ∧ (s.m.isG = true → g.started = true → s.m.rd P.gnssAntV ≠ 0 → g.ant = 2 → g.antOn = false → g.antAt + 1000000000 ≤ now →
      s.Yields (.antennaRetry t) fun m' => m'.gnss = { g with antOn := true, antAt := now } ∧ Mod.Frame t [.gnss] [] s.m m')
    ∧ (s.m.gnssOn = true → s.m.sys.gnssMode = 1 → g.acq = .none → (∀ e, g.acqEnd = some e → e + s.m.rd P.gnssAcqEveryS * 1000000000 ≤ now) →
        s.m.asking .gnss = false →
      s.Yields (.gnssAcqRequest t) fun m' => m'.gnss = { g with acq := .asked, acqAt := now, owed := false }
        ∧ (∃ q : TollReq, m'.toll = { s.m.toll with reqs := s.m.toll.reqs ++ [q] } ∧ q.who = .gnss ∧ q.cls = 4 ∧ q.budget = .logic
          ∧ q.amount = s.m.rd P.tollPGnssAcq ∧ q.at_ = now)
        ∧ Mod.Frame t [.gnss, .toll] [] s.m m')
    ∧ (∀ all, g.acq = .active → all = true ∨ g.acqAt + s.m.rd P.gnssAcqMaxMs * 1000000 ≤ now →
      s.Yields (.gnssAcqEnd t all) fun m' => m'.gnss = { g with acq := .none, acqEnd := some now }
        ∧ m'.toll = { s.m.toll with active := s.m.toll.active.filter (fun a => a.1 ≠ .gnss) } ∧ Mod.Frame t [.gnss, .toll] [] s.m m')
    ∧ (∀ c, c < g.ch.length →
      let k := g.ch.getD c {}
      let chans := fun (m' : Mod) (w : GCh) => m'.gnss = { g with ch := g.ch.set c w } ∧ Mod.Frame t [.gnss] [] s.m m'
      (s.m.correlating = true →
        (k.st = 2 → k.sig = 2 ∨ k.sig = 4 → ∀ ve p vl,
          (p < ve ∨ p < vl → s.Yields (.gnssSidePeak t c ve p vl) fun m' =>
            chans m' { k with mp := (k.mp + 1) % 2 ^ 32, code := if ve < vl then k.code + 128 else k.code - 128 })
          ∧ (ve ≤ p → vl ≤ p → s.Yields (.gnssSidePeak t c ve p vl) fun m' => chans m' k))
        ∧ (k.st = 2 → s.Yields (.gnssLostLock t c) fun m' => chans m' { k with st := 1, lostAt := some now })
        ∧ (∀ sig low prn, sig < 8 → prn < 256 → (s.m.rd P.gnssSignals).testBit sig = true →
          let mine := fun (i : Nat) => let x := g.ch.getD i {}; decide (x.st ≠ 0 ∧ x.sig = sig ∧ x.prn = prn ∧ x.low = lowerBand sig low)
          (∀ el, (List.range 64).find? mine = none → g.acq = .active → s.m.rd P.gnssElevMask * 100 ≤ el → s.m.freeChannel el = some c →
            s.Yields (.gnssSignalTracked t sig low prn el) fun m' =>
              chans m' { sig := sig, prn := prn, low := lowerBand sig low, st := 2, el := el % 65536 })
          ∧ (∀ el, (List.range 64).find? mine = none → g.acq ≠ .active ∨ el < s.m.rd P.gnssElevMask * 100 ∨ s.m.freeChannel el = none →
            s.Yields (.gnssSignalTracked t sig low prn el) fun m' => m'.gnss = g ∧ Mod.Frame t [] [] s.m m')
          ∧ (∀ el u, (List.range 64).find? mine = some c → k.st = 1 → k.lostAt = some u → now < u + 10000000000 ∨ g.acq = .active ∨ g.burst ≠ none →
            s.Yields (.gnssSignalTracked t sig low prn el) fun m' => chans m' { k with st := 2, lostAt := none, el := el % 65536 })))
      ∧ (∀ u, k.st = 1 → k.lostAt = some u → u + 10000000000 ≤ now →
        s.Yields (.gnssLockSearchEnd t c) fun m' => chans m' { k with st := 0, lostAt := none, cn0 := 0, res := 0 }))

/-- R305, R307, R308, R310, R314 to R316: a removed satellite returns after its time; corrections that come no more are stale; GNSS_ACCEPT
releases the oscillator lock and GNSS_COLD forgets what the receiver knew; a burst begins in KEEP-TIME, once at each burst instant, with
a search on every channel that tracked; the loss of the trusted solution is reported and the timebase loses its source. -/
def Obligations.ReceiverStateFollowsEvents : Prop :=
  ∀ (s : State) (t : Nat), s.Canonical →
    let now := (s.m.at t).now
    let g := s.m.gnss
    (∀ sys prn, s.Yields (.gnssExclusionExpire t sys prn) fun m' =>
      (∀ e, e ∈ m'.gnss.excl ↔ e ∈ g.excl ∧ ¬(e.1 = sys ∧ e.2.1 = prn ∧ e.2.2 ≤ now)) ∧ m'.gnss = { g with excl := m'.gnss.excl }
      ∧ Mod.Frame t [.gnss] [] s.m m')
    ∧ (∀ u, g.corr = some u → g.stale = false → u + s.m.rd P.gnssDiffAgeMax * 1000000000 < now →
      s.Yields (.gnssDiffStale t) fun m' => m'.gnss = { g with stale := true } ∧ (m'.rd P.gnssFlags).testBit 1 = true
        ∧ Mod.Frame t [.gnss] [P.gnssFlags.addr] s.m m')
    ∧ (∀ role, 1 ≤ role → s.m.running = true → s.m.isG = true →
      (g.oscLock = true → s.Yields (.gnssAccept t role 1#32) fun m' => m'.gnss = { g with oscLock := false, accepted := true, count := 0 }
        ∧ Mod.Frame t [.gnss] [P.gnssAccept.addr] s.m m')
      ∧ (g.started = true → s.Yields (.gnssCold t role 1#32) fun m' =>
        m'.nv.gnssAlm = none ∧ m'.nv.gnssEph = [] ∧ m'.nv.gnssPos = none ∧ m'.nv.gnssDrift = 0 ∧ m'.nv.gnssLeap = 0
        ∧ m'.gnss.ch = List.replicate 64 {} ∧ m'.gnss.trusted = false ∧ m'.gnss.count = 0 ∧ m'.gnss.pos = none ∧ m'.gnss.startType = 0
        ∧ m'.gnss.fixes = [] ∧ m'.gnss.held = none ∧ m'.gnss.fix = 0 ∧ m'.gnss.burst = none ∧ (s.m.sys.gnssMode ≠ 0 → m'.gnss.firstFix = false
          ∧ (g.acq ≠ .active → (∀ e, g.acqEnd = some e → e + s.m.rd P.gnssAcqEveryS * 1000000000 ≤ now) →
            m'.gnss.acq = .asked ∧ m'.asking .gnss = true))
        ∧ (s.m.sys.gnssMode = 0 → m'.gnss.acq = .none) ∧ m'.nv.calf = s.m.nv.calf ∧ m'.nv.regions = s.m.nv.regions
        ∧ Mod.Frame t [.gnss, .nv, .toll, .free] [P.gnssCold.addr] s.m m')
      ∧ (g.started = false → s.Yields (.gnssCold t role 1#32) fun m' =>
        m'.nv.gnssAlm = none ∧ m'.nv.gnssEph = [] ∧ m'.nv.gnssPos = none ∧ m'.nv.gnssDrift = 0 ∧ m'.nv.gnssLeap = 0
        ∧ m'.nv.calf = s.m.nv.calf ∧ m'.nv.regions = s.m.nv.regions ∧ Mod.Frame t [.nv] [P.gnssCold.addr] s.m m'))
    ∧ (s.m.gnssOn = true → s.m.sys.gnssMode = 2 → g.continuous = 0 → g.burst = none → (s.m.at t).burstNow = true →
        g.burstSec ≠ some (s.m.at t).burstSecond →
      s.Yields (.gnssBurstStart t) fun m' =>
        m'.gnss = { g with burst := some now, burstSec := some (s.m.at t).burstSecond, ch := g.ch.map (fun c => if c.st = 2 then { c with st := 1 } else c) }
        ∧ m'.rd P.gnssBursts = (s.m.rd P.gnssBursts + 1) % 2 ^ 32
        ∧ Mod.Frame t [.gnss] [P.gnssBursts.addr] s.m m')
    ∧ (s.m.gnssOn = true → s.m.sys.gnssMode = 1 → g.lost = false →
        Nat.max (g.lastTrust.getD 0) g.lossFrom + s.m.rd P.gnssLossMs * 1000000 ≤ now →
      s.Yields (.gnssLoss t) fun m' => m'.gnss = { g with lost := true, trusted := false, count := if g.trusted then 0 else g.count }
        ∧ m'.time.gnssAvail = false
        ∧ m'.rd P.gnssLosses = (s.m.rd P.gnssLosses + 1) % 2 ^ 32
        ∧ Mod.Frame t [.gnss, .time] [P.gnssLosses.addr, P.gnssFlags.addr, P.timeFreq.addr, P.timeSlewLeft.addr, P.timeHoldovers.addr,
            P.timeFlags.addr] s.m m')

/-- R306, R309 to R311, R314: a solution that passes every check is published and counts toward trust, and once trusted it is delivered to
the timebase; an epoch or a burst without a solution restarts the count; blocks of the sample stream that were lost are counted (R18).
-/
def Obligations.SolutionsEarnTrust : Prop :=
  ∀ (s : State) (t : Nat) (g : GnssSol), s.Canonical → s.m.gnssOn = true →
    let now := (s.m.at t).now
    let e := (s.m.at t).extend g.cnt
    let due := (∀ a, s.m.gnss.epochAt = some a → a + s.m.epochEvery ≤ e) ∧ now ≤ e + 50000000
    let n := s.m.rd P.gnssTrustN
    let c := Nat.min (s.m.gnss.count + 1) n
    let passes := fun (timeOnly : Bool) =>
      let v := ((((s.m.at t).streamLost g.lost).takeReports g.reports).checkSol timeOnly g).1
      v.reason = 0 ∧ v.used ≠ []
    let earned := fun (m' : Mod) =>
      m'.gnss.count = c ∧ (m'.gnss.trusted = true ↔ n ≤ c) ∧ m'.gnss.reason = 0
      ∧ m'.rd P.gnssFixSeq = (s.m.rd P.gnssFixSeq + 1) % 2 ^ 32
      ∧ m'.rd P.gnssFixes = (if n ≤ c then (s.m.rd P.gnssFixes + 1) % 2 ^ 32 else s.m.rd P.gnssFixes)
      ∧ (n ≤ c → m'.gnss.lastTrust = some now ∧ m'.time.gnssAvail = true)
      ∧ Mod.Frame t [.gnss, .time, .trk, .nv, .free, .toll] solutionWords s.m m'
    let failed := { s.m.gnss with fix := 0, count := 0, trusted := false, shown := false, armed := false, reason := 4, lastDelta := none,
                                  blocksLost := s.m.gnss.blocksLost + g.lost }
    (s.m.sys.gnssMode = 1 → s.m.gnss.continuous = 0 → due → passes false → s.Yields (.gnssEpoch t g) fun m' =>
      earned m' ∧ m'.gnss.epochAt = some e)
    ∧ (s.m.sys.gnssMode = 1 → s.m.gnss.continuous = 0 → due → g.tries = [] → g.reports = [] → g.alm = none → g.eph = [] →
        s.m.rd P.gnssMinSv ≠ 0 →
      s.Yields (.gnssEpoch t g) fun m' => m'.gnss = { failed with epochAt := some e } ∧ m'.rd P.gnssUntrusted = (s.m.rd P.gnssUntrusted + 1) % 2 ^ 32
        ∧ Mod.Frame t [.gnss, .free] [P.gnssUntrusted.addr, P.gnssFlags.addr] s.m m')
    ∧ (∀ b, s.m.gnss.burst = some b → b + 40000000 ≤ now → passes true → s.Yields (.gnssBurstEnd t g) fun m' => earned m' ∧ m'.gnss.burst = none)
    ∧ (∀ b, s.m.gnss.burst = some b → b + 40000000 ≤ now → g.tries = [] → g.reports = [] → g.alm = none → g.eph = [] → s.m.rd P.gnssKtMinSv ≠ 0 →
        s.m.gnss.shortBursts = 0 →
      s.Yields (.gnssBurstEnd t g) fun m' =>
        m'.gnss = { failed with burst := none, shortBursts := 1, untrustedBursts := s.m.gnss.untrustedBursts + 1,
                                ch := s.m.gnss.ch.map (GCh.searchOn now) }
        ∧ m'.rd P.gnssUntrusted = (s.m.rd P.gnssUntrusted + 1) % 2 ^ 32
        ∧ Mod.Frame t [.gnss, .free] [P.gnssUntrusted.addr, P.gnssFlags.addr] s.m m')

/-! ### The timebase (chapter 14) -/

/-- R322, R323, R326, R328 to R331: the raw counter wraps; ε and TIME_VALID follow the state each 1 ms; a slew moves toward zero and ends
there; the first time is set at a whole second; at a second boundary a forward step moves the mapping, a backward one holds the time
until it has passed. -/
def Obligations.TimebaseFollowsEvents : Prop :=
  ∀ (s : State) (t : Nat), s.Canonical → s.m.evc.raised = [] →
    let now := (s.m.at t).now
    let x := s.m.time
    (s.Yields (.rawCounterWrap t) fun m' => m' = { s.m with now := (now / 2 ^ 32 + 1) * 2 ^ 32 } ∧ m'.raw = 0)
    ∧ (now < x.epsAt + 1000000 → s.Yields (.timeEpsUpdate t) fun m' => m'.time = x ∧ Mod.Frame t [] [] s.m m')
    ∧ (x.epsAt + 1000000 ≤ now → s.Yields (.timeEpsUpdate t) fun m' =>
        let e := (s.m.at t).eps
        m'.rd P.timeEps = e ∧ (x.st = 0 → e = 0xFFFFFFFF)
        ∧ (let ok := x.isSet && x.st ≠ 0 && e ≤ s.m.rd P.timeValidBound
          m'.time = { x with epsAt := now, epsLog := ((now, e) :: x.epsLog).take 64, valid := ok, validOut := ok && s.m.pulsesLive })
        ∧ Mod.Frame t [.time] [P.timeEps.addr, P.timeFlags.addr] s.m m')
    ∧ (∀ u, x.slew = some u →
        let left := s.m.rdI P.timeSlewLeft
        let q := (now - x.slewAt) * Nat.min (s.m.rd P.timeSlewMax) (1000 * left.natAbs) + x.slewRem
        let n : Int := (q / sec : Nat)
      (left.natAbs ≤ n.natAbs →
        s.Yields (.timeSlewUpdate t) fun m' => m'.rdI P.timeSlewLeft = 0 ∧ m'.time = { x with slew := none, slewAt := now, slewRem := q % sec }
          ∧ Mod.Frame t [.time] [P.timeSlewLeft.addr] s.m m')
      ∧ (0 < n → n < left.natAbs →
        s.Yields (.timeSlewUpdate t) fun m' => m'.rdI P.timeSlewLeft = (if 0 < left then left - n else left + n)
          ∧ m'.time = { x with slewAt := now, slewRem := q % sec } ∧ Mod.Frame t [.time] [P.timeSlewLeft.addr] s.m m')
      ∧ (n = 0 → left ≠ 0 → s.Yields (.timeSlewUpdate t) fun m' => m'.time = x ∧ Mod.Frame t [] [] s.m m'))
    ∧ (∀ src ofs, x.toSet = some (src, ofs) → x.isSet = false → ((now : Int) + ofs) % 1000000000 < 4 → (∀ o ∈ x.outs, o.armed = false) →
      s.Yields (.timeSet t) fun m' =>
        m'.time = { x with isSet := true, toSet := none, st := 1, src := src, gained := false, lastDisc := now, epsL := 3 * x.sigma,
                           ofs := ((now : Int) + ofs).fdiv 1000000000 * 1000000000 - (now : Int) }
        ∧ m'.rd P.timeMapSeq = (s.m.rd P.timeMapSeq + 1) % 2 ^ 32 ∧ Mod.Frame t [.time] [P.timeMapSeq.addr, P.timeFlags.addr] s.m m')
    ∧ (∀ d, x.step = some d → x.st = 1 → (s.m.at t).atSecond = true →
      (0 < d → (∀ o ∈ x.outs, o.armed = false) →
        s.Yields (.timeStep t) fun m' => m'.time = { x with step := none, gained := false, ofs := x.ofs + d }
          ∧ m'.rd P.timeSteps = (s.m.rd P.timeSteps + 1) % 2 ^ 32 ∧ m'.rd P.timeMapSeq = (s.m.rd P.timeMapSeq + 1) % 2 ^ 32
          ∧ Mod.Frame t [.time] [P.timeSteps.addr, P.timeMapSeq.addr, P.timeFlags.addr] s.m m')
      ∧ (d ≤ 0 →
        s.Yields (.timeStep t) fun m' => m'.time.st = 3 ∧ m'.time.ofs = x.ofs ∧ m'.time.step = none
          ∧ (∃ h, m'.time.hold = some h ∧ h.s = (s.m.at t).reported / sec * sec ∧ h.amount = d.natAbs
            ∧ now + d.natAbs ≤ h.until_ ∧ h.until_ < now + d.natAbs + 4)
          ∧ m'.rd P.timeSteps = (s.m.rd P.timeSteps + 1) % 2 ^ 32 ∧ Mod.Frame t [.time] [P.timeSteps.addr, P.timeFlags.addr] s.m m'))
    ∧ (∀ h, x.hold = some h → h.until_ ≤ now →
      s.Yields (.timeHoldEnd t) fun m' => m'.time = { x with hold := none, st := if x.src = 0 then 2 else 1, ofs := x.ofs - (h.amount : Int) }
        ∧ m'.rd P.timeMapSeq = (s.m.rd P.timeMapSeq + 1) % 2 ^ 32 ∧ Mod.Frame t [.time] [P.timeMapSeq.addr] s.m m')

/-- R333 to R336: a port answers the delay requests that it shall, keeps a two-step Sync for its Follow_Up, takes a better master's
Announce, measures its path delay; its own messages leave at their intervals, no sooner; without Announces for its timeout its master is
gone and its state is that of a port that has none. -/
def Obligations.PtpPortsFollowMasters : Prop :=
  ∀ (s : State) (t n : Nat), s.Canonical → n < 2 → s.m.time.ports.length = 2 →
    let cfg := s.m.rd P.timePtpCfg n
    let mode := field cfg 5 4
    let p := s.m.ptp n
    let ports := fun (m' : Mod) (w : PtpPort) => m'.time = { s.m.time with ports := s.m.time.ports.set n w }
    let sends := fun (m' : Mod) (l : List PtpTx) (w : PtpPort) =>
      m'.time = { s.m.time with ports := s.m.time.ports.set n w, sent := s.m.time.sent ++ l } ∧ Mod.Frame t [.time] [] s.m m'
    let at_ := fun (x : Int) => (s.m.at t).timeOf x
    mode ≠ 0 →
    (∀ g : PtpMsg, g.domain = (if mode = 3 then 0 else field cfg 15 8) → g.udp = (cfg.testBit 3 && decide (mode ≠ 3)) →
      (g.kind = 3 → p.st = 6 → s.Yields (.ptpEventMessage t n g) fun m' =>
          sends m' [{ port := n, kind := 4, seq := g.seq, time := at_ ((s.m.at t).ingress n g.ingress), corr := g.corr, req := g.sender }] p)
      ∧ (g.kind = 5 → mode ≠ 1 → s.Yields (.ptpEventMessage t n g) fun m' =>
          let t2 := (s.m.at t).ingress n g.ingress
          let t3 := (s.m.at t).egress n g.egress
          sends m' (if cfg.testBit 2 then [{ port := n, kind := 6, seq := g.seq, corr := g.corr + (t3 - t2), req := g.sender }]
            else [{ port := n, kind := 6, seq := g.seq, time := at_ t2, req := g.sender },
                  { port := n, kind := 7, seq := g.seq, time := at_ t3, corr := g.corr, req := g.sender }]) p)
      ∧ (g.kind = 1 → p.st = 9 → g.sender = p.parent → g.twoStep = true → s.Yields (.ptpEventMessage t n g) fun m' =>
          ports m' { p with pendSync := some (g.seq, (s.m.at t).ingress n g.ingress - g.corr) } ∧ Mod.Frame t [.time] [] s.m m')
      ∧ (g.kind = 1 ∨ g.kind = 2 → g.sender ≠ p.parent → s.Yields (.ptpEventMessage t n g) fun m' =>
          m'.time = s.m.time ∧ Mod.Frame t [] [] s.m m')
      ∧ (∀ t1 t2 t3, g.kind = 4 → mode = 1 → g.sender = p.parent → g.req = s.m.ptpId n → p.delayReq = some (g.seq, t3) → p.sync = some (t1, t2) →
          s.Yields (.ptpEventMessage t n g) fun m' =>
            let d := rdiv ((t2 - t1) + (g.time - g.corr - t3)) 2
            ports m' { p with delay := d } ∧ m'.rd P.timePtpDelay n = (clampI 0 0xFFFFFFFF d).toNat
            ∧ Mod.Frame t [.time] [P.timePtpDelay.addr n] s.m m')
      ∧ (g.kind = 0 → p.best = none → s.Yields (.ptpEventMessage t n g) fun m' =>
          (m'.ptp n).best = some { prio1 := g.prio1, cls := g.cls, accuracy := g.accuracy, variance := g.variance, prio2 := g.prio2,
                                   identity := g.identity, steps := g.steps, source := g.source }
          ∧ (m'.ptp n).annAt = (s.m.at t).now ∧ (m'.ptp n).parent = g.sender
          ∧ (m'.ptp (1 - n)).best = (s.m.ptp (1 - n)).best ∧ m'.time.sent = s.m.time.sent ∧ m'.time.ofs = s.m.time.ofs
          ∧ Mod.Frame t [.time] ([P.timeFreq.addr, P.timeSlewLeft.addr, P.timeHoldovers.addr, P.timeFlags.addr, P.timePtpGmLo.addr n,
              P.timePtpGmHi.addr n] ++ (List.range 2).map (fun q => P.timePtpState.addr q)) s.m m'))
    ∧ (s.m.pulsesLive = true →
      let left := fun (e : Nat) => at_ ((s.m.at t).egress n e)
      let out := fun (k : Nat) (w : PtpPort) => { w with txSeq := (p.txSeq + 1) % 65536, sentAt := p.sentAt.set k (some (s.m.at t).now) }
      (∀ egress, (s.m.at t).ptpDue n 0 = true → p.st = 6 → s.Yields (.ptpMessageTimer t n 0 egress) fun m' =>
        sends m' [{ port := n, kind := 0, seq := p.txSeq }] (out 0 { p with said := some ((s.m.at t).annData n) }))
      ∧ (∀ egress, (s.m.at t).ptpDue n 1 = true → p.st = 6 → s.Yields (.ptpMessageTimer t n 1 egress) fun m' =>
        sends m' (if cfg.testBit 2 then [{ port := n, kind := 1, seq := p.txSeq, time := left egress }]
          else [{ port := n, kind := 1, seq := p.txSeq }, { port := n, kind := 2, seq := p.txSeq, time := left egress }]) (out 1 p))
      ∧ (∀ egress, (s.m.at t).ptpDue n 2 = true → mode = 1 → p.st = 9 → s.Yields (.ptpMessageTimer t n 2 egress) fun m' =>
        sends m' [{ port := n, kind := 3, seq := p.txSeq }] (out 2 { p with delayReq := some (p.txSeq, (s.m.at t).egress n egress) }))
      ∧ (∀ egress, (s.m.at t).ptpDue n 2 = true → mode ≠ 1 → s.Yields (.ptpMessageTimer t n 2 egress) fun m' =>
        sends m' [{ port := n, kind := 5, seq := p.txSeq }] (out 2 { p with delayReq := some (p.txSeq, (s.m.at t).egress n egress) }))
      ∧ (∀ kind egress, kind ≤ 2 → (s.m.at t).ptpDue n kind = false → s.Yields (.ptpMessageTimer t n kind egress) fun m' =>
        m'.time = s.m.time ∧ Mod.Frame t [] [] s.m m'))
    ∧ (p.best ≠ none → p.annAt + s.m.annTimeout n ≤ (s.m.at t).now → s.Yields (.ptpAnnounceTimeout t n) fun m' =>
        (m'.ptp n).best = none ∧ (m'.ptp n).sync = none ∧ (m'.ptp n).pendSync = none ∧ (m'.ptp n).st = (if cfg.testBit 1 then 4 else 6)
        ∧ (m'.ptp (1 - n)).best = (s.m.ptp (1 - n)).best ∧ m'.time.ofs = s.m.time.ofs
        ∧ Mod.Frame t [.time] ([P.timeFreq.addr, P.timeSlewLeft.addr, P.timeHoldovers.addr, P.timeFlags.addr]
            ++ (List.range 2).map (fun q => P.timePtpState.addr q)) s.m m')

/-- R337 to R340: PPS rises once at a second boundary of reported time that is 999 ms or more after the last rise, and falls after its
width; a time output is armed by the write of its instant, rises when that has come and falls after its width; a capture enters its ring
with its edge, and one within 40 ns of the last is lost and counted. -/
def Obligations.PulsesAndCapturesFollowTime : Prop :=
  ∀ (s : State) (t n : Nat), s.Canonical → n < 4 → s.m.time.outs.length = 4 → s.m.time.capLast.length = 4 →
    let now := (s.m.at t).now
    let x := s.m.time
    let o := x.outs.getD n {}
    let cfg := s.m.rd P.timeOutCfg n
    let outs := fun (m' : Mod) (w : TimeOut) => m'.time = { x with outs := x.outs.set n w }
    (s.m.pulsesLive = true → x.st ≠ 0 ∨ s.m.rd P.timePpsFree ≠ 0 → (s.m.at t).atSecond = true →
        x.ppsSec ≠ some ((s.m.at t).reported / sec) →
      ((∀ l, x.ppsLast = some l → l + 999000000 ≤ now) →
        s.Yields (.ppsEdge t) fun m' => m'.time = { x with pps := true, ppsLast := some now, ppsSec := some ((s.m.at t).reported / sec) } ∧ Mod.Frame t [.time] [] s.m m')
      ∧ (∀ l, x.ppsLast = some l → now < l + 999000000 →
        s.Yields (.ppsEdge t) fun m' => m'.rd P.timePpsOmitted = (s.m.rd P.timePpsOmitted + 1) % 2 ^ 32
          ∧ m'.time = { x with ppsSec := some ((s.m.at t).reported / sec) } ∧ Mod.Frame t [.time] [P.timePpsOmitted.addr, P.timeFlags.addr] s.m m'))
    ∧ (∀ l, x.ppsLast = some l → l + s.m.rd P.timePpsWidth * 1000000 ≤ now →
      s.Yields (.ppsPulseEnd t) fun m' => m'.time = { x with pps := false } ∧ Mod.Frame t [.time] [] s.m m')
    ∧ (∀ role v, s.m.running = true → field cfg 2 1 ≠ 0 →
        (s.m.at t).outNow n + 2000 < (v : Word).toNat * 2 ^ 32 + s.m.rd P.timeOutAtLo n →
      s.Yields (.timeOutArm t role n v) fun m' =>
        outs m' { o with armed := true, next := v.toNat * 2 ^ 32 + s.m.rd P.timeOutAtLo n }
        ∧ Mod.Frame t [.time] [P.timeOutAtHi.addr n] s.m m')
    ∧ (o.armed = true → s.m.pulsesLive = true → o.next ≤ (s.m.at t).outNow n →
      (field cfg 2 1 = 1 →
        s.Yields (.timeOutEdge t n) fun m' => outs m' { o with level := true, lastEdge := some now, armed := false }
          ∧ Mod.Frame t [.time] [] s.m m')
      ∧ (field cfg 2 1 = 2 → cfg.testBit 3 = false →
        s.Yields (.timeOutEdge t n) fun m' =>
          outs m' { o with level := true, lastEdge := some now, next := nextPeriod o.next (s.m.rd P.timeOutPeriod n) now }
          ∧ Mod.Frame t [.time] [] s.m m'))
    ∧ (∀ l, o.lastEdge = some l → l + s.m.rd P.timeOutWidth n ≤ now →
      s.Yields (.timeOutPulseEnd t n) fun m' => outs m' { o with level := false } ∧ Mod.Frame t [.time] [] s.m m')
    ∧ (∀ rising, (s.m.rd P.timeCapCfg n).testBit (if rising then 0 else 1) = true →
      ((∀ l, x.capLast.getD n none = some l → l + 40 ≤ now) →
        s.Yields (.captureEdge t n rising) fun m' =>
          let q := (s.m.rd P.timeCapSeq n + 1) % 2 ^ 32
          m'.time = { x with capLast := x.capLast.set n (some now) } ∧ m'.rd P.timeCapSeq n = q
          ∧ m'.rd P.timeCapRing n (q % 16) = now % 2 ^ 32 ∧ (m'.rd P.timeCapEdges n).testBit (q % 16) = rising
          ∧ Mod.Frame t [.time] [P.timeCapSeq.addr n, P.timeCapRing.addr n (q % 16), P.timeCapEdges.addr n] s.m m')
      ∧ (∀ l, x.capLast.getD n none = some l → now < l + 40 →
        s.Yields (.captureEdge t n rising) fun m' =>
          m'.time = { x with capLast := x.capLast.set n (some now) } ∧ m'.rd P.timeCapLost n = (s.m.rd P.timeCapLost n + 1) % 2 ^ 32
          ∧ Mod.Frame t [.time] [P.timeCapLost.addr n] s.m m'))

/-! ### CAN FD (chapter 15) and the Ethernet ports -/

/-- R346, R351, R353 to R355, R358, R365: a frame from the bus takes the next slot of its ring with its stamp and number, is discarded whole
where the ring is full, and is refused where it is FD and the channel is not; the firmware consumes entries in order and each goes where
its channel's rules say; a partial message that is not completed in time is dropped and counted. -/
def Obligations.CanFramesAreReceivedAndRouted : Prop :=
  ∀ (s : State) (t ch : Nat), s.Canonical → ch < 4 → ch < s.m.can.ch.length →
    let c := s.m.canCh ch
    (∀ sof (f : CanFrame), c.st = 0 → c.tec < 128 → c.rec_ ≤ 127 →
      (f.fd = false ∨ (s.m.rd P.canCfg ch).testBit 3 = true → c.ring.length < 511 →
        s.Yields (.canFrameReceived t ch sof f) fun m' =>
          let e := { entryOf f (s.m.canStamp ch sof) false with seq := (c.seq + 1) % 2 ^ 32 % 65536 }
          (m'.canCh ch).ring = c.ring ++ [(e, false, c.lostBefore)] ∧ (m'.canCh ch).seq = (c.seq + 1) % 2 ^ 32
          ∧ (m'.canCh ch).lostBefore = false ∧ (m'.canCh ch).rec_ = c.rec_ - 1 ∧ (m'.canCh ch).txq = c.txq
          ∧ assocGet (m'.canCh ch).slots ((c.head + c.ring.length) % 512) = some (e, false, c.lostBefore)
          ∧ (∀ k, k ≠ ch → m'.canCh k = s.m.canCh k) ∧ m'.rd P.canRxFrames ch = (s.m.rd P.canRxFrames ch + 1) % 2 ^ 32
          ∧ Mod.Frame t [.can] [P.canRxFrames.addr ch] s.m m')
      ∧ (f.fd = false ∨ (s.m.rd P.canCfg ch).testBit 3 = true → c.ring.length = 512 →
        s.Yields (.canFrameReceived t ch sof f) fun m' =>
          m'.can = { s.m.can with ch := s.m.can.ch.set ch { c with rec_ := c.rec_ - 1, lostBefore := true } }
          ∧ m'.rd P.canRxDiscarded ch = (s.m.rd P.canRxDiscarded ch + 1) % 2 ^ 32
          ∧ Mod.Frame t [.can] [P.canRxFrames.addr ch, P.canRxDiscarded.addr ch, P.canFlags.addr ch] s.m m')
      ∧ (f.fd = true → (s.m.rd P.canCfg ch).testBit 3 = false →
        s.Yields (.canFrameReceived t ch sof f) fun m' => (m'.rd P.canFlags ch).testBit 5 = true
          ∧ Mod.Frame t [] [P.canFlags.addr ch] s.m m'))
    ∧ (∀ x rest counts, c.ring = x :: rest → c.shadow = none → c.tp = [] →
      (s.m.destOf ch x.1 = 0 →
        s.Yields (.canRingService t ch 1 false counts) fun m' =>
          m'.can = { s.m.can with ch := s.m.can.ch.set ch { c with ring := rest, head := (c.head + 1) % 512, reading := none } }
          ∧ Mod.Frame t [.can] [] s.m m')
      ∧ (s.m.destOf ch x.1 = 8 → s.m.Plain t (112 + ch) →
        s.Yields (.canRingService t ch 0 true counts) fun m' =>
          m'.can = { s.m.can with ch := s.m.can.ch.set ch { c with ring := rest, head := (c.head + 1) % 512, reading := some x } }
          ∧ RaisedOne (112 + ch) s.m m' ∧ Mod.Frame t [.can] [] s.m m')
      ∧ (∀ peer tag data, peer < 32 → tag < 16 → s.m.destOf ch x.1 = 1 → s.m.carries (2 + ch) = true → x.1.ext = true → x.1.rtr = false →
          x.1.id = s.m.rd P.netCanBase + 2 * peer → x.1.data.take (dlcLen x.1.fd x.1.dlc) = BitVec.ofNat 8 (128 + tag) :: 0#8 :: data →
          (∀ r ∈ s.m.net.reasm, r.ch ≠ ch) →
        s.Yields (.canRingService t ch 1 false counts) fun m' =>
          m'.net = { s.m.net with reasm := s.m.net.reasm ++
            [{ ch := ch, peer := peer, tag := tag, next := 1, last := (s.m.at t).now, bytes := data }] }
          ∧ (m'.canCh ch).ring = rest ∧ Mod.Frame t [.net, .can] [] s.m m'))
    ∧ (∀ peer tag r, s.m.net.reasm.find? (fun r => r.is ch peer tag) = some r → r.last + s.m.rd P.netCanReasmMs * 1000000 ≤ (s.m.at t).now →
      s.Yields (.canReassemblyTimeout t ch peer tag) fun m' =>
        m'.net = { s.m.net with reasm := s.m.net.reasm.filter (fun r => !r.is ch peer tag) }
        ∧ m'.rd P.netCanReasmFails = (s.m.rd P.netCanReasmFails + 1) % 2 ^ 32
        ∧ Mod.Frame t [.net] [P.netCanReasmFails.addr, P.netFlags.addr] s.m m')

/-- R356 to R358, R360: the frame that is sent is the one of least key; it leaves its queue, is counted, and comes back into the ring;
errors move the counters and the state with them; a frame that waited too long leaves unsent, after its attempt where one runs; bus-off
ends, not before 128 times 11 bits, with both counters at 0; an address is claimed, and held 250 ms after the claim has left; a claim
that stayed unsent is sent again (log 147). -/
def Obligations.CanTransmitsAndConfinesErrors : Prop :=
  ∀ (s : State) (t ch : Nat), s.Canonical → ch < 4 → ch < s.m.can.ch.length →
    let c := s.m.canCh ch
    let now := (s.m.at t).now
    let chans := fun (m' : Mod) (w : CanCh) => m'.can = { s.m.can with ch := s.m.can.ch.set ch w }
    (∀ sof tdc f, c.txq[c.txHead ((s.m.at t).extend sof)]? = some f → c.st = 0 → 1 ≤ c.tec → c.tec < 128 → c.rec_ < 128 → s.m.rd P.canMode ch = 1 →
        c.ring.length < 511 → c.txWait = [] →
      (∀ g ∈ c.txq, c.mayOffer ((s.m.at t).extend sof) g = true → f.key ≤ g.key)
      ∧ s.Yields (.canFrameTransmitted t ch sof tdc) fun m' =>
        (m'.canCh ch).txq = c.txq.eraseIdx (c.txHead ((s.m.at t).extend sof)) ∧ (m'.canCh ch).tec = c.tec - 1
        ∧ (∃ e : CanEntry, (m'.canCh ch).sent = c.sent ++ [e] ∧ e.tx = true ∧ e.id = f.id ∧ e.dlc = f.dlc ∧ e.ext = f.ext
          ∧ e.stamp = s.m.canStamp ch sof ∧ (f.fd = true → (m'.canCh ch).ssp = s.m.canSsp ch (Nat.min tdc 255))
          ∧ e.rtr = false
          ∧ (m'.canCh ch).ring = c.ring ++ [({ e with seq := (c.seq + 1) % 2 ^ 32 % 65536 }, false, c.lostBefore)])
        ∧ (∀ k, k ≠ ch → m'.canCh k = s.m.canCh k) ∧ m'.rd P.canTxFrames ch = (s.m.rd P.canTxFrames ch + 1) % 2 ^ 32
        ∧ Mod.Frame t [.can] [P.canTxFrames.addr ch, P.canTdcNow.addr ch] s.m m')
    ∧ (c.st < 2 → (∀ f ∈ c.txq, f.late = false) →
      let tries : Prop := s.m.rd P.canMode ch = 1 ∧ c.txq ≠ []
      (∀ kind tdc, ownAttempt kind = true → ¬tries → s.Yields (.canError t ch kind tdc) fun m' => m'.can = s.m.can ∧ Mod.Frame t [] [] s.m m')
      ∧ (tries → s.Yields (.canError t ch 0 none) fun m' => m'.can = s.m.can ∧ Mod.Frame t [] [] s.m m')
      ∧ (∀ d, tries → (s.m.rd P.canCfg ch).testBit 3 = true → s.Yields (.canError t ch 0 (some d)) fun m' =>
          chans m' { c with ssp := s.m.canSsp ch (Nat.min d 255) } ∧ m'.rd P.canTdcNow ch = Nat.min d 255
          ∧ Mod.Frame t [.can] [P.canTdcNow.addr ch] s.m m')
      ∧ (∀ kind, tries → kind = 5 ∨ (kind = 4 ∧ c.st = 1) → s.Yields (.canError t ch kind none) fun m' =>
          m'.can = s.m.can ∧ m'.rd P.canErrFrames ch = (s.m.rd P.canErrFrames ch + 1) % 2 ^ 32 ∧ Mod.Frame t [] [P.canErrFrames.addr ch] s.m m')
      ∧ (∀ kind tec rec, (kind, tec, rec) ∈ [(1, c.tec + 8, c.rec_), (2, c.tec, Nat.min 255 (c.rec_ + 1)), (3, c.tec, Nat.min 255 (c.rec_ + 8)),
            (4, c.tec + 8, c.rec_)] → (ownAttempt kind = true → tries) → kind ≠ 4 ∨ c.st = 0 →
        s.Yields (.canError t ch kind none) fun m' =>
          chans m' { c with tec := tec, rec_ := rec, st := errState tec rec, busOffAt := if errState tec rec = 2 then now else c.busOffAt }
          ∧ m'.rd P.canErrFrames ch = (s.m.rd P.canErrFrames ch + 1) % 2 ^ 32
          ∧ Mod.Frame t [.can] [P.canErrFrames.addr ch, P.canFlags.addr ch, P.canBusoffs.addr ch] s.m m'))
    ∧ (∀ f r, c.txq = f :: r → f.at_ + s.m.rd P.canTxTimeout ch * 1000000 ≤ now → f.late = false → c.txWait = [] →
      (f.isClaim = false → s.Yields (.canTxTimeout t ch false) fun m' => chans m' { c with txq := r, unsent := c.unsent ++ [f] } ∧ m'.rd P.canTxExpired ch = (s.m.rd P.canTxExpired ch + 1) % 2 ^ 32
        ∧ Mod.Frame t [.can] [P.canTxExpired.addr ch, P.canFlags.addr ch] s.m m')
      ∧ (f.isClaim = true → f.id % 256 = c.sa → c.iso = .claimed → c.claimSent = false → r.length < 32 → s.Yields (.canTxTimeout t ch false) fun m' =>
        (∃ g : CanTx, chans m' { c with txq := r ++ [g], unsent := c.unsent ++ [f] } ∧ g.id = 0x18EEFF00 + c.sa ∧ g.at_ = now)
        ∧ m'.rd P.canTxExpired ch = (s.m.rd P.canTxExpired ch + 1) % 2 ^ 32
        ∧ Mod.Frame t [.can] [P.canTxExpired.addr ch, P.canFlags.addr ch] s.m m')
      ∧ (s.Yields (.canTxTimeout t ch true) fun m' => chans m' { c with txq := { f with late := true } :: r } ∧ Mod.Frame t [.can] [] s.m m'))
    ∧ (c.st = 2 → 2 * c.busOffAt + 1408 * s.m.canBit ch ≤ 2 * now → (s.m.rd P.canCfg ch).testBit 0 = false →
      s.Yields (.canBusoffRecovered t ch) fun m' => chans m' { c with st := 0, tec := 0, rec_ := 0 } ∧ Mod.Frame t [.can] [] s.m m')
    ∧ (c.iso = .waiting → c.isoAt + 600000 * (s.m.isoName ch % 256) ≤ now → c.txq.length < 32 → c.txWait = [] →
      s.Yields (.isoClaimSend t ch) fun m' =>
        (∃ f : CanTx, chans m' { c with iso := .claimed, isoAt := now, claimSent := false, txq := c.txq ++ [f] } ∧ f.id = 0x18EEFF00 + c.sa ∧ f.ext = true
          ∧ f.dlc = 8 ∧ f.data = leBytes 8 (s.m.isoName ch))
        ∧ Mod.Frame t [.can] [] s.m m')
    ∧ (c.iso = .claimed → c.claimSent = false → s.Yields (.isoAddressHeld t ch) fun m' => m'.can = s.m.can ∧ Mod.Frame t [] [] s.m m')
    ∧ (c.iso = .claimed → c.st < 2 → c.claimSent = true → c.isoAt + 250000000 ≤ now →
      s.Yields (.isoAddressHeld t ch) fun m' => chans m' { c with iso := .held } ∧ m'.rd P.canIsoSa ch = c.sa % 2 ^ 8
        ∧ Mod.Frame t [.can] [P.canIsoSa.addr ch] s.m m')

/-! ### Performance counters (chapter 20) -/

/-- R450, R451, R457 to R459: a snapshot shows the counts made up to its instant, with that instant, and of counts from outside those alone
that the model's own commands do not make; a counter that reaches zero restarts at its period and writes a sample with the next number,
or is lost where its tower has written in that microsecond; a tagged instruction's record waits for its tower's next microsecond. -/
def Obligations.CountersAndSamplesAreKept : Prop :=
  ∀ (s : State) (t : Nat), s.Canonical →
    let p := s.m.perf
    (∀ role, s.m.running = true → p.pend = [] →
      (s.Yields (.perfSnap t role 1#32 []) fun m' =>
        m'.perf = { p with snap := p.live, snapT := (s.m.at t).now % 2 ^ 32, snapSeq := (p.snapSeq + 1) % 2 ^ 32, snapAt := (s.m.at t).now,
                           snapSmp := p.smpSeq, snapLost := p.smpLost, stillNs := [] }
        ∧ Mod.Frame t [.perf] [P.perfSnap.addr] s.m m')
      ∧ (∀ tw k n, tw < 16 → k < 8 → (s.m.at t).towerTakes tw k n = true → s.m.sampling tw k = false →
          (∀ j, j < 8 → j ≠ k → s.m.towerCode tw j ≠ s.m.towerCode tw k) →
        s.Yields (.perfSnap t role 1#32 [(P.perfTCntLo.addr tw k, n)]) fun m' =>
          m'.perf.snap = m'.perf.live ∧ m'.perf.val (P.perfTCntLo.addr tw k) = (p.val (P.perfTCntLo.addr tw k) + n) % 2 ^ 48
          ∧ (∀ b, b ≠ P.perfTCntLo.addr tw k → m'.perf.val b = p.val b) ∧ Mod.Frame t [.perf] [P.perfSnap.addr] s.m m')
      ∧ (∀ a n, p.lent = 0 → isHist a = false → cntAt a = none → P.perfMCntLo.find a = none → (s.m.at t).countTaken [(a, n)] (a, n) = true →
        s.Yields (.perfSnap t role 1#32 [(a, n)]) fun m' =>
          m'.perf.snap = m'.perf.live ∧ m'.perf.val a = (p.val a + n) % 2 ^ 48 ∧ (∀ b, b ≠ a → m'.perf.val b = p.val b)
          ∧ Mod.Frame t [.perf] [P.perfSnap.addr] s.m m'))
    ∧ (∀ tw n cell skid ended raw pc serial, s.m.towerSamples tw = true → n < 8 → skid ≤ 8 → cell < 64 → s.m.sampling tw n = true → s.m.towerCode tw n ≠ 0 →
        ((assocGet p.sel (P.perfTSel.addr tw n)).getD 0).testBit 14 = false →
      (ownCode (s.m.towerCode tw n) = true → (tw, n) ∉ p.due → s.Yields (.perfSample t tw n cell skid ended raw pc serial) fun m' =>
          m'.perf = p ∧ Mod.Frame t [] [] s.m m')
      ∧ (ownCode (s.m.towerCode tw n) = false → (∀ x ∈ p.ring, x.us < (s.m.at t).now / 1000) →
          (∀ u, assocGet p.lastSmp tw = some u → u < (s.m.at t).now / 1000) → p.smpSeq < 4096 →
        s.Yields (.perfSample t tw n cell skid ended raw pc serial) fun m' =>
          m'.perf.val (P.perfTCntLo.addr tw n) = s.m.rd P.perfTPeriod tw n ∧ m'.perf.smpSeq = (p.smpSeq + 1) % 2 ^ 32
          ∧ m'.smpBusy tw = some ((s.m.at t).now / 1000)
          ∧ m'.perf.ring.head? = some { n := p.smpSeq, raw := raw % 2 ^ 32, kind := 64 + 32 * bit ended + n, skid := skid,
                                        loc := 64 * tw + cell, pc := pc % 2 ^ 32, data := serial % 2 ^ 32, us := (s.m.at t).now / 1000 }
          ∧ Mod.Frame t [.perf] [] s.m m')
      ∧ (∀ u, ownCode (s.m.towerCode tw n) = false → assocGet p.lastSmp tw = some u → (s.m.at t).now / 1000 ≤ u →
        s.Yields (.perfSample t tw n cell skid ended raw pc serial) fun m' =>
          m'.perf.val (P.perfTCntLo.addr tw n) = s.m.rd P.perfTPeriod tw n ∧ m'.perf.ring = p.ring ∧ m'.perf.smpSeq = p.smpSeq
          ∧ m'.perf.smpLost = (p.smpLost + 1) % 2 ^ 32
          ∧ Mod.Frame t [.perf] [P.perfFlags.addr] s.m m'))
    ∧ (∀ tw cell gone issue raw value cycles pc why u, s.m.towerSamples tw = true → cell < 64 → (s.m.at t).tagged tw issue value = true →
        s.m.smpBusy tw = some u → (∀ x ∈ p.ring, x.us < Nat.max ((s.m.at t).now / 1000) (u + 1)) → p.smpSeq < 4096 →
      s.Yields (.perfTagRecord t tw cell gone issue raw value cycles pc why) fun m' =>
        m'.smpBusy tw = some (Nat.max ((s.m.at t).now / 1000) (u + 1)) ∧ m'.perf.smpSeq = (p.smpSeq + 1) % 2 ^ 32
        ∧ m'.perf.ring = ({ n := p.smpSeq, raw := raw % 2 ^ 32, kind := 128 + 16 * bit gone, skid := 0, loc := 64 * tw + cell,
                            pc := pc % 2 ^ 32, data := 65536 * Nat.min 65535 cycles + why % 32,
                            us := Nat.max ((s.m.at t).now / 1000) (u + 1) } :: p.ring).take 4096
        ∧ m'.perf.live = p.live ∧ Mod.Frame t [.perf] [] s.m m')

/-! ### Rules stated whole -/

/-- R278: the shift of the control engine rounds to nearest with ties away from zero and saturates to 32 bits; every product of two 32-bit
values fits 64 bits, so that it is exact. -/
def Obligations.ShiftRoundsAwayAndSaturates : Prop :=
  (∀ (a : Int) (s : Nat), 1 ≤ s → s ≤ 31 →
    sh a s = max (-2147483648) (min 2147483647 (a.sign * (((a.natAbs + 2 ^ (s - 1)) / 2 ^ s : Nat) : Int))))
  ∧ (∀ a : Int, sh a 0 = max (-2147483648) (min 2147483647 a))
  ∧ (∀ x y : Int, -2147483648 ≤ x → x ≤ 2147483647 → -2147483648 ≤ y → y ≤ 2147483647 → -(2 ^ 63) ≤ x * y ∧ x * y < 2 ^ 63)

/-- R269: with LSW_I_OPEN non-zero a channel that is on and outside its inrush window, whose mean current has stayed below it for 100 ms is
open, which LSW_STATE shows and event 0x0508 tells; it stays on; OPEN clears when the mean is LSW_I_OPEN or above. -/
def Obligations.OpenLoadsAreReported : Prop :=
  ∀ (s : State) (t k : Nat), s.Canonical → k < 24 → k < s.m.lsw.ch.length → s.m.Plain t (lswSrc k) →
    (s.m.rd P.evcRoute (lswSrc k)).testBit 0 = true → (s.m.lswCh k).on = true →
    (∀ a, (s.m.lswCh k).inrush = false → (s.m.lswCh k).open_ = false → (s.m.lswCh k).openAt = some a → a + 100000000 ≤ (s.m.at t).now →
      s.Yields (.lswOpenLoad t k) fun m' => (m'.lswCh k).open_ = true ∧ (m'.lswCh k).state.testBit 3 = true ∧ (m'.lswCh k).on = true
        ∧ Told (lswSrc k) 0x0508 s.m m')
    ∧ ((s.m.lswCh k).openAt = none ∨ (s.m.lswCh k).inrush = true →
      s.Yields (.lswOpenLoad t k) fun m' => m'.lsw = s.m.lsw ∧ m'.evc = s.m.evc)
    ∧ (∀ smp : LswSmp, smp.k = k → 99 ≤ (s.m.lswCh k).iN →
      let mean := ((s.m.lswCh k).iSum + s.m.lswMa k smp.raw) / ((s.m.lswCh k).iN + 1)
      (((s.m.at t).lswSample smp).lswCh k).openAt = (if (s.m.lswCh k).inrush = false ∧ mean < s.m.rd P.lswIOpen k
        then some ((s.m.lswCh k).openAt.getD (s.m.at t).now) else none))
    ∧ ((s.m.lswCh k).open_ = true → s.m.rd P.lswIOpen k ≤ s.m.rd P.lswINow k →
      s.Yields (.lswOpenCleared t k) fun m' => (m'.lswCh k).open_ = false ∧ (m'.lswCh k).state.testBit 3 = false
        ∧ (m'.lswCh k).on = true ∧ m'.evc = s.m.evc)

/-- R263: an inrush window pauses at the sample that takes its input to its undervoltage threshold or below, and counts on from the one that
takes it above; while it is paused it does not end, however late it is, and the inrush limit stays in force. -/
def Obligations.InrushWindowsPause : Prop :=
  ∀ (s : State) (t inp k mv : Nat), s.Canonical → inp < 2 → k < 24 → k % 2 = inp → s.m.lsw.ch.length = 24 → s.m.lsw.uv.length = 2 →
    (s.m.lswCh k).on = true → (s.m.lswCh k).inrush = true → (∀ c ∈ s.m.lsw.ch, c.wait = false) →
    (∀ u, s.m.lsw.uv.getD inp false = false → mv ≤ s.m.lswUv inp → (s.m.lswCh k).since = some u →
      s.Yields (.lswUndervoltageThreshold t inp true mv) fun m' => m'.lsw.uv.getD inp false = true
        ∧ (m'.lswCh k).counted = (s.m.lswCh k).counted + ((s.m.at t).now - u) ∧ (m'.lswCh k).since = none ∧ (m'.lswCh k).inrush = true)
    ∧ (s.m.lsw.uv.getD inp false = true → (s.m.lswCh k).since = none →
      ((s.m.lswCh k).counted < s.m.rd P.lswTInrush k * 1000000 →
        s.Yields (.inrushWindowEnd t k) fun m' => m'.lswCh k = s.m.lswCh k)
      ∧ (s.m.lswUv inp < mv → s.Yields (.lswUndervoltageThreshold t inp false mv) fun m' => m'.lsw.uv.getD inp false = false
        ∧ (m'.lswCh k).counted = (s.m.lswCh k).counted ∧ (m'.lswCh k).since = some (s.m.at t).now ∧ (m'.lswCh k).inrush = true))
end

