-- ==== Sys2Proof/Laws/Store.lean ====
section
/-!
SUPPORT. Laws/Store.lean: the laws of the parameter store: reading after writing, and its canonical form.
-/
namespace Sys2Proof.Machine

/-! ### Reading one word -/

theorem Store.wfFrom_mono {lo lo' : Nat} {s : Store} (h : Store.wfFrom lo s = true) (hl : lo' ≤ lo) :
    Store.wfFrom lo' s = true := by
  cases s with
  | nil => rfl
  | cons e r =>
    simp only [Store.wfFrom, Bool.and_eq_true, decide_eq_true_eq] at h ⊢
    exact ⟨⟨hl.trans h.1.1, h.1.2⟩, h.2⟩

theorem Store.look_none {s : Store} {lo a : Nat} (h : Store.wfFrom lo s = true) (ha : a < lo) :
    Store.look s a = none := by
  induction s generalizing lo with
  | nil => rfl
  | cons e r ih =>
    obtain ⟨b, w⟩ := e
    simp only [Store.wfFrom, Bool.and_eq_true, decide_eq_true_eq] at h
    have hb : b ≠ a := by omega
    simp only [Store.look, hb, if_false]
    exact ih h.2 (by omega)

theorem Store.look_del {s : Store} {lo a : Nat} (h : Store.wfFrom lo s = true) (c : Nat) :
    Store.look (Store.del s a) c = if c = a then none else Store.look s c := by
  induction s generalizing lo with
  | nil => simp [Store.del, Store.look]
  | cons e r ih =>
    obtain ⟨b, w⟩ := e
    simp only [Store.wfFrom, Bool.and_eq_true, decide_eq_true_eq] at h
    have ih' := ih h.2
    by_cases hab : b = a
    · subst hab
      simp only [Store.del, if_true]
      by_cases hc : c = b
      · subst hc; simp [Store.look_none h.2 (Nat.lt_succ_self _)]
      · simp [Store.look, hc, Ne.symm hc]
    · by_cases hlt : a < b
      · simp only [Store.del, hab, hlt, if_true, if_false]
        by_cases hc : c = a
        · subst hc
          simp [Store.look, hab, Store.look_none h.2 (by omega : c < b + 1)]
        · simp [hc]
      · simp only [Store.del, hab, hlt, if_false, Store.look, ih']
        by_cases hc : c = a
        · subst hc; simp [hab]
        · simp [hc]

theorem Store.look_ins {s : Store} {lo a : Nat} {v : Word} (h : Store.wfFrom lo s = true) (c : Nat) :
    Store.look (Store.ins s a v) c = if c = a then some v else Store.look s c := by
  induction s generalizing lo with
  | nil => simp [Store.ins, Store.look, eq_comm]
  | cons e r ih =>
    obtain ⟨b, w⟩ := e
    simp only [Store.wfFrom, Bool.and_eq_true, decide_eq_true_eq] at h
    have ih' := ih h.2
    by_cases hab : b = a
    · subst hab
      by_cases hc : c = b
      · subst hc; simp [Store.ins, Store.look]
      · simp [Store.ins, Store.look, hc, Ne.symm hc]
    · by_cases hlt : a < b
      · by_cases hc : c = a
        · subst hc; simp [Store.ins, hab, hlt, Store.look]
        · simp [Store.ins, hab, hlt, Store.look, hc, Ne.symm hc]
      · simp only [Store.ins, hab, hlt, if_false, Store.look, ih']
        by_cases hc : c = a
        · subst hc; simp [hab]
        · simp [hc]

theorem Store.get_put {s : Store} (h : Store.wf s = true) (a c : Nat) (v : Word) :
    Store.get (Store.put s a v) c = if c = a then v else Store.get s c := by
  unfold Store.get Store.put
  by_cases hv : v = dfltAt a
  · simp only [hv, if_true]
    rw [Store.look_del h]
    by_cases hc : c = a <;> simp [hc]
  · simp only [hv, if_false]
    rw [Store.look_ins h]
    by_cases hc : c = a <;> simp [hc]

@[simp] theorem Store.get_put_self {s : Store} (h : Store.wf s = true) (a : Nat) (v : Word) :
    Store.get (Store.put s a v) a = v := by simp [Store.get_put h]

@[simp] theorem Store.get_put_ne {s : Store} (h : Store.wf s = true) {a c : Nat} (hc : c ≠ a) (v : Word) :
    Store.get (Store.put s a v) c = Store.get s c := by simp [Store.get_put h, hc]

/-! ### The canonical form -/

theorem Store.del_wfFrom {s : Store} {lo : Nat} (h : Store.wfFrom lo s = true) (a : Nat) :
    Store.wfFrom lo (Store.del s a) = true := by
  induction s generalizing lo with
  | nil => rfl
  | cons e r ih =>
    obtain ⟨b, w⟩ := e
    have h0 := h
    simp only [Store.wfFrom, Bool.and_eq_true, decide_eq_true_eq] at h
    unfold Store.del
    split
    · exact Store.wfFrom_mono h.2 (by omega)
    · split
      · exact h0
      · simp only [Store.wfFrom, Bool.and_eq_true, decide_eq_true_eq]
        exact ⟨h.1, ih h.2⟩

theorem Store.ins_wfFrom {s : Store} {lo a : Nat} {v : Word} (h : Store.wfFrom lo s = true) (hl : lo ≤ a)
    (hv : v ≠ dfltAt a) : Store.wfFrom lo (Store.ins s a v) = true := by
  induction s generalizing lo with
  | nil => simp [Store.ins, Store.wfFrom, hl, hv]
  | cons e r ih =>
    obtain ⟨b, w⟩ := e
    have h0 := h
    simp only [Store.wfFrom, Bool.and_eq_true, decide_eq_true_eq] at h
    unfold Store.ins
    split
    · next hb => subst hb; simp [Store.wfFrom, h.1.1, hv, h.2]
    · split
      · next hlt =>
        have := h.1.2
        simp [Store.wfFrom, hl, hv, h.2, h.1.2]; omega
      · simp only [Store.wfFrom, Bool.and_eq_true, decide_eq_true_eq]
        exact ⟨h.1, ih h.2 (by omega)⟩

theorem Store.put_wf {s : Store} (h : Store.wf s = true) (a : Nat) (v : Word) : Store.wf (Store.put s a v) = true := by
  unfold Store.put
  split
  · exact Store.del_wfFrom h a
  · next hv => exact Store.ins_wfFrom h (Nat.zero_le a) hv

theorem Store.foldr_wf (s : Store) : Store.wf (s.foldr (fun e acc => Store.put acc e.1 e.2) []) = true := by
  induction s with
  | nil => rfl
  | cons e r ih => exact Store.put_wf ih _ _

theorem Store.canon_wf (s : Store) : Store.wf (Store.canon s) = true := by
  unfold Store.canon
  split
  · assumption
  · exact Store.foldr_wf s

theorem Store.canon_of_wf {s : Store} (h : Store.wf s = true) : Store.canon s = s := by simp [Store.canon, h]

theorem Store.foldr_get (s : Store) (a : Nat) :
    Store.get (s.foldr (fun e acc => Store.put acc e.1 e.2) []) a = Store.get s a := by
  induction s with
  | nil => rfl
  | cons e r ih =>
    obtain ⟨b, w⟩ := e
    rw [List.foldr_cons, Store.get_put (Store.foldr_wf r), ih]
    by_cases h : a = b
    · subst h; simp [Store.get, Store.look]
    · simp [Store.get, Store.look, h, Ne.symm h]

/-- A store and its canonical form read the same at every address. -/
@[simp] theorem Store.get_canon (s : Store) (a : Nat) : Store.get (Store.canon s) a = Store.get s a := by
  unfold Store.canon
  split
  · rfl
  · exact Store.foldr_get s a

end Sys2Proof.Machine
end

