-- ==== Sys2Proof/Laws/State.lean ====
section
/-!
SUPPORT. Laws/State.lean: what each shared update leaves alone, one lemma per field, and what it writes.
-/
namespace Sys2Proof.Machine

variable (m : Mod)

/-! ### Mod.at -/

@[simp] theorem Mod.at_regs (t : Nat) : (m.at t).regs = m.regs := rfl
@[simp] theorem Mod.at_free (t : Nat) : (m.at t).free = m.free := rfl
@[simp] theorem Mod.at_marks (t : Nat) : (m.at t).marks = m.marks := rfl
@[simp] theorem Mod.at_sys (t : Nat) : (m.at t).sys = m.sys := rfl
@[simp] theorem Mod.at_evc (t : Nat) : (m.at t).evc = m.evc := rfl
@[simp] theorem Mod.at_log (t : Nat) : (m.at t).log = m.log := rfl
@[simp] theorem Mod.at_net (t : Nat) : (m.at t).net = m.net := rfl
@[simp] theorem Mod.at_time (t : Nat) : (m.at t).time = m.time := rfl
@[simp] theorem Mod.at_bist (t : Nat) : (m.at t).bist = m.bist := rfl
@[simp] theorem Mod.at_nv (t : Nat) : (m.at t).nv = m.nv := rfl
@[simp] theorem Mod.at_cams (t : Nat) : (m.at t).cams = m.cams := rfl
@[simp] theorem Mod.at_panels (t : Nat) : (m.at t).panels = m.panels := rfl
@[simp] theorem Mod.at_cell (t : Nat) : (m.at t).cell = m.cell := rfl
@[simp] theorem Mod.at_fus (t : Nat) : (m.at t).fus = m.fus := rfl
@[simp] theorem Mod.at_trk (t : Nat) : (m.at t).trk = m.trk := rfl
@[simp] theorem Mod.at_ej (t : Nat) : (m.at t).ej = m.ej := rfl
@[simp] theorem Mod.at_vlv (t : Nat) : (m.at t).vlv = m.vlv := rfl
@[simp] theorem Mod.at_toll (t : Nat) : (m.at t).toll = m.toll := rfl
@[simp] theorem Mod.at_lsw (t : Nat) : (m.at t).lsw = m.lsw := rfl
@[simp] theorem Mod.at_loop (t : Nat) : (m.at t).loop = m.loop := rfl
@[simp] theorem Mod.at_gnss (t : Nat) : (m.at t).gnss = m.gnss := rfl
@[simp] theorem Mod.at_can (t : Nat) : (m.at t).can = m.can := rfl
@[simp] theorem Mod.at_perf (t : Nat) : (m.at t).perf = m.perf := rfl

/-! ### Mod.setWord -/

@[simp] theorem Mod.setWord_now (a : Nat) (v : Word) : (m.setWord a v).now = m.now := rfl
@[simp] theorem Mod.setWord_free (a : Nat) (v : Word) : (m.setWord a v).free = m.free := rfl
@[simp] theorem Mod.setWord_marks (a : Nat) (v : Word) : (m.setWord a v).marks = m.marks := rfl
@[simp] theorem Mod.setWord_sys (a : Nat) (v : Word) : (m.setWord a v).sys = m.sys := rfl
@[simp] theorem Mod.setWord_evc (a : Nat) (v : Word) : (m.setWord a v).evc = m.evc := rfl
@[simp] theorem Mod.setWord_log (a : Nat) (v : Word) : (m.setWord a v).log = m.log := rfl
@[simp] theorem Mod.setWord_net (a : Nat) (v : Word) : (m.setWord a v).net = m.net := rfl
@[simp] theorem Mod.setWord_time (a : Nat) (v : Word) : (m.setWord a v).time = m.time := rfl
@[simp] theorem Mod.setWord_bist (a : Nat) (v : Word) : (m.setWord a v).bist = m.bist := rfl
@[simp] theorem Mod.setWord_nv (a : Nat) (v : Word) : (m.setWord a v).nv = m.nv := rfl
@[simp] theorem Mod.setWord_cams (a : Nat) (v : Word) : (m.setWord a v).cams = m.cams := rfl
@[simp] theorem Mod.setWord_panels (a : Nat) (v : Word) : (m.setWord a v).panels = m.panels := rfl
@[simp] theorem Mod.setWord_cell (a : Nat) (v : Word) : (m.setWord a v).cell = m.cell := rfl
@[simp] theorem Mod.setWord_fus (a : Nat) (v : Word) : (m.setWord a v).fus = m.fus := rfl
@[simp] theorem Mod.setWord_trk (a : Nat) (v : Word) : (m.setWord a v).trk = m.trk := rfl
@[simp] theorem Mod.setWord_ej (a : Nat) (v : Word) : (m.setWord a v).ej = m.ej := rfl
@[simp] theorem Mod.setWord_vlv (a : Nat) (v : Word) : (m.setWord a v).vlv = m.vlv := rfl
@[simp] theorem Mod.setWord_toll (a : Nat) (v : Word) : (m.setWord a v).toll = m.toll := rfl
@[simp] theorem Mod.setWord_lsw (a : Nat) (v : Word) : (m.setWord a v).lsw = m.lsw := rfl
@[simp] theorem Mod.setWord_loop (a : Nat) (v : Word) : (m.setWord a v).loop = m.loop := rfl
@[simp] theorem Mod.setWord_gnss (a : Nat) (v : Word) : (m.setWord a v).gnss = m.gnss := rfl
@[simp] theorem Mod.setWord_can (a : Nat) (v : Word) : (m.setWord a v).can = m.can := rfl
@[simp] theorem Mod.setWord_perf (a : Nat) (v : Word) : (m.setWord a v).perf = m.perf := rfl

/-! ### Mod.wr -/

@[simp] theorem Mod.wr_now (p : Param) (v i j : Nat) : (m.wr p v i j).now = m.now := rfl
@[simp] theorem Mod.wr_free (p : Param) (v i j : Nat) : (m.wr p v i j).free = m.free := rfl
@[simp] theorem Mod.wr_marks (p : Param) (v i j : Nat) : (m.wr p v i j).marks = m.marks := rfl
@[simp] theorem Mod.wr_sys (p : Param) (v i j : Nat) : (m.wr p v i j).sys = m.sys := rfl
@[simp] theorem Mod.wr_evc (p : Param) (v i j : Nat) : (m.wr p v i j).evc = m.evc := rfl
@[simp] theorem Mod.wr_log (p : Param) (v i j : Nat) : (m.wr p v i j).log = m.log := rfl
@[simp] theorem Mod.wr_net (p : Param) (v i j : Nat) : (m.wr p v i j).net = m.net := rfl
@[simp] theorem Mod.wr_time (p : Param) (v i j : Nat) : (m.wr p v i j).time = m.time := rfl
@[simp] theorem Mod.wr_bist (p : Param) (v i j : Nat) : (m.wr p v i j).bist = m.bist := rfl
@[simp] theorem Mod.wr_nv (p : Param) (v i j : Nat) : (m.wr p v i j).nv = m.nv := rfl
@[simp] theorem Mod.wr_cams (p : Param) (v i j : Nat) : (m.wr p v i j).cams = m.cams := rfl
@[simp] theorem Mod.wr_panels (p : Param) (v i j : Nat) : (m.wr p v i j).panels = m.panels := rfl
@[simp] theorem Mod.wr_cell (p : Param) (v i j : Nat) : (m.wr p v i j).cell = m.cell := rfl
@[simp] theorem Mod.wr_fus (p : Param) (v i j : Nat) : (m.wr p v i j).fus = m.fus := rfl
@[simp] theorem Mod.wr_trk (p : Param) (v i j : Nat) : (m.wr p v i j).trk = m.trk := rfl
@[simp] theorem Mod.wr_ej (p : Param) (v i j : Nat) : (m.wr p v i j).ej = m.ej := rfl
@[simp] theorem Mod.wr_vlv (p : Param) (v i j : Nat) : (m.wr p v i j).vlv = m.vlv := rfl
@[simp] theorem Mod.wr_toll (p : Param) (v i j : Nat) : (m.wr p v i j).toll = m.toll := rfl
@[simp] theorem Mod.wr_lsw (p : Param) (v i j : Nat) : (m.wr p v i j).lsw = m.lsw := rfl
@[simp] theorem Mod.wr_loop (p : Param) (v i j : Nat) : (m.wr p v i j).loop = m.loop := rfl
@[simp] theorem Mod.wr_gnss (p : Param) (v i j : Nat) : (m.wr p v i j).gnss = m.gnss := rfl
@[simp] theorem Mod.wr_can (p : Param) (v i j : Nat) : (m.wr p v i j).can = m.can := rfl
@[simp] theorem Mod.wr_perf (p : Param) (v i j : Nat) : (m.wr p v i j).perf = m.perf := rfl

/-! ### Mod.wrI -/

@[simp] theorem Mod.wrI_now (p : Param) (v : Int) (i j : Nat) : (m.wrI p v i j).now = m.now := rfl
@[simp] theorem Mod.wrI_free (p : Param) (v : Int) (i j : Nat) : (m.wrI p v i j).free = m.free := rfl
@[simp] theorem Mod.wrI_marks (p : Param) (v : Int) (i j : Nat) : (m.wrI p v i j).marks = m.marks := rfl
@[simp] theorem Mod.wrI_sys (p : Param) (v : Int) (i j : Nat) : (m.wrI p v i j).sys = m.sys := rfl
@[simp] theorem Mod.wrI_evc (p : Param) (v : Int) (i j : Nat) : (m.wrI p v i j).evc = m.evc := rfl
@[simp] theorem Mod.wrI_log (p : Param) (v : Int) (i j : Nat) : (m.wrI p v i j).log = m.log := rfl
@[simp] theorem Mod.wrI_net (p : Param) (v : Int) (i j : Nat) : (m.wrI p v i j).net = m.net := rfl
@[simp] theorem Mod.wrI_time (p : Param) (v : Int) (i j : Nat) : (m.wrI p v i j).time = m.time := rfl
@[simp] theorem Mod.wrI_bist (p : Param) (v : Int) (i j : Nat) : (m.wrI p v i j).bist = m.bist := rfl
@[simp] theorem Mod.wrI_nv (p : Param) (v : Int) (i j : Nat) : (m.wrI p v i j).nv = m.nv := rfl
@[simp] theorem Mod.wrI_cams (p : Param) (v : Int) (i j : Nat) : (m.wrI p v i j).cams = m.cams := rfl
@[simp] theorem Mod.wrI_panels (p : Param) (v : Int) (i j : Nat) : (m.wrI p v i j).panels = m.panels := rfl
@[simp] theorem Mod.wrI_cell (p : Param) (v : Int) (i j : Nat) : (m.wrI p v i j).cell = m.cell := rfl
@[simp] theorem Mod.wrI_fus (p : Param) (v : Int) (i j : Nat) : (m.wrI p v i j).fus = m.fus := rfl
@[simp] theorem Mod.wrI_trk (p : Param) (v : Int) (i j : Nat) : (m.wrI p v i j).trk = m.trk := rfl
@[simp] theorem Mod.wrI_ej (p : Param) (v : Int) (i j : Nat) : (m.wrI p v i j).ej = m.ej := rfl
@[simp] theorem Mod.wrI_vlv (p : Param) (v : Int) (i j : Nat) : (m.wrI p v i j).vlv = m.vlv := rfl
@[simp] theorem Mod.wrI_toll (p : Param) (v : Int) (i j : Nat) : (m.wrI p v i j).toll = m.toll := rfl
@[simp] theorem Mod.wrI_lsw (p : Param) (v : Int) (i j : Nat) : (m.wrI p v i j).lsw = m.lsw := rfl
@[simp] theorem Mod.wrI_loop (p : Param) (v : Int) (i j : Nat) : (m.wrI p v i j).loop = m.loop := rfl
@[simp] theorem Mod.wrI_gnss (p : Param) (v : Int) (i j : Nat) : (m.wrI p v i j).gnss = m.gnss := rfl
@[simp] theorem Mod.wrI_can (p : Param) (v : Int) (i j : Nat) : (m.wrI p v i j).can = m.can := rfl
@[simp] theorem Mod.wrI_perf (p : Param) (v : Int) (i j : Nat) : (m.wrI p v i j).perf = m.perf := rfl

/-! ### Mod.inc -/

@[simp] theorem Mod.inc_now (p : Param) (i n j : Nat) : (m.inc p i n j).now = m.now := rfl
@[simp] theorem Mod.inc_free (p : Param) (i n j : Nat) : (m.inc p i n j).free = m.free := rfl
@[simp] theorem Mod.inc_marks (p : Param) (i n j : Nat) : (m.inc p i n j).marks = m.marks := rfl
@[simp] theorem Mod.inc_sys (p : Param) (i n j : Nat) : (m.inc p i n j).sys = m.sys := rfl
@[simp] theorem Mod.inc_evc (p : Param) (i n j : Nat) : (m.inc p i n j).evc = m.evc := rfl
@[simp] theorem Mod.inc_log (p : Param) (i n j : Nat) : (m.inc p i n j).log = m.log := rfl
@[simp] theorem Mod.inc_net (p : Param) (i n j : Nat) : (m.inc p i n j).net = m.net := rfl
@[simp] theorem Mod.inc_time (p : Param) (i n j : Nat) : (m.inc p i n j).time = m.time := rfl
@[simp] theorem Mod.inc_bist (p : Param) (i n j : Nat) : (m.inc p i n j).bist = m.bist := rfl
@[simp] theorem Mod.inc_nv (p : Param) (i n j : Nat) : (m.inc p i n j).nv = m.nv := rfl
@[simp] theorem Mod.inc_cams (p : Param) (i n j : Nat) : (m.inc p i n j).cams = m.cams := rfl
@[simp] theorem Mod.inc_panels (p : Param) (i n j : Nat) : (m.inc p i n j).panels = m.panels := rfl
@[simp] theorem Mod.inc_cell (p : Param) (i n j : Nat) : (m.inc p i n j).cell = m.cell := rfl
@[simp] theorem Mod.inc_fus (p : Param) (i n j : Nat) : (m.inc p i n j).fus = m.fus := rfl
@[simp] theorem Mod.inc_trk (p : Param) (i n j : Nat) : (m.inc p i n j).trk = m.trk := rfl
@[simp] theorem Mod.inc_ej (p : Param) (i n j : Nat) : (m.inc p i n j).ej = m.ej := rfl
@[simp] theorem Mod.inc_vlv (p : Param) (i n j : Nat) : (m.inc p i n j).vlv = m.vlv := rfl
@[simp] theorem Mod.inc_toll (p : Param) (i n j : Nat) : (m.inc p i n j).toll = m.toll := rfl
@[simp] theorem Mod.inc_lsw (p : Param) (i n j : Nat) : (m.inc p i n j).lsw = m.lsw := rfl
@[simp] theorem Mod.inc_loop (p : Param) (i n j : Nat) : (m.inc p i n j).loop = m.loop := rfl
@[simp] theorem Mod.inc_gnss (p : Param) (i n j : Nat) : (m.inc p i n j).gnss = m.gnss := rfl
@[simp] theorem Mod.inc_can (p : Param) (i n j : Nat) : (m.inc p i n j).can = m.can := rfl
@[simp] theorem Mod.inc_perf (p : Param) (i n j : Nat) : (m.inc p i n j).perf = m.perf := rfl

/-! ### Mod.mark -/

@[simp] theorem Mod.mark_now (a b : Nat) : (m.mark a b).now = m.now := rfl
@[simp] theorem Mod.mark_regs (a b : Nat) : (m.mark a b).regs = m.regs := rfl
@[simp] theorem Mod.mark_free (a b : Nat) : (m.mark a b).free = m.free := rfl
@[simp] theorem Mod.mark_sys (a b : Nat) : (m.mark a b).sys = m.sys := rfl
@[simp] theorem Mod.mark_evc (a b : Nat) : (m.mark a b).evc = m.evc := rfl
@[simp] theorem Mod.mark_log (a b : Nat) : (m.mark a b).log = m.log := rfl
@[simp] theorem Mod.mark_net (a b : Nat) : (m.mark a b).net = m.net := rfl
@[simp] theorem Mod.mark_time (a b : Nat) : (m.mark a b).time = m.time := rfl
@[simp] theorem Mod.mark_bist (a b : Nat) : (m.mark a b).bist = m.bist := rfl
@[simp] theorem Mod.mark_nv (a b : Nat) : (m.mark a b).nv = m.nv := rfl
@[simp] theorem Mod.mark_cams (a b : Nat) : (m.mark a b).cams = m.cams := rfl
@[simp] theorem Mod.mark_panels (a b : Nat) : (m.mark a b).panels = m.panels := rfl
@[simp] theorem Mod.mark_cell (a b : Nat) : (m.mark a b).cell = m.cell := rfl
@[simp] theorem Mod.mark_fus (a b : Nat) : (m.mark a b).fus = m.fus := rfl
@[simp] theorem Mod.mark_trk (a b : Nat) : (m.mark a b).trk = m.trk := rfl
@[simp] theorem Mod.mark_ej (a b : Nat) : (m.mark a b).ej = m.ej := rfl
@[simp] theorem Mod.mark_vlv (a b : Nat) : (m.mark a b).vlv = m.vlv := rfl
@[simp] theorem Mod.mark_toll (a b : Nat) : (m.mark a b).toll = m.toll := rfl
@[simp] theorem Mod.mark_lsw (a b : Nat) : (m.mark a b).lsw = m.lsw := rfl
@[simp] theorem Mod.mark_loop (a b : Nat) : (m.mark a b).loop = m.loop := rfl
@[simp] theorem Mod.mark_gnss (a b : Nat) : (m.mark a b).gnss = m.gnss := rfl
@[simp] theorem Mod.mark_can (a b : Nat) : (m.mark a b).can = m.can := rfl
@[simp] theorem Mod.mark_perf (a b : Nat) : (m.mark a b).perf = m.perf := rfl

/-! ### Mod.flag -/

@[simp] theorem Mod.flag_now (p : Param) (b i : Nat) : (m.flag p b i).now = m.now := rfl
@[simp] theorem Mod.flag_free (p : Param) (b i : Nat) : (m.flag p b i).free = m.free := rfl
@[simp] theorem Mod.flag_sys (p : Param) (b i : Nat) : (m.flag p b i).sys = m.sys := rfl
@[simp] theorem Mod.flag_evc (p : Param) (b i : Nat) : (m.flag p b i).evc = m.evc := rfl
@[simp] theorem Mod.flag_log (p : Param) (b i : Nat) : (m.flag p b i).log = m.log := rfl
@[simp] theorem Mod.flag_net (p : Param) (b i : Nat) : (m.flag p b i).net = m.net := rfl
@[simp] theorem Mod.flag_time (p : Param) (b i : Nat) : (m.flag p b i).time = m.time := rfl
@[simp] theorem Mod.flag_bist (p : Param) (b i : Nat) : (m.flag p b i).bist = m.bist := rfl
@[simp] theorem Mod.flag_nv (p : Param) (b i : Nat) : (m.flag p b i).nv = m.nv := rfl
@[simp] theorem Mod.flag_cams (p : Param) (b i : Nat) : (m.flag p b i).cams = m.cams := rfl
@[simp] theorem Mod.flag_panels (p : Param) (b i : Nat) : (m.flag p b i).panels = m.panels := rfl
@[simp] theorem Mod.flag_cell (p : Param) (b i : Nat) : (m.flag p b i).cell = m.cell := rfl
@[simp] theorem Mod.flag_fus (p : Param) (b i : Nat) : (m.flag p b i).fus = m.fus := rfl
@[simp] theorem Mod.flag_trk (p : Param) (b i : Nat) : (m.flag p b i).trk = m.trk := rfl
@[simp] theorem Mod.flag_ej (p : Param) (b i : Nat) : (m.flag p b i).ej = m.ej := rfl
@[simp] theorem Mod.flag_vlv (p : Param) (b i : Nat) : (m.flag p b i).vlv = m.vlv := rfl
@[simp] theorem Mod.flag_toll (p : Param) (b i : Nat) : (m.flag p b i).toll = m.toll := rfl
@[simp] theorem Mod.flag_lsw (p : Param) (b i : Nat) : (m.flag p b i).lsw = m.lsw := rfl
@[simp] theorem Mod.flag_loop (p : Param) (b i : Nat) : (m.flag p b i).loop = m.loop := rfl
@[simp] theorem Mod.flag_gnss (p : Param) (b i : Nat) : (m.flag p b i).gnss = m.gnss := rfl
@[simp] theorem Mod.flag_can (p : Param) (b i : Nat) : (m.flag p b i).can = m.can := rfl
@[simp] theorem Mod.flag_perf (p : Param) (b i : Nat) : (m.flag p b i).perf = m.perf := rfl

/-! ### Mod.peak -/

@[simp] theorem Mod.peak_now (p : Param) (v i : Nat) : (m.peak p v i).now = m.now := rfl
@[simp] theorem Mod.peak_free (p : Param) (v i : Nat) : (m.peak p v i).free = m.free := rfl
@[simp] theorem Mod.peak_marks (p : Param) (v i : Nat) : (m.peak p v i).marks = m.marks := rfl
@[simp] theorem Mod.peak_sys (p : Param) (v i : Nat) : (m.peak p v i).sys = m.sys := rfl
@[simp] theorem Mod.peak_evc (p : Param) (v i : Nat) : (m.peak p v i).evc = m.evc := rfl
@[simp] theorem Mod.peak_log (p : Param) (v i : Nat) : (m.peak p v i).log = m.log := rfl
@[simp] theorem Mod.peak_net (p : Param) (v i : Nat) : (m.peak p v i).net = m.net := rfl
@[simp] theorem Mod.peak_time (p : Param) (v i : Nat) : (m.peak p v i).time = m.time := rfl
@[simp] theorem Mod.peak_bist (p : Param) (v i : Nat) : (m.peak p v i).bist = m.bist := rfl
@[simp] theorem Mod.peak_nv (p : Param) (v i : Nat) : (m.peak p v i).nv = m.nv := rfl
@[simp] theorem Mod.peak_cams (p : Param) (v i : Nat) : (m.peak p v i).cams = m.cams := rfl
@[simp] theorem Mod.peak_panels (p : Param) (v i : Nat) : (m.peak p v i).panels = m.panels := rfl
@[simp] theorem Mod.peak_cell (p : Param) (v i : Nat) : (m.peak p v i).cell = m.cell := rfl
@[simp] theorem Mod.peak_fus (p : Param) (v i : Nat) : (m.peak p v i).fus = m.fus := rfl
@[simp] theorem Mod.peak_trk (p : Param) (v i : Nat) : (m.peak p v i).trk = m.trk := rfl
@[simp] theorem Mod.peak_ej (p : Param) (v i : Nat) : (m.peak p v i).ej = m.ej := rfl
@[simp] theorem Mod.peak_vlv (p : Param) (v i : Nat) : (m.peak p v i).vlv = m.vlv := rfl
@[simp] theorem Mod.peak_toll (p : Param) (v i : Nat) : (m.peak p v i).toll = m.toll := rfl
@[simp] theorem Mod.peak_lsw (p : Param) (v i : Nat) : (m.peak p v i).lsw = m.lsw := rfl
@[simp] theorem Mod.peak_loop (p : Param) (v i : Nat) : (m.peak p v i).loop = m.loop := rfl
@[simp] theorem Mod.peak_gnss (p : Param) (v i : Nat) : (m.peak p v i).gnss = m.gnss := rfl
@[simp] theorem Mod.peak_can (p : Param) (v i : Nat) : (m.peak p v i).can = m.can := rfl
@[simp] theorem Mod.peak_perf (p : Param) (v i : Nat) : (m.peak p v i).perf = m.perf := rfl

/-! ### Mod.setPhase -/

@[simp] theorem Mod.setPhase_now (p : Phase) : (m.setPhase p).now = m.now := rfl
@[simp] theorem Mod.setPhase_regs (p : Phase) : (m.setPhase p).regs = m.regs := rfl
@[simp] theorem Mod.setPhase_free (p : Phase) : (m.setPhase p).free = m.free := rfl
@[simp] theorem Mod.setPhase_marks (p : Phase) : (m.setPhase p).marks = m.marks := rfl
@[simp] theorem Mod.setPhase_sys (p : Phase) : (m.setPhase p).sys = m.sys := rfl
@[simp] theorem Mod.setPhase_evc (p : Phase) : (m.setPhase p).evc = m.evc := rfl
@[simp] theorem Mod.setPhase_log (p : Phase) : (m.setPhase p).log = m.log := rfl
@[simp] theorem Mod.setPhase_net (p : Phase) : (m.setPhase p).net = m.net := rfl
@[simp] theorem Mod.setPhase_time (p : Phase) : (m.setPhase p).time = m.time := rfl
@[simp] theorem Mod.setPhase_nv (p : Phase) : (m.setPhase p).nv = m.nv := rfl
@[simp] theorem Mod.setPhase_cams (p : Phase) : (m.setPhase p).cams = m.cams := rfl
@[simp] theorem Mod.setPhase_panels (p : Phase) : (m.setPhase p).panels = m.panels := rfl
@[simp] theorem Mod.setPhase_cell (p : Phase) : (m.setPhase p).cell = m.cell := rfl
@[simp] theorem Mod.setPhase_fus (p : Phase) : (m.setPhase p).fus = m.fus := rfl
@[simp] theorem Mod.setPhase_trk (p : Phase) : (m.setPhase p).trk = m.trk := rfl
@[simp] theorem Mod.setPhase_ej (p : Phase) : (m.setPhase p).ej = m.ej := rfl
@[simp] theorem Mod.setPhase_vlv (p : Phase) : (m.setPhase p).vlv = m.vlv := rfl
@[simp] theorem Mod.setPhase_toll (p : Phase) : (m.setPhase p).toll = m.toll := rfl
@[simp] theorem Mod.setPhase_lsw (p : Phase) : (m.setPhase p).lsw = m.lsw := rfl
@[simp] theorem Mod.setPhase_loop (p : Phase) : (m.setPhase p).loop = m.loop := rfl
@[simp] theorem Mod.setPhase_gnss (p : Phase) : (m.setPhase p).gnss = m.gnss := rfl
@[simp] theorem Mod.setPhase_can (p : Phase) : (m.setPhase p).can = m.can := rfl
@[simp] theorem Mod.setPhase_perf (p : Phase) : (m.setPhase p).perf = m.perf := rfl

/-! ### Mod.raise -/

@[simp] theorem Mod.raise_now (src code : Nat) (d : List Byte) : (m.raise src code d).now = m.now := rfl
@[simp] theorem Mod.raise_regs (src code : Nat) (d : List Byte) : (m.raise src code d).regs = m.regs := rfl
@[simp] theorem Mod.raise_free (src code : Nat) (d : List Byte) : (m.raise src code d).free = m.free := rfl
@[simp] theorem Mod.raise_marks (src code : Nat) (d : List Byte) : (m.raise src code d).marks = m.marks := rfl
@[simp] theorem Mod.raise_sys (src code : Nat) (d : List Byte) : (m.raise src code d).sys = m.sys := rfl
@[simp] theorem Mod.raise_log (src code : Nat) (d : List Byte) : (m.raise src code d).log = m.log := rfl
@[simp] theorem Mod.raise_net (src code : Nat) (d : List Byte) : (m.raise src code d).net = m.net := rfl
@[simp] theorem Mod.raise_time (src code : Nat) (d : List Byte) : (m.raise src code d).time = m.time := rfl
@[simp] theorem Mod.raise_bist (src code : Nat) (d : List Byte) : (m.raise src code d).bist = m.bist := rfl
@[simp] theorem Mod.raise_nv (src code : Nat) (d : List Byte) : (m.raise src code d).nv = m.nv := rfl
@[simp] theorem Mod.raise_cams (src code : Nat) (d : List Byte) : (m.raise src code d).cams = m.cams := rfl
@[simp] theorem Mod.raise_panels (src code : Nat) (d : List Byte) : (m.raise src code d).panels = m.panels := rfl
@[simp] theorem Mod.raise_cell (src code : Nat) (d : List Byte) : (m.raise src code d).cell = m.cell := rfl
@[simp] theorem Mod.raise_fus (src code : Nat) (d : List Byte) : (m.raise src code d).fus = m.fus := rfl
@[simp] theorem Mod.raise_trk (src code : Nat) (d : List Byte) : (m.raise src code d).trk = m.trk := rfl
@[simp] theorem Mod.raise_ej (src code : Nat) (d : List Byte) : (m.raise src code d).ej = m.ej := rfl
@[simp] theorem Mod.raise_vlv (src code : Nat) (d : List Byte) : (m.raise src code d).vlv = m.vlv := rfl
@[simp] theorem Mod.raise_toll (src code : Nat) (d : List Byte) : (m.raise src code d).toll = m.toll := rfl
@[simp] theorem Mod.raise_lsw (src code : Nat) (d : List Byte) : (m.raise src code d).lsw = m.lsw := rfl
@[simp] theorem Mod.raise_loop (src code : Nat) (d : List Byte) : (m.raise src code d).loop = m.loop := rfl
@[simp] theorem Mod.raise_gnss (src code : Nat) (d : List Byte) : (m.raise src code d).gnss = m.gnss := rfl
@[simp] theorem Mod.raise_can (src code : Nat) (d : List Byte) : (m.raise src code d).can = m.can := rfl
@[simp] theorem Mod.raise_perf (src code : Nat) (d : List Byte) : (m.raise src code d).perf = m.perf := rfl

/-! ### Mod.raiseLog -/

@[simp] theorem Mod.raiseLog_now (code : Nat) (d : List Byte) : (m.raiseLog code d).now = m.now := rfl
@[simp] theorem Mod.raiseLog_regs (code : Nat) (d : List Byte) : (m.raiseLog code d).regs = m.regs := rfl
@[simp] theorem Mod.raiseLog_free (code : Nat) (d : List Byte) : (m.raiseLog code d).free = m.free := rfl
@[simp] theorem Mod.raiseLog_marks (code : Nat) (d : List Byte) : (m.raiseLog code d).marks = m.marks := rfl
@[simp] theorem Mod.raiseLog_sys (code : Nat) (d : List Byte) : (m.raiseLog code d).sys = m.sys := rfl
@[simp] theorem Mod.raiseLog_log (code : Nat) (d : List Byte) : (m.raiseLog code d).log = m.log := rfl
@[simp] theorem Mod.raiseLog_net (code : Nat) (d : List Byte) : (m.raiseLog code d).net = m.net := rfl
@[simp] theorem Mod.raiseLog_time (code : Nat) (d : List Byte) : (m.raiseLog code d).time = m.time := rfl
@[simp] theorem Mod.raiseLog_bist (code : Nat) (d : List Byte) : (m.raiseLog code d).bist = m.bist := rfl
@[simp] theorem Mod.raiseLog_nv (code : Nat) (d : List Byte) : (m.raiseLog code d).nv = m.nv := rfl
@[simp] theorem Mod.raiseLog_cams (code : Nat) (d : List Byte) : (m.raiseLog code d).cams = m.cams := rfl
@[simp] theorem Mod.raiseLog_panels (code : Nat) (d : List Byte) : (m.raiseLog code d).panels = m.panels := rfl
@[simp] theorem Mod.raiseLog_cell (code : Nat) (d : List Byte) : (m.raiseLog code d).cell = m.cell := rfl
@[simp] theorem Mod.raiseLog_fus (code : Nat) (d : List Byte) : (m.raiseLog code d).fus = m.fus := rfl
@[simp] theorem Mod.raiseLog_trk (code : Nat) (d : List Byte) : (m.raiseLog code d).trk = m.trk := rfl
@[simp] theorem Mod.raiseLog_ej (code : Nat) (d : List Byte) : (m.raiseLog code d).ej = m.ej := rfl
@[simp] theorem Mod.raiseLog_vlv (code : Nat) (d : List Byte) : (m.raiseLog code d).vlv = m.vlv := rfl
@[simp] theorem Mod.raiseLog_toll (code : Nat) (d : List Byte) : (m.raiseLog code d).toll = m.toll := rfl
@[simp] theorem Mod.raiseLog_lsw (code : Nat) (d : List Byte) : (m.raiseLog code d).lsw = m.lsw := rfl
@[simp] theorem Mod.raiseLog_loop (code : Nat) (d : List Byte) : (m.raiseLog code d).loop = m.loop := rfl
@[simp] theorem Mod.raiseLog_gnss (code : Nat) (d : List Byte) : (m.raiseLog code d).gnss = m.gnss := rfl
@[simp] theorem Mod.raiseLog_can (code : Nat) (d : List Byte) : (m.raiseLog code d).can = m.can := rfl
@[simp] theorem Mod.raiseLog_perf (code : Nat) (d : List Byte) : (m.raiseLog code d).perf = m.perf := rfl

/-! ### Mod.raiseOnce -/

@[simp] theorem Mod.raiseOnce_now (src code key : Nat) (d : Nat → List Byte) (n : Nat) : (m.raiseOnce src code key d n).now = m.now := by
  unfold Mod.raiseOnce; extract_lets; split <;> rfl
@[simp] theorem Mod.raiseOnce_regs (src code key : Nat) (d : Nat → List Byte) (n : Nat) : (m.raiseOnce src code key d n).regs = m.regs := by
  unfold Mod.raiseOnce; extract_lets; split <;> rfl
@[simp] theorem Mod.raiseOnce_free (src code key : Nat) (d : Nat → List Byte) (n : Nat) : (m.raiseOnce src code key d n).free = m.free := by
  unfold Mod.raiseOnce; extract_lets; split <;> rfl
@[simp] theorem Mod.raiseOnce_marks (src code key : Nat) (d : Nat → List Byte) (n : Nat) : (m.raiseOnce src code key d n).marks = m.marks := by
  unfold Mod.raiseOnce; extract_lets; split <;> rfl
@[simp] theorem Mod.raiseOnce_sys (src code key : Nat) (d : Nat → List Byte) (n : Nat) : (m.raiseOnce src code key d n).sys = m.sys := by
  unfold Mod.raiseOnce; extract_lets; split <;> rfl
@[simp] theorem Mod.raiseOnce_log (src code key : Nat) (d : Nat → List Byte) (n : Nat) : (m.raiseOnce src code key d n).log = m.log := by
  unfold Mod.raiseOnce; extract_lets; split <;> rfl
@[simp] theorem Mod.raiseOnce_net (src code key : Nat) (d : Nat → List Byte) (n : Nat) : (m.raiseOnce src code key d n).net = m.net := by
  unfold Mod.raiseOnce; extract_lets; split <;> rfl
@[simp] theorem Mod.raiseOnce_time (src code key : Nat) (d : Nat → List Byte) (n : Nat) : (m.raiseOnce src code key d n).time = m.time := by
  unfold Mod.raiseOnce; extract_lets; split <;> rfl
@[simp] theorem Mod.raiseOnce_bist (src code key : Nat) (d : Nat → List Byte) (n : Nat) : (m.raiseOnce src code key d n).bist = m.bist := by
  unfold Mod.raiseOnce; extract_lets; split <;> rfl
@[simp] theorem Mod.raiseOnce_nv (src code key : Nat) (d : Nat → List Byte) (n : Nat) : (m.raiseOnce src code key d n).nv = m.nv := by
  unfold Mod.raiseOnce; extract_lets; split <;> rfl
@[simp] theorem Mod.raiseOnce_cams (src code key : Nat) (d : Nat → List Byte) (n : Nat) : (m.raiseOnce src code key d n).cams = m.cams := by
  unfold Mod.raiseOnce; extract_lets; split <;> rfl
@[simp] theorem Mod.raiseOnce_panels (src code key : Nat) (d : Nat → List Byte) (n : Nat) : (m.raiseOnce src code key d n).panels = m.panels := by
  unfold Mod.raiseOnce; extract_lets; split <;> rfl
@[simp] theorem Mod.raiseOnce_cell (src code key : Nat) (d : Nat → List Byte) (n : Nat) : (m.raiseOnce src code key d n).cell = m.cell := by
  unfold Mod.raiseOnce; extract_lets; split <;> rfl
@[simp] theorem Mod.raiseOnce_fus (src code key : Nat) (d : Nat → List Byte) (n : Nat) : (m.raiseOnce src code key d n).fus = m.fus := by
  unfold Mod.raiseOnce; extract_lets; split <;> rfl
@[simp] theorem Mod.raiseOnce_trk (src code key : Nat) (d : Nat → List Byte) (n : Nat) : (m.raiseOnce src code key d n).trk = m.trk := by
  unfold Mod.raiseOnce; extract_lets; split <;> rfl
@[simp] theorem Mod.raiseOnce_ej (src code key : Nat) (d : Nat → List Byte) (n : Nat) : (m.raiseOnce src code key d n).ej = m.ej := by
  unfold Mod.raiseOnce; extract_lets; split <;> rfl
@[simp] theorem Mod.raiseOnce_vlv (src code key : Nat) (d : Nat → List Byte) (n : Nat) : (m.raiseOnce src code key d n).vlv = m.vlv := by
  unfold Mod.raiseOnce; extract_lets; split <;> rfl
@[simp] theorem Mod.raiseOnce_toll (src code key : Nat) (d : Nat → List Byte) (n : Nat) : (m.raiseOnce src code key d n).toll = m.toll := by
  unfold Mod.raiseOnce; extract_lets; split <;> rfl
@[simp] theorem Mod.raiseOnce_lsw (src code key : Nat) (d : Nat → List Byte) (n : Nat) : (m.raiseOnce src code key d n).lsw = m.lsw := by
  unfold Mod.raiseOnce; extract_lets; split <;> rfl
@[simp] theorem Mod.raiseOnce_loop (src code key : Nat) (d : Nat → List Byte) (n : Nat) : (m.raiseOnce src code key d n).loop = m.loop := by
  unfold Mod.raiseOnce; extract_lets; split <;> rfl
@[simp] theorem Mod.raiseOnce_gnss (src code key : Nat) (d : Nat → List Byte) (n : Nat) : (m.raiseOnce src code key d n).gnss = m.gnss := by
  unfold Mod.raiseOnce; extract_lets; split <;> rfl
@[simp] theorem Mod.raiseOnce_can (src code key : Nat) (d : Nat → List Byte) (n : Nat) : (m.raiseOnce src code key d n).can = m.can := by
  unfold Mod.raiseOnce; extract_lets; split <;> rfl
@[simp] theorem Mod.raiseOnce_perf (src code key : Nat) (d : Nat → List Byte) (n : Nat) : (m.raiseOnce src code key d n).perf = m.perf := by
  unfold Mod.raiseOnce; extract_lets; split <;> rfl

/-! ### Mod.draw -/

@[simp] theorem Mod.draw_now : (m.draw.2).now = m.now := rfl
@[simp] theorem Mod.draw_regs : (m.draw.2).regs = m.regs := rfl
@[simp] theorem Mod.draw_sys : (m.draw.2).sys = m.sys := rfl
@[simp] theorem Mod.draw_evc : (m.draw.2).evc = m.evc := rfl
@[simp] theorem Mod.draw_log : (m.draw.2).log = m.log := rfl
@[simp] theorem Mod.draw_net : (m.draw.2).net = m.net := rfl
@[simp] theorem Mod.draw_time : (m.draw.2).time = m.time := rfl
@[simp] theorem Mod.draw_bist : (m.draw.2).bist = m.bist := rfl
@[simp] theorem Mod.draw_nv : (m.draw.2).nv = m.nv := rfl
@[simp] theorem Mod.draw_cams : (m.draw.2).cams = m.cams := rfl
@[simp] theorem Mod.draw_panels : (m.draw.2).panels = m.panels := rfl
@[simp] theorem Mod.draw_cell : (m.draw.2).cell = m.cell := rfl
@[simp] theorem Mod.draw_fus : (m.draw.2).fus = m.fus := rfl
@[simp] theorem Mod.draw_trk : (m.draw.2).trk = m.trk := rfl
@[simp] theorem Mod.draw_ej : (m.draw.2).ej = m.ej := rfl
@[simp] theorem Mod.draw_vlv : (m.draw.2).vlv = m.vlv := rfl
@[simp] theorem Mod.draw_toll : (m.draw.2).toll = m.toll := rfl
@[simp] theorem Mod.draw_lsw : (m.draw.2).lsw = m.lsw := rfl
@[simp] theorem Mod.draw_loop : (m.draw.2).loop = m.loop := rfl
@[simp] theorem Mod.draw_gnss : (m.draw.2).gnss = m.gnss := rfl
@[simp] theorem Mod.draw_can : (m.draw.2).can = m.can := rfl
@[simp] theorem Mod.draw_perf : (m.draw.2).perf = m.perf := rfl

/-! ### Mod.ask -/

@[simp] theorem Mod.ask_now (who : Asker) (c : Nat) (b : Budget) (k n : Nat) : (m.ask who c b k n).now = m.now := by
  unfold Mod.ask; split <;> rfl
@[simp] theorem Mod.ask_regs (who : Asker) (c : Nat) (b : Budget) (k n : Nat) : (m.ask who c b k n).regs = m.regs := by
  unfold Mod.ask; split <;> rfl
@[simp] theorem Mod.ask_free (who : Asker) (c : Nat) (b : Budget) (k n : Nat) : (m.ask who c b k n).free = m.free := by
  unfold Mod.ask; split <;> rfl
@[simp] theorem Mod.ask_marks (who : Asker) (c : Nat) (b : Budget) (k n : Nat) : (m.ask who c b k n).marks = m.marks := by
  unfold Mod.ask; split <;> rfl
@[simp] theorem Mod.ask_sys (who : Asker) (c : Nat) (b : Budget) (k n : Nat) : (m.ask who c b k n).sys = m.sys := by
  unfold Mod.ask; split <;> rfl
@[simp] theorem Mod.ask_evc (who : Asker) (c : Nat) (b : Budget) (k n : Nat) : (m.ask who c b k n).evc = m.evc := by
  unfold Mod.ask; split <;> rfl
@[simp] theorem Mod.ask_log (who : Asker) (c : Nat) (b : Budget) (k n : Nat) : (m.ask who c b k n).log = m.log := by
  unfold Mod.ask; split <;> rfl
@[simp] theorem Mod.ask_net (who : Asker) (c : Nat) (b : Budget) (k n : Nat) : (m.ask who c b k n).net = m.net := by
  unfold Mod.ask; split <;> rfl
@[simp] theorem Mod.ask_time (who : Asker) (c : Nat) (b : Budget) (k n : Nat) : (m.ask who c b k n).time = m.time := by
  unfold Mod.ask; split <;> rfl
@[simp] theorem Mod.ask_bist (who : Asker) (c : Nat) (b : Budget) (k n : Nat) : (m.ask who c b k n).bist = m.bist := by
  unfold Mod.ask; split <;> rfl
@[simp] theorem Mod.ask_nv (who : Asker) (c : Nat) (b : Budget) (k n : Nat) : (m.ask who c b k n).nv = m.nv := by
  unfold Mod.ask; split <;> rfl
@[simp] theorem Mod.ask_cams (who : Asker) (c : Nat) (b : Budget) (k n : Nat) : (m.ask who c b k n).cams = m.cams := by
  unfold Mod.ask; split <;> rfl
@[simp] theorem Mod.ask_panels (who : Asker) (c : Nat) (b : Budget) (k n : Nat) : (m.ask who c b k n).panels = m.panels := by
  unfold Mod.ask; split <;> rfl
@[simp] theorem Mod.ask_cell (who : Asker) (c : Nat) (b : Budget) (k n : Nat) : (m.ask who c b k n).cell = m.cell := by
  unfold Mod.ask; split <;> rfl
@[simp] theorem Mod.ask_fus (who : Asker) (c : Nat) (b : Budget) (k n : Nat) : (m.ask who c b k n).fus = m.fus := by
  unfold Mod.ask; split <;> rfl
@[simp] theorem Mod.ask_trk (who : Asker) (c : Nat) (b : Budget) (k n : Nat) : (m.ask who c b k n).trk = m.trk := by
  unfold Mod.ask; split <;> rfl
@[simp] theorem Mod.ask_ej (who : Asker) (c : Nat) (b : Budget) (k n : Nat) : (m.ask who c b k n).ej = m.ej := by
  unfold Mod.ask; split <;> rfl
@[simp] theorem Mod.ask_vlv (who : Asker) (c : Nat) (b : Budget) (k n : Nat) : (m.ask who c b k n).vlv = m.vlv := by
  unfold Mod.ask; split <;> rfl
@[simp] theorem Mod.ask_lsw (who : Asker) (c : Nat) (b : Budget) (k n : Nat) : (m.ask who c b k n).lsw = m.lsw := by
  unfold Mod.ask; split <;> rfl
@[simp] theorem Mod.ask_loop (who : Asker) (c : Nat) (b : Budget) (k n : Nat) : (m.ask who c b k n).loop = m.loop := by
  unfold Mod.ask; split <;> rfl
@[simp] theorem Mod.ask_gnss (who : Asker) (c : Nat) (b : Budget) (k n : Nat) : (m.ask who c b k n).gnss = m.gnss := by
  unfold Mod.ask; split <;> rfl
@[simp] theorem Mod.ask_can (who : Asker) (c : Nat) (b : Budget) (k n : Nat) : (m.ask who c b k n).can = m.can := by
  unfold Mod.ask; split <;> rfl
@[simp] theorem Mod.ask_perf (who : Asker) (c : Nat) (b : Budget) (k n : Nat) : (m.ask who c b k n).perf = m.perf := by
  unfold Mod.ask; split <;> rfl

/-! ### Mod.unask -/

@[simp] theorem Mod.unask_now (who : Asker) : (m.unask who).now = m.now := rfl
@[simp] theorem Mod.unask_regs (who : Asker) : (m.unask who).regs = m.regs := rfl
@[simp] theorem Mod.unask_free (who : Asker) : (m.unask who).free = m.free := rfl
@[simp] theorem Mod.unask_marks (who : Asker) : (m.unask who).marks = m.marks := rfl
@[simp] theorem Mod.unask_sys (who : Asker) : (m.unask who).sys = m.sys := rfl
@[simp] theorem Mod.unask_evc (who : Asker) : (m.unask who).evc = m.evc := rfl
@[simp] theorem Mod.unask_log (who : Asker) : (m.unask who).log = m.log := rfl
@[simp] theorem Mod.unask_net (who : Asker) : (m.unask who).net = m.net := rfl
@[simp] theorem Mod.unask_time (who : Asker) : (m.unask who).time = m.time := rfl
@[simp] theorem Mod.unask_bist (who : Asker) : (m.unask who).bist = m.bist := rfl
@[simp] theorem Mod.unask_nv (who : Asker) : (m.unask who).nv = m.nv := rfl
@[simp] theorem Mod.unask_cams (who : Asker) : (m.unask who).cams = m.cams := rfl
@[simp] theorem Mod.unask_panels (who : Asker) : (m.unask who).panels = m.panels := rfl
@[simp] theorem Mod.unask_cell (who : Asker) : (m.unask who).cell = m.cell := rfl
@[simp] theorem Mod.unask_fus (who : Asker) : (m.unask who).fus = m.fus := rfl
@[simp] theorem Mod.unask_trk (who : Asker) : (m.unask who).trk = m.trk := rfl
@[simp] theorem Mod.unask_ej (who : Asker) : (m.unask who).ej = m.ej := rfl
@[simp] theorem Mod.unask_vlv (who : Asker) : (m.unask who).vlv = m.vlv := rfl
@[simp] theorem Mod.unask_lsw (who : Asker) : (m.unask who).lsw = m.lsw := rfl
@[simp] theorem Mod.unask_loop (who : Asker) : (m.unask who).loop = m.loop := rfl
@[simp] theorem Mod.unask_gnss (who : Asker) : (m.unask who).gnss = m.gnss := rfl
@[simp] theorem Mod.unask_can (who : Asker) : (m.unask who).can = m.can := rfl
@[simp] theorem Mod.unask_perf (who : Asker) : (m.unask who).perf = m.perf := rfl

/-! ### Mod.endGrant -/

@[simp] theorem Mod.endGrant_now (who : Asker) : (m.endGrant who).now = m.now := rfl
@[simp] theorem Mod.endGrant_regs (who : Asker) : (m.endGrant who).regs = m.regs := rfl
@[simp] theorem Mod.endGrant_free (who : Asker) : (m.endGrant who).free = m.free := rfl
@[simp] theorem Mod.endGrant_marks (who : Asker) : (m.endGrant who).marks = m.marks := rfl
@[simp] theorem Mod.endGrant_sys (who : Asker) : (m.endGrant who).sys = m.sys := rfl
@[simp] theorem Mod.endGrant_evc (who : Asker) : (m.endGrant who).evc = m.evc := rfl
@[simp] theorem Mod.endGrant_log (who : Asker) : (m.endGrant who).log = m.log := rfl
@[simp] theorem Mod.endGrant_net (who : Asker) : (m.endGrant who).net = m.net := rfl
@[simp] theorem Mod.endGrant_time (who : Asker) : (m.endGrant who).time = m.time := rfl
@[simp] theorem Mod.endGrant_bist (who : Asker) : (m.endGrant who).bist = m.bist := rfl
@[simp] theorem Mod.endGrant_nv (who : Asker) : (m.endGrant who).nv = m.nv := rfl
@[simp] theorem Mod.endGrant_cams (who : Asker) : (m.endGrant who).cams = m.cams := rfl
@[simp] theorem Mod.endGrant_panels (who : Asker) : (m.endGrant who).panels = m.panels := rfl
@[simp] theorem Mod.endGrant_cell (who : Asker) : (m.endGrant who).cell = m.cell := rfl
@[simp] theorem Mod.endGrant_fus (who : Asker) : (m.endGrant who).fus = m.fus := rfl
@[simp] theorem Mod.endGrant_trk (who : Asker) : (m.endGrant who).trk = m.trk := rfl
@[simp] theorem Mod.endGrant_ej (who : Asker) : (m.endGrant who).ej = m.ej := rfl
@[simp] theorem Mod.endGrant_vlv (who : Asker) : (m.endGrant who).vlv = m.vlv := rfl
@[simp] theorem Mod.endGrant_lsw (who : Asker) : (m.endGrant who).lsw = m.lsw := rfl
@[simp] theorem Mod.endGrant_loop (who : Asker) : (m.endGrant who).loop = m.loop := rfl
@[simp] theorem Mod.endGrant_gnss (who : Asker) : (m.endGrant who).gnss = m.gnss := rfl
@[simp] theorem Mod.endGrant_can (who : Asker) : (m.endGrant who).can = m.can := rfl
@[simp] theorem Mod.endGrant_perf (who : Asker) : (m.endGrant who).perf = m.perf := rfl

/-! ### Mod.settle -/

@[simp] theorem Mod.settle_now : (m.settle).now = m.now := rfl
@[simp] theorem Mod.settle_free : (m.settle).free = m.free := rfl
@[simp] theorem Mod.settle_marks : (m.settle).marks = m.marks := rfl
@[simp] theorem Mod.settle_sys : (m.settle).sys = m.sys := rfl
@[simp] theorem Mod.settle_evc : (m.settle).evc = m.evc := rfl
@[simp] theorem Mod.settle_log : (m.settle).log = m.log := rfl
@[simp] theorem Mod.settle_net : (m.settle).net = m.net := rfl
@[simp] theorem Mod.settle_time : (m.settle).time = m.time := rfl
@[simp] theorem Mod.settle_bist : (m.settle).bist = m.bist := rfl
@[simp] theorem Mod.settle_nv : (m.settle).nv = m.nv := rfl
@[simp] theorem Mod.settle_cams : (m.settle).cams = m.cams := rfl
@[simp] theorem Mod.settle_panels : (m.settle).panels = m.panels := rfl
@[simp] theorem Mod.settle_cell : (m.settle).cell = m.cell := rfl
@[simp] theorem Mod.settle_fus : (m.settle).fus = m.fus := rfl
@[simp] theorem Mod.settle_trk : (m.settle).trk = m.trk := rfl
@[simp] theorem Mod.settle_ej : (m.settle).ej = m.ej := rfl
@[simp] theorem Mod.settle_vlv : (m.settle).vlv = m.vlv := rfl
@[simp] theorem Mod.settle_toll : (m.settle).toll = m.toll := rfl
@[simp] theorem Mod.settle_lsw : (m.settle).lsw = m.lsw := rfl
@[simp] theorem Mod.settle_loop : (m.settle).loop = m.loop := rfl
@[simp] theorem Mod.settle_gnss : (m.settle).gnss = m.gnss := rfl
@[simp] theorem Mod.settle_can : (m.settle).can = m.can := rfl
@[simp] theorem Mod.settle_perf : (m.settle).perf = m.perf := rfl

/-! ### What they write -/

@[simp] theorem Mod.setPhase_phase (p : Phase) : (m.setPhase p).bist.phase = p := rfl

theorem Mod.at_mono (t : Nat) : m.now ≤ (m.at t).now := Nat.le_max_left _ _

@[simp] theorem Mod.raise_raised (src code : Nat) (d : List Byte) :
    (m.raise src code d).evc.raised = m.evc.raised ++ [{ src := src, code := code, data := d, norec := false }] := rfl

end Sys2Proof.Machine
end

