-- ==== Sys2Proof/Laws/Flush.lean ====
section
/-!
SUPPORT. Laws/Flush.lean: everything the taking of a step's events can change: the event controller, the recorder
and its slots, the traces and their flag; and nothing at all where no event was raised.
-/
namespace Sys2Proof.Machine

/-- What the event controller and the recorder may change (R383 to R401, R288). -/
structure Evented (a b : Mod) : Prop where
  now : b.now = a.now
  free : b.free = a.free
  sys : b.sys = a.sys
  net : b.net = a.net
  time : b.time = a.time
  bist : b.bist = a.bist
  nv : b.nv = { a.nv with slots := b.nv.slots }
  cams : b.cams = a.cams
  panels : b.panels = a.panels
  cell : b.cell = a.cell
  fus : b.fus = a.fus
  trk : b.trk = a.trk
  ej : b.ej = a.ej
  vlv : b.vlv = a.vlv
  toll : b.toll = a.toll
  lsw : b.lsw = a.lsw
  loop : b.loop = { a.loop with traces := b.loop.traces }
  gnss : b.gnss = a.gnss
  can : b.can = a.can
  perf : b.perf = a.perf
  last : b.evc.last = a.evc.last
  log : b.log = { a.log with next := b.log.next, q := b.log.q, buckets := b.log.buckets, full := b.log.full, early := b.log.early,
                             warned := b.log.warned, flags := b.log.flags, suppressed := b.log.suppressed,
                             notRecorded := b.log.notRecorded, overflows := b.log.overflows }
  wf : Store.wf a.regs = true → Store.wf b.regs = true
  get : Store.wf a.regs = true → ∀ x, x ≠ P.loopFlags.addr → Store.get b.regs x = Store.get a.regs x

theorem Evented.refl (a : Mod) : Evented a a :=
  ⟨rfl, rfl, rfl, rfl, rfl, rfl, rfl, rfl, rfl, rfl, rfl, rfl, rfl, rfl, rfl, rfl, rfl, rfl, rfl, rfl, rfl, rfl, id, fun _ _ _ => rfl⟩

theorem Evented.trans {a b c : Mod} (h : Evented a b) (k : Evented b c) : Evented a c where
  now := k.now.trans h.now
  free := k.free.trans h.free
  sys := k.sys.trans h.sys
  net := k.net.trans h.net
  time := k.time.trans h.time
  bist := k.bist.trans h.bist
  nv := by rw [k.nv, h.nv]
  cams := k.cams.trans h.cams
  panels := k.panels.trans h.panels
  cell := k.cell.trans h.cell
  fus := k.fus.trans h.fus
  trk := k.trk.trans h.trk
  ej := k.ej.trans h.ej
  vlv := k.vlv.trans h.vlv
  toll := k.toll.trans h.toll
  lsw := k.lsw.trans h.lsw
  loop := by rw [k.loop, h.loop]
  gnss := k.gnss.trans h.gnss
  can := k.can.trans h.can
  perf := k.perf.trans h.perf
  last := k.last.trans h.last
  log := by rw [k.log, h.log]
  wf := fun w => k.wf (h.wf w)
  get := fun w x hx => (k.get (h.wf w) x hx).trans (h.get w x hx)

theorem Evented.foldl {α : Type} {f : Mod → α → Mod} (hf : ∀ m x, Evented m (f m x)) (l : List α) (m : Mod) :
    Evented m (l.foldl f m) := by
  induction l generalizing m with
  | nil => exact Evented.refl m
  | cons x r ih => exact (hf m x).trans (ih (f m x))

/-- An update of the event controller alone, its EVC_LAST words kept. -/
theorem Evented.ofEvc (m : Mod) (e : EvcSt) (h : e.last = m.evc.last) : Evented m { m with evc := e } :=
  ⟨rfl, rfl, rfl, rfl, rfl, rfl, rfl, rfl, rfl, rfl, rfl, rfl, rfl, rfl, rfl, rfl, rfl, rfl, rfl, rfl, h, rfl, id, fun _ _ _ => rfl⟩

theorem Evented.raise (m : Mod) (s c : Nat) (d : List Byte) : Evented m (m.raise s c d) := .ofEvc m _ rfl

theorem Evented.raiseOnce (m : Mod) (s c k : Nat) (d : Nat → List Byte) (n : Nat) : Evented m (m.raiseOnce s c k d n) := by
  unfold Mod.raiseOnce
  dsimp only
  split
  · exact .ofEvc m _ rfl
  · refine Evented.trans ?_ (.raise _ _ _ _)
    exact .ofEvc m _ rfl

theorem Evented.raiseLog (m : Mod) (c : Nat) (d : List Byte) : Evented m (m.raiseLog c d) := .ofEvc m _ rfl

/-- An update of the recorder's volatile account alone. -/
theorem Evented.ofLog (m : Mod) (l : LogSt)
    (h : l = { m.log with next := l.next, q := l.q, buckets := l.buckets, full := l.full, early := l.early, warned := l.warned,
                          flags := l.flags, suppressed := l.suppressed, notRecorded := l.notRecorded,
                          overflows := l.overflows }) : Evented m { m with log := l } :=
  ⟨rfl, rfl, rfl, rfl, rfl, rfl, rfl, rfl, rfl, rfl, rfl, rfl, rfl, rfl, rfl, rfl, rfl, rfl, rfl, rfl, rfl, h, id, fun _ _ _ => rfl⟩

theorem Evented.thenLog {a m : Mod} (k : Evented a m) (l : LogSt)
    (h : l = { m.log with next := l.next, q := l.q, buckets := l.buckets, full := l.full, early := l.early, warned := l.warned,
                          flags := l.flags, suppressed := l.suppressed, notRecorded := l.notRecorded,
                          overflows := l.overflows }) : Evented a { m with log := l } := k.trans (.ofLog m l h)

theorem Evented.thenEvc {a m : Mod} (k : Evented a m) (e : EvcSt) (h : e.last = m.evc.last) :
    Evented a { m with evc := e } := k.trans (.ofEvc m e h)

/-- The mark of a flag set at this instant (R11). -/
theorem Evented.mark (m : Mod) (a b : Nat) : Evented m (m.mark a b) :=
  ⟨rfl, rfl, rfl, rfl, rfl, rfl, rfl, rfl, rfl, rfl, rfl, rfl, rfl, rfl, rfl, rfl, rfl, rfl, rfl, rfl, rfl, rfl, id, fun _ _ _ => rfl⟩

theorem Evented.recStore (m : Mod) (r : Rec) : Evented m (m.recStore r) :=
  ⟨rfl, rfl, rfl, rfl, rfl, rfl, rfl, rfl, rfl, rfl, rfl, rfl, rfl, rfl, rfl, rfl, rfl, rfl, rfl, rfl, rfl, rfl, id, fun _ _ _ => rfl⟩

theorem Evented.recPut (m : Mod) (r : Rec) : Evented m (m.recPut r) := by
  unfold Mod.recPut
  split
  · exact .ofLog m _ rfl
  · split
    · refine Evented.trans (Evented.trans ?_ (.mark _ _ _)) (.raiseLog _ _ _)
      exact (Evented.recStore m _).thenLog _ rfl
    · exact .recStore m r

theorem Evented.recWarn (m : Mod) : Evented m m.recWarn := by
  unfold Mod.recWarn
  dsimp only
  split
  · exact .refl m
  · split
    · refine Evented.trans (Evented.trans ?_ (.recPut _ _)) (.raiseLog _ _ _)
      exact .ofLog m _ rfl
    · split
      · exact .ofLog m _ rfl
      · exact .refl m

theorem Evented.recWrite (m : Mod) (r : Rec) : Evented m (m.recWrite r) := by
  unfold Mod.recWrite
  split
  · exact (Evented.recPut m r).trans (.recWarn _)
  · exact .ofLog m _ rfl

theorem Evented.recInternal (m : Mod) (c : Nat) (d : List Byte) : Evented m (m.recInternal c d) :=
  (Evented.recWrite m _).trans (.raiseLog _ _ _)

theorem Evented.recEnqueue (m : Mod) (r : Rec) : Evented m (m.recEnqueue r).1 := by
  unfold Mod.recEnqueue
  split
  · exact .ofLog m _ rfl
  · have h1 : ∀ q : List Rec, Evented m (Mod.mark { m with log := { m.log with q := q, overflows := (m.log.overflows + 1) % 2 ^ 32, flags := m.log.flags ||| 4 } } P.logFlags.base 4) :=
      fun q => (Evented.ofLog m _ rfl).trans (.mark _ _ _)
    dsimp only
    split
    · exact (h1 _).thenEvc _ rfl
    · refine Evented.trans ?_ (.recInternal _ _ _)
      exact (h1 _).thenEvc _ rfl

theorem Evented.setBucket (m : Mod) (b : Bucket) : Evented m (m.setBucket b) := .ofLog m _ rfl

theorem Evented.recTake (m : Mod) (s c : Nat) (d : List Byte) : Evented m (m.recTake s c d).1 := by
  unfold Mod.recTake
  dsimp only
  split
  · exact .recEnqueue m _
  · split
    · refine Evented.trans ?_ (.mark _ _ _)
      exact (Evented.setBucket m _).thenLog _ rfl
    · exact (Evented.setBucket m _).trans (.recEnqueue _ _)

theorem Evented.queueEvent (m : Mod) (e : Ev) : Evented m (m.queueEvent e) := by
  unfold Mod.queueEvent
  split
  · exact .ofEvc m _ rfl
  · refine Evented.trans (Evented.trans ?_ (.mark _ _ _)) (.raiseOnce _ _ _ _ _ _)
    exact .ofEvc m _ rfl

/-- An update of the traces alone. -/
theorem Evented.ofTraces (m : Mod) (ts : List Trace) : Evented m { m with loop := { m.loop with traces := ts } } :=
  ⟨rfl, rfl, rfl, rfl, rfl, rfl, rfl, rfl, rfl, rfl, rfl, rfl, rfl, rfl, rfl, rfl, rfl, rfl, rfl, rfl, rfl, rfl, id, fun _ _ _ => rfl⟩

theorem Evented.flagLoop (m : Mod) (b : Nat) : Evented m (m.flag P.loopFlags b) where
  now := rfl
  free := rfl
  sys := rfl
  net := rfl
  time := rfl
  bist := rfl
  nv := rfl
  cams := rfl
  panels := rfl
  cell := rfl
  fus := rfl
  trk := rfl
  ej := rfl
  vlv := rfl
  toll := rfl
  lsw := rfl
  loop := rfl
  gnss := rfl
  can := rfl
  perf := rfl
  last := rfl
  log := rfl
  wf := fun h => Store.put_wf h _ _
  get := fun h _ hx => Store.get_put_ne h hx _

theorem Evented.traceDone (m : Mod) (n : Nat) : Evented m (m.traceDone n) := by
  unfold Mod.traceDone
  refine Evented.trans (Evented.trans ?_ (.flagLoop _ _)) (.raise _ _ _ _)
  exact .ofTraces m _

theorem Evented.traceTrigger (m : Mod) (n : Nat) : Evented m (m.traceTrigger n) := by
  unfold Mod.traceTrigger
  dsimp only
  split
  · split
    · refine Evented.trans (Evented.trans ?_ (.raise _ _ _ _)) (.traceDone _ _)
      exact .ofTraces m _
    · refine Evented.trans ?_ (.raise _ _ _ _)
      exact .ofTraces m _
  · exact .refl m

theorem Evented.traceEvent (m : Mod) (s : Nat) : Evented m (m.traceEvent s) := .foldl Evented.traceTrigger _ _

theorem Evented.takeEvent (m : Mod) (r : Raised) : Evented m (m.takeEvent r) := by
  have key : ∀ (m2 : Mod) (b : Bool) (e : Ev), Evented m m2 →
      Evented m (if b = true then (m2.traceEvent r.src).queueEvent e else m2.traceEvent r.src) := by
    intro m2 b e h
    have h3 := h.trans (Evented.traceEvent m2 r.src)
    split
    · exact h3.trans (.queueEvent _ _)
    · exact h3
  unfold Mod.takeEvent
  dsimp only
  refine key _ _ _ ?_
  split
  · refine Evented.trans ?_ (.recTake _ _ _ _)
    exact .ofEvc m _ rfl
  · exact .ofEvc m _ rfl

theorem Evented.flushOnce (m : Mod) : Evented m m.flushOnce :=
  (Evented.ofEvc m { m.evc with raised := [] } rfl).trans (.foldl Evented.takeEvent _ _)

theorem Evented.flushN (n : Nat) (m : Mod) : Evented m (m.flushN n) := by
  induction n generalizing m with
  | zero => exact .refl m
  | succ n ih =>
    unfold Mod.flushN
    split
    · exact .refl m
    · exact (Evented.flushOnce m).trans (ih _)

theorem Evented.renumber (m : Mod) : Evented m m.renumber := by
  unfold Mod.renumber
  dsimp only
  split
  · exact .refl m
  · exact .ofEvc m _ rfl

/-- Everything the taking of a step's events can do. -/
theorem Evented.flush (m : Mod) : Evented m m.flush := by
  unfold Mod.flush
  split
  · exact .refl m
  · exact (Evented.flushN 40 m).trans (.renumber _)

/-- Where no event was raised nothing is taken. -/
theorem Mod.flush_of_none {m : Mod} (h : m.evc.raised = []) : m.flush = m := by simp [Mod.flush, h]

/-- One round takes the one event that was raised. -/
theorem Mod.flushOnce_of_one {m : Mod} {r : Raised} (h : m.evc.raised = [r]) :
    m.flushOnce = ({ m with evc := { m.evc with raised := [] } }).takeEvent r := by
  simp [Mod.flushOnce, h, sortBy, insertBy]

/-- Events that stand alone in their tick keep their number. -/
theorem Mod.renumber_of_one {m : Mod} {x : Ticked} (h : m.evc.tick = [x]) : m.renumber = m := by
  simp [Mod.renumber, h, sortBy, insertBy]

end Sys2Proof.Machine
end

