-- ==== Sys2Proof/Laws/Run.lean ====
section
/-!
SUPPORT. Laws/Run.lean: a command's meaning runs at its instant, its events are taken, its store is left canonical: what of the
meaning's own result the next state keeps.
-/
namespace Sys2Proof.Machine

/-! ### The store -/

theorem Mod.run_wf (t : Nat) (f : Mod → Mod) (m : Mod) : Store.wf (Mod.run t f m).regs = true := Store.canon_wf _

theorem Mod.setWord_wf {m : Mod} (h : Store.wf m.regs = true) (a : Nat) (v : Word) : Store.wf (m.setWord a v).regs = true :=
  Store.put_wf h a v

theorem Mod.wr_wf {m : Mod} (h : Store.wf m.regs = true) (p : Param) (v i j : Nat) : Store.wf (m.wr p v i j).regs = true :=
  Store.put_wf h _ _

theorem Mod.word_setWord {m : Mod} (h : Store.wf m.regs = true) (a c : Nat) (v : Word) :
    (m.setWord a v).word c = if c = a then v else m.word c := Store.get_put h a c v

theorem Mod.rd_wr {m : Mod} (h : Store.wf m.regs = true) (p : Param) (v i j : Nat) :
    (m.wr p v i j).rd p i j = v % 2 ^ p.w % 2 ^ 32 := by
  simp [Mod.rd, Mod.wr, Mod.word_setWord h, w32]

theorem Mod.rd_wr_ne {m : Mod} (h : Store.wf m.regs = true) {p q : Param} {v i j k l : Nat} (hne : q.addr k l ≠ p.addr i j) :
    (m.wr p v i j).rd q k l = m.rd q k l := by
  simp [Mod.rd, Mod.wr, Mod.word_setWord h, hne]

theorem Mod.inc_wf {m : Mod} (h : Store.wf m.regs = true) (p : Param) (i n j : Nat) : Store.wf (m.inc p i n j).regs = true :=
  Store.put_wf h _ _

theorem Mod.flag_wf {m : Mod} (h : Store.wf m.regs = true) (p : Param) (b i : Nat) : Store.wf (m.flag p b i).regs = true :=
  Store.put_wf h _ _

theorem Mod.peak_wf {m : Mod} (h : Store.wf m.regs = true) (p : Param) (v i : Nat) : Store.wf (m.peak p v i).regs = true :=
  Store.put_wf h _ _

/-- A count after it was raised. -/
theorem Mod.rd_inc {m : Mod} (h : Store.wf m.regs = true) (p : Param) (i n j : Nat) :
    (m.inc p i n j).rd p i j = (m.rd p i j + n) % 2 ^ p.w % 2 ^ 32 := Mod.rd_wr h p _ i j

theorem Mod.rd_inc_ne {m : Mod} (h : Store.wf m.regs = true) {p q : Param} {i n j k l : Nat} (hne : q.addr k l ≠ p.addr i j) :
    (m.inc p i n j).rd q k l = m.rd q k l := Mod.rd_wr_ne h hne

/-- Bits after some were set. -/
theorem Mod.rd_flag {m : Mod} (h : Store.wf m.regs = true) (p : Param) (b i : Nat) :
    (m.flag p b i).rd p i = (m.rd p i ||| b) % 2 ^ p.w % 2 ^ 32 := Mod.rd_wr h p _ i 0

theorem Mod.rd_flag_ne {m : Mod} (h : Store.wf m.regs = true) {p q : Param} {b i k l : Nat} (hne : q.addr k l ≠ p.addr i) :
    (m.flag p b i).rd q k l = m.rd q k l := Mod.rd_wr_ne h hne

/-- A peak after it was raised. -/
theorem Mod.rd_peak {m : Mod} (h : Store.wf m.regs = true) (p : Param) (v i : Nat) :
    (m.peak p v i).rd p i = Nat.max (m.rd p i) (Nat.min v (2 ^ p.w - 1)) % 2 ^ p.w % 2 ^ 32 := Mod.rd_wr h p _ i 0

@[simp] theorem Mod.rd_at (m : Mod) (t : Nat) (p : Param) (i j : Nat) : (m.at t).rd p i j = m.rd p i j := rfl
@[simp] theorem Mod.rd_raise (m : Mod) (a b : Nat) (d : List Byte) (p : Param) (i j : Nat) : (m.raise a b d).rd p i j = m.rd p i j := rfl

/-! ### The parts -/

variable (t : Nat) (f : Mod → Mod) (m : Mod)

theorem Mod.run_eq : Mod.run t f m = (f (m.at t)).flush.settle := rfl

@[simp] theorem Mod.run_now : (Mod.run t f m).now = (f (m.at t)).now := (Evented.flush _).now
@[simp] theorem Mod.run_free : (Mod.run t f m).free = (f (m.at t)).free := (Evented.flush _).free
@[simp] theorem Mod.run_sys : (Mod.run t f m).sys = (f (m.at t)).sys := (Evented.flush _).sys
@[simp] theorem Mod.run_net : (Mod.run t f m).net = (f (m.at t)).net := (Evented.flush _).net
@[simp] theorem Mod.run_time : (Mod.run t f m).time = (f (m.at t)).time := (Evented.flush _).time
@[simp] theorem Mod.run_bist : (Mod.run t f m).bist = (f (m.at t)).bist := (Evented.flush _).bist
@[simp] theorem Mod.run_cams : (Mod.run t f m).cams = (f (m.at t)).cams := (Evented.flush _).cams
@[simp] theorem Mod.run_panels : (Mod.run t f m).panels = (f (m.at t)).panels := (Evented.flush _).panels
@[simp] theorem Mod.run_cell : (Mod.run t f m).cell = (f (m.at t)).cell := (Evented.flush _).cell
@[simp] theorem Mod.run_fus : (Mod.run t f m).fus = (f (m.at t)).fus := (Evented.flush _).fus
@[simp] theorem Mod.run_trk : (Mod.run t f m).trk = (f (m.at t)).trk := (Evented.flush _).trk
@[simp] theorem Mod.run_ej : (Mod.run t f m).ej = (f (m.at t)).ej := (Evented.flush _).ej
@[simp] theorem Mod.run_vlv : (Mod.run t f m).vlv = (f (m.at t)).vlv := (Evented.flush _).vlv
@[simp] theorem Mod.run_toll : (Mod.run t f m).toll = (f (m.at t)).toll := (Evented.flush _).toll
@[simp] theorem Mod.run_lsw : (Mod.run t f m).lsw = (f (m.at t)).lsw := (Evented.flush _).lsw
@[simp] theorem Mod.run_gnss : (Mod.run t f m).gnss = (f (m.at t)).gnss := (Evented.flush _).gnss
@[simp] theorem Mod.run_can : (Mod.run t f m).can = (f (m.at t)).can := (Evented.flush _).can
@[simp] theorem Mod.run_perf : (Mod.run t f m).perf = (f (m.at t)).perf := (Evented.flush _).perf
@[simp] theorem Mod.run_last : (Mod.run t f m).evc.last = (f (m.at t)).evc.last := (Evented.flush _).last

theorem Mod.run_nv : (Mod.run t f m).nv = { (f (m.at t)).nv with slots := (Mod.run t f m).nv.slots } := (Evented.flush _).nv

theorem Mod.run_loop : (Mod.run t f m).loop = { (f (m.at t)).loop with traces := (Mod.run t f m).loop.traces } :=
  (Evented.flush _).loop

theorem Mod.run_log : (Mod.run t f m).log = { (f (m.at t)).log with next := (Mod.run t f m).log.next, q := (Mod.run t f m).log.q, buckets := (Mod.run t f m).log.buckets, full := (Mod.run t f m).log.full, early := (Mod.run t f m).log.early, warned := (Mod.run t f m).log.warned, flags := (Mod.run t f m).log.flags, suppressed := (Mod.run t f m).log.suppressed, notRecorded := (Mod.run t f m).log.notRecorded, overflows := (Mod.run t f m).log.overflows } :=
  (Evented.flush _).log

@[simp] theorem Mod.run_nv_ms : (Mod.run t f m).nv.ms = (f (m.at t)).nv.ms := by rw [Mod.run_nv]
@[simp] theorem Mod.run_nv_calu : (Mod.run t f m).nv.calu = (f (m.at t)).nv.calu := by rw [Mod.run_nv]
@[simp] theorem Mod.run_nv_rbId : (Mod.run t f m).nv.rbId = (f (m.at t)).nv.rbId := by rw [Mod.run_nv]
@[simp] theorem Mod.run_nv_cycles : (Mod.run t f m).nv.cycles = (f (m.at t)).nv.cycles := by rw [Mod.run_nv]
@[simp] theorem Mod.run_nv_dome : (Mod.run t f m).nv.dome = (f (m.at t)).nv.dome := by rw [Mod.run_nv]
@[simp] theorem Mod.run_nv_regions : (Mod.run t f m).nv.regions = (f (m.at t)).nv.regions := by rw [Mod.run_nv]
@[simp] theorem Mod.run_nv_calf : (Mod.run t f m).nv.calf = (f (m.at t)).nv.calf := by rw [Mod.run_nv]
@[simp] theorem Mod.run_nv_net : (Mod.run t f m).nv.net = (f (m.at t)).nv.net := by rw [Mod.run_nv]
@[simp] theorem Mod.run_nv_gnssAlm : (Mod.run t f m).nv.gnssAlm = (f (m.at t)).nv.gnssAlm := by rw [Mod.run_nv]
@[simp] theorem Mod.run_nv_gnssEph : (Mod.run t f m).nv.gnssEph = (f (m.at t)).nv.gnssEph := by rw [Mod.run_nv]
@[simp] theorem Mod.run_nv_gnssPos : (Mod.run t f m).nv.gnssPos = (f (m.at t)).nv.gnssPos := by rw [Mod.run_nv]
@[simp] theorem Mod.run_nv_gnssDrift : (Mod.run t f m).nv.gnssDrift = (f (m.at t)).nv.gnssDrift := by rw [Mod.run_nv]
@[simp] theorem Mod.run_nv_gnssLeap : (Mod.run t f m).nv.gnssLeap = (f (m.at t)).nv.gnssLeap := by rw [Mod.run_nv]
@[simp] theorem Mod.run_nv_deepRes : (Mod.run t f m).nv.deepRes = (f (m.at t)).nv.deepRes := by rw [Mod.run_nv]
@[simp] theorem Mod.run_nv_cause : (Mod.run t f m).nv.cause = (f (m.at t)).nv.cause := by rw [Mod.run_nv]
@[simp] theorem Mod.run_nv_tripped : (Mod.run t f m).nv.tripped = (f (m.at t)).nv.tripped := by rw [Mod.run_nv]
@[simp] theorem Mod.run_nv_serial : (Mod.run t f m).nv.serial = (f (m.at t)).nv.serial := by rw [Mod.run_nv]
@[simp] theorem Mod.run_nv_mac : (Mod.run t f m).nv.mac = (f (m.at t)).nv.mac := by rw [Mod.run_nv]
@[simp] theorem Mod.run_nv_draws : (Mod.run t f m).nv.draws = (f (m.at t)).nv.draws := by rw [Mod.run_nv]
@[simp] theorem Mod.run_loop_ctx : (Mod.run t f m).loop.ctx = (f (m.at t)).loop.ctx := by rw [Mod.run_loop]
@[simp] theorem Mod.run_loop_tick : (Mod.run t f m).loop.tick = (f (m.at t)).loop.tick := by rw [Mod.run_loop]
@[simp] theorem Mod.run_loop_ain : (Mod.run t f m).loop.ain = (f (m.at t)).loop.ain := by rw [Mod.run_loop]
@[simp] theorem Mod.run_loop_enc : (Mod.run t f m).loop.enc = (f (m.at t)).loop.enc := by rw [Mod.run_loop]
@[simp] theorem Mod.run_loop_frq : (Mod.run t f m).loop.frq = (f (m.at t)).loop.frq := by rw [Mod.run_loop]
@[simp] theorem Mod.run_log_oldest : (Mod.run t f m).log.oldest = (f (m.at t)).log.oldest := by rw [Mod.run_log]
@[simp] theorem Mod.run_log_clears : (Mod.run t f m).log.clears = (f (m.at t)).log.clears := by rw [Mod.run_log]
@[simp] theorem Mod.run_log_opSec : (Mod.run t f m).log.opSec = (f (m.at t)).log.opSec := by rw [Mod.run_log]
@[simp] theorem Mod.run_log_cycles : (Mod.run t f m).log.cycles = (f (m.at t)).log.cycles := by rw [Mod.run_log]
@[simp] theorem Mod.run_log_winFirst : (Mod.run t f m).log.winFirst = (f (m.at t)).log.winFirst := by rw [Mod.run_log]
@[simp] theorem Mod.run_log_window : (Mod.run t f m).log.window = (f (m.at t)).log.window := by rw [Mod.run_log]
@[simp] theorem Mod.run_log_winClears : (Mod.run t f m).log.winClears = (f (m.at t)).log.winClears := by rw [Mod.run_log]
@[simp] theorem Mod.run_log_toks : (Mod.run t f m).log.toks = (f (m.at t)).log.toks := by rw [Mod.run_log]
@[simp] theorem Mod.run_log_ivals : (Mod.run t f m).log.ivals = (f (m.at t)).log.ivals := by rw [Mod.run_log]
@[simp] theorem Mod.run_log_secs : (Mod.run t f m).log.secs = (f (m.at t)).log.secs := by rw [Mod.run_log]

/-- A word after a command: what its meaning left, but for LOOP_FLAGS. -/
theorem Mod.run_get (h : Store.wf (f (m.at t)).regs = true) {x : Nat} (hx : x ≠ P.loopFlags.addr) :
    Store.get (Mod.run t f m).regs x = Store.get (f (m.at t)).regs x := by
  rw [Mod.run_eq]
  exact (Store.get_canon _ _).trans ((Evented.flush _).get h x hx)

theorem Mod.run_rd (h : Store.wf (f (m.at t)).regs = true) {p : Param} {i j : Nat} (hx : p.addr i j ≠ P.loopFlags.addr) :
    (Mod.run t f m).rd p i j = (f (m.at t)).rd p i j := by
  simp only [Mod.rd, Mod.word, Mod.run_get t f m h hx]

/-- A command that raises no event leaves its meaning's result. -/
theorem Mod.run_quiet (h : (f (m.at t)).evc.raised = []) : Mod.run t f m = (f (m.at t)).settle := by
  unfold Mod.run
  rw [Mod.flush_of_none h]

theorem Mod.run_calm (h : (f (m.at t)).evc.raised = []) (w : Store.wf (f (m.at t)).regs = true) : Mod.run t f m = f (m.at t) := by
  rw [Mod.run_quiet t f m h]
  unfold Mod.settle
  rw [Store.canon_of_wf w]

/-- A command answers with its meaning's result. -/
theorem State.yields_run {s : State} {c : Instr} {t : Nat} {f : Mod → Mod} {Q : Mod → Prop} (h : exec c s = s.run t f)
    (q : Q (Mod.run t f s.m)) : s.Yields c Q := ⟨_, h, q⟩

end Sys2Proof.Machine
end

