-- ==== Sys2Proof/Laws/Frame.lean ====
section
/-!
SUPPORT. Laws/Frame.lean: how frames compose, and the frame of each shared update.
-/
namespace Sys2Proof.Machine

/-- A frame that also keeps the store canonical, so that frames compose. -/
structure Mod.Within (areas : List Area) (words : List Nat) (a b : Mod) : Prop where
  now : b.now = a.now
  areas : ∀ p, p ∉ areas → p.same a b
  wf : Store.wf a.regs = true → Store.wf b.regs = true
  words : Store.wf a.regs = true → ∀ x, x ∉ words → x ≠ P.loopFlags.addr → Store.get b.regs x = Store.get a.regs x

variable {as : List Area} {ws : List Nat}

theorem Area.same_refl (p : Area) (a : Mod) : p.same a a := by cases p <;> simp [Area.same]

theorem Area.same_trans {p : Area} {a b c : Mod} (h : p.same a b) (k : p.same b c) : p.same a c := by
  cases p <;> simp only [Area.same] at *
  case log =>
    obtain ⟨h0, h1, h2, h3, h4, h5, h6, h7, h8, h9, h10, h11⟩ := h
    obtain ⟨k0, k1, k2, k3, k4, k5, k6, k7, k8, k9, k10, k11⟩ := k
    exact ⟨k0.trans h0, k1.trans h1, k2.trans h2, k3.trans h3, k4.trans h4, k5.trans h5, k6.trans h6, k7.trans h7,
      k8.trans h8, k9.trans h9, k10.trans h10, k11.trans h11⟩
  case nv => rw [k, h]
  case loop => rw [k, h]
  all_goals exact k.trans h

theorem Mod.Within.refl (a : Mod) : Mod.Within as ws a a := ⟨rfl, fun p _ => p.same_refl a, id, fun _ _ _ _ => rfl⟩

theorem Mod.Within.trans {a b c : Mod} (h : Mod.Within as ws a b) (k : Mod.Within as ws b c) : Mod.Within as ws a c :=
  ⟨k.now.trans h.now, fun p hp => Area.same_trans (h.areas p hp) (k.areas p hp), fun w => k.wf (h.wf w),
   fun w x hx hl => (k.words (h.wf w) x hx hl).trans (h.words w x hx hl)⟩

theorem Mod.Within.foldl {α : Type} {f : Mod → α → Mod} (hf : ∀ m x, Mod.Within as ws m (f m x)) (l : List α) (m : Mod) :
    Mod.Within as ws m (l.foldl f m) := by
  induction l generalizing m with
  | nil => exact .refl m
  | cons x r ih => exact (hf m x).trans (ih (f m x))

theorem Mod.Within.mono {as' : List Area} {ws' : List Nat} {a b : Mod} (h : Mod.Within as ws a b) (ha : as ⊆ as')
    (hw : ws ⊆ ws') : Mod.Within as' ws' a b :=
  ⟨h.now, fun p hp => h.areas p (fun q => hp (ha q)), h.wf, fun w x hx hl => h.words w x (fun q => hx (hw q)) hl⟩

theorem Mod.Within.of_evented {a b : Mod} (h : Evented a b) : Mod.Within as ws a b where
  now := h.now
  areas p _ := by
    cases p <;> simp only [Area.same]
    case free => exact h.free
    case sys => exact h.sys
    case evc => exact h.last
    case log => rw [h.log]; exact ⟨rfl, rfl, rfl, rfl, rfl, rfl, rfl, rfl, rfl, rfl, rfl, rfl⟩
    case net => exact h.net
    case time => exact h.time
    case bist => exact h.bist
    case nv => exact h.nv
    case cams => exact h.cams
    case panels => exact h.panels
    case cell => exact h.cell
    case fus => exact h.fus
    case trk => exact h.trk
    case ej => exact h.ej
    case vlv => exact h.vlv
    case toll => exact h.toll
    case lsw => exact h.lsw
    case loop => exact h.loop
    case gnss => exact h.gnss
    case can => exact h.can
    case perf => exact h.perf
  wf := h.wf
  words w x _ hl := h.get w x hl

theorem Mod.Within.raise (m : Mod) (s c : Nat) (d : List Byte) : Mod.Within as ws m (m.raise s c d) :=
  .of_evented (.raise m s c d)

theorem Mod.Within.raiseOnce (m : Mod) (s c k : Nat) (d : Nat → List Byte) (n : Nat) :
    Mod.Within as ws m (m.raiseOnce s c k d n) := .of_evented (.raiseOnce m s c k d n)

theorem Mod.Within.setWord (m : Mod) (a : Nat) (v : Word) (h : a ∈ ws) : Mod.Within as ws m (m.setWord a v) where
  now := by simp
  areas p _ := by cases p <;> simp [Area.same]
  wf w := Store.put_wf w a v
  words w x hx _ := Store.get_put_ne w (fun e : x = a => hx (by rw [e]; exact h)) v

theorem Mod.Within.wr (m : Mod) (p : Param) (v i j : Nat) (h : p.addr i j ∈ ws) : Mod.Within as ws m (m.wr p v i j) :=
  .setWord m _ _ h

theorem Mod.Within.wrI (m : Mod) (p : Param) (v : Int) (i j : Nat) (h : p.addr i j ∈ ws) : Mod.Within as ws m (m.wrI p v i j) :=
  .setWord m _ _ h

theorem Mod.Within.inc (m : Mod) (p : Param) (i n j : Nat) (h : p.addr i j ∈ ws) : Mod.Within as ws m (m.inc p i n j) :=
  .setWord m _ _ h

theorem Mod.Within.mark (m : Mod) (a b : Nat) : Mod.Within as ws m (m.mark a b) := .of_evented (.mark m a b)

theorem Mod.Within.flag (m : Mod) (p : Param) (b i : Nat) (h : p.addr i ∈ ws) : Mod.Within as ws m (m.flag p b i) :=
  (Mod.Within.setWord m _ _ h).trans (.mark _ _ _)

theorem Mod.Within.peak (m : Mod) (p : Param) (v i : Nat) (h : p.addr i ∈ ws) : Mod.Within as ws m (m.peak p v i) :=
  .setWord m _ _ h

/-- A change that keeps the store and every area but those listed. -/
theorem Mod.Within.of_regs {a b : Mod} (hr : b.regs = a.regs) (hn : b.now = a.now) (h : ∀ p, p ∉ as → p.same a b) : Mod.Within as ws a b :=
  ⟨hn, h, fun w => by rw [hr]; exact w, fun _ _ _ _ => by rw [hr]⟩

theorem Mod.Within.ask (m : Mod) (w : Asker) (c : Nat) (b : Budget) (k n : Nat) (h : Area.toll ∈ as) :
    Mod.Within as ws m (m.ask w c b k n) :=
  .of_regs (by simp) (by simp) (fun p hp => by cases p <;> first | exact absurd h hp | simp [Area.same])

theorem Mod.Within.unask (m : Mod) (w : Asker) (h : Area.toll ∈ as) : Mod.Within as ws m (m.unask w) :=
  .of_regs (by simp) (by simp) (fun p hp => by cases p <;> first | exact absurd h hp | simp [Area.same])

theorem Mod.Within.endGrant (m : Mod) (w : Asker) (h : Area.toll ∈ as) : Mod.Within as ws m (m.endGrant w) :=
  .of_regs (by simp) (by simp) (fun p hp => by cases p <;> first | exact absurd h hp | simp [Area.same])

theorem Mod.Within.draw (m : Mod) (h : Area.free ∈ as) : Mod.Within as ws m m.draw.2 :=
  .of_regs (by simp) (by simp) (fun p hp => by cases p <;> first | exact absurd h hp | simp [Area.same])

/-! ### A change of one area -/

theorem Mod.Within.ofFree (m : Mod) (x : Nat) (h : Area.free ∈ as) : Mod.Within as ws m { m with free := x } :=
  .of_regs rfl rfl (fun p hp => by
    cases p <;> first | exact absurd h hp | exact rfl | exact ⟨rfl, rfl, rfl, rfl, rfl, rfl, rfl, rfl, rfl, rfl, rfl, rfl⟩)

theorem Mod.Within.ofSys (m : Mod) (x : SysSt) (h : Area.sys ∈ as) : Mod.Within as ws m { m with sys := x } :=
  .of_regs rfl rfl (fun p hp => by
    cases p <;> first | exact absurd h hp | exact rfl | exact ⟨rfl, rfl, rfl, rfl, rfl, rfl, rfl, rfl, rfl, rfl, rfl, rfl⟩)

theorem Mod.Within.ofNet (m : Mod) (x : NetSt) (h : Area.net ∈ as) : Mod.Within as ws m { m with net := x } :=
  .of_regs rfl rfl (fun p hp => by
    cases p <;> first | exact absurd h hp | exact rfl | exact ⟨rfl, rfl, rfl, rfl, rfl, rfl, rfl, rfl, rfl, rfl, rfl, rfl⟩)

theorem Mod.Within.ofTime (m : Mod) (x : TimeSt) (h : Area.time ∈ as) : Mod.Within as ws m { m with time := x } :=
  .of_regs rfl rfl (fun p hp => by
    cases p <;> first | exact absurd h hp | exact rfl | exact ⟨rfl, rfl, rfl, rfl, rfl, rfl, rfl, rfl, rfl, rfl, rfl, rfl⟩)

theorem Mod.Within.ofBist (m : Mod) (x : BistSt) (h : Area.bist ∈ as) : Mod.Within as ws m { m with bist := x } :=
  .of_regs rfl rfl (fun p hp => by
    cases p <;> first | exact absurd h hp | exact rfl | exact ⟨rfl, rfl, rfl, rfl, rfl, rfl, rfl, rfl, rfl, rfl, rfl, rfl⟩)

theorem Mod.Within.ofNv (m : Mod) (x : Nv) (h : Area.nv ∈ as) : Mod.Within as ws m { m with nv := x } :=
  .of_regs rfl rfl (fun p hp => by
    cases p <;> first | exact absurd h hp | exact rfl | exact ⟨rfl, rfl, rfl, rfl, rfl, rfl, rfl, rfl, rfl, rfl, rfl, rfl⟩)

theorem Mod.Within.ofCams (m : Mod) (x : List CamPort) (h : Area.cams ∈ as) : Mod.Within as ws m { m with cams := x } :=
  .of_regs rfl rfl (fun p hp => by
    cases p <;> first | exact absurd h hp | exact rfl | exact ⟨rfl, rfl, rfl, rfl, rfl, rfl, rfl, rfl, rfl, rfl, rfl, rfl⟩)

theorem Mod.Within.ofPanels (m : Mod) (x : List Panel) (h : Area.panels ∈ as) : Mod.Within as ws m { m with panels := x } :=
  .of_regs rfl rfl (fun p hp => by
    cases p <;> first | exact absurd h hp | exact rfl | exact ⟨rfl, rfl, rfl, rfl, rfl, rfl, rfl, rfl, rfl, rfl, rfl, rfl⟩)

theorem Mod.Within.ofCell (m : Mod) (x : CellSt) (h : Area.cell ∈ as) : Mod.Within as ws m { m with cell := x } :=
  .of_regs rfl rfl (fun p hp => by
    cases p <;> first | exact absurd h hp | exact rfl | exact ⟨rfl, rfl, rfl, rfl, rfl, rfl, rfl, rfl, rfl, rfl, rfl, rfl⟩)

theorem Mod.Within.ofFus (m : Mod) (x : FusSt) (h : Area.fus ∈ as) : Mod.Within as ws m { m with fus := x } :=
  .of_regs rfl rfl (fun p hp => by
    cases p <;> first | exact absurd h hp | exact rfl | exact ⟨rfl, rfl, rfl, rfl, rfl, rfl, rfl, rfl, rfl, rfl, rfl, rfl⟩)

theorem Mod.Within.ofTrk (m : Mod) (x : TrkSt) (h : Area.trk ∈ as) : Mod.Within as ws m { m with trk := x } :=
  .of_regs rfl rfl (fun p hp => by
    cases p <;> first | exact absurd h hp | exact rfl | exact ⟨rfl, rfl, rfl, rfl, rfl, rfl, rfl, rfl, rfl, rfl, rfl, rfl⟩)

theorem Mod.Within.ofEj (m : Mod) (x : EjSt) (h : Area.ej ∈ as) : Mod.Within as ws m { m with ej := x } :=
  .of_regs rfl rfl (fun p hp => by
    cases p <;> first | exact absurd h hp | exact rfl | exact ⟨rfl, rfl, rfl, rfl, rfl, rfl, rfl, rfl, rfl, rfl, rfl, rfl⟩)

theorem Mod.Within.ofVlv (m : Mod) (x : VlvSt) (h : Area.vlv ∈ as) : Mod.Within as ws m { m with vlv := x } :=
  .of_regs rfl rfl (fun p hp => by
    cases p <;> first | exact absurd h hp | exact rfl | exact ⟨rfl, rfl, rfl, rfl, rfl, rfl, rfl, rfl, rfl, rfl, rfl, rfl⟩)

theorem Mod.Within.ofToll (m : Mod) (x : TollSt) (h : Area.toll ∈ as) : Mod.Within as ws m { m with toll := x } :=
  .of_regs rfl rfl (fun p hp => by
    cases p <;> first | exact absurd h hp | exact rfl | exact ⟨rfl, rfl, rfl, rfl, rfl, rfl, rfl, rfl, rfl, rfl, rfl, rfl⟩)

theorem Mod.Within.ofLsw (m : Mod) (x : LswSt) (h : Area.lsw ∈ as) : Mod.Within as ws m { m with lsw := x } :=
  .of_regs rfl rfl (fun p hp => by
    cases p <;> first | exact absurd h hp | exact rfl | exact ⟨rfl, rfl, rfl, rfl, rfl, rfl, rfl, rfl, rfl, rfl, rfl, rfl⟩)

theorem Mod.Within.ofLoop (m : Mod) (x : LoopSt) (h : Area.loop ∈ as) : Mod.Within as ws m { m with loop := x } :=
  .of_regs rfl rfl (fun p hp => by
    cases p <;> first | exact absurd h hp | exact rfl | exact ⟨rfl, rfl, rfl, rfl, rfl, rfl, rfl, rfl, rfl, rfl, rfl, rfl⟩)

theorem Mod.Within.ofGnss (m : Mod) (x : GnssSt) (h : Area.gnss ∈ as) : Mod.Within as ws m { m with gnss := x } :=
  .of_regs rfl rfl (fun p hp => by
    cases p <;> first | exact absurd h hp | exact rfl | exact ⟨rfl, rfl, rfl, rfl, rfl, rfl, rfl, rfl, rfl, rfl, rfl, rfl⟩)

theorem Mod.Within.ofCan (m : Mod) (x : CanSt) (h : Area.can ∈ as) : Mod.Within as ws m { m with can := x } :=
  .of_regs rfl rfl (fun p hp => by
    cases p <;> first | exact absurd h hp | exact rfl | exact ⟨rfl, rfl, rfl, rfl, rfl, rfl, rfl, rfl, rfl, rfl, rfl, rfl⟩)

theorem Mod.Within.ofPerf (m : Mod) (x : PerfSt) (h : Area.perf ∈ as) : Mod.Within as ws m { m with perf := x } :=
  .of_regs rfl rfl (fun p hp => by
    cases p <;> first | exact absurd h hp | exact rfl | exact ⟨rfl, rfl, rfl, rfl, rfl, rfl, rfl, rfl, rfl, rfl, rfl, rfl⟩)

theorem Mod.Within.ofLog (m : Mod) (x : LogSt) (h : Area.log ∈ as) : Mod.Within as ws m { m with log := x } :=
  .of_regs rfl rfl (fun p hp => by
    cases p <;> first | exact absurd h hp | exact rfl)

theorem Mod.Within.ofEvc (m : Mod) (x : EvcSt) (h : Area.evc ∈ as) : Mod.Within as ws m { m with evc := x } :=
  .of_regs rfl rfl (fun p hp => by
    cases p <;> first | exact absurd h hp | exact rfl | exact ⟨rfl, rfl, rfl, rfl, rfl, rfl, rfl, rfl, rfl, rfl, rfl, rfl⟩)

/-- The frame of a command from that of its meaning. -/
theorem Mod.Within.frame {f : Mod → Mod} {m : Mod} {t : Nat} (h : Mod.Within as ws (m.at t) (f (m.at t))) :
    Mod.Frame t as ws m (Mod.run t f m) := by
  have k : Mod.Within as ws (m.at t) (f (m.at t)).flush := h.trans (.of_evented (.flush _))
  exact ⟨k.now, fun p hp => by have := k.areas p hp; cases p <;> exact this,
    fun w x hx hl => (Store.get_canon _ _).trans (k.words w x hx hl)⟩

/-- A command answers with a frame and an effect. -/
theorem State.yields_frame {s : State} {c : Instr} {t : Nat} {f : Mod → Mod} {Q : Mod → Prop} (h : exec c s = s.run t f)
    (k : Mod.Within as ws (s.m.at t) (f (s.m.at t))) (q : Q (Mod.run t f s.m)) :
    s.Yields c (fun m' => Q m' ∧ Mod.Frame t as ws s.m m') := ⟨_, h, q, k.frame⟩

end Sys2Proof.Machine
end

