-- ==== Sys2Proof/Laws/Lines.lean ====
section
/-!
SUPPORT. Laws/Lines.lean: the laws of the line store: reading after storing, and its canonical form.
-/
namespace Sys2Proof.Machine

/-- What the canonical form says. -/
theorem linesWf_iff {l : List (Nat × List Nat)} :
    linesWf l = true ↔ (l.map (·.1)).Pairwise (· < ·) ∧ ∀ e ∈ l, isZeroLine e.1 e.2 = false := by
  simp [linesWf]

/-- The lines of a list after one is put into it: that one, or lines that stood there. -/
theorem linePut_mem {l : List (Nat × List Nat)} {k : Nat} {w : List Nat} {e : Nat × List Nat} (h : e ∈ linePut l k w) :
    e = (k, w) ∨ e ∈ l := by
  induction l with
  | nil => exact .inl (List.mem_singleton.1 h)
  | cons a r ih =>
    simp only [linePut] at h
    split at h
    · exact (List.mem_cons.1 h).imp_right id
    · split at h
      · exact (List.mem_cons.1 h).imp_right (List.mem_cons_of_mem _)
      · rcases List.mem_cons.1 h with h | h
        · exact .inr (h ▸ List.mem_cons_self)
        · exact (ih h).imp_right (List.mem_cons_of_mem _)

/-- Putting a line keeps the keys rising. -/
theorem linePut_rising {l : List (Nat × List Nat)} {k : Nat} {w : List Nat} (h : (l.map (·.1)).Pairwise (· < ·)) :
    ((linePut l k w).map (·.1)).Pairwise (· < ·) := by
  induction l with
  | nil => simp [linePut]
  | cons a r ih =>
    obtain ⟨hd, hr⟩ := List.pairwise_cons.1 h
    simp only [linePut]
    split
    · refine List.pairwise_cons.2 ⟨fun x hx => ?_, h⟩
      rcases List.mem_cons.1 hx with hx | hx
      · exact hx ▸ ‹_›
      · exact Nat.lt_trans ‹_› (hd x hx)
    · split
      · next e => exact List.pairwise_cons.2 ⟨fun x hx => e ▸ hd x hx, hr⟩
      · refine List.pairwise_cons.2 ⟨fun x hx => ?_, ih hr⟩
        obtain ⟨y, hy, rfl⟩ := List.mem_map.1 hx
        rcases linePut_mem hy with rfl | hy
        · exact Nat.lt_of_le_of_ne (Nat.not_lt.1 ‹_›) ‹_›
        · exact hd _ (List.mem_map_of_mem hy)

/-- Storing a line keeps the canonical form. -/
theorem lineStore_wf {l : List (Nat × List Nat)} (h : linesWf l = true) (k : Nat) (w : List Nat) : linesWf (lineStore l k w) = true := by
  obtain ⟨hs, hz⟩ := linesWf_iff.1 h
  have hf : ((l.filter (fun e => e.1 ≠ k)).map (·.1)).Pairwise (· < ·) := hs.sublist (List.filter_sublist.map _)
  have hn : ∀ e ∈ l.filter (fun e => e.1 ≠ k), isZeroLine e.1 e.2 = false := fun e he => hz e (List.mem_filter.1 he).1
  unfold lineStore
  split
  · exact linesWf_iff.2 ⟨hf, hn⟩
  · next hw =>
    refine linesWf_iff.2 ⟨linePut_rising hf, fun e he => ?_⟩
    rcases linePut_mem he with rfl | he
    · exact Bool.not_eq_true _ ▸ hw
    · exact hn e he

/-- Taking lines out keeps it. -/
theorem linesWf_filter {l : List (Nat × List Nat)} (h : linesWf l = true) (p : Nat × List Nat → Bool) : linesWf (l.filter p) = true := by
  obtain ⟨hs, hz⟩ := linesWf_iff.1 h
  exact linesWf_iff.2 ⟨hs.sublist (List.filter_sublist.map _), fun e he => hz e (List.mem_filter.1 he).1⟩

/-- Reading the list after a line is put into it, where no other stood under its key. -/
theorem assocGet_linePut {l : List (Nat × List Nat)} {k : Nat} {w : List Nat} (hk : ∀ e ∈ l, e.1 ≠ k) (c : Nat) :
    assocGet (linePut l k w) c = if c = k then some w else assocGet l c := by
  induction l with
  | nil => by_cases h : c = k <;> simp [linePut, assocGet, h, Ne.symm]
  | cons a r ih =>
    obtain ⟨b, x⟩ := a
    have hb : b ≠ k := hk (b, x) List.mem_cons_self
    have hr := ih (fun e he => hk e (List.mem_cons_of_mem _ he))
    simp only [assocGet] at hr
    simp only [linePut, hb, if_false]
    split
    · by_cases h : c = k
      · subst h; simp [assocGet]
      · simp [assocGet, h, Ne.symm h]
    · by_cases h : b = c
      · subst h; simp [assocGet, hb]
      · simpa [assocGet, List.find?_cons, h] using hr

/-- The list without the lines of one key. -/
theorem assocGet_drop (l : List (Nat × List Nat)) (k c : Nat) :
    assocGet (l.filter (fun e => e.1 ≠ k)) c = if c = k then none else assocGet l c := by
  induction l with
  | nil => simp [assocGet]
  | cons a r ih =>
    obtain ⟨b, x⟩ := a
    simp only [assocGet] at ih ⊢
    by_cases h : b = k
    · subst h
      rw [List.filter_cons_of_neg (by simp), ih]
      by_cases hc : c = b
      · simp [hc]
      · simp [hc, Ne.symm hc]
    · rw [List.filter_cons_of_pos (by simpa using h), List.find?_cons, List.find?_cons]
      by_cases hb : b = c
      · subst hb; simp [h]
      · simpa [hb] using ih

/-- Reading any key after a line is stored. -/
theorem lineStore_get (l : List (Nat × List Nat)) (k c : Nat) (w : List Nat) :
    (assocGet (lineStore l k w) c).getD (zeroLine c) = if c = k then w else (assocGet l c).getD (zeroLine c) := by
  unfold lineStore
  split
  · next h =>
    rw [assocGet_drop]
    by_cases hc : c = k
    · subst hc
      simp only [isZeroLine, Bool.and_eq_true, decide_eq_true_eq] at h
      simp [h.2]
    · simp [hc]
  · rw [assocGet_linePut (fun e he => by simpa using (List.mem_filter.1 he).2), assocGet_drop]
    by_cases hc : c = k <;> simp [hc]

/-! ### The store in the module -/

@[simp] theorem Mod.putLine_self (m : Mod) (tag addr : Nat) (w : List Nat) : (m.putLine tag addr w).lineAt tag addr = w := by
  simp [Mod.putLine, Mod.lineAt, lineStore_get]

@[simp] theorem Mod.putLine_ne (m : Mod) {tag addr tag' addr' : Nat} (h : lineKey tag' addr' ≠ lineKey tag addr) (w : List Nat) :
    (m.putLine tag addr w).lineAt tag' addr' = m.lineAt tag' addr' := by
  simp [Mod.putLine, Mod.lineAt, lineStore_get, h]

theorem Mod.putLine_wf {m : Mod} (h : linesWf m.cell.lines = true) (tag addr : Nat) (w : List Nat) :
    linesWf (m.putLine tag addr w).cell.lines = true := lineStore_wf h _ _

theorem Mod.clearSram_wf {m : Mod} (h : linesWf m.cell.lines = true) (t : Nat) : linesWf (m.clearSram t).cell.lines = true :=
  linesWf_filter h _

theorem State.reset_linesWf : linesWf State.reset.m.cell.lines = true := rfl

end Sys2Proof.Machine
end

