-- ==== Sys2Proof/Laws/Net.lean ====
section
/-!
SUPPORT. Laws/Net.lean: what sending, answering and accepting a message can do.
-/
namespace Sys2Proof.Machine

variable {as : List Area} {ws : List Nat}

/-! ### Sending -/

theorem Mod.Within.setCan (m : Mod) (ch : Nat) (f : CanCh → CanCh) (h : Area.can ∈ as) : Mod.Within as ws m (m.setCan ch f) :=
  .ofCan m _ h

theorem Mod.Within.canOffer (m : Mod) (ch : Nat) (f : CanTx) (h : Area.can ∈ as) : Mod.Within as ws m (m.canOffer ch f) :=
  .setCan m ch _ h

theorem Mod.Within.canMessage (m : Mod) (ch n : Nat) (b : List Byte) (h : Area.can ∈ as) (k : Area.free ∈ as) :
    Mod.Within as ws m (m.canMessage ch n b) := by
  unfold Mod.canMessage
  exact (Mod.Within.draw m k).trans (.foldl (fun m s => .canOffer m _ _ h) _ _)

theorem Mod.Within.tpFrame (m : Mod) (ch pf da : Nat) (b : List Byte) (h : Area.can ∈ as) :
    Mod.Within as ws m (m.tpFrame ch pf da b) := .canOffer m _ _ h

theorem Mod.Within.tpBegin (m : Mod) (ch peer : Nat) (b : List Byte) (h : Area.can ∈ as) :
    Mod.Within as ws m (m.tpBegin ch peer b) := by
  unfold Mod.tpBegin
  dsimp only
  split
  · exact (Mod.Within.tpFrame m _ _ _ _ h).trans (.foldl (fun m _ => .tpFrame m _ _ _ _ h) _ _)
  · exact (Mod.Within.setCan m _ _ h).trans (.tpFrame _ _ _ _ _ h)

theorem Mod.Within.isoSend (m : Mod) (ch peer : Nat) (b : List Byte) (h : Area.can ∈ as) :
    Mod.Within as ws m (m.isoSend ch peer b) := by
  unfold Mod.isoSend
  dsimp only
  split
  · exact .refl m
  · split
    · exact .canOffer m _ _ h
    · split
      · exact .setCan m _ _ h
      · exact .tpBegin m _ _ _ h

/-- Everything that sending a message can do. -/
theorem Mod.Within.post (m : Mod) (o : OutMsg) (h : Area.can ∈ as) (k : Area.free ∈ as) (n : Area.net ∈ as)
    (w : P.netTxMsgs.addr ∈ ws) : Mod.Within as ws m (m.post o) := by
  unfold Mod.post
  have h0 : Mod.Within as ws m { m with net := { m.net with sent := m.net.sent ++ [o] } } :=
    .ofNet m _ n
  have h1 : Mod.Within as ws m (({ m with net := { m.net with sent := m.net.sent ++ [o] } } : Mod).inc P.netTxMsgs) :=
    h0.trans (.inc _ _ _ _ _ w)
  dsimp only
  split
  · exact .refl m
  · split
    · exact h1
    · split
      · exact h1.trans (.canMessage _ _ _ _ h k)
      · split
        · exact h1.trans (.isoSend _ _ _ _ h)
        · exact h1

@[simp] theorem Mod.setCan_net (m : Mod) (ch : Nat) (f : CanCh → CanCh) : (m.setCan ch f).net = m.net := rfl
@[simp] theorem Mod.canOffer_net (m : Mod) (ch : Nat) (f : CanTx) : (m.canOffer ch f).net = m.net := rfl

@[simp] theorem Mod.canMessage_net (m : Mod) (ch n : Nat) (b : List Byte) : (m.canMessage ch n b).net = m.net := by
  have h : ∀ (l : List (Nat × Nat × List Byte)) (g : Mod → Nat × Nat × List Byte → CanTx) (m0 : Mod),
      (l.foldl (fun m s => m.canOffer ch (g m s)) m0).net = m0.net := by
    intro l g
    induction l with
    | nil => intro m0; rfl
    | cons x r ih => intro m0; rw [List.foldl_cons, ih]; rfl
  unfold Mod.canMessage
  exact h _ _ _

@[simp] theorem Mod.tpFrame_net (m : Mod) (ch pf da : Nat) (b : List Byte) : (m.tpFrame ch pf da b).net = m.net := rfl

@[simp] theorem Mod.tpBegin_net (m : Mod) (ch peer : Nat) (b : List Byte) : (m.tpBegin ch peer b).net = m.net := by
  have h : ∀ (l : List Nat) (g : Mod → Nat → List Byte) (m0 : Mod),
      (l.foldl (fun m s => m.tpFrame ch 0xEB 255 (g m s)) m0).net = m0.net := by
    intro l g
    induction l with
    | nil => intro m0; rfl
    | cons x r ih => intro m0; rw [List.foldl_cons, ih]; rfl
  unfold Mod.tpBegin
  dsimp only
  split
  · exact h _ _ _
  · rfl

@[simp] theorem Mod.isoSend_net (m : Mod) (ch peer : Nat) (b : List Byte) : (m.isoSend ch peer b).net = m.net := by
  unfold Mod.isoSend
  dsimp only
  split
  · rfl
  · split
    · rfl
    · split
      · rfl
      · exact Mod.tpBegin_net _ _ _ _

/-- A transport that carries Volron lets messages leave (R363, R366). -/
theorem Mod.reaches_of_carries {m : Mod} {tr : Nat} (h : m.carries tr = true) : m.reaches tr = true := by
  unfold Mod.carries at h
  unfold Mod.reaches
  split at h
  · cases h
  · split at h
    · simp; left; omega
    · split at h
      · simp; left; omega
      · simp only [Bool.and_eq_true] at h
        simp [h.2]
  · simp at h
    simp [h]

/-- The messages sent after one more is sent. -/
theorem Mod.post_net {m : Mod} {o : OutMsg} (h : m.reaches o.tr = true) :
    (m.post o).net = { m.net with sent := m.net.sent ++ [o] } := by
  unfold Mod.post
  rw [h]
  dsimp only
  split
  · contradiction
  · split
    · rfl
    · split
      · simp
      · split
        · simp
        · rfl

/-- A message that cannot leave is not sent. -/
theorem Mod.post_unreached {m : Mod} {o : OutMsg} (h : m.reaches o.tr = false) : m.post o = m := by
  unfold Mod.post
  simp [h]

/-! ### Sessions -/

@[simp] theorem Mod.setSession_sent (m : Mod) (i : Nat) (f : Session → Session) : (m.setSession i f).net.sent = m.net.sent := rfl
@[simp] theorem Mod.setSession_cal (m : Mod) (i : Nat) (f : Session → Session) : (m.setSession i f).net.cal = m.net.cal := rfl
@[simp] theorem Mod.setSession_bist (m : Mod) (i : Nat) (f : Session → Session) : (m.setSession i f).bist = m.bist := rfl
@[simp] theorem Mod.setSession_regs (m : Mod) (i : Nat) (f : Session → Session) : (m.setSession i f).regs = m.regs := rfl

theorem Mod.Within.setSession (m : Mod) (i : Nat) (f : Session → Session) (n : Area.net ∈ as) :
    Mod.Within as ws m (m.setSession i f) :=
  .ofNet m _ n

/-- A session after sessions were changed. -/
theorem Mod.session?_setSession (m : Mod) (i k : Nat) (f : Session → Session) (hf : ∀ s, (f s).id = s.id) :
    (m.setSession i f).session? k = (m.session? k).map (fun s => if s.id = i then f s else s) := by
  unfold Mod.session? Mod.setSession
  simp only [List.find?_map]
  congr 1
  apply congrArg (fun p => List.find? p m.net.sessions)
  funext s
  simp only [Function.comp]
  split <;> simp [hf]

theorem Mod.session?_id {m : Mod} {k : Nat} {x : Session} (h : m.session? k = some x) : x.id = k := by
  have := List.find?_some h
  simpa using this

/-- What an answer within a session does to the messages sent. -/
theorem Mod.reply_net (m : Mod) (sid typ seq st : Nat) (b : List Byte) {x : Session} (h : m.session? sid = some x)
    (hr : m.reaches x.tr = true) : ∃ o : OutMsg, (m.reply sid typ seq st b).net.sent = m.net.sent ++ [o] ∧ o.typ = typ ∧ o.kind = 1 ∧ o.sid = sid ∧ o.seq = seq
      ∧ o.tr = x.tr ∧ o.peer = x.peer ∧ o.body = leBytes 2 st ++ b ∧ o.tag = tagOf x.key o.header o.body := by
  unfold Mod.reply
  rw [h]
  dsimp only
  exact ⟨_, by rw [Mod.post_net hr]; rfl, rfl, rfl, rfl, rfl, rfl, rfl, rfl, rfl⟩

/-- The sessions after an answer: the answer is kept for repeats. -/
theorem Mod.reply_sessions (m : Mod) (sid typ seq st : Nat) (b : List Byte) {x : Session} (h : m.session? sid = some x)
    (hr : m.reaches x.tr = true) : ∃ o : OutMsg, (m.reply sid typ seq st b).net.sessions =
      m.net.sessions.map (fun y => if y.id = sid then { y with cache := ((seq, o) :: y.cache).take 16 } else y) := by
  unfold Mod.reply
  rw [h]
  dsimp only
  exact ⟨_, by rw [Mod.post_net hr]; rfl⟩

theorem Mod.Within.reply (m : Mod) (sid typ seq st : Nat) (b : List Byte) (h : Area.can ∈ as) (k : Area.free ∈ as)
    (n : Area.net ∈ as) (w : P.netTxMsgs.addr ∈ ws) : Mod.Within as ws m (m.reply sid typ seq st b) := by
  unfold Mod.reply
  split
  · exact .refl m
  · exact (Mod.Within.setSession _ _ _ n).trans (.post _ _ h k n w)

/-! ### Accepting -/

theorem Mod.gate_congr {a b : Mod} (x : Session) (typ : Nat) (h : b.bist = a.bist)
    (h1 : b.rd P.netSvcAnywhere = a.rd P.netSvcAnywhere) (h2 : b.rd P.sysVariant = a.rd P.sysVariant) :
    b.gate x typ = a.gate x typ := by
  have h0 : b.netState = a.netState := by unfold Mod.netState; rw [h]
  unfold Mod.gate
  rw [h0, h1, h2]

theorem Mod.gate_accepting {m : Mod} (w : Store.wf m.regs = true) (g : Msg) (x y : Session) (typ : Nat) :
    (m.accepting g x).gate y typ = m.gate y typ := by
  apply Mod.gate_congr
  · rfl
  · exact Mod.rd_wr_ne w (by decide)
  · exact Mod.rd_wr_ne w (by decide)

theorem Mod.Within.accepting (m : Mod) (g : Msg) (x : Session) (n : Area.net ∈ as) (w : P.netRxMsgs.addr ∈ ws) :
    Mod.Within as ws m (m.accepting g x) := (Mod.Within.inc m _ _ _ _ w).trans (.setSession _ _ _ n)

/-- An accepted request is answered with the STATUS that turns it away, or executed (R372 to R375). -/
theorem volron_accepts {s : State} {g : Msg} {x : Session} (h : s.Accepts g x) (typ t : Nat) (counts : List (Nat × Nat))
    (ht : g.typ = typ) (h1 : typ ≠ 1) :
    volron typ counts g (s.m.at t) =
      (match s.m.gate x typ with
       | some st => ((s.m.at t).accepting g x).reply x.id typ g.seq st []
       | none =>
         let r := handler counts typ x g.seq g.body ((s.m.at t).accepting g x)
         if r.2.2.net.cal.isSome then r.2.2
         else
           let m3 := r.2.2.reply x.id typ g.seq r.1 r.2.1
           if typ = 0x0004 && r.1 = 0 then m3.closeSession x.id 1 else m3) := by
  have hgate : ((s.m.at t).accepting g x).gate x typ = s.m.gate x typ := by
    rw [Mod.gate_accepting (m := s.m.at t) h.canonical]
    rfl
  have hc : (s.m.at t).carries g.tr = true := h.carried
  have hsess : ((s.m.at t).inc P.netRxMsgs).session? g.sid = some x := h.found
  unfold volron
  rw [if_pos ht]
  unfold Mod.receive
  rw [hc]
  simp only [Bool.not_true, Bool.false_eq_true, if_false]
  have hcal : ((s.m.at t).inc P.netRxMsgs).net.cal.isSome = false := by
    simp [h.idle]
  rw [hcal]
  simp only [Bool.false_eq_true, if_false]
  unfold Mod.take
  rw [h.whole, h.request, ht]
  simp only [Bool.not_true, Bool.false_eq_true, if_false, ne_eq, not_true_eq_false, h1, h.named, decide_false, Bool.false_and]
  rw [hsess]
  dsimp only
  rw [h.opened]
  simp only [if_true]
  unfold Mod.sessionMsg
  rw [h.tag, h.new, h.fresh]
  simp only [h.tr, h.peer, ne_eq, not_true_eq_false, decide_false, Bool.not_true, Bool.or_false, Bool.false_eq_true, if_false,
    if_true]
  unfold Mod.execute
  have he : (((s.m.at t).inc P.netRxMsgs).setSession x.id
      (fun y => { y with lastSeq := some g.seq, lastMsg := ((s.m.at t).inc P.netRxMsgs).now })) = (s.m.at t).accepting g x := rfl
  dsimp only
  rw [he, ht, hgate]

/-- The accepting session as the handler finds it. -/
theorem Mod.accepting_session {m : Mod} {g : Msg} {x : Session} (h : m.session? g.sid = some x) :
    (m.accepting g x).session? x.id = some { x with lastSeq := some g.seq, lastMsg := m.now } := by
  have hid := Mod.session?_id h
  unfold Mod.accepting
  refine (Mod.session?_setSession _ _ _ _ (by intro y; rfl)).trans ?_
  have : (m.inc P.netRxMsgs).session? x.id = some x := by rw [hid]; exact h
  rw [this]
  simp

/-- Every request command takes its message through the session layer. -/
theorem requestCommands_exec {counts : List (Nat × Nat)} {p : Nat × (Nat → Msg → Instr)} (hp : p ∈ requestCommands counts) (t : Nat)
    (g : Msg) (s : State) : ∃ cs, exec (p.2 t g) s = s.run t (volron p.1 cs g) := by
  fin_cases hp <;> exact ⟨_, rfl⟩

end Sys2Proof.Machine
end

