-- ==== Sys2Proof/WellFormed.lean ====
section
/-!
DEFINITION. WellFormed.lean: what makes a command well formed: its instant is a raw count, and every unit that it names exists (R5).
A command that names no unit of the module has no effect but its instant.
-/
namespace Sys2Proof

/-- A message's fields fit their widths (R367), and its transport is one of the seven. -/
def Msg.wf (g : Msg) : Bool :=
  g.tr ≤ 6 && g.magic < 2 ^ 16 && g.version < 2 ^ 8 && g.kind < 2 ^ 8 && g.typ < 2 ^ 16 && g.len < 2 ^ 16 && g.sid < 2 ^ 32 && g.seq < 2 ^ 32

/-- A request names a role. -/
def RecipeReq.wf : RecipeReq → Bool
  | .write role _ => role < 2
  | .msg g => g.wf

/-- A write names a role and a key slot. -/
def WriteReq.wf : WriteReq → Bool
  | .pair role slot _ _ => role < 2 && slot < 16
  | .msg g => g.wf

/-- The raw count of a command's instant. -/
def Instr.instant : Instr → Nat
  | .startCondition t _ _ _ _ => t
  | .startSupplyDip t _ => t
  | .coreTestsComplete t _ => t
  | .coreTestRetry t _ => t
  | .coreTestNotRunTimeout t => t
  | .cellTestComplete t _ _ _ => t
  | .roadbookChecksComplete t _ => t
  | .mainMemoryTestComplete t _ _ _ => t
  | .outputTestsComplete t _ _ _ => t
  | .enterRunning t => t
  | .deferredTestRun t _ _ => t
  | .tapEnIgnored t => t
  | .milestone t _ => t
  | .milestoneWriteFailed t => t
  | .supervisoryWatchdog t => t
  | .deepTest t _ _ _ _ => t
  | .deepTestComplete t _ _ _ => t
  | .boardThermalTrip t _ => t
  | .recipeSelect t _ => t
  | .recipeEffective t => t
  | .dialSet t _ => t
  | .calWrite t _ => t
  | .caluGroupCommit t _ => t
  | .calRead t _ => t
  | .registerWrite t _ _ => t
  | .read t _ => t
  | .sysDecLatClr t _ _ => t
  | .cellClr t _ _ => t
  | .trkClr t _ _ => t
  | .ejClr t _ _ => t
  | .tollClr t _ _ => t
  | .evcClr t _ _ => t
  | .expPulse t _ => t
  | .frameStart t _ _ => t
  | .cameraLine t _ _ _ _ => t
  | .frameEnd t _ => t
  | .statsPublish t _ => t
  | .templateSent t _ => t
  | .templateReply t _ _ => t
  | .templateReplyTimeout t _ => t
  | .portClockLoss t _ => t
  | .colourReconstruction t _ _ _ => t
  | .resampleLine t _ _ _ => t
  | .featureRow t _ _ _ _ _ => t
  | .observationClose t _ => t
  | .panelRegionWritten t _ _ => t
  | .panelStatusFrame t _ _ => t
  | .panelLinkDown t _ => t
  | .panelLinkRetry t _ _ => t
  | .panelSelection t _ => t
  | .panelLoadBoundary t _ => t
  | .panelEnableEdge t _ _ => t
  | .pieceLatestStart t _ => t
  | .pieceJobComplete t _ _ _ => t
  | .jobAbort t _ _ => t
  | .revisionJobComplete t _ _ _ => t
  | .cellFailure t _ _ _ => t
  | .towerWarmRestartComplete t _ _ _ _ => t
  | .sramScrub t _ => t
  | .memoryScrubBurst t _ => t
  | .towerGate t _ => t
  | .towerResume t _ => t
  | .motionUpdate t _ => t
  | .laneBlockWarm t _ => t
  | .laneBlockStale t _ => t
  | .fusMotionReset t _ _ => t
  | .fusSuspectClr t _ _ => t
  | .observationDue t _ _ => t
  | .sensorAbsent t _ => t
  | .suspectReminder t => t
  | .assocWindowClose t => t
  | .assocWindowResult t => t
  | .provisionalCommitPass t _ => t
  | .commitPoint t _ => t
  | .trackClose t _ => t
  | .trkLot t _ _ => t
  | .tallyLoopPublish t => t
  | .pulseFirm t _ _ => t
  | .holdStartInstant t _ _ => t
  | .pulseStart t _ _ _ _ _ => t
  | .pulseLatestStart t _ _ => t
  | .pulseRelease t _ => t
  | .lowSideOpen t _ _ => t
  | .boostEnd t _ _ => t
  | .hsRiseEnd t _ _ => t
  | .decayEnd t _ _ => t
  | .arrivalDetected t _ _ => t
  | .coilTempUpdate t _ _ => t
  | .openCoil t _ _ => t
  | .shortOvercurrent t _ _ _ => t
  | .lowSideStuckOn t _ _ _ => t
  | .bankStageFault t _ _ _ => t
  | .vlvChClr t _ _ => t
  | .pvPwmPeriod t _ _ _ => t
  | .pvOpenLoad t _ _ => t
  | .pvShort t _ _ => t
  | .pvRetry t _ => t
  | .pvOvertemp t _ _ _ => t
  | .vlvPClr t _ _ _ => t
  | .logicDropout t _ => t
  | .coldCrank t _ _ => t
  | .logicOvervoltage t _ => t
  | .holdupRestore t _ => t
  | .powerFail t => t
  | .supplyConditionSet t _ => t
  | .supplyConditionClear t _ => t
  | .tollTick t _ _ => t
  | .rechargeCheck t => t
  | .logicPowerCheck t _ => t
  | .inrushWindowEnd t _ => t
  | .lswPwmPeriod t _ => t
  | .lswHardShort t _ _ => t
  | .lswOvercurrentTrip t _ => t
  | .lswThermalLatch t _ _ _ => t
  | .lswThermalClear t _ _ => t
  | .lswRetryDue t _ => t
  | .lswRetryReset t _ => t
  | .lswClr t _ _ => t
  | .lswUvSwitchOff t _ _ => t
  | .lswUvRestore t _ => t
  | .lswOvRestore t _ => t
  | .lswOpenLoad t _ => t
  | .loopTick t => t
  | .traceArm t _ _ => t
  | .traceTrigger t _ _ => t
  | .traceStop t _ _ => t
  | .ainWindow t _ _ => t
  | .ainOverrange t _ _ => t
  | .ainShuntReclose t _ => t
  | .ainLowCurrent t _ _ => t
  | .ainFaultClear t _ => t
  | .ainPiezoHit t _ _ _ => t
  | .ainHitRate t _ => t
  | .encoderEdge t _ _ _ _ => t
  | .encoderIndex t _ _ => t
  | .freqEdge t _ _ => t
  | .antennaOpen t _ => t
  | .antennaShort t _ => t
  | .antennaRetry t => t
  | .antennaNormal t _ => t
  | .gnssAcqRequest t => t
  | .gnssAcqEnd t _ => t
  | .gnssSidePeak t _ _ _ _ => t
  | .gnssEpoch t _ => t
  | .gnssExclusionExpire t _ _ => t
  | .gnssDiffStale t => t
  | .gnssAccept t _ _ => t
  | .gnssCold t _ _ => t
  | .gnssBurstStart t => t
  | .gnssBurstEnd t _ => t
  | .gnssLoss t => t
  | .correction t _ => t
  | .rawCounterWrap t => t
  | .timeEpsUpdate t => t
  | .timeSlewUpdate t => t
  | .timeSet t => t
  | .timeStep t => t
  | .timeHoldEnd t => t
  | .ptpEventMessage t _ _ => t
  | .ptpMessageTimer t _ _ _ => t
  | .ptpAnnounceTimeout t _ => t
  | .ppsEdge t => t
  | .ppsPulseEnd t => t
  | .timeOutArm t _ _ _ => t
  | .timeOutEdge t _ => t
  | .timeOutPulseEnd t _ => t
  | .captureEdge t _ _ => t
  | .canFrameReceived t _ _ _ => t
  | .canRingService t _ _ _ _ => t
  | .canFrameTransmitted t _ _ _ => t
  | .canError t _ _ _ => t
  | .canTxTimeout t _ _ => t
  | .canBusoffRecovered t _ => t
  | .isoClaimSend t _ => t
  | .isoAddressHeld t _ => t
  | .canReassemblyTimeout t _ _ _ => t
  | .ethLinkChange t _ _ => t
  | .arpRequest t _ _ _ _ => t
  | .icmpEcho t _ _ _ _ _ => t
  | .hello t _ => t
  | .auth t _ => t
  | .authTimeout t _ => t
  | .authLockoutEnd t _ _ => t
  | .bye t _ => t
  | .sessionIdleTimeout t _ => t
  | .ping t _ => t
  | .tallyRead t _ => t
  | .mapRead t _ => t
  | .eventSubscribe t _ => t
  | .streamResend t _ => t
  | .frameSubscribe t _ => t
  | .frameSend t _ => t
  | .unknownType t _ => t
  | .evcQueueService t _ => t
  | .eventStreamSend t _ => t
  | .recorderWrite t _ => t
  | .logToken t => t
  | .logIntervalEnd t => t
  | .operatingSecond t => t
  | .recorderWindow t _ => t
  | .recorderClear t _ => t
  | .logCursor t _ _ => t
  | .updateBegin t _ => t
  | .updateData t _ => t
  | .updateEnd t _ => t
  | .updateAbort t _ => t
  | .updateStatus t _ => t
  | .flashOperationComplete t _ _ => t
  | .updateVerifyComplete t _ => t
  | .provisionInfo t _ => t
  | .provision t _ => t
  | .perfSnap t _ _ _ => t
  | .perfSample t _ _ _ _ _ _ _ _ => t
  | .perfTagRecord t _ _ _ _ _ _ _ _ _ => t
  | .pvOvertempCleared t _ _ => t
  | .logicOvervoltageEnd t _ => t
  | .lswUndervoltageThreshold t _ _ _ => t
  | .lswOpenCleared t _ => t
  | .gnssLostLock t _ => t
  | .gnssLockSearchEnd t _ => t
  | .gnssSignalTracked t _ _ _ _ => t
  | .ethernetFrameReceived t _ _ _ => t
  | .macAgeOut t _ => t

/-- The units that a command names exist. -/
def Instr.units : Instr → Bool
  | .startCondition _ _ _ _ _ => true
  | .startSupplyDip _ _ => true
  | .coreTestsComplete _ _ => true
  | .coreTestRetry _ _ => true
  | .coreTestNotRunTimeout _ => true
  | .cellTestComplete _ _ _ _ => true
  | .roadbookChecksComplete _ _ => true
  | .mainMemoryTestComplete _ _ _ _ => true
  | .outputTestsComplete _ _ _ _ => true
  | .enterRunning _ => true
  | .deferredTestRun _ _ _ => true
  | .tapEnIgnored _ => true
  | .milestone _ _ => true
  | .milestoneWriteFailed _ => true
  | .supervisoryWatchdog _ => true
  | .deepTest _ role slot _ _ => role < 2 && slot < 16
  | .deepTestComplete _ _ _ _ => true
  | .boardThermalTrip _ _ => true
  | .recipeSelect _ q => q.wf
  | .recipeEffective _ => true
  | .dialSet _ g => g.wf
  | .calWrite _ g => g.wf
  | .caluGroupCommit _ _ => true
  | .calRead _ g => g.wf
  | .registerWrite _ q _ => q.wf
  | .read _ g => g.wf
  | .sysDecLatClr _ role _ => role < 2
  | .cellClr _ role _ => role < 2
  | .trkClr _ role _ => role < 2
  | .ejClr _ role _ => role < 2
  | .tollClr _ role _ => role < 2
  | .evcClr _ role _ => role < 2
  | .expPulse _ p => p < 8
  | .frameStart _ p _ => p < 8
  | .cameraLine _ p _ _ _ => p < 8
  | .frameEnd _ p => p < 8
  | .statsPublish _ p => p < 8
  | .templateSent _ p => p < 8
  | .templateReply _ p _ => p < 8
  | .templateReplyTimeout _ p => p < 8
  | .portClockLoss _ p => p < 8
  | .colourReconstruction _ p _ _ => p < 8
  | .resampleLine _ p _ _ => p < 8
  | .featureRow _ p _ _ _ _ => p < 8
  | .observationClose _ p => p < 8
  | .panelRegionWritten _ n _ => n < 2
  | .panelStatusFrame _ n _ => n < 2
  | .panelLinkDown _ n => n < 2
  | .panelLinkRetry _ n _ => n < 2
  | .panelSelection _ n => n < 2
  | .panelLoadBoundary _ n => n < 2
  | .panelEnableEdge _ n _ => n < 2
  | .pieceLatestStart _ _ => true
  | .pieceJobComplete _ _ _ _ => true
  | .jobAbort _ _ _ => true
  | .revisionJobComplete _ _ _ _ => true
  | .cellFailure _ tower cell _ => tower < 16 && cell < 64
  | .towerWarmRestartComplete _ tower _ cell _ => tower < 16 && cell < 64
  | .sramScrub _ _ => true
  | .memoryScrubBurst _ _ => true
  | .towerGate _ tower => tower < 16
  | .towerResume _ tower => tower < 16
  | .motionUpdate _ _ => true
  | .laneBlockWarm _ b => b < 100
  | .laneBlockStale _ b => b < 100
  | .fusMotionReset _ role _ => role < 2
  | .fusSuspectClr _ role _ => role < 2
  | .observationDue _ _ port => port < 8
  | .sensorAbsent _ p => p < 8
  | .suspectReminder _ => true
  | .assocWindowClose _ => true
  | .assocWindowResult _ => true
  | .provisionalCommitPass _ _ => true
  | .commitPoint _ _ => true
  | .trackClose _ _ => true
  | .trkLot _ role _ => role < 2
  | .tallyLoopPublish _ => true
  | .pulseFirm _ _ ch => ch < 384
  | .holdStartInstant _ _ ch => ch < 384
  | .pulseStart _ _ ch _ _ _ => ch < 384
  | .pulseLatestStart _ _ ch => ch < 384
  | .pulseRelease _ ch => ch < 384
  | .lowSideOpen _ ch _ => ch < 384
  | .boostEnd _ ch _ => ch < 384
  | .hsRiseEnd _ ch _ => ch < 384
  | .decayEnd _ ch _ => ch < 384
  | .arrivalDetected _ ch _ => ch < 384
  | .coilTempUpdate _ _ _ => true
  | .openCoil _ ch _ => ch < 384
  | .shortOvercurrent _ ch _ _ => ch < 384
  | .lowSideStuckOn _ ch _ _ => ch < 384
  | .bankStageFault _ b _ _ => b < 24
  | .vlvChClr _ role _ => role < 2
  | .pvPwmPeriod _ p _ _ => p < 32
  | .pvOpenLoad _ p _ => p < 32
  | .pvShort _ p _ => p < 32
  | .pvRetry _ p => p < 32
  | .pvOvertemp _ p _ _ => p < 32
  | .vlvPClr _ role p _ => role < 2 && p < 32
  | .logicDropout _ _ => true
  | .coldCrank _ _ _ => true
  | .logicOvervoltage _ _ => true
  | .holdupRestore _ _ => true
  | .powerFail _ => true
  | .supplyConditionSet _ _ => true
  | .supplyConditionClear _ _ => true
  | .tollTick _ _ _ => true
  | .rechargeCheck _ => true
  | .logicPowerCheck _ _ => true
  | .inrushWindowEnd _ k => k < 24
  | .lswPwmPeriod _ k => k < 24
  | .lswHardShort _ k _ => k < 24
  | .lswOvercurrentTrip _ k => k < 24
  | .lswThermalLatch _ k _ _ => k < 24
  | .lswThermalClear _ k _ => k < 24
  | .lswRetryDue _ k => k < 24
  | .lswRetryReset _ k => k < 24
  | .lswClr _ role _ => role < 2
  | .lswUvSwitchOff _ inp _ => inp < 2
  | .lswUvRestore _ inp => inp < 2
  | .lswOvRestore _ inp => inp < 2
  | .lswOpenLoad _ k => k < 24
  | .loopTick _ => true
  | .traceArm _ role n => role < 2 && n < 8
  | .traceTrigger _ role n => role < 2 && n < 8
  | .traceStop _ role n => role < 2 && n < 8
  | .ainWindow _ n _ => n < 32
  | .ainOverrange _ n _ => n < 32
  | .ainShuntReclose _ n => n < 32
  | .ainLowCurrent _ n _ => n < 32
  | .ainFaultClear _ n => n < 32
  | .ainPiezoHit _ n _ _ => n < 32
  | .ainHitRate _ n => n < 32
  | .encoderEdge _ e _ _ _ => e < 8
  | .encoderIndex _ e _ => e < 8
  | .freqEdge _ f _ => f < 16
  | .antennaOpen _ _ => true
  | .antennaShort _ _ => true
  | .antennaRetry _ => true
  | .antennaNormal _ _ => true
  | .gnssAcqRequest _ => true
  | .gnssAcqEnd _ _ => true
  | .gnssSidePeak _ c _ _ _ => c < 64
  | .gnssEpoch _ _ => true
  | .gnssExclusionExpire _ _ _ => true
  | .gnssDiffStale _ => true
  | .gnssAccept _ role _ => role < 2
  | .gnssCold _ role _ => role < 2
  | .gnssBurstStart _ => true
  | .gnssBurstEnd _ _ => true
  | .gnssLoss _ => true
  | .correction _ g => g.wf
  | .rawCounterWrap _ => true
  | .timeEpsUpdate _ => true
  | .timeSlewUpdate _ => true
  | .timeSet _ => true
  | .timeStep _ => true
  | .timeHoldEnd _ => true
  | .ptpEventMessage _ n _ => n < 2
  | .ptpMessageTimer _ n _ _ => n < 2
  | .ptpAnnounceTimeout _ n => n < 2
  | .ppsEdge _ => true
  | .ppsPulseEnd _ => true
  | .timeOutArm _ role n _ => role < 2 && n < 4
  | .timeOutEdge _ n => n < 4
  | .timeOutPulseEnd _ n => n < 4
  | .captureEdge _ n _ => n < 4
  | .canFrameReceived _ ch _ _ => ch < 4
  | .canRingService _ ch _ _ _ => ch < 4
  | .canFrameTransmitted _ ch _ _ => ch < 4
  | .canError _ ch kind _ => ch < 4 && kind < 6
  | .canTxTimeout _ ch _ => ch < 4
  | .canBusoffRecovered _ ch => ch < 4
  | .isoClaimSend _ ch => ch < 4
  | .isoAddressHeld _ ch => ch < 4
  | .canReassemblyTimeout _ ch peer tag => ch < 4 && peer < 32 && tag < 16
  | .ethLinkChange _ port _ => port < 3
  | .arpRequest _ port _ _ _ => port < 3
  | .icmpEcho _ port _ _ _ _ => port < 3
  | .hello _ g => g.wf
  | .auth _ g => g.wf
  | .authTimeout _ sess => sess < 8
  | .authLockoutEnd _ _ _ => true
  | .bye _ g => g.wf
  | .sessionIdleTimeout _ sess => sess < 8
  | .ping _ g => g.wf
  | .tallyRead _ g => g.wf
  | .mapRead _ g => g.wf
  | .eventSubscribe _ g => g.wf
  | .streamResend _ g => g.wf
  | .frameSubscribe _ g => g.wf
  | .frameSend _ g => g.wf
  | .unknownType _ g => g.wf
  | .evcQueueService _ _ => true
  | .eventStreamSend _ sess => sess < 8
  | .recorderWrite _ _ => true
  | .logToken _ => true
  | .logIntervalEnd _ => true
  | .operatingSecond _ => true
  | .recorderWindow _ g => g.wf
  | .recorderClear _ g => g.wf
  | .logCursor _ role _ => role < 2
  | .updateBegin _ g => g.wf
  | .updateData _ g => g.wf
  | .updateEnd _ g => g.wf
  | .updateAbort _ g => g.wf
  | .updateStatus _ g => g.wf
  | .flashOperationComplete _ r _ => r < 2
  | .updateVerifyComplete _ r => r < 2
  | .provisionInfo _ g => g.wf
  | .provision _ g => g.wf
  | .perfSnap _ role _ _ => role < 2
  | .perfSample _ tower n cell _ _ _ _ _ => tower < 16 && n < 8 && cell < 64
  | .perfTagRecord _ tower cell _ _ _ _ _ _ _ => tower < 16 && cell < 64
  | .pvOvertempCleared _ p _ => p < 32
  | .logicOvervoltageEnd _ _ => true
  | .lswUndervoltageThreshold _ inp _ _ => inp < 2
  | .lswOpenCleared _ k => k < 24
  | .gnssLostLock _ c => c < 64
  | .gnssLockSearchEnd _ c => c < 64
  | .gnssSignalTracked _ sig _ _ _ => sig < 8
  | .ethernetFrameReceived _ port _ _ => port < 3
  | .macAgeOut _ _ => true

/-- A command is well formed. -/
def Instr.wf (i : Instr) : Bool := i.instant < 2 ^ 32 && i.units

end Sys2Proof
end

