-- ==== Sys2Proof/Tests/Slice0.lean ====
section
/-!
SUPPORT. Tests/Slice0.lean: ill-formed commands are refused, single commands on small states, and for each obligation concrete states
and operands that meet the hypotheses of its clauses.
-/
namespace Sys2Proof.Tests
set_option Elab.async false
open Sys2Proof Sys2Proof.Machine

/-! ### States the tests start from -/

/-- A module that runs, with everything else as at reset. -/
def run0 : Mod := { bist := { phase := .running } }

/-- The state of a module with an empty queue. -/
def st (m : Mod) : State := { m := m }

/-- A module with a parameter at a value (R9). -/
def put (m : Mod) (l : List (Param × Nat × Nat)) : Mod := l.foldl (fun m e => m.wr e.1 e.2.2 e.2.1) m

/-- A service session on the service port. -/
def sess0 : Session :=
  { idx := 0, id := 7, opened := true, slot := 0, role := 1, tr := 1, peer := 9, key := [1#8], nonceC := [], nonceM := [], since := 0,
    lastMsg := 0 }

/-- A module that runs with that session open. -/
def net0 : Mod := { run0 with net := { sessions := [sess0] } }

/-- A request as it comes before its tag. -/
def plainReq (x : Session) (typ : Nat) (body : List Byte) : Msg :=
  { tr := x.tr, peer := x.peer, magic := 0x4C56, version := 1, kind := 0, typ := typ, len := body.length, sid := x.id, seq := 1,
    body := body, tag := [] }

/-- A request with the right tag. -/
def req (x : Session) (typ : Nat) (body : List Byte) : Msg :=
  { plainReq x typ body with tag := tagOf x.key (msgHeader (plainReq x typ body)) body }

/-- What a request needs beside its tag to be accepted. -/
def readyFor (m : Mod) (x : Session) (typ : Nat) (body : List Byte) : Bool :=
  Store.wf m.regs && m.carries x.tr && m.net.cal = none && body.length ≤ 1440 && x.id ≠ 0 && m.session? x.id = some x && x.opened
    && x.lastSeq.all (fun q => later 32 1 q) && x.cache.find? (fun e => e.1 = 1) = none && typ = typ

theorem accepts_of_ready {m : Mod} {x : Session} {typ : Nat} {body : List Byte} (h : readyFor m x typ body = true) :
    (st m).Accepts (req x typ body) x := by
  simp only [readyFor, Bool.and_eq_true, decide_eq_true_eq] at h
  obtain ⟨⟨⟨⟨⟨⟨⟨⟨⟨h1, h2⟩, h3⟩, h4⟩, h5⟩, h6⟩, h7⟩, h8⟩, h9⟩, -⟩ := h
  exact ⟨h1, h2, h3, by simp [msgOk, req, plainReq, h4], rfl, h5, h6, h7, rfl, rfl, by simp [msgTagOk, req, plainReq, msgHeader], h8, h9⟩

/-- The request is accepted and no rule turns it away before its own. -/
def Asks (m : Mod) (x : Session) (typ : Nat) (body : List Byte) : Prop :=
  (st m).Accepts (req x typ body) x ∧ (st m).m.gate x (req x typ body).typ = none

theorem asks {m : Mod} {x : Session} {typ : Nat} {body : List Byte} (h : readyFor m x typ body = true) (g : m.gate x typ = none) :
    Asks m x typ body := ⟨accepts_of_ready h, g⟩

/-! ### Witnesses: the queue and the event controller -/

theorem witness_StepRunsFrontCommand :
    ({ pending := [.loopTick 0], m := run0 } : State).pending = .loopTick 0 :: [] ∧ (st run0).pending = [] := by decide +kernel

theorem witness_EveryStepKeepsStoreCanonical : (st (put run0 [(P.lswEn, 0, 1)])).Canonical := by unfold State.Canonical; decide +kernel

/-- An event of source 2, whose route is FW and STREAM alone. -/
def evc0 : Mod := { put run0 [(P.evcRoute, 2, 3)] with evc := { raised := [{ src := 2, code := 0x0201, data := [], norec := false }] } }

/-- A full delivery queue. -/
def ev0 : Ev :=
  { seq := 0, code := 1, src := 2, prio := 0, raw := 0, valid := false, held := false, recorded := false, fw := true, stream := true,
    rep := 0, data := [] }

/-- The same after another command of the same tick has raised an event of priority 1, which stands last in the queue. -/
def evcTick (prio : Nat) : Mod :=
  { evc0 with evc := { evc0.evc with q := [{ ev0 with seq := 1 }], seq := 1, tick := [{ prio := prio, src := 2, code := 0x0201, seq := 1 }] } }

theorem witness_EventsAreNumberedAndQueued :
    (evc0.evc.raised = [{ src := 2, code := 0x0201, data := [], norec := false }] ∧ evc0.NoTrace 2
      ∧ (evc0.rd P.evcRoute 2).testBit 2 = false ∧ (evc0.rd P.evcRoute 2).testBit 0 = true ∧ evc0.evc.q.length < 4096 ∧ evc0.tickNow = [])
    ∧ (let m : Mod := { put run0 [(P.evcRoute, 2, 0)] with evc := evc0.evc }
       m.NoTrace 2 ∧ (m.rd P.evcRoute 2).testBit 0 = false ∧ (m.rd P.evcRoute 2).testBit 1 = false ∧ m.tickNow = [])
    ∧ (∀ p ∈ [evc0.prio 2 + 1, evc0.prio 2], (evcTick p).evc.raised = evc0.evc.raised ∧ (evcTick p).NoTrace 2
      ∧ (evcTick p).tickNow = [{ prio := p, src := 2, code := 0x0201, seq := 1 }] ∧ (evcTick p).evc.q = [] ++ [{ ev0 with seq := 1 }]
      ∧ (evcTick p).evc.seq = 1 ∧ (evcTick p).prio 2 = evc0.prio 2)
    ∧ ({ run0 with evc := { q := List.replicate 4096 ev0 } } : Mod).evc.q.length = 4096 := by
  refine ⟨?_, ?_, ?_, List.length_replicate⟩ <;> unfold Mod.NoTrace <;> decide +kernel
/-! ### Witnesses: Volron -/

/-- Body bytes from numbers. -/
def bytes (l : List (Nat × Nat)) : List Byte := l.flatMap (fun e => leBytes e.1 e.2)

/-- A recorder with numbers 5 to 8. -/
def netLog : Mod := { net0 with log := { oldest := 5, next := 9 } }

theorem witness_ReadingRequestsAnswered :
    Asks net0 sess0 0x0005 []
    ∧ (∀ n ∈ [1, 256], Asks net0 sess0 0x0010 (bytes [(4, 0x100), (2, n), (2, 0)])
        ∧ leAt (bytes [(4, 0x100), (2, n), (2, 0)]) 4 2 = n
        ∧ ((net0.at 5).accepting (req sess0 0x0010 (bytes [(4, 0x100), (2, n), (2, 0)])) sess0).readable 0x100 n = true)
    ∧ (∀ n ∈ [1, 256], Asks net0 sess0 0x0031 (bytes [(4, 0x22000000 - 4 * n), (2, n), (2, 0)])
        ∧ leAt (bytes [(4, 0x22000000 - 4 * n), (2, n), (2, 0)]) 0 4 + 4 * n ≤ 0x22000000
        ∧ ((net0.at 5).accepting (req sess0 0x0031 (bytes [(4, 0x22000000 - 4 * n), (2, n), (2, 0)])) sess0).readable (0x22000000 - 4 * n) n
          = true)
    ∧ (∀ r ∈ [0, 15], Asks net0 sess0 0x0040 (bytes [(4, r)]) ∧ leAt (bytes [(4, r)]) 0 1 ≤ 15)
    ∧ (∀ e ∈ [(0, 1), (65514, 22)], Asks net0 sess0 0x0041 (bytes [(2, e.1), (2, e.2)])
        ∧ leAt (bytes [(2, e.1), (2, e.2)]) 0 2 + leAt (bytes [(2, e.1), (2, e.2)]) 2 2 ≤ 65536)
    ∧ (∀ e ∈ [(5, 1), (9, 44)], Asks netLog sess0 0x0060 (bytes [(4, e.1), (2, e.2), (2, 0)])
        ∧ netLog.log.holds (leAt (bytes [(4, e.1), (2, e.2), (2, 0)]) 0 4) = true)
    ∧ (∀ r ∈ [0, 1], Asks net0 sess0 0x0084 (bytes [(4, r)]) ∧ leAt (bytes [(4, r)]) 0 1 < 2) := by
  refine ⟨asks (by decide +kernel) (by decide +kernel), ?_, ?_, ?_, ?_, ?_, ?_⟩ <;> intro e he <;>
    simp only [List.mem_cons, List.not_mem_nil, or_false] at he <;> rcases he with rfl | rfl <;>
    first
      | exact ⟨asks (by decide +kernel) (by decide +kernel), by decide +kernel, by decide +kernel⟩
      | exact ⟨asks (by decide +kernel) (by decide +kernel), by decide +kernel⟩

/-- An operator's session in the same place: CAL_WRITE is not for it. -/
def oper0 : Session := { sess0 with role := 0 }
def netOper : Mod := { net0 with net := { sessions := [oper0] } }

theorem witness_RefusedRequestsChangeNothing :
    (((0x0030, Instr.calWrite) : Nat × (Nat → Msg → Instr)).1 = 0x0030 ∧ (st netOper).Accepts (req oper0 0x0030 []) oper0
      ∧ netOper.gate oper0 (req oper0 0x0030 []).typ = some 3)
    ∧ (requestCommands []).map (·.1)
        = [0x0004, 0x0005, 0x0010, 0x0011, 0x0020, 0x0021, 0x0030, 0x0031, 0x0040, 0x0041, 0x0050, 0x0052, 0x0058, 0x005A, 0x0060, 0x0061,
           0x0070, 0x0080, 0x0081, 0x0082, 0x0083, 0x0084, 0x0090, 0x0091]
    ∧ (∀ typ ∈ [2, 0xFFFF], (st net0).Accepts (req sess0 typ []) sess0 ∧ typeDefined typ = false ∧ typ ≠ 1 ∧ typ ≠ 3) := by
  refine ⟨⟨rfl, accepts_of_ready (by decide +kernel), by decide +kernel⟩, by decide +kernel, ?_⟩
  intro e he
  simp only [List.mem_cons, List.not_mem_nil, or_false] at he
  rcases he with rfl | rfl <;> exact ⟨accepts_of_ready (by decide +kernel), by decide +kernel, by decide +kernel, by decide +kernel⟩

/-- A session that has had request 1 answered, and then request 4. -/
def out0 : OutMsg := { tr := 1, peer := 9, typ := 5, kind := 1, sid := 7, seq := 1, body := [], tag := [] }
def sessOld : Session := { sess0 with lastSeq := some 4, cache := [(1, out0)] }
def sessLate : Session := { sess0 with lastSeq := some 4 }
def netOld : Mod := { net0 with net := { sessions := [sessOld] } }
def netLate : Mod := { net0 with net := { sessions := [sessLate] } }

theorem witness_WrongMessagesDiscarded :
    ((st net0).Canonical ∧ net0.carries 1 = true ∧ net0.net.cal = none ∧ net0.session? 7 = some sess0
      ∧ ((plainReq sess0 5 []).tag ≠ padTo 16 (Config.hmacSha256 sess0.key (msgHeader (plainReq sess0 5 []) ++ [])))
      ∧ (plainReq sess0 5 []).magic = 0x4C56 ∧ (plainReq sess0 5 []).version = 1 ∧ (plainReq sess0 5 []).len = 0
      ∧ { plainReq sess0 5 [] with version := 2 }.version ≠ 1 ∧ { plainReq sess0 5 [] with peer := 10 }.peer ≠ sess0.peer)
    ∧ ((st netOld).Canonical ∧ netOld.carries 1 = true ∧ msgOk (req sessOld 5 []) = true ∧ msgTagOk (req sessOld 5 []) sessOld = true
      ∧ netOld.session? 7 = some sessOld ∧ sessOld.cache.find? (fun e => e.1 = (req sessOld 5 []).seq) = some (1, out0)
      ∧ out0.tr = sessOld.tr)
    ∧ ((st netLate).Canonical ∧ netLate.session? 7 = some sessLate ∧ msgTagOk (req sessLate 5 []) sessLate = true
      ∧ sessLate.cache.find? (fun e => e.1 = (req sessLate 5 []).seq) = none ∧ later 32 (req sessLate 5 []).seq 4 = false) := by
  have tagged : ∀ x : Session, msgTagOk (req x 5 []) x = true := fun x => by simp [msgTagOk, req, plainReq, msgHeader]
  refine ⟨⟨by unfold State.Canonical; decide +kernel, by decide +kernel, by decide +kernel, by decide +kernel, ?_, by decide +kernel⟩,
    ⟨by unfold State.Canonical; decide +kernel, by decide +kernel, by decide +kernel, tagged _, by decide +kernel⟩,
    ⟨by unfold State.Canonical; decide +kernel, by decide +kernel, tagged _, by decide +kernel, by decide +kernel⟩⟩
  intro h
  have := congrArg List.length h
  simp [plainReq, padTo] at this
  omega

theorem witness_RequestsWaitForCalWrite :
    let g : CalGroup := { sid := 7, seq := 1, tr := 1, peer := 9, words := [] }
    let m : Mod := { net0 with net := { sessions := [sess0], cal := some g } }
    (plainReq sess0 0x0091 []).typ = 0x0091 ∧ m.carries 1 = true ∧ m.net.cal.isSome = true := by decide +kernel

/-- A session with a stream message held. -/
def sessHeld : Session := { sess0 with held := [{ out0 with kind := 2, seq := 5 }] }
def netHeld : Mod := { net0 with net := { sessions := [sessHeld] } }

theorem witness_SessionRequestsTakeEffect :
    Asks net0 sess0 0x0004 [] ∧ Asks net0 sess0 0x0050 (List.replicate 20 0) ∧ Asks net0 sess0 0x0050 (List.replicate 20 255)
    ∧ Asks net0 sess0 0x0058 (bytes [(4, 15)]) ∧ leAt (bytes [(4, 15)]) 0 1 ≤ 15
    ∧ (Asks net0 sess0 0x0052 (bytes [(4, 5)]) ∧ sess0.held.find? (fun o => o.seq = leVal (bytes [(4, 5)])) = none)
    ∧ (Asks netHeld sessHeld 0x0052 (bytes [(4, 5)])
      ∧ sessHeld.held.find? (fun o => o.seq = leVal (bytes [(4, 5)])) = some { out0 with kind := 2, seq := 5 } ∧ out0.tr = sessHeld.tr) :=
  ⟨asks (by decide +kernel) (by decide +kernel), asks (by decide +kernel) (by decide +kernel), asks (by decide +kernel) (by decide +kernel), asks (by decide +kernel) (by decide +kernel), by decide +kernel,
    ⟨asks (by decide +kernel) (by decide +kernel), by decide +kernel⟩, asks (by decide +kernel) (by decide +kernel), by decide +kernel⟩

/-- A road book with recipes 0 and 15 and dial 63, a field of LSW_DUTY of channel 23. -/
def dial0 : DialDef :=
  { dial := 63, keep := true, persist := false, signed := false, role := 0, hi := 9, lo := 0, target := P.lswDuty.addr 23, min := 0,
    max := 1000, step := 0, interval := 100 }
def rb0 : RoadBook :=
  { id := 1, hash := [], base := [], ovr := [(15, P.lswDuty.addr 0, 500#32)],
    recipes := [{ idx := 0, gnss := 0, dflt := 0, models := [], payload := [] }, { idx := 15, gnss := 1, dflt := 1, models := [], payload := [] }],
    dials := [dial0], calu := [], models := [] }
def netRb : Mod := { net0 with sys := { rb := some rb0 } }

theorem witness_DialSetIsJudged :
    (∀ e ∈ [(1000, none), (1001, some 7)], Asks netRb sess0 0x0021 (bytes [(4, 63), (4, e.1)])
      ∧ ((netRb.sys.rb.map (·.dials)).getD []).find? (fun d => d.dial = leAt (bytes [(4, 63), (4, e.1)]) 0 1) = some dial0
      ∧ ((netRb.at 5).accepting (req sess0 0x0021 (bytes [(4, 63), (4, e.1)])) sess0).dialRefuse sess0.role dial0
          (dial0.num (leAt (bytes [(4, 63), (4, e.1)]) 4 4)) = e.2
      ∧ dial0.target ≠ P.bgSuperseded.addr 0 ∧ dial0.target ≠ P.bgSuperseded.addr 1 ∧ dial0.target ≠ P.netTxMsgs.addr
      ∧ dial0.target ≠ P.loopFlags.addr)
    ∧ (∀ e ∈ [(15, true), (14, false)], Asks netRb sess0 0x0020 (bytes [(4, e.1)]) ∧ netRb.declared (leAt (bytes [(4, e.1)]) 0 1) = e.2)
    ∧ (netRb.running = true ∧ netRb.writeCheck 0 P.sysRecipeSel.base 15#32 = .ok (P.sysRecipeSel, 0, 0)
      ∧ netRb.declared (15#32 : Word).toNat = true) := by
  refine ⟨?_, ?_, by decide +kernel, by rfl, by decide +kernel⟩ <;> intro e he <;> simp only [List.mem_cons, List.not_mem_nil, or_false] at he <;>
    rcases he with rfl | rfl
  · exact ⟨asks (by decide +kernel) (by decide +kernel), by decide +kernel, by decide +kernel, by decide +kernel⟩
  · exact ⟨asks (by decide +kernel) (by decide +kernel), by decide +kernel, by decide +kernel, by decide +kernel⟩
  · exact ⟨asks (by decide +kernel) (by decide +kernel), by decide +kernel⟩
  · exact ⟨asks (by decide +kernel) (by decide +kernel), by decide +kernel⟩
/-- A group of one legal pair in execution. -/
def group0 : CalGroup := { sid := 7, seq := 1, tr := 1, peer := 9, words := [(0x21200000, 0#32)] }
def netCal : Mod := { net0 with net := { sessions := [sess0], cal := some group0 } }

theorem witness_CalibrationGroupsApplyWhole :
    (Asks net0 sess0 0x0030 (bytes [(2, 1), (2, 0), (4, 0x21000000), (4, 0)])
      ∧ findPos (fun e => !caluPairOk e) (pairsOf ((bytes [(2, 1), (2, 0), (4, 0x21000000), (4, 0)]).drop 4)) = some 0)
    ∧ (Asks net0 sess0 0x0030 ([64, 0, 0, 0] ++ (List.replicate 64 (bytes [(4, 0x21200000), (4, 0)])).flatten)
      ∧ ([64, 0, 0, 0] ++ (List.replicate 64 (bytes [(4, 0x21200000), (4, 0)])).flatten).length = 4 + 8 * 64
      ∧ findPos (fun e => !caluPairOk e) (pairsOf ((List.replicate 64 (bytes [(4, 0x21200000), (4, 0)])).flatten)) = none)
    ∧ (Store.wf netCal.regs = true ∧ netCal.net.cal = some group0 ∧ netCal.net.waiting = [] ∧ netCal.session? group0.sid = some sess0
      ∧ netCal.reaches sess0.tr = true) :=
  ⟨⟨asks (by decide +kernel) (by decide +kernel), by decide +kernel⟩, ⟨asks (by decide +kernel) (by decide +kernel), by decide +kernel, by decide +kernel⟩, by decide +kernel⟩

/-- A module with a service key in slot 3. -/
def netKey : Mod := { net0 with nv := { dome := { slots := [(3, [7#8], true)] } } }
def hello0 : Msg :=
  { tr := 1, peer := 9, magic := 0x4C56, version := 1, kind := 0, typ := 1, len := 20, sid := 0, seq := 1,
    body := [3, 1, 0, 0] ++ List.replicate 16 0, tag := [] }

/-- A pending session. -/
def sessPend : Session := { sess0 with opened := false }
def netPend : Mod := { net0 with net := { sessions := [sessPend] } }
def proof0 : List Byte := padTo 16 (Config.hmacSha256 sessPend.key (ascii "VOLRON-C" ++ sessPend.nonceC ++ sessPend.nonceM))

theorem witness_HelloAndAuthOpenSessions :
    ((st netKey).Canonical ∧ netKey.carries hello0.tr = true ∧ netKey.net.cal = none ∧ msgOk hello0 = true ∧ hello0.kind = 0
      ∧ hello0.body.length = 20 ∧ (netKey.at 5).helloCheck 1 9 (leAt hello0.body 0 1) (leAt hello0.body 1 1) = .ok [7#8]
      ∧ (net0.at 5).helloCheck 1 9 3 1 = .error 14)
    ∧ ((st netPend).Canonical ∧ netPend.carries 1 = true ∧ netPend.session? 7 = some sessPend ∧ sessPend.opened = false
      ∧ (netPend.at 5).now ≤ sessPend.since + 5 * 10 ^ 9
      ∧ msgTagOk (req sessPend 3 proof0) sessPend = true ∧ (req sessPend 3 proof0).body = proof0 ∧ msgOk (req sessPend 3 proof0) = true
      ∧ msgTagOk (req sessPend 3 []) sessPend = true ∧ (req sessPend 3 []).body ≠ proof0 ∧ msgTagOk (plainReq sessPend 3 []) sessPend = false)
    ∧ (netPend.net.sessions.find? (fun y => y.idx = 0 && !y.opened) = some sessPend
      ∧ sessPend.since + 5 * 10 ^ 9 ≤ (({ netPend with now := 5000000000 } : Mod).at 705032704).now
      ∧ netPend.authWaits sessPend = false)
    ∧ (net0.net.sessions.find? (fun y => y.idx = 0 && y.opened) = some sess0
      ∧ sess0.lastMsg + net0.rd P.netIdleS * 10 ^ 9 ≤ (({ net0 with now := 40000000000 } : Mod).at 0).now) := by
  have tagged : ∀ b, msgTagOk (req sessPend 3 b) sessPend = true := fun b => by simp [msgTagOk, req, plainReq, msgHeader]
  have long : proof0.length = 16 := by simp [proof0, padTo]; omega
  have untagged : msgTagOk (plainReq sessPend 3 []) sessPend = false := by
    apply decide_eq_false
    intro h
    have := congrArg List.length h
    simp [plainReq, tagOf, padTo] at this
    omega
  refine ⟨⟨by unfold State.Canonical; decide +kernel, by decide +kernel⟩, ⟨by unfold State.Canonical; decide +kernel, by decide +kernel, by decide +kernel, by decide +kernel, by decide +kernel,
    tagged _, rfl, by simp [msgOk, req, plainReq, long], tagged _, ?_, untagged⟩, by decide +kernel, by decide +kernel⟩
  intro h
  have := congrArg List.length h
  simp [req, plainReq, long] at this

/-- A module that lets frames out on channel 3. -/
def netTx : Mod := put net0 [(P.canTxAllow, 3, 1)]

theorem witness_QueueingRequestsTakeEffect :
    (Asks netTx sess0 0x005A ([3, 0, 0, 0] ++ bytes [(4, 0x1FFFFFFF), (1, 15), (1, 0x80)] ++ List.replicate 68 0)
      ∧ (let b := [3, 0, 0, 0] ++ bytes [(4, 0x1FFFFFFF), (1, 15), (1, 0x80)] ++ List.replicate 68 0
         let f := frameOf 7 (netTx.at 5).now (b.drop 4)
         b.length = 78 ∧ f.dlc ≤ 15 ∧ f.id < (if f.ext then 2 ^ 29 else 2 ^ 11) ∧ netTx.rd P.canTxAllow 3 = 1 ∧ f.fd = false ∧ f.rtr = false))
    ∧ (∀ e ∈ [(2, 0x80), (3, 0xC0)],
        Asks netTx sess0 0x005A (bytes [(1, e.1), (3, 0), (4, 0x1FFFFFFF), (1, 15), (1, e.2)] ++ List.replicate 68 0)
        ∧ (let b := bytes [(1, e.1), (3, 0), (4, 0x1FFFFFFF), (1, 15), (1, e.2)] ++ List.replicate 68 0
           let f := frameOf 7 (netTx.at 5).now (b.drop 4)
           b.length = 78 ∧ f.dlc ≤ 15 ∧ f.id < (if f.ext then 2 ^ 29 else 2 ^ 11) ∧ (netTx.rd P.canTxAllow e.1 ≠ 1 ∨ f.rtr = true)))
    ∧ (Asks net0 sess0 0x0070 [0, 0, 0, 0] ∧ 4 ≤ ([0, 0, 0, 0] : List Byte).length)
    ∧ (Asks netLog sess0 0x0061 (bytes [(4, 9)]) ∧ netLog.log.holds (leVal (bytes [(4, 9)])) = true ∧ netLog.log.full = false) := by
  refine ⟨⟨asks (by decide +kernel) (by decide +kernel), by decide +kernel⟩, ?_, ⟨asks (by decide +kernel) (by decide +kernel), by decide +kernel⟩,
    asks (by decide +kernel) (by decide +kernel), by decide +kernel⟩
  intro e he
  simp only [List.mem_cons, List.not_mem_nil, or_false] at he
  rcases he with rfl | rfl <;> exact ⟨asks (by decide +kernel) (by decide +kernel), by decide +kernel⟩

/-- Regions with an open update that owns them. -/
def open0 : Region := { st := 2, hdr := List.replicate 160 0, ofs := 160, len := 1184, owner := 7 }
def netUp (g : Region) : Mod := { net0 with nv := { regions := [g, g] } }

/-- A firmware header that is right but for its signature, which no one can judge here: the verification is a constant without a body. -/
def fwHead : List Byte :=
  [0x4B, 0x5A, 0x46, 0x57] ++ bytes [(2, 1), (2, 0), (4, 1184), (2, 0x03C0), (1, 1), (1, 0), (2, 0)] ++ List.replicate 142 0

theorem witness_UpdateRequestsTakeEffect :
    (∀ r ∈ [0, 1], Asks net0 sess0 0x0080 (bytes [(4, r)] ++ List.replicate 160 0) ∧ net0.nv.regions.length = 2
      ∧ (bytes [(4, r)] ++ List.replicate 160 0).length = 164 ∧ (net0.region r).busy = false)
    ∧ (Config.ecdsaVerify Config.firmwareKey (Config.sha256 (fwHead.take 0x60)) ((fwHead.drop 0x60).take 64) = true →
      checkFirmware ((net0.at 5).accepting (req sess0 0x0080 (bytes [(4, 0)] ++ fwHead)) sess0) fwHead = .ok ())
    ∧ (Asks (netUp open0) sess0 0x0081 (bytes [(1, 1), (1, 0), (2, 1024), (4, 160)] ++ List.replicate 1024 0)
      ∧ (let b := bytes [(1, 1), (1, 0), (2, 1024), (4, 160)] ++ List.replicate 1024 0
         let e := (netUp open0).region 1
         b.length = 8 + leAt b 2 2 ∧ e.busy = true ∧ e.owner = 7 ∧ e.stale = false ∧ leAt b 4 4 = e.ofs ∧ e.ofs + leAt b 2 2 ≤ e.len
         ∧ 4 ≤ leAt b 2 2 ∧ leAt b 2 2 ≤ 1024 ∧ leAt b 2 2 % 4 = 0 ∧ e.buf.length + leAt b 2 2 ≤ 65536))
    ∧ (Asks (netUp { open0 with ofs := 1184 }) sess0 0x0082 (bytes [(4, 1)])
      ∧ ((netUp { open0 with ofs := 1184 }).region 1).ofs = ((netUp { open0 with ofs := 1184 }).region 1).len)
    ∧ Asks (netUp open0) sess0 0x0083 (bytes [(4, 0)])
    ∧ (((netUp { open0 with op := some true }).region 0).op = some true ∧ ((netUp { open0 with op := some false }).region 1).op = some false
      ∧ ((netUp { open0 with op := some false }).region 1).stale = false)
    ∧ (let e := (netUp { open0 with st := 3 }).region 1
       e.st = 3 ∧ e.op = none ∧ e.need = none ∧ (netUp { open0 with st := 3 }).toll.holdup = false) := by
  refine ⟨?_, ?_, ⟨asks (by decide +kernel) (by decide +kernel), by decide +kernel⟩, ⟨asks (by decide +kernel) (by decide +kernel), by decide +kernel⟩, asks (by decide +kernel) (by decide +kernel),
    by decide +kernel, by decide +kernel⟩
  · intro r hr
    simp only [List.mem_cons, List.not_mem_nil, or_false] at hr
    rcases hr with rfl | rfl <;> exact ⟨asks (by decide +kernel) (by decide +kernel), by decide +kernel, by decide +kernel, by decide +kernel⟩
  · intro h
    unfold checkFirmware
    rw [h]
    rfl

/-- A provisioning token that is right but for its certificate, signature and payload, which are judged by constants without a body. -/
def token0 : List Byte := ascii "KZPT" ++ bytes [(2, 1), (2, 1), (8, 0)] ++ List.replicate 1112 0
def netProv : Mod := { net0 with nv := { dome := { nonce := some (List.replicate 16 0) } } }

theorem witness_ProvisioningTakesEffect :
    Asks net0 sess0 0x0090 []
    ∧ (Asks netProv sess0 0x0091 token0 ∧ token0.length = 1128
      ∧ (∀ pl, (∀ k d g, Config.ecdsaVerify k d g = true) → (∀ k n a c g, Config.aesGcmOpen k n a c g = some pl) →
        netProv.tokenCheck token0 = .ok pl))
    ∧ (Asks net0 sess0 0x0091 token0 ∧ net0.tokenCheck token0 = .error 0x31) := by
  refine ⟨asks (by decide +kernel) (by decide +kernel), ⟨asks (by decide +kernel) (by decide +kernel), by decide +kernel, ?_⟩, asks (by decide +kernel) (by decide +kernel), by decide +kernel⟩
  intro pl h1 h2
  unfold Mod.tokenCheck Mod.tokenPayload
  simp only [h1, h2]
  rfl

/-- A module with both ports of the switch up. -/
def ethUp : Mod := put run0 [(P.netLink, 0, 10)]
def frame0 : List Byte := bytes [(6, 0x0302010000AA), (6, 0x0402010000AA), (2, 8)]

theorem witness_EthernetPortsAnswer :
    (∀ port ∈ [0, 1], (st run0).Canonical ∧ port < 2 ∧ run0.net.ethBad.contains port = false ∧ run0.bist.phase ≠ .off ∧ run0.link port ≠ 2)
    ∧ (∀ port ∈ [0, 1], ethUp.answers port (ethUp.rd P.netIp) = true)
    ∧ (ethUp.evc.raised = [] ∧ (st ethUp).Canonical ∧ ethUp.link 0 ≠ 0 ∧ ethUp.link 1 ≠ 0 ∧ ethUp.running = true ∧ 14 ≤ frame0.length
      ∧ isPtp frame0 = false ∧ beVal (frame0.take 6) ≠ ethUp.hostMac false ∧ beVal (frame0.take 1) % 2 = 0
      ∧ beVal ((frame0.drop 6).take 6) ≠ beVal (frame0.take 6) ∧ ethUp.net.macs = [])
    ∧ (let e : MacEntry := { mac := beVal (frame0.take 6), port := 1, seen := 0 }
       let m : Mod := { ethUp with net := { macs := [e] } }
       m.net.macs = [e] ∧ e.mac = beVal (frame0.take 6) ∧ (m.at 5).now < e.seen + 300 * 10 ^ 9 ∧ e.port = 1) := by
  unfold State.Canonical; decide +kernel

/-! ### Witnesses: register writes -/

theorem witness_RegisterWritesTakeEffect :
    (run0.evc.raised = [] ∧ (st run0).Canonical ∧ run0.running = true ∧ run0.writeCheck 1 0x2 0#32 = .error 11)
    ∧ (run0.writeCheck 1 P.bistFlags.base 1#32 = .ok (P.bistFlags, 0, 0) ∧ P.bistFlags.cls = .w1c ∧ P.bistFlags.base ≠ P.evcFlags.base
      ∧ P.bistFlags.base ≠ P.logFlags.base)
    ∧ (Asks net0 sess0 0x0011 (bytes [(2, 1), (2, 0), (4, 2), (4, 0)])
      ∧ ((net0.at 5).accepting (req sess0 0x0011 (bytes [(2, 1), (2, 0), (4, 2), (4, 0)])) sess0).writeCheck sess0.role
          (leAt (bytes [(2, 1), (2, 0), (4, 2), (4, 0)]) 4 4) (w32 (leAt (bytes [(2, 1), (2, 0), (4, 2), (4, 0)]) 8 4)) = .error 11)
    ∧ ((0#32 : Word) ≠ 1#32 ∧ Instr.evcClr 5 0 0#32 ∈ [Instr.sysDecLatClr 5 0 0#32, .evcClr 5 0 0#32]) := by
  refine ⟨⟨rfl, by unfold State.Canonical; decide +kernel, by decide +kernel, by rfl⟩, ⟨by rfl, by decide +kernel⟩, ⟨asks (by decide +kernel) (by decide +kernel), by rfl⟩, by decide +kernel⟩

/-! ### Witnesses: event delivery and the recorder -/

/-- A queue with one event, and a session that subscribes to its source. -/
def sessSub : Session := { sess0 with sub := some { mask := 4, maxPrio := 0 } }
def evcQ : Mod := { run0 with evc := { q := [ev0] }, net := { sessions := [sessSub] } }
def sessBuf : Session := { sessSub with buf := [ev0] }
def evcBuf : Mod := { run0 with net := { sessions := [sessBuf] } }

theorem witness_EventsReachFirmwareAndSessions :
    (evcQ.evc.raised = [] ∧ evcQ.evc.q = ev0 :: [] ∧ (evcQ.net.sessions.map (·.id)).Nodup ∧ (∀ x ∈ evcQ.net.sessions, x.buf.length < 256)
      ∧ ev0.fw = true ∧ ev0.stream = true ∧ (∃ b, sessSub.sub = some b ∧ b.mask.testBit ev0.src = true ∧ ev0.prio ≤ b.maxPrio))
    ∧ (evcBuf.net.sessions.find? (fun y => y.idx = 0 && y.opened) = some sessBuf ∧ evcBuf.session? sessBuf.id = some sessBuf
      ∧ sessBuf.sub.isSome = true ∧ (evcBuf.at 5).streamDue sessBuf = true) :=
  ⟨⟨by decide +kernel, by decide +kernel, by decide +kernel, by decide +kernel, rfl, rfl, _, rfl, by decide +kernel⟩, by decide +kernel⟩

/-- A record that waits, and recorders about to take it: with room, full, and with one free slot. -/
def rec0 : Rec :=
  { seq := 0, opSec := 0, cycle := 0, valid := false, held := false, trunc := false, internal := false, prio := 0, code := 0x0201, src := 2,
    check := 0, time := 0, data := [] }
def logRoom : Mod := { run0 with log := { q := [rec0], ready := true } }
def logFull : Mod := { put run0 [(P.logWarnFill, 0, 0)] with log := { q := [rec0], full := true, ready := true } }
def logLast : Mod := { put run0 [(P.logWarnFill, 0, 0)] with log := { q := [rec0], next := 8191, ready := true } }

/-- A pair with suppressions at the end of an interval. -/
def bucket0 : Bucket := { src := 2, code := 0x0201, tokens := 3, suppressed := 5 }
def logSupp : Mod := { put run0 [(P.logWarnFill, 0, 0)] with now := 1000000000, log := { buckets := [bucket0], ready := true } }

theorem witness_RecorderWritesInOrder :
    (logRoom.evc.raised = [] ∧ logRoom.log.q = rec0 :: [] ∧ logRoom.log.full = false ∧ logRoom.log.fill < 8191 ∧ logRoom.log.warned = false
      ∧ logRoom.log.fill + 1 < logRoom.rd P.logWarnFill ∧ logRoom.log.ready = true)
    ∧ ({ logRoom with bist := { phase := .core } } : Mod).running = false
    ∧ (logFull.log.full = true ∧ logFull.rd P.logWarnFill = 0 ∧ logFull.log.warned = false)
    ∧ (logLast.log.full = false ∧ logLast.log.fill = 8191 ∧ logLast.rd P.logWarnFill = 0 ∧ logLast.evc.q.length < 4096 ∧ logLast.NoTrace 120)
    ∧ (logSupp.evc.raised = [] ∧ logSupp.log.ivals < (logSupp.at 1000000000).now / 10 ^ 9 ∧ logSupp.log.buckets = [bucket0]
      ∧ bucket0.suppressed ≠ 0 ∧ logSupp.log.full = false ∧ logSupp.log.fill < 8191 ∧ logSupp.rd P.logWarnFill = 0
      ∧ logSupp.evc.q.length < 4096 ∧ logSupp.NoTrace 120)
    ∧ (run0.evc.raised = [] ∧ (st run0).Canonical ∧ run0.running = true) := by
  unfold Mod.NoTrace State.Canonical; decide +kernel

theorem witness_RecorderClocksRun :
    run0.evc.raised = [] ∧ ((logSupp.log.buckets.map (fun b => (b.src, b.code))).Nodup)
    ∧ (({ run0 with now := 1000000000 } : Mod).log.ivals < (({ run0 with now := 1000000000 } : Mod).at 1000000000).now / 10 ^ 9
      ∧ (∀ b ∈ run0.log.buckets, b.suppressed = 0)) := by decide +kernel

/-! ### Witnesses: start-up, milestones and restarts -/

def inPhase (p : Phase) : Mod := { run0 with bist := { phase := p } }

/-- The core tests are due. -/
def core0 : Mod := { inPhase .core with toll := { logicUp := true } }
def testRes (k r : Nat) : TestRes := { test := k, result := r, coverage := 10000, duration := 1, units := [], pre := 0 }
def coreRes (f : Nat → Nat) : List TestRes := (List.range 5).map (fun k => testRes k (f k))

/-- A core test was not run and is tried again. -/
def coreAgain : Mod :=
  { put core0 [(P.bistRes, 4, 2 * 2 ^ 30)] with now := 5000000000, bist := { phase := .core, retryAt := some 0 } }

/-- Firmware in flash whose header is right but for its signature and its body's digest, which are judged by constants without a body. -/
def fwUp (m : Mod) : Mod := { m with nv := { m.nv with regions := [{ st := 0, bytes := fwHead ++ List.replicate 1024 0, img := fwHead ++ List.replicate 1024 0 }, {}] } }

theorem firmware_ok (m : Mod) (h1 : ∀ k d g, Config.ecdsaVerify k d g = true) (h2 : ∀ l, Config.sha256 l = List.replicate 32 0#8)
    (h3 : m.rd P.sysVariant = 1) (h4 : m.nv.dome.rollback = 0) : (fwUp m).firmwareOk = true := by
  have a : (fwUp m).rd P.sysVariant = 1 := h3
  have b : (fwUp m).nv.dome.rollback = 0 := h4
  have c : ((fwUp m).region 0).img = fwHead ++ List.replicate 1024 0 := rfl
  unfold Mod.firmwareOk
  simp only [c]
  unfold checkFirmware
  simp only [h1, h2, a, b]
  rfl

theorem witness_StartConditionBeginsSequence :
    (State.reset.m.bist.phase.startable = true ∧ State.reset.m.nv.tripped = false)
    ∧ (run0.evc.raised = [] ∧ (st run0).Canonical ∧ run0.bist.phase.startable = false)
    ∧ (inPhase .memory).bist.phase ∈ [Phase.core, .tests, .checks, .memory, .rbInvalid, .safe, .recovery]
    ∧ run0.bist.phase ∈ [Phase.outputs, .ready, .running]
    ∧ ((st core0).Canonical ∧ core0.bist.phase = .core ∧ core0.nv.dome.pending = false ∧ core0.toll.logicUp = true
      ∧ core0.bist.retryAt = none ∧ (coreRes (fun k => if k = 4 then 1 else 0)).map (·.test) = [0, 1, 2, 3, 4]
      ∧ (∀ r ∈ coreRes (fun k => if k = 4 then 1 else 0), r.result = if r.test = 4 then 1 else 0)
      ∧ (∀ r ∈ coreRes (fun _ => 0), r.result = 0) ∧ core0.nv.milestone = some {} ∧ core0.bist.recHeld = false
      ∧ (∀ r ∈ coreRes (fun k => if k = 4 then 2 else 0), r.result = 0 ∨ r.result = 2)
      ∧ (∃ r ∈ coreRes (fun k => if k = 4 then 2 else 0), r.result = 2))
    ∧ ((∀ k d g, Config.ecdsaVerify k d g = true) → (∀ l, Config.sha256 l = List.replicate 32 0#8) → (fwUp core0).firmwareOk = true)
    ∧ (coreAgain.bist.retryAt = some 0 ∧ 0 + 100000000 ≤ (coreAgain.at 705032704).now ∧ (testRes 4 0).test < 5
      ∧ coreAgain.testResult 4 = 2 ∧ (∀ n, n < 5 → n ≠ 4 → coreAgain.testResult n = 0) ∧ coreAgain.nv.milestone = some {}
      ∧ 5000000000 ≤ (coreAgain.at 705032704).now) := by
  refine ⟨by decide +kernel, ?_, by decide +kernel, by decide +kernel, ?_, fun h1 h2 => firmware_ok _ h1 h2 (by decide +kernel) rfl,
    by decide +kernel⟩
  · unfold State.Canonical; decide +kernel
  · unfold State.Canonical; decide +kernel

/-- A road book of one recipe and one model that declares the supply model; its signature and digest are judged by constants without a body. -/
def rbImage : List Byte :=
  ascii "KZRB" ++ bytes [(2, 1), (2, 0), (4, 304), (2, 0x03C0), (1, 1), (1, 0), (2, 0), (2, 0), (4, 4), (8, 1), (8, 0)] ++ List.replicate 120 0
    ++ bytes [(1, 1), (1, 255), (2, 0), (4, 40), (4, P.tollCBulk.base), (4, 4700), (4, P.tollVSet.base), (4, 48000), (4, P.tollVFloor.base),
        (4, 42000), (4, P.tollISup.base), (4, 2000), (4, P.tollQBoost.base), (4, 285)]
    ++ bytes [(1, 3), (1, 255), (2, 0), (4, 0x24), (2, 1), (2, 0), (4, 0)] ++ List.replicate 28 0
    ++ bytes [(1, 4), (1, 0), (2, 0), (4, 0x24), (1, 0), (1, 1), (1, 0), (1, 0)] ++ List.replicate 24 0 ++ bytes [(2, 1), (2, 0), (2, 1), (2, 0)]
    ++ bytes [(1, 0x7F), (1, 255), (2, 0), (4, 0)]
def rbUp : Mod :=
  { inPhase .checks with bist := { phase := .checks, actVkeys := [(0, [])] }, nv := { regions := [{}, { st := 0, bytes := rbImage, img := rbImage }] } }

theorem road_book_ok (h1 : ∀ k d g, Config.ecdsaVerify k d g = true) (h2 : ∀ l, Config.sha256 l = List.replicate 32 0#8) :
    ∃ rb, checkRoadBook (rbUp.at 5) none = .ok rb := by
  have h : (checkRoadBook (rbUp.at 5) none).isOk = true := by
    unfold checkRoadBook checkHeader checkHead
    simp only [h1, h2]
    decide +kernel
  cases e : checkRoadBook (rbUp.at 5) none with
  | ok rb => exact ⟨rb, rfl⟩
  | error x => rw [e] at h; cases h

/-- The main memory is tested; the parsed road book is rb0. -/
def memUp : Mod :=
  { inPhase .memory with sys := { parsed := some rb0 }, bist := { phase := .memory, actModel := some [] },
                         cell := { towers := List.replicate 16 { ok := true } } }
def badLines : List (Nat × Nat) := (List.range 4097).map (fun k => (3, k))

theorem witness_RoadBookIsCheckedAtStart :
    ((inPhase .tests).bist.phase = .tests ∧ (∀ r ∈ [testRes 6 0], r.test = 6 → r.result ≠ 2)
      ∧ (∃ r ∈ [testRes 6 2], r.test = 6 ∧ r.result = 2))
    ∧ (rbUp.bist.phase = .checks ∧ (st rbUp).Canonical
      ∧ ((∀ k d g, Config.ecdsaVerify k d g = true) → (∀ l, Config.sha256 l = List.replicate 32 0#8) →
        ∃ rb, checkRoadBook (rbUp.at 5) none = .ok rb)
      ∧ checkRoadBook (rbUp.at 5) (some 0) = .error (0x12, 0))
    ∧ (memUp.bist.phase = .memory ∧ (testRes 5 0).test = 5 ∧ memUp.sys.parsed = some rb0 ∧ memUp.lastChecks rb0 = none
      ∧ (∀ ch, ch < 4 → (([(3, 7)] : List (Nat × Nat)).filter (fun l => l.1 = ch)).length ≤ 4096)
      ∧ (st memUp).Canonical ∧ 4096 < (badLines.filter (fun l => l.1 = 3)).length ∧ (testRes 5 2).result = 2 ∧ (testRes 5 0).result ≠ 2) := by
  refine ⟨by decide +kernel, ⟨rfl, ?_, road_book_ok, rfl⟩, rfl, rfl, rfl, ?_, ?_⟩
  · unfold State.Canonical; decide +kernel
  · decide +kernel
  · unfold State.Canonical; decide +kernel

/-- A module about to enter RUNNING, and one that has a test deferred. -/
def deferred0 : Mod := { run0 with bist := { phase := .running, deferred := [11] }, toll := { within := List.replicate 8 100000 } }

theorem witness_RunningIsEntered :
    (inPhase .outputs).bist.phase = .outputs ∧ ((st (inPhase .ready)).Canonical ∧ (inPhase .ready).bist.phase = .ready
      ∧ ∀ c ∈ (inPhase .ready).cams, c.tplQ = [])
    ∧ (deferred0.supplyHeld 11 = true ∧ deferred0.running = true ∧ deferred0.bist.deferred.contains (testRes 11 0).test = true ∧ 9 ≤ (testRes 11 0).test
      ∧ (testRes 11 0).test ≤ 11 ∧ (testRes 11 0).result ≠ 3)
    ∧ ((st run0).Canonical ∧ run0.bist.phase ≠ .off) := by
  unfold State.Canonical; decide +kernel

/-- A module whose last milestone was number 6, with no failure and with one. -/
def ms0 (fails : Nat) : Mod := { run0 with bist := { phase := .running, msIdx := 1, msNum := 7, fails := fails }, now := 5000000 }
def deep0 : Mod := inPhase .deep

theorem witness_MilestonesCommitAndRestartsFollow :
    ((st (ms0 0)).Canonical ∧ (ms0 0).running = true ∧ (ms0 0).nv.ms.length = 2
      ∧ (ms0 0).bist.e0 + (ms0 0).bist.msIdx * 5000000 ≤ ((ms0 0).at 5000000).now ∧ (ms0 0).bist.msFailed = false
      ∧ (ms0 0).bist.msIdx ≠ 0 ∧ (ms0 0).bist.msNum ≠ 0 ∧ (ms0 0).bist.fails = 0 ∧ 1 ≤ (ms0 1).bist.fails)
    ∧ (deep0.bist.phase = .deep ∧ deep0.log.q = [] ∧ deep0.evc.raised = [])
    ∧ (run0.running = true ∧ run0.toll.holdup = false)
    ∧ ((inPhase .core).running = false ∧ (inPhase .core).bist.phase ≠ .off ∧ (inPhase .core).toll.holdup = false) := by
  unfold State.Canonical; decide +kernel

/-- A change to recipe 15 that waits for its instant. -/
def recipe0 : Mod := { run0 with sys := { rb := some rb0, pend := some (15, 0) }, now := 30000000 }

theorem witness_RecipeTakesEffect :
    (st recipe0).Canonical ∧ recipe0.running = true ∧ recipe0.sys.pend = some (15, 0) ∧ recipe0.sys.rb = some rb0
    ∧ recipe0.effectiveAt 0 ≤ (recipe0.at 30000000).now ∧ recipe0.trk.tally.length = 16 ∧ recipe0.sys.recipe < 16
    ∧ (((recipe0.at 30000000).recipeWords rb0 0 15).map (·.1)).Nodup ∧ P.lswDuty.addr 0 ∈ ((recipe0.at 30000000).recipeWords rb0 0 15).map (·.1)
    ∧ (({ recipe0 with now := 0 } : Mod).at 5).now < recipe0.effectiveAt 0 ∧ run0.sys.pend = none := by
  unfold State.Canonical; decide +kernel

/-! ### Witnesses: camera ports and panels -/

/-- A module with camera port 7 in use, in a given state. -/
def cam7 (c : CamPort) : Mod := { put run0 [(P.camEn, 7, 1)] with cams := List.replicate 7 {} ++ [c] }

/-- The port is in a frame past its latch point; its last pulse was number 4. -/
def pulse0 : Pulse := { k := 4, e := 1000000, w := 10000, on := true }
def camIn : CamPort := { inService := true, clock := true, inFrame := true, latched := true, frames := 3, idx := 9, pulses := [pulse0] }
def camOut : CamPort := { inService := true, clock := true }
def suspect7 : Mod := { cam7 {} with fus := { suspect := [0, 0, 0, 0, 0, 0, 0, 2] } }

theorem witness_PulsesFramesAndLines :
    ((cam7 camOut).portUsed 7 = true ∧ (cam7 camOut).running = true ∧ 7 < (cam7 camOut).cams.length
      ∧ (∀ e ∈ [(0, false), (1, true), (2, true)],
          let m := { put (cam7 camOut) [(P.camInterleave, 7, e.1)] with now := 1000000 }
          m.bist.e0 + m.rd P.camExpPhase 7 + (m.port 7).kNext * m.rd P.camLinePeriod 7 ≤ (m.at 1000000).now
          ∧ (m.port 7).expOld = [] ∧ (m.port 7).expSets = []
          ∧ (e.2 = true ↔ m.rd P.camInterleave 7 = 1 ∨ (m.rd P.camInterleave 7 = 2 ∧ (m.port 7).kNext % 2 = 0))))
    ∧ (let m := cam7 { lostClock := true }
       (st m).Canonical ∧ m.portUsed 7 = true ∧ (m.port 7).lostClock = true ∧ (m.port 7).inService = false ∧ (m.port 7).expOld = []
       ∧ (m.port 7).expSets = [] ∧ (cam7 camOut).running = true ∧ ((cam7 camOut).port 7).lostClock = false)
    ∧ (((cam7 {}).port 7).inFrame = false ∧ (cam7 {}).suspect 7 ≠ 2)
    ∧ (suspect7.portUsed 7 = true ∧ (suspect7.port 7).inFrame = false ∧ suspect7.suspect 7 = 2 ∧ 7 < suspect7.fus.suspect.length)
    ∧ (let m := cam7 camIn
       (st m).Canonical ∧ m.portUsed 7 = true ∧ (m.port 7).inFrame = true ∧ (m.port 7).inService = true ∧ (m.port 7).latched = true
       ∧ (m.at 1100000).nearest 7 ((m.at 1100000).extend 1010000) = some (pulse0, 0) ∧ (m.port 7).kLast = none
       ∧ 4 * (0 : Int).natAbs ≤ m.rd P.camLinePeriod 7 ∧ (List.replicate 4096 7).length = m.rd P.camLineSamples 7 * m.camC 7
       ∧ (m.port 7).idx ≤ m.rd P.camFrameLines 7)
    ∧ (let m := cam7 { camIn with kLast := some 4 }
       (m.at 1100000).nearest 7 ((m.at 1100000).extend 1010000) = some (pulse0, 0) ∧ (m.port 7).kLast = some 4 ∧ pulse0.k ≤ 4)
    ∧ (let m := cam7 { camIn with kLast := some 3 }
       (m.at 1100000).nearest 7 ((m.at 1100000).extend 1010000) = some (pulse0, 0) ∧ (∀ k ∈ (m.port 7).kLast, pulse0.k = k + 1)
       ∧ ([] : List Nat).length ≠ m.rd P.camLineSamples 7 * m.camC 7)
    ∧ (let m := cam7 { camIn with kLast := some 2, idx := 0 }
       (m.at 1100000).nearest 7 ((m.at 1100000).extend 1010000) = some (pulse0, 0) ∧ (m.port 7).idx = 0 ∧ 1 < (m.port 7).frames
       ∧ (m.port 7).kLast = some 2 ∧ 2 + 1 < pulse0.k)
    ∧ (let m := cam7 { camIn with latched := false }
       (m.port 7).latched = false ∧ (m.port 7).inFrame = true ∧ (m.port 7).idx ≤ m.rd P.camFrameLines 7) := by
  unfold State.Canonical; decide +kernel

/-- A port with statistics to publish, and one with a template to send or a reply to await. -/
def acc0 : FrameAcc := { num := 3, seq := 1, ended := true }
def camStat : Mod := cam7 { camOut with accs := [{ acc0 with num := 2, ended := false }, acc0] }
def camLost : Mod := cam7 { camIn with accs := [{ num := 2, seq := 1 }] }
def camTpl : Mod := cam7 { camOut with tplQ := [(3, [1#8])] }
def camWait : Mod := cam7 { camOut with tplQ := [(3, [1#8])], tplWait := some (3, 1000) }

theorem witness_StatisticsAndTemplates :
    ((st camStat).Canonical ∧ 7 < camStat.cams.length ∧ (camStat.port 7).accs.find? (·.ended) = some acc0)
    ∧ ((cam7 camOut).portUsed 7 = true ∧ ((cam7 camOut).port 7).inService = true ∧ ((cam7 camOut).port 7).inFrame = false
      ∧ (cam7 camOut).running = true)
    ∧ ((camLost.port 7).inFrame = true ∧ (∃ a ∈ (camLost.port 7).accs, a.num + 1 = (camLost.port 7).frames)
      ∧ (∀ a ∈ (camLost.port 7).accs, a.num + 1 = (camLost.port 7).frames → a.ended = false))
    ∧ ((camTpl.port 7).tplQ = (3, [1#8]) :: [] ∧ (camTpl.port 7).tplWait = none
      ∧ (camTpl.port 7).serAt + camTpl.serTime 7 [1#8].length ≤ (camTpl.at 86805).now)
    ∧ ((camWait.port 7).tplWait = some (3, 1000) ∧ (camWait.at 1000).now ≤ 1000 ∧ 1000 ≤ (camWait.at 1000).now
      ∧ ([] : List Byte).take (camWait.tplByte 7 3 1)
        = (List.range (camWait.tplByte 7 3 1)).map (fun i => BitVec.ofNat 8 (camWait.tplByte 7 3 (4 + i)))) := by
  unfold State.Canonical; decide +kernel

/-- A line of one channel. -/
def line0 : Line :=
  { frame := 0, idx := 0, seq := 0, on := true, w := 10, t := 5, arr := 6, lost := false, pres := (0, 0), bgInv := 0, px := [[1, 2, 3]], col := [] }
def camLines : Mod := cam7 { camOut with lines := [line0, line0], recon := [line0] }

/-- No tower of a module restarts: no stage's output is lost with its tower, wherever it runs. -/
theorem stage_up {m : Mod} (h : m.cell.towers.all (fun w => w.restarting.isNone) = true) (p k : Nat) : m.stageDown p k = false := by
  unfold Mod.stageDown Mod.tower
  rw [List.all_eq_true] at h
  rw [List.getD_eq_getElem?_getD]
  rcases hi : m.cell.towers[m.physTower (Config.stageTower p k)]? with _ | w
  · rfl
  · simpa using h w (List.mem_of_getElem? hi)

theorem witness_LinesAreReconstructedAndResampled :
    (∀ r ∈ ([] : List LineRead), r.use = 0) ∧ camLines.stageDown 7 0 = false ∧ camLines.stageDown 7 1 = false ∧ 7 < camLines.cams.length ∧ (camLines.port 7).lines = line0 :: [line0] ∧ (camLines.port 7).recon = line0 :: [] ∧ line0.lost = false :=
  ⟨by decide, stage_up (by decide) 7 0, stage_up (by decide) 7 1, by decide +kernel⟩

/-- Panel 1 in use, in a given state. -/
def panel1 (p : Panel) : Mod := { put run0 [(P.bgEn, 0, 2), (P.bgMode, 0, 1)] with panels := [{}, p] }
def region0 (s : RegionStage) : PRegion := { r := 31, stage := s, tries := 1, crc := 77, sum := 500000 }
def group1 (s : RegionStage) : PGroup := { regions := [region0 s], iref := true, selected := false, asked := false, granted := false, retries := 0 }
def panUp (gs : List PGroup) : Panel := { linkUp := true, groups := gs }

theorem witness_PanelsArePresentedAndFollowed :
    (1 < (panel1 (panUp [group1 .queued])).panels.length ∧ ((panel1 (panUp [group1 .queued])).panel 1).linkUp = true
      ∧ (panUp [group1 .queued]).groups.find? (fun g => g.stands 31 .queued) = some (group1 .queued)
      ∧ Nat.max (panUp []).linkFree ((group1 .queued).since 31) + writeFrameNs ≤ ((panel1 (panUp [])).at 184800).now ∧ (panUp [group1 .queued]).presenting 31 = false
      ∧ (panUp [{ group1 .confirmed with selected := true }, group1 .queued]).presenting 31 = true)
    ∧ (let m := panel1 { panUp [group1 .confirmed] with standing := 1000000000 }
       let cand := ((m.panel 1).groups.filter (m.mayShow 1)).map (fun g => { g with irefV := m.rd P.bgIref 1 })
       (m.panel 1).unusable = false ∧ m.running = true ∧ (m.panel 1).picked ≤ (m.panel 1).boundaries
       ∧ m.loadAt (m.panel 1).boundaries ≤ (m.at 0).now + 5000 ∧ cand ≠ [] ∧ m.panelAfterMa 1 cand ≤ (m.panel 1).standing)
    ∧ (let m := panel1 (panUp [group1 .confirmed])
       let cand := ((m.panel 1).groups.filter (m.mayShow 1)).map (fun g => { g with irefV := m.rd P.bgIref 1 })
       cand ≠ [] ∧ m.running = true ∧ (m.panel 1).picked ≤ (m.panel 1).boundaries ∧ m.loadAt (m.panel 1).boundaries ≤ (m.at 0).now + 5000 ∧ (m.panel 1).standing < m.panelAfterMa 1 cand ∧ (∀ g ∈ cand, g.asked = false) ∧ m.asking (.panel 1) = false)
    ∧ (let m := panel1 (panUp [{ group1 .confirmed with selected := true }])
       (st m).Canonical ∧ m.running = true ∧ m.loadAt (m.panel 1).boundaries ≤ (m.at 0).now ∧ m.panelUsed 1 = true
       ∧ (m.panel 1).groups.filter (·.selected) ≠ [] ∧ (m.panel 1).faulty = [])
    ∧ (let m := panel1 (panUp [])
       m.running = true ∧ m.loadAt (m.panel 1).boundaries ≤ (m.at 0).now ∧ m.panelUsed 1 = true ∧ (m.panel 1).unusable = false
       ∧ (m.panel 1).groups.filter (·.selected) = [] ∧ (m.panel 1).faulty = [])
    ∧ (let m := panel1 (panUp [group1 .written])
       (st m).Canonical ∧ m.panelUsed 1 = true ∧ (m.panel 1).linkUp = true ∧ (m.panel 1).unusable = false
       ∧ (m.panel 1).groups = [group1 .written] ∧ (group1 .written).regions = [region0 .written] ∧ (region0 .written).r = 31
       ∧ (region0 .written).stage = .written ∧ field 0x1F0000 20 16 = 31 ∧ (0x1F0000 : Nat).testBit 0 = false ∧ (region0 .written).crc = 77 ∧ (region0 .written).tries < 2)
    ∧ ((panUp []).heard + 100000 ≤ ((panel1 (panUp [])).at 100000).now ∧ ({} : Panel).retryAt ≤ ((panel1 {}).at 0).now)
    ∧ (((panel1 {}).panel 1).linkUp = false ∧ ((panel1 {}).panel 1).unusable = false ∧ (panel1 {}).panelUsed 1 = true) := by
  unfold State.Canonical; decide +kernel

/-! ### Witnesses: fusion -/

def obs0 : Obs :=
  { port := 7, oversize := false, edge := false, linesLost := false, bgi := false, cold := false, span := false, t := 1000000, ta := 1000000,
    x := 0, xa := 0, lane := 0, colFirst := 5, colLast := 9, lines := 4, lost := 0, mass := 50, seq0 := 0, seq1 := 0, vec := [], arrived := 2000 }

/-- Ports 0 and 7 in use, port p seeing the curtain at a height of 40 (p + 1) mm. -/
def fus0 : Mod :=
  { put run0 [(P.camEn, 0, 1), (P.camEn, 7, 1)] with
    nv := { calf := (List.range 8).map (fun p => (542113792 + 4 * p, w32 (40000 * (p + 1)))) } }
def cell0 (k : Nat) : GridCell := { row := 3, col := 5 + k, obj := 200, bgi := false, vec := [] }
def row0 : GridRow := { n := 3, t := 900000, arr := 950000, seq := 0, lost := false }
def blob0 (n : Nat) : Blob := { cells := (List.range n).map cell0, rows := [row0], edge := [], lastRow := 3 }
def layers7 (l : Layer) : Mod := { fus0 with fus := { layers := List.replicate 7 {} ++ [l] } }
def rowWait (l : Layer) : Mod := { layers7 l with cams := List.replicate 7 {} ++ [{ rows := [line0] }] }

theorem witness_RowsBecomeObservations :
    (rowWait {}).stageDown 7 2 = false ∧ ((rowWait {}).port 7).rows ≠ [] ∧ ((st (rowWait {})).Canonical ∧ 7 < (rowWait {}).cams.length ∧ 7 < (rowWait {}).fus.layers.length ∧ ((rowWait {}).port 7).rows = line0 :: []
      ∧ line0.lost = false ∧ (rowWait {}).colVal 7 line0.col P.camInterleave ≠ 2 ∧ ((rowWait {}).fus.layers.getD 7 {}).blobs = []
      ∧ (∀ v ∈ ([] : List (List Int)), toU 8 (v.getD 0 0) < (rowWait {}).rd P.fusObjThr))
    ∧ (let m := layers7 { closed := [(blob0 3, false)] }
       (m.fus.layers.getD 7 {}).closed = (blob0 3, false) :: [] ∧ (blob0 3).cells.length < m.rd P.fusMinCells)
    ∧ (let run : CellRun := { cell := 1023, fmt := .int8, clear := true, ops := [(-128, 127)], shift := 31, width := 8, signed := true }
       (∀ e ∈ [([63], true), ([], false)],
         ({ run0 with cell := { towers := List.replicate 15 {} ++ [{ ok := true, bound := e.1 }] } } : Mod).cellWorks run.cell = e.2)
        ∧ run.shift ≤ 31 ∧ (run.width = 8 ∨ run.width = 16 ∨ run.width = 32))
    ∧ (let m := layers7 { closed := [(blob0 4, false)] }
       m.rd P.fusMinCells ≤ (blob0 4).cells.length ∧ m.heightOk 7 = true ∧ m.excluded.testBit 7 = false ∧ m.trk.win = none
       ∧ (put m [(P.sysSuspect, 0, 128)]).excluded.testBit 7 = true ∧ (put m [(P.sysSuspect, 0, 128)]).heightOk 7 = true) := by
  refine ⟨stage_up (by decide) 7 2, ?_⟩
  unfold State.Canonical; decide +kernel

/-- A track with an observation of port 7 and a later one of port 0. -/
def trk0 : Track :=
  { slot := 0, serial := 5, st := .open_, recipe := 0, variant := none, tFirst := 1000000, ta := 1000000, xa := 0, lane := 0, colFirst := 5,
    colLast := 9, obs := [obs0, { obs0 with port := 0, t := 80000000 }], lot := 0, vals := [(P.camEn.addr 0, 1#32), (P.camEn.addr 7, 1#32)],
    calu := [] }
def trkMod (k : Track) : Mod := { fus0 with trk := { live := [k] } }
def moving : Track := { trk0 with readyAt := some 90000000 }
def lane0 : Lane := { v := 4000000, a := 9810000, w := 0 }
def lanes99 (l : Lane) : Mod := { run0 with fus := { lanes := List.replicate 99 lane0 ++ [l] } }

theorem witness_LaneBlocksFollowMotion :
    (let m := trkMod moving
     let obs := moving.obs.filter (fun o => !m.excluded.testBit o.port)
     let top : HPoint := { h := 320000, t := 1000000, x := 0, lane := 0 }
     let bot : HPoint := { h := 40000, t := 80000000, x := 0, lane := 0 }
     (st m).Canonical ∧ m.track? 5 = some moving ∧ moving.motionDue = true ∧ obs.any (fun o => o.oversize || o.linesLost) = false
     ∧ pointsOf (m.trkHt moving) obs = top :: [bot] ∧ ([bot].getLastD top) = bot ∧ m.rd P.fusDhMin ≤ top.h - bot.h ∧ top.t < bot.t
     ∧ (m.lane 0).warm = false ∧ 0 < m.fus.lanes.length)
    ∧ (let m := { lanes99 { lane0 with nv := 200 } with now := 2000000000 }
       99 < m.laneCount ∧ 99 < m.fus.lanes.length ∧ (m.lane 99).warm = false ∧ 200 ≤ (m.lane 99).nv
       ∧ (m.lane 99).coldAt + 2 * 10 ^ 9 ≤ (m.at 2000000000).now)
    ∧ (let m := { lanes99 { lane0 with warm := true } with now := 6000000000 }
       (m.lane 99).warm = true ∧ (m.lane 99).lastV + m.rd P.fusStaleS * 10 ^ 9 ≤ (m.at 1705032704).now)
    ∧ (run0.running = true ∧ run0.laneCount ≤ run0.fus.lanes.length) := by
  unfold State.Canonical; decide +kernel

/-- Port 7 has been out of service, and a sensor is suspect. -/
def absent7 : Mod :=
  { put run0 [(P.camEn, 7, 1)] with cams := List.replicate 7 {} ++ [{ outSince := some 0 }], now := 200000000 }
def suspect0 : Mod :=
  { run0 with fus := { suspect := [1, 0, 0, 0, 0, 0, 0, 2], kept := true }, now := 60000000000 }

theorem witness_SuspectsChangeSensorSet :
    ((st absent7).Canonical ∧ absent7.fus.suspect.length = 8 ∧ (absent7.port 7).outSince = some 0 ∧ absent7.rd P.camEn 7 = 1
      ∧ absent7.suspect 7 = 0 ∧ 0 + absent7.rd P.fusAbsentMs * 10 ^ 6 < (absent7.at 200000000).now)
    ∧ (suspect0.running = true ∧ (255#32 : Word).toNat < 256)
    ∧ (suspect0.fus.kept = true ∧ suspect0.fus.remindAt + suspect0.rd P.fusRemindS * 10 ^ 9 ≤ (suspect0.at 4165425152).now
      ∧ suspect0.suspectMask ≠ 0 ∧ suspect0.chooseVariant = none) := by
  unfold State.Canonical; decide +kernel

/-! ### Witnesses: the cell array -/

/-- Tower 15 in a given state. -/
def tower15 (w : Tower) : Mod := { run0 with cell := { towers := List.replicate 15 {} ++ [w] } }
def up15 : Tower := { ok := true }

/-- A stored line of SRAM at the last address of tower 15: right, with one wrong symbol, with three, and as it would stand at the address
before. -/
def goodSyms : List Nat := encodeSyms 1 0x1FFDFF (List.replicate 32 7)
def good : LineRead := { tag := 1, addr := 0x1FFDFF, word := bytesOf goodSyms, use := 0 }
def bad1 : LineRead := { good with flips := [(4, 14)] }
def bad3 : LineRead := { good with flips := [(4, 14), (6, 6), (30, 5)] }
def moved : LineRead := { good with word := bytesOf (encodeSyms 1 0x1FFDFE (List.replicate 32 7)) }

theorem witness_TowersAndLinesAreKept :
    ((st (tower15 up15)).Canonical ∧ 15 < (tower15 up15).cell.towers.length ∧ (tower15 up15).towerUp 15 = true
      ∧ ((tower15 up15).tower 15).gated = false ∧ ((tower15 up15).tower 15).never = false
      ∧ ((tower15 up15).tower 15).busyAt + 100000 < ((tower15 up15).at 100001).now ∧ (tower15 up15).cell.jobs.any (fun j => j.towers.contains 15) = false)
    ∧ (let m := tower15 { up15 with gated := true }
       m.towerUp 15 = true ∧ (m.tower 15).gated = true ∧ (m.tower 15).grantedAt = none ∧ (m.tower 15).resuming = false
       ∧ m.asking (.tower 15) = false)
    ∧ (let m := tower15 { up15 with gated := true, resuming := true, grantedAt := some 0 }
       m.towerUp 15 = true ∧ (m.tower 15).grantedAt = some 0 ∧ 0 + 2000 ≤ (m.at 2000).now)
    ∧ (good.tag = 1 ∧ good.merge = [] ∧ decodeLine 1 0x1FFDFF (run0.found good) = .clean ∧ (lineLoc 1 0x1FFDFF).1 = 20
      ∧ decodeLine 1 0x1FFDFF (run0.found bad1) = .corrected 1 goodSyms ∧ ((assocGet run0.cell.ce 20).getD []).length < run0.rd P.cellCeLimit
      ∧ decodeLine 1 0x1FFDFF (run0.found bad3) = .uncorrectable ∧ decodeLine 1 0x1FFDFF (run0.found moved) = .address
      ∧ lineExists 1 0x1FFDFF = true ∧ lineExists 1 0x1FFE00 = false)
    ∧ (∀ e ∈ [(0, true), (2 ^ 28 - 8192, true), (2 ^ 28 - 4096, false)],
        let m : Mod := { run0 with cell := { scrubGranted := true, scrubPos := e.1 } }
        m.cell.scrubGranted = true ∧ (if e.2 = true then m.cell.scrubPos + 4096 < 2 ^ 28 else 2 ^ 28 ≤ m.cell.scrubPos + 4096)) := by
  unfold State.Canonical; decide +kernel

/-- A plan of one pulse on channel 383, and the job of piece 5 that holds tower 15. -/
def plan0 : Plan :=
  { fire := 5000000, end_ := 6000000, slack := 1000, firstCh := 383, count := 1, dflt := false, revised := false, clipped := false, cold := false,
    selected := 1, dOpen := [2000000], dHs := [3000000], commit := 3000000 }
def job0 : Job :=
  { serial := 5, revision := false, start := 0, sample := 0, towers := [15], obs := [obs0], lanes := [lane0], tCross := 5000000, plan := plan0 }
def jobMod (k : Track) (j : Job) : Mod := { tower15 up15 with cell := { towers := List.replicate 15 {} ++ [up15], jobs := [j] }, trk := { live := [k] } }
def wait0 : Wait := { serial := 5, revision := false, commit := 3000000, latest := 10, sample := 0, since := 0 }
def waitMod (k : Track) : Mod := { run0 with cell := { queue := [wait0] }, trk := { live := [k] } }

/-- A track whose only port is 7, which must be seen; it was not, and it was. -/
def lone0 : Track :=
  { trk0 with st := .ready, obs := [], vals := [(P.camEn.addr 7, 1#32), (P.fusRequired.addr, 128#32)] }

theorem witness_CellFailuresAreContained :
    ((st (tower15 up15)).Canonical ∧ (tower15 up15).cell.queue = [] ∧ (tower15 up15).towerUp 15 = true
      ∧ ((tower15 { up15 with bound := [63] }).tower 15).bound.contains 63 = true)
    ∧ (let m := tower15 { up15 with restarting := some 0 }
       (m.tower 15).restarting = some 0 ∧ 15 < m.cell.towers.length)
    ∧ (let m := { jobMod { trk0 with st := .running } job0 with now := 400000 }
       (st m).Canonical ∧ m.cell.queue = [] ∧ m.cell.jobs.find? (fun j => j.serial = 5) = some job0 ∧ job0.revision = false ∧ job0.towers ≠ []
       ∧ job0.start + m.jobBound ≤ (m.at 400000).now ∧ m.track? 5 = some { trk0 with st := .running } ∧ m.dfltOf 0 = false)
    ∧ (∀ k ∈ [lone0, { lone0 with obs := [obs0] }],
        let m := waitMod k
        (st m).Canonical ∧ m.cell.queue.find? (fun w => w.serial = 5) = some wait0 ∧ m.track? 5 = some k ∧ wait0.latest ≤ (m.at 10).now
        ∧ k.st = .ready ∧ m.dfltOf k.recipe = false ∧ m.paired = false)
    ∧ (lone0.lacks lone0.obs = true ∧ { lone0 with obs := [obs0] }.lacks [obs0] = false) := by
  unfold State.Canonical; decide +kernel

/-- The result of a job: class 0 with full score. -/
def result0 : ResultLine := { scores := [65535], heads := [], mass := 1000, rest := [] }

theorem witness_JobsGiveVerdicts :
    (let k := { trk0 with st := .running }
     let m := jobMod k job0
     (st m).Canonical ∧ m.cell.queue = [] ∧ m.track? 5 = some k ∧ job0.towers.length = 1 ∧ (m.at 5).now ≤ job0.start + m.jobBound
     ∧ result0.held = none ∧ result0.plan = [] ∧ k.lateAt = none
     ∧ (ruling k.vals (job0.obs.any (·.oversize)) result0.scores (confident k result0)).reject = false
     ∧ m.job? 5 false = some job0)
    ∧ (let k := { trk0 with st := .revising }
       let m := jobMod k { job0 with revision := true }
       m.track? 5 = some k ∧ m.job? 5 true = some { job0 with revision := true } ∧ k.verdict = false
       ∧ (ruling k.vals (job0.obs.any (·.oversize)) result0.scores (confident k result0)).reject = false) := by
  unfold State.Canonical; decide +kernel

/-! ### Witnesses: tracking and the decision -/

def window0 : Window := { opened := 0, obs := [obs0] }
def winMod : Mod := { run0 with trk := { win := some window0 }, now := 1000000000 }
def closedMod : Mod := { run0 with trk := { wins := [{ obs := [obs0], sol := some { choice := [none], left := none } }], fresh := 8191 } }

/-- Port 0 is due: its observation has not come. -/
def dueTrk : Track := { trk0 with obs := [obs0] }
def dueMod : Mod := { put fus0 [(P.sysRateCap, 0, 160000)] with trk := { live := [dueTrk] }, now := 4000000000 }

theorem witness_ObservationsFormTracks :
    ((st winMod).Canonical ∧ winMod.trk.win = some window0 ∧ window0.opened + winMod.rd P.trkWinNs ≤ (winMod.at 1000000000).now
      ∧ winMod.trk.wins = [])
    ∧ (closedMod.trk.wins = [{ obs := [obs0], sol := some { choice := [none], left := none } }] ∧ closedMod.trk.fresh < 8192
      ∧ closedMod.track? closedMod.bist.serial = none)
    ∧ ((st dueMod).Canonical ∧ dueMod.track? 5 = some dueTrk ∧ dueTrk.ports.contains 0 = true ∧ dueTrk.saw 0 = false
      ∧ dueMod.dueAt dueTrk 0 ≤ (dueMod.at 4000000000).now ∧ dueTrk.st = .open_
      ∧ (∀ d ∈ dueMod.dues dueTrk, d ≤ (dueMod.at 4000000000).now) ∧ dueMod.slots ≤ dueMod.cell.jobs.length
      ∧ dueMod.cell.queue.length < 1024
      ∧ (dueMod.cell.admits.filter (fun a => (dueMod.at 4000000000).now < a + 400000)).length < dueMod.rateBudget) := by
  unfold State.Canonical; decide +kernel

def committed0 : Track := { trk0 with st := .committed, tCross := 5000000 }

theorem witness_TracksCommitAndClose :
    (let k := { trk0 with st := .ready }
     let m := trkMod k
     (st m).Canonical ∧ m.track? 5 = some k ∧ k.tCommit ≤ (m.at 5).now ∧ m.dfltOf k.recipe = false)
    ∧ (let k := { trk0 with st := .decided }
       (trkMod k).track? 5 = some k ∧ k.tCommit ≤ ((trkMod k).at 5).now)
    ∧ (let m := { trkMod committed0 with now := 4000000000, bist := { phase := .running, msIdx := 800 } }
       (m.at 4000000000).msOverdue = false ∧ ({ m with bist := { phase := .running } } : Mod).evc.raised = []
       ∧ (({ m with bist := { phase := .running } } : Mod).at 4000000000).msOverdue = true ∧ m.track? 5 = some committed0 ∧ m.closeAt committed0 = some (5000000 + lrd committed0.vals P.trkCloseAfter * 1000)
       ∧ 5000000 + lrd committed0.vals P.trkCloseAfter * 1000 ≤ (m.at 4000000000).now ∧ m.rd P.trkMapKind = 0
       ∧ committed0.recipe < m.trk.tally.length ∧ committed0.outcomeOf ≤ m.bist.life.length)
    ∧ (run0.running = true ∧ (st run0).Canonical ∧ winMod.trk.rateFrom < (winMod.at 1000000000).now
      ∧ winMod.trk.rateFrom + winMod.rd P.trkLoopPeriod * 1000000 ≤ (winMod.at 1000000000).now) := by
  unfold State.Canonical; decide +kernel


/-! ### Witnesses: ejection and the valve drivers -/

/-- A pulse of piece 5 on channel 383: due at 3 ms, with 1 ms of slack, its piece's commit point at 1 ms. -/
def epulse0 : EPulse :=
  { id := 3, serial := 5, bit := 0, ch := 383, s := 3000000, off := 6000000, fire := 5000000, dHs := 3000000, slack := 1000000, commit := 1000000,
    ins := 0, hsEn := true }
/-- A module whose banks are in service, with one pulse, channel 383 in a given state, at an instant. -/
def ejMod (p : EPulse) (v : VCh) (now : Nat) : Mod :=
  { run0 with ej := { pulses := [p] }, trk := { live := [trk0] }, now := now,
              vlv := { ch := List.replicate 383 {} ++ [v], bankOk := List.replicate 24 true, tempSet := true } }
def firm0 : EPulse := { epulse0 with firm := true, k := 1000000, grant := .asked, planned := 3000000 }
def held0 : EPulse := { firm0 with grant := .held }
def run383 : EPulse := { held0 with judged := true, started := some 3000000 }

/-- Another channel of the bank in its boost phase. -/
def boosting : VCh := { phase := .boost }

def channels0 : List VCh := List.replicate 24 ({} : VCh) ++ [boosting]
/-- The same pulse on channel 0, the first of a short list of channels. -/
def onFirst (p : EPulse) : EPulse := { p with ch := 0 }
def ejFirst (p : EPulse) (now : Nat) : Mod := { ejMod (onFirst p) {} now with vlv := { ch := [{}], bankOk := List.replicate 24 true } }

def epulse1 : EPulse := onFirst epulse0
def firm1 : EPulse := onFirst firm0
def held1 : EPulse := onFirst held0

theorem witness_PulsesBecomeFirmAndStart :
    (let m := ejFirst epulse1 1000000
     (st m).Canonical ∧ m.pulse? 5 0 = some epulse1 ∧ epulse1.into = none ∧ epulse1.firm = false ∧ epulse1.firmAt ≤ (m.at 1000000).now
     ∧ epulse1.firmAt + 2000 ≤ epulse1.s + epulse1.slack ∧ m.asking (.pulse 3 0) = false)
    ∧ (let p := { epulse1 with commit := 3998001 }
       p.firmAt ≤ ((ejFirst p 3998001).at 3998001).now ∧ p.s + p.slack < p.firmAt + 2000 ∧ p.grant = .none)
    ∧ (let m := ejFirst held1 2000000
       m.pulse? 5 0 = some held1 ∧ held1.firm = true ∧ held1.judged = false ∧ held1.started = none ∧ Nat.min held1.hsAt (tickOf held1.hsAt) ≤ (m.at 2000000).now
       ∧ held1.grant = .held)
    ∧ (∀ e ∈ [(1000000, 2000000, 0), (2998000, 3000000, 1000000)],
        let p := { firm1 with k := e.1 }
        let m := ejFirst p e.2.1
        m.pulse? 5 0 = some p ∧ p.hsAt = e.2.1 ∧ p.firm = true ∧ p.judged = false ∧ p.started = none
        ∧ Nat.min p.hsAt (tickOf p.hsAt) ≤ (m.at e.2.1).now ∧ p.grant = .asked ∧ (m.at e.2.1).overlapped p = false ∧ m.hsAllowed p = true
        ∧ p.hsAt + p.dHs - p.fire = e.2.2 ∧ p.hsAt + p.dHs - p.fire ≤ p.slack)
    ∧ (let p := { firm1 with fire := 5000400 }
       let m := ejFirst p 2000000
       m.pulse? 5 0 = some p ∧ p.hsAt = 2000400 ∧ tickOf p.hsAt = 2000000 ∧ Nat.min p.hsAt (tickOf p.hsAt) ≤ (m.at 2000000).now
       ∧ p.grant = .asked ∧ (m.at 2000000).overlapped p = false ∧ m.hsAllowed p = true ∧ p.hsAt + p.dHs - p.fire = 0)
    ∧ (∀ p ∈ [{ held1 with judged := true }, { firm1 with judged := true, grant := .none, hs := true, lam := 0, planned := 2000000 }],
        let m := ejFirst p p.planned
        m.pulse? 5 0 = some p ∧ m.ej.stopped = false ∧ p.planned ≤ (m.at p.planned).now ∧ (m.at p.planned).ready p = true ∧ m.obstacle p = 0
        ∧ (m.at p.planned).mustYield p = false ∧ m.runningOn 0 = none ∧ 0 < m.vlv.ch.length ∧ (m.at p.planned).now % 1000 = 0)
    ∧ (let m := ejFirst firm1 4000000
       m.pulse? 5 0 = some firm1 ∧ firm1.latest ≤ (m.at 4000000).now ∧ firm1.hs = false ∧ firm1.grant = .asked)
    ∧ (let m := { ejFirst held1 4000000 with vlv := { ch := channels0 } }
       m.pulse? 5 0 = some held1 ∧ held1.latest ≤ (m.at 4000000).now ∧ held1.grant = .held ∧ m.obstacle held1 = 1) := by
  unfold State.Canonical; decide +kernel

/-- A pulse that restarts channel 0 while its earlier pulse runs, whose arrival has been found (worked pulse 5 of chapter 9). -/
def again1 : EPulse := { held1 with id := 9, serial := 6, judged := true }
def again (v : VCh) : Mod :=
  { ejFirst again1 3000000 with
    ej := { pulses := [onFirst run383, again1] }, vlv := { ch := [v], bankOk := List.replicate 24 true } }
def found0 : VCh := { phase := .hold, start := 2000000, off := 9000000, energised := true, judged := true, arr := some (1162, 5220), d := { n := 4 } }

theorem witness_PulsesBecomeFirmAndStart_restarts :
    ∀ v ∈ [found0, { found0 with arr := none, judged := false }],
      let m := again v
      (st m).Canonical ∧ m.pulse? 6 0 = some again1 ∧ again1.into = none ∧ m.ej.stopped = false ∧ again1.planned ≤ (m.at 3000000).now
      ∧ (m.at 3000000).ready again1 = true ∧ m.obstacle again1 = 0 ∧ (m.at 3000000).mustYield again1 = false ∧ again1.grant = .held
      ∧ m.runningOn 0 = some (onFirst run383) ∧ (onFirst run383).id ≠ again1.id ∧ m.followers (onFirst run383).id = [] ∧ 0 < m.vlv.ch.length
      ∧ (m.at 3000000).now % 1000 = 0 ∧ (m.vch 0).energised = true ∧ (m.vch 0).phase ≠ .idle
      ∧ ((m.vch 0).judged = false ∨ (m.vch 0).arr ≠ none) := by
  unfold State.Canonical; decide +kernel

/-- R217: the restarted pulse's sample, though found before, is lost. -/
theorem test_restart_drops_sample :
    (match exec (.pulseStart 3000000 6 0 false (0, 0) []) (st (again found0)) with
     | .next s => (s.m.vch 0).restarted && (s.m.vch 0).arr.isNone && (s.m.vch 0).d.n = 4 && s.m.rd P.vlvDetNone = 1 && s.m.rd P.vlvDetValid = 0
     | _ => false) = true := by decide +kernel

/-- Channel 383 in its hold phase, whose release comes at 6 ms, in band 0. -/
def hold0 : VCh := { phase := .hold, start := 3000000, off := 6000000, energised := true, hiSeen := true }

/-- Samples of a coil that carries current: no voltage for `n` µs, then enough for the flux to rise over every threshold. -/
def arriving (n code : Nat) : List CoilSmp :=
  List.replicate n { code := code, com := 0, on := true } ++ List.replicate 8 { code := code, com := 100000000, on := true }
/-- Its flux, with the coil at rest before. -/
def arrival (m : Mod) (smp : List CoilSmp) : Option (Nat × Int × Nat) :=
  arrivalFrom (m.arrivalTh 383) (m.rd P.vlvDetBlank) (m.rd P.vlvDetMax) 1 none
    (fluxRun (m.rhoNow 383) 0 (smp.map (fun x => (m.coilNv 383 x, m.coilMa 383 x.code))))

theorem witness_PulsesRunTheirProfile :
    (let v : VCh := { phase := .boost, start := 3000000 }
     let m := ejMod run383 v 4500000
     (st m).Canonical ∧ 383 < m.vlv.ch.length ∧ m.vch 383 = v ∧ m.rd P.vlvIPeak v.pband ≤ m.coilMa 383 4095
     ∧ m.coilMa 383 0 < m.rd P.vlvIPeak v.pband ∧ v.start + m.rd P.vlvTBoostMax v.pband * 1000 ≤ (m.at 4500000).now
     ∧ (boosting.phase = .boost ∧ ({ phase := .hsRise } : VCh).phase = .hsRise ∧ 359 ∈ bankChannels (bankOf 383)))
    ∧ (let v : VCh := { phase := .hsRise, start := 3000000 }
       let m := ejMod run383 v 9000000
       m.vch 383 = v ∧ m.rd P.vlvIPeak v.pband ≤ m.coilMa 383 4095 ∧ v.start + m.rd P.vlvHsTMax * 1000 ≤ (m.at 9000000).now)
    ∧ (∀ v ∈ [{ phase := .decay, judged := true }, ({ phase := .decay } : VCh)],
      let m := ejMod run383 v 3000000
      m.vch 383 = v ∧ v.arr = none ∧ m.coilMa 383 39 < 20 ∧ v.settled (m.at 3000000).now = v) := by
  unfold State.Canonical; decide +kernel

/-- Channel 383 when the delay measured in its pulse comes into force. -/
def measured (boost : Bool) : VCh := { phase := .decay, judged := true, pend := [(boost, 1164, some 3000000)] }

theorem witness_PulsesRunTheirProfile_measured :
    (∀ v ∈ [measured true, measured false],
        let m := put (ejMod run383 v 3000000) [(P.evcRoute, 73, 1)]
        m.vch 383 = v ∧ m.coilMa 383 39 < 20 ∧ v.phase = .decay ∧ v.judged = true ∧ v.arr = none ∧ v.dMeas = none ∧ v.dhsMeas = none
        ∧ 3000000 ≤ (m.at 3000000).now ∧ (m.rd P.evcRoute 73).testBit 0 = true)
    ∧ (put (ejMod run383 {} 3000000) [(P.evcRoute, 73, 1)]).Plain 3000000 73 := by
  unfold Mod.Plain Mod.NoTrace; decide +kernel

theorem witness_PulsesRunTheirProfile_releases :
    (let m := ejMod run383 hold0 6000000
     m.vch 383 = hold0 ∧ hold0.arr = none ∧ hold0.energised = true ∧ hold0.opened = false ∧ hold0.phase = .hold ∧ hold0.hiSeen = true
     ∧ hold0.off ≤ (m.at 6000000).now + m.rd P.vlvAdv hold0.pband * 1000)
    ∧ (let v := { hold0 with arr := some (1162, 5220), d := { n := 15 } }
       let m := ejMod run383 v 6000000
       m.vch 383 = v ∧ v.arr = some (1162, 5220) ∧ v.hs = false ∧ v.d.n < 16 ∧ v.pend = [])
    ∧ (let v := { hold0 with hiSeen := false, holdAt := 5000000 }
       let m := ejMod run383 v 6000000
       let last : List CoilSmp := List.replicate 500 { code := 400, com := 24000, on := true }
       m.vch 383 = v ∧ v.holdAt + 1000000 ≤ (m.at 6000000).now ∧ last.length = 500
       ∧ sumOf (last.map (fun x => m.coilMa 383 x.code)) ≠ 0 ∧ m.calN P.vlvRes 383 ≠ 0 ∧ m.rd P.vlvRcorr ≠ 0)
    ∧ (let v := { hold0 with phase := .decay, opened := true }
       let m := ejMod run383 v 6000000
       m.vch 383 = v ∧ v.energised = true ∧ v.phase ≠ .idle ∧ v.phase ≠ .boost ∧ v.off ≤ (m.at 6000000).now
       ∧ (m.at 6000000).now % 1000 = 0 ∧ m.runningOn 383 = some run383) := by
  decide +kernel

theorem witness_PulsesRunTheirProfile_arrivals :
    (∀ n ∈ [100, 1499],
        let m := ejMod run383 { hold0 with start := 0 } 60000000
        let smp := arriving n 400
        m.rd P.vlvDetBlank = 100 ∧ m.rd P.vlvDetMax = 1500
        ∧ (m.vch 383).phase = .hold ∧ (m.vch 383).judged = false ∧ (m.vch 383).pend = [] ∧ (m.vch 383).start + smp.length * 1000 ≤ (m.at 60000000).now
        ∧ (arrival m smp).map (·.1) = some (n + 1) ∧ (∀ x ∈ smp, x.code < 4095)
        ∧ (m.vch 383).restarted = false ∧ (m.vch 383).cut = none)
    ∧ (let m := ejMod run383 { hold0 with start := 0 } 60000000
       let n := m.rd P.vlvDetBlank
       (arrival m (arriving n 4095)).map (·.1) = some (n + 1) ∧ ((arriving n 4095).take (n + 1)).any (fun x => 4095 ≤ x.code) = true
       ∧ ({ hold0 with restarted := true }).restarted = true
       ∧ ({ hold0 with start := 0, cut := some (n * 1000) }).cut = some (n * 1000) ∧ n * 1000 < 0 + (n + 1) * 1000) := by
  decide +kernel

/-- The worked example of chapter 9: at 73.0 °C a coil of 20.0 Ω has 24.17 Ω (R225). -/
theorem test_coil_resistance_hot : rhoT 20000 (73 * degree) = 24165800 := by decide +kernel

theorem getD_rest (n c : Nat) (v : VCh) : (List.replicate n v ++ [v]).getD c v = v := by
  rw [List.getD_eq_getElem?_getD, ← List.replicate_succ', List.getElem?_replicate]
  split <;> rfl
theorem rest_vch (c : Nat) : (ejMod run383 {} 0).vch c = {} := getD_rest 383 c {}

theorem witness_CoilsAndFaultsAreContained :
    (let m := ejMod run383 {} 0
     (st m).Canonical ∧ m.vlv.ch.length = 384 ∧ m.vlv.tempSet = true ∧ m.vlv.tempAt ≤ (m.at 0).now
     ∧ (∀ c, c < 384 → (m.vch c).protect = false
        ∧ m.coilStep c 250 (sumOf ((((assocGet [(383, [400])] c).getD []).take 1000).map (fun x => m.coilMa c x ^ 2))) < m.rdI P.vlvTProt * 100000000))
    ∧ (let m := ejMod run383 { phase := .boost, start := 3000000 } 3050000
       (m.vch 383).phase = .boost ∧ (m.vch 383).start + 50000 ≤ (m.at 3050000).now ∧ m.coilMa 383 200 < 100 ∧ m.runningOn 383 = some run383
       ∧ m.followers run383.id = [] ∧ (m.vch 383).opens + 1 < m.rd P.vlvOpenLimit ∧ (m.vch 383).arr = none)
    ∧ (let m := ejMod run383 { phase := .hsRise, start := 3000000 } 3200000
       (m.vch 383).phase = .hsRise ∧ (m.vch 383).start + 200000 ≤ (m.at 3200000).now)
    ∧ (let m := put (ejMod run383 hold0 3050000) [(P.vlvIShort, 0, 1999)]
       (m.vch 383).phase ≠ .idle ∧ m.rd P.vlvIShort ≤ m.coilMa 383 4095 ∧ (∀ q ∈ m.ej.pulses, q.into = none)
       ∧ 23 < m.vlv.bankOk.length ∧ 23 < m.vlv.bankLost.length ∧ m.vlv.bankOk.getD 23 false = true ∧ bankOf 383 = 23
       ∧ (let smp : List BankSmp := List.replicate 5 { vhi := 48000, vlo := 24000, com := 20999 }
          5 ≤ smp.length ∧ ∀ x ∈ smp, 3000 < ((x.com : Int) - (stageMv (m.stageOf 23) x : Int)).natAbs)
       ∧ bankOf 359 = 23 ∧ m.stageOf 23 ≠ 0 ∧ m.lowSideOn 359 = false 
       ∧ (let smp : List CoilSmp := List.replicate 20 { code := 400, com := 0, on := false }
          20 ≤ smp.length ∧ ∀ x ∈ smp, x.on = false ∧ 100 ≤ m.coilMa 359 x.code)
       ∧ ∃ c ∈ bankChannels 23, (m.vch c).energised = true)
    ∧ (let m := ejMod epulse0 { latched := true } 0
       m.running = true ∧ (m.vch 383).latched = true) := by
  unfold State.Canonical
  refine ⟨⟨by decide +kernel, by decide +kernel, by decide +kernel, ?_⟩, by decide +kernel⟩
  simp only [Mod.coilStep, rest_vch]
  decide +kernel


/-! ### Witnesses: proportional channels, supplies, the toll gate and the load switches -/

/-- Proportional channel 31 in a given state, and enabled. -/
def pv31 (c : PCh) (now : Nat) : Mod := { put run0 [(P.vlvPEn, 31, 1)] with vlv := { pv := List.replicate 31 {} ++ [c] }, now := now }

theorem witness_ProportionalChannelsFollow :
    (∀ c ∈ [({} : PCh), { active := true }],
      let m := pv31 c 0
      (st m).Canonical ∧ 31 < m.vlv.pv.length ∧ (m.rd P.tollSafetyPv).testBit 31 = false ∧ m.running = true ∧ m.rd P.vlvPEn 31 = 1
      ∧ c.nextAt ≤ (m.at 0).now ∧ (c.active = true ∨ (c.waiting = false ∧ c.free = true)))
    ∧ (let c : PCh := { active := true, setNow := 200, openAt := some 0, faults := 1 }
       let m := pv31 c 10000000
       c.active = true ∧ 200 ≤ c.setNow ∧ 2 * m.pvMa 31 198 < c.setNow ∧ c.openAt = some 0 ∧ 0 + 10000000 ≤ (m.at 10000000).now
       ∧ c.faults + 1 < m.rd P.vlvPRetries 31)
    ∧ (let c : PCh := { active := true, setNow := 200, faults := 2 }
       c.active = true ∧ 4500 ≤ (pv31 c 0).pvMa 31 9000 ∧ (pv31 c 0).rd P.vlvPRetries 31 ≤ c.faults + 1)
    ∧ (let c : PCh := { retryAt := some 5000000 }
       c.retryAt = some 5000000 ∧ 5000000 ≤ ((pv31 c 5000000).at 5000000).now ∧ c.overtemp = false ∧ c.active = false ∧ c.waiting = false
       ∧ c.unusable = false ∧ c.latched = false)
    ∧ ((1500 : Int) ≤ 1500 ∧ ({ active := true } : PCh).overtemp = false)
    ∧ (let c : PCh := { overtemp := true }
       c.overtemp = true ∧ (1299 : Int) < 1300 ∧ c.retryAt = none ∧ (pv31 c 0).rd P.vlvPEn 31 = 1 ∧ (pv31 c 0).running = true ∧ c.active = false
       ∧ c.waiting = false ∧ c.unusable = false ∧ c.latched = false)
    ∧ (let c : PCh := { latched := true }
       (pv31 c 0).running = true ∧ c.latched = true) := by
  unfold State.Canonical; decide +kernel

/-- A module of the FIELD profile. -/
def field0 : Mod := put run0 [(P.sysMode, 0, 4)]
def tolled (m : Mod) (x : TollSt) : Mod := { m with toll := x }

theorem witness_SuppliesAreFollowed :
    (∀ e ∈ [(run0, 8999), (field0, 5999)],
      (st e.1).Canonical ∧ e.1.running = true ∧ e.1.toll.holdup = false ∧ e.2 < (if e.1.fieldProfile then 6000 else 9000))
    ∧ (∀ p ∈ [Phase.outputs, .ready],
        let m := inPhase p
        m.placed = true ∧ m.running = false ∧ m.toll.holdup = false ∧ m.fieldProfile = false ∧ 8999 < (if m.fieldProfile then 6000 else 9000))
    ∧ (∀ p ∈ [Phase.outputs, .running],
        let m : Mod := { field0 with bist := { phase := p } }
        m.fieldProfile = true ∧ m.placed = true ∧ m.toll.crank = false ∧ 8999 < 9000
        ∧ (tolled m { crank := true }).toll.crank = true ∧ (tolled m { crank := true }).placed = true)
    ∧ (36000 < 36001 ∧ run0.toll.logicHigh = false)
    ∧ ((tolled run0 { storeAt := 0 }).toll.storeAt + 200000000 ≤ ({ run0 with now := 200000000 }.at 200000000).now)
    ∧ (∀ e ∈ [(tolled run0 { holdup := true, holdupAt := 5 }, 9501), (tolled field0 { holdup := true, holdupAt := 5 }, 6501)],
        let m := { e.1 with now := 1000005 }
        m.toll.holdup = true ∧ m.toll.holdupAt + 1000000 ≤ (m.at 1000005).now ∧ (if e.1.fieldProfile then 6500 else 9500) < e.2)
    ∧ (let m := { tolled run0 { holdup := true, holdupAt := 5 } with now := 20000005 }
       m.toll.holdup = true ∧ m.toll.holdupAt + m.toll.store * 1000000 / m.comboPower ≤ (m.at 20000005).now) := by
  unfold State.Canonical; decide +kernel

theorem witness_SuppliesAreFollowed_conditions :
    (∀ c, c < 6 →
        let m := tolled run0 { beyond := [10, 10, 10, 10, 10, 10, 9, 9] }
        m.toll.cond c = false ∧ 10 ≤ m.toll.beyond.getD c 0 ∧ (c < 4 ∨ m.toll.beyond.getD (c + 2) 0 < 10))
    ∧ (∀ c, c < 4 →
        let x := ({ within := List.replicate 8 1000 } : TollSt).setCond c true
        x.cond c = true ∧ 1000 ≤ x.within.getD c 0)
    ∧ (∀ inp, inp < 2 →
        let m := tolled run0 { loadAOut := true, loadBOut := true, beyond := List.replicate 8 10 }
        m.lsw.ch.length = 24 ∧ m.toll.cond (4 + inp) = true ∧ 10 ≤ m.toll.beyond.getD (6 + inp) 0
        ∧ (if inp = 0 then m.toll.loadAHigh else m.toll.loadBHigh) = false)
    ∧ (∀ inp, inp < 2 →
        let m := tolled run0 { loadAOut := true, loadBOut := true, loadAHigh := true, loadBHigh := true, within := List.replicate 8 100 }
        inp < m.lsw.ovAt.length ∧ 100 ≤ m.toll.within.getD (4 + inp) 0 ∧ m.toll.cond (4 + inp) = true ∧ (if inp = 0 then m.toll.loadAHigh else m.toll.loadBHigh) = true) := by
  decide +kernel

theorem witness_SuppliesAreFollowed_checks :
    (let m := put run0 [(P.evcRoute, 2, 1)]
     (∀ e ∈ [((212 : Nat), false, (1000000 : Nat)), (212, true, 1000000), (212, false, 0), (213, false, 1000000)],
          let w : VWin := { first := 40000, last := 40000 + e.1, low := true, boost := e.2.1 }
          let x : Mod := { tolled m (if e.2.2 = 0 then { win := { k := 1 }, winDone := some w } else { win := w }) with now := e.2.2 }
          x.Plain e.2.2 2 ∧ x.evc.once = [] ∧ x.winBoost w = e.2.1
          ∧ (if x.toll.win.k < (x.at e.2.2).now / 1000000 then some x.toll.win else x.toll.winDone) = some w)
       ∧ 2 * (212 : Int) * (m.rd P.tollCBulk : Int) < 1000 * (m.rd P.tollISup : Int)
       ∧ 1000 * (m.rd P.tollISup : Int) ≤ 2 * (213 : Int) * (m.rd P.tollCBulk : Int))
    ∧ (let m := tolled field0 { cap := 100000 }
       (m.fieldProfile && m.toll.cap ≠ 0 && m.toll.cap * 105 < 105001 * 100) = true ∧ m.toll.overCap = false
       ∧ (m.fieldProfile && m.toll.cap ≠ 0 && m.toll.cap * 105 < 105000 * 100) = false) := by
  unfold Mod.Plain Mod.NoTrace; decide +kernel

/-- Supplies in range, and with VALVE_HI's bulk discharged. -/
def supplies0 : Supplies := { vb := 200000, vhiTop := 48000, vhi := 48000, vlo := 24000, vloLow := 24000, vloTop := 24000, loadA := 12000, loadB := 12000, logicIn := 24000 }
def scrubbed (l : List TollReq) : Mod :=
  { ejMod firm0 {} 3000000 with toll := { reqs := l }, cell := { scrubGranted := true } }
def boost0 : TollReq := { who := .pulse 3 383, cls := 1, budget := .vhi, key := 4000000, amount := 285, at_ := 1000000 }

theorem witness_TollGateGrantsWhatFits :
    (let m := scrubbed []
     (st m).Canonical ∧ m.cell.scrubGranted = true ∧ (m.at 3000000).now % 1000 = 0 ∧ m.toll.reqs = []
     ∧ m.toll.beyond.length = 8 ∧ m.toll.within.length = 8)
    ∧ (let m := scrubbed [boost0]
       let m1 := fun (sup : Supplies) => (m.at 3000000).tollSamples sup []
       m.toll.reqs = [boost0] ∧ boost0.who = .pulse 3 383 ∧ boost0.cls = 1 ∧ boost0.budget = .vhi ∧ (m1 supplies0).tollFits boost0 = true
       ∧ boost0.waited = false ∧ boost0.cls < 5 ∧ (m1 { supplies0 with vb := 0 }).tollFits boost0 = false)
    ∧ (let r : TollReq := { who := .gnss, cls := 4, budget := .logic, key := 0, amount := 100001, at_ := 0 }
       let m := tolled field0 { reqs := [r], cap := 100000 }
       r.cls < 5 ∧ r.waited = false ∧ ((m.at 0).tollSamples supplies0 []).tollFits r = false) := by
  unfold State.Canonical; decide +kernel

/-- Load switch channel 23 in a given state. -/
def lsw23 (c : LswCh) (now : Nat) : Mod := { run0 with lsw := { ch := List.replicate 23 {} ++ [c] }, now := now }

theorem witness_LoadSwitchesRunAndTrip :
    (let c : LswCh := { on := true, inrush := true, since := some 0 }
     let m := lsw23 c 20000000
     (st m).Canonical ∧ 23 < m.lsw.ch.length ∧ m.lswCh 23 = c ∧ m.rd P.lswTInrush 23 * 1000000 ≤ c.counted + ((m.at 20000000).now - 0))
    ∧ (∀ e ∈ [(0, 0), (1, 12000), (2, 0)],
        let m := put { lsw23 { on := true, vSum := e.2, vN := 1 } 0 with toll := { loadB := e.2 } } [(P.lswFreq, 23, 400), (P.lswComp, 23, e.1)]
        (st m).Canonical ∧ (m.lswCh 23).on = true ∧ m.rd P.lswFreq 23 ≠ 0 ∧ (m.lswCh 23).nextAt ≤ (m.at 0).now ∧ m.rd P.lswComp 23 = e.1
        ∧ (let c := m.lswCh 23
           let vin := if c.vN = 0 then m.toll.loadB else c.vSum
           vin = e.2))
    ∧ (∀ n ∈ [0, 2, 3],
        let m := lsw23 { on := true, count := n } 0
        (m.lswCh 23).on = true ∧ (if n < 3 then (m.lswCh 23).count ≠ m.rd P.lswRetries 23 else (m.lswCh 23).count = m.rd P.lswRetries 23)
        ∧ (n < 3 → (m.lswCh 23).count ≠ m.rd P.lswRetries 23))
    ∧ (20000 ≤ (lsw23 { on := true } 0).lswMa 23 40000)
    ∧ (let m := lsw23 { on := true, count := 3, trip := 1000 } 0
       (m.lswCh 23).on = true ∧ (m.lswCh 23).count = m.rd P.lswRetries 23 ∧ 0 < (m.lswCh 23).trip
       ∧ 100 * m.rd P.lswTTrip 23 ≤ (m.lswCh 23).trip)
    ∧ (let m := lsw23 { on := true } 0
       (m.lswCh 23).thermal = false ∧ (1650 : Int) ≤ 1650 ∧ (m.lswCh 23).on = true ∧ m.lswMa 23 5500 ≤ m.rd P.lswITrip 23)
    ∧ (let c : LswCh := { thermal := true }
       c.thermal = true ∧ (1349 : Int) < 1350 ∧ c.retryAt = none ∧ c.thermalOff = false)
    ∧ (let m := put (lsw23 { retryAt := some 5000000 } 5000000) [(P.lswEn, 0, 0x800000)]
       (st m).Canonical ∧ (m.lswCh 23).retryAt = some 5000000 ∧ 5000000 ≤ (m.at 5000000).now ∧ (m.lswCh 23).thermal = false
       ∧ m.lswMayAsk 23 ∧ m.lsw.uv.getD (23 % 2) false = false ∧ m.asking (.lsw 23) = false)
    ∧ (let m := lsw23 { on := true, onAt := 1 } 1000000001
       (m.lswCh 23).onAt + 10 ^ 9 ≤ (m.at 1000000001).now)
    ∧ (let m := lsw23 { latched := true } 0
       m.running = true ∧ (m.lswCh 23).latched = true ∧ m.rd P.lswOn 23 = 0)
    ∧ (let m := lsw23 { on := true, openAt := some 1 } 100000001
       (m.lswCh 23).on = true ∧ (m.lswCh 23).inrush = false ∧ (m.lswCh 23).open_ = false ∧ (m.lswCh 23).openAt = some 1
       ∧ 1 + 100000000 ≤ (m.at 100000001).now)
    ∧ (let m := put (lsw23 { on := true, open_ := true } 0) [(P.lswIOpen, 23, 100), (P.lswINow, 23, 100)]
       (m.lswCh 23).open_ = true ∧ m.rd P.lswIOpen 23 ≤ m.rd P.lswINow 23) := by
  unfold State.Canonical Mod.lswMayAsk; decide +kernel

theorem witness_LoadInputsSwitchChannels : ∀ inp ∈ [0, 1],
    (let m := run0
     (st m).Canonical ∧ m.lsw.ch.length = 24 ∧ m.lsw.uv.length = 2 ∧ m.lsw.off.length = 2 ∧ m.lsw.uv.getD inp false = false
     ∧ (∀ c ∈ m.lsw.ch, c.wait = false) ∧ (∀ mv ∈ [0, 18000], mv ≤ m.lswUv inp) ∧ m.lswUv inp < 18001)
    ∧ (let m := { run0 with lsw := { uv := [true, true], uvAt := [some 1, some 1] }, now := 500000001 }
       m.lsw.uv.getD inp false = true ∧ m.lsw.uvAt.getD inp none = some 1 ∧ 1 + m.rd P.lswUvOffMs * 1000000 ≤ (m.at 500000001).now
       ∧ m.lsw.sagDone.getD inp false = false)
    ∧ (let m := put { run0 with lsw := { off := [true, true], uvAt := [some 1, some 1], ch := List.replicate 24 { uvOff := true } }, now := 10000001 } [(P.lswEn, 0, 0xFFFFFF), (P.lswOn, 22 + inp, 1)]
       (st m).Canonical ∧ m.lsw.off.getD inp false = true ∧ m.lsw.uv.getD inp false = false
       ∧ m.lsw.uvAt.getD inp none = some 1 ∧ 1 + 10000000 ≤ (m.at 10000001).now
       ∧ (m.lswCh (22 + inp)).uvOff = true ∧ m.rd P.lswOn (22 + inp) = 1 ∧ m.lswMayAsk (22 + inp) ∧ (m.lswCh (22 + inp)).thermal = false)
    ∧ (let m := put { run0 with lsw := { ovAt := [some 1, some 1], ch := List.replicate 24 { ovOff := true } }, now := 10000001 }
         [(P.lswEn, 0, 0xFFFFFF), (P.lswOn, 22 + inp, 1)]
       m.lsw.ovAt.getD inp none = some 1 ∧ 1 + 10000000 ≤ (m.at 10000001).now ∧ m.lsw.uv.getD inp false = false
       ∧ (m.lswCh (22 + inp)).ovOff = true ∧ m.rd P.lswOn (22 + inp) = 1 ∧ m.lswMayAsk (22 + inp) ∧ (m.lswCh (22 + inp)).thermal = false) := by
  unfold State.Canonical Mod.lswMayAsk; decide +kernel

theorem witness_OpenLoadsAreReported :
    (∀ e ∈ [(({ on := true, openAt := some 0 } : LswCh), 100), ({ on := true, open_ := true }, 100), ({ on := true }, 0),
          ({ on := true, inrush := true, openAt := some 0 }, 100), ({ on := true, iN := 99 }, 0)],
      let m := put (lsw23 e.1 100000000) [(P.lswIOpen, 23, e.2), (P.evcRoute, lswSrc 23, 1)]
      (st m).Canonical ∧ 23 < m.lsw.ch.length ∧ m.Plain 100000000 (lswSrc 23) ∧ (m.rd P.evcRoute (lswSrc 23)).testBit 0 = true
      ∧ (m.lswCh 23) = e.1 ∧ (m.lswCh 23).on = true ∧ 0 + 100000000 ≤ (m.at 100000000).now)
    ∧ (({ k := 23, raw := 99, temp := 250 } : LswSmp).k = 23 ∧ 99 ≤ ({ on := true, iN := 99 } : LswCh).iN)
    ∧ (let m := put (lsw23 { on := true, open_ := true } 0) [(P.lswIOpen, 23, 100), (P.lswINow, 23, 100)]
       (st m).Canonical ∧ (m.lswCh 23).open_ = true ∧ m.rd P.lswIOpen 23 ≤ m.rd P.lswINow 23) := by
  unfold State.Canonical Mod.Plain Mod.NoTrace; decide +kernel

theorem witness_InrushWindowsPause :
    (let m := lsw23 { on := true, inrush := true, since := some 5 } 1000
     (st m).Canonical ∧ 23 % 2 = 1 ∧ m.lsw.ch.length = 24 ∧ m.lsw.uv.length = 2 ∧ (m.lswCh 23).on = true ∧ (m.lswCh 23).inrush = true
     ∧ (∀ c ∈ m.lsw.ch, c.wait = false) ∧ m.lsw.uv.getD 1 false = false ∧ (m.lswCh 23).since = some 5
     ∧ 18000 ≤ m.lswUv 1 ∧ m.lswUv 1 < 18001)
    ∧ (let m := { run0 with lsw := { (lsw23 { on := true, inrush := true, counted := 19999999 } 0).lsw with uv := [false, true] } }
       m.lsw.uv.getD 1 false = true ∧ (m.lswCh 23).since = none ∧ (m.lswCh 23).counted < m.rd P.lswTInrush 23 * 1000000) := by
  unfold State.Canonical; decide +kernel


/-! ### Witnesses: the control engine and the machine inputs -/

theorem witness_LoopsRunEachTick :
    ((st run0).Canonical ∧ run0.running = true ∧ run0.loop.ctx.length = 64 ∧ run0.loop.enc.length = 8 ∧ run0.loop.frq.length = 16
      ∧ ({ run0 with bist := { run0.bist with e0 := 1 } }.at 0).now < 1 + 0 * 50000 ∧ run0.bist.e0 + run0.loop.tick * 50000 ≤ (run0.at 0).now
      ∧ run0.dueLoops 0 = [] ∧ (run0.loop.frq.getD 15 {}).edges = [])
    ∧ (∀ e ∈ [(1, 0), (1, 2), (1, 1), (63, 0), (63, 2), (63, 1)],
        let m := put run0 [(P.loopEnLo, 0, if e.1 = 1 then 2 else 0), (P.loopEnHi, 0, if e.1 = 63 then 0x80000000 else 0), (P.loopMode, e.1, e.2),
          (P.loopUMax, e.1, 1000)]
        (st m).Canonical ∧ m.dueLoops 0 = [e.1] ∧ (m.at 0).now < 0 + 1000 + 480 ∧ m.rd P.loopMode e.1 = e.2 ∧ m.rd P.loopMaxAge e.1 = 0 ∧ m.rd P.loopUSlew e.1 = 0
        ∧ m.rdI P.loopUMin e.1 ≤ m.rdI P.loopUMax e.1) := by
  unfold State.Canonical; decide +kernel

/-- Analogue input 31 in a given state and mode. -/
def ain31 (mode : Nat) (a : Ain) (now : Nat) : Mod :=
  { put run0 [(P.ainMode, 31, mode)] with loop := { ain := List.replicate 31 {} ++ [a] }, now := now }
def enc7 (c : Enc) : Mod := { put run0 [(P.ainEncCfg, 7, 0x300)] with loop := { enc := List.replicate 7 {} ++ [c] } }

theorem witness_InputsAreMeasured :
    (let m := ain31 0 {} 0
     (st m).Canonical ∧ 31 < m.loop.ain.length ∧ m.rd P.ainMode 31 = 0 ∧ (5 :: List.replicate 199 (32767 : Int)).length = m.ainLen 31 ∧ (m.loop.ain.getD 31 {}).unusable = false
     ∧ (m.loop.ain.getD 31 {}).fault = false ∧ (m.loop.ain.getD 31 {}).clearedAt = none)
    ∧ (∀ e ∈ [(1, 20), (2, 4)],
        let m := put (ain31 0 { clearedAt := some 5 } 1000005) [(P.ainRate, 31, e.1)]
        (List.replicate e.2 (0 : Int)).length = m.ainLen 31 ∧ (m.loop.ain.getD 31 {}).clearedAt = some 5
        ∧ 5 + (List.replicate e.2 (0 : Int)).length * 5000 ≤ (m.at 1000005).now)
    ∧ (let m := ain31 1 { low := true } 0
       m.rd P.ainMode 31 = 1 ∧ (m.loop.ain.getD 31 {}).fault = true ∧ (m.loop.ain.getD 31 {}).shuntOpen = none ∧ (List.replicate 200 (0 : Int)).length = m.ainLen 31
       ∧ (m.loop.ain.getD 31 {}).unusable = false ∧ 26000 < 26001
       ∧ ((ain31 1 {} 0).rd P.ainMode 31 = 1 ∧ ((ain31 1 {} 0).loop.ain.getD 31 {}).low = false)
       ∧ 3599 < (put (ain31 1 {} 0) [(P.ainLowUa, 31, 3600)]).rd P.ainLowUa 31)
    ∧ (let m := ain31 1 { overrange := true, shuntOpen := some 5 } 1000000005
       (m.loop.ain.getD 31 {}).shuntOpen = some 5 ∧ 5 + 10 ^ 9 ≤ (m.at 1000000005).now)
    ∧ (let m := ain31 1 { low := true, badAt := 5 } 10000005
       (m.loop.ain.getD 31 {}).fault = true ∧ (m.loop.ain.getD 31 {}).shuntOpen = none ∧ (m.loop.ain.getD 31 {}).badAt + 10000000 ≤ (m.at 10000005).now)
    ∧ (let m := put (ain31 2 { lastHit := some 5, hits := [5], armed := true } 200005) [(P.ainHitThr, 31, 100), (P.ainHitRearm, 31, 50)]
       m.rd P.ainMode 31 = 2 ∧ (m.loop.ain.getD 31 {}).unusable = false ∧ m.rd P.ainHitThr 31 ≤ (-100 : Int).natAbs
       ∧ (99 : Int).natAbs < m.rd P.ainHitThr 31 ∧ ((m.loop.ain.getD 31 {}).armed || (50 : Nat) < m.rd P.ainHitRearm 31) = true
       ∧ (false || (50 : Nat) < m.rd P.ainHitRearm 31) = false ∧ (false || (49 : Nat) < m.rd P.ainHitRearm 31) = true
       ∧ (let m' := { m with now := 6 }; (m'.at 6).now < 5 + m'.rd P.ainHitDead 31 * 1000)
       ∧ (∀ h, (m.loop.ain.getD 31 {}).lastHit = some h → h + m.rd P.ainHitDead 31 * 1000 ≤ (m.at 200005).now))
    ∧ (∀ e ∈ [(false, false), (true, false), (true, true), (false, true)],
        let m := put (enc7 { a := e.1, b := e.2, pos := 2147483647 }) [(P.ainEncCfg, 7, 0x30A)]
        (st m).Canonical ∧ 7 < m.loop.enc.length ∧ (m.rd P.ainEncCfg 7).testBit 9 = true ∧ (m.loop.enc.getD 7 {}).unusable = false
        ∧ (m.loop.enc.getD 7 {}).a = e.1 ∧ (m.loop.enc.getD 7 {}).b = e.2
        ∧ field (m.rd P.ainEncCfg 7) 7 0 * 100 ≤ 1000 ∧ 999 < field (m.rd P.ainEncCfg 7) 7 0 * 100)
    ∧ (let m := put run0 [(P.ainFrqCfg, 15, 0x10A)]
       (st m).Canonical ∧ 15 < m.loop.frq.length ∧ (m.rd P.ainFrqCfg 15).testBit 8 = true ∧ field (m.rd P.ainFrqCfg 15) 7 0 * 100 ≤ 1000 ∧ (m.loop.frq.getD 15 {}).unusable = false) := by
  unfold State.Canonical
  refine ⟨by decide +kernel, by decide +kernel, by decide +kernel, by decide +kernel, by decide +kernel,
    ⟨by decide +kernel, by decide +kernel, by decide +kernel, by decide +kernel, by decide +kernel, by decide +kernel, by decide +kernel,
      by decide +kernel, ?_⟩, by decide +kernel, by decide +kernel⟩
  intro h e
  obtain rfl : 5 = h := Option.some.inj e
  decide +kernel

/-- Trace 7 in a given state, its capacity that of a trace with one signal. -/
def trace7 (x : Trace) : Mod := { run0 with loop := { traces := List.replicate 7 {} ++ [x] } }
theorem witness_LoopsRunEachTick_traces :
    ∀ x ∈ [({ st := .armed, seq := 4294967295 } : Trace), { st := .complete, seq := 5 }],
      let m := put (trace7 x) [(P.loopTrTrig, 7, (4095 : Nat) * 2 ^ 16), (P.evcRoute, 93, 1)]
      (st m).Canonical ∧ m.running = true ∧ m.Plain 0 93 ∧ 7 < m.loop.traces.length
      ∧ (x.st = .armed → (m.loop.traces.getD 7 {}).st = .armed ∧ field (m.rd P.loopTrTrig 7) 27 16 < m.trCap 7) := by
  unfold State.Canonical Mod.Plain Mod.NoTrace; decide +kernel

theorem witness_ShiftRoundsAwayAndSaturates :
    1 ≤ 31 ∧ 31 ≤ 31 ∧ -2147483648 ≤ (-2147483648 : Int) ∧ (-2147483648 : Int) ≤ 2147483647 := by decide +kernel

/-! ### Witnesses: the receiver -/

/-- A receiver that is started, in a mode. -/
def rcv (mode : Nat) (g : GnssSt) (now : Nat) : Mod :=
  { put run0 [(P.gnssAntV, 0, 2), (P.gnssSignals, 0, 0xFF)] with sys := { gnssMode := mode }, gnss := { g with started := true, antOn := true }, now := now }
/-- Channel 63 in a given state. -/
def ch63 (c : GCh) : GnssSt := { ch := List.replicate 63 {} ++ [c], acq := .active }

theorem witness_ReceiverAcquiresAndTracks :
    (∀ a ∈ [1, 2],
      let m := rcv 1 { ant := a } 0
      (st m).Canonical ∧ m.antennaJudged = true ∧ m.gnss.ant ≠ 0 ∧ 3 ≤ 3 ∧ 3 < 120)
    ∧ (let m := rcv 1 { antAt := 5 } 100000005
       m.antennaJudged = true ∧ m.gnss.ant ≠ 1 ∧ m.gnss.antAt + 100000000 ≤ (m.at 100000005).now ∧ m.gnss.antAt + 1000000 ≤ (m.at 100000005).now
       ∧ 2 < 3 ∧ 120 ≤ 120)
    ∧ (let m := rcv 1 { ant := 2, antAt := 5 } 1000000005
       let m := { m with gnss := { m.gnss with antOn := false } }
       m.isG = true ∧ m.gnss.started = true ∧ m.rd P.gnssAntV ≠ 0 ∧ m.gnss.ant = 2 ∧ m.gnss.antOn = false
       ∧ m.gnss.antAt + 1000000000 ≤ (m.at 1000000005).now)
    ∧ (let m := rcv 1 {} 0
       m.gnssOn = true ∧ m.sys.gnssMode = 1 ∧ m.gnss.acq = .none ∧ m.gnss.acqEnd = none ∧ m.asking .gnss = false)
    ∧ (let m := rcv 1 { acqEnd := some 1 } 5000000001
       m.gnss.acqEnd = some 1 ∧ m.gnss.acq = .none ∧ m.asking .gnss = false ∧ 1 + m.rd P.gnssAcqEveryS * 1000000000 ≤ (m.at 705032705).now)
    ∧ (let m := rcv 1 { acq := .active, acqAt := 1 } 2000000001
       m.gnss.acq = .active ∧ m.gnss.acqAt + m.rd P.gnssAcqMaxMs * 1000000 ≤ (m.at 2000000001).now)
    ∧ (∀ sig ∈ [2, 4],
        let m := rcv 1 (ch63 { st := 2, sig := sig }) 0
        m.correlating = true ∧ 63 < m.gnss.ch.length ∧ (m.gnss.ch.getD 63 {}).st = 2 ∧ (m.gnss.ch.getD 63 {}).sig = sig ∧ 99 < 100)
    ∧ (let none' : Mod := rcv 1 { acq := .active } 0
       let full := fun (el : Nat) => rcv 1 { acq := .active, ch := (List.range 64).map (fun i => { sig := 0, prn := i, st := 2, el := el }) } 0
       let mine := fun (m : Mod) (sig : Nat) (low : Bool) (prn i : Nat) =>
         let x := m.gnss.ch.getD i {}; decide (x.st ≠ 0 ∧ x.sig = sig ∧ x.prn = prn ∧ x.low = lowerBand sig low)
       none'.correlating = true ∧ (List.range 64).find? (mine none' 7 false 255) = none ∧ none'.rd P.gnssElevMask * 100 ≤ 9000 ∧ none'.freeChannel 9000 = some 0
       ∧ (none'.rd P.gnssSignals).testBit 7 = true
       ∧ (List.range 64).find? (mine (full 5000) 7 false 255) = none ∧ (full 5000).freeChannel 9000 = some 0 ∧ (full 5000).freeChannel 5000 = none
       ∧ (rcv 1 {} 0).gnss.acq ≠ .active ∧ 499 < (rcv 1 {} 0).rd P.gnssElevMask * 100
       ∧ (let m := rcv 1 (ch63 { st := 1, sig := 6, low := true, prn := 5, lostAt := some 1 }) 10000000000
          (List.range 64).find? (mine m 6 true 5) = some 63 ∧ (List.range 64).find? (mine m 6 false 5) = none ∧ (m.rd P.gnssSignals).testBit 6 = true ∧ m.correlating = true ∧ (m.gnss.ch.getD 63 {}).st = 1 ∧ (m.gnss.ch.getD 63 {}).lostAt = some 1
          ∧ (m.at 1410065408).now < 1 + 10000000000))
    ∧ (let m := rcv 1 (ch63 { st := 1, lostAt := some 1 }) 10000000001
       (m.gnss.ch.getD 63 {}).st = 1 ∧ (m.gnss.ch.getD 63 {}).lostAt = some 1 ∧ 1 + 10000000000 ≤ (m.at 1410065409).now) := by
  unfold State.Canonical; decide +kernel

theorem witness_ReceiverStateFollowsEvents :
    (let m := rcv 1 { corr := some 1, excl := [(0, 5, 0)] } 60000000002
     (st m).Canonical ∧ m.gnss.corr = some 1 ∧ m.gnss.stale = false ∧ 1 + m.rd P.gnssDiffAgeMax * 1000000000 < (m.at 4165425154).now)
    ∧ (let m := rcv 1 { oscLock := true } 0
       1 ≤ 1 ∧ m.running = true ∧ m.isG = true ∧ m.gnss.oscLock = true ∧ m.gnss.started = true ∧ m.sys.gnssMode ≠ 0)
    ∧ (run0.gnss.started = false ∧ run0.running = true ∧ run0.isG = true)
    ∧ (let m := rcv 1 { acqEnd := some 1 } 5000000001
       m.gnss.acq ≠ .active ∧ 1 + m.rd P.gnssAcqEveryS * 1000000000 ≤ (m.at 705032705).now)
    ∧ (rcv 0 {} 0).sys.gnssMode = 0
    ∧ (let m := rcv 2 { burstSec := some 1 } 0
       m.gnssOn = true ∧ m.sys.gnssMode = 2 ∧ m.gnss.continuous = 0 ∧ m.gnss.burst = none ∧ (m.at 0).burstNow = true
       ∧ m.gnss.burstSec ≠ some (m.at 0).burstSecond)
    ∧ (∀ g ∈ [{ lastTrust := some 1, trusted := true }, { lastTrust := some 1, count := 8 }, ({ lossFrom := 1, count := 8 } : GnssSt)],
        let m := rcv 1 g 1500000001
        m.gnssOn = true ∧ m.sys.gnssMode = 1 ∧ m.gnss.lost = false
        ∧ Nat.max (m.gnss.lastTrust.getD 0) m.gnss.lossFrom + m.rd P.gnssLossMs * 1000000 ≤ (m.at 1500000001).now) := by
  unfold State.Canonical; decide +kernel

/-- Five satellites of one system, tracked, and their residuals: those of a solution that passes every check. -/
def track5 : GnssSt := { ch := List.replicate 59 {} ++ List.replicate 5 { st := 2, sig := 0, cn0 := 45, el := 6000 } }
def sol5 : GnssSol :=
  { cnt := 0, reports := [{ ch := 63, cn0 := 44, az := 100, el := 5000 }], tries := [(List.range 5).map (fun c => { ch := 59 + c, r := 5 })],
    lat := 4700000, lon := 8300000, hgt := 400000, vn := 0, ve := 0, vu := 0, hErr := 200, vErr := 300, hDop := 100, pDop := 150,
    gps := 1400000000000000000, tErr := 20, leap := 18, drift := 5, sbas := [], alm := none, eph := [] }
def noSol : GnssSol := { sol5 with reports := [], tries := [] }

theorem witness_SolutionsEarnTrust :
    (∀ count ∈ [0, 8, 9],
      let m := rcv 1 { track5 with count := count } 0
      let v := ((((m.at 0).streamLost sol5.lost).takeReports sol5.reports).checkSol false sol5).1
      (st m).Canonical ∧ m.gnssOn = true ∧ m.sys.gnssMode = 1 ∧ m.gnss.continuous = 0 ∧ v.reason = 0 ∧ v.used ≠ []
      ∧ m.rd P.gnssTrustN = 10 ∧ (∀ a, m.gnss.epochAt = some a → a + m.epochEvery ≤ (m.at 0).extend sol5.cnt)
      ∧ (m.at 0).now ≤ (m.at 0).extend sol5.cnt + 50000000)
    ∧ (let m := rcv 1 track5 0
       noSol.tries = [] ∧ noSol.reports = [] ∧ noSol.alm = none ∧ noSol.eph = [] ∧ m.rd P.gnssMinSv ≠ 0 ∧ m.rd P.gnssKtMinSv ≠ 0)
    ∧ (let m := rcv 2 { track5 with burst := some 0 } 40000000
       let v := ((((m.at 40000000).streamLost sol5.lost).takeReports sol5.reports).checkSol true sol5).1
       (st m).Canonical ∧ m.gnssOn = true ∧ m.gnss.burst = some 0 ∧ 0 + 40000000 ≤ (m.at 40000000).now ∧ m.gnss.shortBursts = 0 ∧ v.reason = 0 ∧ v.used ≠ []) := by
  unfold State.Canonical; decide +kernel

/-! ### Witnesses: the timebase -/

/-- A timebase in a given state, at an instant. -/
def timed (x : TimeSt) (now : Nat) : Mod := { run0 with time := x, now := now }

theorem witness_TimebaseFollowsEvents :
    (∀ x ∈ [({} : TimeSt), { isSet := true, st := 1, epsL := 100000 }, { isSet := true, st := 1, epsL := 100001 }],
      let m := timed x 4294967295
      (st m).Canonical ∧ m.evc.raised = [] ∧ m.time = x ∧ x.epsAt + 1000000 ≤ (m.at 4294967295).now)
    ∧ ((timed {} 999999).at 999999).now < 0 + 1000000
    ∧ (∀ e ∈ [((100 : Int), 10000000, 9900000), (-100, 10000000, 9900000), (5, 1000000, 900000)],
        let left := e.1
        let m := { put run0 [(P.timeSlewLeft, 0, toU 32 left)] with time := { slew := some 0 } }
        let n : Nat → Int := fun now => (((now - m.time.slewAt) * Nat.min (m.rd P.timeSlewMax) (1000 * left.natAbs) + m.time.slewRem) / sec : Nat)
        (st m).Canonical ∧ m.time.slew = some 0 ∧ m.rdI P.timeSlewLeft = left
        ∧ left.natAbs ≤ (n ((m.at e.2.1).now)).natAbs ∧ 0 < n ((m.at e.2.2).now) ∧ n ((m.at e.2.2).now) < left.natAbs
        ∧ n ((m.at 50000).now) = 0 ∧ left ≠ 0)
    ∧ (let x : TimeSt := { toSet := some (1, 1700000000123456789) }
       x.toSet = some (1, 1700000000123456789) ∧ (((timed x 876543211).at 876543211).now + 1700000000123456789 : Int) % 1000000000 < 4 ∧ x.isSet = false ∧ (∀ o ∈ x.outs, o.armed = false))
    ∧ (∀ d ∈ [(1 : Int), 0, -5000000],
        let x : TimeSt := { isSet := true, st := 1, step := some d }
        x.step = some d ∧ x.st = 1 ∧ ((timed x 1000000000).at 1000000000).atSecond = true ∧ (∀ o ∈ x.outs, o.armed = false))
    ∧ (let x : TimeSt := { isSet := true, st := 3, hold := some { s := 0, until_ := 7, amount := 5 } }
       x.hold = some { s := 0, until_ := 7, amount := 5 } ∧ 7 ≤ ((timed x 7).at 7).now) := by
  unfold State.Canonical; decide +kernel

/-- PTP port 1 in a given state and mode, in domain 127. -/
def ptp1 (mode : Nat) (p : PtpPort) : Mod := { put run0 [(P.timePtpCfg, 1, 16 * mode + 0x7F00)] with time := { ports := [{}, p] } }
def ptpMsg (kind : Nat) : PtpMsg :=
  { kind := kind, domain := 127, sender := 77, req := 78, seq := 9, ingress := 1000, twoStep := true, time := 5000, corr := 3, prio1 := 1, cls := 2, accuracy := 3,
    variance := 4, prio2 := 5, identity := 6, steps := 7, source := 8 }

theorem witness_PtpPortsFollowMasters :
    (∀ mode ∈ [1, 2, 3],
      let m := ptp1 mode {}
      (st m).Canonical ∧ m.time.ports.length = 2 ∧ field (m.rd P.timePtpCfg 1) 5 4 = mode ∧ field (m.rd P.timePtpCfg 1) 15 8 = 127 ∧ mode ≠ 0
      ∧ m.pulsesLive = true ∧ (m.ptp 1).best = none ∧ (∀ k ∈ [0, 1, 2], (m.at 0).ptpDue 1 k = true)
      ∧ (ptpMsg 0).udp = ((m.rd P.timePtpCfg 1).testBit 3 && decide (mode ≠ 3)))
    ∧ (let m := ptp1 1 { sentAt := [some 0, some 0, some 0] }
       ∀ k, k ≤ 2 → (m.at 0).ptpDue 1 k = false)
    ∧ ((∀ k ∈ [0, 1, 3, 4, 5], (ptpMsg k).kind = k ∧ (ptpMsg k).domain = 127 ∧ { ptpMsg k with domain := 0 }.domain = 0 ∧ (ptpMsg k).twoStep = true)
      ∧ ((ptp1 1 { st := 9, parent := 77 }).ptp 1).parent = (ptpMsg 1).sender ∧ ((ptp1 1 { st := 9, parent := 76 }).ptp 1).parent ≠ (ptpMsg 1).sender
      ∧ ((ptp1 1 { st := 6 }).ptp 1).st = 6 ∧ ((ptp1 1 { st := 9 }).ptp 1).st = 9)
    ∧ (let m := ptp1 1 { st := 9, parent := 77, delayReq := some (9, 4000), sync := some (2000, 2500) }
       (ptpMsg 4).sender = (m.ptp 1).parent ∧ { ptpMsg 4 with req := m.ptpId 1 }.req = m.ptpId 1 ∧
       (m.ptp 1).delayReq = some ((ptpMsg 4).seq, 4000) ∧ (m.ptp 1).sync = some (2000, 2500))
    ∧ (let m := ptp1 1 { best := some { prio1 := 1, cls := 2, accuracy := 3, variance := 4, prio2 := 5, identity := 6, steps := 7, source := 8 }, annAt := 5 }
       let now := 5 + m.annTimeout 1
       now < 2 ^ 60 ∧ (m.ptp 1).best ≠ none ∧ (m.ptp 1).annAt + m.annTimeout 1 ≤ ({ m with now := now }.at now).now) := by
  unfold State.Canonical; decide +kernel

theorem witness_PulsesAndCapturesFollowTime :
    (∀ e ∈ [((none : Option Nat), 0), (some 1000000, 1000000000), (some 1000001, 1000000000)],
      let m := timed { st := 1, ppsLast := e.1 } e.2
      (st m).Canonical ∧ m.time.outs.length = 4 ∧ m.time.capLast.length = 4 ∧ m.pulsesLive = true ∧ m.time.st ≠ 0 ∧ m.time.ppsLast = e.1 ∧ (m.at e.2).atSecond = true
      ∧ m.time.ppsSec ≠ some ((m.at e.2).reported / sec) ∧ (m.at e.2).now = e.2
      ∧ (∀ l, e.1 = some l → l = 1000000 ∧ l + 999000000 ≤ (m.at e.2).now ∨ l = 1000001 ∧ (m.at e.2).now < l + 999000000))
    ∧ (let m := put (timed { pps := true, ppsLast := some 5 } 1000000005) [(P.timePpsFree, 0, 1)]
       m.time.st = 0 ∧ m.rd P.timePpsFree ≠ 0 ∧ m.time.ppsLast = some 5 ∧ 5 + m.rd P.timePpsWidth * 1000000 ≤ (m.at 1000000005).now)
    ∧ (let m := put run0 [(P.timeOutCfg, 3, 2), (P.timeOutAtLo, 3, 2001)]
       m.running = true ∧ field (m.rd P.timeOutCfg 3) 2 1 ≠ 0 ∧ (m.at 0).outNow 3 + 2000 < (0#32).toNat * 2 ^ 32 + m.rd P.timeOutAtLo 3)
    ∧ (∀ cfg ∈ [2, 4],
        let m := put (timed { outs := [{}, {}, {}, { armed := true, next := 5000 }] } 5000) [(P.timeOutCfg, 3, cfg)]
        (m.time.outs.getD 3 {}).armed = true ∧ (m.time.outs.getD 3 {}).next ≤ (m.at 5000).outNow 3 ∧ field (m.rd P.timeOutCfg 3) 2 1 = cfg / 2
        ∧ (m.rd P.timeOutCfg 3).testBit 3 = false)
    ∧ (let m := timed { outs := [{}, {}, {}, { level := true, lastEdge := some 5 }] } 1005
       (m.time.outs.getD 3 {}).lastEdge = some 5 ∧ 5 + m.rd P.timeOutWidth 3 ≤ (m.at 1005).now)
    ∧ (∀ now ∈ [45, 44],
        let m := put (timed { capLast := [none, none, none, some 5] } now) [(P.timeCapCfg, 3, 3)]
        (m.rd P.timeCapCfg 3).testBit 0 = true ∧ (m.rd P.timeCapCfg 3).testBit 1 = true ∧ m.time.capLast.getD 3 none = some 5
        ∧ (if now = 45 then 5 + 40 ≤ (m.at now).now else (m.at now).now < 5 + 40)) := by
  unfold State.Canonical; decide +kernel

/-! ### Witnesses: CAN FD and the performance counters -/

/-- Channel 3 in a given state. -/
def can3 (c : CanCh) : Mod := { put run0 [(P.canMode, 3, 1), (P.canCfg, 3, 8), (P.netCanCh, 0, 8)] with can := { ch := [{}, {}, {}, c] } }
def entry0 : CanEntry :=
  { stamp := 1, seq := 2, id := 0x1F000000 + 62, ext := true, fd := false, brs := false, esi := false, tx := false, rtr := false, dlc := 8,
    data := [0x8F#8, 0#8, 5#8, 6#8, 0#8, 0#8, 0#8, 0#8] }
def slot0 : CanEntry × Bool × Bool := (entry0, false, false)
def canFrame0 : CanFrame := { id := 5, ext := false, fd := true, brs := true, esi := false, rtr := false, dlc := 8, data := List.replicate 8 1#8 }
def tx0 : CanTx := { id := 0x1FFFFFFF, ext := true, fd := true, brs := false, dlc := 2, data := [1#8, 2#8], at_ := 0, from_ := 2, sid := 7 }

theorem witness_CanFramesAreReceivedAndRouted :
    (∀ n ∈ [0, 510, 512],
      let m := can3 { st := 0, rec_ := 127, tec := 127, ring := List.replicate n slot0, seq := 4294967295 }
      (st m).Canonical ∧ 3 < m.can.ch.length ∧ (m.canCh 3).st = 0 ∧ (m.canCh 3).tec < 128 ∧ (m.canCh 3).rec_ ≤ 127
      ∧ (m.rd P.canCfg 3).testBit 3 = true ∧ (m.canCh 3).ring.length = n)
    ∧ (canFrame0.fd = true ∧ (run0.rd P.canCfg 3).testBit 3 = false)
    ∧ (∀ d ∈ [0, 8, 1],
        let m := put (can3 { st := 0, ring := [slot0] }) [(P.canDefaultDest, 3, d), (P.evcRoute, 115, 1)]
        (m.canCh 3).ring = slot0 :: [] ∧ (m.canCh 3).shadow = none ∧ (m.canCh 3).tp = [] ∧ m.destOf 3 slot0.1 = d ∧ (∀ r ∈ m.net.reasm, r.ch ≠ 3) ∧ m.Plain 0 (112 + 3) ∧ m.carries (2 + 3) = true)
    ∧ (entry0.ext = true ∧ entry0.rtr = false ∧ entry0.id = run0.rd P.netCanBase + 2 * 31
       ∧ entry0.data.take (dlcLen entry0.fd entry0.dlc) = BitVec.ofNat 8 (128 + 15) :: 0#8 :: [5#8, 6#8, 0#8, 0#8, 0#8, 0#8])
    ∧ (let r : Reasm := { ch := 3, peer := 31, tag := 15, next := 1, last := 5, bytes := [] }
       let m := { run0 with net := { reasm := [r] }, now := 100000005 }
       m.net.reasm.find? (fun r => r.is 3 31 15) = some r ∧ r.last + m.rd P.netCanReasmMs * 1000000 ≤ (m.at 100000005).now) := by
  unfold State.Canonical Mod.Plain Mod.NoTrace; decide +kernel

theorem witness_CanTransmitsAndConfinesErrors :
    (let c : CanCh := { st := 0, tec := 127, rec_ := 127, txq := [tx0, { tx0 with id := 5 }, { tx0 with id := 1, at_ := 6 }, { tx0 with id := 1, from_ := 1 }],
                        ring := List.replicate 510 slot0 }
     let m := can3 c
     (st m).Canonical ∧ 3 < m.can.ch.length ∧ m.canCh 3 = c ∧ c.txHead ((m.at 9).extend 5) = 1
     ∧ c.txq[c.txHead ((m.at 9).extend 5)]? = some { tx0 with id := 5 } ∧ c.st = 0 ∧ 1 ≤ c.tec
     ∧ c.tec < 128 ∧ c.rec_ < 128 ∧ m.rd P.canMode 3 = 1 ∧ c.ring.length < 511 ∧ c.txWait = []) := by
  unfold State.Canonical; decide +kernel

theorem witness_CanTransmitsAndConfinesErrors_errors :
    (∀ c ∈ [{ st := 0, txq := [tx0], rec_ := 255 }, ({ st := 1, tec := 248, txq := [tx0] } : CanCh)],
        let m := can3 c
        m.canCh 3 = c ∧ c.st < 2 ∧ (∀ f ∈ c.txq, f.late = false) ∧ m.rd P.canMode 3 = 1 ∧ c.txq ≠ [] ∧ (m.rd P.canCfg 3).testBit 3 = true
        ∧ ownAttempt 4 = true ∧ ownAttempt 3 = false ∧ ¬((can3 { st := 0 }).rd P.canMode 3 = 1 ∧ ((can3 { st := 0 }).canCh 3).txq ≠ [])
        ∧ ((can3 { st := 0 }).canCh 3).st < 2) := by
  decide +kernel

theorem witness_CanTransmitsAndConfinesErrors_claims :
    (∀ f ∈ [tx0, { tx0 with id := 0x18EEFF00 + 253, from_ := 1 }],
        let c : CanCh := { st := 0, txq := [f], iso := .claimed, sa := 253 }
        let m := { can3 c with now := 1000000000 }
        m.canCh 3 = c ∧ c.txq = f :: [] ∧ f.at_ + m.rd P.canTxTimeout 3 * 1000000 ≤ (m.at 1000000000).now ∧ f.late = false ∧ c.txWait = []
        ∧ (f.from_ = 2 → f.isClaim = false) ∧ (f.from_ = 1 → f.isClaim = true ∧ f.id % 256 = c.sa ∧ c.iso = .claimed ∧ c.claimSent = false))
    ∧ (let m := { can3 { st := 2, tec := 256, busOffAt := 5 } with now := 1000000000 }
       (m.canCh 3).st = 2 ∧ 2 * (m.canCh 3).busOffAt + 1408 * m.canBit 3 ≤ 2 * (m.at 1000000000).now ∧ (m.rd P.canCfg 3).testBit 0 = false)
    ∧ (let m := { put (can3 { st := 0, iso := .waiting, isoAt := 1, sa := 253 }) [(P.canIsoNameLo, 3, 255)] with now := 153000001 }
       (m.canCh 3).iso = .waiting ∧ (m.canCh 3).isoAt + 600000 * (m.isoName 3 % 256) ≤ (m.at 153000001).now ∧ (m.canCh 3).txq.length < 32
       ∧ (m.canCh 3).txWait = [])
    ∧ (∀ sent ∈ [true, false],
        let m := { can3 { st := 0, iso := .claimed, isoAt := 1, sa := 253, claimSent := sent } with now := 250000001 }
        (m.canCh 3).iso = .claimed ∧ (m.canCh 3).claimSent = sent ∧ (m.canCh 3).st < 2
        ∧ (m.canCh 3).isoAt + 250000000 ≤ (m.at 250000001).now) := by
  decide +kernel

/-- Tower 15 in service; its counter 7 samples an event of a code; the first causeway has a threshold. -/
def perf15 (code : Nat) (p : PerfSt) : Mod :=
  { (put (tower15 up15) [(P.perfTagCfg, 0, 0x80000100)]).wr P.perfTPeriod 100000 15 7 with
    perf := { p with sel := [(P.perfTSel.addr 15 7, code), (P.perfCwThr.addr 0, 48)] }, now := 5000 }

theorem witness_CountersAndSamplesAreKept :
    (let m := perf15 0x0001 { snapSeq := 4294967295 }
     (st m).Canonical ∧ m.running = true ∧ m.perf.pend = [] ∧ (m.at 5000).towerTakes 15 7 9 = true ∧ m.sampling 15 7 = false
     ∧ ∀ j, j < 8 → j ≠ 7 → m.towerCode 15 j ≠ m.towerCode 15 7)
    ∧ (∀ a ∈ [P.perfCwAbove.addr 0, P.perfCwCross.addr 0],
        let m := perf15 0x0001 {}
        m.perf.lent = 0 ∧ isHist a = false ∧ cntAt a = none ∧ P.perfMCntLo.find a = none ∧ (m.at 5000).countTaken [(a, 3)] (a, 3) = true)
    ∧ (∀ e ∈ [(0x8001, false), (0x8010, true)],
        let m := perf15 e.1 { smpSeq := 4095, lastSmp := [(15, 4)] }
        (st m).Canonical ∧ m.towerSamples 15 = true ∧ m.sampling 15 7 = true ∧ m.towerCode 15 7 ≠ 0 ∧ ownCode (m.towerCode 15 7) = e.2
        ∧ ((assocGet m.perf.sel (P.perfTSel.addr 15 7)).getD 0).testBit 14 = false ∧ (15, 7) ∉ m.perf.due ∧ (∀ x ∈ m.perf.ring, x.us < (m.at 5000).now / 1000)
        ∧ assocGet m.perf.lastSmp 15 = some 4 ∧ 4 < (m.at 5000).now / 1000 ∧ m.perf.smpSeq < 4096 ∧ 8 ≤ 8)
    ∧ (let m := perf15 0x8001 { lastSmp := [(15, 5)] }
       ownCode (m.towerCode 15 7) = false ∧ assocGet m.perf.lastSmp 15 = some 5 ∧ (m.at 5000).now / 1000 ≤ 5)
    ∧ (∀ u ∈ [4, 5],
        let m := perf15 0x8001 { lastUs := [(15, u)], smpSeq := 4095 }
        m.smpBusy 15 = some u ∧ m.perf.smpSeq < 4096 ∧ m.towerSamples 15 = true ∧ (m.at 5000).tagged 15 4990 512 = true
        ∧ ∀ x ∈ m.perf.ring, x.us < Nat.max ((m.at 5000).now / 1000) (u + 1)) := by
  unfold State.Canonical; decide +kernel


/-! ### The spec's worked examples (each test names its chapter) -/

/-- Chapter 3: out_0 of the pixel with v3 = (47,175, 44,000, 30,500) is 58,005. -/
theorem test_colour_value :
    (run0.colourOut 2 [(P.camMatrix.addr 2 0, 5632#32), (P.camMatrix.addr 2 1, w32 (toU 16 (-1024))), (P.camMatrix.addr 2 2, w32 (toU 16 (-512))),
      (P.camMatrix.addr 2 3, w32 (toU 17 (-512))), (P.camTone.addr 2 1548, w32 (58016 * 65536 + 58000))] 0 [47175, 44000, 30500]) = 58005 := by
  decide +kernel

/-- Chapter 6: lane block 37, with v_b = 3.800 m/s, a_b = 9.400 m/s² and w_b = 20 mm/s. -/
def lane37 : Lane := { v := 3800000, a := 9400000, w := 20000 }
/-- T_A is 14,742.5 µs, and the drift to it 1.18 columns. -/
theorem test_motion_model :
    fallTime lane37.a (lane37.speedAt 95000 150000) (lane37.speedAt 95000 95000) / 100 = 147425 ∧ driftCols 20000 14742500 = 302 := by
  decide +kernel
/-- The samples of the almond: v_s = 3,795.66 mm/s, w_s = 20.31 mm/s, and the triple after them. -/
theorem test_motion_samples :
    velocitySample lane37 95000 { h := 150000, t := 0, x := 614400, lane := 37 } { h := 95000, t := 14760000, x := 614707, lane := 37 } = 3795659
    ∧ driftSample { h := 150000, t := 0, x := 614400, lane := 37 } { h := 95000, t := 14760000, x := 614707, lane := 37 } = 20312
    ∧ alphaStep 3800000 3795660 32 32 = 3799864 ∧ alphaStep 9400000 9012900 256 256 = 9398488 := by decide +kernel

/-- Chapter 7: the latest start of the blueberry's job is 17,220 µs. -/
theorem test_latest_start : (put run0 [(P.sysMode, 0, 1)]).latestStart 30030000 15640000 = 17220000 := by decide +kernel

/-- Chapter 8: the almond's extent selects channels 151 to 154. -/
def almondVals : Store :=
  [(P.ejOrigin.addr, 2000#32), (P.ejPitch.addr, 3906250#32), (P.ejMarginX.addr, 1000#32), (P.ejMinOverlap.addr, 1500#32)]
theorem test_coverage :
    (extentOf (Store.canon almondVals) 2376 2427 487).left = 593487000 ∧ (extentOf (Store.canon almondVals) 2376 2427 487).select 1500 = (151, 154) := by
  decide +kernel
/-- Chapter 8: piece D's hold-start on channel 224 begins at 36,752 µs, with λ = 112 µs. -/
theorem test_hold_start :
    let p : EPulse := { epulse0 with ch := 224, firm := true, k := 36750000, fire := 38060000, dHs := 1420000, slack := 500000 }
    p.hsAt = 36752000 ∧ p.hsAt + p.dHs - p.fire = 112000 ∧ tickOf 36967600 = 36968000 := by decide +kernel

/-- Chapter 10: at V_B = 45.20 V the model holds 1,200 µC. -/
theorem test_toll_energy :
    (put (tolled run0 { vb := 45200 }) [(P.tollCBulk, 0, 1000), (P.tollVFloor, 0, 44000)]).availNc = 1200000 := by decide +kernel

/-- Chapter 11: channel 4's duty is 1,000 at 16.5 V and 804 at 23.94 V. -/
theorem test_lamp_compensation : lswComp 2 800 24000 16500 0 = 1000 ∧ lswComp 2 800 24000 23940 0 = 804 := by decide +kernel

/-- Chapter 12: loop 6 at t = 0 puts out 4,667 mHz, with P = 41, I = 3,397 and F = 1,229. -/
theorem test_outer_loop :
    let m := put run0 [(P.loopKp, 6, toU 32 (-1476395008)), (P.loopKi, 6, toU 32 (-1073741824)), (P.loopKfx, 6, 80530637),
      (P.loopShifts, 6, 29 * 2 ^ 25 + 31 * 2 ^ 20 + 31), (P.loopIMin, 6, 0), (P.loopIMax, 6, 10000), (P.loopUMin, 6, 3667), (P.loopUMax, 6, 5333)]
    let o := m.autoPeriod 6 { u := some 4660, iacc := 6779 * 2 ^ 30, sI := some 31, mode := 1 }
      { m := 55, r := 40, x := 32768, p := 0, vel := 0, age := 0, kind := 0 } false
    o.ctx.u = some 4667 ∧ o.ctx.iacc = 3397 * 2 ^ 31 ∧ o.sig.take 7 = [55, 40, -15, 41, 3397, 0, 1229] := by decide +kernel
/-- Chapter 12: loop 5 at t = 1 ms puts out 1,190 mA. -/
theorem test_inner_loop :
    let m := put run0 [(P.loopKp, 5, 322122547), (P.loopKi, 5, 644245), (P.loopKfr, 5, 429496730), (P.loopShifts, 5, 31 * 2 ^ 25 + 31 * 2 ^ 20 + 31 * 2 ^ 5),
      (P.loopIMin, 5, 0), (P.loopIMax, 5, 1000), (P.loopUMin, 5, 200), (P.loopUMax, 5, 1600), (P.loopUSlew, 5, 20), (P.loopBias, 5, 200)]
    let o := m.autoPeriod 5 { u := some 1176, iacc := 35 * 2 ^ 31, sI := some 31, mode := 1 }
      { m := 4520, r := 4667, x := 0, p := 0, vel := 0, age := 0, kind := 0 } false
    o.ctx.u = some 1190 ∧ o.ctx.iacc = 35 * 2 ^ 31 + 94704015 ∧ o.sig.take 7 = [4520, 4667, 147, 22, 35, 0, 933] := by decide +kernel

/-- Chapter 14: in holdover ε is 100,000 ns at 3,606.81 s and 201,060 ns at 7,200 s. -/
theorem test_holdover :
    (timed { st := 2, epsL := 60 } 3606810000000).eps = 100000 ∧ (timed { st := 2, epsL := 60 } 7200000000000).eps = 201060 := by decide +kernel

/-- Chapter 15: the claim of NAME 0xA00C_8000_0021_0047 is sent at 42.6 ms, not before. -/
def implement (now : Nat) : Mod :=
  { put (can3 { st := 0, iso := .waiting, sa := 0x80 }) [(P.canIsoNameLo, 3, 0x00210047), (P.canIsoNameHi, 3, 0xA00C8000)] with now := now }
theorem test_claim_delay :
    ((isoClaimSend 3 (implement 42599999)).canCh 3).txq = [] ∧ ((isoClaimSend 3 (implement 42600000)).canCh 3).txq.map (·.id) = [0x18EEFF80]
    ∧ ((isoClaimSend 3 (implement 42600000)).canCh 3).txq.map (·.data)
        = [[0x47#8, 0x00#8, 0x21#8, 0x00#8, 0x00#8, 0x80#8, 0x0C#8, 0xA0#8]] := by decide +kernel

/-- Chapter 20: 60 × 997,512 ledger entries take the sum of the seven columns. -/
theorem test_ledger_sum : 60 * 997512 = 41895504 + 1197014 + 5985072 + 598507 + 299254 + 9576115 + 299254 := by decide

/-! ### Reset, the queue, and single commands -/

/-- The module's words right after reset are their defaults: LINE_PERIOD, FUS_COLS. -/
theorem test_reset_words : State.reset.m.rd P.camLinePeriod 7 = 76920 ∧ State.reset.m.rd P.fusCols = 6400 := by decide +kernel

/-- Two commands in the queue run in their order, one a step. -/
theorem test_first_in_first_out :
    (match step { pending := [.rawCounterWrap 5, .antennaShort 9 120], m := run0 } with
      | .next s => decide (s.pending = [.antennaShort 9 120] ∧ s.m.now = 2 ^ 32)
      | _ => false) = true := by decide +kernel

/-- A camera port that a command names beyond the eighth is none. -/
theorem test_absent_port :
    (match exec (.portClockLoss 5 8) (st run0) with
      | .next s => decide (s.m.cams = run0.cams ∧ s.m.now = 5)
      | _ => false) = true := by decide +kernel

/-- No word spells a command, whatever it holds; withFetchWord then leaves the state as it is. -/
theorem test_no_word_spells_a_command :
    decodeTableWord 0 0 = none ∧ decodeTableWord 32 0xFFFFFFFF = none ∧ State.reset.withFetchWord 32 5 = State.reset := by decide +kernel

/-! ### Ill-formed commands are refused -/

/-- A message whose fields fit. -/
def goodMsg : Msg := plainReq sess0 5 []

theorem test_ill_formed_instant : [Instr.loopTick (2 ^ 32), .bye (2 ^ 32) goodMsg, .pulseRelease (2 ^ 32) 0].all (fun i => !i.wf) = true := by
  decide +kernel
theorem test_ill_formed_message :
    [{ goodMsg with tr := 7 }, { goodMsg with magic := 2 ^ 16 }, { goodMsg with version := 2 ^ 8 }, { goodMsg with kind := 2 ^ 8 },
     { goodMsg with typ := 2 ^ 16 }, { goodMsg with len := 2 ^ 16 }, { goodMsg with sid := 2 ^ 32 }, { goodMsg with seq := 2 ^ 32 }].all (fun g =>
       [Instr.dialSet 0 g, .calWrite 0 g, .calRead 0 g, .read 0 g, .correction 0 g, .hello 0 g, .auth 0 g, .bye 0 g, .ping 0 g, .tallyRead 0 g,
        .mapRead 0 g, .eventSubscribe 0 g, .streamResend 0 g, .frameSubscribe 0 g, .frameSend 0 g, .unknownType 0 g, .recorderWindow 0 g,
        .recorderClear 0 g, .updateBegin 0 g, .updateData 0 g, .updateEnd 0 g, .updateAbort 0 g, .updateStatus 0 g, .provisionInfo 0 g,
        .provision 0 g, .recipeSelect 0 (.msg g), .registerWrite 0 (.msg g) []].all (fun i => !i.wf)) = true := by decide +kernel
theorem test_ill_formed_role :
    [Instr.recipeSelect 0 (.write 2 0), .registerWrite 0 (.pair 2 0 0 0) [], .registerWrite 0 (.pair 0 16 0 0) [], .deepTest 0 2 0 0 false,
     .deepTest 0 0 16 0 false, .sysDecLatClr 0 2 0, .cellClr 0 2 0, .trkClr 0 2 0, .ejClr 0 2 0, .tollClr 0 2 0, .evcClr 0 2 0,
     .fusMotionReset 0 2 0, .fusSuspectClr 0 2 0, .trkLot 0 2 0, .vlvChClr 0 2 0, .vlvPClr 0 2 0 0, .lswClr 0 2 0, .traceArm 0 2 0,
     .traceTrigger 0 2 0, .traceStop 0 2 0, .gnssAccept 0 2 0, .gnssCold 0 2 0, .timeOutArm 0 2 0 0, .logCursor 0 2 0,
     .perfSnap 0 2 0 []].all (fun i => !i.wf) = true := by decide +kernel
theorem test_ill_formed_camera_or_panel :
    [Instr.expPulse 0 8, .frameStart 0 8 false, .cameraLine 0 8 0 [] false, .frameEnd 0 8, .statsPublish 0 8, .templateSent 0 8,
     .templateReply 0 8 [], .templateReplyTimeout 0 8, .portClockLoss 0 8, .colourReconstruction 0 8 false [], .resampleLine 0 8 false [],
     .featureRow 0 8 [] false [] [], .observationClose 0 8, .observationDue 0 0 8, .sensorAbsent 0 8, .panelRegionWritten 0 2 0,
     .panelStatusFrame 0 2 [], .panelLinkDown 0 2, .panelLinkRetry 0 2 true, .panelSelection 0 2, .panelLoadBoundary 0 2,
     .panelEnableEdge 0 2 true].all (fun i => !i.wf) = true := by decide +kernel
theorem test_ill_formed_cells_or_lanes :
    [Instr.cellFailure 0 16 0 0, .cellFailure 0 0 64 0, .towerWarmRestartComplete 0 16 true 0 [], .towerWarmRestartComplete 0 0 true 64 [],
     .towerGate 0 16, .towerResume 0 16, .laneBlockWarm 0 100, .laneBlockStale 0 100, .perfSample 0 16 0 0 0 false 0 0 0,
     .perfSample 0 0 8 0 0 false 0 0 0, .perfSample 0 0 0 64 0 false 0 0 0, .perfTagRecord 0 16 0 false 0 0 0 0 0 0,
     .perfTagRecord 0 0 64 false 0 0 0 0 0 0].all (fun i => !i.wf) = true := by decide +kernel
theorem test_ill_formed_valve :
    [Instr.pulseFirm 0 0 384, .holdStartInstant 0 0 384, .pulseStart 0 0 384 false (0, 0) [], .pulseLatestStart 0 0 384, .pulseRelease 0 384,
     .lowSideOpen 0 384 [], .boostEnd 0 384 0, .hsRiseEnd 0 384 0, .decayEnd 0 384 0, .arrivalDetected 0 384 [], .openCoil 0 384 0,
     .shortOvercurrent 0 384 0 [], .lowSideStuckOn 0 384 [] [], .bankStageFault 0 24 [] [], .pvPwmPeriod 0 32 0 0, .pvOpenLoad 0 32 0, .pvShort 0 32 0,
     .pvRetry 0 32, .pvOvertemp 0 32 0 0, .pvOvertempCleared 0 32 0, .vlvPClr 0 0 32 0].all (fun i => !i.wf) = true := by decide +kernel
theorem test_ill_formed_load_or_input :
    [Instr.inrushWindowEnd 0 24, .lswPwmPeriod 0 24, .lswHardShort 0 24 0, .lswOvercurrentTrip 0 24, .lswThermalLatch 0 24 0 0,
     .lswThermalClear 0 24 0, .lswRetryDue 0 24, .lswRetryReset 0 24, .lswOpenLoad 0 24, .lswOpenCleared 0 24, .lswUvSwitchOff 0 2 0,
     .lswUvRestore 0 2, .lswOvRestore 0 2, .lswUndervoltageThreshold 0 2 true 0, .traceArm 0 0 8, .traceTrigger 0 0 8, .traceStop 0 0 8,
     .ainWindow 0 32 [], .ainOverrange 0 32 0, .ainShuntReclose 0 32, .ainLowCurrent 0 32 0, .ainFaultClear 0 32, .ainPiezoHit 0 32 0 0,
     .ainHitRate 0 32, .encoderEdge 0 8 true true 0, .encoderIndex 0 8 0, .freqEdge 0 16 0].all (fun i => !i.wf) = true := by decide +kernel
theorem test_ill_formed_time_or_net :
    [Instr.gnssSidePeak 0 64 0 0 0, .gnssLostLock 0 64, .gnssLockSearchEnd 0 64, .gnssSignalTracked 0 8 false 0 0, .ptpEventMessage 0 2 (ptpMsg 0),
     .ptpMessageTimer 0 2 0 0, .ptpAnnounceTimeout 0 2, .timeOutArm 0 0 4 0, .timeOutEdge 0 4, .timeOutPulseEnd 0 4, .captureEdge 0 4 true,
     .canFrameReceived 0 4 0 canFrame0, .canRingService 0 4 0 false [], .canFrameTransmitted 0 4 0 0, .canError 0 4 0 none, .canTxTimeout 0 4 false,
     .canBusoffRecovered 0 4, .isoClaimSend 0 4, .isoAddressHeld 0 4, .canReassemblyTimeout 0 4 0 0, .canReassemblyTimeout 0 0 32 0,
     .canReassemblyTimeout 0 0 0 16, .ethLinkChange 0 3 0, .arpRequest 0 3 0 0 0, .icmpEcho 0 3 0 0 0 [], .ethernetFrameReceived 0 3 false [],
     .authTimeout 0 8, .sessionIdleTimeout 0 8, .eventStreamSend 0 8, .flashOperationComplete 0 2 true, .updateVerifyComplete 0 2].all
      (fun i => !i.wf) = true := by decide +kernel
/-- The same commands about units that exist are well formed. -/
theorem test_well_formed :
    [Instr.loopTick (2 ^ 32 - 1), .bye 0 { goodMsg with tr := 6, seq := 2 ^ 32 - 1 }, .registerWrite 0 (.pair 1 15 0 0) [], .portClockLoss 0 7,
     .panelLinkDown 0 1, .cellFailure 0 15 63 0, .laneBlockWarm 0 99, .pulseRelease 0 383, .bankStageFault 0 23 [] [], .pvRetry 0 31,
     .lswRetryDue 0 23, .lswUvRestore 0 1, .traceArm 0 1 7, .ainHitRate 0 31, .encoderIndex 0 7 0, .freqEdge 0 15 0, .gnssLostLock 0 63,
     .ptpAnnounceTimeout 0 1, .timeOutEdge 0 3, .canReassemblyTimeout 0 3 31 15, .ethLinkChange 0 2 0, .authTimeout 0 7,
     .updateVerifyComplete 0 1].all (·.wf) = true := by decide +kernel
/-- Chapter 20's worked example: causeway 0 is 64 entries deep, and takes a threshold of 48. -/
theorem test_causeway_threshold :
    State.reset.m.rd P.perfCwDepth 0 = 64 ∧ State.reset.m.writeCheck 1 (P.perfCwThr.addr 0) 48#32 = .ok (P.perfCwThr, 0, 0)
    ∧ State.reset.m.writeCheck 1 (P.perfCwThr.addr 0) 65#32 = .error 13 := ⟨by decide +kernel, by rfl, by rfl⟩
end Sys2Proof.Tests
end

section
/-!
PROOFS. The statements of 00_scope.md. Every command runs a meaning of its own at its instant, so every command completes and every
step leaves the store canonical; writes of registers and clear commands change what they name, or nothing where they are refused.
-/
namespace Sys2Proof.Machine

/-! ### Commands and steps complete (R9, R10) -/

/-- Dispatch has no arm of another form: each command runs its meaning at its own instant and touches nothing else of the state. -/
theorem exec_eq_run (c : Instr) : ∃ f : Mod → Mod, ∀ s, exec c s = s.run c.instant f := by
  cases c <;> exact ⟨_, fun _ => rfl⟩

/-- The store is canonical after any command, even where it was not before: `Mod.settle` ends every run. -/
theorem exec_yields_canonical (c : Instr) (s : State) : s.Yields c fun m' => Store.wf m'.regs = true := by
  obtain ⟨f, hf⟩ := exec_eq_run c
  exact State.yields_run (hf s) (Mod.run_wf _ f s.m)

/-- Settles O2: every arm of the dispatch is a run. -/
theorem everyCommandCompletes : Obligations.EveryCommandCompletes := by
  intro c s
  obtain ⟨m', hexec, hwf⟩ := exec_yields_canonical c s
  exact ⟨m', hexec, fun _ => hwf⟩

/-- Settles O4: with an empty queue the module idles, else the front command's run leaves the store canonical and the queue's rest. -/
theorem everyStepKeepsStoreCanonical : Obligations.EveryStepKeepsStoreCanonical := by
  intro s hs
  cases hq : s.pending with
  | nil => exact ⟨s, by simp [step, hq], hs, hq⟩
  | cons c rest =>
    obtain ⟨m', hexec, hwf⟩ := exec_yields_canonical c { s with pending := rest }
    exact ⟨{ pending := rest, m := m' }, by simpa only [step, hq] using hexec, hwf, rfl⟩

/-! ### Answers of commands that raise no event -/

/-- What a command leaves where its meaning raises no event and keeps the store canonical. -/
theorem State.yields_calm {s : State} {c : Instr} {t : Nat} {f : Mod → Mod} {Q : Mod → Prop} (hexec : exec c s = s.run t f)
    (hquiet : (f (s.m.at t)).evc.raised = []) (hwf : Store.wf (f (s.m.at t)).regs = true) (hQ : Q (f (s.m.at t))) : s.Yields c Q :=
  State.yields_run hexec (by rwa [Mod.run_calm t f s.m hquiet hwf])

/-- A command whose meaning changes nothing has no effect but that of its instant. -/
theorem State.yields_unchanged {s : State} {c : Instr} {t : Nat} {f : Mod → Mod} (hexec : exec c s = s.run t f)
    (hraised : s.m.evc.raised = []) (hs : s.Canonical) (hf : f (s.m.at t) = s.m.at t) : s.Yields c fun m' => m' = s.m.at t :=
  State.yields_calm hexec (by rw [hf]; exact hraised) (by rw [hf]; exact hs) hf

/-- A change of the module at its instant, as a frame of the command. -/
theorem Mod.Within.toFrame {as : List Area} {ws : List Nat} {m b : Mod} {t : Nat} (h : Mod.Within as ws (m.at t) b) :
    Mod.Frame t as ws m b :=
  ⟨h.now, fun p hp => by have := h.areas p hp; cases p <;> exact this, h.words⟩

theorem Mod.Within.rd_eq {as : List Area} {ws : List Nat} {a b : Mod} (h : Mod.Within as ws a b) (hwf : Store.wf a.regs = true)
    {p : Param} {i j : Nat} (hp : p.addr i j ∉ ws) (hl : p.addr i j ≠ P.loopFlags.addr) : b.rd p i j = a.rd p i j :=
  congrArg BitVec.toNat (h.words hwf _ hp hl)

/-! ### The check of a write (R44) -/

theorem writeNow_of_refused {m : Mod} {role slot a st : Nat} {v : Word} (counts : List (Nat × Nat))
    (h : m.writeCheck role a v = .error st) : writeNow role slot counts a v m = m := by
  unfold writeNow Mod.writeWord
  rw [h]
  exact ite_self m

theorem writeNow_of_w1c {m : Mod} {role slot a i j : Nat} {v : Word} {p : Param} (counts : List (Nat × Nat)) (hrun : m.running = true)
    (hok : m.writeCheck role a v = .ok (p, i, j)) (hcls : p.cls = .w1c) : writeNow role slot counts a v m = m.w1c a v.toNat := by
  simp [writeNow, Mod.writeWord, hrun, hok, hcls]

theorem writeNow_of_cmd {m : Mod} {role slot a i j : Nat} {v : Word} {p : Param} (counts : List (Nat × Nat)) (hrun : m.running = true)
    (hok : m.writeCheck role a v = .ok (p, i, j)) (hcls : p.cls = .cmd) (hbase : p.base ≠ P.sysRecipeSel.base) :
    writeNow role slot counts a v m = (m.setWord a v).cmdEffect slot counts p i a v.toNat := by
  simp [writeNow, Mod.writeWord, hrun, hok, hcls, hbase]

/-! ### W1C fields (R11) -/

theorem and_mod_two (x v : Nat) : (x &&& v) % 2 = if v % 2 = 1 then x % 2 else 0 := by
  have h := Nat.and_mod_two_pow (a := x) (b := v) (n := 1)
  rcases Nat.mod_two_eq_zero_or_one v with hv | hv <;> simpa [hv] using h

/-- Taking from a number the bits that it shares with another clears exactly those: no bit borrows. -/
theorem testBit_sub_and (x v b : Nat) : (x - (x &&& v)).testBit b = (x.testBit b && !v.testBit b) := by
  have hle : x &&& v ≤ x := Nat.and_le_left
  have hlow := and_mod_two x v
  induction b generalizing x v with
  | zero =>
    have hparity : (x - (x &&& v)) % 2 = 1 ↔ x % 2 = 1 ∧ v % 2 = 0 := by
      split at hlow <;> omega
    simp only [Nat.testBit_zero, hparity]
    rcases Nat.mod_two_eq_zero_or_one v with hv | hv <;> simp [hv]
  | succ b ih =>
    have hhalf : (x &&& v) / 2 = x / 2 &&& v / 2 := Nat.and_div_two
    have hsub : (x - (x &&& v)) / 2 = x / 2 - (x / 2 &&& v / 2) := by
      rw [← hhalf]
      split at hlow <;> omega
    simp only [Nat.testBit_succ, hsub, ih (x / 2) (v / 2) Nat.and_le_left (and_mod_two _ _)]

/-- The word that a W1C write leaves: the named bits are clear, but for those marked. -/
theorem w32_w1c (x v : Word) (marked : Nat) :
    w32 (x.toNat - (x.toNat &&& (v.toNat - (v.toNat &&& marked)))) = x &&& ~~~(v &&& ~~~w32 marked) := by
  refine BitVec.eq_of_getLsbD_eq fun b hb => ?_
  simp only [w32, BitVec.getLsbD_ofNat, BitVec.getLsbD_and, BitVec.getLsbD_not, testBit_sub_and, BitVec.testBit_toNat, hb,
    decide_true, Bool.true_and]

/-- A W1C write of a stored field (R11); EVC_FLAGS and LOG_FLAGS are not in the parameter store. -/
theorem Mod.w1c_of_stored {m : Mod} {a : Nat} (v : Word) (hevc : a ≠ P.evcFlags.base) (hlog : a ≠ P.logFlags.base) :
    m.w1c a v.toNat = m.setWord a (m.word a &&& ~~~(v &&& ~~~w32 (m.marked a))) := by
  simp only [Mod.w1c, hevc, hlog, if_false, w32_w1c]

theorem Mod.w1c_evcFlags (m : Mod) (v : Nat) :
    m.w1c P.evcFlags.base v
      = { m with evc := { m.evc with dropFlag := m.evc.dropFlag && !(v - (v &&& m.marked P.evcFlags.base)).testBit 0 } } := rfl

theorem Mod.w1c_logFlags (m : Mod) (v : Nat) :
    m.w1c P.logFlags.base v
      = { m with log := { m.log with flags := m.log.flags - (m.log.flags &&& (v - (v &&& m.marked P.logFlags.base))) } } := rfl

theorem writeCheck_evcFlags (m : Mod) (role : Nat) : m.writeCheck role P.evcFlags.base 1#32 = .ok (P.evcFlags, 0, 0) := by rfl

theorem writeCheck_logFlags (m : Mod) (role : Nat) {v : Word} (hv : v.toNat < 16) :
    m.writeCheck role P.logFlags.base v = .ok (P.logFlags, 0, 0) := by
  have hbits : P.logFlags.bitsOk 0 v = true := by
    have hmask : P.logFlags.maskAt 0 = 2 ^ 4 - 1 := rfl
    simp [Param.bitsOk, hmask, Nat.and_two_pow_sub_one_of_lt_two_pow (n := 4) hv]
  have hat : paramAt P.logFlags.base = some (P.logFlags, 0, 0) := by rfl
  unfold Mod.writeCheck
  rw [hat]
  simp only [hbits]
  rfl

/-! ### Commands of one bit whose range is 1 (R10, R44) -/

/-- The parameter is a command of one bit that may be written 1 alone. -/
def Param.isTrigger (p : Param) : Bool :=
  paramAt p.addr = some (p, 0, 0) && p.addr % 4 = 0 && p.addr < 0x20000000 && p.n1 = 1 && p.cls = .cmd && !p.sg && p.maskAt 0 = 1
    && p.rng = .lim (.c 1) (.c 1) 1

theorem Param.isTrigger_iff {p : Param} :
    p.isTrigger = true ↔ paramAt p.addr = some (p, 0, 0) ∧ p.addr % 4 = 0 ∧ p.addr < 0x20000000 ∧ p.n1 = 1 ∧ p.cls = .cmd
      ∧ p.sg = false ∧ p.maskAt 0 = 1 ∧ p.rng = .lim (.c 1) (.c 1) 1 := by
  simp only [Param.isTrigger, Bool.and_eq_true, decide_eq_true_eq, Bool.not_eq_true', and_assoc]

theorem Param.inRange_trigger {p : Param} (hp : p.isTrigger = true) (g : Nat → Word) (v : Word) :
    p.inRange g 0 0 v = decide (v = 1#32) := by
  obtain ⟨-, -, -, -, -, hsg, -, hrng⟩ := Param.isTrigger_iff.1 hp
  have hval : v = 1#32 ↔ v.toNat = 1 := by rw [← BitVec.toNat_inj]; rfl
  have hbounds : ((1 : Int) ≤ v.toNat ∧ (v.toNat : Int) ≤ 1) ↔ v.toNat = 1 := by omega
  simp [Param.inRange, hrng, Param.val, hsg, Bound.eval, hval, ← hbounds]

/-- Such a command that each role may write on every variant, and that is not SYS_RECIPE_SEL. -/
def Param.isOpenTrigger (p : Param) : Bool :=
  p.isTrigger && !p.svc && p.addr / 0x1000000 ≠ 12 && p.base ≠ P.sysRecipeSel.base

theorem Param.isOpenTrigger_iff {p : Param} :
    p.isOpenTrigger = true ↔ p.isTrigger = true ∧ p.svc = false ∧ p.addr / 0x1000000 ≠ 12 ∧ p.base ≠ P.sysRecipeSel.base := by
  simp only [Param.isOpenTrigger, Bool.and_eq_true, decide_eq_true_eq, Bool.not_eq_true', and_assoc]

theorem writeCheck_trigger {p : Param} (hp : p.isOpenTrigger = true) (m : Mod) (role : Nat) :
    m.writeCheck role p.addr 1#32 = .ok (p, 0, 0) := by
  obtain ⟨htrig, hsvc, hblock, -⟩ := Param.isOpenTrigger_iff.1 hp
  obtain ⟨hat, halign, hlow, -, hcls, -, hmask, -⟩ := Param.isTrigger_iff.1 htrig
  have hbits : p.bitsOk 0 1#32 = true := by simp [Param.bitsOk, hmask]
  unfold Mod.writeCheck
  simp [hat, halign, hblock, Nat.not_le.2 hlow, hcls, hsvc, hbits, Param.inRange_trigger htrig]

/-- Any value but 1 is refused. -/
theorem writeCheck_trigger_refused {p : Param} (hp : p.isTrigger = true) (m : Mod) (role : Nat) {v : Word} (hv : v ≠ 1#32) :
    ∃ st, m.writeCheck role p.addr v = .error st := by
  obtain ⟨hat, -⟩ := Param.isTrigger_iff.1 hp
  unfold Mod.writeCheck
  simp only [hat, Param.inRange_trigger hp, hv, decide_false, Bool.not_false, if_true]
  split_ifs <;> exact ⟨_, rfl⟩

theorem cmdWrite_trigger {p : Param} (hp : p.isOpenTrigger = true) {m : Mod} (hrun : m.running = true) (role : Nat)
    (counts : List (Nat × Nat)) :
    cmdWrite p 0 role counts 1#32 m = (m.setWord p.addr 1#32).cmdEffect 0 counts p 0 p.addr 1 := by
  obtain ⟨htrig, -, -, hbase⟩ := Param.isOpenTrigger_iff.1 hp
  obtain ⟨-, -, -, hone, hcls, -⟩ := Param.isTrigger_iff.1 htrig
  have hzero : 0 < p.n1 := by omega
  rw [cmdWrite, if_pos hzero]
  exact writeNow_of_cmd counts hrun (writeCheck_trigger hp m role) hcls hbase

theorem cmdWrite_trigger_refused {p : Param} (hp : p.isTrigger = true) {v : Word} (hv : v ≠ 1#32) (m : Mod) (role : Nat)
    (counts : List (Nat × Nat)) : cmdWrite p 0 role counts v m = m := by
  obtain ⟨st, hst⟩ := writeCheck_trigger_refused hp m role hv
  rw [cmdWrite, writeNow_of_refused counts hst, ite_self]

theorem deepTestWrite_refused {v : Word} (hv : v ≠ 1#32) (m : Mod) (role slot : Nat) (cut : Bool) :
    deepTestWrite role slot v cut m = m := by
  obtain ⟨st, hst⟩ := writeCheck_trigger_refused (p := P.bistDeep) rfl m role hv
  change m.writeCheck role P.bistDeep.base v = .error st at hst
  simp [deepTestWrite, hst, Except.isOk, Except.toBool, writeNow_of_refused [] hst]

/-- The commands that are a write of one such parameter, each with its parameter. -/
def triggerCommands (t role : Nat) (v : Word) : List (Param × Instr) :=
  [(P.sysDecLatClr, .sysDecLatClr t role v), (P.cellClr, .cellClr t role v), (P.trkClr, .trkClr t role v), (P.ejClr, .ejClr t role v),
   (P.tollClr, .tollClr t role v), (P.evcClr, .evcClr t role v), (P.fusMotionReset, .fusMotionReset t role v),
   (P.trkLot, .trkLot t role v), (P.gnssAccept, .gnssAccept t role v), (P.gnssCold, .gnssCold t role v),
   (P.perfSnap, .perfSnap t role v [])]

theorem triggerCommands_isTrigger {t role : Nat} {v : Word} : ∀ e ∈ triggerCommands t role v, e.1.isTrigger = true := by
  simp only [triggerCommands, List.forall_mem_cons]
  exact ⟨rfl, rfl, rfl, rfl, rfl, rfl, rfl, rfl, rfl, rfl, rfl, fun e he => absurd he List.not_mem_nil⟩

theorem triggerCommands_exec {t role : Nat} {v : Word} (s : State) :
    ∀ e ∈ triggerCommands t role v, exec e.2 s = s.run t (cmdWrite e.1 0 role [] v) := by
  simp only [triggerCommands, List.forall_mem_cons]
  exact ⟨rfl, rfl, rfl, rfl, rfl, rfl, rfl, rfl, rfl, rfl, rfl, fun e he => absurd he List.not_mem_nil⟩

/-! ### Clear commands (R26, R132, R184, R207, R256, R391) -/

/-- Parameter `p` is a clear command: a write of 1 does `clear`, which changes no word beside those of `ws` and raises no event. -/
structure Clears (p : Param) (clear : Mod → Mod) (ws : List Nat) : Prop where
  trigger : p.isOpenTrigger = true
  effect : ∀ m : Mod, m.cmdEffect 0 [] p 0 p.addr 1 = clear m
  raised : ∀ m : Mod, (clear m).evc.raised = m.evc.raised
  within : ∀ m : Mod, Mod.Within [] ws m (clear m)
  own : p.addr ∈ ws

/-- A clear command written 1: its own word is stored and the clearing done, within its frame. -/
theorem Clears.yields {p : Param} {clear : Mod → Mod} {ws : List Nat} (h : Clears p clear ws) {s : State} {c : Instr} {t role : Nat}
    {Q : Mod → Prop} (hexec : exec c s = s.run t (cmdWrite p 0 role [] 1#32)) (hraised : s.m.evc.raised = []) (hs : s.Canonical)
    (hrun : s.m.running = true)
    (hQ : ∀ m : Mod, Store.wf m.regs = true → m.evc = s.m.evc → Mod.Frame t [] ws s.m (clear m) → Q (clear m)) : s.Yields c Q := by
  have hmean : cmdWrite p 0 role [] 1#32 (s.m.at t) = clear ((s.m.at t).setWord p.addr 1#32) := by
    rw [cmdWrite_trigger h.trigger (m := s.m.at t) hrun, h.effect]
  have hstored : Store.wf ((s.m.at t).setWord p.addr 1#32).regs = true := Mod.setWord_wf hs _ _
  have hwithin := (Mod.Within.setWord (s.m.at t) _ 1#32 h.own).trans (h.within _)
  refine State.yields_calm hexec ?_ ?_ ?_ <;> rw [hmean]
  · rw [h.raised]; exact hraised
  · exact (h.within _).wf hstored
  · exact hQ _ hstored rfl hwithin.toFrame

theorem Mod.rd_wr_zero {m : Mod} (h : Store.wf m.regs = true) (p : Param) (i j : Nat) : (m.wr p 0 i j).rd p i j = 0 := by
  simp [Mod.rd_wr h]

/-- Elements `0` to `n - 1` of a parameter taken to 0, as EJ_CLR and TOLL_CLR do with their waits. -/
def Mod.zeros (p : Param) (n : Nat) (m : Mod) : Mod := (List.range n).foldl (fun m k => m.wr p 0 k) m

theorem Mod.zeros_succ (p : Param) (n : Nat) (m : Mod) : m.zeros p (n + 1) = (m.zeros p n).wr p 0 n := by
  simp [Mod.zeros, List.range_succ]

theorem Mod.Within.zeros (p : Param) {ws : List Nat} (n : Nat) (h : ∀ k, k < n → p.addr k ∈ ws) (m : Mod) :
    Mod.Within [] ws m (m.zeros p n) := by
  induction n with
  | zero => exact .refl m
  | succ n ih =>
    rw [Mod.zeros_succ]
    exact (ih fun k hk => h k (Nat.lt_succ_of_lt hk)).trans (.wr _ _ _ _ _ (h n (Nat.lt_succ_self n)))

theorem Mod.zeros_evc (p : Param) (n : Nat) (m : Mod) : (m.zeros p n).evc = m.evc := by
  induction n with
  | zero => rfl
  | succ n ih => rw [Mod.zeros_succ, Mod.wr_evc, ih]

theorem Param.addr_inj {p : Param} (hs : 0 < p.s1) {i k : Nat} (h : p.addr i = p.addr k) : i = k := by
  simpa [Param.addr, hs.ne'] using h

theorem Mod.rd_zeros {p : Param} (hs : 0 < p.s1) {m : Mod} (hwf : Store.wf m.regs = true) (n : Nat) {k : Nat} (hk : k < n) :
    (m.zeros p n).rd p k = 0 := by
  induction n with
  | zero => exact absurd hk (Nat.not_lt_zero k)
  | succ n ih =>
    have hwf' : Store.wf (m.zeros p n).regs = true :=
      (Mod.Within.zeros p (ws := (List.range n).map fun k => p.addr k) n (fun k hk => List.mem_map_of_mem (List.mem_range.2 hk)) m).wf hwf
    rw [Mod.zeros_succ]
    rcases Nat.lt_succ_iff_lt_or_eq.1 hk with hlt | rfl
    · rw [Mod.rd_wr_ne hwf' fun e => hlt.ne (Param.addr_inj hs e), ih hlt]
    · exact Mod.rd_wr_zero hwf' p _ 0

theorem clears_sysDecLatClr : Clears P.sysDecLatClr (fun m => m.wr P.sysDecLatMax 0) [P.sysDecLatClr.addr, P.sysDecLatMax.addr] where
  trigger := rfl
  effect _ := rfl
  raised _ := rfl
  within m := .wr m _ _ _ _ (by simp)
  own := by simp

theorem clears_cellClr : Clears P.cellClr cellClr [P.cellClr.addr, P.cellSlotsPeak.addr, P.cellWaitMax.addr] where
  trigger := rfl
  effect _ := rfl
  raised _ := rfl
  within m := (Mod.Within.wr m _ _ _ _ (by simp)).trans (.wr _ _ _ _ _ (by simp))
  own := by simp

theorem clears_trkClr : Clears P.trkClr trkClr [P.trkClr.addr, P.trkLivePeak.addr] where
  trigger := rfl
  effect _ := rfl
  raised _ := rfl
  within m := .wr m _ _ _ _ (by simp)
  own := by simp

theorem ejClr_eq (m : Mod) : ejClr m = (((m.wr P.ejQPeak 0).wr P.ejEnergisedPeak 0).wr P.ejShiftMax 0).zeros P.ejBankWaitMax 24 := rfl

/-- The waits of the banks, which EJ_CLR clears with the three peaks (R207). -/
def bankWaits : List Nat := (List.range 24).map fun b => P.ejBankWaitMax.addr b

theorem clears_ejClr :
    Clears P.ejClr ejClr ([P.ejClr.addr, P.ejQPeak.addr, P.ejEnergisedPeak.addr, P.ejShiftMax.addr] ++ bankWaits) where
  trigger := rfl
  effect _ := rfl
  raised m := by rw [ejClr_eq, Mod.zeros_evc]; rfl
  within m := by
    rw [ejClr_eq]
    refine Mod.Within.trans ?_ (.zeros _ 24 (fun k hk => ?_) _)
    · exact ((Mod.Within.wr m _ _ _ _ (by simp)).trans (.wr _ _ _ _ _ (by simp))).trans (.wr _ _ _ _ _ (by simp))
    · exact List.mem_append_right _ (List.mem_map_of_mem (List.mem_range.2 hk))
  own := by simp

theorem tollClr_eq (m : Mod) : tollClr m = m.zeros P.tollWaitMax 5 := rfl

theorem clears_tollClr : Clears P.tollClr tollClr (P.tollClr.addr :: (List.range 5).map fun n => P.tollWaitMax.addr n) where
  trigger := rfl
  effect _ := rfl
  raised m := by rw [tollClr_eq, Mod.zeros_evc]
  within m := by
    rw [tollClr_eq]
    exact .zeros _ 5 (fun k hk => List.mem_cons_of_mem _ (List.mem_map_of_mem (List.mem_range.2 hk))) m
  own := by simp

theorem clears_evcClr : Clears P.evcClr evcClr [P.evcClr.addr] where
  trigger := rfl
  effect _ := rfl
  raised _ := rfl
  within m := .of_evented (.ofEvc m _ rfl)
  own := by simp

theorem ejClr_zeros {m : Mod} (hwf : Store.wf m.regs = true) :
    (ejClr m).rd P.ejQPeak = 0 ∧ (ejClr m).rd P.ejEnergisedPeak = 0 ∧ (ejClr m).rd P.ejShiftMax = 0
      ∧ ∀ b, b < 24 → (ejClr m).rd P.ejBankWaitMax b = 0 := by
  have hq : Store.wf (m.wr P.ejQPeak 0).regs = true := Mod.wr_wf hwf _ _ _ _
  have he : Store.wf ((m.wr P.ejQPeak 0).wr P.ejEnergisedPeak 0).regs = true := Mod.wr_wf hq _ _ _ _
  have hf : Store.wf (((m.wr P.ejQPeak 0).wr P.ejEnergisedPeak 0).wr P.ejShiftMax 0).regs = true := Mod.wr_wf he _ _ _ _
  have hkeep := Mod.Within.zeros P.ejBankWaitMax (ws := bankWaits) 24 (fun k hk => List.mem_map_of_mem (List.mem_range.2 hk))
    (((m.wr P.ejQPeak 0).wr P.ejEnergisedPeak 0).wr P.ejShiftMax 0)
  rw [ejClr_eq]
  refine ⟨?_, ?_, ?_, fun b hb => Mod.rd_zeros (by decide) hf 24 hb⟩
  · rw [hkeep.rd_eq hf (by decide) (by decide), Mod.rd_wr_ne he (by decide), Mod.rd_wr_ne hq (by decide), Mod.rd_wr_zero hwf]
  · rw [hkeep.rd_eq hf (by decide) (by decide), Mod.rd_wr_ne he (by decide), Mod.rd_wr_zero hq]
  · rw [hkeep.rd_eq hf (by decide) (by decide), Mod.rd_wr_zero he]

/-! ### A WRITE message of one pair that is refused (R376) -/

theorem pairsOf_one {d : List Byte} (h : d.length = 8) : pairsOf d = [(leAt d 0 4, w32 (leAt d 4 4))] := by
  match d, h with
  | [_, _, _, _, _, _, _, _], _ => rfl

theorem leAt_drop (l : List Byte) (n o k : Nat) : leAt (l.drop n) o k = leAt l (n + o) k := by
  simp [leAt, List.drop_drop]

theorem msgWrite_of_refused {m : Mod} {x : Session} {b : List Byte} {st : Nat} (counts : List (Nat × Nat)) (hlen : b.length = 12)
    (hone : leAt b 0 2 = 1) (hrun : m.running = true)
    (hst : m.writeCheck x.role (leAt b 4 4) (w32 (leAt b 8 4)) = .error st) :
    msgWrite x counts b m = (0, leBytes 2 1 ++ leBytes 2 st, m) := by
  have hpairs : pairsOf (b.drop 4) = [(leAt b 4 4, w32 (leAt b 8 4))] := by
    rw [pairsOf_one (by simp [hlen]), leAt_drop, leAt_drop]
  have hword : m.writeWord x.role x.slot counts (leAt b 4 4) (w32 (leAt b 8 4)) = (st, m) := by
    unfold Mod.writeWord
    rw [hst]
  simp [msgWrite, hlen, hone, hpairs, Mod.writePairs, hrun, hword]

theorem Mod.isoCh_accepting {m : Mod} (hwf : Store.wf m.regs = true) (g : Msg) (x : Session) : (m.accepting g x).isoCh = m.isoCh := by
  have hne : ∀ ch ∈ List.range 4, P.canCfg.addr ch ≠ P.netRxMsgs.addr ∧ P.canMode.addr ch ≠ P.netRxMsgs.addr := by decide
  unfold Mod.isoCh
  refine List.find?_congr fun ch hch => ?_
  obtain ⟨hcfg, hmode⟩ := hne ch hch
  have hrdCfg : (m.accepting g x).rd P.canCfg ch = m.rd P.canCfg ch := Mod.rd_inc_ne hwf hcfg
  have hrdMode : (m.accepting g x).rd P.canMode ch = m.rd P.canMode ch := Mod.rd_inc_ne hwf hmode
  rw [hrdCfg, hrdMode]

theorem Mod.reaches_accepting {m : Mod} (hwf : Store.wf m.regs = true) (g : Msg) (x : Session) (tr : Nat) :
    (m.accepting g x).reaches tr = m.reaches tr := by
  unfold Mod.reaches
  rw [Mod.isoCh_accepting hwf]
  rfl

/-- An answer to an accepted request, sent while nothing else of the module changed. -/
theorem answered_reply {s : State} {g : Msg} {x : Session} (h : s.Accepts g x) (t st : Nat) (body : List Byte) {m' : Mod}
    (hnet : m'.net = (((s.m.at t).accepting g x).reply x.id g.typ g.seq st body).net) : Answered g x st body s.m m' := by
  have hsession := Mod.accepting_session (m := s.m.at t) h.found
  have hreach : ((s.m.at t).accepting g x).reaches x.tr = true := by
    rw [Mod.reaches_accepting (m := s.m.at t) h.canonical, ← h.tr]
    exact Mod.reaches_of_carries (m := s.m.at t) h.carried
  obtain ⟨o, hsent, hrest⟩ := Mod.reply_net ((s.m.at t).accepting g x) x.id g.typ g.seq st body hsession hreach
  exact ⟨o, (congrArg NetSt.sent hnet).trans hsent, hrest⟩

theorem Mod.Within.acceptThenReply {m : Mod} {g : Msg} {x : Session} (typ st : Nat) (body : List Byte) :
    Mod.Within [.net, .can, .free] netCounters m ((m.accepting g x).reply x.id typ g.seq st body) :=
  (Mod.Within.accepting m g x (by simp) (by simp [netCounters])).trans
    (.reply _ _ _ _ _ _ (by simp) (by simp) (by simp) (by simp [netCounters]))

theorem volron_write_refused {s : State} {t : Nat} {g : Msg} {x : Session} {counts : List (Nat × Nat)} {st : Nat} (h : s.Accepts g x)
    (hgate : s.m.gate x g.typ = none) (htyp : g.typ = 0x0011) (hlen : g.body.length = 12) (hone : leAt g.body 0 2 = 1)
    (hrun : s.m.running = true)
    (hst : ((s.m.at t).accepting g x).writeCheck x.role (leAt g.body 4 4) (w32 (leAt g.body 8 4)) = .error st) :
    volron 0x0011 counts g (s.m.at t)
      = ((s.m.at t).accepting g x).reply x.id g.typ g.seq 0 (leBytes 2 1 ++ leBytes 2 st) := by
  have hhandler : handler counts 0x0011 x g.seq g.body ((s.m.at t).accepting g x)
      = (0, leBytes 2 1 ++ leBytes 2 st, (s.m.at t).accepting g x) :=
    msgWrite_of_refused counts hlen hone hrun hst
  have hcal : ((s.m.at t).accepting g x).net.cal = none := h.idle
  rw [htyp] at hgate ⊢
  simp [volron_accepts h 0x0011 t counts htyp (by decide), hgate, hhandler, hcal]

/-! ### Writes as the queue gives them -/

theorem registerWrite_w1c_yields {s : State} {t role slot a i j : Nat} {v : Word} {counts : List (Nat × Nat)} {p : Param}
    (hraised : s.m.evc.raised = []) (hs : s.Canonical) (hrun : s.m.running = true) (hok : s.m.writeCheck role a v = .ok (p, i, j))
    (hcls : p.cls = .w1c) (hevc : a ≠ P.evcFlags.base) (hlog : a ≠ P.logFlags.base) :
    s.Yields (.registerWrite t (.pair role slot a v) counts) fun m' =>
      m'.word a = s.m.word a &&& ~~~(v &&& ~~~w32 ((s.m.at t).marked a)) ∧ (∀ c, c ≠ a → m'.word c = s.m.word c)
      ∧ Mod.Frame t [] [a] s.m m' := by
  have hmean : registerWrite (.pair role slot a v) counts (s.m.at t)
      = (s.m.at t).setWord a (s.m.word a &&& ~~~(v &&& ~~~w32 ((s.m.at t).marked a))) :=
    (writeNow_of_w1c (m := s.m.at t) counts hrun hok hcls).trans (Mod.w1c_of_stored v hevc hlog)
  refine State.yields_calm (f := registerWrite (.pair role slot a v) counts) rfl ?_ ?_ ?_ <;> rw [hmean]
  · exact hraised
  · exact Mod.setWord_wf hs _ _
  · exact ⟨Store.get_put_self hs _ _, fun c hc => Store.get_put_ne hs hc _,
      (Mod.Within.setWord (s.m.at t) a _ (List.mem_singleton_self a)).toFrame⟩

theorem registerWrite_evcFlags_yields {s : State} {t role slot : Nat} {counts : List (Nat × Nat)} (hraised : s.m.evc.raised = [])
    (hs : s.Canonical) (hrun : s.m.running = true) :
    s.Yields (.registerWrite t (.pair role slot P.evcFlags.base 1#32) counts) fun m' =>
      m'.evc = { s.m.evc with dropFlag := s.m.evc.dropFlag && ((s.m.at t).marked P.evcFlags.base).testBit 0 }
      ∧ Mod.Frame t [] [] s.m m' := by
  have hbit : (!(1 - (1 &&& (s.m.at t).marked P.evcFlags.base)).testBit 0) = ((s.m.at t).marked P.evcFlags.base).testBit 0 := by
    rw [testBit_sub_and]
    simp
  have hmean := (writeNow_of_w1c (m := s.m.at t) (slot := slot) counts hrun (writeCheck_evcFlags _ role) rfl).trans
    (Mod.w1c_evcFlags _ 1)
  refine State.yields_calm (f := writeNow role slot counts P.evcFlags.base 1#32) rfl ?_ ?_ ?_ <;> rw [hmean]
  · exact hraised
  · exact hs
  · refine ⟨by rw [hbit]; rfl, Mod.Within.toFrame (.of_evented (.ofEvc (s.m.at t) _ ?_))⟩
    rfl

theorem registerWrite_logFlags_yields {s : State} {t role slot : Nat} {v : Word} {counts : List (Nat × Nat)}
    (hraised : s.m.evc.raised = []) (hs : s.Canonical) (hrun : s.m.running = true) (hv : v.toNat < 16) :
    s.Yields (.registerWrite t (.pair role slot P.logFlags.base v) counts) fun m' =>
      (∀ b, m'.log.flags.testBit b = (s.m.log.flags.testBit b && (!v.toNat.testBit b || ((s.m.at t).marked P.logFlags.base).testBit b)))
      ∧ m'.log = { s.m.log with flags := m'.log.flags } ∧ m'.evc = s.m.evc ∧ Mod.Frame t [] [] s.m m' := by
  have hmean := (writeNow_of_w1c (m := s.m.at t) (slot := slot) counts hrun (writeCheck_logFlags _ role hv) rfl).trans
    (Mod.w1c_logFlags _ v.toNat)
  refine State.yields_calm (f := writeNow role slot counts P.logFlags.base v) rfl ?_ ?_ ?_ <;> rw [hmean]
  · exact hraised
  · exact hs
  · exact ⟨fun b => by simp [testBit_sub_and], rfl, rfl, (Mod.Within.of_evented (.ofLog (s.m.at t) _ rfl)).toFrame⟩

theorem registerWrite_message_refused_yields {s : State} {t : Nat} {g : Msg} {x : Session} {counts : List (Nat × Nat)} {st : Nat}
    (h : s.Accepts g x) (hgate : s.m.gate x g.typ = none) (htyp : g.typ = 0x0011) (hlen : g.body.length = 12)
    (hone : leAt g.body 0 2 = 1) (hrun : s.m.running = true)
    (hst : ((s.m.at t).accepting g x).writeCheck x.role (leAt g.body 4 4) (w32 (leAt g.body 8 4)) = .error st) :
    s.Yields (.registerWrite t (.msg g) counts) fun m' =>
      Answered g x 0 (leBytes 2 1 ++ leBytes 2 st) s.m m' ∧ Mod.Frame t [.net, .can, .free] netCounters s.m m' := by
  have hmean : registerWrite (.msg g) counts (s.m.at t) = _ := volron_write_refused h hgate htyp hlen hone hrun hst
  refine State.yields_frame (f := registerWrite (.msg g) counts) rfl ?_ ?_
  · rw [hmean]
    exact .acceptThenReply _ _ _
  · exact answered_reply h t _ _ (by rw [Mod.run_net, hmean])

theorem triggers_refused_yield {s : State} {t role slot : Nat} {v : Word} {cut : Bool} (hraised : s.m.evc.raised = []) (hs : s.Canonical)
    (hv : v ≠ 1#32) {c : Instr} (hc : c ∈ (triggerCommands t role v).map Prod.snd ++ [.deepTest t role slot v cut]) :
    s.Yields c fun m' => m' = s.m.at t := by
  rcases List.mem_append.1 hc with hc | hc
  · obtain ⟨e, he, rfl⟩ := List.mem_map.1 hc
    exact State.yields_unchanged (triggerCommands_exec s e he) hraised hs
      (cmdWrite_trigger_refused (triggerCommands_isTrigger e he) hv _ role [])
  · obtain rfl := List.mem_singleton.1 hc
    exact State.yields_unchanged (f := deepTestWrite role slot v cut) rfl hraised hs (deepTestWrite_refused hv _ role slot cut)

theorem clear_commands_yield {s : State} {t role : Nat} (hraised : s.m.evc.raised = []) (hs : s.Canonical) (hrun : s.m.running = true) :
    s.Yields (.sysDecLatClr t role 1#32) (fun m' => m'.rd P.sysDecLatMax = 0
      ∧ Mod.Frame t [] [P.sysDecLatClr.addr, P.sysDecLatMax.addr] s.m m')
    ∧ s.Yields (.cellClr t role 1#32) (fun m' => m'.rd P.cellSlotsPeak = 0 ∧ m'.rd P.cellWaitMax = 0
      ∧ Mod.Frame t [] [P.cellClr.addr, P.cellSlotsPeak.addr, P.cellWaitMax.addr] s.m m')
    ∧ s.Yields (.trkClr t role 1#32) (fun m' => m'.rd P.trkLivePeak = 0 ∧ Mod.Frame t [] [P.trkClr.addr, P.trkLivePeak.addr] s.m m')
    ∧ s.Yields (.ejClr t role 1#32) (fun m' => m'.rd P.ejQPeak = 0 ∧ m'.rd P.ejEnergisedPeak = 0 ∧ m'.rd P.ejShiftMax = 0
      ∧ (∀ b, b < 24 → m'.rd P.ejBankWaitMax b = 0)
      ∧ Mod.Frame t [] ([P.ejClr.addr, P.ejQPeak.addr, P.ejEnergisedPeak.addr, P.ejShiftMax.addr] ++ bankWaits) s.m m')
    ∧ s.Yields (.tollClr t role 1#32) (fun m' => (∀ n, n < 5 → m'.rd P.tollWaitMax n = 0)
      ∧ Mod.Frame t [] (P.tollClr.addr :: (List.range 5).map (fun n => P.tollWaitMax.addr n)) s.m m')
    ∧ s.Yields (.evcClr t role 1#32) (fun m' => m'.evc = { s.m.evc with peak := 0 } ∧ Mod.Frame t [] [P.evcClr.addr] s.m m') := by
  refine ⟨?sysDecLat, ?cell, ?trk, ?ej, ?toll, ?evc⟩
  case sysDecLat =>
    exact clears_sysDecLatClr.yields (t := t) (role := role) rfl hraised hs hrun fun m hwf _ hframe =>
      ⟨Mod.rd_wr_zero hwf _ 0 0, hframe⟩
  case cell =>
    refine clears_cellClr.yields (t := t) (role := role) rfl hraised hs hrun fun m hwf _ hframe => ?_
    have hwf' : Store.wf (m.wr P.cellSlotsPeak 0).regs = true := Mod.wr_wf hwf _ _ _ _
    exact ⟨(Mod.rd_wr_ne hwf' (by decide)).trans (Mod.rd_wr_zero hwf _ 0 0), Mod.rd_wr_zero hwf' _ 0 0, hframe⟩
  case trk =>
    exact clears_trkClr.yields (t := t) (role := role) rfl hraised hs hrun fun m hwf _ hframe => ⟨Mod.rd_wr_zero hwf _ 0 0, hframe⟩
  case ej =>
    refine clears_ejClr.yields (t := t) (role := role) rfl hraised hs hrun fun m hwf _ hframe => ?_
    obtain ⟨hq, he, hshift, hbank⟩ := ejClr_zeros hwf
    exact ⟨hq, he, hshift, hbank, hframe⟩
  case toll =>
    exact clears_tollClr.yields (t := t) (role := role) rfl hraised hs hrun fun m hwf _ hframe =>
      ⟨fun n hn => Mod.rd_zeros (by decide) hwf 5 hn, hframe⟩
  case evc =>
    refine clears_evcClr.yields (t := t) (role := role) rfl hraised hs hrun fun m _ hevc hframe => ⟨?_, hframe⟩
    rw [← hevc]
    rfl

/-- Settles O18: a write is judged first; what is accepted changes the field or the peaks it names, what is refused nothing. -/
theorem registerWritesTakeEffect : Obligations.RegisterWritesTakeEffect := by
  refine ⟨⟨?refused, ?w1c, ?evcFlags, ?logFlags, ?message⟩, ?clears, ?triggers⟩
  case refused =>
    intro s t role slot a st v counts hraised hs _ hst
    exact State.yields_unchanged (f := registerWrite (.pair role slot a v) counts) rfl hraised hs
      (writeNow_of_refused (m := s.m.at t) counts hst)
  case w1c => exact fun _ _ _ _ _ _ _ _ _ _ => registerWrite_w1c_yields
  case evcFlags => exact fun _ _ _ _ _ => registerWrite_evcFlags_yields
  case logFlags => exact fun _ _ _ _ _ _ => registerWrite_logFlags_yields
  case message => exact fun _ _ _ _ _ _ => registerWrite_message_refused_yields
  case clears => exact fun _ _ _ => clear_commands_yield
  case triggers => exact fun _ _ _ _ _ _ hraised hs hv _ hc => triggers_refused_yield hraised hs hv hc

end Sys2Proof.Machine
end

section
/-!
PROOFS. The statements of 01_architecture.md: suspect sensors and the sensor set. What an evaluation of the set leaves is said once;
the mark of an absent port, the clearing of contradictions and the reminder are uses of it.
-/
namespace Sys2Proof.Machine

/-! ### What a command leaves of its meaning -/

/-- The end of a command, its events taken and its store settled, as a change of its meaning's result. -/
theorem Mod.Within.run_end {as : List Area} {ws : List Nat} (t : Nat) (f : Mod → Mod) (m : Mod) :
    Mod.Within as ws (f (m.at t)) (Mod.run t f m) := by
  have hflush : Mod.Within as ws (f (m.at t)) (f (m.at t)).flush := .of_evented (.flush _)
  exact ⟨hflush.now, fun p hp => by have := hflush.areas p hp; cases p <;> exact this, fun _ => Mod.run_wf t f m,
    fun w x hx hl => (Store.get_canon _ _).trans (hflush.words w x hx hl)⟩

/-! ### Suspect marks (R152) -/

theorem Mod.suspect_congr {a b : Mod} (h : b.fus.suspect = a.fus.suspect) (p : Nat) : b.suspect p = a.suspect p := by
  unfold Mod.suspect
  rw [h]

theorem Mod.suspectMask_congr {a b : Mod} (h : b.fus.suspect = a.fus.suspect) : b.suspectMask = a.suspectMask := by
  simp only [Mod.suspectMask, Mod.suspect_congr h]

theorem Mod.suspect_markSuspect {m : Mod} {p : Nat} (hp : p < m.fus.suspect.length) (r q : Nat) :
    (m.markSuspect p r).suspect q = if q = p then r else m.suspect q := by
  by_cases h : q = p
  · subst h
    simp [Mod.markSuspect, Mod.suspect, hp]
  · simp [Mod.markSuspect, Mod.suspect, List.getD_eq_getElem?_getD, List.getElem?_set_ne (Ne.symm h), h]

/-- A mark beyond the list reads 0 before and after, so that clearing asks nothing of the port. -/
theorem Mod.suspect_clearSuspect (m : Mod) (p q : Nat) : (m.clearSuspect p).suspect q = if q = p then 0 else m.suspect q := by
  by_cases hp : p < m.fus.suspect.length
  · exact Mod.suspect_markSuspect hp 0 q
  · have hlen : m.fus.suspect.length ≤ p := Nat.not_lt.1 hp
    have hsame : (m.clearSuspect p).suspect q = m.suspect q := by
      simp [Mod.clearSuspect, Mod.markSuspect, Mod.suspect, List.set_eq_of_length_le hlen]
    rw [hsame]
    split
    · next h => simp [h, Mod.suspect, hlen]
    · rfl

theorem Mod.suspect_foldl_clearSuspect (l : List Nat) (m : Mod) (q : Nat) :
    (l.foldl Mod.clearSuspect m).suspect q = if q ∈ l then 0 else m.suspect q := by
  induction l generalizing m with
  | nil => rfl
  | cons p l ih =>
    rw [List.foldl_cons, ih, Mod.suspect_clearSuspect]
    by_cases hl : q ∈ l <;> by_cases hp : q = p <;> simp [hl, hp]

theorem Mod.lanes_foldl_clearSuspect (l : List Nat) (m : Mod) : (l.foldl Mod.clearSuspect m).fus.lanes = m.fus.lanes := by
  induction l generalizing m with
  | nil => rfl
  | cons p l ih => exact ih _

theorem Mod.Within.markSuspect {as : List Area} {ws : List Nat} (m : Mod) (p r : Nat) (h : Area.fus ∈ as) :
    Mod.Within as ws m (m.markSuspect p r) := .ofFus m _ h

theorem Mod.Within.clearSuspect {as : List Area} {ws : List Nat} (m : Mod) (p : Nat) (h : Area.fus ∈ as) :
    Mod.Within as ws m (m.clearSuspect p) := (Mod.Within.markSuspect m p 0 h).trans (.raise _ _ _ _)

/-! ### The variant that is chosen (R154) -/

/-- The words that an evaluation of the sensor set may change. -/
def sensorSetWords : List Nat := [P.sysSuspect.addr, P.fusFlags.addr]

/-- A fold that keeps the element of least size, by two sizes that agree on its elements. -/
theorem foldl_least_congr {f g : Nat → Nat} {l : List Nat} {b : Nat} (h : ∀ j ∈ b :: l, f j = g j) :
    l.foldl (fun b j => if f j < f b then j else b) b = l.foldl (fun b j => if g j < g b then j else b) b := by
  induction l generalizing b with
  | nil => rfl
  | cons i l ih =>
    obtain ⟨hb, htail⟩ := List.forall_mem_cons.1 h
    obtain ⟨hi, hl⟩ := List.forall_mem_cons.1 htail
    rw [List.foldl_cons, List.foldl_cons, hb, hi]
    refine ih (List.forall_mem_cons.2 ⟨?_, hl⟩)
    split
    · exact hi
    · exact hb

theorem foldl_least_mem (f : Nat → Nat) (l : List Nat) (b : Nat) : l.foldl (fun b j => if f j < f b then j else b) b ∈ b :: l := by
  induction l generalizing b with
  | nil => exact List.mem_cons_self
  | cons i l ih =>
    rw [List.foldl_cons]
    rcases List.mem_cons.1 (ih (if f i < f b then i else b)) with h | h
    · rw [h]
      split <;> simp
    · exact List.mem_cons_of_mem _ (List.mem_cons_of_mem _ h)

/-- There are four variants. -/
theorem Mod.chooseVariant_lt {m : Mod} {v : Nat} (h : m.chooseVariant = some v) : v < 4 := by
  unfold Mod.chooseVariant at h
  extract_lets sus ok size at h
  have hok : ∀ i ∈ ok, i < 4 := fun i hi => List.mem_range.1 (List.mem_filter.1 hi).1
  clear_value ok
  split at h
  · exact absurd h (by simp)
  · split at h
    · exact absurd h (by simp)
    · next i r =>
      obtain rfl := Option.some.inj h
      exact hok _ (foldl_least_mem size r i)

/-- The choice rests on the marks, SYS_ALLOW and the four variants. -/
theorem Mod.chooseVariant_congr {a b : Mod} (hsus : b.fus.suspect = a.fus.suspect) (hallow : b.rd P.sysAllow = a.rd P.sysAllow)
    (hvar : ∀ i, i < 4 → b.rd P.fusVariant i = a.rd P.fusVariant i) : b.chooseVariant = a.chooseVariant := by
  have hexcl : ∀ i, i < 4 → b.excludedOf (some i) = a.excludedOf (some i) := fun i hi => by
    simp only [Mod.excludedOf, hvar i hi]
  have hok : (List.range 4).filter (fun i => (b.rd P.fusVariant i).testBit 31 && (b.excludedOf (some i) &&& a.suspectMask) = a.suspectMask)
      = (List.range 4).filter (fun i => (a.rd P.fusVariant i).testBit 31 && (a.excludedOf (some i) &&& a.suspectMask) = a.suspectMask) :=
    List.filter_congr fun i hi => by rw [hvar i (List.mem_range.1 hi), hexcl i (List.mem_range.1 hi)]
  unfold Mod.chooseVariant
  simp only [Mod.suspectMask_congr hsus, hallow, hok]
  split
  · rfl
  · split
    · rfl
    · next i r heq =>
      refine congrArg some (foldl_least_congr fun j hj => ?_)
      have hlt : j < 4 := List.mem_range.1 (List.mem_filter.1 (heq ▸ hj)).1
      rw [hexcl j hlt]

section
variable {as : List Area} {a b : Mod}

theorem Mod.Within.rd_fusVariant (h : Mod.Within as sensorSetWords a b) (hwf : Store.wf a.regs = true) :
    ∀ i, i < 4 → b.rd P.fusVariant i = a.rd P.fusVariant i := by
  have hne : ∀ i, i < 4 → P.fusVariant.addr i ∉ sensorSetWords ∧ P.fusVariant.addr i ≠ P.loopFlags.addr := by decide
  exact fun i hi => h.rd_eq hwf (hne i hi).1 (hne i hi).2

/-- What an evaluation writes does not enter the next one. -/
theorem Mod.Within.chooseVariant_eq (h : Mod.Within as sensorSetWords a b) (hwf : Store.wf a.regs = true)
    (hsus : b.fus.suspect = a.fus.suspect) : b.chooseVariant = a.chooseVariant :=
  Mod.chooseVariant_congr hsus (h.rd_eq hwf (by decide) (by decide)) (h.rd_fusVariant hwf)

theorem Mod.Within.excludedOf_chosen (h : Mod.Within as sensorSetWords a b) (hwf : Store.wf a.regs = true) :
    b.excludedOf a.chooseVariant = a.excludedOf a.chooseVariant := by
  cases hv : a.chooseVariant with
  | none => rfl
  | some v => simp only [Mod.excludedOf, h.rd_fusVariant hwf v (Mod.chooseVariant_lt hv)]

end

/-! ### An evaluation of the set (R153, R154) -/

/-- A sensor is suspect, and no variant is chosen for it. -/
def Mod.uncovered (m : Mod) : Bool := m.suspectMask ≠ 0 && m.chooseVariant.isNone

/-- The chosen variant in force, with the ports it excludes shown by SYS_SUSPECT. -/
def Mod.withChosenSet (m : Mod) : Mod :=
  { m with fus := { m.fus with variant := m.chooseVariant } }.wr P.sysSuspect (m.excludedOf m.chooseVariant)

/-- An evaluation puts the chosen variant into force with its events; then the reminder's condition begins, with its flag and the events
of the suspects, or ends. -/
theorem Mod.evaluateSet_cases (m : Mod) : ∃ x, Evented m.withChosenSet x
    ∧ (if m.uncovered then
        Evented ({ x with fus := { x.fus with kept := true, remindAt := x.now } }.flag P.fusFlags 8) m.evaluateSet
      else m.evaluateSet = { x with fus := { x.fus with kept := false } }) := by
  unfold Mod.evaluateSet
  extract_lets old oldMask new mask sus fus m1 changed m2 m3 cause fusEnd
  have hbefore : Evented m1 m2 := by
    unfold m2
    split
    · exact .raise _ _ _ _
    · exact .refl _
  have hset : Evented m2 m3 := by
    unfold m3
    clear_value m2 new
    cases new with
    | none => exact .refl _
    | some v =>
      dsimp only
      split
      · exact .raise _ _ _ _
      · exact .refl _
  refine ⟨m3, hbefore.trans hset, ?_⟩
  by_cases hunc : m.uncovered = true
  · have hcond : (decide (sus ≠ 0) && new.isNone) = true := hunc
    rw [if_pos hunc, if_pos hcond]
    exact .foldl (fun x p => .raise x _ _ _) _ _
  · have hcond : ¬ (decide (sus ≠ 0) && new.isNone) = true := hunc
    rw [if_neg hunc, if_neg hcond]

theorem Mod.evaluateSet_fus (m : Mod) : m.evaluateSet.fus
    = { m.fus with variant := m.chooseVariant, kept := m.uncovered,
                   remindAt := if m.uncovered then m.now else m.fus.remindAt } := by
  obtain ⟨x, hx, hend⟩ := m.evaluateSet_cases
  have hfus : x.fus = { m.fus with variant := m.chooseVariant } := hx.fus
  have hnow : x.now = m.now := hx.now
  split at hend
  · next hunc => rw [hend.fus, Mod.flag_fus, hfus, hnow, hunc, if_pos rfl]
  · next hunc => simp [hend, hfus, hunc]

theorem Mod.suspect_evaluateSet (m : Mod) (p : Nat) : m.evaluateSet.suspect p = m.suspect p :=
  Mod.suspect_congr (by rw [Mod.evaluateSet_fus]) p

theorem Mod.Within.evaluateSet {as : List Area} {ws : List Nat} (m : Mod) (hfus : Area.fus ∈ as) (hws : sensorSetWords ⊆ ws) :
    Mod.Within as ws m m.evaluateSet := by
  obtain ⟨x, hx, hend⟩ := m.evaluateSet_cases
  have hchosen : Mod.Within as ws m m.withChosenSet :=
    (Mod.Within.ofFus m _ hfus).trans (.wr _ _ _ _ _ (hws (by simp [sensorSetWords])))
  have hmid : Mod.Within as ws m x := hchosen.trans (.of_evented hx)
  split at hend
  · exact ((hmid.trans (.ofFus x _ hfus)).trans (.flag _ _ _ _ (hws (by simp [sensorSetWords])))).trans (.of_evented hend)
  · rw [hend]
    exact hmid.trans (.ofFus x _ hfus)

theorem Evented.rd_eq {a b : Mod} (h : Evented a b) (hwf : Store.wf a.regs = true) {p : Param} {i j : Nat}
    (hl : p.addr i j ≠ P.loopFlags.addr) : b.rd p i j = a.rd p i j :=
  Mod.Within.rd_eq (as := []) (ws := []) (.of_evented h) hwf List.not_mem_nil hl

theorem Mod.evaluateSet_excluded {m : Mod} (hwf : Store.wf m.regs = true) :
    m.evaluateSet.excluded = m.excludedOf m.chooseVariant % 2 ^ P.sysSuspect.w := by
  obtain ⟨x, hx, hend⟩ := m.evaluateSet_cases
  have hchosen : Store.wf m.withChosenSet.regs = true := Mod.wr_wf (m := { m with fus := _ }) hwf _ _ _ _
  have hsmall : m.excludedOf m.chooseVariant % 2 ^ P.sysSuspect.w < 2 ^ 32 :=
    (Nat.mod_lt _ (by decide)).trans (by decide)
  have hmid : x.excluded = m.excludedOf m.chooseVariant % 2 ^ P.sysSuspect.w := calc
    x.excluded = m.withChosenSet.excluded := hx.rd_eq hchosen (by decide)
    _ = m.excludedOf m.chooseVariant % 2 ^ P.sysSuspect.w % 2 ^ 32 := Mod.rd_wr (m := { m with fus := _ }) hwf _ _ _ _
    _ = _ := Nat.mod_eq_of_lt hsmall
  rw [← hmid]
  have hxwf : Store.wf x.regs = true := hx.wf hchosen
  split at hend
  · have hflag : Store.wf ({ x with fus := { x.fus with kept := true, remindAt := x.now } }.flag P.fusFlags 8).regs = true :=
      Mod.flag_wf (m := { x with fus := _ }) hxwf _ _ _
    exact (hend.rd_eq hflag (by decide)).trans (Mod.rd_flag_ne (m := { x with fus := _ }) hxwf (by decide))
  · rw [hend]
    rfl

section
variable {t : Nat} {f : Mod → Mod} {m b : Mod}

theorem Mod.run_evaluated_fus (hmean : f (m.at t) = b.evaluateSet) : (Mod.run t f m).fus = b.evaluateSet.fus := by
  rw [Mod.run_fus, hmean]

theorem Mod.run_evaluated_suspect (hmean : f (m.at t) = b.evaluateSet) (p : Nat) : (Mod.run t f m).suspect p = b.suspect p := by
  rw [Mod.suspect_congr (congrArg FusSt.suspect (Mod.run_evaluated_fus hmean)), Mod.suspect_evaluateSet]

theorem Mod.run_evaluated_excluded (hmean : f (m.at t) = b.evaluateSet) (hwf : Store.wf b.regs = true) :
    (Mod.run t f m).excluded = b.excludedOf b.chooseVariant % 2 ^ P.sysSuspect.w := by
  have hend : Store.wf (f (m.at t)).regs = true := by
    rw [hmean]
    exact (Mod.Within.evaluateSet (as := [.fus]) b (by simp) (List.Subset.refl _)).wf hwf
  calc (Mod.run t f m).excluded
    _ = (f (m.at t)).excluded := Mod.run_rd t f m hend (by decide)
    _ = b.evaluateSet.excluded := by rw [hmean]
    _ = _ := Mod.evaluateSet_excluded hwf

/-- After a command that ends in an evaluation, the variant in force is the one that would be chosen now, and SYS_SUSPECT shows its
ports. -/
theorem Mod.run_evaluated_set (hmean : f (m.at t) = b.evaluateSet) (hwf : Store.wf b.regs = true) :
    (Mod.run t f m).fus.variant = (Mod.run t f m).chooseVariant
      ∧ (Mod.run t f m).excluded = (Mod.run t f m).excludedOf (Mod.run t f m).fus.variant % 2 ^ P.sysSuspect.w := by
  have hend : Mod.Within [.fus] sensorSetWords b (Mod.run t f m) :=
    (Mod.Within.evaluateSet b (by simp) (List.Subset.refl _)).trans (hmean ▸ .run_end t f m)
  have hfus := Mod.run_evaluated_fus hmean
  rw [Mod.evaluateSet_fus] at hfus
  have hvariant : (Mod.run t f m).fus.variant = b.chooseVariant := by rw [hfus]
  rw [hvariant, hend.chooseVariant_eq hwf (by rw [hfus]), hend.excludedOf_chosen hwf]
  exact ⟨rfl, Mod.run_evaluated_excluded hmean hwf⟩

end

/-! ### A port that is absent (R152) -/

theorem sensorAbsent_of_late {m : Mod} {p u : Nat} (hp : p < 8) (hout : (m.port p).outSince = some u) (hen : m.rd P.camEn p = 1)
    (hsus : m.suspect p = 0) (hlate : u + m.rd P.fusAbsentMs * 10 ^ 6 < m.now) : sensorAbsent p m = m.setSuspect p 2 [] := by
  unfold sensorAbsent
  simp only [hout, hp, hen, hsus, hlate, decide_true, Bool.and_self, if_true]

/-- The module with the mark of R151 or R152 and its event, before the set is evaluated. -/
def Mod.suspected (m : Mod) (p r : Nat) (pair : List Byte) : Mod :=
  (m.markSuspect p r).raise 50 0x0311 (leBytes 1 p ++ leBytes 1 r ++ pair)

theorem Mod.setSuspect_eq (m : Mod) (p r : Nat) (pair : List Byte) : m.setSuspect p r pair = (m.suspected p r pair).evaluateSet := rfl

theorem Mod.Within.suspected {as : List Area} {ws : List Nat} (m : Mod) (p r : Nat) (pair : List Byte) (h : Area.fus ∈ as) :
    Mod.Within as ws m (m.suspected p r pair) := (Mod.Within.markSuspect m p r h).trans (.raise _ _ _ _)

theorem sensorAbsent_yields {s : State} {t p u : Nat} (hs : s.Canonical) (hlen : s.m.fus.suspect.length = 8) (hp : p < 8)
    (hout : (s.m.port p).outSince = some u) (hen : s.m.rd P.camEn p = 1) (hsus : s.m.suspect p = 0)
    (hlate : u + s.m.rd P.fusAbsentMs * 10 ^ 6 < (s.m.at t).now) :
    s.Yields (.sensorAbsent t p) fun m' => (m'.suspect p = 2 ∧ (∀ q, q ≠ p → m'.suspect q = s.m.suspect q)
      ∧ m'.fus.variant = m'.chooseVariant ∧ m'.excluded = m'.excludedOf m'.fus.variant % 2 ^ P.sysSuspect.w
      ∧ m'.fus.lanes = s.m.fus.lanes) ∧ Mod.Frame t [.fus] sensorSetWords s.m m' := by
  have hmean : sensorAbsent p (s.m.at t) = ((s.m.at t).suspected p 2 []).evaluateSet :=
    sensorAbsent_of_late (m := s.m.at t) hp hout hen hsus hlate
  have hmark : ∀ q, (Mod.run t (sensorAbsent p) s.m).suspect q = if q = p then 2 else s.m.suspect q := fun q =>
    (Mod.run_evaluated_suspect hmean q).trans (Mod.suspect_markSuspect (m := s.m.at t) (hlen.symm ▸ hp) 2 q)
  obtain ⟨hvariant, hexcl⟩ := Mod.run_evaluated_set hmean hs
  refine State.yields_frame (f := sensorAbsent p) rfl ?_ ⟨?_, fun q hq => ?_, hvariant, hexcl, ?_⟩
  · rw [hmean]
    exact (Mod.Within.suspected _ p 2 [] (by simp)).trans (.evaluateSet _ (by simp) (List.Subset.refl _))
  · rw [hmark, if_pos rfl]
  · rw [hmark, if_neg hq]
  · rw [Mod.run_evaluated_fus hmean, Mod.evaluateSet_fus]
    rfl

/-! ### FUS_SUSPECT_CLR (R152) -/

theorem writeCheck_fusSuspectClr (m : Mod) {role : Nat} (hrole : 1 ≤ role) {v : Word} (hv : v.toNat < 256) :
    m.writeCheck role P.fusSuspectClr.addr v = .ok (P.fusSuspectClr, 0, 0) := by
  have hbits : P.fusSuspectClr.bitsOk 0 v = true := by
    have hmask : P.fusSuspectClr.maskAt 0 = 2 ^ 8 - 1 := rfl
    simp [Param.bitsOk, hmask, Nat.and_two_pow_sub_one_of_lt_two_pow (n := 8) hv]
  have hat : paramAt P.fusSuspectClr.addr = some (P.fusSuspectClr, 0, 0) := by rfl
  have hservice : ¬ role = 0 := by omega
  unfold Mod.writeCheck
  rw [hat]
  simp only [hbits, hservice, decide_false, Bool.and_false]
  rfl

theorem cmdWrite_fusSuspectClr {m : Mod} (hrun : m.running = true) {role : Nat} (hrole : 1 ≤ role) {v : Word} (hv : v.toNat < 256) :
    cmdWrite P.fusSuspectClr 0 role [] v m = fusSuspectClr v.toNat (m.setWord P.fusSuspectClr.addr v) := by
  rw [cmdWrite, if_pos (by decide)]
  exact writeNow_of_cmd [] hrun (writeCheck_fusSuspectClr m hrole hv) rfl (by decide)

/-- The ports that a write of `v` clears. -/
def Mod.clearedBy (m : Mod) (v : Nat) : List Nat := (bitsSet 8 v).filter (fun p => m.suspect p = 1)

theorem Mod.mem_clearedBy {m : Mod} {v p : Nat} : p ∈ m.clearedBy v ↔ p < 8 ∧ v.testBit p = true ∧ m.suspect p = 1 := by
  simp only [Mod.clearedBy, bitsSet, List.mem_filter, List.mem_range, decide_eq_true_eq, and_assoc]

/-- Where no port is named that is suspect for contradiction, no evaluation takes place. -/
theorem fusSuspectClr_eq (v : Nat) (m : Mod) :
    fusSuspectClr v m = if m.clearedBy v = [] then m else ((m.clearedBy v).foldl Mod.clearSuspect m).evaluateSet := rfl

theorem suspect_fusSuspectClr (v : Nat) (m : Mod) {p : Nat} (hp : p < 8) :
    (fusSuspectClr v m).suspect p = if v.testBit p = true ∧ m.suspect p = 1 then 0 else m.suspect p := by
  have hmem : p ∈ m.clearedBy v ↔ v.testBit p = true ∧ m.suspect p = 1 := by simp [Mod.mem_clearedBy, hp]
  rw [fusSuspectClr_eq]
  split
  · next hnone => rw [if_neg (by rw [← hmem, hnone]; exact List.not_mem_nil)]
  · simp only [Mod.suspect_evaluateSet, Mod.suspect_foldl_clearSuspect, hmem]

theorem lanes_fusSuspectClr (v : Nat) (m : Mod) : (fusSuspectClr v m).fus.lanes = m.fus.lanes := by
  rw [fusSuspectClr_eq]
  split
  · rfl
  · rw [Mod.evaluateSet_fus]
    exact Mod.lanes_foldl_clearSuspect _ _

theorem Mod.Within.fusSuspectClr {as : List Area} {ws : List Nat} (v : Nat) (m : Mod) (hfus : Area.fus ∈ as)
    (hws : sensorSetWords ⊆ ws) : Mod.Within as ws m (fusSuspectClr v m) := by
  rw [fusSuspectClr_eq]
  split
  · exact .refl m
  · exact (Mod.Within.foldl (fun x p => .clearSuspect x p hfus) _ m).trans (.evaluateSet _ hfus hws)

theorem fusSuspectClr_yields {s : State} {t role : Nat} {v : Word} (hrole : 1 ≤ role) (hrun : s.m.running = true)
    (hv : v.toNat < 256) : s.Yields (.fusSuspectClr t role v) fun m' =>
      ((∀ p, p < 8 → m'.suspect p = if v.toNat.testBit p = true ∧ s.m.suspect p = 1 then 0 else s.m.suspect p)
        ∧ m'.fus.lanes = s.m.fus.lanes)
      ∧ Mod.Frame t [.fus] (P.fusSuspectClr.addr :: sensorSetWords) s.m m' := by
  let b := (s.m.at t).setWord P.fusSuspectClr.addr v
  let f := cmdWrite P.fusSuspectClr 0 role [] v
  have hmean : f (s.m.at t) = fusSuspectClr v.toNat b := cmdWrite_fusSuspectClr (m := s.m.at t) hrun hrole hv
  have hfus : (Mod.run t f s.m).fus = (fusSuspectClr v.toNat b).fus := by rw [Mod.run_fus, hmean]
  refine State.yields_frame (f := f) rfl ?_ ⟨fun p hp => ?_, ?_⟩
  · rw [hmean]
    exact (Mod.Within.setWord _ _ v List.mem_cons_self).trans (.fusSuspectClr _ _ (by simp) (List.subset_cons_self _ _))
  · exact (Mod.suspect_congr (congrArg FusSt.suspect hfus) p).trans (suspect_fusSuspectClr v.toNat b hp)
  · exact (congrArg FusSt.lanes hfus).trans (lanes_fusSuspectClr v.toNat b)

/-! ### The reminder (R154) -/

theorem suspectReminder_of_due {m : Mod} (hkept : m.fus.kept = true) (hdue : m.fus.remindAt + m.rd P.fusRemindS * 10 ^ 9 ≤ m.now) :
    suspectReminder m = m.evaluateSet := by
  unfold suspectReminder
  simp only [hkept, hdue, decide_true, Bool.and_self, if_true]

theorem suspectReminder_yields {s : State} {t : Nat} (hs : s.Canonical) (hkept : s.m.fus.kept = true)
    (hdue : s.m.fus.remindAt + s.m.rd P.fusRemindS * 10 ^ 9 ≤ (s.m.at t).now) (hmask : s.m.suspectMask ≠ 0)
    (hnone : s.m.chooseVariant = none) : s.Yields (.suspectReminder t) fun m' =>
      (m'.fus = { s.m.fus with variant := none, kept := true, remindAt := (s.m.at t).now } ∧ m'.excluded = 0)
      ∧ Mod.Frame t [.fus] sensorSetWords s.m m' := by
  have hmean : suspectReminder (s.m.at t) = (s.m.at t).evaluateSet := suspectReminder_of_due (m := s.m.at t) hkept hdue
  have hchosen : (s.m.at t).chooseVariant = none := hnone
  have hunc : (s.m.at t).uncovered = true := by
    have hsus : (s.m.at t).suspectMask ≠ 0 := hmask
    simp [Mod.uncovered, hchosen, hsus]
  refine State.yields_frame (f := suspectReminder) rfl ?_ ⟨?_, ?_⟩
  · rw [hmean]
    exact .evaluateSet _ (by simp) (List.Subset.refl _)
  · rw [Mod.run_evaluated_fus hmean, Mod.evaluateSet_fus, hchosen, hunc]
    rfl
  · rw [Mod.run_evaluated_excluded hmean hs, hchosen]
    rfl

/-- Settles O33: each of the three commands ends in one evaluation of the sensor set, or changes no mark. -/
theorem suspectsChangeSensorSet : Obligations.SuspectsChangeSensorSet := by
  intro s t hs hlen
  refine ⟨fun p u hp hout hen hsus hlate => ?absent, fun role v hrole hrun hv => ?clear, fun hkept hdue hmask hnone => ?reminder⟩
  case absent =>
    obtain ⟨m', hexec, ⟨hmark, hothers, hvariant, hexcl, hlanes⟩, hframe⟩ := sensorAbsent_yields hs hlen hp hout hen hsus hlate
    exact ⟨m', hexec, hmark, hothers, hvariant, hexcl, hlanes, hframe⟩
  case clear =>
    obtain ⟨m', hexec, ⟨hmarks, hlanes⟩, hframe⟩ := fusSuspectClr_yields (t := t) hrole hrun hv
    exact ⟨m', hexec, hmarks, hlanes, hframe⟩
  case reminder =>
    obtain ⟨m', hexec, ⟨hfus, hexcl⟩, hframe⟩ := suspectReminder_yields hs hkept hdue hmask hnone
    exact ⟨m', hexec, hfus, hexcl, hframe⟩

end Sys2Proof.Machine
end

section
/-!
PROOFS. The statements of 02_road_book.md: dials, user calibration groups, recipe changes.
-/
namespace Sys2Proof.Machine

/-! ### Requests that are executed and answered (R372 to R375) -/

/-- A request that passes the gate is answered with what its handler gives, BYE apart, where no CAL_WRITE has gone into execution. -/
theorem volron_answers {s : State} {t typ st : Nat} {g : Msg} {x : Session} {counts : List (Nat × Nat)} {body : List Byte} {m2 : Mod}
    (h : s.Accepts g x) (htyp : g.typ = typ) (hauth : typ ≠ 1) (hbye : typ ≠ 4) (hgate : s.m.gate x typ = none)
    (hdone : handler counts typ x g.seq g.body ((s.m.at t).accepting g x) = (st, body, m2)) (hcal : m2.net.cal = none) :
    volron typ counts g (s.m.at t) = m2.reply x.id typ g.seq st body := by
  simp [volron_accepts h typ t counts htyp hauth, hgate, hdone, hcal, hbye]

/-- A request that goes into execution is not answered yet. -/
theorem volron_executes {s : State} {t typ st : Nat} {g : Msg} {x : Session} {counts : List (Nat × Nat)} {body : List Byte} {m2 : Mod}
    (h : s.Accepts g x) (htyp : g.typ = typ) (hauth : typ ≠ 1) (hgate : s.m.gate x typ = none)
    (hdone : handler counts typ x g.seq g.body ((s.m.at t).accepting g x) = (st, body, m2)) (hcal : m2.net.cal.isSome = true) :
    volron typ counts g (s.m.at t) = m2 := by
  simp [volron_accepts h typ t counts htyp hauth, hgate, hdone, hcal]

/-- Sending changes nothing of the network state but the messages sent. -/
theorem Mod.post_net_sent (m : Mod) (o : OutMsg) : (m.post o).net = { m.net with sent := (m.post o).net.sent } := by
  cases hreach : m.reaches o.tr with
  | true => rw [Mod.post_net hreach]
  | false => rw [Mod.post_unreached hreach]

@[simp] theorem Mod.reply_cal (m : Mod) (sid typ seq st : Nat) (b : List Byte) : (m.reply sid typ seq st b).net.cal = m.net.cal := by
  unfold Mod.reply
  split
  · rfl
  · rw [Mod.post_net_sent]
    rfl

@[simp] theorem Mod.reply_waiting (m : Mod) (sid typ seq st : Nat) (b : List Byte) :
    (m.reply sid typ seq st b).net.waiting = m.net.waiting := by
  unfold Mod.reply
  split
  · rfl
  · rw [Mod.post_net_sent]
    rfl

/-- An answer whose transport has ceased to carry messages is not sent (R366). -/
theorem Mod.reply_sent_of_unreached {m : Mod} {sid : Nat} {x : Session} (typ seq st : Nat) (b : List Byte)
    (hx : m.session? sid = some x) (hreach : m.reaches x.tr = false) : (m.reply sid typ seq st b).net.sent = m.net.sent := by
  unfold Mod.reply
  rw [hx]
  dsimp only
  rw [Mod.post_unreached hreach]
  rfl

/-! ### Settings that change (R74, R94) -/

theorem Mod.Within.camNote {as : List Area} {ws : List Nat} (m : Mod) (a : Nat) (old new : Word) (h : Area.cams ∈ as) :
    Mod.Within as ws m (m.camNote a old new) := by
  unfold Mod.camNote
  split
  · exact .refl m
  · exact .ofCams m _ h

theorem Mod.Within.setPanel {as : List Area} {ws : List Nat} (m : Mod) (n : Nat) (f : Panel → Panel) (h : Area.panels ∈ as) :
    Mod.Within as ws m (m.setPanel n f) := .ofPanels m _ h

theorem Mod.Within.panelRequest {as : List Area} {ws : List Nat} (m : Mod) (n : Nat) (regs : List Nat) (iref : Bool)
    (h : Area.panels ∈ as) (hw : P.bgSuperseded.addr n ∈ ws) : Mod.Within as ws m (m.panelRequest n regs iref) := by
  unfold Mod.panelRequest
  exact (Mod.Within.setPanel m n _ h).trans
    (.foldl (fun m r => (Mod.Within.inc m P.bgSuperseded n 1 0 hw).trans (.raise _ _ _ _)) _ _)

/-- A fold over changes of which each listed one stays within a frame. -/
theorem Mod.Within.foldl_mem {α : Type} {as : List Area} {ws : List Nat} {f : Mod → α → Mod} (l : List α)
    (hf : ∀ x ∈ l, ∀ m, Mod.Within as ws m (f m x)) (m : Mod) : Mod.Within as ws m (l.foldl f m) := by
  induction l generalizing m with
  | nil => exact .refl m
  | cons x r ih =>
    obtain ⟨hx, hr⟩ := List.forall_mem_cons.1 hf
    exact (hx m).trans (ih hr (f m x))

/-- The updates that changed values request of the panels (R94, R97): the panels, and the counts of superseded updates. -/
theorem Mod.Within.panelsAfter {as : List Area} {ws : List Nat} (m old : Mod) (h : Area.panels ∈ as)
    (hw : ∀ n ∈ List.range 2, P.bgSuperseded.addr n ∈ ws) : Mod.Within as ws m (m.panelsAfter old) := by
  refine .foldl_mem _ (fun n hn m => ?_) m
  split
  · exact .refl m
  · extract_lets regs iref m1 duty m2
    have hrequest : Mod.Within as ws m m1 := by
      unfold m1
      split
      · exact .refl m
      · exact .panelRequest m n _ _ h (hw n hn)
    have hstanding : Mod.Within as ws m1 m2 := by
      unfold m2
      split
      · exact .refl m1
      · exact .setPanel m1 n _ h
    exact (hrequest.trans hstanding).trans (.setPanel m2 n _ h)

/-! ### What the transports rest on (R363, R366) -/

/-- Messages leave by the same transports after a change that keeps the CAN channels with their CAN_CFG and CAN_MODE. -/
theorem Mod.Within.reaches_eq {as : List Area} {ws : List Nat} {a b : Mod} (h : Mod.Within as ws a b) (hwf : Store.wf a.regs = true)
    (hcan : Area.can ∉ as) (hws : ∀ ch ∈ List.range 4, P.canCfg.addr ch ∉ ws ∧ P.canMode.addr ch ∉ ws) (tr : Nat) :
    b.reaches tr = a.reaches tr := by
  have hloop : ∀ ch ∈ List.range 4, P.canCfg.addr ch ≠ P.loopFlags.addr ∧ P.canMode.addr ch ≠ P.loopFlags.addr := by decide
  have hch : ∀ ch, b.canCh ch = a.canCh ch := fun ch => by
    unfold Mod.canCh
    rw [show b.can = a.can from h.areas .can hcan]
  have hiso : b.isoCh = a.isoCh := List.find?_congr fun ch hmem => by
    rw [h.rd_eq hwf (hws ch hmem).1 (hloop ch hmem).1, h.rd_eq hwf (hws ch hmem).2 (hloop ch hmem).2]
  unfold Mod.reaches
  simp only [hiso, hch]

/-! ### User calibration groups (R55, R373, R378) -/

/-- The group that a CAL_WRITE puts into execution. -/
def calGroupOf (x : Session) (seq : Nat) (b : List Byte) : CalGroup :=
  { sid := x.id, seq := seq, tr := x.tr, peer := x.peer, words := pairsOf (b.drop 4) }

section
variable {counts : List (Nat × Nat)} {x : Session} {seq : Nat} {b : List Byte} (hmin : 1 ≤ leAt b 0 2) (hmax : leAt b 0 2 ≤ 64)
  (hlen : b.length = 4 + 8 * leAt b 0 2) (m : Mod)
include hmin hmax hlen

/-- A CAL_WRITE whose length fits its 1 to 64 pairs is judged by its pairs alone (R378). -/
theorem handler_calWrite_refused {k : Nat} (hbad : findPos (fun e => !caluPairOk e) (pairsOf (b.drop 4)) = some k) :
    handler counts 0x0030 x seq b m = (17, leBytes 2 k ++ leBytes 4 m.caluSeq, m) := by
  have hcount : ¬ (leAt b 0 2 = 0 ∨ 64 < leAt b 0 2) := by omega
  simp [handler, msgCalWrite, hcount, hlen, hbad]

theorem handler_calWrite_legal (hlegal : findPos (fun e => !caluPairOk e) (pairsOf (b.drop 4)) = none) :
    handler counts 0x0030 x seq b m = (0, [], { m with net := { m.net with cal := some (calGroupOf x seq b) } }) := by
  have hcount : ¬ (leAt b 0 2 = 0 ∨ 64 < leAt b 0 2) := by omega
  simp [handler, msgCalWrite, hcount, hlen, hlegal, calGroupOf]

end

theorem calWrite_refused_yields {s : State} {t : Nat} {g : Msg} {x : Session} (h : s.Accepts g x) (hgate : s.m.gate x g.typ = none)
    (htyp : g.typ = 0x0030) (hmin : 1 ≤ leAt g.body 0 2) (hmax : leAt g.body 0 2 ≤ 64)
    (hlen : g.body.length = 4 + 8 * leAt g.body 0 2) {k : Nat}
    (hbad : findPos (fun e => !caluPairOk e) (pairsOf (g.body.drop 4)) = some k) :
    s.Yields (.calWrite t g) fun m' => Answered g x 17 (leBytes 2 k ++ leBytes 4 s.m.caluSeq) s.m m'
      ∧ Mod.Frame t [.net, .can, .free] netCounters s.m m' := by
  have hdone := handler_calWrite_refused (counts := []) (x := x) (seq := g.seq) hmin hmax hlen ((s.m.at t).accepting g x) hbad
  have hmean : volron 0x0030 [] g (s.m.at t)
      = ((s.m.at t).accepting g x).reply x.id g.typ g.seq 17 (leBytes 2 k ++ leBytes 4 s.m.caluSeq) := by
    rw [htyp] at hgate ⊢
    exact volron_answers h htyp (by decide) (by decide) hgate hdone h.idle
  refine State.yields_frame (f := volron 0x0030 [] g) rfl ?_ ?_
  · rw [hmean]
    exact .acceptThenReply _ _ _
  · exact answered_reply h t _ _ (by rw [Mod.run_net, hmean])

theorem calWrite_legal_yields {s : State} {t : Nat} {g : Msg} {x : Session} (h : s.Accepts g x) (hgate : s.m.gate x g.typ = none)
    (htyp : g.typ = 0x0030) (hmin : 1 ≤ leAt g.body 0 2) (hmax : leAt g.body 0 2 ≤ 64)
    (hlen : g.body.length = 4 + 8 * leAt g.body 0 2) (hlegal : findPos (fun e => !caluPairOk e) (pairsOf (g.body.drop 4)) = none) :
    s.Yields (.calWrite t g) fun m' =>
      (m'.net.cal = some (calGroupOf x g.seq g.body) ∧ m'.net.sent = s.m.net.sent) ∧ Mod.Frame t [.net] [P.netRxMsgs.addr] s.m m' := by
  have hdone := handler_calWrite_legal (counts := []) (x := x) (seq := g.seq) hmin hmax hlen ((s.m.at t).accepting g x) hlegal
  have hmean := volron_executes h htyp (by decide) (htyp ▸ hgate) hdone rfl
  refine State.yields_frame (f := volron 0x0030 [] g) rfl ?_ ?_
  · rw [hmean]
    exact (Mod.Within.accepting _ g x (by simp) (by simp)).trans (.ofNet _ _ (by simp))
  · rw [Mod.run_net, hmean]
    exact ⟨rfl, rfl⟩

/-- The calibration words in force with a group's words. -/
def Mod.caluWith (m : Mod) (g : CalGroup) : List (Nat × Word) := g.words.foldl (fun l e => assocSet l e.1 e.2) m.sys.calu

/-- The camera ports have noted the words that change (R74). -/
def Mod.caluNoted (m : Mod) (g : CalGroup) : Mod :=
  (m.caluWith g).foldl (fun x e => if x.settingWord e.1 = e.2 then x else x.camNote e.1 (x.settingWord e.1) e.2) m

/-- The group in both copies and in force. -/
def Mod.caluStored (m : Mod) (g : CalGroup) : Mod :=
  { m.caluNoted g with
    sys := { (m.caluNoted g).sys with calu := m.caluWith g, caluOne := false },
    nv := { (m.caluNoted g).nv with
      calu := List.replicate 2 { ok := true, seq := (m.caluSeq + 1) % 2 ^ 32, words := m.caluWith g } },
    net := { (m.caluNoted g).net with cal := none } }

/-- The commit before its answer: the panels follow, and the commit is counted and reported. -/
def Mod.caluApplied (m : Mod) (g : CalGroup) : Mod :=
  (((m.caluStored g).panelsAfter m).inc P.sysCaluWrites).raise 122 0x0A45 (leBytes 4 ((m.caluSeq + 1) % 2 ^ 32))

theorem Mod.caluCommit_eq (m : Mod) (g : CalGroup) :
    m.caluCommit g = (m.caluApplied g).reply g.sid 0x0030 g.seq 0 (leBytes 2 0 ++ leBytes 4 ((m.caluSeq + 1) % 2 ^ 32)) := rfl

theorem Mod.Within.caluNoted {as : List Area} {ws : List Nat} (m : Mod) (g : CalGroup) (h : Area.cams ∈ as) :
    Mod.Within as ws m (m.caluNoted g) := by
  refine .foldl (fun x e => ?_) _ m
  split
  · exact .refl x
  · exact .camNote x _ _ _ h

/-- The words that a commit counts in, before its answer. -/
def caluWords : List Nat := [P.sysCaluWrites.addr, P.bgSuperseded.addr 0, P.bgSuperseded.addr 1]

/-- After the stores are written, the commit changes the panels alone. -/
theorem Mod.Within.caluApplied_stored (m : Mod) (g : CalGroup) : Mod.Within [.panels] caluWords (m.caluStored g) (m.caluApplied g) :=
  ((Mod.Within.panelsAfter _ m (by decide) (by decide)).trans (.inc _ P.sysCaluWrites 0 1 0 (by decide))).trans (.raise _ _ _ _)

theorem Mod.caluApplied_sys (m : Mod) (g : CalGroup) : (m.caluApplied g).sys.calu = m.caluWith g :=
  congrArg SysSt.calu ((Mod.Within.caluApplied_stored m g).areas .sys (by decide))

theorem Mod.caluApplied_nv (m : Mod) (g : CalGroup) : (m.caluApplied g).nv.calu
    = List.replicate 2 { ok := true, seq := (m.caluSeq + 1) % 2 ^ 32, words := m.caluWith g } := by
  have hnv : (m.caluApplied g).nv = { (m.caluStored g).nv with slots := (m.caluApplied g).nv.slots } :=
    (Mod.Within.caluApplied_stored m g).areas .nv (by decide)
  rw [hnv]
  rfl

theorem Mod.caluApplied_net (m : Mod) (g : CalGroup) : (m.caluApplied g).net = { m.net with cal := none } := by
  have hstored : (m.caluApplied g).net = (m.caluStored g).net := (Mod.Within.caluApplied_stored m g).areas .net (by decide)
  have hnoted : (m.caluNoted g).net = m.net := (Mod.Within.caluNoted (as := [.cams]) (ws := []) m g (by simp)).areas .net (by decide)
  rw [hstored, ← hnoted]
  rfl

theorem Mod.Within.caluStored (m : Mod) (g : CalGroup) : Mod.Within [.sys, .nv, .net, .cams] [] m (m.caluStored g) := by
  have hnoted : Mod.Within [.sys, .nv, .net, .cams] [] m (m.caluNoted g) := .caluNoted m g (by decide)
  refine hnoted.trans (.of_regs rfl rfl fun p hp => ?_)
  cases p <;> simp_all [Area.same, Mod.caluStored]

theorem Mod.Within.caluApplied (m : Mod) (g : CalGroup) :
    Mod.Within [.sys, .nv, .net, .cams, .panels] caluWords m (m.caluApplied g) :=
  ((Mod.Within.caluStored m g).mono (by decide) (by simp)).trans
    ((Mod.Within.caluApplied_stored m g).mono (by decide) (List.Subset.refl _))

/-- The session finds its answer after the commit as before it. -/
theorem Mod.caluApplied_answers {m : Mod} {g : CalGroup} {x : Session} (hwf : Store.wf m.regs = true)
    (hx : m.session? g.sid = some x) (hreach : m.reaches x.tr = true) :
    (m.caluApplied g).session? g.sid = some x ∧ (m.caluApplied g).reaches x.tr = true := by
  constructor
  · rw [← hx]
    unfold Mod.session?
    rw [Mod.caluApplied_net]
  · rw [(Mod.Within.caluApplied m g).reaches_eq hwf (by decide) (by decide), hreach]

/-- A commit behind which no request waits ends with its answer. -/
theorem caluGroupCommit_alone {m : Mod} {g : CalGroup} (counts : List (Nat × Nat)) (hcal : m.net.cal = some g)
    (hwaiting : m.net.waiting = []) : caluGroupCommit counts m = m.caluCommit g := by
  have hnone : (m.caluCommit g).net.waiting = [] := by
    rw [Mod.caluCommit_eq, Mod.reply_waiting, Mod.caluApplied_net, hwaiting]
  unfold caluGroupCommit Mod.runWaiting
  rw [hcal]
  dsimp only
  rw [hnone]
  show { m.caluCommit g with net := { (m.caluCommit g).net with waiting := [] } } = m.caluCommit g
  rw [← hnone]

theorem caluGroupCommit_yields {s : State} {t : Nat} {counts : List (Nat × Nat)} {g : CalGroup} {x : Session} (hs : s.Canonical)
    (hcal : s.m.net.cal = some g) (hwaiting : s.m.net.waiting = []) (hx : s.m.session? g.sid = some x)
    (hreach : s.m.reaches x.tr = true) :
    s.Yields (.caluGroupCommit t counts) fun m' =>
      (m'.sys.calu = s.m.caluWith g
        ∧ m'.nv.calu = List.replicate 2 { ok := true, seq := (s.m.caluSeq + 1) % 2 ^ 32, words := s.m.caluWith g }
        ∧ m'.net.cal = none
        ∧ ∃ o : OutMsg, m'.net.sent = s.m.net.sent ++ [o] ∧ o.typ = 0x0030 ∧ o.sid = g.sid ∧ o.seq = g.seq
          ∧ o.body = leBytes 2 0 ++ (leBytes 2 0 ++ leBytes 4 ((s.m.caluSeq + 1) % 2 ^ 32)))
      ∧ Mod.Frame t [.sys, .nv, .net, .cams, .panels, .can, .free] (caluWords ++ [P.netTxMsgs.addr]) s.m m' := by
  have hmean : caluGroupCommit counts (s.m.at t) = (s.m.at t).caluCommit g :=
    caluGroupCommit_alone (m := s.m.at t) counts hcal hwaiting
  have hreply : Mod.Within [.net, .can, .free] [P.netTxMsgs.addr] ((s.m.at t).caluApplied g) ((s.m.at t).caluCommit g) :=
    .reply _ _ _ _ _ _ (by decide) (by decide) (by decide) (by decide)
  refine State.yields_frame (f := caluGroupCommit counts) rfl ?_ ⟨?sys, ?nv, ?cal, ?sent⟩
  · rw [hmean]
    exact ((Mod.Within.caluApplied _ g).mono (by decide) (by simp)).trans (hreply.mono (by decide) (by simp))
  case sys =>
    have hsys : ((s.m.at t).caluCommit g).sys = ((s.m.at t).caluApplied g).sys := hreply.areas .sys (by decide)
    rw [Mod.run_sys, hmean, hsys, Mod.caluApplied_sys]
    rfl
  case nv =>
    have hnv : ((s.m.at t).caluCommit g).nv
        = { ((s.m.at t).caluApplied g).nv with slots := ((s.m.at t).caluCommit g).nv.slots } := hreply.areas .nv (by decide)
    rw [Mod.run_nv_calu, hmean, hnv]
    exact Mod.caluApplied_nv _ g
  case cal => rw [Mod.run_net, hmean, Mod.caluCommit_eq, Mod.reply_cal, Mod.caluApplied_net]
  case sent =>
    obtain ⟨hsession, hopen⟩ := Mod.caluApplied_answers (m := s.m.at t) hs hx hreach
    obtain ⟨o, hsent, htyp, -, hsid, hseq, -, -, hbody, -⟩ := Mod.reply_net ((s.m.at t).caluApplied g) g.sid 0x0030 g.seq 0
      (leBytes 2 0 ++ leBytes 4 ((s.m.caluSeq + 1) % 2 ^ 32)) hsession hopen
    refine ⟨o, ?_, htyp, hsid, hseq, hbody⟩
    rw [Mod.caluApplied_net] at hsent
    rw [Mod.run_net, hmean]
    exact hsent

/-- Settles O12: a legal group is stored and answered at its commit, whole; the first illegal pair refuses it whole. -/
theorem calibrationGroupsApplyWhole : Obligations.CalibrationGroupsApplyWhole := by
  refine ⟨fun s t g x h hgate htyp hmin hmax hlen => ⟨?refused, ?legal⟩, ?commit⟩
  case refused => exact fun k hbad => calWrite_refused_yields h hgate htyp hmin hmax hlen hbad
  case legal =>
    intro hlegal
    obtain ⟨m', hexec, ⟨hcal, hsent⟩, hframe⟩ := calWrite_legal_yields h hgate htyp hmin hmax hlen hlegal
    exact ⟨m', hexec, hcal, hsent, hframe⟩
  case commit =>
    intro s t counts g x hs hcal hwaiting hx hreach
    obtain ⟨m', hexec, ⟨hsys, hnv, hdone, hsent⟩, hframe⟩ :=
      caluGroupCommit_yields (t := t) (counts := counts) hs hcal hwaiting hx hreach
    exact ⟨m', hexec, hsys, hnv, hdone, hsent, hframe⟩

/-! ### Dials: a dial on the session's own transport (R51, R366) -/

/-- A DIAL_SET of the right length is judged and answered as its write to the dial (R51, R377). -/
theorem handler_dialSet {counts : List (Nat × Nat)} {x : Session} {seq : Nat} {b : List Byte} (hlen : b.length = 8) (m : Mod) :
    handler counts 0x0021 x seq b m =
      ((m.dialWrite x.role (leAt b 0 1) (leAt b 4 4)).1,
        leBytes 2 0 ++ leBytes 4 (m.dialWrite x.role (leAt b 0 1) (leAt b 4 4)).2.1,
        (m.dialWrite x.role (leAt b 0 1) (leAt b 4 4)).2.2) := by
  simp [handler, msgDial, hlen]

/-- A session by the implement bus, on CAN channel 0 with its address held. -/
def isoSession : Session :=
  { idx := 0, id := 7, opened := true, slot := 0, role := 1, tr := 6, peer := 9, key := [1#8], nonceC := [], nonceM := [], since := 0,
    lastMsg := 0 }

/-- Dial 0 is the whole of CAN_CFG of channel 0. CAN_CFG is of class BOOT, so that check 11 (R42) would refuse the dial: the statement
asks no check of the road book in force. -/
def isoDial : DialDef :=
  { dial := 0, keep := true, persist := false, signed := false, role := 0, hi := 3, lo := 0, target := P.canCfg.addr 0, min := 0,
    max := 15, step := 0, interval := 0 }

def isoMod : Mod :=
  { bist := { phase := .running },
    regs := [(P.canMode.addr 0, 1#32), (P.canCfg.addr 0, 1#32)],
    can := { ch := [{ iso := .held }] },
    net := { sessions := [isoSession] },
    sys := { rb := some { id := 1, hash := [], base := [], ovr := [], recipes := [], dials := [isoDial], calu := [], models := [] } } }

/-- DIAL_SET of dial 0 to 0, before its tag. -/
def isoUntagged : Msg :=
  { tr := 6, peer := 9, magic := 0x4C56, version := 1, kind := 0, typ := 0x0021, len := 8, sid := 7, seq := 1,
    body := List.replicate 8 0#8, tag := [] }

/-- DIAL_SET of dial 0 to 0: the channel leaves the implement bus. -/
def isoRequest : Msg := { isoUntagged with tag := tagOf isoSession.key (msgHeader isoUntagged) isoUntagged.body }

theorem isoRequest_accepted : State.Accepts { m := isoMod } isoRequest isoSession where
  canonical := by unfold State.Canonical; decide +kernel
  carried := by decide +kernel
  idle := rfl
  whole := rfl
  request := rfl
  named := by decide
  found := rfl
  opened := rfl
  tr := rfl
  peer := rfl
  tag := by simp [msgTagOk, isoRequest, msgHeader]
  fresh := rfl
  new := rfl

theorem isoRequest_gate : isoMod.gate isoSession isoRequest.typ = none := by decide +kernel

/-- The module when the request is executed. -/
def isoAccepting : Mod := (isoMod.at 0).accepting isoRequest isoSession

theorem isoDial_unrefused : isoAccepting.dialRefuse isoSession.role isoDial (isoDial.num (leAt isoRequest.body 4 4)) = none := by
  decide +kernel

/-- What the accepted write leaves. -/
def isoWritten : Mod := (isoAccepting.dialWrite isoSession.role (leAt isoRequest.body 0 1) (leAt isoRequest.body 4 4)).2.2

theorem isoWritten_silent : isoWritten.session? 7 = some { isoSession with lastSeq := some 1 } ∧ isoWritten.reaches 6 = false
    ∧ isoWritten.net.cal = none ∧ isoWritten.net.sent = [] := by
  decide +kernel

theorem isoRequest_unanswered : (volron 0x0021 [] isoRequest (isoMod.at 0)).net.sent = [] := by
  obtain ⟨hsession, hreach, hcal, hsent⟩ := isoWritten_silent
  have hmean := volron_answers (t := 0) isoRequest_accepted rfl (by decide) (by decide) isoRequest_gate
    (handler_dialSet (counts := []) rfl isoAccepting) hcal
  exact (congrArg (·.net.sent) hmean).trans ((Mod.reply_sent_of_unreached _ _ _ _ hsession hreach).trans hsent)

/-- Refutes O11: a dial may stand on CAN_CFG, and its accepted write takes the session's own channel off the implement bus, so that the
answer is not sent. -/
theorem not_dialSetIsJudged : ¬ Obligations.DialSetIsJudged := by
  intro ⟨hdial, _⟩
  obtain ⟨-, haccepted⟩ := hdial { m := isoMod } 0 isoRequest isoSession isoDial isoRequest_accepted isoRequest_gate rfl rfl rfl
  obtain ⟨m', hexec, -, -, ⟨o, hsent, -⟩, -⟩ :=
    haccepted isoDial_unrefused (by decide) (by decide) (by decide) (by decide)
  obtain rfl : Mod.run 0 (volron 0x0021 [] isoRequest) isoMod = m' := congrArg State.m (Host.Outcome.next.inj hexec)
  rw [Mod.run_net, isoRequest_unanswered] at hsent
  exact List.append_ne_nil_of_right_ne_nil _ (List.cons_ne_nil o []) hsent.symm

/-! ### A recipe change while suspects are uncovered (R49, R154) -/

/-- Recipes 0 and 1 without overlays. -/
def plainRecipes : RoadBook :=
  { id := 1, hash := [], base := [], ovr := [], dials := [], calu := [], models := [],
    recipes := [{ idx := 0, gnss := 0, dflt := 0, models := [], payload := [] },
                { idx := 1, gnss := 0, dflt := 0, models := [], payload := [] }] }

/-- Recipe 1 waits for its instant; port 0 is suspect, and no variant is declared. -/
def uncoveredMod : Mod :=
  { bist := { phase := .running }, now := 20000000, fus := { suspect := [1, 0, 0, 0, 0, 0, 0, 0] },
    sys := { rb := some plainRecipes, pend := some (1, 0) } }

/-- The change evaluates the sensor set anew, which sets bit 3 of FUS_FLAGS. -/
theorem uncoveredMod_flagged : (Mod.run 20000000 recipeEffective uncoveredMod).rd P.fusFlags = 8 ∧ uncoveredMod.rd P.fusFlags = 0 := by
  decide +kernel

/-- Refutes O26: with a suspect that no variant covers, the change of recipe sets bit 3 of FUS_FLAGS, a word that the statement's frame
does not name. -/
theorem not_recipeTakesEffect : ¬ Obligations.RecipeTakesEffect := by
  intro ⟨heffect, _⟩
  have hcanonical : State.Canonical { m := uncoveredMod } := by unfold State.Canonical; decide +kernel
  obtain ⟨m', hexec, -, -, -, -, -, -, -, -, -, hframe⟩ :=
    heffect { m := uncoveredMod } 20000000 1 0 plainRecipes hcanonical rfl rfl rfl (by decide) (by decide +kernel)
  obtain rfl : Mod.run 20000000 recipeEffective uncoveredMod = m' := congrArg State.m (Host.Outcome.next.inj hexec)
  have hkept : (Mod.run 20000000 recipeEffective uncoveredMod).rd P.fusFlags = uncoveredMod.rd P.fusFlags :=
    congrArg BitVec.toNat (hframe.words hcanonical P.fusFlags.addr (by decide +kernel) (by decide))
  obtain ⟨hset, hclear⟩ := uncoveredMod_flagged
  rw [hset, hclear] at hkept
  exact absurd hkept (by decide)

end Sys2Proof.Machine
end

section
/-!
PROOFS. The statements of 02_road_book.md: the start's checks. Test reports and the frames they leave; the cell test, whose towers lose
exactly their failed cells; checks 1 to 13 and ROADBOOK_INVALID; a parameter's word after a command whose meaning need not leave the store
canonical; what a road book that comes into force keeps; the main memory test, and SAFE.
-/

namespace Sys2Proof.Machine

/-! ### Test reports (R410, R411) -/

/-- The words that reports of some tests may change. -/
def testWords (tests : List Nat) : List Nat :=
  P.bistFlags.addr :: tests.flatMap (fun n => [P.bistRes.addr n, P.bistUnit.addr n, P.bistUnits.addr n])

theorem testWords_flags (tests : List Nat) : P.bistFlags.addr ∈ testWords tests := List.mem_cons_self

theorem testWords_mem {tests : List Nat} {n : Nat} (hn : n ∈ tests) {p : Param} (hp : p ∈ [P.bistRes, P.bistUnit, P.bistUnits]) :
    p.addr n ∈ testWords tests := by
  refine List.mem_cons_of_mem _ (List.mem_flatMap.2 ⟨n, hn, ?_⟩)
  simp only [List.mem_cons, List.not_mem_nil, or_false] at hp ⊢
  rcases hp with rfl | rfl | rfl <;> simp

theorem Mod.Within.testReport {as : List Area} {tests : List Nat} (m : Mod) {r : TestRes} (hr : r.test ∈ tests) :
    Mod.Within as (testWords tests) m (m.testReport r) := by
  unfold Mod.testReport
  extract_lets w m1 m2 m3
  have hresult : Mod.Within as (testWords tests) m m1 :=
    ((Mod.Within.wr m P.bistRes w r.test 0 (testWords_mem hr (by simp))).trans
      (.wr _ P.bistUnit _ r.test 0 (testWords_mem hr (by simp)))).trans (.wr _ P.bistUnits _ r.test 0 (testWords_mem hr (by simp)))
  have hnotRun : Mod.Within as (testWords tests) m1 m2 := by
    unfold m2
    split
    · exact .raise _ _ _ _
    · exact .refl _
  have hdeferred : Mod.Within as (testWords tests) m2 m3 := by
    unfold m3
    split
    · exact .flag _ _ _ _ (testWords_flags tests)
    · exact .refl _
  refine ((hresult.trans hnotRun).trans hdeferred).trans ?_
  split
  · exact .refl _
  · exact .foldl (fun m u => (Mod.Within.flag m P.bistFlags 1 0 (testWords_flags tests)).trans (.raise _ _ _ _)) _ _

theorem Mod.Within.testReports {as : List Area} (m : Mod) (res : List TestRes) (tests : List Nat) :
    Mod.Within as (testWords tests) m (m.testReports res tests) :=
  .foldl_mem _ (fun r hr m => .testReport m (by simpa using (List.mem_filter.1 hr).2)) m

/-! ### The cell test (R122, R123, R410, R411) -/

theorem nodup_eraseDups (l : List Nat) : l.eraseDups.Nodup := by
  induction h : l.length using Nat.strongRecOn generalizing l with
  | ind n ih =>
    cases l with
    | nil => simp
    | cons a l =>
      rw [List.eraseDups_cons, List.nodup_cons]
      have hshort : (l.filter (fun b => !b == a)).length < n := by
        rw [← h]
        exact Nat.lt_succ_of_le (List.length_filter_le _ _)
      exact ⟨by simp [List.mem_eraseDups], ih _ hshort _ rfl⟩

/-- Taking distinct powers of two from a word of ones clears exactly their bits: no bit borrows. -/
theorem testBit_ones_sub_sum {n : Nat} {l : List Nat} (hnodup : l.Nodup) (hlt : ∀ e ∈ l, e < n) (i : Nat) :
    (2 ^ n - 1 - (l.map (2 ^ ·)).sum).testBit i = (decide (i < n) && decide (i ∉ l)) := by
  induction l generalizing i with
  | nil => simp
  | cons e l ih =>
    obtain ⟨hnew, hrest⟩ := List.nodup_cons.1 hnodup
    obtain ⟨he, hl⟩ := List.forall_mem_cons.1 hlt
    have hbits := ih hrest hl
    have hset : (2 ^ n - 1 - (l.map (2 ^ ·)).sum) &&& 2 ^ e = 2 ^ e := by
      rw [Nat.and_two_pow, hbits e]
      simp [he, hnew]
    have hstep : 2 ^ n - 1 - ((e :: l).map (2 ^ ·)).sum
        = (2 ^ n - 1 - (l.map (2 ^ ·)).sum) - ((2 ^ n - 1 - (l.map (2 ^ ·)).sum) &&& 2 ^ e) := by
      rw [hset, List.map_cons, List.sum_cons]
      omega
    rw [hstep, testBit_sub_and, hbits i, Nat.testBit_two_pow]
    by_cases h : e = i
    · simp [h]
    · simp [h, Ne.symm h]

/-- The cells of a tower that failed. -/
def failedCells (badCells : List Nat) (k : Nat) : List Nat := (badCells.filter (fun c => c / 64 = k)).eraseDups

theorem mem_failedCells {badCells : List Nat} {k c : Nat} : c ∈ failedCells badCells k ↔ c ∈ badCells ∧ c / 64 = k := by
  simp [failedCells, List.mem_eraseDups]

/-- A tower's failed cells by their place in it. -/
def failedPlaces (badCells : List Nat) (k : Nat) : List Nat := (failedCells badCells k).map (· % 64)

theorem mem_failedPlaces {badCells : List Nat} {k c : Nat} (hc : c < 64) : c ∈ failedPlaces badCells k ↔ 64 * k + c ∈ badCells := by
  simp only [failedPlaces, List.mem_map, mem_failedCells]
  constructor
  · rintro ⟨d, ⟨hd, hk⟩, rfl⟩
    rwa [← hk, Nat.div_add_mod]
  · exact fun h => ⟨64 * k + c, ⟨h, by omega⟩, by omega⟩

theorem nodup_failedPlaces (badCells : List Nat) (k : Nat) : (failedPlaces badCells k).Nodup := by
  refine List.Nodup.map_on (fun c hc d hd h => ?_) (nodup_eraseDups _)
  have hck := (mem_failedCells.1 hc).2
  have hdk := (mem_failedCells.1 hd).2
  omega

theorem testedTowers_ok {badCells badTowers : List Nat} {k : Nat} (hk : k < 16) :
    ((testedTowers badCells badTowers).getD k {}).ok = true ↔ k ∉ badTowers ∧ (failedCells badCells k).length ≤ 4 := by
  simp [testedTowers, failedCells, hk]

theorem testedTowers_cells {badCells badTowers : List Nat} {k c : Nat} (hk : k < 16) (hc : c < 64) :
    ((testedTowers badCells badTowers).getD k {}).cells.testBit c = true ↔ 64 * k + c ∉ badCells := by
  have hcells : ((testedTowers badCells badTowers).getD k {}).cells = 2 ^ 64 - 1 - ((failedPlaces badCells k).map (2 ^ ·)).sum := by
    simp [testedTowers, failedPlaces, failedCells, hk, sumOf, List.sum_eq_foldl_nat, Function.comp_def]
  have hplaces : ∀ e ∈ failedPlaces badCells k, e < 64 := by
    intro e he
    obtain ⟨d, -, rfl⟩ := List.mem_map.1 he
    exact Nat.mod_lt _ (by decide)
  rw [hcells, testBit_ones_sub_sum (nodup_failedPlaces _ _) hplaces, ← mem_failedPlaces hc]
  simp [hc]

/-- The reports of the tests beside the cell test: a module without a receiver has no test 15. -/
def Mod.unitReports (m : Mod) (res : List TestRes) : List TestRes := if m.isG then res else res.filter (fun r => r.test ≠ 15)

theorem Mod.any_unitReports (m : Mod) (res : List TestRes) :
    (m.unitReports res).any (fun r => r.test = 6 && r.result = 2) = true ↔ ∃ r ∈ res, r.test = 6 ∧ r.result = 2 := by
  simp only [Mod.unitReports, List.any_eq_true, Bool.and_eq_true, decide_eq_true_eq]
  split
  · rfl
  · refine exists_congr fun r => ?_
    rw [List.mem_filter, decide_eq_true_eq]
    exact ⟨fun ⟨⟨hr, _⟩, h⟩ => ⟨hr, h⟩, fun ⟨hr, h⟩ => ⟨⟨hr, by omega⟩, h⟩⟩

/-- The tests that report with the cell test. -/
def unitTests : List Nat := [6, 7, 8, 12, 13, 14, 15]

/-- The reports are shown, and the failed units marked. -/
def Mod.unitsTested (m : Mod) (res : List TestRes) : Mod :=
  (m.testReports (m.unitReports res) unitTests).markUnits (m.unitReports res)

/-- The module with its towers as a list gives them. -/
def Mod.withTowers (m : Mod) (l : List Tower) : Mod := { m with cell := { m.cell with towers := l } }

/-- The cell test was not run for its clock (R410). -/
def Mod.cellsUntested (m : Mod) (res : List TestRes) : Bool := (m.unitReports res).any (fun r => r.test = 6 && r.result = 2)

theorem cellTestComplete_of_tests {m : Mod} (hphase : m.bist.phase = .tests) (res : List TestRes) (badCells badTowers : List Nat) :
    cellTestComplete res badCells badTowers m = ((m.unitsTested res).withTowers
      (testedTowers (if m.cellsUntested res then List.range 1024 else badCells)
        (if m.cellsUntested res then List.range 16 else badTowers))).setPhase .checks := by
  unfold cellTestComplete
  rw [if_pos hphase]
  rfl

theorem Mod.Within.markUnits {ws : List Nat} (m : Mod) (res : List TestRes) :
    Mod.Within [.bist, .cams, .panels, .can, .net, .loop] ws m (m.markUnits res) := by
  unfold Mod.markUnits
  extract_lets m1 m2 m3 l bad
  have hports : Mod.Within [.bist, .cams, .panels, .can, .net, .loop] ws m m1 := .foldl (fun m p => .ofCams m _ (by decide)) _ m
  have hpanels : Mod.Within [.bist, .cams, .panels, .can, .net, .loop] ws m1 m2 := .foldl (fun m n => .setPanel m n _ (by decide)) _ m1
  have hcan : Mod.Within [.bist, .cams, .panels, .can, .net, .loop] ws m2 m3 := .foldl (fun m ch => .setCan m ch _ (by decide)) _ m2
  refine ((hports.trans hpanels).trans hcan).trans (.of_regs rfl rfl fun p hp => ?_)
  clear_value m3
  cases p <;> simp_all [Area.same]

/-- The areas that the cell test and the tests beside it may change. -/
def unitAreas : List Area := [.bist, .cell, .cams, .panels, .can, .net, .loop]

theorem Mod.Within.unitsTested (m : Mod) (res : List TestRes) : Mod.Within unitAreas (testWords unitTests) m (m.unitsTested res) :=
  (Mod.Within.testReports m _ _).trans ((Mod.Within.markUnits _ _).mono (by decide) (List.Subset.refl _))

theorem Mod.Within.cellTested (m : Mod) (res : List TestRes) (l : List Tower) :
    Mod.Within unitAreas (testWords unitTests) m (((m.unitsTested res).withTowers l).setPhase .checks) :=
  ((Mod.Within.unitsTested m res).trans (.ofCell _ _ (by decide))).trans (.ofBist _ _ (by decide))

theorem cellTestComplete_yields {s : State} {t : Nat} {res : List TestRes} {badCells badTowers : List Nat}
    (hphase : s.m.bist.phase = .tests) (hran : ∀ r ∈ res, r.test = 6 → r.result ≠ 2) :
    s.Yields (.cellTestComplete t res badCells badTowers) fun m' =>
      (m'.bist.phase = .checks ∧ m'.cell.towers = testedTowers badCells badTowers)
      ∧ Mod.Frame t unitAreas (testWords unitTests) s.m m' := by
  have hrun : (s.m.at t).cellsUntested res = false := by
    rw [← Bool.not_eq_true, Mod.cellsUntested, Mod.any_unitReports]
    exact fun ⟨r, hr, h6, h2⟩ => hran r hr h6 h2
  have hmean := cellTestComplete_of_tests (m := s.m.at t) hphase res badCells badTowers
  simp only [hrun, Bool.false_eq_true, if_false] at hmean
  refine State.yields_frame (f := cellTestComplete res badCells badTowers) rfl ?_ ⟨?_, ?_⟩
  · rw [hmean]
    exact .cellTested _ _ _
  · rw [Mod.run_bist, hmean]
    rfl
  · rw [Mod.run_cell, hmean]
    rfl

theorem cellTestComplete_untested_yields {s : State} {t : Nat} {res : List TestRes} {badCells badTowers : List Nat}
    (hphase : s.m.bist.phase = .tests) (hnot : ∃ r ∈ res, r.test = 6 ∧ r.result = 2) :
    s.Yields (.cellTestComplete t res badCells badTowers) fun m' =>
      m'.bist.phase = .checks ∧ m'.cell.towers = testedTowers (List.range 1024) (List.range 16) := by
  have hrun : (s.m.at t).cellsUntested res = true := (Mod.any_unitReports _ res).2 hnot
  have hmean := cellTestComplete_of_tests (m := s.m.at t) hphase res badCells badTowers
  simp only [hrun, if_true] at hmean
  refine State.yields_run (f := cellTestComplete res badCells badTowers) rfl ⟨?_, ?_⟩
  · rw [Mod.run_bist, hmean]
    rfl
  · rw [Mod.run_cell, hmean]
    rfl

theorem Mod.towersOk_untested {m : Mod} (h : m.cell.towers = testedTowers (List.range 1024) (List.range 16)) : m.towersOk = [] := by
  refine List.filter_eq_nil_iff.2 fun k hk => ?_
  unfold Mod.tower
  rw [h, testedTowers_ok (List.mem_range.1 hk)]
  exact fun hok => hok.1 hk

/-! ### The road book's checks (R32, R33, R428) -/

theorem Evented.recJudge (m : Mod) : Evented { m with log := { m.log with judged := true } } m.recJudge := by
  unfold Mod.recJudge
  dsimp only
  split
  · exact .recWarn _
  · exact .refl _

theorem Mod.recJudge_judged (m : Mod) : m.recJudge.log.judged = true := by
  rw [(Evented.recJudge m).log]

theorem Mod.Within.recJudge {as : List Area} {ws : List Nat} (m : Mod) (h : Area.log ∈ as) : Mod.Within as ws m m.recJudge :=
  (Mod.Within.ofLog m _ h).trans (.of_evented (.recJudge m))

theorem Mod.run_log_judged (t : Nat) (f : Mod → Mod) (m : Mod) : (Mod.run t f m).log.judged = (f (m.at t)).log.judged := by
  rw [Mod.run_log]

theorem Mod.Within.fwReached {as : List Area} {ws : List Nat} (m : Mod) (h : Area.nv ∈ as) : Mod.Within as ws m m.fwReached := by
  unfold Mod.fwReached
  split
  · exact (Mod.Within.ofNv m _ h).trans (.raise _ _ _ _)
  · exact .refl m

theorem Mod.fwReached_dome (m : Mod) :
    m.fwReached.nv.dome = { m.nv.dome with rollback := Nat.max m.nv.dome.rollback m.bist.fwRollback } := by
  unfold Mod.fwReached
  split
  · next h => simp [Nat.max_eq_right h.le]
  · next h => simp [Nat.max_eq_left (Nat.not_lt.1 h)]

/-- The words that show why a road book fails. -/
def failWords : List Nat := [P.sysRbStatus.addr, P.sysRbOffset.addr]

theorem Mod.Within.rbFail (m : Mod) (code off : Nat) : Mod.Within [.bist] failWords m (m.rbFail code off) :=
  ((((Mod.Within.wr m P.sysRbStatus code 0 0 (by decide)).trans (.wr _ P.sysRbOffset off 0 0 (by decide))).trans
    (.ofBist _ _ (by decide))).trans (.raise _ _ _ _))

/-- After its words and its phase the entry into ROADBOOK_INVALID changes the store and the recorder alone. -/
theorem Mod.Within.invalid_rbFail (m : Mod) (code off : Nat) : Mod.Within [.nv, .log] [] (m.rbFail code off) (m.invalid code off) :=
  (Mod.Within.fwReached _ (by decide)).trans (.recJudge _ (by decide))

theorem Mod.Within.invalid (m : Mod) (code off : Nat) : Mod.Within [.bist, .nv, .log] failWords m (m.invalid code off) :=
  ((Mod.Within.rbFail m code off).mono (by decide) (List.Subset.refl _)).trans
    ((Mod.Within.invalid_rbFail m code off).mono (by decide) (List.nil_subset _))

theorem Mod.invalid_bist (m : Mod) (code off : Nat) : (m.invalid code off).bist = { m.bist with phase := .rbInvalid } :=
  (Mod.Within.invalid_rbFail m code off).areas .bist (by decide)

theorem Mod.invalid_dome (m : Mod) (code off : Nat) :
    (m.invalid code off).nv.dome = { m.nv.dome with rollback := Nat.max m.nv.dome.rollback m.bist.fwRollback } := by
  have hnv : (m.invalid code off).nv = { (m.rbFail code off).fwReached.nv with slots := (m.invalid code off).nv.slots } :=
    (Mod.Within.recJudge (as := [.log]) (ws := []) _ (by decide)).areas .nv (by decide)
  rw [hnv]
  exact Mod.fwReached_dome _

/-- The words that show the failure, each cut to its width. -/
theorem Mod.invalid_words {m : Mod} (hwf : Store.wf m.regs = true) (code off : Nat) :
    (m.invalid code off).rd P.sysRbStatus = code % 2 ^ P.sysRbStatus.w ∧ (m.invalid code off).rd P.sysRbOffset = off % 2 ^ P.sysRbOffset.w := by
  have hfit : ∀ n w : Nat, w ≤ 32 → n % 2 ^ w % 2 ^ 32 = n % 2 ^ w := fun n w hw =>
    Nat.mod_eq_of_lt ((Nat.mod_lt n (Nat.two_pow_pos w)).trans_le (Nat.pow_le_pow_right (by decide) hw))
  have hstatus : Store.wf (m.wr P.sysRbStatus code).regs = true := Mod.wr_wf hwf _ _ _ _
  have hfail : Store.wf (m.rbFail code off).regs = true := (Mod.Within.rbFail m code off).wf hwf
  have hrest := Mod.Within.invalid_rbFail m code off
  constructor
  · calc (m.invalid code off).rd P.sysRbStatus
      _ = (m.rbFail code off).rd P.sysRbStatus := hrest.rd_eq hfail List.not_mem_nil (by decide)
      _ = (m.wr P.sysRbStatus code).rd P.sysRbStatus := Mod.rd_wr_ne hstatus (by decide)
      _ = code % 2 ^ P.sysRbStatus.w := (Mod.rd_wr hwf _ _ 0 0).trans (hfit _ _ (by decide))
  · calc (m.invalid code off).rd P.sysRbOffset
      _ = (m.rbFail code off).rd P.sysRbOffset := hrest.rd_eq hfail List.not_mem_nil (by decide)
      _ = off % 2 ^ P.sysRbOffset.w := (Mod.rd_wr hstatus _ _ 0 0).trans (hfit _ _ (by decide))

theorem roadbookChecksComplete_of_ok {m : Mod} {e : Option Nat} {rb : RoadBook} (hphase : m.bist.phase = .checks)
    (hok : checkRoadBook m e = .ok rb) :
    roadbookChecksComplete e m = ({ m with sys := { m.sys with parsed := some rb } }).setPhase .memory := by
  simp [roadbookChecksComplete, hphase, hok]

theorem roadbookChecksComplete_of_error {m : Mod} {e : Option Nat} {code off : Nat} (hphase : m.bist.phase = .checks)
    (herr : checkRoadBook m e = .error (code, off)) : roadbookChecksComplete e m = m.invalid code off := by
  simp [roadbookChecksComplete, hphase, herr]

theorem roadbookChecksComplete_ok_yields {s : State} {t : Nat} {e : Option Nat} {rb : RoadBook} (hphase : s.m.bist.phase = .checks)
    (hok : checkRoadBook (s.m.at t) e = .ok rb) :
    s.Yields (.roadbookChecksComplete t e) fun m' =>
      (m'.bist = { s.m.bist with phase := .memory } ∧ m'.sys = { s.m.sys with parsed := some rb })
      ∧ Mod.Frame t [.bist, .sys] [] s.m m' := by
  have hmean := roadbookChecksComplete_of_ok (m := s.m.at t) hphase hok
  refine State.yields_frame (f := roadbookChecksComplete e) rfl ?_ ⟨?_, ?_⟩
  · rw [hmean]
    exact (Mod.Within.ofSys _ _ (by decide)).trans (.ofBist _ _ (by decide))
  · rw [Mod.run_bist, hmean]
    rfl
  · rw [Mod.run_sys, hmean]
    rfl

theorem roadbookChecksComplete_error_yields {s : State} {t : Nat} {e : Option Nat} {code off : Nat} (hphase : s.m.bist.phase = .checks)
    (herr : checkRoadBook (s.m.at t) e = .error (code, off)) (hs : s.Canonical) :
    s.Yields (.roadbookChecksComplete t e) fun m' =>
      (m'.bist = { s.m.bist with phase := .rbInvalid } ∧ m'.log.judged = true
        ∧ m'.rd P.sysRbStatus = code % 2 ^ P.sysRbStatus.w ∧ m'.rd P.sysRbOffset = off % 2 ^ P.sysRbOffset.w ∧ m'.sys = s.m.sys
        ∧ m'.nv.dome = { s.m.nv.dome with rollback := Nat.max s.m.nv.dome.rollback s.m.bist.fwRollback })
      ∧ Mod.Frame t [.bist, .nv, .log] failWords s.m m' := by
  have hmean := roadbookChecksComplete_of_error (m := s.m.at t) hphase herr
  have hinvalid := Mod.Within.invalid (s.m.at t) code off
  have hend : Store.wf (roadbookChecksComplete e (s.m.at t)).regs = true := by
    rw [hmean]
    exact hinvalid.wf hs
  obtain ⟨hstatus, hoffset⟩ := Mod.invalid_words (m := s.m.at t) hs code off
  refine State.yields_frame (f := roadbookChecksComplete e) rfl ?frame ⟨?bist, ?judged, ?status, ?offset, ?sys, ?dome⟩
  case frame => rwa [hmean]
  case bist => rw [Mod.run_bist, hmean, Mod.invalid_bist, Mod.at_bist]
  case judged =>
    rw [Mod.run_log_judged, hmean]
    exact Mod.recJudge_judged _
  case status => rw [Mod.run_rd t _ s.m hend (by decide), hmean, hstatus]
  case offset => rw [Mod.run_rd t _ s.m hend (by decide), hmean, hoffset]
  case sys =>
    rw [Mod.run_sys, hmean]
    exact hinvalid.areas .sys (by decide)
  case dome => rw [Mod.run_nv_dome, hmean, Mod.invalid_dome, Mod.at_nv, Mod.at_bist]

/-! ### Words that the taking of events keeps, whatever the store's form (R288, R383) -/

theorem Store.look_del_ne (s : Store) {a c : Nat} (h : c ≠ a) : Store.look (Store.del s a) c = Store.look s c := by
  induction s with
  | nil => rfl
  | cons e r ih =>
    obtain ⟨b, w⟩ := e
    simp only [Store.del]
    split
    · next hb => simp [Store.look, hb, Ne.symm h]
    · split
      · rfl
      · simp only [Store.look, ih]

theorem Store.look_ins_ne (s : Store) {a c : Nat} (v : Word) (h : c ≠ a) : Store.look (Store.ins s a v) c = Store.look s c := by
  induction s with
  | nil => simp [Store.ins, Store.look, Ne.symm h]
  | cons e r ih =>
    obtain ⟨b, w⟩ := e
    simp only [Store.ins]
    split
    · next hb => simp [Store.look, hb, Ne.symm h]
    · split
      · simp [Store.look, Ne.symm h]
      · simp only [Store.look, ih]

/-- A word put keeps the others, also where the store is not canonical. -/
theorem Store.get_put_other (s : Store) {a c : Nat} (v : Word) (h : c ≠ a) : Store.get (Store.put s a v) c = Store.get s c := by
  unfold Store.get Store.put
  split
  · rw [Store.look_del_ne s h]
  · rw [Store.look_ins_ne s v h]

/-- Every word but LOOP_FLAGS reads as before. -/
def Mod.LoopFlagged (a b : Mod) : Prop := ∀ x, x ≠ P.loopFlags.addr → Store.get b.regs x = Store.get a.regs x

theorem Mod.LoopFlagged.of_regs {a b : Mod} (h : b.regs = a.regs) : Mod.LoopFlagged a b := fun _ _ => by rw [h]

theorem Mod.LoopFlagged.trans {a b c : Mod} (h : Mod.LoopFlagged a b) (k : Mod.LoopFlagged b c) : Mod.LoopFlagged a c :=
  fun x hx => (k x hx).trans (h x hx)

theorem Mod.LoopFlagged.foldl {α : Type} {f : Mod → α → Mod} (hf : ∀ m x, Mod.LoopFlagged m (f m x)) (l : List α) (m : Mod) :
    Mod.LoopFlagged m (l.foldl f m) := by
  induction l generalizing m with
  | nil => exact .of_regs rfl
  | cons x r ih => exact (hf m x).trans (ih (f m x))

@[simp] theorem Mod.recPut_regs (m : Mod) (r : Rec) : (m.recPut r).regs = m.regs := by
  unfold Mod.recPut
  split
  · rfl
  · split <;> rfl

@[simp] theorem Mod.recWarn_regs (m : Mod) : m.recWarn.regs = m.regs := by
  unfold Mod.recWarn
  dsimp only
  split
  · rfl
  · split
    · exact Mod.recPut_regs _ _
    · split <;> rfl

@[simp] theorem Mod.recWrite_regs (m : Mod) (r : Rec) : (m.recWrite r).regs = m.regs := by
  unfold Mod.recWrite
  split
  · rw [Mod.recWarn_regs, Mod.recPut_regs]
  · rfl

@[simp] theorem Mod.recJudge_regs (m : Mod) : m.recJudge.regs = m.regs := by
  unfold Mod.recJudge
  dsimp only
  split
  · exact Mod.recWarn_regs _
  · rfl

@[simp] theorem Mod.recEnqueue_regs (m : Mod) (r : Rec) : (m.recEnqueue r).1.regs = m.regs := by
  unfold Mod.recEnqueue
  split
  · rfl
  · dsimp only
    split
    · rfl
    · exact Mod.recWrite_regs _ _

@[simp] theorem Mod.recTake_regs (m : Mod) (src code : Nat) (d : List Byte) : (m.recTake src code d).1.regs = m.regs := by
  unfold Mod.recTake
  dsimp only
  split
  · exact Mod.recEnqueue_regs _ _
  · split
    · rfl
    · exact Mod.recEnqueue_regs _ _

@[simp] theorem Mod.queueEvent_regs (m : Mod) (e : Ev) : (m.queueEvent e).regs = m.regs := by
  unfold Mod.queueEvent
  split
  · rfl
  · exact Mod.raiseOnce_regs _ _ _ _ _ _

theorem Mod.LoopFlagged.traceDone (m : Mod) (n : Nat) : Mod.LoopFlagged m (m.traceDone n) :=
  fun _ hx => Store.get_put_other _ _ hx

theorem Mod.LoopFlagged.traceTrigger (m : Mod) (n : Nat) : Mod.LoopFlagged m (m.traceTrigger n) := by
  unfold Mod.traceTrigger
  dsimp only
  split
  · split
    · exact .traceDone _ n
    · exact .of_regs rfl
  · exact .of_regs rfl

theorem Mod.LoopFlagged.takeEvent (m : Mod) (r : Raised) : Mod.LoopFlagged m (m.takeEvent r) := by
  have hrest : ∀ (m2 : Mod) (routed : Bool) (e : Ev), m2.regs = m.regs →
      Mod.LoopFlagged m (if routed = true then (m2.traceEvent r.src).queueEvent e else m2.traceEvent r.src) := by
    intro m2 routed e h2
    have htraced : Mod.LoopFlagged m (m2.traceEvent r.src) :=
      (LoopFlagged.of_regs h2).trans (.foldl LoopFlagged.traceTrigger _ m2)
    split
    · exact htraced.trans (.of_regs (Mod.queueEvent_regs _ e))
    · exact htraced
  unfold Mod.takeEvent
  dsimp only
  refine hrest _ _ _ ?_
  split
  · exact Mod.recTake_regs _ _ _ _
  · rfl

theorem Mod.LoopFlagged.flushN (n : Nat) (m : Mod) : Mod.LoopFlagged m (m.flushN n) := by
  induction n generalizing m with
  | zero => exact .of_regs rfl
  | succ n ih =>
    unfold Mod.flushN
    split
    · exact .of_regs rfl
    · exact (LoopFlagged.foldl LoopFlagged.takeEvent _ { m with evc := { m.evc with raised := [] } }).trans (ih _)

theorem Mod.LoopFlagged.flush (m : Mod) : Mod.LoopFlagged m m.flush := by
  unfold Mod.flush
  split
  · exact .of_regs rfl
  · refine (LoopFlagged.flushN 40 m).trans (.of_regs ?_)
    unfold Mod.renumber
    dsimp only
    split <;> rfl

/-- A parameter after a command, whatever the store's form: what its meaning left, but for LOOP_FLAGS. -/
theorem Mod.run_rd_other (t : Nat) (f : Mod → Mod) (m : Mod) {p : Param} {i j : Nat} (hp : p.addr i j ≠ P.loopFlags.addr) :
    (Mod.run t f m).rd p i j = (f (m.at t)).rd p i j :=
  congrArg BitVec.toNat ((Store.get_canon _ _).trans (LoopFlagged.flush _ _ hp))

/-! ### Areas that a change keeps (R34) -/

/-- Each of some areas stands as it did. -/
def Mod.Keeps (as : List Area) (a b : Mod) : Prop := ∀ p ∈ as, p.same a b

section
variable {as : List Area} {a b c : Mod}

theorem Mod.Keeps.refl (a : Mod) : Mod.Keeps as a a := fun p _ => p.same_refl a

theorem Mod.Keeps.trans (h : Mod.Keeps as a b) (k : Mod.Keeps as b c) : Mod.Keeps as a c :=
  fun p hp => Area.same_trans (h p hp) (k p hp)

theorem Mod.Keeps.foldl {α : Type} {f : Mod → α → Mod} (hf : ∀ m x, Mod.Keeps as m (f m x)) (l : List α) (m : Mod) :
    Mod.Keeps as m (l.foldl f m) := by
  induction l generalizing m with
  | nil => exact .refl m
  | cons x r ih => exact (hf m x).trans (ih (f m x))

/-- The areas that a frame does not name are kept. -/
theorem Mod.Within.keeps {as' : List Area} {ws : List Nat} (h : Mod.Within as' ws a b) (hd : ∀ p ∈ as, p ∉ as') : Mod.Keeps as a b :=
  fun p hp => h.areas p (hd p hp)

end

/-- The areas that only the start's own part of applying a road book changes. -/
def quietAreas : List Area := [.bist, .cell, .sys]

theorem Mod.Keeps.setWord (m : Mod) (a : Nat) (v : Word) : Mod.Keeps quietAreas m (m.setWord a v) :=
  (Mod.Within.setWord (as := []) (ws := [a]) m a v (by simp)).keeps (by simp)

theorem Mod.Keeps.setWords (m : Mod) (l : List (Nat × Word)) : Mod.Keeps quietAreas m (m.setWords l) :=
  .foldl (fun m (e : Nat × Word) => .setWord m e.1 e.2) l m

theorem Mod.Keeps.wr (m : Mod) (p : Param) (v i j : Nat) : Mod.Keeps quietAreas m (m.wr p v i j) := .setWord m _ _

theorem Mod.Keeps.inc (m : Mod) (p : Param) (i n j : Nat) : Mod.Keeps quietAreas m (m.inc p i n j) := .setWord m _ _

theorem Mod.Keeps.of_evented {a b : Mod} (h : Evented a b) : Mod.Keeps quietAreas a b :=
  (Mod.Within.of_evented (as := []) (ws := []) h).keeps (by simp)

theorem Mod.Keeps.restoreDials (m : Mod) (rb : RoadBook) (sameId : Bool) (stored : List (Nat × Nat × Nat × Nat × Nat)) :
    Mod.Keeps quietAreas m (m.restoreDials rb sameId stored) := by
  refine .foldl (fun m d => ?_) _ m
  split
  · exact .setWord m _ _
  · exact .of_evented (.raise m _ _ _)

theorem Mod.startCalu_keeps (m : Mod) (rb : RoadBook) (sameId : Bool) :
    (m.startCalu rb sameId).bist = m.bist ∧ (m.startCalu rb sameId).cell = m.cell
      ∧ (m.startCalu rb sameId).sys.rb = m.sys.rb ∧ (m.startCalu rb sameId).sys.parsed = m.sys.parsed := by
  unfold Mod.startCalu
  extract_lets good best
  clear_value best
  cases best with
  | none => exact ⟨rfl, rfl, rfl, rfl⟩
  | some c =>
    cases sameId with
    | false => exact ⟨rfl, rfl, rfl, rfl⟩
    | true =>
      dsimp only
      split <;> exact ⟨rfl, rfl, rfl, rfl⟩

/-- A road book has come into force, and none is being read; self-test and cell array stand as they did. -/
structure Mod.Applies (rb : RoadBook) (a b : Mod) : Prop where
  bist : b.bist = a.bist
  cell : b.cell = a.cell
  rb : b.sys.rb = some rb
  parsed : b.sys.parsed = none

theorem Mod.Applies.keeps {rb : RoadBook} {a b c : Mod} (h : Mod.Applies rb a b) (k : Mod.Keeps quietAreas b c) : Mod.Applies rb a c := by
  have hbist : c.bist = b.bist := k .bist (by decide)
  have hcell : c.cell = b.cell := k .cell (by decide)
  have hsys : c.sys = b.sys := k .sys (by decide)
  exact ⟨hbist.trans h.bist, hcell.trans h.cell, by rw [hsys, h.rb], by rw [hsys, h.parsed]⟩

theorem Mod.Applies.of_keeps {rb : RoadBook} {a b c : Mod} (k : Mod.Keeps quietAreas a b) (h : Mod.Applies rb b c) : Mod.Applies rb a c :=
  ⟨h.bist.trans (k .bist (by decide)), h.cell.trans (k .cell (by decide)), h.rb, h.parsed⟩

theorem Mod.Applies.startCalu {rb : RoadBook} {a b : Mod} (h : Mod.Applies rb a b) (sameId : Bool) :
    Mod.Applies rb a (b.startCalu rb sameId) := by
  obtain ⟨hbist, hcell, hrb, hparsed⟩ := b.startCalu_keeps rb sameId
  exact ⟨hbist.trans h.bist, hcell.trans h.cell, hrb.trans h.rb, hparsed.trans h.parsed⟩

theorem Mod.Applies.applyRoadBook (m : Mod) (rb : RoadBook) (ms : MsContent) : Mod.Applies rb m (m.applyRoadBook rb ms) := by
  unfold Mod.applyRoadBook
  extract_lets sameId start same
  split
  next r dropped _ =>
  extract_lets m1 _ m2 m3 m4 m5 m6
  have hwords : Mod.Keeps quietAreas m m1 := (Mod.Keeps.setWords m _).trans (.setWords _ _)
  have hforce : Mod.Applies rb m1 m2 := ⟨rfl, rfl, rfl, rfl⟩
  have hstored : Mod.Applies rb m1 m3 := (hforce.keeps (.restoreDials m2 rb _ _)).startCalu _
  have hshown : Mod.Keeps quietAreas m3 m5 :=
    ((((((Mod.Keeps.wr _ _ _ _ _).trans (.wr _ _ _ _ _)).trans (.wr _ _ _ _ _)).trans (.wr _ _ _ _ _)).trans (.wr _ _ _ _ _)).trans
      (.wr _ _ _ _ _)).trans ((Mod.Keeps.wr _ _ _ _ _).trans (.of_evented (.raise _ _ _ _)))
  have hdropped : Mod.Keeps quietAreas m5 m6 := by
    unfold m6
    cases dropped with
    | none => exact .refl m5
    | some p => exact (Mod.Keeps.inc m5 _ _ _ _).trans (.of_evented (.raise _ _ _ _))
  have hend : Mod.Applies rb m m6 := .of_keeps hwords (hstored.keeps (hshown.trans hdropped))
  exact ⟨hend.bist, hend.cell, hend.rb, hend.parsed⟩

theorem Mod.Keeps.isoStart (m : Mod) (ch : Nat) : Mod.Keeps quietAreas m (m.isoStart ch) := by
  have hset : ∀ (m : Mod) (f : CanCh → CanCh), Mod.Keeps quietAreas m (m.setCan ch f) := fun m f =>
    (Mod.Within.setCan (as := [.can]) (ws := []) m ch f (by simp)).keeps (by decide)
  have hquit : Mod.Keeps quietAreas m (m.isoQuit ch) :=
    (hset m _).trans (.foldl (fun m e => .of_evented (.raise m _ _ _)) _ _)
  unfold Mod.isoStart
  split
  · extract_lets pref m1
    have hpref : Mod.Keeps quietAreas m m1 := by
      unfold m1
      split
      · exact .refl m
      · exact hquit
    exact (hpref.trans (hset m1 _)).trans (.wr _ _ _ _ _)
  · exact .refl m

theorem Mod.Keeps.canStart (m : Mod) : Mod.Keeps quietAreas m m.canStart := by
  have hset : ∀ (m : Mod) (c : CanSt), Mod.Keeps quietAreas m { m with can := c } := fun m c =>
    (Mod.Within.ofCan (as := [.can]) (ws := []) m c (by simp)).keeps (by decide)
  refine (hset m _).trans (.foldl (fun m ch => ?_) _ _)
  split
  · exact (hset m _).trans (.isoStart _ ch)
  · exact .refl m

/-! ### The main memory test (R32, R34, R411, R440, R454) -/

/-- The NET parameters of the last road book accepted give way to their defaults (R34). -/
def Mod.netDefaults (m : Mod) : Mod := m.setWords (m.nv.net.map (fun e => (e.1, dfltAt e.1)))

/-- The decision rate follows the towers in service (R27). -/
def Mod.rateCapped (m : Mod) : Mod := m.wr P.sysRateCap (m.rateCap m.towersOk.length)

/-- The power cap and the recorder's due tokens follow the road book (R253, R398). -/
def Mod.powerCapped (m : Mod) : Mod :=
  { m with toll := { m.toll with cap := m.logicCap }, log := { m.log with toks := m.tokensDue } }

/-- No bucket of the recorder holds more than LOG_BURST (R398). -/
def Mod.bucketsCut (m : Mod) : Mod :=
  m.log.buckets.foldl (fun m b => m.setBucket { b with tokens := Nat.min b.tokens (m.rd P.logBurst) }) m

/-- The start's own part of applying a road book, up to the placement. -/
def Mod.prepared (m : Mod) (rb : RoadBook) : Mod :=
  (m.netDefaults.applyRoadBook rb m.netDefaults.committed).rateCapped.canStart.powerCapped.bucketsCut

theorem Mod.applied_eq (m : Mod) (rb : RoadBook) : m.applied rb = (m.prepared rb).place.lend.recJudge := by
  unfold Mod.applied Mod.prepared Mod.bucketsCut Mod.powerCapped Mod.rateCapped Mod.netDefaults
  rfl

theorem Mod.Keeps.powerCapped (m : Mod) : Mod.Keeps quietAreas m m.powerCapped := by
  intro p hp
  simp only [quietAreas, List.mem_cons, List.not_mem_nil, or_false] at hp
  rcases hp with rfl | rfl | rfl <;> rfl

theorem Mod.Keeps.bucketsCut (m : Mod) : Mod.Keeps quietAreas m m.bucketsCut :=
  .foldl (fun m _ => .of_evented (.setBucket m _)) _ m

theorem Mod.Applies.prepared (m : Mod) (rb : RoadBook) : Mod.Applies rb m (m.prepared rb) := by
  have hforce : Mod.Applies rb m (m.netDefaults.applyRoadBook rb m.netDefaults.committed) :=
    .of_keeps (Mod.Keeps.setWords m _) (.applyRoadBook _ rb _)
  have hrate : Mod.Keeps quietAreas (m.netDefaults.applyRoadBook rb m.netDefaults.committed)
    (m.netDefaults.applyRoadBook rb m.netDefaults.committed).rateCapped := .wr _ _ _ _ _
  exact (hforce.keeps hrate).keeps ((Mod.Keeps.canStart _).trans ((Mod.Keeps.powerCapped _).trans (.bucketsCut _)))

/-- The towers of job copies rest on the cell array alone. -/
theorem Mod.jobHosts_congr {a b : Mod} (h : b.cell = a.cell) : b.jobHosts = a.jobHosts := by
  unfold Mod.jobHosts Mod.towersOk Mod.tower
  rw [h]

/-- What the placement, the lending and the recorder leave of a module with a road book in force. -/
theorem Mod.Applies.placed {rb : RoadBook} {a b : Mod} (h : Mod.Applies rb a b) :
    b.place.lend.recJudge.bist = a.bist ∧ b.place.lend.recJudge.cell.models = a.cell.models
      ∧ b.place.lend.recJudge.sys.rb = some rb ∧ b.place.lend.recJudge.sys.parsed = none := by
  have hjudge : Mod.Within [.log] [] b.place.lend b.place.lend.recJudge := .recJudge _ (by decide)
  have hbist : b.place.lend.recJudge.bist = b.bist := hjudge.areas .bist (by decide)
  have hcell : b.place.lend.recJudge.cell = b.place.cell := hjudge.areas .cell (by decide)
  have hsys : b.place.lend.recJudge.sys = b.sys := hjudge.areas .sys (by decide)
  refine ⟨hbist.trans h.bist, ?_, by rw [hsys, h.rb], by rw [hsys, h.parsed]⟩
  rw [hcell, ← h.cell]
  rfl

/-- In PAIRED the towers of job copies lend (R454). -/
theorem Mod.lend_lent (m : Mod) :
    m.lend.recJudge.perf.lent = if m.lend.recJudge.paired then maskOf m.lend.recJudge.jobHosts else 0 := by
  have hjudge : Mod.Within [.log] [] m.lend m.lend.recJudge := .recJudge _ (by decide)
  have hcell : m.lend.recJudge.cell = m.cell := hjudge.areas .cell (by decide)
  have hperf : m.lend.recJudge.perf = m.lend.perf := hjudge.areas .perf (by decide)
  have hpaired : m.lend.recJudge.paired = m.paired := by
    unfold Mod.paired Mod.rd Mod.word
    rw [Mod.recJudge_regs]
    rfl
  rw [hperf, hpaired, Mod.jobHosts_congr hcell]
  rfl

/-- What applying a road book at start leaves (R34, R454). -/
theorem Mod.applied_leaves (m : Mod) (rb : RoadBook) :
    (m.applied rb).bist = m.bist ∧ (m.applied rb).cell.models = m.cell.models ∧ (m.applied rb).sys.rb = some rb
      ∧ (m.applied rb).sys.parsed = none ∧ (m.applied rb).log.judged = true
      ∧ (m.applied rb).perf.lent = if (m.applied rb).paired then maskOf (m.applied rb).jobHosts else 0 := by
  rw [Mod.applied_eq]
  obtain ⟨hbist, hmodels, hrb, hparsed⟩ := (Mod.Applies.prepared m rb).placed
  exact ⟨hbist, hmodels, hrb, hparsed, Mod.recJudge_judged _, Mod.lend_lent _⟩

/-- Checks 14 and 15 rest on the model key and on the towers. -/
theorem Mod.lastChecks_congr {a b : Mod} (hkey : b.bist.actModel = a.bist.actModel) (htowers : b.cell.towers = a.cell.towers)
    (rb : RoadBook) : b.lastChecks rb = a.lastChecks rb := by
  have hok : b.towersOk = a.towersOk := by
    unfold Mod.towersOk Mod.tower
    rw [htowers]
  unfold Mod.lastChecks
  rw [hkey, hok]

/-- Where check 14 passes every model authenticates (R40). -/
theorem Mod.models_of_lastChecks {m : Mod} {rb : RoadBook} {key : List Byte} (hkey : m.bist.actModel = some key)
    (hchecks : m.lastChecks rb = none) :
    (m.loadModels rb).cell.models = rb.models.map (fun d => (d.id, d.kind, modelPlain key rb.id d)) := by
  have hall : ∀ d ∈ rb.models, modelOk key rb.id d = true := by
    unfold Mod.lastChecks at hchecks
    rw [hkey] at hchecks
    dsimp only at hchecks
    split at hchecks
    · exact absurd hchecks (by simp)
    · next hnone => simpa using hnone
  unfold Mod.loadModels
  rw [hkey]
  dsimp only
  rw [List.takeWhile_eq_self_iff.2 hall]

/-- Test 5 has reported, with its failing lines. -/
def Mod.memoryTested (m : Mod) (res : TestRes) (bad : List (Nat × Nat)) : Mod :=
  { m.testReports [res] [5] with bist := { (m.testReports [res] [5]).bist with retired := bad } }

/-- Test 5 failed, or some channel has more than 4,096 failing lines (R410, R411). -/
def memoryFails (res : TestRes) (bad : List (Nat × Nat)) : Bool :=
  res.result = 2 || (List.range 4).any (fun ch => 4096 < (bad.filter (fun l => l.1 = ch)).length)

theorem memoryFails_iff {res : TestRes} {bad : List (Nat × Nat)} :
    memoryFails res bad = true ↔ res.result = 2 ∨ ∃ ch, ch < 4 ∧ 4096 < (bad.filter (fun l => l.1 = ch)).length := by
  simp [memoryFails]

/-- The module stops in SAFE, and its cause is shown. -/
def Mod.safeMarked (m : Mod) (cause : Nat) : Mod :=
  ({ m with bist := { m.bist with phase := .safe, fwVersion := 0 } }).wr P.bistSafeCause cause

/-- After its phase and its cause the entry into SAFE changes the recorder alone. -/
theorem Mod.Within.enterSafe_safeMarked (m : Mod) (cause : Nat) : Mod.Within [.log] [] (m.safeMarked cause) (m.enterSafe cause) :=
  ((Mod.Within.raise _ _ _ _).trans (.raise _ _ _ _)).trans (.recJudge _ (by decide))

theorem Mod.enterSafe_bist (m : Mod) (cause : Nat) : (m.enterSafe cause).bist = { m.bist with phase := .safe, fwVersion := 0 } :=
  (Mod.Within.enterSafe_safeMarked m cause).areas .bist (by decide)

theorem Mod.enterSafe_sys (m : Mod) (cause : Nat) : (m.enterSafe cause).sys = m.sys :=
  (Mod.Within.enterSafe_safeMarked m cause).areas .sys (by decide)

theorem Mod.safeMarked_wf {m : Mod} (hwf : Store.wf m.regs = true) (cause : Nat) : Store.wf (m.safeMarked cause).regs = true :=
  Mod.wr_wf (m := { m with bist := { m.bist with phase := .safe, fwVersion := 0 } }) hwf _ _ _ _

theorem Mod.enterSafe_wf {m : Mod} (hwf : Store.wf m.regs = true) (cause : Nat) : Store.wf (m.enterSafe cause).regs = true :=
  (Mod.Within.enterSafe_safeMarked m cause).wf (Mod.safeMarked_wf hwf cause)

theorem Mod.enterSafe_cause {m : Mod} (hwf : Store.wf m.regs = true) (cause : Nat) :
    (m.enterSafe cause).rd P.bistSafeCause = cause % 2 ^ P.bistSafeCause.w % 2 ^ 32 :=
  ((Mod.Within.enterSafe_safeMarked m cause).rd_eq (Mod.safeMarked_wf hwf cause) List.not_mem_nil (by decide)).trans
    (Mod.rd_wr (m := { m with bist := { m.bist with phase := .safe, fwVersion := 0 } }) hwf _ _ 0 0)

theorem mainMemoryTestComplete_of_fail {m : Mod} {res : TestRes} {bad : List (Nat × Nat)} (e : Option Nat)
    (hphase : m.bist.phase = .memory) (hfails : memoryFails res bad = true) :
    mainMemoryTestComplete res bad e m = (m.testReports [res] [5]).enterSafe 6 := by
  unfold mainMemoryTestComplete
  rw [if_pos hphase]
  exact if_pos hfails

theorem mainMemoryTestComplete_of_pass {m : Mod} {res : TestRes} {bad : List (Nat × Nat)} {rb : RoadBook} (hphase : m.bist.phase = .memory)
    (hfails : memoryFails res bad = false) (hparsed : (m.memoryTested res bad).sys.parsed = some rb)
    (hchecks : ((m.memoryTested res bad).loadModels rb).lastChecks rb = none) :
    mainMemoryTestComplete res bad none m = (((m.memoryTested res bad).loadModels rb).applied rb).setPhase .outputs := by
  unfold mainMemoryTestComplete
  rw [if_pos hphase]
  refine (if_neg (Bool.not_eq_true _ ▸ hfails)).trans ?_
  unfold Mod.memoryTested at hparsed hchecks ⊢
  dsimp only at hparsed ⊢
  rw [hparsed]
  dsimp only
  rw [hchecks]

theorem Mod.Within.memoryReport (m : Mod) {res : TestRes} : Mod.Within [] (testWords [5]) m (m.testReports [res] [5]) :=
  .testReports m _ _

/-- The report of test 5 leaves the phases' data: what is read of it later. -/
theorem Mod.memoryTested_keeps (m : Mod) (res : TestRes) (bad : List (Nat × Nat)) :
    (m.memoryTested res bad).bist = { m.bist with retired := bad } ∧ (m.memoryTested res bad).cell = m.cell
      ∧ (m.memoryTested res bad).sys = m.sys := by
  have hreport := Mod.Within.memoryReport m (res := res)
  have hbist : (m.testReports [res] [5]).bist = m.bist := hreport.areas .bist (by decide)
  have hcell : (m.testReports [res] [5]).cell = m.cell := hreport.areas .cell (by decide)
  have hsys : (m.testReports [res] [5]).sys = m.sys := hreport.areas .sys (by decide)
  exact ⟨by rw [← hbist]; rfl, hcell, hsys⟩

/-- Reading the models changes their plaintexts alone. -/
theorem Mod.loadModels_keeps (m : Mod) (rb : RoadBook) :
    (m.loadModels rb).bist = m.bist ∧ (m.loadModels rb).cell.towers = m.cell.towers := by
  unfold Mod.loadModels
  split <;> exact ⟨rfl, rfl⟩

section
variable {s : State} {t : Nat} {res : TestRes} {bad : List (Nat × Nat)} {rb : RoadBook}

/-- The road book comes into force in a module that has its models, and that check 14 and 15 pass as they pass the module before. -/
theorem mainMemoryTest_passes (hphase : s.m.bist.phase = .memory) (hfails : memoryFails res bad = false)
    (hparsed : s.m.sys.parsed = some rb) (hchecks : s.m.lastChecks rb = none) :
    ∃ m1 : Mod, mainMemoryTestComplete res bad none (s.m.at t) = (m1.applied rb).setPhase .outputs
      ∧ m1.bist = { s.m.bist with retired := bad }
      ∧ ∀ key, s.m.bist.actModel = some key → m1.cell.models = rb.models.map (fun d => (d.id, d.kind, modelPlain key rb.id d)) := by
  obtain ⟨hbist, hcell, hsys⟩ := (s.m.at t).memoryTested_keeps res bad
  obtain ⟨hloadBist, hloadTowers⟩ := ((s.m.at t).memoryTested res bad).loadModels_keeps rb
  have hkey : ((s.m.at t).memoryTested res bad).bist.actModel = s.m.bist.actModel := by rw [hbist]; rfl
  have htowers : ((s.m.at t).memoryTested res bad).cell.towers = s.m.cell.towers := by rw [hcell]; rfl
  have htested : ((s.m.at t).memoryTested res bad).lastChecks rb = none := (Mod.lastChecks_congr hkey htowers rb).trans hchecks
  have hloaded : (((s.m.at t).memoryTested res bad).loadModels rb).lastChecks rb = none :=
    (Mod.lastChecks_congr (congrArg BistSt.actModel hloadBist) hloadTowers rb).trans htested
  refine ⟨_, mainMemoryTestComplete_of_pass (m := s.m.at t) hphase hfails (by rw [hsys]; exact hparsed) hloaded,
    hloadBist.trans hbist, fun key hk => ?_⟩
  exact Mod.models_of_lastChecks (hkey.trans hk) htested

theorem mainMemoryTestComplete_pass_yields (hphase : s.m.bist.phase = .memory) (hfails : memoryFails res bad = false)
    (hparsed : s.m.sys.parsed = some rb) (hchecks : s.m.lastChecks rb = none) :
    s.Yields (.mainMemoryTestComplete t res bad none) fun m' => m'.bist.phase = .outputs ∧ m'.bist.retired = bad
      ∧ m'.sys.rb = some rb ∧ m'.sys.parsed = none ∧ m'.log.judged = true
      ∧ (∀ key, s.m.bist.actModel = some key → m'.cell.models = rb.models.map (fun d => (d.id, d.kind, modelPlain key rb.id d)))
      ∧ m'.perf.lent = (if m'.paired then maskOf m'.jobHosts else 0) := by
  obtain ⟨m1, hmean, hbist, hmodels⟩ := mainMemoryTest_passes (t := t) hphase hfails hparsed hchecks
  have hleaves := m1.applied_leaves rb
  generalize m1.applied rb = m2 at hmean hleaves
  obtain ⟨hendBist, hendModels, hendRb, hendParsed, hendJudged, hendLent⟩ := hleaves
  refine State.yields_run (f := mainMemoryTestComplete res bad none) rfl ⟨?phase, ?retired, ?rb, ?parsed, ?judged, ?models, ?lent⟩
  case phase => rw [Mod.run_bist, hmean, Mod.setPhase_phase]
  case retired =>
    rw [Mod.run_bist, hmean]
    show m2.bist.retired = bad
    rw [hendBist, hbist]
  case rb =>
    rw [Mod.run_sys, hmean]
    exact hendRb
  case parsed =>
    rw [Mod.run_sys, hmean]
    exact hendParsed
  case judged =>
    rw [Mod.run_log_judged, hmean]
    exact hendJudged
  case models =>
    intro key hkey
    rw [Mod.run_cell, hmean, ← hmodels key hkey]
    exact hendModels
  case lent =>
    have hpaired : (Mod.run t (mainMemoryTestComplete res bad none) s.m).paired = m2.paired := by
      unfold Mod.paired
      rw [Mod.run_rd_other _ _ _ (by decide), hmean]
      rfl
    have hhosts : (Mod.run t (mainMemoryTestComplete res bad none) s.m).jobHosts = m2.jobHosts :=
      Mod.jobHosts_congr (by rw [Mod.run_cell, hmean]; rfl)
    rw [hpaired, hhosts, Mod.run_perf, hmean]
    exact hendLent

theorem mainMemoryTestComplete_fail_yields {e : Option Nat} (hphase : s.m.bist.phase = .memory) (hs : s.Canonical)
    (hfails : memoryFails res bad = true) :
    s.Yields (.mainMemoryTestComplete t res bad e) fun m' => m'.bist = { s.m.bist with phase := .safe, fwVersion := 0 }
      ∧ m'.rd P.bistSafeCause = 6 ∧ m'.sys = s.m.sys := by
  have hmean := mainMemoryTestComplete_of_fail (m := s.m.at t) e hphase hfails
  have hreport := Mod.Within.memoryReport (s.m.at t) (res := res)
  generalize (s.m.at t).testReports [res] [5] = m1 at hmean hreport
  have hwf : Store.wf m1.regs = true := hreport.wf hs
  have hbist : m1.bist = s.m.bist := hreport.areas .bist (by decide)
  have hsys : m1.sys = s.m.sys := hreport.areas .sys (by decide)
  have hend : Store.wf (mainMemoryTestComplete res bad e (s.m.at t)).regs = true := by
    rw [hmean]
    exact Mod.enterSafe_wf hwf 6
  refine State.yields_run (f := mainMemoryTestComplete res bad e) rfl ⟨?bist, ?cause, ?sys⟩
  case bist => rw [Mod.run_bist, hmean, Mod.enterSafe_bist, hbist]
  case cause =>
    rw [Mod.run_rd t _ s.m hend (by decide), hmean, Mod.enterSafe_cause hwf]
    rfl
  case sys => rw [Mod.run_sys, hmean, Mod.enterSafe_sys, hsys]

end

/-! ### The start's checks settled -/

theorem cellTestComplete_towers {s : State} {t : Nat} {res : List TestRes} {badCells badTowers : List Nat}
    (hphase : s.m.bist.phase = .tests) (hran : ∀ r ∈ res, r.test = 6 → r.result ≠ 2) :
    s.Yields (.cellTestComplete t res badCells badTowers) fun m' => m'.bist.phase = .checks ∧ m'.cell.towers.length = 16
      ∧ (∀ k, k < 16 → ((m'.cell.towers.getD k {}).ok = true ↔ k ∉ badTowers ∧ (failedCells badCells k).length ≤ 4)
          ∧ (∀ c, c < 64 → ((m'.cell.towers.getD k {}).cells.testBit c = true ↔ 64 * k + c ∉ badCells)))
      ∧ Mod.Frame t unitAreas (testWords unitTests) s.m m' := by
  obtain ⟨m', hexec, ⟨hchecks, htowers⟩, hframe⟩ :=
    cellTestComplete_yields (t := t) (badCells := badCells) (badTowers := badTowers) hphase hran
  refine ⟨m', hexec, hchecks, ?_, fun k hk => ?_, hframe⟩
  · simp [htowers, testedTowers]
  · rw [htowers]
    exact ⟨testedTowers_ok hk, fun c hc => testedTowers_cells hk hc⟩

theorem cellTestComplete_untested_towers {s : State} {t : Nat} {res : List TestRes} {badCells badTowers : List Nat}
    (hphase : s.m.bist.phase = .tests) (hnot : ∃ r ∈ res, r.test = 6 ∧ r.result = 2) :
    s.Yields (.cellTestComplete t res badCells badTowers) fun m' => m'.bist.phase = .checks ∧ m'.towersOk = []
      ∧ ∀ k, k < 16 → ∀ c, c < 64 → (m'.cell.towers.getD k {}).cells.testBit c = false := by
  obtain ⟨m', hexec, hchecks, htowers⟩ :=
    cellTestComplete_untested_yields (t := t) (badCells := badCells) (badTowers := badTowers) hphase hnot
  refine ⟨m', hexec, hchecks, Mod.towersOk_untested htowers, fun k hk c hc => ?_⟩
  rw [← Bool.not_eq_true, htowers, testedTowers_cells hk hc, not_not]
  exact List.mem_range.2 (by omega)

/-- Settles O23: the four operations of the start, each by what its meaning is in the phase it ends. -/
theorem roadBookIsCheckedAtStart : Obligations.RoadBookIsCheckedAtStart := by
  unfold Obligations.RoadBookIsCheckedAtStart
  refine ⟨?cellTest, ?cellTestNotRun, ?checks, ?memory⟩
  case cellTest =>
    intro s t res badCells badTowers hphase hran
    exact cellTestComplete_towers hphase hran
  case cellTestNotRun =>
    intro s t res badCells badTowers hphase hnot
    exact cellTestComplete_untested_towers hphase hnot
  case checks =>
    intro s t e hphase
    constructor
    · intro rb hok
      obtain ⟨m', hexec, ⟨hbist, hsys⟩, hframe⟩ := roadbookChecksComplete_ok_yields hphase hok
      exact ⟨m', hexec, hbist, hsys, hframe⟩
    · intro code off herr hs
      obtain ⟨m', hexec, ⟨hbist, hjudged, hstatus, hoffset, hsys, hdome⟩, hframe⟩ :=
        roadbookChecksComplete_error_yields hphase herr hs
      exact ⟨m', hexec, hbist, hjudged, hstatus, hoffset, hsys, hdome, hframe⟩
  case memory =>
    intro s t res bad rb hphase _ hparsed
    constructor
    · intro hfew hran hchecks
      have hpasses : memoryFails res bad = false := by
        rw [← Bool.not_eq_true, memoryFails_iff]
        rintro (hnot | ⟨ch, hch, hmany⟩)
        · exact hran hnot
        · exact absurd (hfew ch hch) (Nat.not_le.2 hmany)
      exact mainMemoryTestComplete_pass_yields hphase hpasses hparsed hchecks
    · intro e hs hfails
      exact mainMemoryTestComplete_fail_yields hphase hs (memoryFails_iff.2 hfails)

end Sys2Proof.Machine
end

section
/-!
PROOFS. The statements of 03_camera_intake.md: pulses, frames, lines. A change of one port and of words of that port, and the rules of lost
lines; then what each command leaves of its port, case by case of its meaning.
-/
namespace Sys2Proof.Machine

/-! ### Ports (chapter 3) -/

theorem Mod.port_congr {a b : Mod} (h : b.cams = a.cams) (p : Nat) : b.port p = a.port p := by unfold Mod.port; rw [h]

@[simp] theorem Mod.port_at (m : Mod) (t p : Nat) : (m.at t).port p = m.port p := Mod.port_congr rfl p
@[simp] theorem Mod.port_raise (m : Mod) (src code : Nat) (d : List Byte) (p : Nat) : (m.raise src code d).port p = m.port p := Mod.port_congr rfl p
@[simp] theorem Mod.port_wr (m : Mod) (q : Param) (v i j p : Nat) : (m.wr q v i j).port p = m.port p := Mod.port_congr rfl p
@[simp] theorem Mod.port_inc (m : Mod) (q : Param) (i n j p : Nat) : (m.inc q i n j).port p = m.port p := Mod.port_congr rfl p
@[simp] theorem Mod.port_flag (m : Mod) (q : Param) (b i p : Nat) : (m.flag q b i).port p = m.port p := Mod.port_congr rfl p
@[simp] theorem Mod.port_run (t : Nat) (f : Mod → Mod) (m : Mod) (p : Nat) : (Mod.run t f m).port p = (f (m.at t)).port p :=
  Mod.port_congr (Mod.run_cams t f m) p

theorem Mod.rd_congr {a b : Mod} (h : b.regs = a.regs) (q : Param) (i j : Nat) : b.rd q i j = a.rd q i j := by
  unfold Mod.rd Mod.word
  rw [h]

@[simp] theorem Mod.rd_setPort (m : Mod) (p : Nat) (f : CamPort → CamPort) (q : Param) (i j : Nat) :
    (m.setPort p f).rd q i j = m.rd q i j := Mod.rd_congr rfl q i j

@[simp] theorem Mod.length_setPort (m : Mod) (p : Nat) (f : CamPort → CamPort) : (m.setPort p f).cams.length = m.cams.length :=
  List.length_modify _ _ _

theorem Mod.port_setPort_ne (m : Mod) {p q : Nat} (h : q ≠ p) (f : CamPort → CamPort) : (m.setPort p f).port q = m.port q := by
  simp [Mod.port, Mod.setPort, updAt, List.getD_eq_getElem?_getD, Ne.symm h]

@[simp] theorem Mod.port_setPort {m : Mod} {p : Nat} (h : p < m.cams.length) (f : CamPort → CamPort) :
    (m.setPort p f).port p = f (m.port p) := by
  simp [Mod.port, Mod.setPort, updAt, h]

/-- Of the ports a change touches one alone, and of the rest of the module the words listed. -/
structure Mod.AtPort (p : Nat) (ws : List Nat) (a b : Mod) : Prop where
  others : ∀ q, q ≠ p → b.port q = a.port q
  count : b.cams.length = a.cams.length
  within : Mod.Within [.cams] ws a b

section
variable {p : Nat} {ws : List Nat} {a b c : Mod}

theorem Mod.AtPort.of_cams (h : b.cams = a.cams) (k : Mod.Within [.cams] ws a b) : Mod.AtPort p ws a b :=
  ⟨fun q _ => Mod.port_congr h q, congrArg List.length h, k⟩

theorem Mod.AtPort.refl (m : Mod) : Mod.AtPort p ws m m := .of_cams rfl (.refl m)

theorem Mod.AtPort.trans (h : Mod.AtPort p ws a b) (k : Mod.AtPort p ws b c) : Mod.AtPort p ws a c :=
  ⟨fun q hq => (k.others q hq).trans (h.others q hq), k.count.trans h.count, h.within.trans k.within⟩

theorem Mod.AtPort.setPort (h : Mod.AtPort p ws a b) (f : CamPort → CamPort) : Mod.AtPort p ws a (b.setPort p f) :=
  h.trans ⟨fun _ hq => Mod.port_setPort_ne b hq f, Mod.length_setPort b p f, .ofCams b _ (by simp)⟩

theorem Mod.AtPort.port_setPort (h : Mod.AtPort p ws a b) (hp : p < a.cams.length) (f : CamPort → CamPort) :
    (b.setPort p f).port p = f (b.port p) := Mod.port_setPort (h.count.symm ▸ hp) f

theorem Mod.AtPort.raise (h : Mod.AtPort p ws a b) (src code : Nat) (d : List Byte) : Mod.AtPort p ws a (b.raise src code d) :=
  h.trans (.of_cams rfl (.raise _ _ _ _))

theorem Mod.AtPort.wr (h : Mod.AtPort p ws a b) (q : Param) (v i j : Nat) (hq : q.addr i j ∈ ws) : Mod.AtPort p ws a (b.wr q v i j) :=
  h.trans (.of_cams rfl (.wr _ _ _ _ _ hq))

theorem Mod.AtPort.inc (h : Mod.AtPort p ws a b) (q : Param) (i n j : Nat) (hq : q.addr i j ∈ ws) : Mod.AtPort p ws a (b.inc q i n j) :=
  h.wr q _ i j hq

theorem Mod.AtPort.flag (h : Mod.AtPort p ws a b) (q : Param) (v i : Nat) (hq : q.addr i ∈ ws) : Mod.AtPort p ws a (b.flag q v i) :=
  h.trans (.of_cams rfl (.flag _ _ _ _ hq))

theorem Mod.AtPort.rd_eq (h : Mod.AtPort p ws a b) (hwf : Store.wf a.regs = true) {q : Param} {i j : Nat} (hq : q.addr i j ∉ ws)
    (hl : q.addr i j ≠ P.loopFlags.addr) : b.rd q i j = a.rd q i j := h.within.rd_eq hwf hq hl

end

/-! ### The words of a port -/

/-- Two of the words that every port has are apart. -/
theorem camWord_ne (q r : Param) (hbase : q.base ≠ r.base) (hstep : q.s1 = r.s1) (p : Nat) : q.addr p ≠ r.addr p := by
  simpa [Param.addr, hstep] using hbase

theorem camWord_ne_loopFlags {q : Param} (hstep : q.s1 = 0x100000) (hbase : q.base % 0x100000 ≠ 8) (p : Nat) :
    q.addr p ≠ P.loopFlags.addr := by
  simp only [Param.addr, hstep, P.loopFlags]
  omega

/-- A count raised after the port has changed. -/
theorem Mod.rd_setPort_inc {m : Mod} (hwf : Store.wf m.regs = true) (p : Nat) (f : CamPort → CamPort) (q : Param) (i n : Nat) :
    ((m.setPort p f).inc q i n).rd q i = (m.rd q i + n) % 2 ^ q.w % 2 ^ 32 := by
  rw [Mod.rd_inc (m := m.setPort p f) hwf, Mod.rd_setPort]

theorem Mod.rd_setPort_inc_ne {m : Mod} (hwf : Store.wf m.regs = true) (p : Nat) (f : CamPort → CamPort) {q r : Param} {i : Nat}
    (hr : r.addr i ≠ q.addr i) (n : Nat) : ((m.setPort p f).inc q i n).rd r i = m.rd r i := by
  rw [Mod.rd_inc_ne (m := m.setPort p f) hwf hr, Mod.rd_setPort]

/-- The words in which lost lines are counted and shown (R71). -/
def lossWords (p : Nat) : List Nat := [P.camLinesLost.addr p, P.camFlags.addr p]

/-- Lines lost are counted after the port has changed, and flagged. -/
theorem Mod.rd_setPort_loss {m : Mod} (hwf : Store.wf m.regs = true) (p : Nat) (f : CamPort → CamPort) (n : Nat) :
    (((m.setPort p f).inc P.camLinesLost p n).flag P.camFlags 1 p).rd P.camLinesLost p
      = (m.rd P.camLinesLost p + n) % 2 ^ P.camLinesLost.w % 2 ^ 32 := by
  have hne : P.camLinesLost.addr p ≠ P.camFlags.addr p := camWord_ne P.camLinesLost P.camFlags (by decide) rfl p
  rw [Mod.rd_flag_ne (Mod.inc_wf (m := m.setPort p f) hwf _ _ _ _) hne, Mod.rd_setPort_inc hwf]

/-! ### Commands that change one port -/

/-- A command that changes one port answers with what its meaning leaves of the port and of the words, the other ports and the frame. -/
theorem Mod.AtPort.yields {s : State} {c : Instr} {t p : Nat} {ws : List Nat} {f : Mod → Mod} {Q : Mod → Prop}
    (h : Mod.AtPort p ws (s.m.at t) (f (s.m.at t))) (hexec : exec c s = s.run t f)
    (hQ : (∀ q, q ≠ p → (Mod.run t f s.m).port q = s.m.port q) → Mod.Frame t [.cams] ws s.m (Mod.run t f s.m) → Q (Mod.run t f s.m)) :
    s.Yields c Q :=
  ⟨_, hexec, hQ (fun q hq => (Mod.port_run t f s.m q).trans (h.others q hq)) h.within.frame⟩

/-! ### Lost lines (R71, R84) -/

theorem Mod.port_lostRows {m : Mod} {p : Nat} (hp : p < m.cams.length) (n : Nat) :
    (m.lostRows p n).port p = { (m.port p).acc (fun a => { a with lost := true }) with
      idx := (m.port p).idx + n, lines := (m.port p).lines ++ lostLines ((m.port p).frames - 1) (m.port p).idx (m.port p).seqNow m.now n } :=
  Mod.port_setPort hp _

theorem Mod.port_loseLines {m : Mod} {p n : Nat} (hn : n ≠ 0) :
    (m.loseLines p n).port p = (m.lostRows p n).port p := by
  simp [Mod.loseLines, hn]

theorem Mod.AtPort.lostRows {p : Nat} {ws : List Nat} {a b : Mod} (h : Mod.AtPort p ws a b) (n : Nat) : Mod.AtPort p ws a (b.lostRows p n) :=
  h.setPort _

theorem Mod.AtPort.loseLines {p : Nat} {ws : List Nat} {a b : Mod} (h : Mod.AtPort p ws a b) (n : Nat)
    (hw : lossWords p ⊆ ws) : Mod.AtPort p ws a (b.loseLines p n) := by
  unfold Mod.loseLines
  split
  · exact h
  · exact ((h.lostRows n).inc _ _ _ _ (hw (by simp [lossWords]))).flag _ _ _ (hw (by simp [lossWords]))

/-- A count that nothing is added to. -/
theorem Mod.rd_camLinesLost_add_zero (m : Mod) (p : Nat) :
    (m.rd P.camLinesLost p + 0) % 2 ^ P.camLinesLost.w % 2 ^ 32 = m.rd P.camLinesLost p := by
  have hlt : m.rd P.camLinesLost p < 2 ^ 32 := (m.word _).isLt
  rw [Nat.add_zero, show P.camLinesLost.w = 32 from rfl, Nat.mod_mod, Nat.mod_eq_of_lt hlt]

theorem Mod.rd_loseLines {m : Mod} (hwf : Store.wf m.regs = true) (p n : Nat) :
    (m.loseLines p n).rd P.camLinesLost p = (m.rd P.camLinesLost p + n) % 2 ^ P.camLinesLost.w % 2 ^ 32 := by
  unfold Mod.loseLines
  split
  · next hn => rw [hn, Mod.rd_camLinesLost_add_zero]
  · exact Mod.rd_setPort_loss hwf p _ n

/-- Lost lines of the frame before, while the frame in progress has none (R71). -/
def Mod.gapRows (m : Mod) (p n : Nat) : Mod :=
  m.setPort p (fun c =>
    { c with endIdx := c.endIdx + n, accs := c.accs.map (fun a => if a.num + 2 = c.frames then { a with lost := true } else a),
             lines := c.lines ++ lostLines (c.frames - 2) c.endIdx c.endSeq m.now n })

/-- Pulses without a line before a frame's first, or the port's loss, are one of three losses. -/
theorem Mod.loseGap_cases (m : Mod) (p n : Nat) :
    n = 0 ∧ m.loseGap p n = m
    ∨ n ≠ 0 ∧ ((m.port p).inFrame = true ∧ (m.port p).idx = 0 ∧ 1 < (m.port p).frames)
        ∧ m.loseGap p n = ((m.gapRows p n).inc P.camLinesLost p n).flag P.camFlags 1 p
    ∨ n ≠ 0 ∧ ¬ ((m.port p).inFrame = true ∧ (m.port p).idx = 0 ∧ 1 < (m.port p).frames) ∧ m.loseGap p n = m.loseLines p n := by
  unfold Mod.loseGap
  by_cases hn : n = 0
  · exact .inl ⟨hn, if_pos hn⟩
  · by_cases hbefore : (m.port p).inFrame = true ∧ (m.port p).idx = 0 ∧ 1 < (m.port p).frames
    · refine .inr (.inl ⟨hn, hbefore, ?_⟩)
      obtain ⟨hin, hidx, hframes⟩ := hbefore
      simp only [hn, hin, hidx, hframes, decide_true, Bool.and_self, if_false, if_true]
      rfl
    · refine .inr (.inr ⟨hn, hbefore, ?_⟩)
      simp [hn, hbefore, and_assoc]

theorem Mod.AtPort.loseGap {p : Nat} {ws : List Nat} (m : Mod) (n : Nat) (hw : lossWords p ⊆ ws) :
    Mod.AtPort p ws m (m.loseGap p n) := by
  rcases m.loseGap_cases p n with ⟨-, h⟩ | ⟨-, -, h⟩ | ⟨-, -, h⟩ <;> rw [h]
  · exact .refl m
  · exact (((Mod.AtPort.refl m).setPort _).inc _ _ _ _ (hw (by simp [lossWords]))).flag _ _ _ (hw (by simp [lossWords]))
  · exact (Mod.AtPort.refl m).loseLines n hw

theorem Mod.rd_loseGap {m : Mod} (hwf : Store.wf m.regs = true) (p n : Nat) :
    (m.loseGap p n).rd P.camLinesLost p = (m.rd P.camLinesLost p + n) % 2 ^ P.camLinesLost.w % 2 ^ 32 := by
  rcases m.loseGap_cases p n with ⟨hn, h⟩ | ⟨-, -, h⟩ | ⟨-, -, h⟩ <;> rw [h]
  · rw [hn, Mod.rd_camLinesLost_add_zero]
  · exact Mod.rd_setPort_loss hwf p _ n
  · exact Mod.rd_loseLines hwf p n

/-! ### Exposure (R67, R68) -/

/-- A change that leaves its port as it stands changes nothing. -/
theorem Mod.setPort_of_fixed {m : Mod} {p : Nat} {f : CamPort → CamPort} (hf : f (m.port p) = m.port p) : m.setPort p f = m := by
  have hcams : updAt m.cams p f = m.cams := by
    refine List.ext_getElem? fun i => ?_
    unfold updAt
    rw [List.getElem?_modify]
    split
    · next h =>
      subst h
      rcases hc : m.cams[p]? with _ | c
      · rfl
      · have hport : m.port p = c := by simp [Mod.port, List.getD_eq_getElem?_getD, hc]
        simpa [hport] using hf
    · simp
  unfold Mod.setPort
  rw [hcams]

/-- With no set latched, no values change at a pulse. -/
theorem Mod.expStep_of_none {m : Mod} {p : Nat} (h : (m.port p).expSets = []) : m.expStep p = m := by
  unfold Mod.expStep
  extract_lets c due late newer
  have hdue : due = [] := by unfold due c; rw [h]; rfl
  have hlate : late = [] := by unfold late c; rw [h]; rfl
  refine Mod.setPort_of_fixed ?_
  rw [hdue, hlate]
  change { m.port p with expSets := [] } = m.port p
  rw [← h]

theorem Mod.expVal_of_none {m : Mod} {p : Nat} (h : (m.port p).expOld = []) (q : Param) : m.expVal p q = m.rd q p := by
  unfold Mod.expVal
  rw [h]
  rfl

/-- The next pulse of a port whose settings are all in force (R67, R68, R99). -/
theorem Mod.pulseNow_eq {m : Mod} {p : Nat} {on : Bool} (hold : (m.port p).expOld = [])
    (hon : on = true ↔ m.rd P.camInterleave p = 1 ∨ (m.rd P.camInterleave p = 2 ∧ (m.port p).kNext % 2 = 0)) :
    m.pulseNow p = { k := (m.port p).kNext, e := m.pulseAt p (m.port p).kNext,
                     w := if on then m.rd P.camExpOn p else m.rd P.camExpOff p, on := on, pres := m.presents,
                     bgInv := if on then m.bgMask else 0 } := by
  have hphase : (decide (m.rd P.camInterleave p = 1) || (decide (m.rd P.camInterleave p = 2) && decide ((m.port p).kNext % 2 = 0))) = on := by
    rw [Bool.eq_iff_iff, hon]
    simp
  unfold Mod.pulseNow
  simp only [Mod.expVal_of_none hold, hphase]

/-- The port's next pulse has risen. -/
def CamPort.risen (c : CamPort) (q : Pulse) : CamPort := { c with kNext := q.k + 1, pulses := (q :: c.pulses).take 64 }

/-- The module with the port's next pulse risen. -/
def Mod.pulsed (m : Mod) (p : Nat) : Mod := m.setPort p (fun c => c.risen (m.pulseNow p))

theorem expPulse_of_due {m : Mod} {p : Nat} (hused : m.portUsed p = true) (hrun : m.running = true)
    (hdue : m.pulseAt p (m.port p).kNext ≤ m.now) (hsets : (m.port p).expSets = []) :
    expPulse p m = if (m.port p).lostClock && !(m.port p).inService
      then ((m.pulsed p).loseLines p 1).setPort p (fun c => { c with kLast := some (m.port p).kNext })
      else m.pulsed p := by
  unfold expPulse
  simp only [hused, hrun, Nat.not_lt.2 hdue, Mod.expStep_of_none hsets, Bool.not_true, decide_false, Bool.or_self, Bool.false_eq_true, if_false]
  rfl

theorem expPulse_of_served {m : Mod} {p : Nat} (hused : m.portUsed p = true) (hrun : m.running = true)
    (hdue : m.pulseAt p (m.port p).kNext ≤ m.now) (hsets : (m.port p).expSets = [])
    (hserved : (m.port p).lostClock = false ∨ (m.port p).inService = true) : expPulse p m = m.pulsed p := by
  have hcond : ¬ ((m.port p).lostClock && !(m.port p).inService) = true := by
    rcases hserved with h | h <;> simp [h]
  rw [expPulse_of_due hused hrun hdue hsets, if_neg hcond]

/-- The module in which the pulse of a port without its clock has risen (R84). -/
def Mod.pulseLost (m : Mod) (p : Nat) : Mod :=
  ((m.pulsed p).loseLines p 1).setPort p (fun c => { c with kLast := some (m.port p).kNext })

theorem expPulse_of_lost {m : Mod} {p : Nat} (hused : m.portUsed p = true) (hrun : m.running = true)
    (hdue : m.pulseAt p (m.port p).kNext ≤ m.now) (hsets : (m.port p).expSets = []) (hlost : (m.port p).lostClock = true)
    (hout : (m.port p).inService = false) : expPulse p m = m.pulseLost p := by
  rw [expPulse_of_due hused hrun hdue hsets, if_pos (by simp [hlost, hout])]
  rfl

theorem Mod.port_pulsed {m : Mod} {p : Nat} (hp : p < m.cams.length) : (m.pulsed p).port p = (m.port p).risen (m.pulseNow p) :=
  Mod.port_setPort hp _

theorem Mod.AtPort.pulsed {p : Nat} {ws : List Nat} (m : Mod) : Mod.AtPort p ws m (m.pulsed p) := (Mod.AtPort.refl m).setPort _

theorem Mod.AtPort.pulseLost (m : Mod) (p : Nat) :
    Mod.AtPort p (lossWords p) m (m.pulseLost p) :=
  ((Mod.AtPort.pulsed m).loseLines 1 (List.Subset.refl _)).setPort _

theorem Mod.port_pulseLost {m : Mod} {p : Nat} (hp : p < m.cams.length) :
    (m.pulseLost p).port p = { ((m.port p).risen (m.pulseNow p)).acc (fun a => { a with lost := true }) with
      idx := (m.port p).idx + 1, kLast := some (m.port p).kNext,
      lines := (m.port p).lines ++ lostLines ((m.port p).frames - 1) (m.port p).idx (m.port p).seqNow m.now 1 } := by
  have hpulsed : Mod.AtPort p (lossWords p) m (m.pulsed p) := .pulsed m
  unfold Mod.pulseLost
  rw [(hpulsed.loseLines 1 (List.Subset.refl _)).port_setPort hp, Mod.port_loseLines Nat.one_ne_zero,
    Mod.port_lostRows (hpulsed.count.symm ▸ hp), Mod.port_pulsed hp]
  rfl

theorem Mod.rd_pulseLost {m : Mod} (hwf : Store.wf m.regs = true) (p : Nat) :
    (m.pulseLost p).rd P.camLinesLost p = (m.rd P.camLinesLost p + 1) % 2 ^ P.camLinesLost.w % 2 ^ 32 := by
  have hpulsed : Store.wf (m.pulsed p).regs = true := hwf
  rw [Mod.pulseLost, Mod.rd_setPort, Mod.rd_loseLines hpulsed, Mod.pulsed, Mod.rd_setPort]

theorem expPulse_yields {s : State} {t p : Nat} {on : Bool} (hused : s.m.portUsed p = true) (hrun : s.m.running = true)
    (hp : p < s.m.cams.length)
    (hdue : s.m.bist.e0 + s.m.rd P.camExpPhase p + (s.m.port p).kNext * s.m.rd P.camLinePeriod p ≤ (s.m.at t).now)
    (hold : (s.m.port p).expOld = []) (hsets : (s.m.port p).expSets = [])
    (hon : on = true ↔ s.m.rd P.camInterleave p = 1 ∨ (s.m.rd P.camInterleave p = 2 ∧ (s.m.port p).kNext % 2 = 0)) :
    s.Yields (.expPulse t p) fun m' =>
      (m'.port p).kNext = (s.m.port p).kNext + 1
      ∧ (m'.port p).pulses.head? = some { k := (s.m.port p).kNext, e := s.m.pulseAt p (s.m.port p).kNext,
                                          w := if on then s.m.rd P.camExpOn p else s.m.rd P.camExpOff p, on := on,
                                          pres := s.m.presents, bgInv := if on then s.m.bgMask else 0 }
      ∧ ((s.m.port p).lostClock = false ∨ (s.m.port p).inService = true →
          (m'.port p).lines = (s.m.port p).lines ∧ m'.rd P.camLinesLost p = s.m.rd P.camLinesLost p)
      ∧ ((s.m.port p).lostClock = true → (s.m.port p).inService = false → s.Canonical →
          (∃ l : Line, (m'.port p).lines = (s.m.port p).lines ++ [l] ∧ l.lost = true ∧ l.idx = (s.m.port p).idx ∧ l.px = [])
          ∧ m'.rd P.camLinesLost p = (s.m.rd P.camLinesLost p + 1) % 2 ^ P.camLinesLost.w % 2 ^ 32)
      ∧ (∀ q, q ≠ p → m'.port q = s.m.port q)
      ∧ Mod.Frame t [.cams] (lossWords p) s.m m' := by
  have hpulse := Mod.pulseNow_eq (m := s.m.at t) hold hon
  have hword : P.camLinesLost.addr p ≠ P.loopFlags.addr := camWord_ne_loopFlags rfl (by decide) p
  by_cases hserved : (s.m.port p).lostClock = false ∨ (s.m.port p).inService = true
  · have hmean : expPulse p (s.m.at t) = (s.m.at t).pulsed p := expPulse_of_served (m := s.m.at t) hused hrun hdue hsets hserved
    have hport : (Mod.run t (expPulse p) s.m).port p = (s.m.port p).risen ((s.m.at t).pulseNow p) := by
      rw [Mod.port_run, hmean, Mod.port_pulsed (m := s.m.at t) hp, Mod.port_at]
    refine Mod.AtPort.yields (f := expPulse p) (hmean ▸ .pulsed _) rfl fun hothers hframe =>
      ⟨?_, ?_, fun _ => ⟨?_, ?_⟩, ?_, hothers, hframe⟩
    · rw [hport]; rfl
    · rw [hport, hpulse]; rfl
    · rw [hport]; rfl
    · rw [Mod.run_rd_other t _ s.m hword, hmean, Mod.pulsed, Mod.rd_setPort, Mod.rd_at]
    · intro hlost hout
      simp [hlost, hout] at hserved
  · obtain ⟨hlost, hout⟩ : (s.m.port p).lostClock = true ∧ (s.m.port p).inService = false := by simpa using hserved
    have hmean : expPulse p (s.m.at t) = (s.m.at t).pulseLost p := expPulse_of_lost (m := s.m.at t) hused hrun hdue hsets hlost hout
    have hport := (congrArg (Mod.port · p) hmean).trans (Mod.port_pulseLost (m := s.m.at t) hp)
    refine Mod.AtPort.yields (f := expPulse p) (hmean ▸ .pulseLost _ p) rfl fun hothers hframe =>
      ⟨?_, ?_, fun h => absurd h hserved, fun _ _ hs => ⟨?_, ?_⟩, hothers, hframe⟩
    · rw [Mod.port_run, hport]; rfl
    · rw [Mod.port_run, hport, hpulse]; rfl
    · rw [Mod.port_run, hport]
      exact ⟨_, rfl, rfl, rfl, rfl⟩
    · rw [Mod.run_rd_other t _ s.m hword, hmean, Mod.rd_pulseLost (m := s.m.at t) hs, Mod.rd_at]

/-! ### Frames (R66, R84) -/

/-- The port in service with its clock (R84), and the event of a clock that has come back. -/
def Mod.served (m : Mod) (p : Nat) : Mod :=
  if (m.port p).inService then m
  else
    let m1 := m.setPort p (fun c => { c with inService := true, clock := true, lostClock := false, outSince := none })
    if (m.port p).lostClock then m1.raise (16 + p) 0x0104 (leBytes 4 (m.port p).frames) else m1

/-- A port whose next frame has begun, with the set that awaited it (R66, R75). -/
def CamPort.begun (c : CamPort) : CamPort :=
  let seq := c.seqPend.getD c.seqNow
  { c with inFrame := true, frames := c.frames + 1, idx := 0, endIdx := c.idx, endSeq := c.seqNow, latched := false, seqNow := seq,
           seqPend := none, lines := c.lines.map (fun l => { l with col := l.col ++ c.colOld }),
           colOld := retire c.colSet (c.fresh.map (·.addr)) c.colOld, colSet := [],
           accs := c.accs ++ [{ num := c.frames, seq := seq, unconf := c.unconf ≠ [] }] }

theorem Mod.AtPort.served {p : Nat} {ws : List Nat} (m : Mod) : Mod.AtPort p ws m (m.served p) := by
  unfold Mod.served
  split
  · exact .refl m
  · dsimp only
    split
    · exact ((Mod.AtPort.refl m).setPort _).raise _ _ _
    · exact (Mod.AtPort.refl m).setPort _

theorem Mod.port_served {m : Mod} {p : Nat} (hp : p < m.cams.length) : ∃ clk lost out, (m.served p).port p
    = { m.port p with inService := true, clock := clk, lostClock := lost, outSince := out } := by
  unfold Mod.served
  split
  · next h => exact ⟨(m.port p).clock, (m.port p).lostClock, (m.port p).outSince, by rw [← h]⟩
  · dsimp only
    split
    · rw [Mod.port_raise, Mod.port_setPort hp]
      exact ⟨_, _, _, rfl⟩
    · rw [Mod.port_setPort hp]
      exact ⟨_, _, _, rfl⟩

theorem frameBegin_of_clock {m : Mod} {p : Nat} {clk : Bool} (hused : m.portUsed p = true) (hrun : m.running = true)
    (hp : p < m.cams.length) (hidle : (m.port p).inFrame = false) (hclock : (m.port p).inService = true ∨ clk = true) :
    m.frameBegin p clk = (m.served p).setPort p CamPort.begun := by
  have hserved : ((m.served p).port p).inService = true := by
    obtain ⟨_, _, _, hport⟩ := Mod.port_served hp
    rw [hport]
  have hm1 : (if (m.port p).inService then m
      else if clk then
        let m2 := m.setPort p (fun c => { c with inService := true, clock := true, lostClock := false, outSince := none })
        if (m.port p).lostClock then m2.raise (16 + p) 0x0104 (leBytes 4 (m.port p).frames) else m2
      else m) = m.served p := by
    unfold Mod.served
    rcases hclock with h | h <;> simp only [h, if_true]
  unfold Mod.frameBegin
  simp only [hused, hrun, hidle, Bool.not_true, Bool.or_self, Bool.false_eq_true, if_false]
  rw [hm1]
  simp only [hserved, Bool.not_true, Bool.false_eq_true, if_false]
  rfl

theorem Mod.AtPort.frameBegun {p : Nat} {ws : List Nat} (m : Mod) : Mod.AtPort p ws m ((m.served p).setPort p CamPort.begun) :=
  (Mod.AtPort.served m).setPort _

theorem Mod.port_frameBegun {m : Mod} {p : Nat} (hp : p < m.cams.length) :
    ((m.served p).setPort p CamPort.begun).port p = ((m.served p).port p).begun :=
  Mod.port_setPort ((Mod.AtPort.served (ws := []) m).count.symm ▸ hp) _

theorem frameStart_of_trusted {m : Mod} {p : Nat} {clk : Bool} (hsus : (m.frameBegin p clk).suspect p ≠ 2) :
    frameStart p clk m = m.frameBegin p clk := by
  simp [frameStart, hsus]

theorem frameStart_of_absent {m : Mod} {p : Nat} {clk : Bool} (hserved : ((m.frameBegin p clk).port p).inService = true)
    (hsus : (m.frameBegin p clk).suspect p = 2) : frameStart p clk m = ((m.frameBegin p clk).clearSuspect p).evaluateSet := by
  simp [frameStart, hsus, hserved]

section
variable {s : State} {t p : Nat} {clk : Bool}

theorem frameStart_yields (hused : s.m.portUsed p = true) (hrun : s.m.running = true) (hp : p < s.m.cams.length)
    (hidle : (s.m.port p).inFrame = false) (hclock : (s.m.port p).inService = true ∨ clk = true) (hsus : s.m.suspect p ≠ 2) :
    s.Yields (.frameStart t p clk) fun m' =>
      (m'.port p).inService = true ∧ (m'.port p).inFrame = true ∧ (m'.port p).frames = (s.m.port p).frames + 1 ∧ (m'.port p).idx = 0
      ∧ (m'.port p).seqNow = (s.m.port p).seqPend.getD (s.m.port p).seqNow ∧ (m'.port p).seqPend = none ∧ (m'.port p).latched = false
      ∧ (∀ q, q ≠ p → m'.port q = s.m.port q) ∧ Mod.Frame t [.cams] [] s.m m' := by
  have hbegin := frameBegin_of_clock (m := s.m.at t) hused hrun hp hidle hclock
  have hkept := Mod.AtPort.frameBegun (p := p) (ws := []) (s.m.at t)
  have hmean : frameStart p clk (s.m.at t) = ((s.m.at t).served p).setPort p CamPort.begun := by
    rw [← hbegin] at hkept ⊢
    exact frameStart_of_trusted (by rwa [Mod.suspect_congr (congrArg FusSt.suspect (hkept.within.areas .fus (by decide)))])
  have hport : (Mod.run t (frameStart p clk) s.m).port p = (((s.m.at t).served p).port p).begun := by
    rw [Mod.port_run, hmean, Mod.port_frameBegun (m := s.m.at t) hp]
  obtain ⟨_, _, _, hserved⟩ := Mod.port_served (m := s.m.at t) hp
  refine Mod.AtPort.yields (f := frameStart p clk) (hmean ▸ hkept) rfl fun hothers hframe => ?_
  rw [hport, hserved]
  exact ⟨rfl, rfl, rfl, rfl, rfl, rfl, rfl, hothers, hframe⟩

theorem frameStart_absent_yields (hused : s.m.portUsed p = true) (hrun : s.m.running = true) (hp : p < s.m.cams.length)
    (hidle : (s.m.port p).inFrame = false) (hclock : (s.m.port p).inService = true ∨ clk = true) (hsus : s.m.suspect p = 2) :
    s.Yields (.frameStart t p clk) fun m' =>
      (m'.port p).inFrame = true ∧ m'.suspect p = 0 ∧ (∀ q, q ≠ p → m'.port q = s.m.port q)
      ∧ Mod.Frame t [.cams, .fus] [P.sysSuspect.addr, P.fusFlags.addr] s.m m' := by
  have hbegin := frameBegin_of_clock (m := s.m.at t) hused hrun hp hidle hclock
  have hkept := Mod.AtPort.frameBegun (p := p) (ws := []) (s.m.at t)
  have hport := Mod.port_frameBegun (m := s.m.at t) hp
  obtain ⟨_, _, _, hserved⟩ := Mod.port_served (m := s.m.at t) hp
  generalize ((s.m.at t).served p).setPort p CamPort.begun = b at hbegin hkept hport
  have hmean : frameStart p clk (s.m.at t) = (b.clearSuspect p).evaluateSet := by
    rw [← hbegin] at hkept hport ⊢
    refine frameStart_of_absent ?_ ?_
    · rw [hport, hserved]; rfl
    · rwa [Mod.suspect_congr (congrArg FusSt.suspect (hkept.within.areas .fus (by decide)))]
  have hset : Mod.Within [.fus] sensorSetWords b (b.clearSuspect p).evaluateSet :=
    (Mod.Within.clearSuspect b p (by simp)).trans (.evaluateSet _ (by simp) (List.Subset.refl _))
  have hcams : ∀ q, (Mod.run t (frameStart p clk) s.m).port q = b.port q := fun q => by
    rw [Mod.port_run, hmean]
    exact Mod.port_congr (hset.areas .cams (by decide)) q
  have hwithin : Mod.Within [.cams, .fus] sensorSetWords (s.m.at t) (frameStart p clk (s.m.at t)) := by
    rw [hmean]
    exact (hkept.within.mono (by simp) (List.nil_subset _)).trans (hset.mono (by simp) (List.Subset.refl _))
  refine ⟨_, rfl, ?_, ?_, fun q hq => (hcams q).trans (hkept.others q hq), hwithin.frame⟩
  · rw [hcams, hport]; rfl
  · rw [Mod.run_evaluated_suspect (f := frameStart p clk) hmean, Mod.suspect_clearSuspect, if_pos rfl]

end

/-! ### The end of a frame (R66, R74) -/

theorem eraseDups_eq_nil {l : List Nat} : l.eraseDups = [] ↔ l = [] := by
  cases l with
  | nil => simp
  | cons a l => simp [List.eraseDups_cons]

theorem Mod.AtPort.tplSend {p : Nat} {ws : List Nat} {a b : Mod} (h : Mod.AtPort p ws a b) (at_ : Nat) (ts : List Nat) :
    Mod.AtPort p ws a (b.tplSend p at_ ts) := h.setPort _

theorem Mod.AtPort.latch {p : Nat} {ws : List Nat} (m : Mod) (k s : Nat) : Mod.AtPort p ws m (m.latch p k s) := by
  unfold Mod.latch
  extract_lets c taken set vals csets due m1
  have h1 : Mod.AtPort p ws m m1 := (Mod.AtPort.refl m).setPort _
  split
  · exact h1
  · exact h1.tplSend s due

/-- The changes committed before a latch point are taken by it, and the set that they form awaits the next frame (R74, R75). -/
theorem Mod.port_latch {m : Mod} {p : Nat} (hp : p < m.cams.length) (k s : Nat) :
    ((m.latch p k s).port p).latched = true
    ∧ ((m.latch p k s).port p).fresh = (m.port p).fresh.filter (fun x => s ≤ x.at_)
    ∧ ((m.latch p k s).port p).seqPend = (if (m.port p).fresh.any (fun x => x.at_ < s) = true
        then some (((m.port p).seqPend.getD (m.port p).seqNow + 1) % 65536) else (m.port p).seqPend) := by
  unfold Mod.latch
  extract_lets c taken set vals csets due m1
  have hset : set ↔ (m.port p).fresh.any (fun x => x.at_ < s) = true := by
    simp [set, taken, eraseDups_eq_nil, c]
  have h1 : (m1.port p).latched = true ∧ (m1.port p).fresh = (m.port p).fresh.filter (fun x => s ≤ x.at_)
      ∧ (m1.port p).seqPend = (if (m.port p).fresh.any (fun x => x.at_ < s) = true
          then some (((m.port p).seqPend.getD (m.port p).seqNow + 1) % 65536) else (m.port p).seqPend) := by
    unfold m1
    rw [Mod.port_setPort hp]
    by_cases h : set
    · rw [if_pos h, if_pos (hset.1 h)]
      exact ⟨rfl, rfl, rfl⟩
    · rw [if_neg h, if_neg (mt hset.2 h)]
      have hall : ∀ x ∈ (m.port p).fresh, s ≤ x.at_ := by simpa [hset] using h
      exact ⟨rfl, (List.filter_eq_self.2 (by simpa using hall)).symm, rfl⟩
  have hlen : p < m1.cams.length := (Mod.length_setPort m p _).symm ▸ hp
  split
  · exact h1
  · unfold Mod.tplSend
    rw [Mod.port_setPort hlen]
    exact h1

/-- The port's frame in progress has ended. -/
def CamPort.frameOver (c : CamPort) : CamPort := { (c.acc (fun a => { a with ended := true })) with inFrame := false }

/-- The frame in progress is SHORT: its end is its latch point (R66, R74). -/
def Mod.cutShort (m : Mod) (p : Nat) : Mod :=
  (((m.latch p ((m.port p).kLast.getD ((m.port p).kNext - 1)) m.now).flag P.camFlags 4 p).setPort p
    (fun c => c.acc (fun a => { a with short := true }))).raise (16 + p) 0x0105
      (leBytes 4 (m.port p).accNow.num ++ leBytes 4 (m.port p).accNow.rx)

theorem frameEnd_of_latched {m : Mod} {p : Nat} (hin : (m.port p).inFrame = true) (hlatched : (m.port p).latched = true)
    (hlines : (m.port p).idx ≤ m.rd P.camFrameLines p) : frameEnd p m = m.setPort p CamPort.frameOver := by
  unfold frameEnd
  simp only [hin, hlatched, Nat.not_lt.2 hlines, Bool.not_true, Bool.false_eq_true, if_true, if_false]
  rfl

theorem frameEnd_of_unlatched {m : Mod} {p : Nat} (hin : (m.port p).inFrame = true) (hlatched : (m.port p).latched = false)
    (hlines : (m.port p).idx ≤ m.rd P.camFrameLines p) : frameEnd p m = (m.cutShort p).setPort p CamPort.frameOver := by
  unfold frameEnd
  simp only [hin, hlatched, Nat.not_lt.2 hlines, Bool.not_true, Bool.false_eq_true, if_false]
  rfl

theorem Mod.AtPort.cutShort (m : Mod) (p : Nat) : Mod.AtPort p [P.camFlags.addr p] m (m.cutShort p) :=
  (((Mod.AtPort.latch m _ _).flag _ _ _ (by simp)).setPort _).raise _ _ _

theorem testBit_flagged (x b i : Nat) (hb : b.testBit i = true) (hi : i < 6) : ((x ||| b) % 2 ^ 6 % 2 ^ 32).testBit i = true := by
  simp only [Nat.testBit_mod_two_pow, Nat.testBit_or, hb, Bool.or_true, Bool.and_true, Bool.and_eq_true, decide_eq_true_eq]
  omega

/-- The bits of CAM_FLAGS that a flag names stand after it (R11). -/
theorem Mod.testBit_camFlags {m : Mod} (hwf : Store.wf m.regs = true) {b i : Nat} (hb : b.testBit i = true) (hi : i < 6) (p : Nat) :
    ((m.flag P.camFlags b p).rd P.camFlags p).testBit i = true := by
  rw [Mod.rd_flag hwf]
  exact testBit_flagged _ b i hb hi

theorem Mod.rd_cutShort {m : Mod} (hwf : Store.wf m.regs = true) (p : Nat) : ((m.cutShort p).rd P.camFlags p).testBit 2 = true := by
  rw [Mod.cutShort, Mod.rd_raise, Mod.rd_setPort]
  exact Mod.testBit_camFlags ((Mod.AtPort.latch (p := p) (ws := []) m _ _).within.wf hwf) (by decide) (by decide) p

/-- A SHORT frame's end is its latch point (R74). -/
theorem Mod.port_cutShort {m : Mod} {p : Nat} (hp : p < m.cams.length) :
    ((m.cutShort p).port p).latched = true
    ∧ ((m.cutShort p).port p).fresh = (m.port p).fresh.filter (fun x => m.now ≤ x.at_)
    ∧ ((m.cutShort p).port p).seqPend = (if (m.port p).fresh.any (fun x => x.at_ < m.now) = true
        then some (((m.port p).seqPend.getD (m.port p).seqNow + 1) % 65536) else (m.port p).seqPend) := by
  have hflag := (Mod.AtPort.latch (p := p) (ws := [P.camFlags.addr p]) m ((m.port p).kLast.getD ((m.port p).kNext - 1)) m.now).flag
    P.camFlags 4 p (by simp)
  unfold Mod.cutShort
  rw [Mod.port_raise, hflag.port_setPort hp, Mod.port_flag]
  exact Mod.port_latch hp _ _

section
variable {s : State} {t p : Nat}

theorem frameEnd_yields (hp : p < s.m.cams.length) (hin : (s.m.port p).inFrame = true) (hlatched : (s.m.port p).latched = true)
    (hlines : (s.m.port p).idx ≤ s.m.rd P.camFrameLines p) :
    s.Yields (.frameEnd t p) fun m' => m'.port p = (s.m.port p).frameOver
      ∧ (∀ r, r ≠ p → m'.port r = s.m.port r) ∧ Mod.Frame t [.cams] [] s.m m' := by
  have hmean : frameEnd p (s.m.at t) = (s.m.at t).setPort p CamPort.frameOver := frameEnd_of_latched (m := s.m.at t) hin hlatched hlines
  refine Mod.AtPort.yields (f := frameEnd p) (hmean ▸ (Mod.AtPort.refl _).setPort _) rfl fun hothers hframe => ⟨?_, hothers, hframe⟩
  rw [Mod.port_run, hmean, Mod.port_setPort (m := s.m.at t) hp, Mod.port_at]

theorem frameEnd_short_yields (hs : s.Canonical) (hp : p < s.m.cams.length) (hin : (s.m.port p).inFrame = true)
    (hlatched : (s.m.port p).latched = false) (hlines : (s.m.port p).idx ≤ s.m.rd P.camFrameLines p) :
    s.Yields (.frameEnd t p) fun m' => (m'.port p).inFrame = false ∧ (m'.port p).latched = true
      ∧ (m'.port p).fresh = (s.m.port p).fresh.filter (fun x => (s.m.at t).now ≤ x.at_)
      ∧ (m'.port p).seqPend = (if (s.m.port p).fresh.any (fun x => x.at_ < (s.m.at t).now) = true
          then some (((s.m.port p).seqPend.getD (s.m.port p).seqNow + 1) % 65536) else (s.m.port p).seqPend)
      ∧ (m'.rd P.camFlags p).testBit 2 = true ∧ (∀ r, r ≠ p → m'.port r = s.m.port r)
      ∧ Mod.Frame t [.cams] [P.camFlags.addr p] s.m m' := by
  have hmean : frameEnd p (s.m.at t) = ((s.m.at t).cutShort p).setPort p CamPort.frameOver :=
    frameEnd_of_unlatched (m := s.m.at t) hin hlatched hlines
  have hshort := Mod.AtPort.cutShort (s.m.at t) p
  have hport : (Mod.run t (frameEnd p) s.m).port p = (((s.m.at t).cutShort p).port p).frameOver := by
    rw [Mod.port_run, hmean, hshort.port_setPort hp]
  obtain ⟨hdone, hfresh, hpend⟩ := Mod.port_cutShort (m := s.m.at t) hp
  rw [Mod.port_at] at hfresh hpend
  refine Mod.AtPort.yields (f := frameEnd p) (hmean ▸ hshort.setPort _) rfl fun hothers hframe => ?_
  rw [hport]
  refine ⟨rfl, hdone, hfresh, hpend, ?_, hothers, hframe⟩
  rw [Mod.run_rd_other t _ s.m (camWord_ne_loopFlags rfl (by decide) p), hmean, Mod.rd_setPort]
  exact Mod.rd_cutShort (m := s.m.at t) hs p

end

/-! ### A line's pulse (R71) -/

/-- Pulses between the port's last line and one on pulse `q`. -/
def CamPort.gapTo (c : CamPort) (q : Pulse) : Nat :=
  match c.kLast with
  | some k => if k < q.k then q.k - k - 1 else 0
  | none => 0

/-- A line on pulse `q` is a second one. -/
def CamPort.twinOn (c : CamPort) (q : Pulse) : Bool :=
  match c.kLast with
  | some k => q.k ≤ k
  | none => false

theorem CamPort.gapTo_eq_zero {c : CamPort} {q : Pulse} (h : ∀ k, c.kLast = some k → q.k ≤ k + 1) : c.gapTo q = 0 := by
  unfold CamPort.gapTo
  split
  · next k hk =>
    have := h k hk
    split <;> omega
  · rfl

theorem CamPort.gapTo_eq {c : CamPort} {q : Pulse} {k : Nat} (hk : c.kLast = some k) (h : k + 1 < q.k) : c.gapTo q = q.k - k - 1 := by
  unfold CamPort.gapTo
  rw [hk]
  exact if_pos (by omega)

theorem CamPort.twinOn_iff {c : CamPort} {q : Pulse} : c.twinOn q = true ↔ ∃ k, c.kLast = some k ∧ q.k ≤ k := by
  unfold CamPort.twinOn
  split <;> simp_all

/-- The module in which the pulses before a line's own are accounted for, and its own is the port's last (R71). -/
def Mod.pulseTaken (m : Mod) (p : Nat) (q : Pulse) : Mod :=
  if (m.port p).twinOn q then m.loseGap p ((m.port p).gapTo q)
  else (m.loseGap p ((m.port p).gapTo q)).setPort p (fun c => { c with kLast := some q.k })

/-- What then becomes of the line itself (R65, R70, R71). -/
def Mod.lineTaken (m : Mod) (p s : Nat) (q : Pulse) (samples : List Nat) (ovr : Bool) : Mod :=
  let b := m.pulseTaken p q
  if ovr then (b.loseLines p 1).raise (16 + p) 0x0102 (leBytes 4 ((m.port p).frames - 1) ++ leBytes 4 (b.port p).idx)
  else if samples.length ≠ m.rd P.camLineSamples p * m.camC p then b.badLine p
  else if (m.port p).twinOn q then b.loseLines p 1
  else b.goodLine p s q samples

/-- A line of a frame in progress, no more than a quarter of a period from its pulse and past the frame's latch point. -/
theorem cameraLine_of_near {m : Mod} {p stamp : Nat} {samples : List Nat} {ovr : Bool} {q : Pulse} {d : Int}
    (hused : m.portUsed p = true) (hin : (m.port p).inFrame = true) (hserved : (m.port p).inService = true)
    (hnear : m.nearest p (m.extend stamp) = some (q, d)) (hclose : 4 * d.natAbs ≤ m.rd P.camLinePeriod p)
    (hlatched : ((m.lineTaken p (m.extend stamp) q samples ovr).port p).latched = true) :
    cameraLine p stamp samples ovr m = m.lineTaken p (m.extend stamp) q samples ovr := by
  unfold cameraLine
  simp only [hused, hin, hserved, hnear, Nat.not_lt.2 hclose, Bool.not_true, Bool.or_self, Bool.false_eq_true, if_false]
  change (if !((m.lineTaken p (m.extend stamp) q samples ovr).port p).latched && _ then _
    else m.lineTaken p (m.extend stamp) q samples ovr) = _
  rw [hlatched]
  rfl

/-- Nothing is lost before a line on the pulse after the last, on an earlier one, or on the first. -/
theorem Mod.pulseTaken_of_next {m : Mod} {p : Nat} {q : Pulse} (h : ∀ k, (m.port p).kLast = some k → q.k ≤ k + 1) :
    m.pulseTaken p q = m.setPort p (fun c => { c with kLast := if (m.port p).twinOn q then (m.port p).kLast else some q.k }) := by
  have hgap : m.loseGap p ((m.port p).gapTo q) = m := by simp [Mod.loseGap, CamPort.gapTo_eq_zero h]
  unfold Mod.pulseTaken
  rw [hgap]
  split
  · rw [Mod.setPort_of_fixed]
    simp
  · simp

theorem Mod.AtPort.evented {p : Nat} {ws : List Nat} {a b c : Mod} (h : Mod.AtPort p ws a b) (k : Evented b c) : Mod.AtPort p ws a c :=
  h.trans (.of_cams k.cams (.of_evented k))

section
variable {m : Mod} {p s : Nat} {q : Pulse} {samples : List Nat} {ovr : Bool}

/-! ### A line that is discarded (R65, R71) -/

theorem Mod.lineTaken_of_lost (h : ovr = true
      ∨ (∃ k, (m.port p).kLast = some k ∧ q.k ≤ k) ∧ samples.length = m.rd P.camLineSamples p * m.camC p) :
    Evented ((m.pulseTaken p q).loseLines p 1) (m.lineTaken p s q samples ovr) := by
  unfold Mod.lineTaken
  extract_lets b
  split
  · exact .raise _ _ _ _
  · next hovr =>
    obtain ⟨htwin, hlen⟩ := h.resolve_left hovr
    rw [if_neg (not_not.2 hlen), if_pos (CamPort.twinOn_iff.2 htwin)]
    exact .refl _

theorem Mod.lineTaken_of_bad (hlen : samples.length ≠ m.rd P.camLineSamples p * m.camC p) :
    m.lineTaken p s q samples false = (m.pulseTaken p q).badLine p := by
  unfold Mod.lineTaken
  simp [hlen]

theorem Mod.lineTaken_of_good (hlen : samples.length = m.rd P.camLineSamples p * m.camC p)
    (hnew : ∀ k, (m.port p).kLast = some k → k < q.k) :
    m.lineTaken p s q samples false = (m.pulseTaken p q).goodLine p s q samples := by
  have htwin : (m.port p).twinOn q = false := by
    rw [← Bool.not_eq_true, CamPort.twinOn_iff]
    rintro ⟨k, hk, hle⟩
    exact absurd (hnew k hk) (Nat.not_lt.2 hle)
  unfold Mod.lineTaken
  simp [hlen, htwin]

/-- A discarded line leaves a lost line in its place. -/
theorem Mod.port_pulseTaken_lostRows (hp : p < m.cams.length) (h : ∀ k, (m.port p).kLast = some k → q.k ≤ k + 1) :
    (((m.pulseTaken p q).lostRows p 1).port p).lines
        = (m.port p).lines ++ lostLines ((m.port p).frames - 1) (m.port p).idx (m.port p).seqNow m.now 1
    ∧ (((m.pulseTaken p q).lostRows p 1).port p).idx = (m.port p).idx + 1
    ∧ (((m.pulseTaken p q).lostRows p 1).port p).latched = (m.port p).latched := by
  rw [Mod.pulseTaken_of_next h, Mod.port_lostRows ((Mod.length_setPort m p _).symm ▸ hp), Mod.port_setPort hp]
  exact ⟨rfl, rfl, rfl⟩

theorem Mod.AtPort.pulseTaken_of_next {ws : List Nat} (h : ∀ k, (m.port p).kLast = some k → q.k ≤ k + 1) :
    Mod.AtPort p ws m (m.pulseTaken p q) := by
  rw [Mod.pulseTaken_of_next h]
  exact (Mod.AtPort.refl m).setPort _

theorem Mod.rd_pulseTaken_of_next (h : ∀ k, (m.port p).kLast = some k → q.k ≤ k + 1) (r : Param) (i j : Nat) :
    (m.pulseTaken p q).rd r i j = m.rd r i j := by
  rw [Mod.pulseTaken_of_next h, Mod.rd_setPort]

/-! ### Pulses before a frame's first line (R71) -/

/-- Pulses without a line before a frame's first leave lost lines behind the frame before. -/
theorem Mod.port_pulseTaken_gap {k : Nat} (hp : p < m.cams.length) (hin : (m.port p).inFrame = true) (hfirst : (m.port p).idx = 0)
    (hframes : 1 < (m.port p).frames) (hlast : (m.port p).kLast = some k) (hgap : k + 1 < q.k) :
    ∃ c : CamPort, (m.pulseTaken p q).port p = c ∧ c.idx = 0 ∧ c.frames = (m.port p).frames ∧ c.kLast = some q.k
      ∧ c.latched = (m.port p).latched
      ∧ c.lines = (m.port p).lines ++ lostLines ((m.port p).frames - 2) (m.port p).endIdx (m.port p).endSeq m.now (q.k - k - 1) := by
  have htwin : ¬ (m.port p).twinOn q = true := by
    rw [CamPort.twinOn_iff]
    rintro ⟨j, hj, hle⟩
    obtain rfl : k = j := Option.some.inj (hlast.symm.trans hj)
    omega
  have hgapped : (m.loseGap p (q.k - k - 1)).port p = (m.gapRows p (q.k - k - 1)).port p := by
    rcases m.loseGap_cases p (q.k - k - 1) with ⟨hn, -⟩ | ⟨-, -, h⟩ | ⟨-, hnot, -⟩
    · omega
    · rw [h, Mod.port_flag, Mod.port_inc]
    · exact absurd ⟨hin, hfirst, hframes⟩ hnot
  have hkept := Mod.AtPort.loseGap (p := p) m (q.k - k - 1) (List.Subset.refl _)
  refine ⟨_, rfl, ?_⟩
  unfold Mod.pulseTaken
  rw [if_neg htwin, CamPort.gapTo_eq hlast hgap, hkept.port_setPort hp, hgapped, Mod.gapRows, Mod.port_setPort hp]
  exact ⟨hfirst, rfl, rfl, rfl, rfl⟩

theorem Mod.AtPort.pulseTaken {ws : List Nat} (m : Mod) (p : Nat) (q : Pulse) (hw : lossWords p ⊆ ws) :
    Mod.AtPort p ws m (m.pulseTaken p q) := by
  unfold Mod.pulseTaken
  split
  · exact .loseGap m _ hw
  · exact (Mod.AtPort.loseGap m _ hw).setPort _

theorem Mod.rd_pulseTaken (hwf : Store.wf m.regs = true) :
    (m.pulseTaken p q).rd P.camLinesLost p
      = (m.rd P.camLinesLost p + (m.port p).gapTo q) % 2 ^ P.camLinesLost.w % 2 ^ 32 := by
  unfold Mod.pulseTaken
  split
  · exact Mod.rd_loseGap hwf p _
  · rw [Mod.rd_setPort, Mod.rd_loseGap hwf]

/-! ### A line that is taken whole (R62, R70) -/

/-- The line that stands for one received whole. -/
def Mod.lineOf (m : Mod) (p s : Nat) (q : Pulse) (samples : List Nat) : Line :=
  { frame := (m.port p).frames - 1, idx := (m.port p).idx, seq := (m.port p).seqNow, on := q.on, w := q.w,
    t := ((s : Int) - m.colCal p [] P.camLatNow).toNat - q.w / 2, arr := m.now, lost := false, pres := q.pres, bgInv := q.bgInv,
    px := m.unpackLine p samples, col := (m.port p).colOld }

theorem Mod.port_goodLine (hp : p < m.cams.length) : ((m.goodLine p s q samples).port p).lines = (m.port p).lines ++ [m.lineOf p s q samples]
    ∧ ((m.goodLine p s q samples).port p).idx = (m.port p).idx + 1 ∧ ((m.goodLine p s q samples).port p).kLast = (m.port p).kLast
    ∧ ((m.goodLine p s q samples).port p).latched = (m.port p).latched := by
  unfold Mod.goodLine
  extract_lets c t l
  rw [Mod.port_inc, Mod.port_setPort hp]
  exact ⟨rfl, rfl, rfl, rfl⟩

theorem Mod.AtPort.goodLine {ws : List Nat} {a b : Mod} (h : Mod.AtPort p ws a b) (hw : P.camLines.addr p ∈ ws) :
    Mod.AtPort p ws a (b.goodLine p s q samples) := by
  unfold Mod.goodLine
  exact (h.setPort _).inc _ _ _ _ hw

theorem Mod.rd_goodLine (hwf : Store.wf m.regs = true) :
    (m.goodLine p s q samples).rd P.camLines p = (m.rd P.camLines p + 1) % 2 ^ P.camLines.w % 2 ^ 32 := by
  unfold Mod.goodLine
  exact Mod.rd_setPort_inc hwf p _ _ _ _

theorem Mod.rd_goodLine_ne (hwf : Store.wf m.regs = true) {r : Param} (hr : r.addr p ≠ P.camLines.addr p) :
    (m.goodLine p s q samples).rd r p = m.rd r p := by
  unfold Mod.goodLine
  exact Mod.rd_setPort_inc_ne hwf p _ hr _

end

/-- The pulse noted as the port's last is no part of its line. -/
theorem Mod.lineOf_setPort_kLast {m : Mod} {p : Nat} (hp : p < m.cams.length) (k : Option Nat) (s : Nat) (q : Pulse) (samples : List Nat) :
    (m.setPort p (fun c => { c with kLast := k })).lineOf p s q samples = m.lineOf p s q samples := by
  have hpx : (m.setPort p (fun c => { c with kLast := k })).unpackLine p samples = m.unpackLine p samples := by
    simp only [Mod.unpackLine, Mod.camC, Mod.camBits, Mod.rd_setPort]
  simp only [Mod.lineOf, Mod.colCal, hpx, Mod.port_setPort hp]
  rfl

/-- A line comes on pulse `q` of a frame in progress past its latch point, no more than a quarter of a period from it (R71). -/
structure State.TakesLine (s : State) (t p stamp : Nat) (q : Pulse) : Prop where
  used : s.m.portUsed p = true
  count : p < s.m.cams.length
  inFrame : (s.m.port p).inFrame = true
  inService : (s.m.port p).inService = true
  latched : (s.m.port p).latched = true
  near : ∃ d, (s.m.at t).nearest p ((s.m.at t).extend stamp) = some (q, d) ∧ 4 * d.natAbs ≤ s.m.rd P.camLinePeriod p

section
variable {s : State} {t p stamp : Nat} {samples : List Nat} {ovr : Bool} {q : Pulse}

/-- Such a line's command leaves what becomes of the line, where that keeps the latch point. -/
theorem State.TakesLine.yields (h : s.TakesLine t p stamp q) {ws : List Nat} {e : Mod} {Q : Mod → Prop}
    (htaken : (s.m.at t).lineTaken p ((s.m.at t).extend stamp) q samples ovr = e) (hkept : Mod.AtPort p ws (s.m.at t) e)
    (hlatched : (e.port p).latched = (s.m.port p).latched)
    (hQ : ∀ m', m'.port p = e.port p → (∀ r : Param, r.addr p ≠ P.loopFlags.addr → m'.rd r p = e.rd r p) →
      (∀ r, r ≠ p → m'.port r = s.m.port r) → Mod.Frame t [.cams] ws s.m m' → Q m') :
    s.Yields (.cameraLine t p stamp samples ovr) Q := by
  obtain ⟨d, hnear, hclose⟩ := h.near
  have hmean : cameraLine p stamp samples ovr (s.m.at t) = e := by
    rw [← htaken]
    exact cameraLine_of_near (m := s.m.at t) h.used h.inFrame h.inService hnear hclose (by rw [htaken, hlatched]; exact h.latched)
  refine Mod.AtPort.yields (f := cameraLine p stamp samples ovr) (hmean ▸ hkept) rfl fun hothers hframe => hQ _ ?_ (fun r hr => ?_) hothers hframe
  · rw [Mod.port_run, hmean]
  · rw [Mod.run_rd_other t _ s.m hr, hmean]

/-! ### The line commands -/

theorem cameraLine_whole_yields (h : s.TakesLine t p stamp q) (hs : s.Canonical) (hnext : ∀ k, (s.m.port p).kLast = some k → q.k = k + 1)
    (hlen : samples.length = s.m.rd P.camLineSamples p * s.m.camC p) :
    s.Yields (.cameraLine t p stamp samples false) fun m' =>
      (∃ l : Line, (m'.port p).lines = (s.m.port p).lines ++ [l] ∧ l.frame = (s.m.port p).frames - 1 ∧ l.idx = (s.m.port p).idx
        ∧ l.seq = (s.m.port p).seqNow ∧ l.on = q.on ∧ l.w = q.w
        ∧ l.t = ((((s.m.at t).extend stamp : Nat) : Int) - s.m.colCal p [] P.camLatNow).toNat - q.w / 2 ∧ l.arr = (s.m.at t).now
        ∧ l.lost = false ∧ l.px = s.m.unpackLine p samples ∧ l.pres = q.pres ∧ l.bgInv = q.bgInv ∧ l.col = (s.m.port p).colOld)
      ∧ (m'.port p).idx = (s.m.port p).idx + 1 ∧ (m'.port p).kLast = some q.k
      ∧ m'.rd P.camLines p = (s.m.rd P.camLines p + 1) % 2 ^ P.camLines.w % 2 ^ 32 ∧ (∀ r, r ≠ p → m'.port r = s.m.port r)
      ∧ Mod.Frame t [.cams] [P.camLines.addr p] s.m m' := by
  have hb : (s.m.at t).pulseTaken p q = (s.m.at t).setPort p (fun c => { c with kLast := some q.k }) := by
    have htwin : ((s.m.at t).port p).twinOn q = false := by
      rw [← Bool.not_eq_true, CamPort.twinOn_iff]
      rintro ⟨k, hk, hle⟩
      have := hnext k hk
      omega
    rw [Mod.pulseTaken_of_next (m := s.m.at t) fun k hk => (hnext k hk).le, htwin]
    rfl
  have htaken := Mod.lineTaken_of_good (m := s.m.at t) (p := p) (s := (s.m.at t).extend stamp) (q := q) hlen
    fun k hk => (hnext k hk).symm ▸ Nat.lt_succ_self k
  rw [hb] at htaken
  have hkept : Mod.AtPort p [P.camLines.addr p] (s.m.at t) ((s.m.at t).setPort p (fun c => { c with kLast := some q.k })) :=
    (Mod.AtPort.refl _).setPort _
  obtain ⟨hlines, hidx, hlast, hlatched⟩ := Mod.port_goodLine (s := (s.m.at t).extend stamp) (q := q) (samples := samples)
    (hkept.count.symm ▸ h.count)
  rw [Mod.port_setPort (m := s.m.at t) h.count] at hlines hidx hlast hlatched
  rw [Mod.lineOf_setPort_kLast (m := s.m.at t) h.count] at hlines
  refine h.yields htaken (hkept.goodLine (by simp)) hlatched fun m' hport hrd hothers hframe => ?_
  rw [hport]
  refine ⟨⟨_, hlines, rfl, rfl, rfl, rfl, rfl, rfl, rfl, rfl, rfl, rfl, rfl, rfl⟩, hidx, hlast, ?_, hothers, hframe⟩
  rw [hrd _ (camWord_ne_loopFlags rfl (by decide) p), Mod.rd_goodLine (hkept.within.wf hs), Mod.rd_setPort, Mod.rd_at]

theorem cameraLine_lost_yields (h : s.TakesLine t p stamp q) (hs : s.Canonical)
    (hlost : (ovr = true ∧ ∀ k, (s.m.port p).kLast = some k → q.k ≤ k + 1)
      ∨ ((∃ k, (s.m.port p).kLast = some k ∧ q.k ≤ k) ∧ samples.length = s.m.rd P.camLineSamples p * s.m.camC p)) :
    s.Yields (.cameraLine t p stamp samples ovr) fun m' =>
      (∃ l : Line, (m'.port p).lines = (s.m.port p).lines ++ [l] ∧ l.idx = (s.m.port p).idx ∧ l.lost = true ∧ l.px = [])
      ∧ (m'.port p).idx = (s.m.port p).idx + 1
      ∧ m'.rd P.camLinesLost p = (s.m.rd P.camLinesLost p + 1) % 2 ^ P.camLinesLost.w % 2 ^ 32
      ∧ (∀ r, r ≠ p → m'.port r = s.m.port r) ∧ Mod.Frame t [.cams] (lossWords p) s.m m' := by
  have hle : ∀ k, ((s.m.at t).port p).kLast = some k → q.k ≤ k + 1 := by
    rcases hlost with ⟨-, hle⟩ | ⟨⟨k, hk, hle⟩, -⟩
    · exact hle
    · intro j hj
      obtain rfl : k = j := Option.some.inj (hk.symm.trans hj)
      omega
  have htaken := Mod.lineTaken_of_lost (m := s.m.at t) (p := p) (s := (s.m.at t).extend stamp) (q := q) (samples := samples) (ovr := ovr)
    (hlost.imp And.left id)
  generalize hedef : (s.m.at t).lineTaken p ((s.m.at t).extend stamp) q samples ovr = e at htaken
  have hb : Mod.AtPort p (lossWords p) (s.m.at t) ((s.m.at t).pulseTaken p q) := .pulseTaken_of_next hle
  have hkept := hb.loseLines 1 (List.Subset.refl _)
  have hwf := hb.within.wf hs
  obtain ⟨hlines, hidx, hlatched⟩ := Mod.port_pulseTaken_lostRows (m := s.m.at t) h.count hle
  rw [← Mod.port_loseLines Nat.one_ne_zero, ← Mod.port_congr htaken.cams] at hlines hidx hlatched
  refine h.yields hedef (hkept.evented htaken) hlatched fun m' hport hrd hothers hframe => ?_
  rw [hport]
  have hword : P.camLinesLost.addr p ≠ P.loopFlags.addr := camWord_ne_loopFlags rfl (by decide) p
  refine ⟨⟨_, hlines, rfl, rfl, rfl⟩, hidx, ?_, hothers, hframe⟩
  rw [hrd _ hword, htaken.rd_eq (hkept.within.wf hs) hword, Mod.rd_loseLines hwf, Mod.rd_pulseTaken_of_next hle, Mod.rd_at]

theorem Mod.AtPort.badLine {ws : List Nat} {a b : Mod} (h : Mod.AtPort p ws a b) (hw : [P.camLinesBad.addr p, P.camFlags.addr p] ⊆ ws) :
    Mod.AtPort p ws a (b.badLine p) :=
  (((h.lostRows 1).flag _ _ _ (hw (by simp))).inc _ _ _ _ (hw (by simp))).raise _ _ _

theorem Mod.port_badLine (m : Mod) (p : Nat) : (m.badLine p).port p = (m.lostRows p 1).port p := by
  unfold Mod.badLine
  rw [Mod.port_raise, Mod.port_inc, Mod.port_flag]

theorem Mod.rd_badLine {m : Mod} (hwf : Store.wf m.regs = true) (p : Nat) :
    (m.badLine p).rd P.camLinesBad p = (m.rd P.camLinesBad p + 1) % 2 ^ P.camLinesBad.w % 2 ^ 32
    ∧ ((m.badLine p).rd P.camFlags p).testBit 1 = true := by
  have hrows : Store.wf (m.lostRows p 1).regs = true := hwf
  have hflag := Mod.flag_wf hrows P.camFlags 2 p
  have hne : P.camLinesBad.addr p ≠ P.camFlags.addr p := camWord_ne P.camLinesBad P.camFlags (by decide) rfl p
  unfold Mod.badLine
  constructor
  · rw [Mod.rd_raise, Mod.rd_inc hflag, Mod.rd_flag_ne hrows hne, Mod.lostRows, Mod.rd_setPort]
  · rw [Mod.rd_raise, Mod.rd_inc_ne hflag hne.symm]
    exact Mod.testBit_camFlags hrows (by decide) (by decide) p

theorem cameraLine_bad_yields (h : s.TakesLine t p stamp q) (hs : s.Canonical)
    (hle : ∀ k, (s.m.port p).kLast = some k → q.k ≤ k + 1) (hlen : samples.length ≠ s.m.rd P.camLineSamples p * s.m.camC p) :
    s.Yields (.cameraLine t p stamp samples false) fun m' =>
      (∃ l : Line, (m'.port p).lines = (s.m.port p).lines ++ [l] ∧ l.idx = (s.m.port p).idx ∧ l.lost = true ∧ l.px = [])
      ∧ (m'.port p).idx = (s.m.port p).idx + 1 ∧ (m'.rd P.camFlags p).testBit 1 = true
      ∧ m'.rd P.camLinesBad p = (s.m.rd P.camLinesBad p + 1) % 2 ^ P.camLinesBad.w % 2 ^ 32
      ∧ (∀ r, r ≠ p → m'.port r = s.m.port r) ∧ Mod.Frame t [.cams] [P.camLinesBad.addr p, P.camFlags.addr p] s.m m' := by
  have hb : Mod.AtPort p [P.camLinesBad.addr p, P.camFlags.addr p] (s.m.at t) ((s.m.at t).pulseTaken p q) :=
    .pulseTaken_of_next (m := s.m.at t) hle
  obtain ⟨hlines, hidx, hlatched⟩ := Mod.port_pulseTaken_lostRows (m := s.m.at t) h.count hle
  rw [← Mod.port_badLine] at hlines hidx hlatched
  obtain ⟨hbad, hflag⟩ := Mod.rd_badLine (hb.within.wf hs) p
  refine h.yields (Mod.lineTaken_of_bad (m := s.m.at t) hlen) (hb.badLine (List.Subset.refl _)) hlatched
    fun m' hport hrd hothers hframe => ?_
  rw [hport, hrd _ (camWord_ne_loopFlags rfl (by decide) p), hrd _ (camWord_ne_loopFlags rfl (by decide) p)]
  refine ⟨⟨_, hlines, rfl, rfl, rfl⟩, hidx, hflag, ?_, hothers, hframe⟩
  rw [hbad, Mod.rd_pulseTaken_of_next (m := s.m.at t) hle, Mod.rd_at]

theorem cameraLine_gap_yields {k : Nat} (h : s.TakesLine t p stamp q) (hs : s.Canonical) (hfirst : (s.m.port p).idx = 0)
    (hframes : 1 < (s.m.port p).frames) (hlast : (s.m.port p).kLast = some k) (hgap : k + 1 < q.k)
    (hlen : samples.length = s.m.rd P.camLineSamples p * s.m.camC p) :
    s.Yields (.cameraLine t p stamp samples false) fun m' =>
      (∃ l : Line, (m'.port p).lines = (s.m.port p).lines
          ++ lostLines ((s.m.port p).frames - 2) (s.m.port p).endIdx (s.m.port p).endSeq (s.m.at t).now (q.k - k - 1) ++ [l]
        ∧ l.frame = (s.m.port p).frames - 1 ∧ l.idx = 0 ∧ l.lost = false)
      ∧ (m'.port p).idx = 1 ∧ (m'.port p).kLast = some q.k
      ∧ m'.rd P.camLinesLost p = (s.m.rd P.camLinesLost p + (q.k - k - 1)) % 2 ^ P.camLinesLost.w % 2 ^ 32
      ∧ (∀ r, r ≠ p → m'.port r = s.m.port r)
      ∧ Mod.Frame t [.cams] [P.camLinesLost.addr p, P.camFlags.addr p, P.camLines.addr p] s.m m' := by
  have htaken := Mod.lineTaken_of_good (m := s.m.at t) (p := p) (s := (s.m.at t).extend stamp) (q := q) hlen fun j hj => by
    obtain rfl : k = j := Option.some.inj (hlast.symm.trans hj)
    omega
  have hkept := Mod.AtPort.pulseTaken (ws := [P.camLinesLost.addr p, P.camFlags.addr p, P.camLines.addr p]) (s.m.at t) p q (by simp [lossWords])
  have hwf := hkept.within.wf hs
  obtain ⟨c, hc, hidx0, hsame, hlast0, hlatched0, hlines0⟩ :=
    Mod.port_pulseTaken_gap (m := s.m.at t) h.count h.inFrame hfirst hframes hlast hgap
  obtain ⟨hlines, hidx, hlast', hlatched⟩ := Mod.port_goodLine (s := (s.m.at t).extend stamp) (q := q) (samples := samples)
    (hkept.count.symm ▸ h.count)
  rw [hc] at hlines hidx hlast' hlatched
  rw [hlines0] at hlines
  refine h.yields htaken (hkept.goodLine (by simp)) (hlatched.trans hlatched0) fun m' hport hrd hothers hframe => ?_
  rw [hport]
  refine ⟨⟨_, hlines, ?_, ?_, rfl⟩, by rw [hidx, hidx0], hlast'.trans hlast0, ?_, hothers, hframe⟩
  · rw [← Mod.port_at s.m t p, ← hsame, ← hc]
    rfl
  · rw [← hidx0, ← hc]
    rfl
  · have hne : P.camLinesLost.addr p ≠ P.camLines.addr p := camWord_ne P.camLinesLost P.camLines (by decide) rfl p
    rw [hrd _ (camWord_ne_loopFlags rfl (by decide) p), Mod.rd_goodLine_ne hwf hne, Mod.rd_pulseTaken (m := s.m.at t) hs,
      Mod.port_at, CamPort.gapTo_eq hlast hgap, Mod.rd_at]

end

/-- Settles O27: pulses and frames on a port in use, then the lines of a frame in progress and its end. -/
theorem pulsesFramesAndLines : Obligations.PulsesFramesAndLines := by
  unfold Obligations.PulsesFramesAndLines
  refine ⟨fun s t p hused hrun hp => ⟨?pulse, ?begin, ?back⟩, fun s t p stamp samples q d hs hused hp hin => ⟨?lines, ?ends, ?short⟩⟩
  case pulse =>
    intro on hdue hold hsets hon
    exact expPulse_yields hused hrun hp hdue hold hsets hon
  case begin =>
    intro clk hidle hclock hsus
    exact frameStart_yields hused hrun hp hidle hclock hsus
  case back =>
    intro clk hidle hclock hsus _
    exact frameStart_absent_yields hused hrun hp hidle hclock hsus
  case lines =>
    intro hserved hlatched hnear hclose
    have h : s.TakesLine t p stamp q := ⟨hused, hp, hin, hserved, hlatched, d, hnear, hclose⟩
    refine ⟨?whole, ?lost, ?bad, ?gap⟩
    case whole =>
      intro hnext hlen
      exact cameraLine_whole_yields h hs hnext hlen
    case lost =>
      intro ovr hlost
      exact cameraLine_lost_yields h hs hlost
    case bad =>
      intro hle hlen
      exact cameraLine_bad_yields h hs hle hlen
    case gap =>
      intro k hfirst hframes hlast hgap hlen
      exact cameraLine_gap_yields h hs hfirst hframes hlast hgap hlen
  case ends =>
    intro hlatched hlines
    exact frameEnd_yields hp hin hlatched hlines
  case short =>
    intro hlatched hlines
    exact frameEnd_short_yields hs hp hin hlatched hlines

end Sys2Proof.Machine
end

section
/-!
PROOFS. The statements of 03_camera_intake.md: statistics, the loss of a port's clock, control templates.
-/
namespace Sys2Proof.Machine

/-! ### Statistics (R82, R83) -/

/-- The words that the publication of a set of statistics writes (R83). -/
def statWords (p : Nat) : List Nat :=
  [P.camStatSeq.addr p, P.camStatFrame.addr p, P.camStatSetseq.addr p, P.camStatLines.addr p, P.camStatT0.addr p, P.camStatT1.addr p,
   P.camStatRx.addr p]

theorem Mod.AtPort.publishStat {p : Nat} {ws : List Nat} {b c : Mod} (h : Mod.AtPort p ws b c) (a : FrameAcc) (hw : statWords p ⊆ ws) :
    Mod.AtPort p ws b (c.publishStat p a) :=
  (((((((h.setPort _).inc _ _ _ _ (hw (by simp [statWords]))).wr _ _ _ _ (hw (by simp [statWords]))).wr _ _ _ _
    (hw (by simp [statWords]))).wr _ _ _ _ (hw (by simp [statWords]))).wr _ _ _ _ (hw (by simp [statWords]))).wr _ _ _ _
    (hw (by simp [statWords]))).wr _ _ _ _ (hw (by simp [statWords]))

section
variable {m : Mod} {p : Nat} {a : FrameAcc}

theorem Mod.port_publishStat (hp : p < m.cams.length) : (m.publishStat p a).port p
    = { m.port p with pub := some (a, m.now), accs := (m.port p).accs.filter (fun b => b.num ≠ a.num) } := by
  unfold Mod.publishStat
  simp only [Mod.port_wr, Mod.port_inc, Mod.port_setPort hp]

/-- A word of a port after another of its words was written. -/
theorem Mod.rd_wr_port (hwf : Store.wf m.regs = true) {q r : Param} (hstep : r.s1 = q.s1) (v : Nat) :
    (m.wr q v p).rd r p = if r.base = q.base then v % 2 ^ q.w % 2 ^ 32 else m.rd r p := by
  split
  · next h =>
    have haddr : r.addr p = q.addr p := by simp [Param.addr, h, hstep]
    rw [← Mod.rd_wr hwf q v p 0, Mod.rd, Mod.rd, haddr]
  · next h => exact Mod.rd_wr_ne hwf (camWord_ne r q h hstep p)

/-- What a word of the port reads after a publication. -/
theorem Mod.rd_publishStat (hwf : Store.wf m.regs = true) {r : Param} (hstep : r.s1 = 0x100000) :
    (m.publishStat p a).rd r p
      = if r.base = P.camStatRx.base then a.rx % 2 ^ P.camStatRx.w % 2 ^ 32
        else if r.base = P.camStatT1.base then a.t1 % 2 ^ P.camStatT1.w % 2 ^ 32
        else if r.base = P.camStatT0.base then a.t0.getD 0 % 2 ^ P.camStatT0.w % 2 ^ 32
        else if r.base = P.camStatLines.base then
          (65536 * Nat.min 65535 a.offLines + Nat.min 65535 a.onLines) % 2 ^ P.camStatLines.w % 2 ^ 32
        else if r.base = P.camStatSetseq.base then a.setseq % 2 ^ P.camStatSetseq.w % 2 ^ 32
        else if r.base = P.camStatFrame.base then a.num % 2 ^ P.camStatFrame.w % 2 ^ 32
        else if r.base = P.camStatSeq.base then (m.rd P.camStatSeq p + 1) % 2 ^ P.camStatSeq.w % 2 ^ 32
        else m.rd r p := by
  unfold Mod.publishStat
  extract_lets m1 m2
  have hm1 : Store.wf m1.regs = true := hwf
  have hseq : Store.wf (m1.inc P.camStatSeq p).regs = true := Mod.inc_wf hm1 _ _ _ _
  have hframe : Store.wf ((m1.inc P.camStatSeq p).wr P.camStatFrame a.num p).regs = true := Mod.wr_wf hseq _ _ _ _
  have hm2 : Store.wf m2.regs = true := Mod.wr_wf hframe _ _ _ _
  have hlines := Mod.wr_wf hm2 P.camStatLines (65536 * Nat.min 65535 a.offLines + Nat.min 65535 a.onLines) p 0
  have ht0 := Mod.wr_wf hlines P.camStatT0 (a.t0.getD 0) p 0
  have ht1 := Mod.wr_wf ht0 P.camStatT1 a.t1 p 0
  rw [Mod.rd_wr_port ht1 hstep, Mod.rd_wr_port ht0 hstep, Mod.rd_wr_port hlines hstep, Mod.rd_wr_port hm2 hstep,
    Mod.rd_wr_port hframe hstep, Mod.rd_wr_port hseq hstep, Mod.inc, Mod.rd_wr_port hm1 hstep, Mod.rd_setPort, Mod.rd_setPort]

theorem Mod.rd_publishStat_seq (hwf : Store.wf m.regs = true) :
    (m.publishStat p a).rd P.camStatSeq p = (m.rd P.camStatSeq p + 1) % 2 ^ P.camStatSeq.w % 2 ^ 32 :=
  (Mod.rd_publishStat hwf rfl).trans rfl

theorem Mod.rd_publishStat_frame (hwf : Store.wf m.regs = true) :
    (m.publishStat p a).rd P.camStatFrame p = a.num % 2 ^ P.camStatFrame.w % 2 ^ 32 :=
  (Mod.rd_publishStat hwf rfl).trans rfl

theorem Mod.rd_publishStat_rx (hwf : Store.wf m.regs = true) :
    (m.publishStat p a).rd P.camStatRx p = a.rx % 2 ^ P.camStatRx.w % 2 ^ 32 :=
  (Mod.rd_publishStat hwf rfl).trans rfl

/-- Both counts of lines have room in their word. -/
theorem Mod.rd_publishStat_lines (hwf : Store.wf m.regs = true) :
    (m.publishStat p a).rd P.camStatLines p = 65536 * Nat.min 65535 a.offLines + Nat.min 65535 a.onLines := by
  have hoff : Nat.min 65535 a.offLines ≤ 65535 := Nat.min_le_left _ _
  have hon : Nat.min 65535 a.onLines ≤ 65535 := Nat.min_le_left _ _
  have hword : (m.publishStat p a).rd P.camStatLines p
      = (65536 * Nat.min 65535 a.offLines + Nat.min 65535 a.onLines) % 2 ^ 32 % 2 ^ 32 := (Mod.rd_publishStat hwf rfl).trans rfl
  omega

end


theorem statsPublish_yields {s : State} {t p : Nat} {a : FrameAcc} (hs : s.Canonical) (hp : p < s.m.cams.length)
    (hended : (s.m.port p).accs.find? (·.ended) = some a) :
    s.Yields (.statsPublish t p) fun m' => (m'.port p).pub = some (a, (s.m.at t).now)
      ∧ m'.rd P.camStatSeq p = (s.m.rd P.camStatSeq p + 1) % 2 ^ P.camStatSeq.w % 2 ^ 32
      ∧ m'.rd P.camStatFrame p = a.num % 2 ^ P.camStatFrame.w % 2 ^ 32 ∧ m'.rd P.camStatRx p = a.rx % 2 ^ P.camStatRx.w % 2 ^ 32
      ∧ m'.rd P.camStatLines p = 65536 * Nat.min 65535 a.offLines + Nat.min 65535 a.onLines
      ∧ (∀ r, r ≠ p → m'.port r = s.m.port r) ∧ Mod.Frame t [.cams] (statWords p) s.m m' := by
  have hmean : statsPublish p (s.m.at t) = (s.m.at t).publishStat p a := by
    unfold statsPublish
    rw [Mod.port_at, hended]
  have hwf : Store.wf (s.m.at t).regs = true := hs
  have hrd : ∀ r : Param, r.addr p ≠ P.loopFlags.addr → (Mod.run t (statsPublish p) s.m).rd r p = ((s.m.at t).publishStat p a).rd r p :=
    fun r hr => by rw [Mod.run_rd_other t _ s.m hr, hmean]
  refine Mod.AtPort.yields (f := statsPublish p) (hmean ▸ (Mod.AtPort.refl _).publishStat a (List.Subset.refl _)) rfl
    fun hothers hframe => ⟨?_, ?_, ?_, ?_, ?_, hothers, hframe⟩
  · rw [Mod.port_run, hmean, Mod.port_publishStat (m := s.m.at t) hp]
  · rw [hrd _ (camWord_ne_loopFlags rfl (by decide) p), Mod.rd_publishStat_seq hwf, Mod.rd_at]
  · rw [hrd _ (camWord_ne_loopFlags rfl (by decide) p), Mod.rd_publishStat_frame hwf]
  · rw [hrd _ (camWord_ne_loopFlags rfl (by decide) p), Mod.rd_publishStat_rx hwf]
  · rw [hrd _ (camWord_ne_loopFlags rfl (by decide) p), Mod.rd_publishStat_lines hwf]

/-! ### The loss of a port's clock (R84) -/

/-- A port whose clock has gone (R84): its frame in progress has ended with lines lost. -/
def CamPort.unclocked (c : CamPort) (now : Nat) : CamPort :=
  { (c.acc (fun a => { a with lost := true, ended := true })) with
    inService := false, clock := false, lostClock := true, outSince := some (c.outSince.getD now), inFrame := false }

/-- The lines in flight are lost, and the port is out of service. -/
def Mod.clockLost (m : Mod) (p : Nat) : Mod :=
  ((m.loseGap p (m.inFlight p)).setPort p
    (fun c => { c with kLast := if c.kNext = 0 then c.kLast else some (c.kNext - 1) })).setPort p (fun c => c.unclocked m.now)

section
variable {m : Mod} {p : Nat}

theorem portClockLoss_of_idle (hused : m.portUsed p = true) (hrun : m.running = true)
    (hclock : (m.port p).inService = true ∨ (m.port p).lostClock = false) (hidle : (m.port p).inFrame = false) :
    portClockLoss p m = (m.clockLost p).raise (16 + p) 0x0103 (leBytes 4 ((m.port p).frames - 1)) := by
  have hcond : ((m.port p).lostClock && !(m.port p).inService) = false := by
    rcases hclock with h | h <;> simp [h]
  unfold portClockLoss
  simp only [hused, hrun, hcond, hidle, Bool.not_true, Bool.or_self, Bool.false_eq_true, if_false]
  rfl

theorem portClockLoss_of_frame {a : FrameAcc} (hused : m.portUsed p = true) (hrun : m.running = true)
    (hclock : (m.port p).inService = true ∨ (m.port p).lostClock = false) (hin : (m.port p).inFrame = true)
    (hlast : (((m.clockLost p).port p).accs.filter (fun a => a.num + 1 = (m.port p).frames)).getLast? = some a) :
    portClockLoss p m = ((m.clockLost p).publishStat p a).raise (16 + p) 0x0103 (leBytes 4 ((m.port p).frames - 1)) := by
  have hcond : ((m.port p).lostClock && !(m.port p).inService) = false := by
    rcases hclock with h | h <;> simp [h]
  unfold portClockLoss
  simp only [hused, hrun, hcond, hin, Bool.not_true, Bool.or_self, Bool.false_eq_true, if_false, if_true]
  change Mod.raise (match (((m.clockLost p).port p).accs.filter (fun a => a.num + 1 = (m.port p).frames)).getLast? with
    | some a => (m.clockLost p).publishStat p a
    | none => m.clockLost p) _ _ _ = _
  rw [hlast]

theorem Mod.AtPort.clockLost {ws : List Nat} (m : Mod) (hw : lossWords p ⊆ ws) :
    Mod.AtPort p ws m (m.clockLost p) := ((Mod.AtPort.loseGap m _ hw).setPort _).setPort _

theorem Mod.port_clockLost (hp : p < m.cams.length) :
    ∃ k, (m.clockLost p).port p = { ((m.loseGap p (m.inFlight p)).port p).unclocked m.now with kLast := k } := by
  have hgap := Mod.AtPort.loseGap (p := p) m (m.inFlight p) (List.Subset.refl _)
  unfold Mod.clockLost
  rw [(hgap.setPort _).port_setPort hp, hgap.port_setPort hp]
  exact ⟨_, rfl⟩

/-- What a gap's lost lines leave of their port: its frame, its service, and which account is whose. -/
theorem Mod.port_loseGap (hp : p < m.cams.length) (n : Nat) :
    ((m.loseGap p n).port p).frames = (m.port p).frames ∧ ((m.loseGap p n).port p).outSince = (m.port p).outSince
    ∧ ∃ g : FrameAcc → FrameAcc, (∀ a, (g a).num = a.num ∧ (g a).ended = a.ended)
        ∧ ((m.loseGap p n).port p).accs = (m.port p).accs.map g := by
  rcases m.loseGap_cases p n with ⟨-, h⟩ | ⟨-, -, h⟩ | ⟨hn, -, h⟩ <;> rw [h]
  · exact ⟨rfl, rfl, id, fun a => ⟨rfl, rfl⟩, (List.map_id _).symm⟩
  · rw [Mod.port_flag, Mod.port_inc, Mod.gapRows, Mod.port_setPort hp]
    refine ⟨rfl, rfl, fun a => if a.num + 2 = (m.port p).frames then { a with lost := true } else a, fun a => ?_, rfl⟩
    dsimp only
    split <;> exact ⟨rfl, rfl⟩
  · rw [Mod.port_loseLines hn, Mod.port_lostRows hp]
    refine ⟨rfl, rfl, fun a => if a.num + 1 = (m.port p).frames && !a.ended then { a with lost := true } else a, fun a => ?_, rfl⟩
    dsimp only
    split <;> exact ⟨rfl, rfl⟩

theorem Mod.lines_loseGap_of_idle (hp : p < m.cams.length) (hidle : (m.port p).inFrame = false) (n : Nat) :
    ((m.loseGap p n).port p).lines
      = (m.port p).lines ++ lostLines ((m.port p).frames - 1) (m.port p).idx (m.port p).seqNow m.now n := by
  rcases m.loseGap_cases p n with ⟨hn, h⟩ | ⟨-, ⟨hin, -⟩, -⟩ | ⟨hn, -, h⟩
  · rw [h, hn]
    exact (List.append_nil _).symm
  · exact absurd hin (by simp [hidle])
  · rw [h, Mod.port_loseLines hn, Mod.port_lostRows hp]

end

/-- The account of the frame in progress as the loss of the clock leaves it (R84). -/
def FrameAcc.cutOff (a : FrameAcc) (frames : Nat) : FrameAcc :=
  if a.num + 1 = frames && !a.ended then { a with lost := true, ended := true } else a

theorem FrameAcc.cutOff_num (a : FrameAcc) (frames : Nat) : (a.cutOff frames).num = a.num := by
  unfold FrameAcc.cutOff
  split <;> rfl

theorem FrameAcc.cutOff_lost {a : FrameAcc} {frames : Nat} (hnum : a.num + 1 = frames) (hopen : a.ended = false) :
    (a.cutOff frames).lost = true ∧ (a.cutOff frames).ended = true := by
  unfold FrameAcc.cutOff
  rw [if_pos (by simp [hnum, hopen])]
  exact ⟨rfl, rfl⟩

section
variable {m : Mod} {p : Nat}

theorem Mod.accs_clockLost (hp : p < m.cams.length) : ∃ g : FrameAcc → FrameAcc, (∀ a, (g a).num = a.num ∧ (g a).ended = a.ended)
    ∧ ((m.clockLost p).port p).accs = ((m.port p).accs.map g).map (·.cutOff (m.port p).frames) := by
  obtain ⟨hframes, -, g, hg, haccs⟩ := Mod.port_loseGap hp (m.inFlight p)
  obtain ⟨k, hport⟩ := Mod.port_clockLost hp
  refine ⟨g, hg, ?_⟩
  rw [hport, ← haccs, ← hframes]
  rfl

/-- A frame in progress whose account has not ended is the one that is published, with lines lost (R82, R84). -/
theorem Mod.clockLost_publishes (hp : p < m.cams.length) (hacc : ∃ a ∈ (m.port p).accs, a.num + 1 = (m.port p).frames)
    (hopen : ∀ a ∈ (m.port p).accs, a.num + 1 = (m.port p).frames → a.ended = false) :
    ∃ a : FrameAcc, (((m.clockLost p).port p).accs.filter (fun a => a.num + 1 = (m.port p).frames)).getLast? = some a
      ∧ a.num + 1 = (m.port p).frames ∧ a.lost = true ∧ a.ended = true := by
  obtain ⟨g, hg, haccs⟩ := Mod.accs_clockLost hp
  rw [haccs]
  have hsome : ((((m.port p).accs.map g).map (·.cutOff (m.port p).frames)).filter (fun a => a.num + 1 = (m.port p).frames)) ≠ [] := by
    obtain ⟨a, ha, hnum⟩ := hacc
    refine List.ne_nil_of_mem (List.mem_filter.2 ⟨List.mem_map_of_mem (List.mem_map_of_mem ha), ?_⟩)
    simp [FrameAcc.cutOff_num, hg a, hnum]
  obtain ⟨a, hlast⟩ := List.getLast?_isSome.2 hsome |> Option.isSome_iff_exists.1
  obtain ⟨hmem, hnum⟩ := List.mem_filter.1 (List.mem_of_getLast? hlast)
  obtain ⟨b, hb, rfl⟩ := List.mem_map.1 hmem
  obtain ⟨a0, ha0, rfl⟩ := List.mem_map.1 hb
  have hnum0 : (g a0).num + 1 = (m.port p).frames := by simpa [FrameAcc.cutOff_num] using hnum
  have hopen0 : (g a0).ended = false := by
    rw [(hg a0).2]
    exact hopen a0 ha0 (by rwa [(hg a0).1] at hnum0)
  obtain ⟨hlost, hended⟩ := FrameAcc.cutOff_lost hnum0 hopen0
  exact ⟨_, hlast, by rw [FrameAcc.cutOff_num, hnum0], hlost, hended⟩

end

/-- A port without its clock is out of service since then, or since it already was (R84). -/
theorem Mod.clockLost_out {m : Mod} {p : Nat} (hp : p < m.cams.length) : ∃ c : CamPort, (m.clockLost p).port p = c ∧ c.inService = false
    ∧ c.clock = false ∧ c.lostClock = true ∧ c.outSince = some ((m.port p).outSince.getD m.now) ∧ c.inFrame = false
    ∧ c.lines = ((m.loseGap p (m.inFlight p)).port p).lines := by
  obtain ⟨k, hport⟩ := Mod.port_clockLost hp
  obtain ⟨-, hout, -⟩ := Mod.port_loseGap hp (m.inFlight p)
  refine ⟨_, hport, rfl, rfl, rfl, ?_, rfl, rfl⟩
  rw [← hout]
  rfl

section
variable {s : State} {t p : Nat}

theorem portClockLoss_idle_yields (hp : p < s.m.cams.length) (hused : s.m.portUsed p = true) (hrun : s.m.running = true)
    (hclock : (s.m.port p).inService = true ∨ (s.m.port p).lostClock = false) (hidle : (s.m.port p).inFrame = false) :
    s.Yields (.portClockLoss t p) fun m' =>
      (m'.port p).inService = false ∧ (m'.port p).clock = false ∧ (m'.port p).lostClock = true
      ∧ (m'.port p).outSince = some ((s.m.port p).outSince.getD (s.m.at t).now) ∧ (m'.port p).inFrame = false
      ∧ (m'.port p).lines = (s.m.port p).lines
          ++ lostLines ((s.m.port p).frames - 1) (s.m.port p).idx (s.m.port p).seqNow (s.m.at t).now ((s.m.at t).inFlight p)
      ∧ (∀ r, r ≠ p → m'.port r = s.m.port r) ∧ Mod.Frame t [.cams] (lossWords p) s.m m' := by
  have hmean := portClockLoss_of_idle (m := s.m.at t) hused hrun hclock hidle
  obtain ⟨c, hport, hserved, hclk, hlost, hout, hin, hlines⟩ := Mod.clockLost_out (m := s.m.at t) hp
  rw [Mod.lines_loseGap_of_idle (m := s.m.at t) hp hidle] at hlines
  refine Mod.AtPort.yields (f := portClockLoss p) (hmean ▸ (Mod.AtPort.clockLost _ (List.Subset.refl _)).raise _ _ _) rfl
    fun hothers hframe => ?_
  rw [Mod.port_run, hmean, Mod.port_raise, hport]
  exact ⟨hserved, hclk, hlost, hout, hin, hlines, hothers, hframe⟩

theorem portClockLoss_frame_yields (hs : s.Canonical) (hp : p < s.m.cams.length) (hused : s.m.portUsed p = true)
    (hrun : s.m.running = true) (hclock : (s.m.port p).inService = true ∨ (s.m.port p).lostClock = false)
    (hin : (s.m.port p).inFrame = true) (hacc : ∃ a ∈ (s.m.port p).accs, a.num + 1 = (s.m.port p).frames)
    (hopen : ∀ a ∈ (s.m.port p).accs, a.num + 1 = (s.m.port p).frames → a.ended = false) :
    s.Yields (.portClockLoss t p) fun m' =>
      (m'.port p).inService = false ∧ (m'.port p).clock = false ∧ (m'.port p).lostClock = true
      ∧ (m'.port p).outSince = some ((s.m.port p).outSince.getD (s.m.at t).now) ∧ (m'.port p).inFrame = false
      ∧ (∃ a : FrameAcc, (m'.port p).pub = some (a, (s.m.at t).now) ∧ a.num + 1 = (s.m.port p).frames ∧ a.lost = true ∧ a.ended = true)
      ∧ m'.rd P.camStatSeq p = (s.m.rd P.camStatSeq p + 1) % 2 ^ P.camStatSeq.w % 2 ^ 32
      ∧ (∀ r, r ≠ p → m'.port r = s.m.port r)
      ∧ Mod.Frame t [.cams] (lossWords p ++ statWords p) s.m m' := by
  obtain ⟨a, hlast, hnum, hlost, hended⟩ := Mod.clockLost_publishes (m := s.m.at t) hp hacc hopen
  have hmean := portClockLoss_of_frame (m := s.m.at t) hused hrun hclock hin hlast
  have hloss : Mod.AtPort p (lossWords p) (s.m.at t) ((s.m.at t).clockLost p) :=
    .clockLost _ (List.Subset.refl _)
  have hloss' : Mod.AtPort p (lossWords p ++ statWords p) (s.m.at t) ((s.m.at t).clockLost p) :=
    .clockLost _ (List.subset_append_left _ _)
  obtain ⟨c, hport, hserved, hclk, hgone, hout, hidle, -⟩ := Mod.clockLost_out (m := s.m.at t) hp
  refine Mod.AtPort.yields (f := portClockLoss p)
    (hmean ▸ (hloss'.publishStat a (List.subset_append_right _ _)).raise _ _ _) rfl fun hothers hframe => ?_
  have hword : P.camStatSeq.addr p ≠ P.loopFlags.addr := camWord_ne_loopFlags rfl (by decide) p
  have hapart : P.camStatSeq.addr p ∉ lossWords p := by
    simp [lossWords, camWord_ne P.camStatSeq P.camLinesLost (by decide) rfl p, camWord_ne P.camStatSeq P.camFlags (by decide) rfl p]
  have hseq : (Mod.run t (portClockLoss p) s.m).rd P.camStatSeq p
      = (s.m.rd P.camStatSeq p + 1) % 2 ^ P.camStatSeq.w % 2 ^ 32 := by
    rw [Mod.run_rd_other t _ s.m hword, hmean, Mod.rd_raise, Mod.rd_publishStat_seq (hloss.within.wf hs), hloss.rd_eq hs hapart hword,
      Mod.rd_at]
  rw [Mod.port_run, hmean, Mod.port_raise, Mod.port_publishStat (hloss.count.symm ▸ hp), hport]
  exact ⟨hserved, hclk, hgone, hout, hidle, ⟨a, congrArg (fun n => some (a, n)) hloss.within.now, hnum, hlost, hended⟩, hseq, hothers, hframe⟩

end

/-! ### Control templates (R77 to R79) -/

section
variable {m : Mod} {p k : Nat} {b : List Byte} {rest : List (Nat × List Byte)}

/-- The bytes of the template in line have gone out. -/
def CamPort.sent (c : CamPort) (b : List Byte) (now : Nat) : CamPort := { c with serOut := c.serOut ++ b, serAt := now }

theorem templateSent_of_due (hq : (m.port p).tplQ = (k, b) :: rest) (hwait : (m.port p).tplWait = none)
    (hdue : (m.port p).serAt + m.serTime p b.length ≤ m.now) :
    templateSent p m = if m.tplByte p k 1 = 0
      then (m.setPort p (fun c => c.sent b m.now)).setPort p (fun c => { c with tplQ := rest, unconf := c.unconf.filter (· ≠ k) })
      else (m.setPort p (fun c => c.sent b m.now)).setPort p
        (fun c => { c with tplWait := some (k, m.now + m.rd P.camSerTimeout p * 1000) }) := by
  unfold templateSent
  simp only [hq, hwait, Nat.not_lt.2 hdue, if_false]
  rfl

end

section
variable {s : State} {t p k : Nat}

theorem templateSent_yields {b : List Byte} {rest : List (Nat × List Byte)} (hp : p < s.m.cams.length)
    (hq : (s.m.port p).tplQ = (k, b) :: rest) (hwait : (s.m.port p).tplWait = none)
    (hdue : (s.m.port p).serAt + s.m.serTime p b.length ≤ (s.m.at t).now) :
    s.Yields (.templateSent t p) fun m' =>
      m'.port p = (if s.m.tplByte p k 1 = 0
        then { (s.m.port p).sent b (s.m.at t).now with tplQ := rest, unconf := (s.m.port p).unconf.filter (· ≠ k) }
        else { (s.m.port p).sent b (s.m.at t).now with tplWait := some (k, (s.m.at t).now + s.m.rd P.camSerTimeout p * 1000) })
      ∧ (∀ r, r ≠ p → m'.port r = s.m.port r) ∧ Mod.Frame t [.cams] [] s.m m' := by
  have hmean := templateSent_of_due (m := s.m.at t) hq hwait hdue
  have hout : Mod.AtPort p [] (s.m.at t) ((s.m.at t).setPort p (fun c => c.sent b (s.m.at t).now)) := (Mod.AtPort.refl _).setPort _
  have hsent : ((s.m.at t).setPort p (fun c => c.sent b (s.m.at t).now)).port p = (s.m.port p).sent b (s.m.at t).now := by
    rw [Mod.port_setPort (m := s.m.at t) hp, Mod.port_at]
  have hbyte : (s.m.at t).tplByte p k 1 = s.m.tplByte p k 1 := rfl
  rw [hbyte] at hmean
  refine Mod.AtPort.yields (f := templateSent p) ?_ rfl fun hothers hframe => ⟨?_, hothers, hframe⟩
  · rw [hmean]
    split <;> exact hout.setPort _
  · rw [Mod.port_run, hmean]
    split <;> rw [hout.port_setPort hp, hsent] <;> rfl

/-- The template whose reply was awaited is done with: the next in line may be sent. -/
def CamPort.replied (c : CamPort) (k now : Nat) : CamPort :=
  { c with tplWait := none, tplQ := c.tplQ.tail, unconf := c.unconf.filter (· ≠ k), serAt := now }

theorem templateReply_yields {u : Nat} {bytes : List Byte} (hp : p < s.m.cams.length) (hwait : (s.m.port p).tplWait = some (k, u))
    (hdue : (s.m.at t).now ≤ u) (hbytes : bytes.take (s.m.tplByte p k 1)
      = (List.range (s.m.tplByte p k 1)).map (fun i => BitVec.ofNat 8 (s.m.tplByte p k (4 + i)))) :
    s.Yields (.templateReply t p bytes) fun m' => m'.port p = (s.m.port p).replied k (s.m.at t).now
      ∧ (∀ r, r ≠ p → m'.port r = s.m.port r) ∧ Mod.Frame t [.cams] [] s.m m' := by
  have hmean : templateReply p bytes (s.m.at t) = (s.m.at t).setPort p (fun c => c.replied k (s.m.at t).now) := by
    unfold templateReply
    rw [Mod.port_at, hwait]
    refine if_pos ?_
    rw [decide_eq_true hdue, Bool.true_and]
    exact decide_eq_true hbytes
  refine Mod.AtPort.yields (f := templateReply p bytes) (hmean ▸ (Mod.AtPort.refl _).setPort _) rfl
    fun hothers hframe => ⟨?_, hothers, hframe⟩
  rw [Mod.port_run, hmean, Mod.port_setPort (m := s.m.at t) hp, Mod.port_at]

/-- A mark of the frame in progress touches the accounts alone. -/
theorem CamPort.markUnconf_eq (c : CamPort) : c.markUnconf = { c with accs := c.markUnconf.accs } := by
  unfold CamPort.markUnconf
  split <;> rfl

/-- A template whose reply has not come is unconfirmed (R79). -/
def CamPort.unanswered (c : CamPort) (k now : Nat) : CamPort :=
  ({ c.replied k now with unconf := c.unconf.filter (· ≠ k) ++ [k] }).markUnconf

theorem templateReplyTimeout_of_due {m : Mod} {u : Nat} (hwait : (m.port p).tplWait = some (k, u)) (hdue : u ≤ m.now) :
    templateReplyTimeout p m = (((m.setPort p (fun c => c.unanswered k m.now)).inc P.camTplFails p).flag P.camFlags 32 p).raise
      (16 + p) 0x0107 (leBytes 1 k ++ leBytes 2 ((m.port p).seqPend.getD (m.port p).seqNow)) := by
  unfold templateReplyTimeout
  simp only [hwait, Nat.not_lt.2 hdue, if_false]
  rfl

theorem templateReplyTimeout_yields {u : Nat} (hs : s.Canonical) (hp : p < s.m.cams.length)
    (hwait : (s.m.port p).tplWait = some (k, u)) (hdue : u ≤ (s.m.at t).now) :
    s.Yields (.templateReplyTimeout t p) fun m' => (m'.port p).tplWait = none ∧ (m'.port p).tplQ = (s.m.port p).tplQ.tail
      ∧ (m'.port p).serAt = (s.m.at t).now ∧ k ∈ (m'.port p).unconf
      ∧ m'.rd P.camTplFails p = (s.m.rd P.camTplFails p + 1) % 2 ^ P.camTplFails.w % 2 ^ 32
      ∧ (m'.rd P.camFlags p).testBit 5 = true ∧ (∀ r, r ≠ p → m'.port r = s.m.port r)
      ∧ Mod.Frame t [.cams] [P.camTplFails.addr p, P.camFlags.addr p] s.m m' := by
  have hmean := templateReplyTimeout_of_due (m := s.m.at t) hwait hdue
  have hport : (Mod.run t (templateReplyTimeout p) s.m).port p = (s.m.port p).unanswered k (s.m.at t).now := by
    rw [Mod.port_run, hmean, Mod.port_raise, Mod.port_flag, Mod.port_inc, Mod.port_setPort (m := s.m.at t) hp, Mod.port_at]
  have hrd : ∀ r : Param, r.addr p ≠ P.loopFlags.addr → (Mod.run t (templateReplyTimeout p) s.m).rd r p
      = ((((s.m.at t).setPort p (fun c => c.unanswered k (s.m.at t).now)).inc P.camTplFails p).flag P.camFlags 32 p).rd r p :=
    fun r hr => by rw [Mod.run_rd_other t _ s.m hr, hmean, Mod.rd_raise]
  have hwf : Store.wf (((s.m.at t).setPort p (fun c => c.unanswered k (s.m.at t).now)).inc P.camTplFails p).regs = true :=
    Mod.inc_wf (m := (s.m.at t).setPort p _) hs _ _ _ _
  have hne : P.camTplFails.addr p ≠ P.camFlags.addr p := camWord_ne P.camTplFails P.camFlags (by decide) rfl p
  have hkept : Mod.AtPort p [P.camTplFails.addr p, P.camFlags.addr p] (s.m.at t) (templateReplyTimeout p (s.m.at t)) := by
    rw [hmean]
    exact ((((Mod.AtPort.refl _).setPort _).inc _ _ _ _ (by simp)).flag _ _ _ (by simp)).raise _ _ _
  refine Mod.AtPort.yields (f := templateReplyTimeout p) hkept rfl fun hothers hframe => ?_
  rw [hport, CamPort.unanswered, CamPort.markUnconf_eq]
  refine ⟨rfl, rfl, rfl, List.mem_append_right _ (List.mem_singleton_self k), ?_, ?_, hothers, hframe⟩
  · rw [hrd _ (camWord_ne_loopFlags rfl (by decide) p), Mod.rd_flag_ne hwf hne, Mod.rd_setPort_inc (m := s.m.at t) hs, Mod.rd_at]
  · rw [hrd _ (camWord_ne_loopFlags rfl (by decide) p)]
    exact Mod.testBit_camFlags hwf (by decide) (by decide) p

end

/-- Settles O28: a port's statistics and its clock, then its templates. -/
theorem statisticsAndTemplates : Obligations.StatisticsAndTemplates := by
  unfold Obligations.StatisticsAndTemplates
  refine ⟨fun s t p hs _ hp => ⟨?publish, fun hused hrun hclock => ⟨?idle, ?frame⟩⟩, fun s t p hs _ hp => ⟨?sent, ?reply, ?timeout⟩⟩
  case publish =>
    intro a hended
    exact statsPublish_yields hs hp hended
  case idle =>
    intro hidle
    exact portClockLoss_idle_yields hp hused hrun hclock hidle
  case frame =>
    intro hin hacc hopen
    exact portClockLoss_frame_yields hs hp hused hrun hclock hin hacc hopen
  case sent =>
    intro k b rest hq hwait hdue
    exact templateSent_yields hp hq hwait hdue
  case reply =>
    intro k u bytes hwait hdue hbytes
    exact templateReply_yields hp hwait hdue hbytes
  case timeout =>
    intro k u hwait hdue
    exact templateReplyTimeout_yields hs hp hwait hdue

end Sys2Proof.Machine
end

section
/-!
PROOFS. The statements of 03_camera_intake.md: the stages of a line. A poisoned line that a tower consumes is counted by the tower's
performance counters (R456), which the statement's frame leaves out.
-/
namespace Sys2Proof.Machine

/-- COLOUR_RECONSTRUCTION leaves the performance counters as the reading of its lines does (R456), whatever becomes of the line. -/
theorem colourReconstruction_perf {m : Mod} {p tower : Nat} {reads : List LineRead} (lost : Bool) (hlines : (m.port p).lines ≠ [])
    (htower : m.physTower (Config.stageTower p 0) = tower) (hboth : (m.jobReads tower reads).both = false) :
    (colourReconstruction p lost reads m).perf = (m.jobReads tower reads).m.perf := by
  have hline : ∀ (b : Mod) (lost : Bool), (b.colourLine p lost).perf = b.perf := by
    intro b lost
    unfold Mod.colourLine
    split <;> rfl
  unfold colourReconstruction Mod.stage
  rw [if_neg hlines, htower]
  simp only [hboth, Bool.false_eq_true, if_false, hline]
  rfl

/-- The state that the command answers with, in any state. -/
theorem exec_colourReconstruction_leaves {s : State} {t p : Nat} {lost : Bool} {reads : List LineRead} {m' : Mod}
    (hexec : exec (.colourReconstruction t p lost reads) s = .next { s with m := m' }) :
    m' = Mod.run t (colourReconstruction p lost reads) s.m :=
  (congrArg State.m (Host.Outcome.next.inj hexec)).symm

/-- A line of tower 15's SRAM that reads with three wrong symbols, and so comes poisoned (R114). -/
def poisonedRead : LineRead := { tag := 1, addr := 0x1FFDFF, word := [], flips := [(4, 14), (6, 6), (30, 5)], use := 0 }

/-- A line that waits for reconstruction. -/
def waitingLine : Line :=
  { frame := 0, idx := 0, seq := 0, on := true, w := 10, t := 5, arr := 6, lost := false, pres := (0, 0), bgInv := 0, px := [[1, 2, 3]], col := [] }

/-- Tower 15 alone is in service, and its counter 0 counts poisoned lines consumed, code 0x0C of R456; port 0 has a line. -/
def countingMod : Mod :=
  { bist := { phase := .running }, cams := [{ inService := true, clock := true, lines := [waitingLine] }],
    cell := { towers := List.replicate 15 {} ++ [{ ok := true }] }, perf := { sel := [(P.perfTSel.addr 15 0, 0x0C)] } }

/-- Every stage runs on the one tower in service. -/
theorem countingMod_physTower (j : Nat) : (countingMod.at 0).physTower j = 15 := by
  have hok : (countingMod.at 0).towersOk = [15] := by decide
  unfold Mod.physTower
  rw [hok, List.length_singleton, Nat.mod_one]
  rfl

/-- The poisoned line is data, and tower 15 counts it. -/
theorem countingMod_reads : ((countingMod.at 0).jobReads 15 [poisonedRead]).both = false
    ∧ ((countingMod.at 0).jobReads 15 [poisonedRead]).m.perf.live = [(P.perfTCntLo.addr 15 0, 1)]
    ∧ ((countingMod.at 0).takeLines [poisonedRead]).2 ≠ [] := by
  decide +kernel

/-- Refutes O29: the tower that consumes a poisoned line counts it in a performance counter that selects this event (R456), and the
statement's frame does not name the performance counters. -/
theorem not_linesAreReconstructedAndResampled : ¬ Obligations.LinesAreReconstructedAndResampled := by
  intro h
  obtain ⟨hboth, hcount, hbad⟩ := countingMod_reads
  have hdata : ∀ r ∈ [poisonedRead], r.use = 0 := List.forall_mem_singleton.2 rfl
  obtain ⟨hrecon, -⟩ := h { m := countingMod } 0 0 [poisonedRead] waitingLine [] (by decide) hdata
  obtain ⟨hpoisoned, -⟩ := hrecon rfl
  obtain ⟨m', hexec, -, -, hframe⟩ := hpoisoned false (.inr (.inl hbad))
  obtain rfl := exec_colourReconstruction_leaves hexec
  have hperf := colourReconstruction_perf (m := countingMod.at 0) (p := 0) false (List.cons_ne_nil waitingLine []) (countingMod_physTower _) hboth
  have hkept := hframe.areas .perf (by decide)
  rw [Area.same, Mod.run_perf, hperf] at hkept
  rw [hkept] at hcount
  exact absurd hcount (by decide)

end Sys2Proof.Machine
end

section
/-!
PROOFS. The statements of 04_background_panels.md. What a change leaves of one panel, of the others and of the rest of the module; then what
each command of a panel leaves of it, case by case of its meaning.
-/
namespace Sys2Proof.Machine

/-! ### Panels (chapter 4) -/

theorem Mod.panel_congr {a b : Mod} (h : b.panels = a.panels) (n : Nat) : b.panel n = a.panel n := by unfold Mod.panel; rw [h]

@[simp] theorem Mod.panel_at (m : Mod) (t n : Nat) : (m.at t).panel n = m.panel n := Mod.panel_congr rfl n
@[simp] theorem Mod.panel_run (t : Nat) (f : Mod → Mod) (m : Mod) (n : Nat) : (Mod.run t f m).panel n = (f (m.at t)).panel n :=
  Mod.panel_congr (Mod.run_panels t f m) n

theorem Mod.panel_setPanel_ne (m : Mod) {n k : Nat} (h : k ≠ n) (f : Panel → Panel) : (m.setPanel n f).panel k = m.panel k := by
  simp [Mod.panel, Mod.setPanel, updAt, List.getD_eq_getElem?_getD, Ne.symm h]

@[simp] theorem Mod.panel_setPanel {m : Mod} {n : Nat} (h : n < m.panels.length) (f : Panel → Panel) :
    (m.setPanel n f).panel n = f (m.panel n) := by
  simp [Mod.panel, Mod.setPanel, updAt, h]

@[simp] theorem Mod.rd_setPanel (m : Mod) (n : Nat) (f : Panel → Panel) (q : Param) (i j : Nat) : (m.setPanel n f).rd q i j = m.rd q i j :=
  Mod.rd_congr rfl q i j

/-- Two changes of a panel are one. -/
theorem Mod.setPanel_setPanel (m : Mod) (n : Nat) (f g : Panel → Panel) : (m.setPanel n f).setPanel n g = m.setPanel n (fun p => g (f p)) := by
  simp only [Mod.setPanel, updAt, List.modify_modify_eq]
  rfl

/-- Panel `n` has become `p`; of the rest of the module only the areas and the words listed change. -/
structure Mod.PanelTo (n : Nat) (as : List Area) (ws : List Nat) (p : Panel) (a b : Mod) : Prop where
  panel : b.panel n = p
  others : ∀ k, k ≠ n → b.panel k = a.panel k
  count : b.panels.length = a.panels.length
  within : Mod.Within (.panels :: as) ws a b

section
variable {n : Nat} {as : List Area} {ws : List Nat} {p : Panel} {a b c : Mod}

theorem Mod.PanelTo.refl (m : Mod) : Mod.PanelTo n as ws (m.panel n) m m := ⟨rfl, fun _ _ => rfl, rfl, .refl m⟩

/-- A change that keeps the panels. -/
theorem Mod.PanelTo.apart (h : Mod.PanelTo n as ws p a b) (hpanels : c.panels = b.panels) (hwithin : Mod.Within (.panels :: as) ws b c) :
    Mod.PanelTo n as ws p a c :=
  ⟨(Mod.panel_congr hpanels n).trans h.panel, fun k hk => (Mod.panel_congr hpanels k).trans (h.others k hk),
   (congrArg List.length hpanels).trans h.count, h.within.trans hwithin⟩

theorem Mod.PanelTo.mono {ws' : List Nat} (h : Mod.PanelTo n as ws p a b) (hw : ws ⊆ ws') : Mod.PanelTo n as ws' p a b :=
  ⟨h.panel, h.others, h.count, h.within.mono (List.Subset.refl _) hw⟩

theorem Mod.PanelTo.setPanel (h : Mod.PanelTo n as ws p a b) (hn : n < a.panels.length) (f : Panel → Panel) :
    Mod.PanelTo n as ws (f p) a (b.setPanel n f) where
  panel := (Mod.panel_setPanel (h.count.symm ▸ hn) f).trans (congrArg f h.panel)
  others k hk := (Mod.panel_setPanel_ne b hk f).trans (h.others k hk)
  count := (List.length_modify _ _ _).trans h.count
  within := h.within.trans (.setPanel b n f (by simp))

theorem Mod.PanelTo.raise (h : Mod.PanelTo n as ws p a b) (src code : Nat) (d : List Byte) : Mod.PanelTo n as ws p a (b.raise src code d) :=
  h.apart rfl (.raise _ _ _ _)

theorem Mod.PanelTo.inc (h : Mod.PanelTo n as ws p a b) (q : Param) (i k j : Nat) (hq : q.addr i j ∈ ws) :
    Mod.PanelTo n as ws p a (b.inc q i k j) := h.apart rfl (.inc _ _ _ _ _ hq)

theorem Mod.PanelTo.ask (h : Mod.PanelTo n as ws p a b) (who : Asker) (cls : Nat) (bud : Budget) (key amount : Nat) (htoll : Area.toll ∈ as) :
    Mod.PanelTo n as ws p a (b.ask who cls bud key amount) :=
  h.apart (Mod.ask_panels b who cls bud key amount) (.ask _ _ _ _ _ _ (List.mem_cons_of_mem _ htoll))

theorem Mod.PanelTo.unask (h : Mod.PanelTo n as ws p a b) (who : Asker) (htoll : Area.toll ∈ as) : Mod.PanelTo n as ws p a (b.unask who) :=
  h.apart rfl (.unask _ _ (List.mem_cons_of_mem _ htoll))

end

/-- A command that changes one panel answers with what its meaning leaves of it, the other panels and the frame. -/
theorem Mod.PanelTo.yields {s : State} {c : Instr} {t n : Nat} {as : List Area} {ws : List Nat} {p : Panel} {f : Mod → Mod} {Q : Mod → Prop}
    (h : Mod.PanelTo n as ws p (s.m.at t) (f (s.m.at t))) (hexec : exec c s = s.run t f)
    (hQ : (Mod.run t f s.m).panel n = p → (∀ k, k ≠ n → (Mod.run t f s.m).panel k = s.m.panel k)
      → Mod.Frame t (.panels :: as) ws s.m (Mod.run t f s.m) → Q (Mod.run t f s.m)) : s.Yields c Q :=
  ⟨_, hexec, hQ ((Mod.panel_run t f s.m n).trans h.panel) (fun k hk => (Mod.panel_run t f s.m k).trans (h.others k hk)) h.within.frame⟩

theorem Mod.PanelTo.yields_panel {s : State} {c : Instr} {t n : Nat} {as : List Area} {ws : List Nat} {p : Panel} {f : Mod → Mod}
    (h : Mod.PanelTo n as ws p (s.m.at t) (f (s.m.at t))) (hexec : exec c s = s.run t f) :
    s.Yields c fun m' => m'.panel n = p ∧ (∀ k, k ≠ n → m'.panel k = s.m.panel k) ∧ Mod.Frame t (.panels :: as) ws s.m m' :=
  h.yields hexec fun hpanel hothers hframe => ⟨hpanel, hothers, hframe⟩

/-! ### The words of a panel -/

theorem bgWord_ne_loopFlags {q : Param} {n : Nat} (hn : n < 2) (hstep : q.s1 = 0x40) (hbase : q.base < 0x09000000) :
    q.addr n ≠ P.loopFlags.addr := by
  simp only [Param.addr, hstep, P.loopFlags]
  omega

/-! ### A region's frame (R90, R91, R96) -/

/-- The region's frame is whole on the link with the codes of now, and its back-buffer CRC is asked for. -/
def Panel.regionSent (p : Panel) (m : Mod) (n r : Nat) : Panel :=
  { p with out := p.out ++ [m.writeFrame n r, panelFrame 3 r [0]], linkFree := m.now,
           groups := changeFirst (fun g => g.stands r .queued) (fun g => g.setRegion r (fun x =>
             { x with stage := .written, crc := crc32 (packCodes (m.regionCodes n r)), sum := sumOf (m.regionCodes n r) })) p.groups }

section
variable {m : Mod} {n r : Nat}

theorem panelRegionWritten_of_presenting (h : (m.panel n).presenting r = true) : panelRegionWritten n r m = m := by
  simp [panelRegionWritten, h]

theorem panelRegionWritten_of_due {g : PGroup} (hup : (m.panel n).linkUp = true) (hfree : (m.panel n).presenting r = false)
    (hg : (m.panel n).groups.find? (fun g => g.stands r .queued) = some g)
    (hdue : Nat.max (m.panel n).linkFree (g.since r) + writeFrameNs ≤ m.now) :
    panelRegionWritten n r m = m.setPanel n (fun p => p.regionSent m n r) := by
  have hsome : ((m.panel n).groups.find? (fun g => g.stands r .queued)).any
      (fun g => decide (Nat.max (m.panel n).linkFree (g.since r) + writeFrameNs ≤ m.now)) = true := by
    rw [hg, Option.any_some, decide_eq_true_eq]
    exact hdue
  unfold panelRegionWritten
  simp only [hup, hfree, hsome, Bool.not_false, Bool.and_self, if_true, Mod.regionSum, Mod.panelSend, Mod.setPanel_setPanel]
  rfl

end

/-! ### Selection (R95, R97) -/

/-- The groups that may be selected, with the IREF value in force (R95). -/
def Mod.candidates (m : Mod) (n : Nat) : List PGroup :=
  ((m.panel n).groups.filter (m.mayShow n)).map (fun g => { g with irefV := m.rd P.bgIref n })

/-- The selection for the coming boundary is made: what becomes of the groups that may be selected. -/
def Panel.picks (p : Panel) (m : Mod) (n : Nat) (f : PGroup → PGroup) : Panel :=
  { p with picked := p.boundaries + 1, groups := p.groups.map (fun g => if m.mayShow n g then f { g with irefV := m.rd P.bgIref n } else g) }

/-- A group for which the toll gate is asked, again where it was asked before (R97). -/
def PGroup.asks (g : PGroup) : PGroup := { g with asked := true, retries := if g.asked then g.retries + 1 else g.retries }

section
variable {m : Mod} {n : Nat}

theorem Mod.mem_candidates {g : PGroup} (hg : g ∈ (m.panel n).groups) (hshow : m.mayShow n g = true) :
    { g with irefV := m.rd P.bgIref n } ∈ m.candidates n :=
  List.mem_map_of_mem (f := fun g : PGroup => { g with irefV := m.rd P.bgIref n }) (List.mem_filter.2 ⟨hg, hshow⟩)

/-- What becomes of the groups that may be selected is all that counts. -/
theorem Panel.picks_congr {f f' : PGroup → PGroup} (h : ∀ g ∈ m.candidates n, f g = f' g) : (m.panel n).picks m n f = (m.panel n).picks m n f' := by
  unfold Panel.picks
  congr 1
  refine List.map_congr_left fun g hg => ?_
  split
  · next hshow => exact h _ (Mod.mem_candidates hg hshow)
  · rfl

/-- Where no group may be selected, all stand as they did. -/
theorem Panel.picks_of_none (h : m.candidates n = []) (f : PGroup → PGroup) :
    (m.panel n).picks m n f = { m.panel n with picked := (m.panel n).boundaries + 1 } := by
  have hnone : ∀ g ∈ (m.panel n).groups, m.mayShow n g = false := fun g hg =>
    Bool.eq_false_iff.2 fun hshow => List.ne_nil_of_mem (Mod.mem_candidates hg hshow) h
  have hgroups : (m.panel n).groups.map (fun g => if m.mayShow n g then f { g with irefV := m.rd P.bgIref n } else g) = (m.panel n).groups :=
    (List.map_congr_left fun g hg => by simp [hnone g hg]).trans (List.map_id _)
  unfold Panel.picks
  rw [hgroups]

end

/-- A panel in service is at most 5 µs before its next boundary, for which no selection has been made yet (R95). -/
structure Mod.Selects (m : Mod) (n : Nat) : Prop where
  running : m.running = true
  linkUp : (m.panel n).linkUp = true
  usable : (m.panel n).unusable = false
  unpicked : (m.panel n).picked ≤ (m.panel n).boundaries
  due : m.loadAt (m.panel n).boundaries ≤ m.now + 5000

section
variable {m : Mod} {n : Nat}

/-- The guard of a selection, once for its three outcomes. -/
theorem Mod.Selects.guard (h : m.Selects n) :
    (!m.running || !(m.panel n).linkUp || (m.panel n).unusable || decide ((m.panel n).boundaries < (m.panel n).picked)
      || decide (m.now + 5000 < m.loadAt (m.panel n).boundaries)) = false := by
  simp [h.running, h.linkUp, h.usable, Nat.not_lt.2 h.unpicked, Nat.not_lt.2 h.due]

theorem panelSelection_of_fits (h : m.Selects n) (hn : n < m.panels.length)
    (hfits : m.panelAfterMa n (m.candidates n) ≤ (m.panel n).standing ∨ m.candidates n = []) :
    Mod.PanelTo n [] [] ((m.panel n).picks m n (fun g => { g with selected := true })) m (panelSelection n m) := by
  have hpicked := (Mod.PanelTo.refl (n := n) (as := []) (ws := []) m).setPanel hn (fun p => { p with picked := p.boundaries + 1 })
  by_cases hnone : m.candidates n = []
  · rw [Panel.picks_of_none hnone]
    unfold Mod.candidates at hnone
    simp only [panelSelection, h.guard, hnone, Bool.false_eq_true, if_false, if_true]
    exact hpicked
  · have hle := hfits.resolve_right hnone
    have hselected := (Mod.PanelTo.refl (n := n) (as := []) (ws := []) m).setPanel hn (fun p => p.picks m n (fun g => { g with selected := true }))
    unfold Mod.candidates at hnone hle
    simp only [panelSelection, h.guard, hnone, hle, Bool.false_eq_true, if_false, if_true, Mod.setPanel_setPanel]
    exact hselected

/-- An increase of current is asked for (R97). -/
theorem panelSelection_of_rise (h : m.Selects n) (hsome : m.candidates n ≠ [])
    (hrise : (m.panel n).standing < m.panelAfterMa n (m.candidates n)) (hnew : ∀ g ∈ m.candidates n, g.asked = false) :
    panelSelection n m = (m.setPanel n (fun p => p.picks m n PGroup.asks)).ask (.panel n) 2 .panel (m.loadAt (m.panel n).boundaries)
      (m.panelAfterMa n (m.candidates n) - (m.panel n).standing) := by
  have hagain : (m.candidates n).filter (·.asked) = [] := List.filter_eq_nil_iff.2 fun g hg => by simp [hnew g hg]
  have hle := Nat.not_le.2 hrise
  unfold Mod.candidates at hsome hle hagain ⊢
  simp only [panelSelection, h.guard, hsome, hle, hagain, Bool.false_eq_true, if_false, List.foldl_nil, Mod.setPanel_setPanel]
  rfl

/-- Groups that ask for the first time count no retry. -/
theorem Panel.picks_asks (hnew : ∀ g ∈ m.candidates n, g.asked = false) :
    (m.panel n).picks m n PGroup.asks = (m.panel n).picks m n (fun g => { g with asked := true }) :=
  Panel.picks_congr fun g hg => by simp [PGroup.asks, hnew g hg]

end

/-! ### ENABLE (R98, R100, R101) -/

theorem Mod.mayLight_of_down {m : Mod} {n : Nat} (h : (m.panel n).linkUp = false) : m.mayLight n = false := by
  simp [Mod.mayLight, h]

/-- A panel that may not be lit is dark. -/
theorem Mod.panelEnable_of_dark {m : Mod} {n : Nat} (h : m.mayLight n = false) :
    m.panelEnable n = m.setPanel n (fun p => { p with enable := false }) := by
  simp [Mod.panelEnable, h]

theorem Mod.PanelTo.panelEnable {n : Nat} {as : List Area} {ws : List Nat} {p : Panel} {a b : Mod} (h : Mod.PanelTo n as ws p a b)
    (hn : n < a.panels.length) : ∃ e, Mod.PanelTo n as ws { p with enable := e } a (b.panelEnable n) := by
  unfold Mod.panelEnable
  extract_lets ok mode
  exact ⟨_, h.setPanel hn (fun p => { p with enable := ok && (if mode = 1 then true else if mode = 2 then p.enable && b.enHigh else false) })⟩

theorem panelEnableEdge_panelTo {m : Mod} {n : Nat} (hn : n < m.panels.length) (rise : Bool) :
    Mod.PanelTo n [] [] (if m.rd P.bgMode = 2 ∧ m.running = true ∧ rise = m.enHigh then { m.panel n with enable := rise && m.mayLight n } else m.panel n)
      m (panelEnableEdge n rise m) := by
  unfold panelEnableEdge
  by_cases hedge : m.rd P.bgMode = 2 ∧ m.running = true ∧ rise = m.enHigh
  · rw [if_pos hedge, if_pos (by simp [hedge])]
    exact (Mod.PanelTo.refl m).setPanel hn (fun p => { p with enable := rise && m.mayLight n })
  · rw [if_neg hedge, if_neg (by simpa [and_assoc] using hedge)]
    exact .refl m

/-! ### Load boundaries (R95, R97, R99, R100) -/

/-- The regions of the groups that are selected (R95). -/
def Panel.chosen (p : Panel) : List PRegion := (p.groups.filter (·.selected)).flatMap (fun g => g.regions)

/-- One LOAD presents the groups selected on the panel of a module, whole, with the IREF that they were selected with (R95, R97). -/
def Panel.presents (p : Panel) (m : Mod) (n : Nat) : Panel :=
  let new := (m.panel n).chosen
  { p with boundaries := (m.panel n).boundaries + 1, pledged := 0, out := p.out ++ [panelFrame 2 0 [maskOf (new.map (·.r))]],
           groups := (p.groups.filter (fun g => !g.selected)).map (·.waited (new.map (·.r)) m.now),
           front := new.foldl (fun f x => (f.filter (fun e => e.1 ≠ x.r)) ++ [(x.r, x.crc, x.sum)]) (m.panel n).front,
           shown := true, standing := m.panelAfterMa n ((m.panel n).groups.filter (·.selected)),
           iref := p.irefAfter ((m.panel n).groups.filter (·.selected)) }

/-- The front buffer that is read next (R100). -/
def Mod.readTurn (m : Mod) (n : Nat) : Nat := if (m.panel n).nextRead < m.panelRegions n then (m.panel n).nextRead else 0

/-- The CRC of one front buffer is asked for (R100). -/
def Panel.reads (p : Panel) (m : Mod) (n : Nat) : Panel :=
  { p with boundaries := (m.panel n).boundaries + 1, pledged := 0, out := p.out ++ [panelFrame 3 (m.readTurn n) [1]], reading := some (m.readTurn n),
           nextRead := if m.readTurn n + 1 < m.panelRegions n then m.readTurn n + 1 else 0 }

/-- A panel in service, none of whose regions is faulty, has reached its next boundary (R95, R100). -/
structure Mod.Loads (m : Mod) (n : Nat) : Prop where
  running : m.running = true
  used : m.panelUsed n = true
  due : m.loadAt (m.panel n).boundaries ≤ m.now
  linkUp : (m.panel n).linkUp = true
  usable : (m.panel n).unusable = false
  clean : (m.panel n).faulty = []

section
variable {m : Mod} {n : Nat}

theorem Mod.Loads.guard (h : m.Loads n) :
    (!m.running || !m.panelUsed n || decide (m.now < m.loadAt (m.panel n).boundaries)) = false := by
  simp [h.running, h.used, Nat.not_lt.2 h.due]

theorem Mod.Loads.served (h : m.Loads n) : (!(m.panel n).linkUp || (m.panel n).unusable) = false := by simp [h.linkUp, h.usable]

theorem Mod.Loads.repaired (h : m.Loads n) : decide ((m.panel n).faulty ≠ []) = false := by simp [h.clean]

theorem panelLoadBoundary_of_some (h : m.Loads n) (hsel : (m.panel n).groups.filter (·.selected) ≠ []) :
    panelLoadBoundary n m = ((((m.unask (.panel n)).setPanel n (fun p => p.presents m n)).inc P.bgPresentSeq n).inc P.bgUpdates n
      (m.panel n).chosen.length).panelEnable n := by
  unfold panelLoadBoundary
  simp only [h.guard, h.served, h.repaired, hsel, Bool.and_false, Bool.false_eq_true, if_false, Mod.panelSend, Mod.setPanel_setPanel]
  rfl

theorem panelLoadBoundary_of_none (h : m.Loads n) (hsel : (m.panel n).groups.filter (·.selected) = []) :
    panelLoadBoundary n m = ((m.unask (.panel n)).setPanel n (fun p => p.reads m n)).panelEnable n := by
  unfold panelLoadBoundary
  simp only [h.guard, h.served, h.repaired, hsel, Bool.and_false, Bool.false_eq_true, if_false, if_true, Mod.panelSend, Mod.setPanel_setPanel]
  rfl

end

/-! ### Status frames and readback (R92, R100) -/

/-- What a status word says of the panel (R92). -/
def Panel.heardAs (p : Panel) (status now : Nat) : Panel :=
  { p with overtemp := status.testBit 31, uv := status.testBit 30, sinkFault := status.testBit 29, failedEmitters := field status 28 16,
           temp := sext 8 (field status 15 8), heard := now }

/-- A region that awaits its back buffer's CRC after the reply for it (R100). -/
def Panel.answered (p : Panel) (r : Nat) (f : PRegion → PRegion) : Panel :=
  { p with groups := changeFirst (fun g => g.stands r .written) (fun g => g.setRegion r f) p.groups }

theorem changeFirst_singleton {c : PGroup → Bool} {g : PGroup} (h : c g = true) (f : PGroup → PGroup) : changeFirst c f [g] = [f g] := by
  simp [changeFirst, h]

theorem PGroup.setRegion_of_one {g : PGroup} {x : PRegion} (h : g.regions = [x]) (f : PRegion → PRegion) :
    g.setRegion x.r f = { g with regions := [f x] } := by
  simp [PGroup.setRegion, h]

theorem PGroup.stands_of_one {g : PGroup} {x : PRegion} (h : g.regions = [x]) : g.stands x.r x.stage = true := by
  simp [PGroup.stands, h]

theorem Panel.find_written_of_one {p : Panel} {g : PGroup} {x : PRegion} (hgroups : p.groups = [g]) (hregions : g.regions = [x])
    (hstage : x.stage = .written) : p.groups.find? (fun g => g.stands x.r .written) = some g := by
  rw [hgroups, List.find?_singleton, ← hstage, PGroup.stands_of_one hregions, if_pos rfl]

/-- The one group of a panel, of one region that awaits its CRC, after the reply for it. -/
theorem Panel.answered_of_one {p : Panel} {g : PGroup} {x : PRegion} (hgroups : p.groups = [g]) (hregions : g.regions = [x])
    (hstage : x.stage = .written) (f : PRegion → PRegion) : (p.answered x.r f).groups = [{ g with regions := [f x] }] := by
  have hstands : g.stands x.r .written = true := hstage ▸ PGroup.stands_of_one hregions
  unfold Panel.answered
  rw [hgroups, changeFirst_singleton hstands, PGroup.setRegion_of_one hregions]

section
variable {m : Mod} {n : Nat}

/-- A status word is taken before the replies of its frame, whether it tells of a fault or not (R92, R101). -/
theorem Mod.panelStatus_of_up (status : Nat) (hn : n < m.panels.length) (hused : m.panelUsed n = true) (hup : (m.panel n).linkUp = true)
    (husable : (m.panel n).unusable = false) : ∃ b, Mod.PanelTo n [] [] ((m.panel n).heardAs status m.now) m b
      ∧ ∀ replies, m.panelStatus n status replies
        = replies.foldl (fun m x => if x.2.1 then m.frontReply n x.1 x.2.2 else m.backReply n x.1 x.2.2) b := by
  have hguard : (!m.panelUsed n || !(m.panel n).linkUp || (m.panel n).unusable) = false := by simp [hused, hup, husable]
  have hheard := (Mod.PanelTo.refl (n := n) (as := []) (ws := []) m).setPanel hn (fun p => p.heardAs status m.now)
  unfold Mod.panelStatus
  simp only [hguard, Bool.false_eq_true, if_false]
  refine ⟨_, ?_, fun replies => rfl⟩
  split
  · exact hheard.raise _ _ _
  · exact hheard

variable {g : PGroup} {x : PRegion}

/-- A reply that agrees confirms the one region that awaits its CRC (R100). -/
theorem Mod.backReply_of_match {crc : Nat} (hgroups : (m.panel n).groups = [g]) (hregions : g.regions = [x]) (hstage : x.stage = .written)
    (hcrc : x.crc = crc) : m.backReply n x.r crc = (m.setPanel n (fun p => p.answered x.r (fun x => { x with stage := .confirmed }))).panelClean n x.r := by
  have hfind := Panel.find_written_of_one hgroups hregions hstage
  unfold Mod.backReply
  simp only [hfind, hregions, hcrc, List.find?_singleton, decide_true, if_true, Option.getD_some]
  rfl

/-- One that differs has it written again (R100). -/
theorem Mod.backReply_of_mismatch {crc : Nat} (hgroups : (m.panel n).groups = [g]) (hregions : g.regions = [x]) (hstage : x.stage = .written)
    (hcrc : x.crc ≠ crc) (htries : x.tries < 2) : m.backReply n x.r crc
      = ((m.inc P.bgCrcFails n).raise (24 + n) 0x0120 (leBytes 1 x.r ++ leBytes 1 (x.tries + 1))).setPanel n
        (fun p => p.answered x.r (fun x => { x with stage := .queued, tries := x.tries + 1 })) := by
  have hfind := Panel.find_written_of_one hgroups hregions hstage
  unfold Mod.backReply
  simp only [hfind, hregions, hcrc, htries, List.find?_singleton, decide_true, if_true, if_false, Option.getD_some]
  rfl

end

/-- A clean readback of a region that is not faulty changes nothing. -/
theorem Mod.panelClean_of_clean {m : Mod} {n : Nat} (h : (m.panel n).faulty = []) (r : Nat) : m.panelClean n r = m := by
  simp [Mod.panelClean, h]

/-! ### The link (R92, R101) -/

/-- The link is lost: the panel is dark, and the link is next retried in 10 ms. -/
def Panel.lost (p : Panel) (now : Nat) : Panel := { p with linkUp := false, reading := none, enable := false, retryAt := now + 10000000 }

/-- The link is back: every region is to be written anew, as one group, and presented. -/
def Panel.back (p : Panel) (m : Mod) (n : Nat) : Panel :=
  { p with linkUp := true, heard := m.now, shown := false, reading := none, frontMiss := [],
           groups := [{ regions := (List.range (m.panelRegions n)).map (PRegion.fresh · m.now), iref := true, selected := false, asked := false,
                        granted := false, retries := 0, at_ := m.now, first := false }] }

section
variable {m : Mod} {n : Nat}

theorem panelLinkDown_of_silent (hn : n < m.panels.length) (hused : m.panelUsed n = true) (hup : (m.panel n).linkUp = true)
    (hsilent : (m.panel n).heard + 100000 ≤ m.now) : Mod.PanelTo n [] [] ((m.panel n).lost m.now) m (panelLinkDown n m) := by
  have hdown := (Mod.PanelTo.refl (n := n) (as := []) (ws := []) m).setPanel hn
    (fun p => { p with linkUp := false, reading := none, retryAt := m.now + 10000000 })
  have hdark := Mod.panelEnable_of_dark (Mod.mayLight_of_down (congrArg Panel.linkUp hdown.panel))
  unfold panelLinkDown
  rw [if_pos (by simp [hused, hup, hsilent]), hdark]
  exact (hdown.setPanel hn (fun p => { p with enable := false })).raise _ _ _

theorem panelLinkRetry_of_down {up : Bool} (hused : m.panelUsed n = true) (hup : (m.panel n).linkUp = false)
    (husable : (m.panel n).unusable = false) (hdue : (m.panel n).retryAt ≤ m.now) :
    panelLinkRetry n up m = if up then ((m.unask (.panel n)).setPanel n (fun p => p.back m n)).raise (24 + n) 0x0124
      else m.setPanel n (fun p => { p with retryAt := p.retryAt + 10000000 }) := by
  have hguard : (!m.panelUsed n || (m.panel n).linkUp || (m.panel n).unusable || decide (m.now < (m.panel n).retryAt)) = false := by
    simp [hused, hup, husable, Nat.not_lt.2 hdue]
  unfold panelLinkRetry
  simp only [hguard, Bool.false_eq_true, if_false, Mod.panelAll, Mod.setPanel_setPanel]
  rfl

end

/-! ### Requests at the toll gate (R97, R244) -/

theorem Mod.asking_congr {a b : Mod} (h : b.toll = a.toll) (who : Asker) : b.asking who = a.asking who := by unfold Mod.asking; rw [h]

theorem Mod.asking_unask (m : Mod) (who : Asker) : (m.unask who).asking who = false := by simp [Mod.asking, Mod.unask]

/-- A command whose meaning withdraws a request leaves none. -/
theorem Mod.run_asking_of_unask {t : Nat} {f : Mod → Mod} {m : Mod} {who : Asker} (h : (f (m.at t)).toll = ((m.at t).unask who).toll) :
    (Mod.run t f m).asking who = false :=
  (Mod.asking_congr ((Mod.run_toll t f m).trans h) who).trans (Mod.asking_unask _ who)

theorem Mod.ask_toll_of_not_asking {m : Mod} {who : Asker} (h : m.asking who = false) (cls : Nat) (b : Budget) (key amount : Nat) :
    (m.ask who cls b key amount).toll = { m.toll with reqs := m.toll.reqs ++
      [{ who := who, cls := cls, budget := b, key := key, amount := amount, at_ := m.now }] } := by
  unfold Mod.asking at h
  simp only [Mod.ask, h, Bool.false_eq_true, if_false]

/-! ### The commands -/

section
variable {s : State} {t n : Nat}

theorem panelRegionWritten_presenting_yields {r : Nat} (h : (s.m.panel n).presenting r = true) : s.Yields (.panelRegionWritten t n r) fun m' =>
    (∀ k, m'.panel k = s.m.panel k) ∧ Mod.Frame t [] [] s.m m' := by
  have hmean := panelRegionWritten_of_presenting (m := s.m.at t) h
  exact State.yields_frame (f := panelRegionWritten n r) rfl (hmean.symm ▸ .refl _) fun k => by rw [Mod.panel_run, hmean, Mod.panel_at]

theorem panelRegionWritten_due_yields {r : Nat} {g : PGroup} (hn : n < s.m.panels.length) (hup : (s.m.panel n).linkUp = true)
    (hfree : (s.m.panel n).presenting r = false) (hg : (s.m.panel n).groups.find? (fun g => g.stands r .queued) = some g)
    (hdue : Nat.max (s.m.panel n).linkFree (g.since r) + writeFrameNs ≤ (s.m.at t).now) : s.Yields (.panelRegionWritten t n r) fun m' =>
      m'.panel n = (s.m.panel n).regionSent (s.m.at t) n r ∧ (∀ k, k ≠ n → m'.panel k = s.m.panel k) ∧ Mod.Frame t [.panels] [] s.m m' := by
  have hmean := panelRegionWritten_of_due (m := s.m.at t) hup hfree hg hdue
  exact Mod.PanelTo.yields_panel (f := panelRegionWritten n r)
    (hmean ▸ (Mod.PanelTo.refl (s.m.at t)).setPanel hn (fun p => p.regionSent (s.m.at t) n r)) rfl

theorem panelSelection_fits_yields (h : (s.m.at t).Selects n) (hn : n < s.m.panels.length)
    (hfits : (s.m.at t).panelAfterMa n ((s.m.at t).candidates n) ≤ (s.m.panel n).standing ∨ (s.m.at t).candidates n = []) :
    s.Yields (.panelSelection t n) fun m' =>
      m'.panel n = (s.m.panel n).picks (s.m.at t) n (fun g => { g with selected := true })
      ∧ (∀ k, k ≠ n → m'.panel k = s.m.panel k) ∧ Mod.Frame t [.panels] [] s.m m' :=
  (panelSelection_of_fits h hn hfits).yields_panel (f := panelSelection n) rfl

theorem panelSelection_rise_yields (h : (s.m.at t).Selects n) (hn : n < s.m.panels.length) (hsome : (s.m.at t).candidates n ≠ [])
    (hrise : (s.m.panel n).standing < (s.m.at t).panelAfterMa n ((s.m.at t).candidates n))
    (hnew : ∀ g ∈ (s.m.at t).candidates n, g.asked = false) (hfree : s.m.asking (.panel n) = false) :
    s.Yields (.panelSelection t n) fun m' =>
      m'.panel n = (s.m.panel n).picks (s.m.at t) n (fun g => { g with asked := true })
      ∧ (∃ q : TollReq, m'.toll = { s.m.toll with reqs := s.m.toll.reqs ++ [q] } ∧ q.who = .panel n ∧ q.cls = 2 ∧ q.budget = .panel
          ∧ q.amount = (s.m.at t).panelAfterMa n ((s.m.at t).candidates n) - (s.m.panel n).standing
          ∧ q.key = (s.m.at t).loadAt (s.m.panel n).boundaries ∧ q.at_ = (s.m.at t).now)
      ∧ (∀ k, k ≠ n → m'.panel k = s.m.panel k) ∧ Mod.Frame t [.panels, .toll] [] s.m m' := by
  have hmean := panelSelection_of_rise h hsome hrise hnew
  have hasked := (Mod.PanelTo.refl (n := n) (as := [.toll]) (ws := []) (s.m.at t)).setPanel hn (fun p => p.picks (s.m.at t) n PGroup.asks)
  have hfree : ((s.m.at t).setPanel n (fun p => p.picks (s.m.at t) n PGroup.asks)).asking (.panel n) = false := hfree
  have htoll := (Mod.run_toll t (panelSelection n) s.m).trans ((congrArg Mod.toll hmean).trans (Mod.ask_toll_of_not_asking hfree _ _ _ _))
  exact Mod.PanelTo.yields (f := panelSelection n) (hmean ▸ hasked.ask _ _ _ _ _ (by simp)) rfl fun hpanel hothers hframe =>
    ⟨hpanel.trans (Panel.picks_asks hnew), ⟨_, htoll, rfl, rfl, rfl, rfl, rfl, rfl⟩, hothers, hframe⟩

theorem panelLoadBoundary_presents_yields (h : (s.m.at t).Loads n) (hn : n < s.m.panels.length) (hs : s.Canonical) (hn2 : n < 2)
    (hsel : (s.m.panel n).groups.filter (·.selected) ≠ []) : s.Yields (.panelLoadBoundary t n) fun m' =>
      (∃ e, m'.panel n = { (s.m.panel n).presents (s.m.at t) n with enable := e }) ∧ m'.asking (.panel n) = false
      ∧ m'.rd P.bgPresentSeq n = (s.m.rd P.bgPresentSeq n + 1) % 2 ^ P.bgPresentSeq.w % 2 ^ 32
      ∧ m'.rd P.bgUpdates n = (s.m.rd P.bgUpdates n + (s.m.panel n).chosen.length) % 2 ^ P.bgUpdates.w % 2 ^ 32
      ∧ (∀ k, k ≠ n → m'.panel k = s.m.panel k) ∧ Mod.Frame t [.panels, .toll] [P.bgPresentSeq.addr n, P.bgUpdates.addr n] s.m m' := by
  have hmean := panelLoadBoundary_of_some h hsel
  have happly : Mod.PanelTo n [.toll] [P.bgPresentSeq.addr n, P.bgUpdates.addr n] _ (s.m.at t) _ :=
    ((((Mod.PanelTo.refl (s.m.at t)).unask (.panel n) (by simp)).setPanel hn (fun p => p.presents (s.m.at t) n)).inc P.bgPresentSeq n 1 0
      (by simp)).inc P.bgUpdates n ((s.m.at t).panel n).chosen.length 0 (by simp)
  obtain ⟨e, hlit⟩ := happly.panelEnable hn
  have hapart : P.bgPresentSeq.addr n ≠ P.bgUpdates.addr n := camWord_ne P.bgPresentSeq P.bgUpdates (by decide) rfl n
  have hcounted : Store.wf ((((s.m.at t).unask (.panel n)).setPanel n (fun p => p.presents (s.m.at t) n)).inc P.bgPresentSeq n).regs = true :=
    Mod.inc_wf (m := ((s.m.at t).unask (.panel n)).setPanel n _) hs _ _ _ _
  refine Mod.PanelTo.yields (f := panelLoadBoundary n) (hmean ▸ hlit) rfl
    fun hpanel hothers hframe => ⟨⟨e, hpanel⟩, Mod.run_asking_of_unask (by rw [hmean]; rfl), ?_, ?_, hothers, hframe⟩
  · rw [Mod.run_rd_other t _ s.m (bgWord_ne_loopFlags hn2 rfl (by decide)), hmean, Mod.panelEnable, Mod.rd_setPanel, Mod.rd_inc_ne hcounted hapart,
      Mod.rd_inc (m := ((s.m.at t).unask (.panel n)).setPanel n _) hs]
    rfl
  · rw [Mod.run_rd_other t _ s.m (bgWord_ne_loopFlags hn2 rfl (by decide)), hmean, Mod.panelEnable, Mod.rd_setPanel, Mod.rd_inc hcounted,
      Mod.rd_inc_ne (m := ((s.m.at t).unask (.panel n)).setPanel n _) hs hapart.symm]
    rfl

theorem panelLoadBoundary_reads_yields (h : (s.m.at t).Loads n) (hn : n < s.m.panels.length)
    (hsel : (s.m.panel n).groups.filter (·.selected) = []) : s.Yields (.panelLoadBoundary t n) fun m' =>
      (∃ e, m'.panel n = { (s.m.panel n).reads (s.m.at t) n with enable := e }) ∧ m'.asking (.panel n) = false
      ∧ (∀ k, k ≠ n → m'.panel k = s.m.panel k) ∧ Mod.Frame t [.panels, .toll] [] s.m m' := by
  have hmean := panelLoadBoundary_of_none h hsel
  obtain ⟨e, hlit⟩ := (((Mod.PanelTo.refl (as := [.toll]) (ws := []) (s.m.at t)).unask (.panel n) (by simp)).setPanel hn
    (fun p => p.reads (s.m.at t) n)).panelEnable hn
  exact Mod.PanelTo.yields (f := panelLoadBoundary n) (hmean ▸ hlit) rfl
    fun hpanel hothers hframe => ⟨⟨e, hpanel⟩, Mod.run_asking_of_unask (by rw [hmean]; rfl), hothers, hframe⟩

theorem panelStatusFrame_yields (status : Nat) (hn : n < s.m.panels.length) (hused : s.m.panelUsed n = true)
    (hup : (s.m.panel n).linkUp = true) (husable : (s.m.panel n).unusable = false) :
    s.Yields (.panelStatusFrame t n [panelSync, status]) fun m' =>
      m'.panel n = (s.m.panel n).heardAs status (s.m.at t).now ∧ (∀ k, k ≠ n → m'.panel k = s.m.panel k) ∧ Mod.Frame t [.panels] [] s.m m' := by
  obtain ⟨b, hheard, hstatus⟩ := Mod.panelStatus_of_up (m := s.m.at t) status hn hused hup husable
  have hmean : panelStatusFrame n [panelSync, status] (s.m.at t) = b := hstatus []
  exact Mod.PanelTo.yields_panel (f := panelStatusFrame n [panelSync, status]) (hmean ▸ hheard) rfl

/-- A status frame with one back-buffer reply is the status word, then the reply (R92). -/
theorem panelStatusFrame_of_reply {m : Mod} (status a crc : Nat) (hback : a.testBit 0 = false) :
    panelStatusFrame n [panelSync, status, a, crc] m = m.panelStatus n status [(field a 20 16, false, crc)] := by
  rw [← hback]
  rfl

theorem panelStatusFrame_confirms_yields {status a crc : Nat} {g : PGroup} {x : PRegion} (hn : n < s.m.panels.length)
    (hused : s.m.panelUsed n = true) (hup : (s.m.panel n).linkUp = true) (husable : (s.m.panel n).unusable = false)
    (hregion : x.r = field a 20 16) (hback : a.testBit 0 = false) (hgroups : (s.m.panel n).groups = [g]) (hregions : g.regions = [x])
    (hstage : x.stage = .written) (hclean : (s.m.panel n).faulty = []) (hcrc : x.crc = crc) :
    s.Yields (.panelStatusFrame t n [panelSync, status, a, crc]) fun m' =>
      (m'.panel n).groups = [{ g with regions := [{ x with stage := .confirmed }] }] ∧ (m'.panel n).faulty = []
      ∧ Mod.Frame t [.panels] [] s.m m' := by
  obtain ⟨b, hheard, hstatus⟩ := Mod.panelStatus_of_up (m := s.m.at t) status hn hused hup husable
  have hconfirmed := hheard.setPanel hn (fun p => p.answered x.r (fun x => { x with stage := .confirmed }))
  have hmean : panelStatusFrame n [panelSync, status, a, crc] (s.m.at t) = _ :=
    calc panelStatusFrame n [panelSync, status, a, crc] (s.m.at t)
      _ = b.backReply n x.r crc := by rw [panelStatusFrame_of_reply status a crc hback, hstatus, ← hregion]; rfl
      _ = (b.setPanel n (fun p => p.answered x.r (fun x => { x with stage := .confirmed }))).panelClean n x.r :=
        Mod.backReply_of_match (hheard.panel.symm ▸ hgroups) hregions hstage hcrc
      _ = b.setPanel n (fun p => p.answered x.r (fun x => { x with stage := .confirmed })) :=
        Mod.panelClean_of_clean (hconfirmed.panel.symm ▸ hclean) x.r
  refine Mod.PanelTo.yields (f := panelStatusFrame n [panelSync, status, a, crc]) (hmean ▸ hconfirmed) rfl
    fun hpanel _ hframe => ⟨?_, ?_, hframe⟩
  · rw [hpanel, Panel.answered_of_one (p := ((s.m.at t).panel n).heardAs status _) hgroups hregions hstage]
  · rw [hpanel]
    exact hclean

theorem panelStatusFrame_mismatch_yields {status a crc : Nat} {g : PGroup} {x : PRegion} (hs : s.Canonical) (hn2 : n < 2)
    (hn : n < s.m.panels.length) (hused : s.m.panelUsed n = true) (hup : (s.m.panel n).linkUp = true)
    (husable : (s.m.panel n).unusable = false) (hregion : x.r = field a 20 16) (hback : a.testBit 0 = false)
    (hgroups : (s.m.panel n).groups = [g]) (hregions : g.regions = [x]) (hstage : x.stage = .written) (hcrc : x.crc ≠ crc) (htries : x.tries < 2) :
    s.Yields (.panelStatusFrame t n [panelSync, status, a, crc]) fun m' =>
      (m'.panel n).groups = [{ g with regions := [{ x with stage := .queued, tries := x.tries + 1 }] }]
      ∧ m'.rd P.bgCrcFails n = (s.m.rd P.bgCrcFails n + 1) % 2 ^ P.bgCrcFails.w % 2 ^ 32
      ∧ Mod.Frame t [.panels] [P.bgCrcFails.addr n] s.m m' := by
  obtain ⟨b, hheard, hstatus⟩ := Mod.panelStatus_of_up (m := s.m.at t) status hn hused hup husable
  have hword : P.bgCrcFails.addr n ≠ P.loopFlags.addr := bgWord_ne_loopFlags hn2 rfl (by decide)
  have hmean : panelStatusFrame n [panelSync, status, a, crc] (s.m.at t) = _ :=
    calc panelStatusFrame n [panelSync, status, a, crc] (s.m.at t)
      _ = b.backReply n x.r crc := by rw [panelStatusFrame_of_reply status a crc hback, hstatus, ← hregion]; rfl
      _ = _ := Mod.backReply_of_mismatch (hheard.panel.symm ▸ hgroups) hregions hstage hcrc htries
  have hrewritten : Mod.PanelTo n [] [P.bgCrcFails.addr n] _ (s.m.at t) (panelStatusFrame n [panelSync, status, a, crc] (s.m.at t)) :=
    hmean ▸ (((hheard.mono (List.nil_subset _)).inc P.bgCrcFails n 1 0 (by simp)).raise _ _ _).setPanel hn _
  refine hrewritten.yields (f := panelStatusFrame n [panelSync, status, a, crc]) rfl fun hpanel _ hframe => ⟨?_, ?_, hframe⟩
  · rw [hpanel, Panel.answered_of_one (p := ((s.m.at t).panel n).heardAs status _) hgroups hregions hstage]
  · rw [Mod.run_rd_other t _ s.m hword, hmean, Mod.rd_setPanel, Mod.rd_raise, Mod.rd_inc (hheard.within.wf hs), hheard.within.rd_eq hs (by simp) hword,
      Mod.rd_at]

theorem panelLinkDown_yields (hn : n < s.m.panels.length) (hused : s.m.panelUsed n = true) (hup : (s.m.panel n).linkUp = true)
    (hsilent : (s.m.panel n).heard + 100000 ≤ (s.m.at t).now) : s.Yields (.panelLinkDown t n) fun m' =>
      m'.panel n = (s.m.panel n).lost (s.m.at t).now ∧ (∀ k, k ≠ n → m'.panel k = s.m.panel k) ∧ Mod.Frame t [.panels] [] s.m m' :=
  (panelLinkDown_of_silent (m := s.m.at t) hn hused hup hsilent).yields_panel (f := panelLinkDown n) rfl

theorem panelLinkRetry_down_yields (hn : n < s.m.panels.length) (hused : s.m.panelUsed n = true) (hup : (s.m.panel n).linkUp = false)
    (husable : (s.m.panel n).unusable = false) (hdue : (s.m.panel n).retryAt ≤ (s.m.at t).now) :
    s.Yields (.panelLinkRetry t n false) fun m' => m'.panel n = { s.m.panel n with retryAt := (s.m.panel n).retryAt + 10000000 }
      ∧ (∀ k, k ≠ n → m'.panel k = s.m.panel k) ∧ Mod.Frame t [.panels] [] s.m m' := by
  have hmean := panelLinkRetry_of_down (m := s.m.at t) (up := false) hused hup husable hdue
  exact Mod.PanelTo.yields_panel (f := panelLinkRetry n false)
    (hmean ▸ (Mod.PanelTo.refl (s.m.at t)).setPanel hn (fun p => { p with retryAt := p.retryAt + 10000000 })) rfl

theorem panelLinkRetry_up_yields (hn : n < s.m.panels.length) (hused : s.m.panelUsed n = true) (hup : (s.m.panel n).linkUp = false)
    (husable : (s.m.panel n).unusable = false) (hdue : (s.m.panel n).retryAt ≤ (s.m.at t).now) :
    s.Yields (.panelLinkRetry t n true) fun m' => m'.panel n = (s.m.panel n).back (s.m.at t) n ∧ m'.asking (.panel n) = false
      ∧ (∀ k, k ≠ n → m'.panel k = s.m.panel k) ∧ Mod.Frame t [.panels, .toll] [] s.m m' := by
  have hmean := panelLinkRetry_of_down (m := s.m.at t) (up := true) hused hup husable hdue
  exact Mod.PanelTo.yields (f := panelLinkRetry n true)
    (hmean ▸ (((Mod.PanelTo.refl (as := [.toll]) (s.m.at t)).unask _ (by simp)).setPanel hn (fun p => p.back (s.m.at t) n)).raise _ _ _) rfl
    fun hpanel hothers hframe => ⟨hpanel, Mod.run_asking_of_unask (by rw [hmean]; rfl), hothers, hframe⟩

end

/-- Settles O30: what a panel whose link is up sends, selects and presents, then how its status, its link and ENABLE are followed. -/
theorem panelsArePresentedAndFollowed : Obligations.PanelsArePresentedAndFollowed := by
  unfold Obligations.PanelsArePresentedAndFollowed
  refine ⟨fun s t n hn hup => ⟨?presenting, ?written, ?fits, ?rises, ?presents, ?reads⟩,
    fun s t n hn2 hn hused hs => ⟨?status, ?reply, ?down, ?retry, ?back, ?edge⟩⟩
  case presenting =>
    intro r hpresenting
    exact panelRegionWritten_presenting_yields hpresenting
  case written =>
    intro r g hfree hg hdue
    exact panelRegionWritten_due_yields hn hup hfree hg hdue
  case fits =>
    intro hrun husable hpicked hdue hfits
    exact panelSelection_fits_yields ⟨hrun, hup, husable, hpicked, hdue⟩ hn hfits
  case rises =>
    intro hrun husable hpicked hdue hsome hrise hnew hfree
    exact panelSelection_rise_yields ⟨hrun, hup, husable, hpicked, hdue⟩ hn hsome hrise hnew hfree
  case presents =>
    intro hs hn2 hrun hused husable hdue hsel hclean
    obtain ⟨m', hexec, ⟨e, hpanel⟩, hasking, hseq, hupdates, hothers, hframe⟩ :=
      panelLoadBoundary_presents_yields ⟨hrun, hused, hdue, hup, husable, hclean⟩ hn hs hn2 hsel
    refine ⟨m', hexec, ?_⟩
    beta_reduce
    rw [hpanel]
    exact ⟨rfl, rfl, rfl, rfl, rfl, rfl, hasking, rfl, hseq, hupdates, hothers, hframe⟩
  case reads =>
    intro hrun hused husable hdue hsel hclean
    obtain ⟨m', hexec, ⟨e, hpanel⟩, hasking, hothers, hframe⟩ :=
      panelLoadBoundary_reads_yields ⟨hrun, hused, hdue, hup, husable, hclean⟩ hn hsel
    refine ⟨m', hexec, ?_⟩
    beta_reduce
    rw [hpanel]
    exact ⟨rfl, rfl, hasking, rfl, rfl, rfl, hothers, hframe⟩
  case status =>
    intro status hup husable
    exact panelStatusFrame_yields status hn hused hup husable
  case reply =>
    rintro status a r crc g x rfl hback hup husable hgroups hregions hregion hstage hclean
    exact ⟨panelStatusFrame_confirms_yields hn hused hup husable hregion hback hgroups hregions hstage hclean,
      panelStatusFrame_mismatch_yields hs hn2 hn hused hup husable hregion hback hgroups hregions hstage⟩
  case down =>
    intro hup hsilent
    exact panelLinkDown_yields hn hused hup hsilent
  case retry =>
    intro hup husable hdue
    exact panelLinkRetry_down_yields hn hused hup husable hdue
  case back =>
    intro hup husable hdue
    obtain ⟨m', hexec, hpanel, hasking, hothers, hframe⟩ := panelLinkRetry_up_yields hn hused hup husable hdue
    refine ⟨m', hexec, ?_⟩
    beta_reduce
    rw [hpanel]
    refine ⟨rfl, rfl, ⟨_, rfl, rfl, rfl, ?_, ?_⟩, hasking, hothers, hframe⟩
    · exact List.map_map.trans (List.map_id _)
    · exact List.forall_mem_map.2 fun r _ => ⟨rfl, rfl⟩
  case edge =>
    intro rise
    exact (panelEnableEdge_panelTo (m := s.m.at t) hn rise).yields_panel (f := panelEnableEdge n rise) rfl

end Sys2Proof.Machine
end

section
/-!
PROOFS. The statements of 05_cell_array.md: towers and stored lines. What a performance count, a change of a tower and the reading of a line
leave of the module; then gating, the scrubbing of SRAM by the four results of a decode, and the bursts of the main memory's scrub.
-/
namespace Sys2Proof.Machine

/-! ### Performance counters (R451, R456, R457) -/

section
variable {as : List Area} {ws : List Nat}

theorem Mod.Within.perfSet (m : Mod) (a v : Nat) (h : Area.perf ∈ as) : Mod.Within as ws m (m.perfSet a v) := .ofPerf m _ h

theorem Mod.Within.smpReload (m : Mod) (t n : Nat) (h : Area.free ∈ as) : Mod.Within as ws m (m.smpReload t n).2 := by
  unfold Mod.smpReload
  dsimp only
  split
  · exact .draw m h
  · exact .refl m

theorem Mod.Within.perfAdd (m : Mod) (a n : Nat) (hp : Area.perf ∈ as) (hf : Area.free ∈ as) : Mod.Within as ws m (m.perfAdd a n) := by
  unfold Mod.perfAdd
  extract_lets v
  split
  · exact .refl m
  split
  · exact .perfSet m _ _ hp
  split
  · next t k _ =>
    split
    · exact .perfSet m _ _ hp
    split
    · exact .perfSet m _ _ hp
    · exact ((Mod.Within.smpReload m t k hf).trans (.ofPerf _ _ hp)).trans (.perfSet _ _ _ hp)
  · exact .perfSet m _ _ hp

/-- A counter that does not sample draws no free value. -/
theorem Mod.Within.perfAdd_plain (m : Mod) {a : Nat} (n : Nat) (ha : cntAt a = none) (hp : Area.perf ∈ as) :
    Mod.Within as ws m (m.perfAdd a n) := by
  unfold Mod.perfAdd
  rw [ha]
  dsimp only
  split
  · exact .refl m
  split
  · exact .perfSet m _ _ hp
  · exact .perfSet m _ _ hp

theorem Mod.Within.perfTower (m : Mod) (t code n : Nat) (hp : Area.perf ∈ as) (hf : Area.free ∈ as) :
    Mod.Within as ws m (m.perfTower t code n) := by
  refine .foldl (fun m k => ?_) _ m
  split
  · exact .perfAdd m _ n hp hf
  · exact .refl m

/-- The module's counters take no samples. -/
theorem cntAt_perfMCnt : ∀ k ∈ List.range 8, cntAt (P.perfMCntLo.addr k) = none := by decide

theorem Mod.Within.perfModule (m : Mod) (code n : Nat) (hp : Area.perf ∈ as) : Mod.Within as ws m (m.perfModule code n) := by
  refine .foldl_mem _ (fun k hk m => ?_) m
  split
  · exact .perfAdd_plain m n (cntAt_perfMCnt k hk) hp
  · exact .refl m

end

/-! ### Towers (R110, R127) -/

theorem Mod.tower_congr {a b : Mod} (h : b.cell.towers = a.cell.towers) (k : Nat) : b.tower k = a.tower k := by unfold Mod.tower; rw [h]

@[simp] theorem Mod.tower_at (m : Mod) (t k : Nat) : (m.at t).tower k = m.tower k := Mod.tower_congr rfl k
@[simp] theorem Mod.tower_run (t : Nat) (f : Mod → Mod) (m : Mod) (k : Nat) : (Mod.run t f m).tower k = (f (m.at t)).tower k :=
  Mod.tower_congr (congrArg CellSt.towers (Mod.run_cell t f m)) k

theorem Mod.tower_setTower_ne (m : Mod) {k q : Nat} (h : q ≠ k) (f : Tower → Tower) : (m.setTower k f).tower q = m.tower q := by
  simp [Mod.tower, Mod.setTower, updAt, List.getD_eq_getElem?_getD, Ne.symm h]

@[simp] theorem Mod.tower_setTower {m : Mod} {k : Nat} (h : k < m.cell.towers.length) (f : Tower → Tower) :
    (m.setTower k f).tower k = f (m.tower k) := by
  simp [Mod.tower, Mod.setTower, updAt, h]

section
variable {as : List Area} {ws : List Nat}

theorem Mod.Within.setTower (m : Mod) (k : Nat) (f : Tower → Tower) (h : Area.cell ∈ as) : Mod.Within as ws m (m.setTower k f) :=
  .ofCell m _ h

theorem Mod.Within.stillBegin (m : Mod) (k : Nat) (h : Area.perf ∈ as) : Mod.Within as ws m (m.stillBegin k) := .ofPerf m _ h

theorem Mod.Within.stillEnd (m : Mod) (k : Nat) (h : Area.perf ∈ as) : Mod.Within as ws m (m.stillEnd k) := .ofPerf m _ h

end

/-- A command that changes one tower, and whatever else within a frame. -/
theorem Mod.yields_tower {s : State} {c : Instr} {t k : Nat} {f : Mod → Mod} {g : Tower → Tower} {as : List Area} {ws : List Nat}
    {Q : Mod → Prop} (hexec : exec c s = s.run t f) (hk : k < s.m.cell.towers.length)
    (htowers : (f (s.m.at t)).cell.towers = ((s.m.at t).setTower k g).cell.towers) (hwithin : Mod.Within as ws (s.m.at t) (f (s.m.at t)))
    (hQ : (Mod.run t f s.m).tower k = g (s.m.tower k) → (∀ q, q ≠ k → (Mod.run t f s.m).tower q = s.m.tower q)
      → Mod.Frame t as ws s.m (Mod.run t f s.m) → Q (Mod.run t f s.m)) : s.Yields c Q := by
  have hrun : ∀ q, (Mod.run t f s.m).tower q = ((s.m.at t).setTower k g).tower q := fun q =>
    (Mod.tower_run t f s.m q).trans (Mod.tower_congr htowers q)
  exact ⟨_, hexec, hQ ((hrun k).trans (Mod.tower_setTower (m := s.m.at t) hk g))
    (fun q hq => (hrun q).trans (Mod.tower_setTower_ne _ hq g)) hwithin.frame⟩

/-! ### Gating (R110) -/

/-- A tower whose clock is stopped. -/
def Tower.asleep (w : Tower) : Tower := { w with gated := true, resuming := false, grantedAt := none }

/-- A tower that is to work again waits for its grant. -/
def Tower.waking (w : Tower) : Tower := { w with resuming := true }

/-- A tower whose clock runs again, from an instant on. -/
def Tower.awake (now : Nat) (w : Tower) : Tower := { w with gated := false, resuming := false, grantedAt := none, busyAt := now }

section
variable {m : Mod} {k : Nat}

theorem towerGate_of_idle (hup : m.towerUp k = true) (hclock : (m.tower k).gated = false) (hmay : (m.tower k).never = false)
    (hidle : (m.tower k).busyAt + 100000 < m.now) (hjobs : m.cell.jobs.any (fun j => j.towers.contains k) = false) :
    towerGate k m = ((m.setTower k Tower.asleep).endGrant (.tower k)).stillBegin k := by
  unfold towerGate
  simp only [hup, hclock, hmay, hidle, hjobs, Bool.not_false, Bool.and_self, decide_true, if_true]
  rfl

theorem towerResume_of_gated (hup : m.towerUp k = true) (hgated : (m.tower k).gated = true) (hnone : (m.tower k).grantedAt = none)
    (hnew : (m.tower k).resuming = false) :
    towerResume k m = (m.setTower k Tower.waking).ask (.tower k) 3 .logic m.now (m.rd P.tollPTower) := by
  unfold towerResume
  simp only [hup, hgated, hnone, hnew, Bool.not_true, Bool.or_self, Bool.false_eq_true, if_false]
  rfl

theorem towerResume_of_granted {g : Nat} (hup : m.towerUp k = true) (hgated : (m.tower k).gated = true)
    (hgrant : (m.tower k).grantedAt = some g) (hdue : g + 2000 ≤ m.now) :
    towerResume k m = (m.setTower k (Tower.awake m.now)).stillEnd k := by
  unfold towerResume
  simp only [hup, hgated, hgrant, hdue, Bool.not_true, Bool.or_self, Bool.false_eq_true, if_false, if_true]
  rfl

end

section
variable {s : State} {t k : Nat}

theorem towerGate_yields (hk : k < s.m.cell.towers.length) (hup : s.m.towerUp k = true) (hclock : (s.m.tower k).gated = false)
    (hmay : (s.m.tower k).never = false) (hidle : (s.m.tower k).busyAt + 100000 < (s.m.at t).now)
    (hjobs : s.m.cell.jobs.any (fun j => j.towers.contains k) = false) :
    s.Yields (.towerGate t k) fun m' => m'.tower k = (s.m.tower k).asleep ∧ (∀ q, q ≠ k → m'.tower q = s.m.tower q)
      ∧ m'.toll = { s.m.toll with active := s.m.toll.active.filter (fun a => a.1 ≠ .tower k) }
      ∧ m'.perf = { s.m.perf with stillAt := assocSet s.m.perf.stillAt k (s.m.at t).now } ∧ Mod.Frame t [.cell, .toll, .perf] [] s.m m' := by
  have hmean := towerGate_of_idle (m := s.m.at t) hup hclock hmay hidle hjobs
  have hwithin : Mod.Within [.cell, .toll, .perf] [] (s.m.at t) (towerGate k (s.m.at t)) := by
    rw [hmean]
    exact ((Mod.Within.setTower _ k _ (by simp)).trans (.endGrant _ _ (by simp))).trans (.stillBegin _ k (by simp))
  refine Mod.yields_tower (f := towerGate k) (g := Tower.asleep) rfl hk (by rw [hmean]; rfl) hwithin
    fun htower hothers hframe => ⟨htower, hothers, ?_, ?_, hframe⟩
  · rw [Mod.run_toll, hmean]; rfl
  · rw [Mod.run_perf, hmean]; rfl

theorem towerResume_asks_yields (hk : k < s.m.cell.towers.length) (hup : s.m.towerUp k = true) (hgated : (s.m.tower k).gated = true)
    (hnone : (s.m.tower k).grantedAt = none) (hnew : (s.m.tower k).resuming = false) (hfree : s.m.asking (.tower k) = false) :
    s.Yields (.towerResume t k) fun m' => m'.tower k = (s.m.tower k).waking ∧ (∀ q, q ≠ k → m'.tower q = s.m.tower q)
      ∧ (∃ q : TollReq, m'.toll = { s.m.toll with reqs := s.m.toll.reqs ++ [q] } ∧ q.who = .tower k ∧ q.cls = 3 ∧ q.budget = .logic
        ∧ q.amount = s.m.rd P.tollPTower ∧ q.key = (s.m.at t).now ∧ q.at_ = (s.m.at t).now)
      ∧ Mod.Frame t [.cell, .toll] [] s.m m' := by
  have hmean := towerResume_of_gated (m := s.m.at t) hup hgated hnone hnew
  have hfree : ((s.m.at t).setTower k Tower.waking).asking (.tower k) = false := hfree
  have hwithin : Mod.Within [.cell, .toll] [] (s.m.at t) (towerResume k (s.m.at t)) := by
    rw [hmean]
    exact (Mod.Within.setTower _ k _ (by simp)).trans (.ask _ _ _ _ _ _ (by simp))
  have htoll : (Mod.run t (towerResume k) s.m).toll = _ :=
    (Mod.run_toll _ _ _).trans ((congrArg Mod.toll hmean).trans (Mod.ask_toll_of_not_asking hfree _ _ _ _))
  exact Mod.yields_tower (f := towerResume k) (g := Tower.waking) rfl hk (by rw [hmean, Mod.ask_cell]) hwithin
    fun htower hothers hframe => ⟨htower, hothers, ⟨_, htoll, rfl, rfl, rfl, rfl, rfl, rfl⟩, hframe⟩

theorem towerResume_granted_yields {g : Nat} (hk : k < s.m.cell.towers.length) (hup : s.m.towerUp k = true)
    (hgated : (s.m.tower k).gated = true) (hgrant : (s.m.tower k).grantedAt = some g) (hdue : g + 2000 ≤ (s.m.at t).now) :
    s.Yields (.towerResume t k) fun m' => m'.tower k = (s.m.tower k).awake (s.m.at t).now ∧ (∀ q, q ≠ k → m'.tower q = s.m.tower q)
      ∧ Mod.Frame t [.cell, .perf] [] s.m m' := by
  have hmean := towerResume_of_granted (m := s.m.at t) hup hgated hgrant hdue
  have hwithin : Mod.Within [.cell, .perf] [] (s.m.at t) (towerResume k (s.m.at t)) := by
    rw [hmean]
    exact (Mod.Within.setTower _ k _ (by simp)).trans (.stillEnd _ k (by simp))
  exact Mod.yields_tower (f := towerResume k) (g := Tower.awake (s.m.at t).now) rfl hk (by rw [hmean]; rfl) hwithin
    fun htower hothers hframe => ⟨htower, hothers, hframe⟩

end

/-! ### The words of the line accounts (R114, R132) -/

theorem lineLoc_lt (tag addr : Nat) : (lineLoc tag addr).1 < 21 := by
  unfold lineLoc field
  split
  · show addr % 4 < 21
    omega
  split
  · show 5 + addr / 2 ^ 17 % 2 ^ (20 + 1 - 17) < 21
    omega
  · decide

/-- The four counts that a location has. -/
def lineCounts : List Param := [P.cellCe1, P.cellCe2, P.cellUe, P.cellAddr]

theorem lineCounts_addr {p : Param} (hp : p ∈ lineCounts) (l : Nat) : p.addr l = p.base + 16 * l ∧ P.cellErrLastT.addr < p.base
    ∧ p.base < 0x04000310 ∧ p.w = 32 := by
  simp only [lineCounts, List.mem_cons, List.not_mem_nil, or_false] at hp
  have hstep : p.s1 = 16 := by rcases hp with rfl | rfl | rfl | rfl <;> rfl
  refine ⟨by simp only [Param.addr, hstep]; omega, ?_⟩
  rcases hp with rfl | rfl | rfl | rfl <;> decide

theorem lineCounts_mem {p : Param} (hp : p ∈ lineCounts) {l : Nat} (hl : l < 21) : p.addr l ∈ lineWords := by
  simp only [lineCounts, List.mem_cons, List.not_mem_nil, or_false] at hp
  refine List.mem_append_right _ (List.mem_flatMap.2 ⟨l, List.mem_range.2 hl, ?_⟩)
  rcases hp with rfl | rfl | rfl | rfl <;> simp

/-- A count lies past the words of the last error, and before LOOP_FLAGS. -/
theorem lineCounts_ne {p q : Param} (hp : p ∈ lineCounts) (l : Nat) (hq : q.addr ≤ P.cellErrLastT.addr) : p.addr l ≠ q.addr := by
  obtain ⟨haddr, hbase, -⟩ := lineCounts_addr hp l
  omega

theorem lineCounts_ne_loopFlags {p : Param} (hp : p ∈ lineCounts) {l : Nat} (hl : l < 21) : p.addr l ≠ P.loopFlags.addr := by
  obtain ⟨haddr, -, hbase, -⟩ := lineCounts_addr hp l
  have hflags : 0x0A000000 < P.loopFlags.addr := by decide
  omega

/-! ### Line errors (R114, R131) -/

/-- The words of the last error. -/
theorem lastError_mem : P.cellErrFlags.addr ∈ lineWords ∧ P.cellErrLastLoc.addr ∈ lineWords ∧ P.cellErrLastAddr.addr ∈ lineWords
    ∧ P.cellErrLastT.addr ∈ lineWords := by
  simp [lineWords]

theorem Mod.Within.lineErr {as : List Area} (m : Mod) (r : LineRead) (kind b : Nat) {p : Param} (code : Nat) (extra : List Byte)
    (hp : p ∈ lineCounts) : Mod.Within as lineWords m (m.lineErr r kind b p code extra) := by
  obtain ⟨hflags, hloc, haddr, htime⟩ := lastError_mem
  have hcount := Mod.Within.inc (as := as) m p (lineLoc r.tag r.addr).1 1 0 (lineCounts_mem hp (lineLoc_lt _ _))
  exact ((((hcount.trans (.flag _ _ _ _ hflags)).trans (.wr _ _ _ _ _ hloc)).trans (.wr _ _ _ _ _ haddr)).trans
    (.wr _ _ _ _ _ htime)).trans (.raise _ _ _ _)

/-- The count of the line's location is raised by one. -/
theorem Mod.rd_lineErr_count {m : Mod} (hwf : Store.wf m.regs = true) (r : LineRead) (kind b : Nat) {p : Param} (code : Nat)
    (extra : List Byte) (hp : p ∈ lineCounts) : (m.lineErr r kind b p code extra).rd p (lineLoc r.tag r.addr).1
      = (m.rd p (lineLoc r.tag r.addr).1 + 1) % 2 ^ p.w % 2 ^ 32 := by
  have hcount := Mod.inc_wf hwf p (lineLoc r.tag r.addr).1 1 0
  have hflag := Mod.flag_wf hcount P.cellErrFlags b 0
  have hloc := Mod.wr_wf hflag P.cellErrLastLoc (2 ^ 28 * kind + 65536 * (lineLoc r.tag r.addr).1 + (lineLoc r.tag r.addr).2) 0 0
  have haddr := Mod.wr_wf hloc P.cellErrLastAddr r.addr 0 0
  unfold Mod.lineErr
  rw [Mod.rd_raise, Mod.rd_wr_ne haddr (lineCounts_ne hp _ (by decide)), Mod.rd_wr_ne hloc (lineCounts_ne hp _ (by decide)),
    Mod.rd_wr_ne hflag (lineCounts_ne hp _ (by decide)), Mod.rd_flag_ne hcount (lineCounts_ne hp _ (by decide)), Mod.rd_inc hwf]

theorem Mod.rd_lineErr_lastAddr {m : Mod} (hwf : Store.wf m.regs = true) (r : LineRead) (kind b : Nat) (p : Param) (code : Nat)
    (extra : List Byte) : (m.lineErr r kind b p code extra).rd P.cellErrLastAddr = r.addr % 2 ^ P.cellErrLastAddr.w % 2 ^ 32 := by
  have hflag := Mod.flag_wf (Mod.inc_wf hwf p (lineLoc r.tag r.addr).1 1 0) P.cellErrFlags b 0
  have hloc := Mod.wr_wf hflag P.cellErrLastLoc (2 ^ 28 * kind + 65536 * (lineLoc r.tag r.addr).1 + (lineLoc r.tag r.addr).2) 0 0
  unfold Mod.lineErr
  rw [Mod.rd_raise, Mod.rd_wr_ne (Mod.wr_wf hloc _ _ _ _) (by decide), Mod.rd_wr hloc]

theorem Mod.Within.ceNote {as : List Area} (m : Mod) (l : Nat) (h : Area.cell ∈ as) : Mod.Within as lineWords m (m.ceNote l) := by
  obtain ⟨hflags, -⟩ := lastError_mem
  unfold Mod.ceNote
  extract_lets hour now full src m1
  have haccount : Mod.Within as lineWords m m1 := .ofCell m _ h
  split
  · exact (haccount.trans (.flag _ _ _ _ hflags)).trans (.raise _ _ _ _)
  · exact haccount

/-- The account of the hour with its entries changed. -/
def Mod.withCe (m : Mod) (ce : List (Nat × List Nat)) : Mod := { m with cell := { m.cell with ce := ce } }

/-- Below CELL_CE_LIMIT the account of the hour alone changes. -/
theorem Mod.ceNote_of_below {m : Mod} {l : Nat} (h : ((assocGet m.cell.ce l).getD []).length < m.rd P.cellCeLimit) :
    ∃ ce, m.ceNote l = m.withCe ce := by
  have hhour : (m.now :: ((assocGet m.cell.ce l).getD []).filter (fun t => m.now < t + 3600 * 10 ^ 9)).length ≤ m.rd P.cellCeLimit :=
    (Nat.succ_le_succ (List.length_filter_le _ _)).trans h
  unfold Mod.ceNote
  extract_lets hour now full src m1
  have hroom : ¬ full = true := fun hfull => absurd (of_decide_eq_true hfull) (Nat.not_lt.2 hhour)
  rw [if_neg hroom]
  exact ⟨_, rfl⟩

/-! ### A line that is read (R105, R114, R117) -/

theorem Mod.lineAt_congr {a b : Mod} (h : b.cell.lines = a.cell.lines) (tag addr : Nat) : b.lineAt tag addr = a.lineAt tag addr := by
  unfold Mod.lineAt; rw [h]

@[simp] theorem Mod.rd_putLine (m : Mod) (tag addr : Nat) (w : List Nat) (p : Param) (i j : Nat) :
    (m.putLine tag addr w).rd p i j = m.rd p i j := Mod.rd_congr rfl p i j

/-- What the reading of lines leaves: of the cell array only the lines and their account of the hour change. -/
structure Mod.Reads (as : List Area) (a b : Mod) : Prop where
  cell : b.cell = { a.cell with lines := b.cell.lines, ce := b.cell.ce }
  within : Mod.Within (.cell :: as) lineWords a b

section
variable {as : List Area} {a b c : Mod}

theorem Mod.Reads.refl (a : Mod) : Mod.Reads as a a := ⟨rfl, .refl a⟩

theorem Mod.Reads.towers (h : Mod.Reads as a b) : b.cell.towers = a.cell.towers := by rw [h.cell]

theorem Mod.Reads.trans (h : Mod.Reads as a b) (k : Mod.Reads as b c) : Mod.Reads as a c :=
  ⟨by rw [k.cell, h.cell], h.within.trans k.within⟩

/-- A change beside the cell array. -/
theorem Mod.Reads.apart (hcell : b.cell = a.cell) (h : Mod.Within (.cell :: as) lineWords a b) : Mod.Reads as a b :=
  ⟨by rw [hcell], h⟩

theorem Mod.Reads.putLine (m : Mod) (tag addr : Nat) (w : List Nat) : Mod.Reads as m (m.putLine tag addr w) :=
  ⟨rfl, .ofCell m _ (by simp)⟩

theorem Mod.Reads.lineErr (m : Mod) (r : LineRead) (kind b : Nat) {p : Param} (code : Nat) (extra : List Byte) (hp : p ∈ lineCounts) :
    Mod.Reads as m (m.lineErr r kind b p code extra) := .apart rfl (.lineErr m r kind b code extra hp)

theorem Mod.Reads.ceNote (m : Mod) (l : Nat) : Mod.Reads as m (m.ceNote l) := by
  refine ⟨?_, .ceNote m l (by simp)⟩
  unfold Mod.ceNote
  extract_lets hour now full src m1
  split <;> rfl

theorem Mod.Reads.perfTower (m : Mod) (t code n : Nat) (hp : Area.perf ∈ as) (hf : Area.free ∈ as) :
    Mod.Reads as m (m.perfTower t code n) :=
  .apart ((Mod.Within.perfTower (as := [.perf, .free]) (ws := []) m t code n (by simp) (by simp)).areas .cell (by decide))
    (.perfTower m t code n (List.mem_cons_of_mem _ hp) (List.mem_cons_of_mem _ hf))

end

section
variable {m : Mod} {r : LineRead}

/-- The count of a corrected line: of one wrong symbol, or of two. -/
def correctedCount (n : Nat) : Param := if n = 1 then P.cellCe1 else P.cellCe2

theorem correctedCount_mem (n : Nat) : correctedCount n ∈ lineCounts := by
  unfold correctedCount
  split <;> simp [lineCounts]

theorem Mod.readLine_of_clean (h : decodeLine r.tag r.addr (m.found r) = .clean) :
    m.readLine r = (m.putLine r.tag r.addr (mergeLine r (m.found r)), false) := by
  unfold Mod.readLine
  simp only [h]

theorem Mod.readLine_of_corrected {n : Nat} {word : List Nat} (h : decodeLine r.tag r.addr (m.found r) = .corrected n word) :
    m.readLine r = (((m.lineErr r n 1 (correctedCount n) 0x0201 (leBytes 1 n)).ceNote (lineLoc r.tag r.addr).1).putLine r.tag r.addr
      (if r.tag ≤ 1 then mergeLine r word else m.found r), false) := by
  unfold Mod.readLine
  simp only [h]
  rfl

theorem Mod.readLine_of_uncorrectable (h : decodeLine r.tag r.addr (m.found r) = .uncorrectable) :
    m.readLine r = ((m.lineErr r 3 4 P.cellUe 0x0202 []).putLine r.tag r.addr (m.found r), true) := by
  unfold Mod.readLine
  simp only [h]

theorem Mod.readLine_of_address (h : decodeLine r.tag r.addr (m.found r) = .address) :
    m.readLine r = ((m.lineErr r 4 8 P.cellAddr 0x0203 []).putLine r.tag r.addr (m.found r), true) := by
  unfold Mod.readLine
  simp only [h]

end

theorem Mod.Reads.readLine {as : List Area} (m : Mod) (r : LineRead) : Mod.Reads as m (m.readLine r).1 := by
  cases h : decodeLine r.tag r.addr (m.found r) with
  | clean => rw [Mod.readLine_of_clean h]; exact .putLine m _ _ _
  | corrected n word =>
    rw [Mod.readLine_of_corrected h]
    exact ((Mod.Reads.lineErr m r n 1 _ _ (correctedCount_mem n)).trans (.ceNote _ _)).trans (.putLine _ _ _ _)
  | address => rw [Mod.readLine_of_address h]; exact (Mod.Reads.lineErr m r 4 8 _ _ (by simp [lineCounts])).trans (.putLine _ _ _ _)
  | uncorrectable =>
    rw [Mod.readLine_of_uncorrectable h]
    exact (Mod.Reads.lineErr m r 3 4 _ _ (by simp [lineCounts])).trans (.putLine _ _ _ _)

theorem Mod.Reads.takeLine {as : List Area} (m : Mod) (r : LineRead) : Mod.Reads as m (m.takeLine r).1 := by
  unfold Mod.takeLine
  split
  · exact .readLine m r
  · exact .refl m

/-- Several lines are read in order: the reading is a fold over the module and those that came poisoned. -/
theorem Mod.Reads.fold {as : List Area} {f : Mod → LineRead → Mod × Bool} (hf : ∀ m r, Mod.Reads as m (f m r).1) (rs : List LineRead)
    (x : Mod × List LineRead) :
    Mod.Reads as x.1 (rs.foldl (fun a r => let b := f a.1 r; (b.1, if b.2 then a.2 ++ [r] else a.2)) x).1 := by
  induction rs generalizing x with
  | nil => exact .refl x.1
  | cons r rs ih => exact (hf x.1 r).trans (ih ((f x.1 r).1, if (f x.1 r).2 then x.2 ++ [r] else x.2))

theorem Mod.Reads.takeLines {as : List Area} (m : Mod) (rs : List LineRead) : Mod.Reads as m (m.takeLines rs).1 :=
  .fold .takeLine rs (m, [])

/-! ### Scrubbing of SRAM (R119) -/

/-- A line stands as `w`, every other line as before, with the towers; and the store is still in its canonical form. -/
structure LineStands (r : LineRead) (w : List Nat) (a b : Mod) : Prop where
  line : b.lineAt r.tag r.addr = w
  towers : b.cell.towers = a.cell.towers
  canonical : linesWf a.cell.lines = true → linesWf b.cell.lines = true
  others : ∀ tag addr, lineKey tag addr ≠ lineKey r.tag r.addr → b.lineAt tag addr = a.lineAt tag addr

/-- A line is put where it was found, by whatever keeps the towers and the other lines. -/
theorem LineStands.of_put {r : LineRead} {w : List Nat} {a b c : Mod} (hput : c.cell.lines = (b.putLine r.tag r.addr w).cell.lines)
    (hlines : b.cell.lines = a.cell.lines) (htowers : c.cell.towers = a.cell.towers) : LineStands r w a c where
  line := (Mod.lineAt_congr hput _ _).trans (Mod.putLine_self b _ _ w)
  towers := htowers
  canonical h := hput ▸ Mod.putLine_wf (hlines.symm ▸ h) _ _ w
  others tag addr h := ((Mod.lineAt_congr hput tag addr).trans (Mod.putLine_ne b h w)).trans (Mod.lineAt_congr hlines tag addr)

section
variable {m : Mod} {r : LineRead}

theorem sramScrub_one (htag : r.tag = 1) : sramScrub [r] m = m.scrubLine r := by
  simp [sramScrub, htag]

theorem Mod.takeLine_of_absent (h : lineExists r.tag r.addr = false) : m.takeLine r = (m, false) := by
  simp [Mod.takeLine, h]

theorem Mod.takeLine_of_present (h : lineExists r.tag r.addr = true) : m.takeLine r = m.readLine r := by
  simp [Mod.takeLine, h]

theorem Mod.scrubLine_of_uncorrected (h : m.corrects r = false) : m.scrubLine r = (m.takeLine r).1 := by
  simp [Mod.scrubLine, h]

theorem Mod.scrubLine_of_corrected (h : m.corrects r = true) :
    m.scrubLine r = ((m.takeLine r).1.perfTower (field r.addr 20 17) 0x0B 1).perfTower (field r.addr 20 17) 0x10 1 := by
  simp [Mod.scrubLine, h]

end

theorem sramScrub_absent_yields {s : State} {t : Nat} {r : LineRead} (htag : r.tag = 1) (habsent : lineExists r.tag r.addr = false) :
    s.Yields (.sramScrub t [r]) fun m' => m'.cell = s.m.cell ∧ Mod.Frame t [] [] s.m m' := by
  have hmean : sramScrub [r] (s.m.at t) = s.m.at t := by
    rw [sramScrub_one htag, Mod.scrubLine_of_uncorrected (by simp [Mod.corrects, habsent]), Mod.takeLine_of_absent habsent]
  refine State.yields_frame (f := sramScrub [r]) rfl (hmean.symm ▸ .refl _) ?_
  rw [Mod.run_cell, hmean]
  rfl

/-- A line of SRAM that exists, into which nothing is merged. -/
structure SramLine (r : LineRead) : Prop where
  tag : r.tag = 1
  present : lineExists r.tag r.addr = true
  whole : r.merge = []

section
variable {s : State} {t : Nat} {r : LineRead}

/-- A scrubbed line that is not corrected leaves what its reading leaves. -/
theorem sramScrub_of_uncorrected (h : SramLine r) {m : Mod} (hdecode : ∀ n word, decodeLine r.tag r.addr (m.found r) ≠ .corrected n word) :
    sramScrub [r] m = (m.readLine r).1 := by
  have hcorrects : m.corrects r = false := by
    cases hd : decodeLine r.tag r.addr (m.found r) with
    | corrected n word => exact absurd hd (hdecode n word)
    | _ => simp [Mod.corrects, hd]
  rw [sramScrub_one h.tag, Mod.scrubLine_of_uncorrected hcorrects, Mod.takeLine_of_present h.present]

theorem sramScrub_of_corrected (h : SramLine r) {m : Mod} {n : Nat} {word : List Nat}
    (hdecode : decodeLine r.tag r.addr (m.found r) = .corrected n word) :
    sramScrub [r] m = ((m.readLine r).1.perfTower (field r.addr 20 17) 0x0B 1).perfTower (field r.addr 20 17) 0x10 1 := by
  have hcorrects : m.corrects r = true := by simp [Mod.corrects, h.present, hdecode]
  rw [sramScrub_one h.tag, Mod.scrubLine_of_corrected hcorrects, Mod.takeLine_of_present h.present]

theorem sramScrub_clean_yields (h : SramLine r) (hdecode : decodeLine r.tag r.addr (s.m.found r) = .clean) :
    s.Yields (.sramScrub t [r]) fun m' => LineStands r (s.m.found r) s.m m' ∧ Mod.Frame t [.cell] [] s.m m' := by
  have hclean : decodeLine r.tag r.addr ((s.m.at t).found r) = .clean := hdecode
  have hmean : sramScrub [r] (s.m.at t) = (s.m.at t).putLine r.tag r.addr (s.m.found r) := by
    rw [sramScrub_of_uncorrected h (by simp [hclean]), Mod.readLine_of_clean hclean, mergeLine, if_pos h.whole]
    rfl
  refine State.yields_frame (f := sramScrub [r]) rfl (hmean.symm ▸ .ofCell _ _ (by simp)) (.of_put (b := s.m) ?_ rfl ?_)
  · rw [Mod.run_cell, hmean]; rfl
  · rw [Mod.run_cell, hmean]; rfl

/-- A poisoned line is counted where it was held, and stands as it was found. -/
theorem sramScrub_poisoned_yields (hs : s.Canonical) (h : SramLine r) {kind b code : Nat} {p : Param} (hp : p ∈ lineCounts)
    (hdecode : ∀ n word, decodeLine r.tag r.addr (s.m.found r) ≠ .corrected n word)
    (hread : (s.m.at t).readLine r = (((s.m.at t).lineErr r kind b p code []).putLine r.tag r.addr (s.m.found r), true)) :
    s.Yields (.sramScrub t [r]) fun m' =>
      (m'.rd p (lineLoc r.tag r.addr).1 = (s.m.rd p (lineLoc r.tag r.addr).1 + 1) % 2 ^ p.w % 2 ^ 32 ∧ LineStands r (s.m.found r) s.m m')
      ∧ Mod.Frame t [.cell] lineWords s.m m' := by
  have hmean : sramScrub [r] (s.m.at t) = ((s.m.at t).lineErr r kind b p code []).putLine r.tag r.addr (s.m.found r) := by
    rw [sramScrub_of_uncorrected h (m := s.m.at t) hdecode, hread]
  have hreads : Mod.Reads [] (s.m.at t) (sramScrub [r] (s.m.at t)) := by
    rw [hmean]
    exact (Mod.Reads.lineErr _ _ _ _ _ _ hp).trans (.putLine _ _ _ _)
  refine State.yields_frame (f := sramScrub [r]) rfl hreads.within ⟨?_, .of_put (b := s.m) ?_ rfl ?_⟩
  · rw [Mod.run_rd_other t _ s.m (lineCounts_ne_loopFlags hp (lineLoc_lt _ _)), hmean, Mod.rd_putLine,
      Mod.rd_lineErr_count (m := s.m.at t) hs r kind b code [] hp, Mod.rd_at]
  · rw [Mod.run_cell, hmean]; rfl
  · rw [Mod.run_cell, hmean]; rfl

/-- A corrected line is counted where it was held, and written back corrected. -/
theorem sramScrub_corrected_yields (hs : s.Canonical) (h : SramLine r) {n : Nat} {word : List Nat}
    (hdecode : decodeLine r.tag r.addr (s.m.found r) = .corrected n word)
    (hlimit : ((assocGet s.m.cell.ce (lineLoc r.tag r.addr).1).getD []).length < s.m.rd P.cellCeLimit) :
    s.Yields (.sramScrub t [r]) fun m' =>
      (LineStands r word s.m m'
        ∧ m'.rd (correctedCount n) (lineLoc r.tag r.addr).1
          = (s.m.rd (correctedCount n) (lineLoc r.tag r.addr).1 + 1) % 2 ^ (correctedCount n).w % 2 ^ 32
        ∧ m'.rd P.cellErrLastAddr = r.addr % 2 ^ P.cellErrLastAddr.w % 2 ^ 32)
      ∧ Mod.Frame t [.cell, .perf, .free] lineWords s.m m' := by
  let err := (s.m.at t).lineErr r n 1 (correctedCount n) 0x0201 (leBytes 1 n)
  have herr : Mod.Within [] lineWords (s.m.at t) err := .lineErr _ r n 1 _ _ (correctedCount_mem n)
  have hceLimit : err.rd P.cellCeLimit = s.m.rd P.cellCeLimit := herr.rd_eq hs (by decide) (by decide)
  obtain ⟨ce, hce⟩ := Mod.ceNote_of_below (m := err) (l := (lineLoc r.tag r.addr).1) (hceLimit.symm ▸ hlimit)
  have hfixed : (s.m.at t).readLine r = ((err.withCe ce).putLine r.tag r.addr word, false) := by
    rw [Mod.readLine_of_corrected (m := s.m.at t) hdecode, hce, if_pos h.tag.le, mergeLine, if_pos h.whole]
  have hmean := sramScrub_of_corrected h (m := s.m.at t) hdecode
  rw [hfixed] at hmean
  have hperf : Mod.Within [.perf, .free] [] ((err.withCe ce).putLine r.tag r.addr word) (sramScrub [r] (s.m.at t)) := by
    rw [hmean]
    exact (Mod.Within.perfTower _ _ _ _ (by simp) (by simp)).trans (.perfTower _ _ _ _ (by simp) (by simp))
  have hcell : (Mod.run t (sramScrub [r]) s.m).cell = ((err.withCe ce).putLine r.tag r.addr word).cell := by
    rw [Mod.run_cell]
    exact hperf.areas .cell (by decide)
  have hrd : ∀ (p : Param) (l : Nat), p.addr l ≠ P.loopFlags.addr → (Mod.run t (sramScrub [r]) s.m).rd p l = err.rd p l := fun p l hl =>
    (Mod.run_rd_other t _ s.m hl).trans (hperf.rd_eq (herr.wf hs) (by simp) hl)
  refine State.yields_frame (f := sramScrub [r]) rfl ?_ ⟨.of_put (b := s.m) ?_ rfl ?_, ?_, ?_⟩
  · have hput : Mod.Within [.cell, .perf, .free] lineWords (s.m.at t) ((err.withCe ce).putLine r.tag r.addr word) :=
      (herr.mono (by simp) (List.Subset.refl _)).trans ((Mod.Within.ofCell err _ (by simp)).trans (.ofCell (err.withCe ce) _ (by simp)))
    exact hput.trans (hperf.mono (by simp) (by simp))
  · rw [hcell]; rfl
  · rw [hcell]; rfl
  · rw [hrd _ _ (lineCounts_ne_loopFlags (correctedCount_mem n) (lineLoc_lt _ _))]
    exact Mod.rd_lineErr_count (m := s.m.at t) hs r n 1 _ _ (correctedCount_mem n)
  · rw [hrd _ _ (by decide)]
    exact Mod.rd_lineErr_lastAddr (m := s.m.at t) hs r n 1 _ _ _

end

/-! ### Bursts of the main memory's scrub (R119) -/

/-- The lines of the granted burst are read and counted. -/
def Mod.burstRead (m : Mod) (rs : List LineRead) : Mod :=
  (m.takeLines (rs.filter (fun r => r.tag = 0 && m.cell.scrubPos ≤ r.addr && r.addr < m.cell.scrubPos + 4096))).1.perfModule 0x43 4096

/-- The burst's grant ends; the scrub goes on at `pos` when the next one is due. -/
def Mod.burstOver (m : Mod) (pos : Nat) : Mod :=
  ({ m with cell := { m.cell with scrubPos := pos, scrubGranted := false, scrubNext := m.cell.scrubNext + m.scrubEvery } }).endGrant .scrub

theorem Mod.Reads.burstRead (m : Mod) (rs : List LineRead) : Mod.Reads [.perf] m (m.burstRead rs) :=
  (Mod.Reads.takeLines m _).trans
    (.apart ((Mod.Within.perfModule (as := [.perf]) (ws := []) _ 0x43 4096 (by simp)).areas .cell (by decide)) (.perfModule _ _ _ (by simp)))

section
variable {m : Mod} {rs : List LineRead}

theorem Mod.burstRead_scrubPos (m : Mod) (rs : List LineRead) : (m.burstRead rs).cell.scrubPos = m.cell.scrubPos := by
  rw [(Mod.Reads.burstRead m rs).cell]

theorem memoryScrubBurst_of_middle (hgrant : m.cell.scrubGranted = true) (hpos : m.cell.scrubPos + 4096 < 2 ^ 28) :
    memoryScrubBurst rs m = (m.burstRead rs).burstOver (m.cell.scrubPos + 4096) := by
  have hread := Mod.burstRead_scrubPos m rs
  unfold memoryScrubBurst
  unfold Mod.burstRead at hread ⊢
  generalize Mod.perfModule _ 0x43 4096 = m1 at hread ⊢
  rw [← hread] at hpos ⊢
  simp only [hgrant, Nat.not_le.2 hpos, Bool.not_true, Bool.false_eq_true, decide_false, if_false, Mod.burstOver]

theorem memoryScrubBurst_of_last (hgrant : m.cell.scrubGranted = true) (hpos : 2 ^ 28 ≤ m.cell.scrubPos + 4096) :
    ∃ d, memoryScrubBurst rs m = (((m.burstRead rs).burstOver 0).inc P.cellScrubPasses).raise 47 0x020F d := by
  have hread := Mod.burstRead_scrubPos m rs
  unfold memoryScrubBurst
  unfold Mod.burstRead at hread ⊢
  generalize Mod.perfModule _ 0x43 4096 = m1 at hread ⊢
  rw [← hread] at hpos
  simp only [hgrant, hpos, Bool.not_true, Bool.false_eq_true, decide_true, if_false, if_true, Mod.burstOver]
  exact ⟨_, rfl⟩

end

theorem Mod.Within.burstOver {as : List Area} {ws : List Nat} (m : Mod) (pos : Nat) (hc : Area.cell ∈ as) (ht : Area.toll ∈ as) :
    Mod.Within as ws m (m.burstOver pos) := (Mod.Within.ofCell m _ hc).trans (.endGrant _ _ ht)

section
variable {s : State} {t : Nat} {rs : List LineRead}

theorem memoryScrubBurst_middle_yields (hs : s.Canonical) (hgrant : s.m.cell.scrubGranted = true)
    (hpos : s.m.cell.scrubPos + 4096 < 2 ^ 28) : s.Yields (.memoryScrubBurst t rs) fun m' =>
      (m'.cell.scrubPos = s.m.cell.scrubPos + 4096 ∧ m'.cell.scrubGranted = false
        ∧ m'.cell.scrubNext = s.m.cell.scrubNext + s.m.rd P.cellScrubHours * 3600 * 10 ^ 9 / 65536 ∧ m'.cell.towers = s.m.cell.towers
        ∧ m'.toll = { s.m.toll with active := s.m.toll.active.filter (fun a => a.1 ≠ .scrub) })
      ∧ Mod.Frame t [.cell, .toll, .perf] lineWords s.m m' := by
  have hread := Mod.Reads.burstRead (s.m.at t) rs
  have hmean := memoryScrubBurst_of_middle (m := s.m.at t) (rs := rs) hgrant hpos
  generalize (s.m.at t).burstRead rs = b at hread hmean
  have hhours : b.rd P.cellScrubHours = s.m.rd P.cellScrubHours := hread.within.rd_eq hs (by decide) (by decide)
  have hnext : b.cell.scrubNext = s.m.cell.scrubNext := by rw [hread.cell]; rfl
  have htoll : b.toll = s.m.toll := hread.within.areas .toll (by decide)
  have hcell : (Mod.run t (memoryScrubBurst rs) s.m).cell = (b.burstOver (s.m.cell.scrubPos + 4096)).cell :=
    (Mod.run_cell _ _ _).trans (congrArg Mod.cell hmean)
  refine State.yields_frame (f := memoryScrubBurst rs) rfl ?_ ⟨?_, ?_, ?_, ?_, ?_⟩
  · rw [hmean]
    exact (hread.within.mono (by simp) (List.Subset.refl _)).trans (.burstOver _ _ (by simp) (by simp))
  · rw [hcell]; rfl
  · rw [hcell]; rfl
  · rw [hcell, ← hhours, ← hnext]; rfl
  · rw [hcell]; exact hread.towers
  · rw [Mod.run_toll, hmean, ← htoll]; rfl

theorem memoryScrubBurst_last_yields (hs : s.Canonical) (hgrant : s.m.cell.scrubGranted = true)
    (hpos : 2 ^ 28 ≤ s.m.cell.scrubPos + 4096) : s.Yields (.memoryScrubBurst t rs) fun m' =>
      (m'.cell.scrubPos = 0 ∧ m'.cell.scrubGranted = false
        ∧ m'.rd P.cellScrubPasses = (s.m.rd P.cellScrubPasses + 1) % 2 ^ P.cellScrubPasses.w % 2 ^ 32)
      ∧ Mod.Frame t [.cell, .toll, .perf] (P.cellScrubPasses.addr :: lineWords) s.m m' := by
  have hread := Mod.Reads.burstRead (s.m.at t) rs
  obtain ⟨d, hmean⟩ := memoryScrubBurst_of_last (m := s.m.at t) (rs := rs) hgrant hpos
  generalize (s.m.at t).burstRead rs = b at hread hmean
  have hover : Mod.Within [.cell, .toll, .perf] lineWords (s.m.at t) (b.burstOver 0) :=
    (hread.within.mono (by simp) (List.Subset.refl _)).trans (.burstOver _ _ (by simp) (by simp))
  refine State.yields_frame (f := memoryScrubBurst rs) rfl ?_ ⟨?_, ?_, ?_⟩
  · rw [hmean]
    exact ((hover.mono (List.Subset.refl _) (List.subset_cons_self _ _)).trans (.inc _ _ _ _ _ List.mem_cons_self)).trans (.raise _ _ _ _)
  · rw [Mod.run_cell, hmean]; rfl
  · rw [Mod.run_cell, hmean]; rfl
  · rw [Mod.run_rd_other t _ s.m (by decide), hmean, Mod.rd_raise, Mod.rd_inc (hover.wf hs), hover.rd_eq hs (by decide) (by decide),
      Mod.rd_at]

end

/-- Settles O34: each command by the cases of its meaning, a scrubbed line by the four results of its decode. -/
theorem towersAndLinesAreKept : Obligations.TowersAndLinesAreKept := by
  intro s t k hs hk
  refine ⟨?gates, ?asks, ?resumes, ?absent, ?lines, ?burst, ?last⟩
  case gates => exact fun hup hclock hmay hidle hjobs => towerGate_yields hk hup hclock hmay hidle hjobs
  case asks => exact fun hup hgated hnone hnew hfree => towerResume_asks_yields hk hup hgated hnone hnew hfree
  case resumes => exact fun g hup hgated hgrant hdue => towerResume_granted_yields hk hup hgated hgrant hdue
  case absent => exact fun r htag habsent => sramScrub_absent_yields htag habsent
  case lines =>
    intro r htag hpresent hwhole
    have hline : SramLine r := ⟨htag, hpresent, hwhole⟩
    refine ⟨fun hclean => ?clean, fun n word hfixed hlimit => ?corrected, fun hbad => ?uncorrectable, fun hbad => ?address⟩
    case clean =>
      obtain ⟨m', hexec, ⟨hat, htowers, hcanonical, hothers⟩, hframe⟩ := sramScrub_clean_yields (t := t) hline hclean
      exact ⟨m', hexec, ⟨hat, htowers, hcanonical, hothers⟩, hframe⟩
    case corrected =>
      obtain ⟨m', hexec, ⟨⟨hat, htowers, hcanonical, hothers⟩, hcount, hlast⟩, hframe⟩ :=
        sramScrub_corrected_yields (t := t) hs hline hfixed hlimit
      refine ⟨m', hexec, ⟨hat, htowers, hcanonical, hothers⟩, fun hone => ?_, fun hmore => ?_, hlast, hframe⟩
      · rwa [correctedCount, if_pos hone] at hcount
      · rwa [correctedCount, if_neg hmore] at hcount
    case uncorrectable =>
      obtain ⟨m', hexec, ⟨hcount, hat, htowers, hcanonical, hothers⟩, hframe⟩ := sramScrub_poisoned_yields (t := t) hs hline
        (p := P.cellUe) (by simp [lineCounts]) (by simp [hbad]) (Mod.readLine_of_uncorrectable (m := s.m.at t) hbad)
      exact ⟨m', hexec, hcount, ⟨hat, htowers, hcanonical, hothers⟩, hframe⟩
    case address =>
      obtain ⟨m', hexec, ⟨hcount, hat, htowers, hcanonical, hothers⟩, hframe⟩ := sramScrub_poisoned_yields (t := t) hs hline
        (p := P.cellAddr) (by simp [lineCounts]) (by simp [hbad]) (Mod.readLine_of_address (m := s.m.at t) hbad)
      exact ⟨m', hexec, hcount, ⟨hat, htowers, hcanonical, hothers⟩, hframe⟩
  case burst =>
    intro rs hgrant hpos
    obtain ⟨m', hexec, ⟨hat, hdone, hnext, htowers, htoll⟩, hframe⟩ := memoryScrubBurst_middle_yields (t := t) (rs := rs) hs hgrant hpos
    exact ⟨m', hexec, hat, hdone, hnext, htowers, htoll, hframe⟩
  case last =>
    intro rs hgrant hpos
    obtain ⟨m', hexec, ⟨hat, hdone, hcount⟩, hframe⟩ := memoryScrubBurst_last_yields (t := t) (rs := rs) hs hgrant hpos
    exact ⟨m', hexec, hat, hdone, hcount, hframe⟩

end Sys2Proof.Machine
end

section
/-!
PROOFS. The statements of 05_cell_array.md: the extractor's rows. A stage whose lines are data runs its cells and takes its row, whole or
lost; then a closed region becomes an observation, or a count alone.
-/
namespace Sys2Proof.Machine

/-! ### Lines that a tower takes (R114, R118, R456) -/

theorem Mod.Reads.takeFor (m : Mod) (k : Nat) (r : LineRead) : Mod.Reads [.perf, .free] m (m.takeFor k r).1 := by
  unfold Mod.takeFor
  extract_lets a m1
  have htake : Mod.Reads [.perf, .free] m m1 := by
    unfold m1
    split
    · exact (Mod.Reads.takeLine m r).trans (.perfTower _ _ _ _ (by simp) (by simp))
    · exact .takeLine m r
  dsimp only
  split
  · exact htake.trans (.perfTower _ _ _ _ (by simp) (by simp))
  · exact htake

theorem Mod.Reads.takesFor (m : Mod) (k : Nat) (rs : List LineRead) : Mod.Reads [.perf, .free] m (m.takesFor k rs).1 :=
  .fold (fun m r => .takeFor m k r) rs (m, [])

/-- The lines that came poisoned are lines that were read. -/
theorem mem_of_mem_poisoned {f : Mod → LineRead → Mod × Bool} (rs : List LineRead) (x : Mod × List LineRead) {r : LineRead}
    (h : r ∈ (rs.foldl (fun a r => let b := f a.1 r; (b.1, if b.2 then a.2 ++ [r] else a.2)) x).2) : r ∈ x.2 ∨ r ∈ rs := by
  induction rs generalizing x with
  | nil => exact .inl h
  | cons q rs ih =>
    rcases ih ((f x.1 q).1, if (f x.1 q).2 then x.2 ++ [q] else x.2) h with h | h
    · dsimp only at h
      split at h
      · exact (List.mem_append.1 h).imp_right fun h => by rw [List.mem_singleton.1 h]; exact List.mem_cons_self
      · exact .inl h
    · exact .inr (List.mem_cons_of_mem _ h)

theorem Mod.mem_of_mem_takesFor {m : Mod} {k : Nat} {rs : List LineRead} {r : LineRead} (h : r ∈ (m.takesFor k rs).2) : r ∈ rs :=
  (mem_of_mem_poisoned (f := fun m r => m.takeFor k r) rs (m, []) h).resolve_left List.not_mem_nil

/-- Lines of data fail no cell and restart nothing. -/
theorem Mod.jobReads_of_data {m : Mod} {k : Nat} {rs : List LineRead} (h : ∀ r ∈ rs, r.use = 0) :
    (m.jobReads k rs).m = (m.takesFor k rs).1 ∧ (m.jobReads k rs).data = decide ((m.takesFor k rs).2 ≠ [])
      ∧ (m.jobReads k rs).both = false := by
  have hbad : ∀ r ∈ (m.takesFor k rs).2, r.use = 0 := fun r hr => h r (Mod.mem_of_mem_takesFor hr)
  unfold Mod.jobReads
  generalize m.takesFor k rs = x at hbad ⊢
  obtain ⟨b, bad⟩ := x
  have hcells : bad.filter (fun l => l.use = 1 && l.tag = 1) = [] := List.filter_eq_nil_iff.2 fun r hr => by simp [hbad r hr]
  have hcopies : bad.any (fun l => l.use = 2) = false := List.any_eq_false.2 fun r hr => by simp [hbad r hr]
  refine ⟨by simp [hcells], ?_, by simp [hcopies]⟩
  cases bad with
  | nil => rfl
  | cons r bad => simp [hbad r List.mem_cons_self]

theorem Mod.stage_of_data {m : Mod} {p k : Nat} {lost : Bool} {rs : List LineRead} (f : Mod → Bool → Mod) (h : ∀ r ∈ rs, r.use = 0) :
    m.stage p k lost rs f = f ((m.takesFor (m.physTower (Config.stageTower p k)) rs).1.worked (m.physTower (Config.stageTower p k)))
      (lost || decide ((m.takesFor (m.physTower (Config.stageTower p k)) rs).2 ≠ [])
        || (m.takesFor (m.physTower (Config.stageTower p k)) rs).1.stageDown p k) := by
  obtain ⟨hm, hdata, hboth⟩ := Mod.jobReads_of_data (m := m) (k := m.physTower (Config.stageTower p k)) h
  unfold Mod.stage
  simp only [hboth, hm, hdata, Bool.false_eq_true, if_false]

theorem Mod.stageDown_congr {a b : Mod} (h : b.cell.towers = a.cell.towers) (p k : Nat) : b.stageDown p k = a.stageDown p k := by
  simp only [Mod.stageDown, Mod.physTower, Mod.towersOk, Mod.tower_congr h]

theorem Mod.Within.worked {as : List Area} {ws : List Nat} (m : Mod) (k : Nat) (h : Area.cell ∈ as) : Mod.Within as ws m (m.worked k) :=
  .setTower m k _ h

/-! ### The extractor's row (R18, R136 to R138) -/

/-- The tower of the extractor's stage. -/
def Mod.rowTower (m : Mod) (p : Nat) : Nat := m.physTower (Config.stageTower p 2)

/-- The module with the port's oldest row taken, and its layer as the row leaves it. -/
def Mod.rowTaken (m : Mod) (p : Nat) (l : Line) (rest : List Line) (y : Layer) : Mod :=
  ({ m with fus := { m.fus with layers := m.fus.layers.set p y } }).setPort p (fun c => { c with rows := rest, prevRow := some l })

/-- The row of a line in its layer. -/
def Layer.rowOf (y : Layer) (l : Line) (gone : Bool) : GridRow := { n := y.n, t := l.t, arr := l.arr, seq := l.seq, lost := gone }

/-- The layer after a lost row. -/
def Mod.lostLayer (m : Mod) (y : Layer) (l : Line) : Layer :=
  { n := y.n + 1, blobs := (m.growRow y.blobs (y.rowOf l true) []).1, closed := y.closed ++ (m.growRow y.blobs (y.rowOf l true) []).2 }

section
variable {m : Mod} {p : Nat} {l : Line} {rest : List Line}

theorem Mod.feature_takes (hrows : (m.port p).rows = l :: rest) (vecs : List (List Int)) (lost : Bool) :
    ∃ y, m.feature p vecs lost = m.rowTaken p l rest y := by
  unfold Mod.feature
  simp only [hrows]
  exact ⟨_, rfl⟩

theorem Mod.feature_of_lost (hrows : (m.port p).rows = l :: rest) (vecs : List (List Int)) {lost : Bool} (hlost : (lost || l.lost) = true) :
    m.feature p vecs lost = m.rowTaken p l rest (m.lostLayer (m.fus.layers.getD p {}) l) := by
  unfold Mod.feature
  simp only [hrows, hlost, Bool.true_or, if_true]
  rfl

/-- A whole row without an active cell, in a layer without open regions. -/
theorem Mod.feature_of_blank (hrows : (m.port p).rows = l :: rest) {vecs : List (List Int)} (hwhole : l.lost = false)
    (hmono : m.colVal p l.col P.camInterleave ≠ 2) (hnone : (m.fus.layers.getD p {}).blobs = [])
    (hlow : ∀ v ∈ vecs, toU 8 (v.getD (m.rd P.fusObjCh p) 0) < m.rd P.fusObjThr) :
    m.feature p vecs false = m.rowTaken p l rest { m.fus.layers.getD p {} with n := (m.fus.layers.getD p {}).n + 1 } := by
  have hdark : ∀ (f : List Int × Nat → GridCell), ((vecs.take (m.rd P.fusCols)).zipIdx.filterMap (fun e =>
      if m.rd P.fusObjThr ≤ toU 8 (e.1.getD (m.rd P.fusObjCh p) 0) then some (f e) else none)) = [] := fun f =>
    List.filterMap_eq_nil_iff.2 fun e he =>
      if_neg (Nat.not_le.2 (hlow e.1 (List.mem_of_mem_take (List.fst_mem_of_mem_zipIdx he))))
  unfold Mod.feature
  simp only [hrows, hwhole, hmono, hdark, hnone]
  simp [Mod.growRow, segments, Mod.rowTaken]

end

theorem Mod.Within.rowTaken {as : List Area} {ws : List Nat} (m : Mod) (p : Nat) (l : Line) (rest : List Line) (y : Layer)
    (hcams : Area.cams ∈ as) (hfus : Area.fus ∈ as) : Mod.Within as ws m (m.rowTaken p l rest y) :=
  (Mod.Within.ofFus m _ hfus).trans (.ofCams _ _ hcams)

section
variable {m : Mod} {p : Nat} {l : Line} {rest : List Line} {y : Layer}

theorem Mod.layer_rowTaken (hp : p < m.fus.layers.length) : (m.rowTaken p l rest y).fus.layers.getD p {} = y := by
  simp [Mod.rowTaken, Mod.setPort, hp]

theorem Mod.layer_rowTaken_ne {q : Nat} (hq : q ≠ p) : (m.rowTaken p l rest y).fus.layers.getD q {} = m.fus.layers.getD q {} := by
  simp [Mod.rowTaken, Mod.setPort, List.getD_eq_getElem?_getD, List.getElem?_set_ne (Ne.symm hq)]

theorem Mod.port_rowTaken (hp : p < m.cams.length) : (m.rowTaken p l rest y).port p = { m.port p with rows := rest, prevRow := some l } :=
  Mod.port_setPort (m := { m with fus := { m.fus with layers := m.fus.layers.set p y } }) hp _

theorem Mod.port_rowTaken_ne {q : Nat} (hq : q ≠ p) : (m.rowTaken p l rest y).port q = m.port q :=
  Mod.port_setPort_ne { m with fus := { m.fus with layers := m.fus.layers.set p y } } hq _

end

/-- The row of port `p` has been taken and its layer has become `y`; of the rest of the module only the areas and the words listed change. -/
structure Mod.TookRow (p : Nat) (l : Line) (rest : List Line) (y : Layer) (as : List Area) (ws : List Nat) (a b : Mod) : Prop where
  layer : b.fus.layers.getD p {} = y
  layers : ∀ q, q ≠ p → b.fus.layers.getD q {} = a.fus.layers.getD q {}
  port : b.port p = { a.port p with rows := rest, prevRow := some l }
  ports : ∀ q, q ≠ p → b.port q = a.port q
  within : Mod.Within (.cams :: .fus :: as) ws a b

/-- A row that is taken after a change beside the ports and the layers. -/
theorem Mod.TookRow.of_within {as : List Area} {ws : List Nat} {a b : Mod} (h : Mod.Within as ws a b) (hcams : Area.cams ∉ as)
    (hfus : Area.fus ∉ as) {p : Nat} (hp : p < a.cams.length) (hl : p < a.fus.layers.length) (l : Line) (rest : List Line) (y : Layer) :
    Mod.TookRow p l rest y as ws a (b.rowTaken p l rest y) := by
  have hc : b.cams = a.cams := h.areas .cams hcams
  have hf : b.fus = a.fus := h.areas .fus hfus
  refine ⟨Mod.layer_rowTaken (hf ▸ hl), fun q hq => ?_, ?_, fun q hq => ?_, ?_⟩
  · rw [Mod.layer_rowTaken_ne hq, hf]
  · rw [Mod.port_rowTaken (hc ▸ hp), Mod.port_congr hc]
  · rw [Mod.port_rowTaken_ne hq, Mod.port_congr hc]
  · exact (h.mono (fun _ h => List.mem_cons_of_mem _ (List.mem_cons_of_mem _ h)) (List.Subset.refl _)).trans
      (.rowTaken b p l rest y (by simp) (by simp))

/-- A command that takes a row answers with what its meaning leaves of the layers and the ports, and the frame. -/
theorem Mod.TookRow.yields {s : State} {c : Instr} {t p : Nat} {l : Line} {rest : List Line} {y : Layer} {as : List Area} {ws : List Nat}
    {f : Mod → Mod} {Q : Mod → Prop} (h : Mod.TookRow p l rest y as ws (s.m.at t) (f (s.m.at t))) (hexec : exec c s = s.run t f)
    (hQ : (Mod.run t f s.m).fus.layers.getD p {} = y → (∀ q, q ≠ p → (Mod.run t f s.m).fus.layers.getD q {} = s.m.fus.layers.getD q {})
      → (Mod.run t f s.m).port p = { s.m.port p with rows := rest, prevRow := some l }
      → (∀ q, q ≠ p → (Mod.run t f s.m).port q = s.m.port q)
      → Mod.Frame t (.cams :: .fus :: as) ws s.m (Mod.run t f s.m) → Q (Mod.run t f s.m)) : s.Yields c Q := by
  refine ⟨_, hexec, hQ ?_ (fun q hq => ?_) ?_ (fun q hq => ?_) h.within.frame⟩
  · rw [Mod.run_fus, h.layer]
  · rw [Mod.run_fus, h.layers q hq]; rfl
  · rw [Mod.port_run, h.port, Mod.port_at]
  · rw [Mod.port_run, h.ports q hq, Mod.port_at]

theorem featureRow_of_data {m : Mod} {p : Nat} {rs : List LineRead} (hrows : (m.port p).rows ≠ []) (h : ∀ r ∈ rs, r.use = 0)
    (vecs : List (List Int)) (lost : Bool) (runs : List CellRun) :
    featureRow p vecs lost runs rs m = (runs.foldl Mod.cellRun ((m.takesFor (m.rowTower p) rs).1.worked (m.rowTower p))).feature p vecs
      (lost || decide ((m.takesFor (m.rowTower p) rs).2 ≠ []) || m.stageDown p 2) := by
  unfold featureRow
  rw [if_neg hrows, Mod.stage_of_data _ h, Mod.stageDown_congr (Mod.Reads.takesFor m _ rs).towers]
  rfl

/-- Without lines to read, the extractor's tower has worked and its cells run. -/
theorem featureRow_of_none {m : Mod} {p : Nat} (hrows : (m.port p).rows ≠ []) (vecs : List (List Int)) (lost : Bool) (runs : List CellRun) :
    featureRow p vecs lost runs [] m
      = (runs.foldl Mod.cellRun (m.worked (m.rowTower p))).feature p vecs (lost || m.stageDown p 2) := by
  rw [featureRow_of_data hrows (by simp)]
  simp [Mod.takesFor]

theorem Mod.oversize_congr {a b : Mod} (hrows : b.rd P.fusMaxRows = a.rd P.fusMaxRows) (hcols : b.rd P.fusMaxCols = a.rd P.fusMaxCols)
    (x : Blob) : b.oversize x = a.oversize x := by
  unfold Mod.oversize
  rw [hrows, hcols]

/-- What a lost row leaves open: every open region that has not grown too long by it. -/
theorem Mod.lostLayer_blobs (m : Mod) (y : Layer) (l : Line) : (m.lostLayer y l).blobs
    = (y.blobs.map (fun b => { b with rows := b.rows ++ [y.rowOf l true] })).filter (fun b => !m.oversize b) := by
  simp [Mod.lostLayer, Mod.growRow, Layer.rowOf]

section
variable {s : State} {t p : Nat} {l : Line} {rest : List Line}

theorem featureRow_lost_yields (hs : s.Canonical) (hp : p < s.m.cams.length) (hlayer : p < s.m.fus.layers.length)
    {vecs : List (List Int)} {reads : List LineRead} {lost : Bool} (hrows : (s.m.port p).rows = l :: rest) (hdata : ∀ r ∈ reads, r.use = 0)
    (hlost : lost = true ∨ l.lost = true ∨ ((s.m.at t).takesFor (s.m.rowTower p) reads).2 ≠ [] ∨ s.m.stageDown p 2 = true) :
    s.Yields (.featureRow t p vecs lost [] reads) fun m' =>
      (m'.fus.layers.getD p {}).n = (s.m.fus.layers.getD p {}).n + 1
      ∧ (m'.fus.layers.getD p {}).blobs = ((s.m.fus.layers.getD p {}).blobs.map (fun b =>
          { b with rows := b.rows ++ [(s.m.fus.layers.getD p {}).rowOf l true] })).filter (fun b => !s.m.oversize b)
      ∧ (m'.port p).rows = rest ∧ (m'.port p).prevRow = some l ∧ (∀ q, q ≠ p → m'.port q = s.m.port q)
      ∧ (∀ q, q ≠ p → m'.fus.layers.getD q {} = s.m.fus.layers.getD q {}) ∧ Mod.Frame t [.cams, .fus, .cell, .perf, .free] lineWords s.m m' := by
  have hmean := featureRow_of_data (m := s.m.at t) (p := p) (rs := reads) (hrows ▸ List.cons_ne_nil _ _) hdata vecs lost []
  have hworked : Mod.Within [.cell, .perf, .free] lineWords (s.m.at t)
      (((s.m.at t).takesFor (s.m.rowTower p) reads).1.worked (s.m.rowTower p)) :=
    (Mod.Reads.takesFor _ _ _).within.trans (.worked _ _ (by simp))
  have hlost : (lost || decide (((s.m.at t).takesFor (s.m.rowTower p) reads).2 ≠ []) || s.m.stageDown p 2 || l.lost) = true := by
    simp only [Bool.or_eq_true, decide_eq_true_eq]
    tauto
  change featureRow p vecs lost [] reads (s.m.at t) = (((s.m.at t).takesFor (s.m.rowTower p) reads).1.worked (s.m.rowTower p)).feature p vecs
    (lost || decide (((s.m.at t).takesFor (s.m.rowTower p) reads).2 ≠ []) || s.m.stageDown p 2) at hmean
  generalize (((s.m.at t).takesFor (s.m.rowTower p) reads).1.worked (s.m.rowTower p)) = b at hworked hmean
  have hfus : b.fus = s.m.fus := hworked.areas .fus (by decide)
  have hport : b.port p = s.m.port p := Mod.port_congr (hworked.areas .cams (by decide)) p
  have hsize : ∀ x, b.oversize x = s.m.oversize x :=
    Mod.oversize_congr (hworked.rd_eq hs (by decide) (by decide)) (hworked.rd_eq hs (by decide) (by decide))
  rw [Mod.feature_of_lost (hport ▸ hrows) vecs hlost, hfus] at hmean
  have htook := Mod.TookRow.of_within hworked (by decide) (by decide) hp hlayer l rest (b.lostLayer (s.m.fus.layers.getD p {}) l)
  refine Mod.TookRow.yields (f := featureRow p vecs lost [] reads) (hmean.symm ▸ htook) rfl
    fun hat hlayers hown hothers hframe => ⟨?_, ?_, ?_, ?_, hothers, hlayers, hframe⟩
  · rw [hat]; rfl
  · rw [hat, Mod.lostLayer_blobs]
    simp only [hsize]
  · rw [hown]
  · rw [hown]

theorem featureRow_blank_yields (hp : p < s.m.cams.length) (hlayer : p < s.m.fus.layers.length) {vecs : List (List Int)}
    (hrows : (s.m.port p).rows = l :: rest) (hwhole : l.lost = false) (hup : s.m.stageDown p 2 = false)
    (hmono : s.m.colVal p l.col P.camInterleave ≠ 2) (hnone : (s.m.fus.layers.getD p {}).blobs = [])
    (hlow : ∀ v ∈ vecs, toU 8 (v.getD (s.m.rd P.fusObjCh p) 0) < s.m.rd P.fusObjThr) :
    s.Yields (.featureRow t p vecs false [] []) fun m' =>
      m'.fus.layers.getD p {} = { s.m.fus.layers.getD p {} with n := (s.m.fus.layers.getD p {}).n + 1 }
      ∧ m'.port p = { s.m.port p with rows := rest, prevRow := some l } ∧ (∀ q, q ≠ p → m'.port q = s.m.port q)
      ∧ (∀ q, q ≠ p → m'.fus.layers.getD q {} = s.m.fus.layers.getD q {})
      ∧ m'.cell = ((s.m.at t).worked (s.m.rowTower p)).cell ∧ Mod.Frame t [.cams, .fus, .cell] [] s.m m' := by
  have hmean := featureRow_of_none (m := s.m.at t) (p := p) (hrows ▸ List.cons_ne_nil _ _) vecs false []
  have hup : (s.m.at t).stageDown p 2 = false := hup
  have hworked : Mod.Within [.cell] [] (s.m.at t) ((s.m.at t).worked (s.m.rowTower p)) := .worked _ _ (by simp)
  rw [hup, List.foldl_nil, Bool.or_self,
    Mod.feature_of_blank (m := (s.m.at t).worked ((s.m.at t).rowTower p)) hrows hwhole hmono hnone hlow] at hmean
  have htook := Mod.TookRow.of_within hworked (by decide) (by decide) hp hlayer l rest
    { s.m.fus.layers.getD p {} with n := (s.m.fus.layers.getD p {}).n + 1 }
  refine Mod.TookRow.yields (f := featureRow p vecs false [] []) (hmean.symm ▸ htook) rfl
    fun hat hlayers hown hothers hframe => ⟨hat, hown, hothers, hlayers, ?_, hframe⟩
  rw [Mod.run_cell, hmean]
  rfl

end

/-! ### Cells that run (R105, R106, R122, R123) -/

/-- A value set in an association list. -/
theorem assocGet_assocSet {α : Type} (l : List (Nat × α)) (k : Nat) (v : α) (c : Nat) :
    assocGet (assocSet l k v) c = if c = k then some v else assocGet l c := by
  induction l with
  | nil => by_cases h : c = k <;> simp [assocSet, assocGet, h, Ne.symm]
  | cons e l ih =>
    obtain ⟨a, w⟩ := e
    simp only [assocGet] at ih
    by_cases ha : a = k
    · by_cases h : c = k
      · simp [assocSet, assocGet, ha, h]
      · simp [assocSet, assocGet, ha, h, Ne.symm h]
    · by_cases h : a = c
      · subst h
        simp [assocSet, assocGet, ha]
      · simpa [assocSet, assocGet, ha, h] using ih

/-- Work leaves of a tower all but the instant of its last work. -/
theorem Mod.tower_worked (m : Mod) (k q : Nat) : (m.worked k).tower q = { m.tower q with busyAt := ((m.worked k).tower q).busyAt } := by
  unfold Mod.worked
  by_cases hq : q = k
  · subst hq
    by_cases hlen : q < m.cell.towers.length
    · rw [Mod.tower_setTower hlen]
    · have hlen : m.cell.towers.length ≤ q := Nat.not_lt.1 hlen
      simp [Mod.tower, Mod.setTower, updAt, hlen]
  · rw [Mod.tower_setTower_ne m hq]

theorem Mod.cellWorks_worked (m : Mod) (k c : Nat) : (m.worked k).cellWorks c = m.cellWorks c := by
  unfold Mod.cellWorks Mod.towerUp
  rw [Mod.tower_worked]

/-- What a run leaves on its cell: the accumulator, and whether it saturated on the way. -/
def Mod.macOf (m : Mod) (r : CellRun) : Int × Bool :=
  macRun r.fmt (if r.clear then 0 else (assocGet m.cell.acc r.cell).getD 0) r.ops

/-- The cells with a run's accumulator, result and SAT flag kept. -/
def CellSt.ran (c : CellSt) (r : CellRun) (a : Int × Bool) : CellSt :=
  { c with acc := assocSet c.acc r.cell a.1, out := assocSet c.out r.cell (accOut r.shift r.width r.signed a.1),
           sat := if a.2 && !c.sat.contains r.cell then c.sat ++ [r.cell] else c.sat }

section
variable {m : Mod} {r : CellRun}

theorem Mod.cellRun_of_works (hworks : m.cellWorks r.cell = true) (hshift : r.shift ≤ 31) (hwidth : r.width = 8 ∨ r.width = 16 ∨ r.width = 32) :
    m.cellRun r = { m with cell := m.cell.ran r (m.macOf r) } := by
  have hwide : [8, 16, 32].contains r.width = true := by simpa using hwidth
  unfold Mod.cellRun
  simp only [hworks, hwide, Nat.not_lt.2 hshift, Bool.not_true, decide_false, Bool.or_self, Bool.false_eq_true, if_false]
  rfl

theorem Mod.cellRun_of_idle (hidle : m.cellWorks r.cell = false) : m.cellRun r = m := by
  simp [Mod.cellRun, hidle]

theorem CellSt.mem_sat_ran (c : CellSt) (a : Int × Bool) : r.cell ∈ (c.ran r a).sat ↔ r.cell ∈ c.sat ∨ a.2 = true := by
  unfold CellSt.ran
  by_cases hsat : r.cell ∈ c.sat <;> by_cases ha : a.2 = true <;> simp [hsat, ha]

end

section
variable {s : State} {t p : Nat} {vecs : List (List Int)} {lost : Bool} {run : CellRun}

/-- A row with one run leaves the cells as the run does, and the ports and layers as the row does. -/
theorem featureRow_run_yields {Q : Mod → Prop} (hrows : (s.m.port p).rows ≠ []) {b : Mod}
    (hrun : ((s.m.at t).worked (s.m.rowTower p)).cellRun run = b) (hwithin : Mod.Within [.cell] [] (s.m.at t) b)
    (hQ : ∀ m' : Mod, m'.cell = b.cell → Mod.Frame t [.cams, .fus, .cell] [] s.m m' → Q m') :
    s.Yields (.featureRow t p vecs lost [run] []) Q := by
  obtain ⟨l, rest, hport⟩ := List.exists_cons_of_ne_nil hrows
  have hbport : b.port p = s.m.port p := Mod.port_congr (hwithin.areas .cams (by decide)) p
  obtain ⟨y, htaken⟩ := Mod.feature_takes (hbport ▸ hport) vecs (lost || (s.m.at t).stageDown p 2)
  have hmean : featureRow p vecs lost [run] [] (s.m.at t) = b.rowTaken p l rest y :=
    (featureRow_of_none (m := s.m.at t) hrows vecs lost [run]).trans ((congrArg (fun x : Mod => x.feature p vecs _) hrun).trans htaken)
  have hframe : Mod.Within [.cams, .fus, .cell] [] (s.m.at t) (featureRow p vecs lost [run] [] (s.m.at t)) := by
    rw [hmean]
    exact (hwithin.mono (by simp) (List.Subset.refl _)).trans (.rowTaken b p l rest y (by simp) (by simp))
  exact State.yields_run (f := featureRow p vecs lost [run] []) rfl (hQ _ (by rw [Mod.run_cell, hmean]; rfl) hframe.frame)

theorem featureRow_works_yields (hrows : (s.m.port p).rows ≠ []) (hworks : s.m.cellWorks run.cell = true) (hshift : run.shift ≤ 31)
    (hwidth : run.width = 8 ∨ run.width = 16 ∨ run.width = 32) : s.Yields (.featureRow t p vecs lost [run] []) fun m' =>
      assocGet m'.cell.acc run.cell = some (s.m.macOf run).1
      ∧ assocGet m'.cell.out run.cell = some (accOut run.shift run.width run.signed (s.m.macOf run).1)
      ∧ (run.cell ∈ m'.cell.sat ↔ run.cell ∈ s.m.cell.sat ∨ (s.m.macOf run).2 = true)
      ∧ (∀ c, c ≠ run.cell → assocGet m'.cell.acc c = assocGet s.m.cell.acc c) ∧ Mod.Frame t [.cams, .fus, .cell] [] s.m m' := by
  have hworks : ((s.m.at t).worked (s.m.rowTower p)).cellWorks run.cell = true := (Mod.cellWorks_worked _ _ _).trans hworks
  refine featureRow_run_yields hrows (Mod.cellRun_of_works hworks hshift hwidth)
    ((Mod.Within.worked _ _ (by simp)).trans (.ofCell _ _ (by simp))) fun m' hcell hframe => ?_
  rw [hcell]
  refine ⟨?_, ?_, CellSt.mem_sat_ran s.m.cell (s.m.macOf run), fun c hc => ?_, hframe⟩
  · exact (assocGet_assocSet _ _ _ _).trans (if_pos rfl)
  · exact (assocGet_assocSet _ _ _ _).trans (if_pos rfl)
  · exact (assocGet_assocSet _ _ _ _).trans (if_neg hc)

theorem featureRow_idle_yields (hrows : (s.m.port p).rows ≠ []) (hidle : s.m.cellWorks run.cell = false) :
    s.Yields (.featureRow t p vecs lost [run] []) fun m' =>
      m'.cell = ((s.m.at t).worked (s.m.rowTower p)).cell ∧ Mod.Frame t [.cams, .fus, .cell] [] s.m m' := by
  have hidle : ((s.m.at t).worked (s.m.rowTower p)).cellWorks run.cell = false := (Mod.cellWorks_worked _ _ _).trans hidle
  exact featureRow_run_yields hrows (Mod.cellRun_of_idle hidle) (.worked _ _ (by simp)) fun m' hcell hframe => ⟨hcell, hframe⟩

end

/-! ### Observations (R138, R139, R153) -/

/-- The module with the oldest closed region of a layer taken. -/
def Mod.regionTaken (m : Mod) (p : Nat) (rest : List (Blob × Bool)) : Mod :=
  { m with fus := { m.fus with layers := m.fus.layers.set p { m.fus.layers.getD p {} with closed := rest } } }

/-- The open window with an observation more. -/
def Mod.windowWith (m : Mod) (o : Obs) : Window :=
  match m.trk.win with
  | some w => { w with obs := w.obs ++ [o] }
  | none => { opened := m.now, obs := [o] }

section
variable {m : Mod} {p : Nat} {b : Blob} {ovr : Bool} {rest : List (Blob × Bool)}

theorem observationClose_of_small (hclosed : (m.fus.layers.getD p {}).closed = (b, ovr) :: rest) (hsmall : b.cells.length < m.rd P.fusMinCells) :
    observationClose p m = (m.regionTaken p rest).inc P.fusSmall := by
  unfold observationClose
  simp only [hclosed, hsmall, if_true]
  rfl

/-- A region of a port that contributes is counted, and offered where the port is not excluded. -/
theorem observationClose_of_large (hclosed : (m.fus.layers.getD p {}).closed = (b, ovr) :: rest) (hlarge : m.rd P.fusMinCells ≤ b.cells.length)
    (hheight : m.heightOk p = true) : observationClose p m = if m.excluded.testBit p then (m.regionTaken p rest).inc P.fusObs
      else ((m.regionTaken p rest).inc P.fusObs).offer (((m.regionTaken p rest).inc P.fusObs).makeObs p b ovr) := by
  unfold observationClose
  simp only [hclosed, Nat.not_lt.2 hlarge, hheight, Bool.not_true, Bool.false_eq_true, if_false]
  rfl

theorem Mod.length_windowWith (m : Mod) (o : Obs) (h : ∀ w, m.trk.win = some w → w.obs.length < 63) : (m.windowWith o).obs.length < 64 := by
  unfold Mod.windowWith
  cases hw : m.trk.win with
  | none => exact (by decide : 1 < 64)
  | some w =>
    have hroom := h w hw
    simp only [List.length_append, List.length_singleton]
    omega

/-- An observation enters a window that stays open. -/
theorem Mod.offer_of_room (o : Obs) (h : ∀ w, m.trk.win = some w → w.obs.length < 63) :
    m.offer o = { m with trk := { m.trk with win := some (m.windowWith o) } } :=
  if_neg (Nat.not_le.2 (m.length_windowWith o h))

end

theorem Mod.Within.regionTaken {as : List Area} {ws : List Nat} (m : Mod) (p : Nat) (rest : List (Blob × Bool)) (h : Area.fus ∈ as) :
    Mod.Within as ws m (m.regionTaken p rest) := .ofFus m _ h

/-- A count of 32 bits after it was raised. -/
theorem Mod.rd_inc_full {m : Mod} (h : Store.wf m.regs = true) {p : Param} (hw : p.w = 32) (i n j : Nat) :
    (m.inc p i n j).rd p i j = (m.rd p i j + n) % 2 ^ 32 := by
  rw [Mod.rd_inc h, hw, Nat.mod_mod]

section
variable {s : State} {t p : Nat} {b : Blob} {ovr : Bool} {rest : List (Blob × Bool)}

/-- A region that is only counted. -/
theorem observationClose_counted_yields (hs : s.Canonical) {q : Param} (hq : q.addr ≠ P.loopFlags.addr) (hw : q.w = 32)
    (hmean : observationClose p (s.m.at t) = ((s.m.at t).regionTaken p rest).inc q) : s.Yields (.observationClose t p) fun m' =>
      m'.fus = (s.m.regionTaken p rest).fus ∧ m'.rd q = (s.m.rd q + 1) % 2 ^ 32 ∧ Mod.Frame t [.fus] [q.addr] s.m m' := by
  have hwithin : Mod.Within [.fus] [q.addr] (s.m.at t) (observationClose p (s.m.at t)) := by
    rw [hmean]
    exact (Mod.Within.regionTaken _ p rest (by simp)).trans (.inc _ _ _ _ _ (by simp))
  refine State.yields_run (f := observationClose p) rfl ⟨?_, ?_, hwithin.frame⟩
  · rw [Mod.run_fus, hmean]; rfl
  · rw [Mod.run_rd_other t _ s.m hq, hmean, Mod.rd_inc_full (m := (s.m.at t).regionTaken p rest) hs hw]
    rfl

theorem observationClose_offered_yields (hs : s.Canonical) (hclosed : (s.m.fus.layers.getD p {}).closed = (b, ovr) :: rest)
    (hlarge : s.m.rd P.fusMinCells ≤ b.cells.length) (hheight : s.m.heightOk p = true) (hin : s.m.excluded.testBit p = false)
    (hroom : ∀ w, s.m.trk.win = some w → w.obs.length < 63) : s.Yields (.observationClose t p) fun m' =>
      (∃ o : Obs, o.port = p ∧ o.oversize = ovr ∧ o.mass = sumOf (b.cells.map (·.obj)) ∧ o.colFirst = b.span.1 ∧ o.colLast = b.span.2
        ∧ m'.trk = { s.m.trk with win := some ((s.m.at t).windowWith o) })
      ∧ m'.fus = (s.m.regionTaken p rest).fus ∧ m'.rd P.fusObs = (s.m.rd P.fusObs + 1) % 2 ^ 32
      ∧ Mod.Frame t [.fus, .trk] [P.fusObs.addr] s.m m' := by
  let counted := ((s.m.at t).regionTaken p rest).inc P.fusObs
  have hmean := observationClose_of_large (m := s.m.at t) hclosed hlarge hheight
  rw [if_neg (by rw [show (s.m.at t).excluded.testBit p = false from hin]; decide),
    Mod.offer_of_room (m := counted) (counted.makeObs p b ovr) hroom] at hmean
  have hwithin : Mod.Within [.fus, .trk] [P.fusObs.addr] (s.m.at t) (observationClose p (s.m.at t)) := by
    rw [hmean]
    exact ((Mod.Within.regionTaken _ p rest (by simp)).trans (.inc _ _ _ _ _ (by simp))).trans (.ofTrk _ _ (by simp))
  refine State.yields_run (f := observationClose p) rfl ⟨⟨counted.makeObs p b ovr, rfl, rfl, rfl, rfl, rfl, ?_⟩, ?_, ?_, hwithin.frame⟩
  · rw [Mod.run_trk, hmean]; rfl
  · rw [Mod.run_fus, hmean]; rfl
  · rw [Mod.run_rd_other t _ s.m (by decide), hmean]
    exact Mod.rd_inc_full (m := (s.m.at t).regionTaken p rest) hs rfl _ _ _

end

/-- Settles O31: a row is lost or whole, a cell works or is idle, and a closed region is small, excluded or offered. -/
theorem rowsBecomeObservations : Obligations.RowsBecomeObservations := by
  intro s t p hs _ hp hlayer
  refine ⟨?lost, ?blank, ?works, ?idle, ?closes⟩
  case lost => exact fun l rest vecs reads lost hrows hdata hlost => featureRow_lost_yields hs hp hlayer hrows hdata hlost
  case blank =>
    exact fun l rest vecs hrows hwhole hup hmono hnone hlow => featureRow_blank_yields hp hlayer hrows hwhole hup hmono hnone hlow
  case works => exact fun vecs lost run hrows hworks hshift hwidth => featureRow_works_yields hrows hworks hshift hwidth
  case idle => exact fun vecs lost run hrows hidle => featureRow_idle_yields hrows hidle
  case closes =>
    intro b ovr rest hclosed
    refine ⟨fun hsmall => ?_, fun hlarge hheight hout => ?_, fun hlarge hheight hin hroom => ?_⟩
    · exact observationClose_counted_yields hs (by decide) rfl (observationClose_of_small (m := s.m.at t) hclosed hsmall)
    · exact observationClose_counted_yields hs (by decide) rfl
        ((observationClose_of_large (m := s.m.at t) hclosed hlarge hheight).trans (if_pos hout))
    · exact observationClose_offered_yields hs hclosed hlarge hheight hin hroom

end Sys2Proof.Machine
end

section
/-!
PROOFS. The statements of 05_cell_array.md: what a piece without a verdict holds when it takes its default action.
-/
namespace Sys2Proof.Machine

/-! ### Observations held for a revision (R175, R177) -/

/-- An observation of a port. -/
def seenObs (p : Nat) : Obs :=
  { port := p, oversize := false, edge := false, linesLost := false, bgi := false, cold := false, span := false, t := 1000, ta := 1000,
    x := 0, xa := 0, lane := 0, colFirst := 5, colLast := 9, lines := 4, lost := 0, mass := 50, seq0 := 0, seq1 := 0, vec := [], arrived := 2000 }

/-- A piece that is ready with an observation of port 0, the one that is required, and holds one of port 1, which came while the piece waited for its slot. -/
def holdingPiece : Track :=
  { slot := 0, serial := 5, st := .ready, recipe := 0, variant := none, tFirst := 1000, ta := 1000, xa := 0, lane := 0, colFirst := 5,
    colLast := 9, obs := [seenObs 0], held := [seenObs 1], lot := 0,
    vals := [(P.camEn.addr 0, 1#32), (P.camEn.addr 1, 1#32), (P.fusRequired.addr, 1#32)], calu := [],
    readyAt := some 2000, lateAt := some 2000 }

def holdingWait : Wait := { serial := 5, revision := false, commit := 3000000, latest := 4000, sample := 2000, since := 2000 }

/-- The piece waits for a slot, and its latest start has come. -/
def holdingMod : Mod := { bist := { phase := .running }, now := 4000, cell := { queue := [holdingWait] }, trk := { live := [holdingPiece] } }

/-- Nothing is missing, and the module is not PAIRED. -/
theorem holdingPiece_lacks : holdingPiece.lacks holdingPiece.obs = false ∧ holdingMod.paired = false := by
  decide +kernel

/-- The held observation joins the piece as it takes its default action. -/
theorem holdingMod_obs : (Mod.run 4000 (pieceLatestStart 5) holdingMod).trk.live.map (·.obs) = [[seenObs 0, seenObs 1]] := by
  rw [Mod.run_trk]
  decide +kernel

/-- Refutes O35: the observations that a waiting piece holds for its revision join it when it takes the default action (R177), where
the statement has its observations unchanged. -/
theorem not_cellFailuresAreContained : ¬ Obligations.CellFailuresAreContained := by
  intro ⟨_, hlatest⟩
  obtain ⟨-, hrefused⟩ := hlatest { m := holdingMod } 4000 5 holdingWait holdingPiece rfl rfl rfl (by decide) rfl rfl rfl
  obtain ⟨hlacks, hpaired⟩ := holdingPiece_lacks
  obtain ⟨m', hexec, ⟨k', hfound, -, -, -, hkept⟩, -⟩ := hrefused hlacks hpaired
  obtain rfl : Mod.run 4000 (pieceLatestStart 5) holdingMod = m' := congrArg State.m (Host.Outcome.next.inj hexec)
  have hobs : k'.obs ∈ [[seenObs 0, seenObs 1]] := holdingMod_obs ▸ List.mem_map_of_mem (List.mem_of_find?_eq_some hfound)
  rw [List.mem_singleton.1 hobs] at hkept
  exact absurd hkept (by decide)

end Sys2Proof.Machine
end

section
/-!
PROOFS. The statements of 05_cell_array.md: jobs that give their verdict. What leaves with a job of one copy; the track that a verdict is
written to, and what a written decision counts; then a first verdict and a revised one.
-/
namespace Sys2Proof.Machine

/-! ### Tracks -/

theorem Mod.track?_congr {a b : Mod} (h : b.trk = a.trk) (n : Nat) : b.track? n = a.track? n := by unfold Mod.track?; rw [h]

theorem Mod.track?_serial {m : Mod} {n : Nat} {k : Track} (h : m.track? n = some k) : k.serial = n := by
  simpa using List.find?_some h

theorem Mod.track?_setTrack {m : Mod} {n : Nat} {k : Track} {f : Track → Track} (h : m.track? n = some k)
    (hf : ∀ x, (f x).serial = x.serial) : (m.setTrack n f).track? n = some (f k) := by
  have hsame : ∀ x : Track, (if x.serial = n then f x else x).serial = x.serial := fun x => by
    split
    · exact hf x
    · rfl
  have hfound : m.trk.live.find? (fun x => x.serial = n) = some k := h
  simp only [Mod.track?, Mod.setTrack, List.find?_map, Function.comp_def, hsame, hfound, Option.map_some, Mod.track?_serial h, if_true]

theorem Mod.Within.setTrack {as : List Area} {ws : List Nat} (m : Mod) (n : Nat) (f : Track → Track) (h : Area.trk ∈ as) :
    Mod.Within as ws m (m.setTrack n f) := .ofTrk m _ h

/-! ### Jobs that leave their slots (R110, R126, R455) -/

theorem Mod.foldl_worked_cell (l : List Nat) (m : Mod) : (l.foldl Mod.worked m).cell = { m.cell with towers := (l.foldl Mod.worked m).cell.towers } := by
  induction l generalizing m with
  | nil => rfl
  | cons k l ih => rw [List.foldl_cons, ih]; rfl

theorem Mod.dropJob_cell (m : Mod) (j : Job) : (m.dropJob j).cell = { m.cell with
    jobs := m.cell.jobs.filter (fun x => !(x.serial = j.serial && x.revision = j.revision)), towers := (m.dropJob j).cell.towers } :=
  Mod.foldl_worked_cell j.towers _

section
variable {as : List Area} {ws : List Nat}

theorem Mod.Within.dropJob (m : Mod) (j : Job) (h : Area.cell ∈ as) : Mod.Within as ws m (m.dropJob j) :=
  (Mod.Within.ofCell m _ h).trans (.foldl (fun m k => .worked m k h) _ _)

theorem Mod.Within.perfHist (m : Mod) (base bound d : Nat) (hp : Area.perf ∈ as) (hf : Area.free ∈ as) :
    Mod.Within as ws m (m.perfHist base bound d) := .perfAdd m _ _ hp hf

theorem Mod.Within.copyEnds (m : Mod) (j : Job) (k : Nat) (line : Option ResultLine) (hp : Area.perf ∈ as) (hf : Area.free ∈ as) :
    Mod.Within as ws m (m.copyEnds j k line) := by
  unfold Mod.copyEnds
  split <;> exact (Mod.Within.perfTower m k _ 1 hp hf).trans (.perfHist _ _ _ _ hp hf)

/-- The ends of a job's copies are performance counts alone. -/
theorem Mod.Within.copiesEnd (m : Mod) (j : Job) (copies : List (Option ResultLine)) (hp : Area.perf ∈ as) (hf : Area.free ∈ as) :
    Mod.Within as ws m (j.towers.zipIdx.foldl (fun m e => m.copyEnds j e.1 (copies.getD e.2 none)) m) :=
  .foldl (f := fun m (e : Nat × Nat) => m.copyEnds j e.1 (copies.getD e.2 none)) (fun m _ => .copyEnds m j _ _ hp hf) _ m

theorem Mod.Within.jobEnds (m : Mod) (j : Job) (copies : List (Option ResultLine)) (hc : Area.cell ∈ as) (hp : Area.perf ∈ as)
    (hf : Area.free ∈ as) : Mod.Within as ws m (m.jobEnds j copies) :=
  (Mod.Within.dropJob m j hc).trans (.copiesEnd _ j copies hp hf)

end

theorem Mod.jobEnds_cell (m : Mod) (j : Job) (copies : List (Option ResultLine)) : (m.jobEnds j copies).cell = (m.dropJob j).cell :=
  (Mod.Within.copiesEnd (as := [.perf, .free]) (ws := []) (m.dropJob j) j copies (by simp) (by simp)).areas .cell (by decide)

/-- Without a waiting piece no slot is given out. -/
theorem Mod.tryAdmit_of_empty {m : Mod} (h : m.cell.queue = []) : m.tryAdmit = m := by
  unfold Mod.tryAdmit Mod.dispatch
  rw [h]
  exact ite_self m

/-- A line that gives no plan of its own, or its job's, leaves the job's plan. -/
theorem Mod.linePlan_of_own (m : Mod) (ds : List (Nat × Nat × Nat)) {p : Plan} {line : ResultLine} (h : line.plan = [] ∨ line.plan = p.bytes) :
    m.linePlan ds p (resultPlan line p) = p := by
  have hbytes : resultPlan line p = p.bytes := by
    unfold resultPlan
    rcases h with h | h
    · rw [if_pos h]
    · rw [h, ite_eq_left_iff]
      exact fun _ => rfl
  unfold Mod.linePlan
  rw [if_pos hbytes]

/-- A job of one copy, whose result line has come within the bound and is held nowhere. -/
structure Mod.OneCopy (m : Mod) (serial : Nat) (rev : Bool) (j : Job) (line : ResultLine) : Prop where
  found : m.job? serial rev = some j
  one : j.towers.length = 1
  inTime : m.now ≤ j.start + m.jobBound
  direct : line.held = none

section
variable {m : Mod} {serial : Nat} {rev : Bool} {j : Job} {line : ResultLine}

theorem Mod.OneCopy.named (h : m.OneCopy serial rev j line) : j.serial = serial ∧ j.revision = rev := by
  simpa using List.find?_some h.found

/-- The one copy agrees with itself: the job leaves its slot and delivers. -/
theorem Mod.OneCopy.complete (h : m.OneCopy serial rev j line) :
    m.jobComplete serial rev [some line] [] = ((m.jobEnds j [some line]).deliverJob j line).tryAdmit := by
  obtain ⟨hreads, hdata, hboth⟩ := Mod.jobReads_of_data (m := m) (k := j.towers.headD 0) (rs := []) (by simp)
  have hheld : m.takeHeld [line] = (m, false) := by simp [Mod.takeHeld, h.direct, Mod.takeLines]
  unfold Mod.jobComplete
  simp only [h.found, h.one, h.inTime]
  generalize m.jobReads (j.towers.headD 0) [] = x at hreads hdata hboth ⊢
  obtain ⟨b, data, both⟩ := x
  obtain rfl : b = m := hreads
  obtain rfl : data = false := hdata
  obtain rfl : both = false := hboth
  simp [h.found, hheld, Mod.settleJob]

theorem Mod.jobEnds_jobs (m : Mod) (j : Job) (copies : List (Option ResultLine)) : (m.jobEnds j copies).cell.jobs
    = m.cell.jobs.filter (fun x => !(x.serial = j.serial && x.revision = j.revision)) := by
  rw [Mod.jobEnds_cell, Mod.dropJob_cell]

theorem Mod.jobEnds_queue (m : Mod) (j : Job) (copies : List (Option ResultLine)) : (m.jobEnds j copies).cell.queue = m.cell.queue := by
  rw [Mod.jobEnds_cell, Mod.dropJob_cell]

end

/-! ### Pairs of sensors (R150, R151) -/

/-- The words of the pairs' account and of the sensor set that it may change. -/
def pairWords : List Nat :=
  [P.fusFlags.addr, P.sysSuspect.addr] ++ (List.range 28).map (fun i => P.fusPairContra.addr i)
    ++ (List.range 8).map (fun p => P.fusAgree.addr p)

theorem pairIndex_lt : ∀ a < 8, ∀ b < 8, a < b → pairIndex a b < 28 := by decide

section
variable {as : List Area}

theorem Mod.Within.setPair {ws : List Nat} (m : Mod) (i : Nat) (f : PairAcc → PairAcc) (h : Area.fus ∈ as) :
    Mod.Within as ws m (m.setPair i f) := .ofFus m _ h

theorem Mod.Within.setSuspect {ws : List Nat} (m : Mod) (p r : Nat) (pair : List Byte) (h : Area.fus ∈ as) (hw : sensorSetWords ⊆ ws) :
    Mod.Within as ws m (m.setSuspect p r pair) :=
  (Mod.Within.suspected m p r pair h).trans (.evaluateSet _ h hw)

theorem fusAgree_mem_pairWords {p : Nat} (h : p < 8) : P.fusAgree.addr p ∈ pairWords :=
  List.mem_append_right _ (List.mem_map_of_mem (List.mem_range.2 h))

theorem fusPairContra_mem_pairWords {i : Nat} (h : i < 28) : P.fusPairContra.addr i ∈ pairWords :=
  List.mem_append_left _ (List.mem_append_right _ (List.mem_map_of_mem (List.mem_range.2 h)))

theorem sensorSetWords_subset_pairWords : sensorSetWords ⊆ pairWords := by
  simp [sensorSetWords, pairWords]

theorem Mod.Within.pairClose (m : Mod) {a b : Nat} (ha : a < 8) (hb : b < 8) (h : Area.fus ∈ as) :
    Mod.Within as pairWords m (m.pairClose a b) := by
  unfold Mod.pairClose
  extract_lets i q share shown m1 n m2 lim low
  have hshown : Mod.Within as pairWords m m1 :=
    (Mod.Within.wr m _ _ _ _ (fusAgree_mem_pairWords ha)).trans (.wr _ _ _ _ _ (fusAgree_mem_pairWords hb))
  have hstruck : Mod.Within as pairWords m m2 := (hshown.trans (.setPair m1 i _ h)).trans (.raise _ _ _ _)
  have hlow : ∀ p, Mod.Within as pairWords m (low p) := by
    intro p
    unfold low
    split
    · exact hstruck.trans (.setSuspect m2 p 1 _ h sensorSetWords_subset_pairWords)
    · exact hstruck
  split
  · exact hshown.trans (.setPair m1 i _ h)
  split
  · exact hstruck
  split
  · exact hlow a
  split
  · exact hlow b
  split
  · exact (hstruck.trans (.flag _ _ _ _ (by simp [pairWords]))).trans (.raise _ _ _ _)
  · exact hstruck

theorem Mod.Within.pairCount (m : Mod) (k : List (Nat × Bool)) (v co : Bool) {a b : Nat} (ha : a < 8) (hb : b < 8) (hab : a < b)
    (h : Area.fus ∈ as) : Mod.Within as pairWords m (m.pairCount k v co a b) := by
  unfold Mod.pairCount
  extract_lets i ga gb contra m1 m2
  have hcontra : Mod.Within as pairWords m m1 := by
    unfold m1
    split
    · exact .inc m _ _ _ _ (fusPairContra_mem_pairWords (pairIndex_lt a ha b hb hab))
    · exact .refl m
  have hcounted : Mod.Within as pairWords m m2 := hcontra.trans (.setPair m1 i _ h)
  split
  · exact hcounted.trans (.pairClose m2 ha hb h)
  · exact hcounted

/-- Every pair of sensors counts within the pairs' words. -/
theorem Mod.Within.pairsCount (m : Mod) {set : List Nat} (present : Nat → Bool) (k : List (Nat × Bool)) (v : Bool) (hset : ∀ p ∈ set, p < 8)
    (h : Area.fus ∈ as) : Mod.Within as pairWords m (m.pairsCount set present k v) := by
  refine .foldl_mem _ (fun e he m => ?_) m
  obtain ⟨a, ha, he⟩ := List.mem_flatMap.1 he
  obtain ⟨b, hb, rfl⟩ := List.mem_map.1 he
  obtain ⟨hb, hab⟩ := List.mem_filter.1 hb
  exact .pairCount m k v _ (hset a (List.mem_filter.1 ha).1) (hset b (List.mem_filter.1 hb).1) (of_decide_eq_true hab) h

theorem Track.ports_lt (k : Track) : ∀ p ∈ k.ports, p < 8 := fun _ hp => List.mem_range.1 (List.mem_filter.1 hp).1

end

/-! ### A written decision (R149, R150, R174) -/

/-- What the policy gives for a result line (R173). -/
def Track.rulingOn (k : Track) (job : Job) (line : ResultLine) : Ruling :=
  ruling k.vals (job.obs.any (·.oversize)) line.scores (confident k line)

/-- The words that every written decision may change. -/
def decisionWords : List Nat := [P.sysDecLatMax.addr, P.ejClipped.addr, P.fusContraPieces.addr, P.fusFlags.addr]

/-- The words that a first verdict may change. -/
def firstWords : List Nat := decisionWords ++ P.fusDegradedPieces.addr :: pairWords

section
variable {as : List Area} {ws : List Nat}

theorem Mod.Within.contraCount (m : Mod) (k : Track) (r : Ruling) (h : Area.trk ∈ as) (hw : decisionWords ⊆ ws) :
    Mod.Within as ws m (m.contraCount k r) := by
  unfold Mod.contraCount
  split
  · exact ((Mod.Within.inc m _ _ _ _ (hw (by simp [decisionWords]))).trans (.flag _ _ _ _ (hw (by simp [decisionWords])))).trans
      (.setTrack _ _ _ h)
  · exact .refl m

theorem Mod.Within.noteDecision (m : Mod) (job : Job) (hp : Area.perf ∈ as) (hf : Area.free ∈ as) (hw : decisionWords ⊆ ws) :
    Mod.Within as ws m (m.noteDecision job) :=
  (Mod.Within.peak m _ _ _ (hw (by simp [decisionWords]))).trans (.perfHist _ _ _ _ hp hf)

theorem Mod.Within.noteClip (m : Mod) (serial : Nat) (plan : Plan) (hw : decisionWords ⊆ ws) :
    Mod.Within as ws m (m.noteClip serial plan) := by
  unfold Mod.noteClip
  split
  · exact (Mod.Within.inc m _ _ _ _ (hw (by simp [decisionWords]))).trans (.raise _ _ _ _)
  · exact .refl m

end

section
variable {m : Mod} {k : Track} {job : Job} {line : ResultLine}

/-- A track that changes and has its contradiction counted has changed so, but for the mark of that count. -/
theorem Mod.track?_contraCount {f : Track → Track} (r : Ruling) (hk : m.track? k.serial = some k) (hf : ∀ x, (f x).serial = x.serial) :
    ∃ d, ((m.setTrack k.serial f).contraCount k r).track? k.serial = some { f k with contraDone := d } := by
  have hset := Mod.track?_setTrack hk hf
  unfold Mod.contraCount
  split
  · exact ⟨true, Mod.track?_setTrack (f := fun x => { x with contraDone := true }) hset fun _ => rfl⟩
  · exact ⟨(f k).contraDone, hset⟩

theorem Mod.startRevision_of_none {n : Nat} (hk : m.track? n = some k) (hlate : k.lateAt = none) : m.startRevision n = m := by
  unfold Mod.startRevision
  simp only [hk, hlate]

/-- A first verdict of ACCEPT is written to its track; nothing waits for a revision. -/
theorem Mod.firstVerdict_of_accept (hk : m.track? k.serial = some k) (hlate : k.lateAt = none)
    (haccept : (k.rulingOn job line).reject = false) : Mod.Within [.trk, .fus, .perf, .free] firstWords m (m.firstVerdict k job line)
      ∧ ∃ d, (m.firstVerdict k job line).track? k.serial
        = some { k.withVerdict job line (k.rulingOn job line) job.plan m.now with contraDone := d } := by
  have hwords : decisionWords ⊆ firstWords := List.subset_append_left _ _
  obtain ⟨d, hwritten⟩ := Mod.track?_contraCount (f := fun x => x.withVerdict job line (k.rulingOn job line) job.plan m.now)
    (k.rulingOn job line) hk fun _ => rfl
  unfold Mod.firstVerdict
  extract_lets heads r m1 m2 m3 mc m4 m5
  have hm4 : m4 = mc := if_neg (by rw [show r.reject = false from haccept]; decide)
  have hwrite : Mod.Within [.trk, .fus, .perf, .free] firstWords m m1 := (Mod.Within.setTrack m _ _ (by simp)).trans
    (.contraCount _ _ _ (by simp) hwords)
  have hdegraded : Mod.Within [.fus, .perf, .free] firstWords m2 m3 := by
    unfold m3
    split
    · exact .inc m2 _ _ _ _ (by simp [firstWords])
    · exact .refl m2
  have hpairs : Mod.Within [.fus, .perf, .free] firstWords m4 m5 :=
    (Mod.Within.pairsCount (as := [.fus, .perf, .free]) m4 _ _ _ k.ports_lt (by simp)).mono (List.Subset.refl _) (by simp [firstWords])
  have hcount : Mod.Within [.fus, .perf, .free] firstWords m1 m5 :=
    (((Mod.Within.noteDecision m1 job (by simp) (by simp) hwords).trans hdegraded).trans (.noteClip m3 _ _ hwords)).trans (hm4 ▸ hpairs)
  have htrack : m5.track? k.serial = some { k.withVerdict job line (k.rulingOn job line) job.plan m.now with contraDone := d } :=
    (Mod.track?_congr (hcount.areas .trk (by decide)) _).trans hwritten
  rw [Mod.startRevision_of_none htrack hlate]
  exact ⟨hwrite.trans (hcount.mono (by simp) (List.Subset.refl _)), d, htrack⟩

/-- The track with a revised verdict. -/
def Track.revisedBy (k : Track) (job : Job) (line : ResultLine) (r : Ruling) (plan : Plan) (now : Nat) : Track :=
  { k.withVerdict job line r plan now with flags := flagTo (k.withVerdict job line r plan now).flags 8 true }

/-- A revised verdict of ACCEPT for an accepted piece is written and marked, at the earlier commit point. -/
theorem Mod.revisedVerdict_of_accept (hk : m.track? k.serial = some k) (hverdict : k.verdict = false)
    (haccept : (k.rulingOn job line).reject = false) : Mod.Within [.trk, .perf, .free] decisionWords m (m.revisedVerdict k job line)
      ∧ ∃ d, (m.revisedVerdict k job line).track? k.serial = some { k.revisedBy job line (k.rulingOn job line)
        { job.plan with commit := Nat.min job.plan.commit k.tCommit } m.now with contraDone := d } := by
  obtain ⟨d, hwritten⟩ := Mod.track?_contraCount (f := fun x => x.revisedBy job line (k.rulingOn job line)
    { job.plan with commit := Nat.min job.plan.commit k.tCommit } m.now) (k.rulingOn job line) hk fun _ => rfl
  have hsame : (k.rulingOn job line).reject = k.verdict := haccept.trans hverdict.symm
  have hmean : m.revisedVerdict k job line = (((m.setTrack k.serial (fun x => x.revisedBy job line (k.rulingOn job line)
      { job.plan with commit := Nat.min job.plan.commit k.tCommit } m.now)).contraCount k (k.rulingOn job line)).noteDecision job).noteClip
      k.serial { job.plan with commit := Nat.min job.plan.commit k.tCommit } := by
    unfold Mod.revisedVerdict
    unfold Track.rulingOn at hsame haccept ⊢
    simp only [hsame, hverdict, if_true, Bool.false_eq_true, if_false]
    rfl
  have hcount : ∀ b : Mod, Mod.Within [.perf, .free] decisionWords b ((b.noteDecision job).noteClip k.serial
      { job.plan with commit := Nat.min job.plan.commit k.tCommit }) := fun b =>
    (Mod.Within.noteDecision b job (by simp) (by simp) (List.Subset.refl _)).trans (.noteClip _ _ _ (List.Subset.refl _))
  rw [hmean]
  refine ⟨?_, d, (Mod.track?_congr ((hcount _).areas .trk (by decide)) _).trans hwritten⟩
  exact ((Mod.Within.setTrack m _ _ (by simp)).trans (.contraCount _ _ _ (by simp) (List.Subset.refl _))).trans
    ((hcount _).mono (by simp) (List.Subset.refl _))

theorem Mod.deliverJob_first (hk : m.track? job.serial = some k) (hst : k.st = .running) (hrev : job.revision = false)
    (hplan : line.plan = [] ∨ line.plan = job.plan.bytes) : m.deliverJob job line = (m.inc P.cellJobsDone).firstVerdict k job line := by
  have hk : (m.inc P.cellJobsDone).track? job.serial = some k := hk
  unfold Mod.deliverJob
  simp only [hk, Mod.linePlan_of_own _ _ hplan, hrev, hst, Bool.false_eq_true, if_false, if_true]
  rw [← hrev]

theorem Mod.deliverJob_revision (hk : m.track? job.serial = some k) (hst : k.st = .revising) (hrev : job.revision = true)
    (hplan : line.plan = [] ∨ line.plan = job.plan.bytes) : m.deliverJob job line = (m.inc P.cellJobsDone).revisedVerdict k job line := by
  have hk : (m.inc P.cellJobsDone).track? job.serial = some k := hk
  unfold Mod.deliverJob
  simp only [hk, Mod.linePlan_of_own _ _ hplan, hrev, hst, if_true]
  rw [← hrev]

end

/-! ### Jobs that end (R126, R129, R172, R177) -/

/-- The module whose job of one copy has left its slot and is counted. -/
def Mod.jobDone (m : Mod) (j : Job) (line : ResultLine) : Mod := (m.jobEnds j [some line]).inc P.cellJobsDone

section
variable {s : State} {t serial : Nat} {rev : Bool} {j : Job} {line : ResultLine} {k : Track}

theorem Mod.track?_jobEnds (m : Mod) (j : Job) (copies : List (Option ResultLine)) (n : Nat) : (m.jobEnds j copies).track? n = m.track? n :=
  Mod.track?_congr ((Mod.Within.jobEnds (as := [.cell, .perf, .free]) (ws := []) m j copies (by simp) (by simp) (by simp)).areas .trk
    (by decide)) n

theorem Mod.jobDone_now (m : Mod) (j : Job) (line : ResultLine) : (m.jobDone j line).now = m.now :=
  (Mod.Within.jobEnds (as := [.cell, .perf, .free]) (ws := []) m j [some line] (by simp) (by simp) (by simp)).now

/-- A job of one copy ends in its verdict `v`: its slot is free, it is counted, and the track is as the verdict leaves it. -/
theorem Mod.OneCopy.yields {c : Instr} {as as' : List Area} {ws ws' : List Nat} {v : Mod} {Q : Mod → Prop}
    (h : (s.m.at t).OneCopy serial rev j line) (hexec : exec c s = s.run t (fun m => m.jobComplete serial rev [some line] []))
    (hs : s.Canonical) (hqueue : s.m.cell.queue = []) (hv : ((s.m.at t).jobEnds j [some line]).deliverJob j line = v)
    (hwithin : Mod.Within as ws ((s.m.at t).jobDone j line) v) (hcell : Area.cell ∉ as) (hdone : P.cellJobsDone.addr ∉ ws)
    (has : .cell :: .perf :: .free :: as ⊆ as') (hws : P.cellJobsDone.addr :: ws ⊆ ws')
    (hQ : ∀ m' : Mod, m'.trk = v.trk → m'.cell.jobs = s.m.cell.jobs.filter (fun x => !(x.serial = serial && x.revision = rev))
      → m'.rd P.cellJobsDone = (s.m.rd P.cellJobsDone + 1) % 2 ^ 32 → Mod.Frame t as' ws' s.m m' → Q m') : s.Yields c Q := by
  obtain ⟨hserial, hrev⟩ := h.named
  have hends : Mod.Within [.cell, .perf, .free] [] (s.m.at t) ((s.m.at t).jobEnds j [some line]) :=
    .jobEnds _ _ _ (by simp) (by simp) (by simp)
  have hvcell : v.cell = ((s.m.at t).jobEnds j [some line]).cell := hwithin.areas .cell hcell
  have hmean : (s.m.at t).jobComplete serial rev [some line] [] = v := by
    rw [h.complete, hv]
    exact Mod.tryAdmit_of_empty ((congrArg CellSt.queue hvcell).trans ((Mod.jobEnds_queue _ _ _).trans hqueue))
  have hwf : Store.wf ((s.m.at t).jobEnds j [some line]).regs = true := hends.wf hs
  have hcounted : Mod.Within as' ws' (s.m.at t) ((s.m.at t).jobDone j line) :=
    (hends.mono (fun _ hp => has (List.mem_append_left as hp)) (List.nil_subset _)).trans (.inc _ _ _ _ _ (hws List.mem_cons_self))
  have hall : Mod.Within as' ws' (s.m.at t) v := hcounted.trans (hwithin.mono (fun _ hp => has (by simp [hp])) fun _ hx => hws (by simp [hx]))
  refine ⟨_, hexec, hQ _ ?_ ?_ ?_ (Mod.Within.frame (hmean.symm ▸ hall))⟩
  · rw [Mod.run_trk, hmean]
  · rw [Mod.run_cell, hmean, hvcell, Mod.jobEnds_jobs, hserial, hrev]
    rfl
  · rw [Mod.run_rd_other t _ s.m (by decide), hmean, hwithin.rd_eq (Mod.inc_wf hwf _ _ _ _) hdone (by decide), Mod.jobDone,
      Mod.rd_inc_full hwf rfl, hends.rd_eq hs (by simp) (by decide), Mod.rd_at]

/-- The words of the frame of a first verdict. -/
def firstFrame : List Nat :=
  [P.cellJobsDone.addr, P.sysDecLatMax.addr, P.ejClipped.addr, P.ejFlags.addr, P.fusContraPieces.addr, P.fusFlags.addr,
    P.fusDegradedPieces.addr, P.sysSuspect.addr] ++ (List.range 28).map (fun i => P.fusPairContra.addr i)
    ++ (List.range 8).map (fun p => P.fusAgree.addr p)

theorem firstWords_subset_firstFrame : P.cellJobsDone.addr :: firstWords ⊆ firstFrame := by
  decide

theorem pieceJobComplete_yields (hs : s.Canonical) (hqueue : s.m.cell.queue = []) (h : (s.m.at t).OneCopy serial false j line)
    (hk : s.m.track? serial = some k) (hst : k.st = .running) (hplan : line.plan = [] ∨ line.plan = j.plan.bytes) (hlate : k.lateAt = none)
    (haccept : (k.rulingOn j line).reject = false) : s.Yields (.pieceJobComplete t serial [some line] []) fun m' =>
      (∃ d, m'.track? serial = some { k.withVerdict j line (k.rulingOn j line) j.plan (s.m.at t).now with contraDone := d })
      ∧ m'.cell.jobs = s.m.cell.jobs.filter (fun x => !(x.serial = serial && x.revision = false))
      ∧ m'.rd P.cellJobsDone = (s.m.rd P.cellJobsDone + 1) % 2 ^ 32 ∧ Mod.Frame t [.trk, .cell, .fus, .perf, .free] firstFrame s.m m' := by
  obtain ⟨hserial, hrev⟩ := h.named
  obtain rfl := Mod.track?_serial hk
  have hfound : ((s.m.at t).jobEnds j [some line]).track? k.serial = some k := (Mod.track?_jobEnds _ _ _ _).trans hk
  obtain ⟨hwithin, d, hwritten⟩ := Mod.firstVerdict_of_accept (m := (s.m.at t).jobDone j line) hfound hlate haccept
  rw [Mod.jobDone_now] at hwritten
  exact h.yields rfl hs hqueue (Mod.deliverJob_first (hserial ▸ hfound) hst hrev hplan) hwithin (by decide) (by decide) (by simp)
    firstWords_subset_firstFrame fun m' htrk hjobs hdone hframe => ⟨⟨d, (Mod.track?_congr htrk _).trans hwritten⟩, hjobs, hdone, hframe⟩

theorem revisionJobComplete_yields (hs : s.Canonical) (hqueue : s.m.cell.queue = []) (h : (s.m.at t).OneCopy serial true j line)
    (hk : s.m.track? serial = some k) (hst : k.st = .revising) (hplan : line.plan = [] ∨ line.plan = j.plan.bytes)
    (hverdict : k.verdict = false) (haccept : (k.rulingOn j line).reject = false) :
    s.Yields (.revisionJobComplete t serial [some line] []) fun m' =>
      (∃ d, m'.track? serial = some { k.revisedBy j line (k.rulingOn j line)
        { j.plan with commit := Nat.min j.plan.commit k.tCommit } (s.m.at t).now with contraDone := d })
      ∧ m'.cell.jobs = s.m.cell.jobs.filter (fun x => !(x.serial = serial && x.revision = true))
      ∧ m'.rd P.cellJobsDone = (s.m.rd P.cellJobsDone + 1) % 2 ^ 32
      ∧ Mod.Frame t [.trk, .cell, .perf, .free] [P.cellJobsDone.addr, P.sysDecLatMax.addr, P.ejClipped.addr, P.ejFlags.addr,
          P.fusContraPieces.addr, P.fusFlags.addr] s.m m' := by
  obtain ⟨hserial, hrev⟩ := h.named
  obtain rfl := Mod.track?_serial hk
  have hfound : ((s.m.at t).jobEnds j [some line]).track? k.serial = some k := (Mod.track?_jobEnds _ _ _ _).trans hk
  obtain ⟨hwithin, d, hwritten⟩ := Mod.revisedVerdict_of_accept (m := (s.m.at t).jobDone j line) hfound hverdict haccept
  rw [Mod.jobDone_now] at hwritten
  exact h.yields rfl hs hqueue (Mod.deliverJob_revision (hserial ▸ hfound) hst hrev hplan) hwithin (by decide) (by decide) (by simp)
    (by simp [decisionWords]) fun m' htrk hjobs hdone hframe => ⟨⟨d, (Mod.track?_congr htrk _).trans hwritten⟩, hjobs, hdone, hframe⟩

end

theorem testBit_flagTo_true (f n : Nat) : (flagTo f n true).testBit n = true := by
  simp [flagTo]

/-- Settles O36: the job's one copy agrees with itself, and the policy's ACCEPT is written at once or revises the verdict. -/
theorem jobsGiveVerdicts : Obligations.JobsGiveVerdicts := by
  intro s t serial j line k hs hqueue hk hone htime hheld hplan hlate r haccept
  refine ⟨fun hjob hst => ?first, fun hjob hst hverdict => ?revised⟩
  case first =>
    obtain ⟨m', hexec, ⟨d, htrack⟩, hjobs, hdone, hframe⟩ :=
      pieceJobComplete_yields hs hqueue ⟨hjob, hone, htime, hheld⟩ hk hst hplan hlate haccept
    exact ⟨m', hexec, ⟨_, htrack, haccept, rfl, rfl, rfl, rfl, rfl, rfl, rfl, rfl⟩, hjobs, hdone, hframe⟩
  case revised =>
    obtain ⟨m', hexec, ⟨d, htrack⟩, hjobs, hdone, hframe⟩ :=
      revisionJobComplete_yields hs hqueue ⟨hjob, hone, htime, hheld⟩ hk hst hplan hverdict haccept
    exact ⟨m', hexec, ⟨_, htrack, haccept, rfl, testBit_flagTo_true _ _, rfl, rfl⟩, hjobs, hdone, hframe⟩

end Sys2Proof.Machine
end

section
/-!
PROOFS. The statements of 06_fusion.md: lane blocks and the motion of the pieces. A change that touches one lane block alone is said once;
a track's motion samples, a block that turns warm or cold and the reset of every block are uses of it.
-/
namespace Sys2Proof.Machine

/-! ### Lane blocks (R140) -/

theorem Mod.lane_congr {a b : Mod} (h : b.fus = a.fus) (k : Nat) : b.lane k = a.lane k := by
  unfold Mod.lane
  rw [h]

theorem Mod.lane_setLane_ne (m : Mod) {b k : Nat} (h : k ≠ b) (f : Lane → Lane) : (m.setLane b f).lane k = m.lane k := by
  simp [Mod.lane, Mod.setLane, updAt, List.getD_eq_getElem?_getD, Ne.symm h]

theorem Mod.lane_setLane {m : Mod} {b : Nat} (h : b < m.fus.lanes.length) (f : Lane → Lane) : (m.setLane b f).lane b = f (m.lane b) := by
  simp [Mod.lane, Mod.setLane, updAt, h]

/-- Of the lane blocks a change touches one alone, and of the rest of the module the words listed. -/
structure Mod.AtLane (b : Nat) (ws : List Nat) (m m' : Mod) : Prop where
  others : ∀ k, k ≠ b → m'.lane k = m.lane k
  count : m'.fus.lanes.length = m.fus.lanes.length
  within : Mod.Within [.fus] ws m m'

section
variable {b : Nat} {ws : List Nat} {m x y : Mod}

theorem Mod.AtLane.trans (h : Mod.AtLane b ws m x) (k : Mod.AtLane b ws x y) : Mod.AtLane b ws m y :=
  ⟨fun q hq => (k.others q hq).trans (h.others q hq), k.count.trans h.count, h.within.trans k.within⟩

theorem Mod.AtLane.setLane (m : Mod) (b : Nat) (f : Lane → Lane) : Mod.AtLane b ws m (m.setLane b f) :=
  ⟨fun _ hq => Mod.lane_setLane_ne m hq f, List.length_modify _ _ _, .ofFus m _ (by simp)⟩

/-- A change that keeps every lane block. -/
theorem Mod.AtLane.of_within (h : Mod.Within [] ws m x) : Mod.AtLane b ws m x :=
  have hfus : x.fus = m.fus := h.areas .fus (by simp)
  ⟨fun q _ => Mod.lane_congr hfus q, by rw [hfus], h.mono (by simp) (List.Subset.refl _)⟩

theorem Mod.AtLane.setLane_raise (m : Mod) (b : Nat) (f : Lane → Lane) (src code : Nat) (d : List Byte) :
    Mod.AtLane b ws m ((m.setLane b f).raise src code d) :=
  (Mod.AtLane.setLane m b f).trans (.of_within (.raise _ src code d))

/-- A command whose meaning touches one lane block alone. -/
theorem Mod.AtLane.yields {s : State} {c : Instr} {t : Nat} {f : Mod → Mod} {l : Lane} (hexec : exec c s = s.run t f)
    (h : Mod.AtLane b ws (s.m.at t) (f (s.m.at t))) (hlane : (f (s.m.at t)).lane b = l) :
    s.Yields c fun m' => m'.lane b = l ∧ (∀ k, k ≠ b → m'.lane k = s.m.lane k) ∧ Mod.Frame t [.fus] ws s.m m' :=
  have hrun : ∀ q, (Mod.run t f s.m).lane q = (f (s.m.at t)).lane q := Mod.lane_congr (Mod.run_fus t f s.m)
  ⟨_, hexec, (hrun b).trans hlane, fun q hq => (hrun q).trans (h.others q hq), h.within.frame⟩

end

/-! ### Blocks that turn warm or cold (R145) -/

section
variable {s : State} {m : Mod} {t b : Nat}

theorem laneBlockWarm_of_due (hgrid : b < m.laneCount) (hcold : (m.lane b).warm = false) (hnv : 200 ≤ (m.lane b).nv)
    (hage : (m.lane b).coldAt + 2 * 10 ^ 9 ≤ m.now) :
    laneBlockWarm b m = (m.setLane b (fun l => { l with warm := true })).raise 48 0x0301 (leBytes 1 b) := by
  unfold laneBlockWarm
  simp only [hgrid, hcold, hnv, hage, decide_true, Bool.not_false, Bool.and_self, if_true]

theorem laneBlockWarm_yields (hgrid : b < s.m.laneCount) (hb : b < s.m.fus.lanes.length) (hcold : (s.m.lane b).warm = false)
    (hnv : 200 ≤ (s.m.lane b).nv) (hage : (s.m.lane b).coldAt + 2 * 10 ^ 9 ≤ (s.m.at t).now) :
    s.Yields (.laneBlockWarm t b) fun m' => m'.lane b = { s.m.lane b with warm := true } ∧ (∀ k, k ≠ b → m'.lane k = s.m.lane k)
      ∧ Mod.Frame t [.fus] [] s.m m' := by
  have hmean : laneBlockWarm b (s.m.at t) = ((s.m.at t).setLane b (fun l => { l with warm := true })).raise 48 0x0301 (leBytes 1 b) :=
    laneBlockWarm_of_due (m := s.m.at t) hgrid hcold hnv hage
  refine Mod.AtLane.yields (f := laneBlockWarm b) rfl ?_ ?_
  · rw [hmean]
    exact .setLane_raise _ _ _ _ _ _
  · rw [hmean]
    exact Mod.lane_setLane (m := s.m.at t) hb _

theorem Mod.AtLane.laneCold {ws : List Nat} (m : Mod) (b cause : Nat) : Mod.AtLane b ws m (m.laneCold b cause) := .setLane_raise m b _ _ _ _

theorem Mod.lane_laneCold (hb : b < m.fus.lanes.length) (cause : Nat) :
    (m.laneCold b cause).lane b = { m.lane b with warm := false, coldAt := m.now, nv := 0, na := 0, nw := 0 } := Mod.lane_setLane hb _

theorem laneBlockStale_of_due (hwarm : (m.lane b).warm = true) (hstale : (m.lane b).lastV + m.rd P.fusStaleS * 10 ^ 9 ≤ m.now) :
    laneBlockStale b m = m.laneCold b 1 := by
  unfold laneBlockStale
  simp only [hwarm, hstale, decide_true, Bool.and_self, if_true]

theorem laneBlockStale_yields (hb : b < s.m.fus.lanes.length) (hwarm : (s.m.lane b).warm = true)
    (hstale : (s.m.lane b).lastV + s.m.rd P.fusStaleS * 10 ^ 9 ≤ (s.m.at t).now) :
    s.Yields (.laneBlockStale t b) fun m' =>
      m'.lane b = { s.m.lane b with warm := false, coldAt := (s.m.at t).now, nv := 0, na := 0, nw := 0 }
      ∧ (∀ k, k ≠ b → m'.lane k = s.m.lane k) ∧ Mod.Frame t [.fus] [] s.m m' := by
  have hmean : laneBlockStale b (s.m.at t) = (s.m.at t).laneCold b 1 := laneBlockStale_of_due (m := s.m.at t) hwarm hstale
  refine Mod.AtLane.yields (f := laneBlockStale b) rfl ?_ ?_
  · rw [hmean]
    exact .laneCold _ b 1
  · rw [hmean]
    exact Mod.lane_laneCold (m := s.m.at t) hb 1

end

/-! ### The reset of every block (R146) -/

/-- A lane block is cold at a velocity and an acceleration, without drift. -/
def Lane.ColdAt (l : Lane) (v a : Nat) : Prop := l.v = v ∧ l.a = a ∧ l.w = 0 ∧ l.warm = false ∧ l.nv = 0

/-- A lane block turns cold at the nominal triple. -/
def Mod.resetLane (m : Mod) (b : Nat) : Mod := (m.setLane b m.nominal).laneCold b 2

theorem fusMotionReset_eq (m : Mod) : fusMotionReset m = (List.range m.laneCount).foldl Mod.resetLane m := rfl

theorem Mod.AtLane.resetLane {ws : List Nat} (m : Mod) (b : Nat) : Mod.AtLane b ws m (m.resetLane b) :=
  (Mod.AtLane.setLane m b m.nominal).trans (.laneCold _ b 2)

theorem Mod.lane_resetLane {m : Mod} {b : Nat} (hb : b < m.fus.lanes.length) :
    ((m.resetLane b).lane b).ColdAt (m.rd P.fusVNom) (m.rd P.fusANom) := by
  have hset : (m.setLane b m.nominal).lane b = m.nominal (m.lane b) := Mod.lane_setLane hb _
  have hlen : b < (m.setLane b m.nominal).fus.lanes.length := by rwa [(Mod.AtLane.setLane (ws := []) m b m.nominal).count]
  rw [Mod.resetLane, Mod.lane_laneCold hlen, hset]
  exact ⟨rfl, rfl, rfl, rfl, rfl⟩

/-- The first `n` blocks after their resets, each at the words that stood before the first of them. -/
theorem Mod.resetLanes {m : Mod} (hwf : Store.wf m.regs = true) (n : Nat) (hn : n ≤ m.fus.lanes.length) :
    (∀ b, b < n → (((List.range n).foldl Mod.resetLane m).lane b).ColdAt (m.rd P.fusVNom) (m.rd P.fusANom))
      ∧ ((List.range n).foldl Mod.resetLane m).fus.lanes.length = m.fus.lanes.length
      ∧ Mod.Within [.fus] [] m ((List.range n).foldl Mod.resetLane m) := by
  induction n with
  | zero => exact ⟨fun _ h => absurd h (Nat.not_lt_zero _), rfl, .refl m⟩
  | succ n ih =>
    obtain ⟨hcold, hlen, hwithin⟩ := ih (by omega)
    rw [List.range_succ, List.foldl_append, List.foldl_cons, List.foldl_nil]
    generalize (List.range n).foldl Mod.resetLane m = x at hcold hlen hwithin ⊢
    have hstep : Mod.AtLane n [] x (x.resetLane n) := .resetLane x n
    refine ⟨fun b hb => ?_, hstep.count.trans hlen, hwithin.trans hstep.within⟩
    by_cases h : b = n
    · subst h
      rw [← hwithin.rd_eq hwf (p := P.fusVNom) (by simp) (by decide), ← hwithin.rd_eq hwf (p := P.fusANom) (by simp) (by decide)]
      exact Mod.lane_resetLane (by omega)
    · rw [hstep.others b h]
      exact hcold b (by omega)

theorem writeCheck_fusMotionReset (m : Mod) {role : Nat} (hrole : 1 ≤ role) :
    m.writeCheck role P.fusMotionReset.addr 1#32 = .ok (P.fusMotionReset, 0, 0) := by
  have hat : paramAt P.fusMotionReset.addr = some (P.fusMotionReset, 0, 0) := by rfl
  have hservice : ¬ role = 0 := by omega
  unfold Mod.writeCheck
  rw [hat]
  simp only [hservice, decide_false, Bool.and_false]
  rfl

theorem cmdWrite_fusMotionReset {m : Mod} (hrun : m.running = true) {role : Nat} (hrole : 1 ≤ role) :
    cmdWrite P.fusMotionReset 0 role [] 1#32 m = fusMotionReset (m.setWord P.fusMotionReset.addr 1#32) := by
  rw [cmdWrite, if_pos (by decide)]
  exact writeNow_of_cmd [] hrun (writeCheck_fusMotionReset m hrole) rfl (by decide)

theorem fusMotionReset_yields {s : State} {t role : Nat} (hs : s.Canonical) (hrole : 1 ≤ role) (hrun : s.m.running = true)
    (hlen : s.m.laneCount ≤ s.m.fus.lanes.length) : s.Yields (.fusMotionReset t role 1#32) fun m' =>
      (∀ b, b < s.m.laneCount → (m'.lane b).ColdAt (s.m.rd P.fusVNom) (s.m.rd P.fusANom))
      ∧ Mod.Frame t [.fus] [P.fusMotionReset.addr] s.m m' := by
  let f := cmdWrite P.fusMotionReset 0 role [] 1#32
  let x := (s.m.at t).setWord P.fusMotionReset.addr 1#32
  have hwrite : Mod.Within [.fus] [P.fusMotionReset.addr] (s.m.at t) x := .setWord _ _ _ (by simp)
  have hrd : ∀ p : Param, p.addr ≠ P.fusMotionReset.addr → p.addr ≠ P.loopFlags.addr → x.rd p = s.m.rd p := fun p hp hl =>
    hwrite.rd_eq (a := s.m.at t) hs (by simpa using hp) hl
  have hcount : x.laneCount = s.m.laneCount := congrArg (· / 64) (hrd P.fusCols (by decide) (by decide))
  obtain ⟨hcold, -, hwithin⟩ := Mod.resetLanes (m := x) (hwrite.wf hs) s.m.laneCount hlen
  have hmean : f (s.m.at t) = (List.range s.m.laneCount).foldl Mod.resetLane x := by
    rw [← hcount]
    exact cmdWrite_fusMotionReset (m := s.m.at t) hrun hrole
  rw [hrd P.fusVNom (by decide) (by decide), hrd P.fusANom (by decide) (by decide)] at hcold
  refine State.yields_frame (f := f) rfl ?_ fun b hb => ?_
  · rw [hmean]
    exact hwrite.trans (hwithin.mono (List.Subset.refl _) (by simp))
  · rw [Mod.lane_congr (Mod.run_fus t f s.m), hmean]
    exact hcold b hb

/-! ### Motion samples (R143, R144) -/

/-- The words that a discarded sample changes. -/
def motionWords : List Nat := [P.fusMotionDiscards.addr, P.fusFlags.addr]

/-- The samples of a completed track take effect: a velocity, an acceleration where there is one, a drift. -/
def Mod.sampled (m : Mod) (b v : Nat) (a : Option Int) (w : Int) : Mod :=
  (match a with
    | some a => (m.takeVelocity b v).takeAccel b a
    | none => m.takeVelocity b v).takeDrift b w

section
variable (m : Mod) (b : Nat)

theorem Mod.AtLane.motionDiscard : Mod.AtLane b motionWords m m.motionDiscard :=
  .of_within ((Mod.Within.inc m _ _ _ _ (by simp [motionWords])).trans (.flag _ _ _ _ (by simp [motionWords])))

theorem Mod.AtLane.takeVelocity (v : Nat) : Mod.AtLane b motionWords m (m.takeVelocity b v) := by
  unfold Mod.takeVelocity
  extract_lets l r
  split
  · exact .motionDiscard m b
  · exact .setLane m b _

theorem Mod.AtLane.takeAccel (a : Int) : Mod.AtLane b motionWords m (m.takeAccel b a) := by
  unfold Mod.takeAccel
  extract_lets l lo hi a1
  split
  · exact .setLane m b _
  · exact .motionDiscard m b

theorem Mod.AtLane.sampled (v : Nat) (a : Option Int) (w : Int) : Mod.AtLane b motionWords m (m.sampled b v a w) := by
  unfold Mod.sampled
  refine Mod.AtLane.trans ?_ (.setLane _ b _)
  cases a with
  | none => exact .takeVelocity m b v
  | some a => exact (Mod.AtLane.takeVelocity m b v).trans (.takeAccel _ b a)

end

section
variable {m : Mod} {b : Nat}

/-- A cold lane block accepts every velocity sample. -/
theorem Mod.lane_takeVelocity (hb : b < m.fus.lanes.length) (hcold : (m.lane b).warm = false) (v : Nat) :
    ∃ v' ms', (m.takeVelocity b v).lane b = { m.lane b with v := v', ms := ms', nv := (m.lane b).nv + 1, lastV := m.now } := by
  unfold Mod.takeVelocity
  simp only [hcold, Bool.false_and, Bool.false_eq_true, if_false, Mod.lane_setLane hb]
  exact ⟨_, _, rfl⟩

theorem Mod.lane_takeAccel (hb : b < m.fus.lanes.length) (a : Int) :
    ∃ a' na', (m.takeAccel b a).lane b = { m.lane b with a := a', na := na' } := by
  unfold Mod.takeAccel
  extract_lets l lo hi a1
  split
  · exact ⟨_, _, Mod.lane_setLane hb _⟩
  · exact ⟨_, _, rfl⟩

/-- A cold lane block accepts the samples of a track and counts its velocity and its drift. -/
theorem Mod.lane_sampled (hb : b < m.fus.lanes.length) (hcold : (m.lane b).warm = false) (v : Nat) (a : Option Int) (w : Int) :
    ((m.sampled b v a w).lane b).nv = (m.lane b).nv + 1 ∧ ((m.sampled b v a w).lane b).nw = (m.lane b).nw + 1
      ∧ ((m.sampled b v a w).lane b).lastV = m.now ∧ ((m.sampled b v a w).lane b).warm = false := by
  have hlen := (Mod.AtLane.takeVelocity m b v).count
  obtain ⟨v', ms', hvel⟩ := Mod.lane_takeVelocity hb hcold v
  unfold Mod.sampled Mod.takeDrift
  cases a with
  | none =>
    simp only [Mod.lane_setLane (hlen.symm ▸ hb), hvel, hcold, and_self]
  | some a =>
    obtain ⟨a', na', hacc⟩ := Mod.lane_takeAccel (hlen.symm ▸ hb) a
    have hlen' := (Mod.AtLane.takeAccel (m.takeVelocity b v) b a).count.trans hlen
    simp only [Mod.lane_setLane (hlen'.symm ▸ hb), hacc, hvel, hcold, and_self]

end

section
variable {m : Mod} {top bot : HPoint} {rest : List HPoint}

/-- Observations give their samples to the lowest point's lane block, but where one is cut or lines of it were lost, or where their points span
too little height or time. -/
theorem Mod.motionSamples_of_points (m : Mod) {ht : Nat → Nat} {obs : List Obs} (hpts : pointsOf ht obs = top :: rest)
    (hbot : rest.getLastD top = bot) : ∃ v a w, m.motionSamples ht obs
      = if obs.any (fun o => o.oversize || o.linesLost) = true ∨ top.h - bot.h < m.rd P.fusDhMin ∨ bot.t ≤ top.t then m
        else m.sampled bot.lane v a w := by
  unfold Mod.motionSamples
  simp only [hpts, hbot, Bool.or_eq_true, decide_eq_true_eq]
  split
  · next hbad => exact ⟨0, none, 0, (if_pos (.inl hbad)).symm⟩
  · next hgood =>
    split
    · next hflat => exact ⟨0, none, 0, (if_pos (.inr hflat)).symm⟩
    · next hwide =>
      simp only [hgood, hwide]
      split
      · split
        · exact ⟨_, some _, _, rfl⟩
        · exact ⟨_, none, _, rfl⟩
      · exact ⟨_, none, _, rfl⟩

theorem Mod.Within.motionSamples (m : Mod) (ht : Nat → Nat) (obs : List Obs) : Mod.Within [.fus] motionWords m (m.motionSamples ht obs) := by
  cases hpts : pointsOf ht obs with
  | nil =>
    have hnone : m.motionSamples ht obs = m := by
      unfold Mod.motionSamples
      rw [hpts]
      exact ite_self m
    rw [hnone]
    exact .refl m
  | cons top rest =>
    obtain ⟨v, a, w, hsamples⟩ := m.motionSamples_of_points hpts rfl
    rw [hsamples]
    split
    · exact .refl m
    · exact (Mod.AtLane.sampled m _ v a w).within

theorem Mod.takeMotion_of_due {serial : Nat} {k : Track} (hk : m.track? serial = some k) (hdue : k.motionDue = true) :
    m.takeMotion serial = (m.setTrack serial (fun x => { x with motion := true })).motionSamples (m.trkHt k)
      (k.obs.filter (fun o => !m.excluded.testBit o.port)) := by
  unfold Mod.takeMotion
  simp only [hk, hdue, if_true]

theorem motionUpdate_yields {s : State} {t serial : Nat} {k : Track} (hk : s.m.track? serial = some k) (hdue : k.motionDue = true)
    (hgood : (k.obs.filter (fun o => !s.m.excluded.testBit o.port)).any (fun o => o.oversize || o.linesLost) = false)
    (hpts : pointsOf (s.m.trkHt k) (k.obs.filter (fun o => !s.m.excluded.testBit o.port)) = top :: rest)
    (hbot : rest.getLastD top = bot) (hspan : s.m.rd P.fusDhMin ≤ top.h - bot.h) (htime : top.t < bot.t)
    (hcold : (s.m.lane bot.lane).warm = false) (hb : bot.lane < s.m.fus.lanes.length) :
    s.Yields (.motionUpdate t serial) fun m' =>
      m'.trk.live = s.m.trk.live.map (fun x => if x.serial = serial then { x with motion := true } else x)
      ∧ ((m'.lane bot.lane).nv = (s.m.lane bot.lane).nv + 1 ∧ (m'.lane bot.lane).nw = (s.m.lane bot.lane).nw + 1
        ∧ (m'.lane bot.lane).lastV = (s.m.at t).now ∧ (m'.lane bot.lane).warm = false)
      ∧ (∀ b, b ≠ bot.lane → m'.lane b = s.m.lane b) ∧ Mod.Frame t [.trk, .fus] motionWords s.m m' := by
  let x := (s.m.at t).setTrack serial (fun x => { x with motion := true })
  obtain ⟨v, a, w, hsamples⟩ := x.motionSamples_of_points hpts hbot
  have hwide : ¬ (top.h - bot.h < x.rd P.fusDhMin ∨ bot.t ≤ top.t) := not_or.2 ⟨Nat.not_lt.2 hspan, Nat.not_le.2 htime⟩
  have hmean : motionUpdate serial (s.m.at t) = x.sampled bot.lane v a w :=
    calc motionUpdate serial (s.m.at t)
      _ = x.motionSamples _ _ := Mod.takeMotion_of_due (m := s.m.at t) hk hdue
      _ = _ := hsamples.trans (if_neg (not_or.2 ⟨Bool.not_eq_true _ ▸ hgood, hwide⟩))
  have hat : Mod.AtLane bot.lane motionWords x (x.sampled bot.lane v a w) := .sampled x bot.lane v a w
  have hset : Mod.Within [.trk, .fus] motionWords (s.m.at t) x := .setTrack _ _ _ (by simp)
  have hrun : ∀ q, (Mod.run t (motionUpdate serial) s.m).lane q = (x.sampled bot.lane v a w).lane q := fun q => by
    rw [Mod.lane_congr (Mod.run_fus t _ s.m), hmean]
  refine ⟨_, rfl, ?_, ?_, fun q hq => (hrun q).trans (hat.others q hq), Mod.Within.frame (f := motionUpdate serial) ?_⟩
  · rw [Mod.run_trk, hmean]
    exact congrArg TrkSt.live (hat.within.areas .trk (by decide))
  · rw [hrun]
    exact Mod.lane_sampled (m := x) hb hcold v a w
  · rw [hmean]
    exact hset.trans (hat.within.mono (by simp) (List.Subset.refl _))

end

/-- Settles O32: a track's samples, a block that turns warm or cold, and the reset of every block. -/
theorem laneBlocksFollowMotion : Obligations.LaneBlocksFollowMotion := by
  intro s t hs
  refine ⟨?motion, fun b hgrid hb hcold hnv hage => laneBlockWarm_yields hgrid hb hcold hnv hage,
    fun b hb hwarm hstale => laneBlockStale_yields hb hwarm hstale, fun role hrole hrun hlen => fusMotionReset_yields hs hrole hrun hlen⟩
  case motion =>
    intro serial k top rest hk hdue obs bot hgood hpts hspan htime hcold hb
    obtain ⟨m', hexec, hlive, ⟨hnv, hnw, hlast, hwarm⟩, hothers, hframe⟩ := motionUpdate_yields hk hdue hgood hpts rfl hspan htime hcold hb
    exact ⟨m', hexec, hlive, hnv, hnw, hlast, hwarm, hothers, hframe⟩

end Sys2Proof.Machine
end

section
/-!
PROOFS. The statements of 06_fusion.md: association. A window that closes is solved; a track that is opened stands in the table as it was
opened, whatever the admission that follows does to it and to other pieces; a track whose last due instant passes waits for its slot.
-/
namespace Sys2Proof.Machine

/-! ### Windows that close (R165, R166) -/

section
variable {m : Mod} {w : Window}

theorem Mod.length_choice_solve (m : Mod) (obs : List Obs) : (m.solve obs).1.choice.length = obs.length := by
  simp [Mod.solve]

/-- The first closed window is solved; beside it only its splits are counted. -/
theorem Mod.solveHead_of_unsolved {c : Closed} {r : List Closed} (hwins : m.trk.wins = c :: r) (hsol : c.sol = none) :
    m.solveHead.trk = { m.trk with wins := { c with sol := some (m.solve c.obs).1 } :: r }
      ∧ Mod.Within [.trk] [P.trkWinSplits.addr] m m.solveHead := by
  let x : Mod := { m with trk := { m.trk with wins := { c with sol := some (m.solve c.obs).1 } :: r } }
  let split := fun (m : Mod) (n : Nat) => (m.inc P.trkWinSplits).raise 52 0x0321 (leBytes 2 n)
  have hmean : m.solveHead = (m.solve c.obs).2.foldl split x := by
    unfold Mod.solveHead
    simp only [hwins, hsol, Option.isSome_none, Bool.false_eq_true, if_false]
    rfl
  have hsplits : Mod.Within [] [P.trkWinSplits.addr] x ((m.solve c.obs).2.foldl split x) :=
    .foldl (fun m n => (Mod.Within.inc m _ _ _ _ (by simp)).trans (.raise _ _ _ _)) _ x
  rw [hmean]
  exact ⟨hsplits.areas .trk (by simp), (Mod.Within.ofTrk m x.trk (by simp)).trans (hsplits.mono (by simp) (List.Subset.refl _))⟩

theorem Mod.solveHead_of_none (hwins : m.trk.wins = []) : m.solveHead = m := by
  unfold Mod.solveHead
  rw [hwins]

/-- The open window closes and is solved where no other waits for its result. -/
theorem Mod.closeWindow_of_first (hwin : m.trk.win = some w) (hwins : m.trk.wins = []) :
    (∃ sol : Solution, sol.choice.length = w.obs.length
      ∧ m.closeWindow.trk = { m.trk with win := none, wins := [{ obs := w.obs, sol := some sol }] })
      ∧ Mod.Within [.trk] [P.trkWinSplits.addr] m m.closeWindow := by
  let x : Mod := { m with trk := { m.trk with win := none, wins := [{ obs := w.obs, sol := none }] } }
  have hmean : m.closeWindow = x.solveHead := by
    unfold Mod.closeWindow
    simp only [hwin, hwins, List.nil_append]
    rfl
  obtain ⟨htrk, hwithin⟩ := Mod.solveHead_of_unsolved (m := x) (c := { obs := w.obs, sol := none }) (r := []) rfl rfl
  rw [hmean]
  exact ⟨⟨_, Mod.length_choice_solve x w.obs, htrk⟩, (Mod.Within.ofTrk m x.trk (by simp)).trans hwithin⟩

theorem assocWindowClose_of_due (hwin : m.trk.win = some w) (hdue : w.opened + m.rd P.trkWinNs ≤ m.now ∨ 64 ≤ w.obs.length) :
    assocWindowClose m = m.closeWindow := by
  unfold assocWindowClose
  simp only [hwin, Bool.or_eq_true, decide_eq_true_eq, hdue, if_true]

end

theorem assocWindowClose_yields {s : State} {t : Nat} {w : Window} (hwin : s.m.trk.win = some w)
    (hdue : w.opened + s.m.rd P.trkWinNs ≤ (s.m.at t).now ∨ 64 ≤ w.obs.length) (hwins : s.m.trk.wins = []) :
    s.Yields (.assocWindowClose t) fun m' =>
      (∃ sol : Solution, sol.choice.length = w.obs.length
        ∧ m'.trk = { s.m.trk with win := none, wins := [{ obs := w.obs, sol := some sol }] })
      ∧ Mod.Frame t [.trk] [P.trkWinSplits.addr] s.m m' := by
  have hmean : assocWindowClose (s.m.at t) = (s.m.at t).closeWindow := assocWindowClose_of_due (m := s.m.at t) hwin hdue
  obtain ⟨⟨sol, hlen, htrk⟩, hwithin⟩ := Mod.closeWindow_of_first (m := s.m.at t) hwin hwins
  refine State.yields_frame (f := assocWindowClose) rfl (hmean ▸ hwithin) ⟨sol, hlen, ?_⟩
  rw [Mod.run_trk, hmean, htrk]
  rfl

/-! ### A track as it was opened (R158, R159, R162) -/

/-- What a track is given when it is opened, with the observations that have joined it and those that it holds. -/
def Track.opening (k : Track) : (Nat × Nat × Nat × Option Nat × Nat) × List Obs × List Obs :=
  ((k.slot, k.serial, k.recipe, k.variant, k.lot), k.obs, k.held)

/-- No closed window waits; the table lists the serials of module `a`, takes its next slot and serial where `a` does, and holds track `k` as
it was opened. -/
structure Mod.Opened (a : Mod) (k : Track) (m : Mod) : Prop where
  wins : m.trk.wins = []
  fresh : m.trk.fresh = a.trk.fresh
  next : m.bist.serial = a.bist.serial
  serials : m.trk.live.map (·.serial) = a.trk.live.map (·.serial)
  alone : k.held = []
  same : ∀ x ∈ m.trk.live, x.serial = k.serial → x.opening = k.opening

section
variable {a m x : Mod} {k : Track}

/-- A change of neither the tracks nor the self-test. -/
theorem Mod.Opened.congr (h : Mod.Opened a k m) (htrk : x.trk = m.trk := by rfl) (hbist : x.bist = m.bist := by rfl) : Mod.Opened a k x := by
  obtain ⟨hwins, hfresh, hnext, hserials, halone, hsame⟩ := h
  rw [← htrk] at hwins hfresh hserials hsame
  rw [← hbist] at hnext
  exact ⟨hwins, hfresh, hnext, hserials, halone, hsame⟩

theorem Mod.Opened.held_nil (h : Mod.Opened a k m) {y : Track} (hy : y.opening = k.opening) : y.held = [] :=
  (congrArg (·.2.2) hy).trans h.alone

theorem Mod.Opened.of_within {as : List Area} {ws : List Nat} (h : Mod.Opened a k m) (hwithin : Mod.Within as ws m x) (htrk : .trk ∉ as)
    (hbist : .bist ∉ as) : Mod.Opened a k x := h.congr (hwithin.areas .trk htrk) (hwithin.areas .bist hbist)

theorem Mod.Opened.inc (h : Mod.Opened a k m) (p : Param) (i n j : Nat) : Mod.Opened a k (m.inc p i n j) := h.congr

theorem Mod.Opened.peak (h : Mod.Opened a k m) (p : Param) (v i : Nat) : Mod.Opened a k (m.peak p v i) := h.congr

theorem Mod.Opened.raise (h : Mod.Opened a k m) (src code : Nat) (d : List Byte) : Mod.Opened a k (m.raise src code d) := h.congr

theorem Mod.Opened.foldl {α : Type} {f : Mod → α → Mod} (h : Mod.Opened a k m) (l : List α)
    (hf : ∀ x e, Mod.Opened a k x → Mod.Opened a k (f x e)) : Mod.Opened a k (l.foldl f m) :=
  l.foldlRecOn f h fun x hx e _ => hf x e hx

/-- A change of the live tracks, each by `g`, and of the closed ones. -/
theorem Mod.Opened.map (h : Mod.Opened a k m) {g : Track → Track} {done : List Track} (hserial : ∀ y, (g y).serial = y.serial)
    (hopening : ∀ y, y.serial = k.serial → y.opening = k.opening → (g y).opening = y.opening) :
    Mod.Opened a k { m with trk := { m.trk with live := m.trk.live.map g, done := done } } := by
  obtain ⟨hwins, hfresh, hnext, hserials, halone, hsame⟩ := h
  refine ⟨hwins, hfresh, hnext, ?_, halone, fun y hy hk => ?_⟩
  · rw [← hserials, List.map_map]
    exact List.map_congr_left fun y _ => hserial y
  · obtain ⟨z, hz, rfl⟩ := List.mem_map.1 hy
    have hzk : z.serial = k.serial := (hserial z).symm.trans hk
    exact (hopening z hzk (hsame z hz hzk)).trans (hsame z hz hzk)

/-- A change of the tracks of one serial. -/
theorem Mod.Opened.setTrack (h : Mod.Opened a k m) {n : Nat} {f : Track → Track} (hserial : ∀ y, (f y).serial = y.serial)
    (hopening : ∀ y, n = k.serial → y.opening = k.opening → (f y).opening = y.opening) : Mod.Opened a k (m.setTrack n f) := by
  refine h.map (done := m.trk.done) (fun y => ?_) fun y hy hyk => ?_
  · split
    · exact hserial y
    · rfl
  · split
    · next hn => exact hopening y (hn.symm.trans hy) hyk
    · rfl

/-- A change that keeps what a track was given when it was opened. -/
theorem Mod.Opened.setTrack_same (h : Mod.Opened a k m) (n : Nat) {f : Track → Track}
    (hf : ∀ y, (f y).opening = y.opening := by intro _; rfl) : Mod.Opened a k (m.setTrack n f) :=
  h.setTrack (fun y => congrArg (·.1.2.1) (hf y)) fun y _ _ => hf y

theorem Mod.Opened.setEntry_same (h : Mod.Opened a k m) (n : Nat) {f : Track → Track}
    (hf : ∀ y, (f y).opening = y.opening := by intro _; rfl) : Mod.Opened a k (m.setEntry n f) := by
  have hall : ∀ y : Track, (if y.serial = n then f y else y).opening = y.opening := fun y => by
    split
    · exact hf y
    · rfl
  exact h.map (fun y => congrArg (·.1.2.1) (hall y)) fun y _ _ => hall y

/-- The opened track itself has nothing to join it. -/
theorem Mod.Opened.joinHeld (h : Mod.Opened a k m) (n : Nat) : Mod.Opened a k (m.joinHeld n) := by
  unfold Mod.joinHeld
  split
  · exact h
  · next y hy =>
    have hyn : y.serial = n := Mod.track?_serial hy
    have hcleared : Mod.Opened a k (m.setTrack n (fun y => { y with held := [] })) := by
      refine h.setTrack (fun _ => rfl) fun z _ hz => ?_
      simp [Track.opening, h.held_nil hz]
    by_cases hn : n = k.serial
    · rw [h.held_nil (h.same y (List.mem_of_find?_eq_some hy) (hyn.trans hn))]
      exact hcleared
    · exact hcleared.foldl _ fun x o hx => hx.setTrack (fun _ => rfl) fun _ hk _ => absurd hk hn

/-! ### Plans, default actions and lost revisions (R175, R177, R193) -/

theorem Mod.Opened.noteMiss (h : Mod.Opened a k m) (serial ch : Nat) (bit_ : Option Nat) (cause : Nat) :
    Mod.Opened a k (m.noteMiss serial ch bit_ cause) := by
  unfold Mod.noteMiss
  extract_lets m1 m2 said ej m3
  have hcount : Mod.Opened a k m2 := by
    unfold m2
    split <;> exact h.congr
  have hnoted : Mod.Opened a k m3 := by
    refine Mod.Opened.setEntry_same ?_ serial
    split
    · exact hcount
    · exact hcount.congr
  split
  · exact hnoted
  · exact hnoted.raise _ _ _

theorem Mod.Opened.syncRelease (h : Mod.Opened a k m) (p : EPulse) : Mod.Opened a k (m.syncRelease p) := by
  unfold Mod.syncRelease
  split
  · exact h.congr
  · exact h

theorem Mod.Opened.insertPulse (h : Mod.Opened a k m) (serial : Nat) (plan : Plan) (vals : Store) (i : Nat) :
    Mod.Opened a k (m.insertPulse serial plan vals i) := by
  unfold Mod.insertPulse
  extract_lets ch s p host into late0 ej m1
  split
  · exact h.noteMiss _ _ _ _
  · split
    · exact Mod.Opened.noteMiss h.congr _ _ _ _
    · have hqueued : Mod.Opened a k m1 := h.congr
      clear_value m1 into late0 host
      split
      · exact (hqueued.inc _ _ _ _).syncRelease _
      · exact hqueued.peak _ _ _

theorem Mod.Opened.insertPlan (h : Mod.Opened a k m) (serial : Nat) : Mod.Opened a k (m.insertPlan serial) := by
  unfold Mod.insertPlan
  split
  · exact h
  · split
    · exact h
    · split
      · exact h.noteMiss _ _ _ _
      · exact h.foldl _ fun x i hx => hx.insertPulse _ _ _ i

theorem Mod.Opened.noteClip (h : Mod.Opened a k m) (serial : Nat) (plan : Plan) : Mod.Opened a k (m.noteClip serial plan) :=
  h.of_within (.noteClip (as := []) m serial plan (List.Subset.refl _)) (by simp) (by simp)

/-- A plan is given to a piece and its pulses are inserted. -/
theorem Mod.Opened.planned (h : Mod.Opened a k m) (n : Nat) (plan : Plan) : Mod.Opened a k
    (((m.setTrack n (fun t => { t with plan := some plan, tCommit := plan.commit })).noteClip n plan).insertPlan n) := by
  have hset : Mod.Opened a k (m.setTrack n (fun t => { t with plan := some plan, tCommit := plan.commit })) := h.setTrack_same n
  exact (hset.noteClip n plan).insertPlan n

theorem Mod.Opened.defaultPlan (h : Mod.Opened a k m) (t : Track) (tCross : Nat) : Mod.Opened a k (m.defaultPlan t tCross) :=
  h.planned t.serial _

theorem Mod.Opened.giveDefault (h : Mod.Opened a k m) (serial cause : Nat) : Mod.Opened a k (m.giveDefault serial cause) := by
  unfold Mod.giveDefault
  split
  · exact h
  · next t _ =>
    split
    · exact h
    · extract_lets dflt tCross m1 m2
      have hjoined : Mod.Opened a k ((m.unwait serial).joinHeld serial) := Mod.Opened.joinHeld h.congr serial
      have hgiven : Mod.Opened a k m2 := ((hjoined.setTrack_same serial).inc _ _ _ _).raise _ _ _
      split
      · split
        · exact hgiven.defaultPlan _ _
        · exact hgiven
      · exact hgiven

theorem Mod.Opened.revLost (h : Mod.Opened a k m) (serial reason : Nat) : Mod.Opened a k (m.revLost serial reason) := by
  unfold Mod.revLost
  split
  · exact h
  · have hcount : Mod.Opened a k ((m.unwait serial).inc P.trkRevLost) := h.congr
    exact (hcount.setTrack_same serial).raise _ _ _

theorem Mod.Opened.turnAway (h : Mod.Opened a k m) (w : Wait) (cause : Nat) : Mod.Opened a k (m.turnAway w cause) := by
  unfold Mod.turnAway
  split
  · exact h.revLost _ _
  · exact h.giveDefault _ _

/-! ### Admission (R126, R170) -/

theorem Mod.Opened.takeMotion (h : Mod.Opened a k m) (serial : Nat) : Mod.Opened a k (m.takeMotion serial) := by
  unfold Mod.takeMotion
  split
  · exact h
  · split
    · exact (h.setTrack_same serial).of_within (.motionSamples _ _ _) (by decide) (by decide)
    · exact h

theorem Mod.Opened.perfTower (h : Mod.Opened a k m) (t code n : Nat) : Mod.Opened a k (m.perfTower t code n) :=
  h.of_within (.perfTower (as := [.perf, .free]) (ws := []) m t code n (by simp) (by simp)) (by decide) (by decide)

theorem Mod.Opened.perfModule (h : Mod.Opened a k m) (code n : Nat) : Mod.Opened a k (m.perfModule code n) :=
  h.of_within (.perfModule (as := [.perf]) (ws := []) m code n (by simp)) (by decide) (by decide)

theorem Mod.Opened.admitJob (h : Mod.Opened a k m) (w : Wait) : Mod.Opened a k (m.admitJob w) := by
  unfold Mod.admitJob
  extract_lets cell m0 m1 st
  have hdue : Mod.Opened a k m1 := by
    refine Mod.Opened.setTrack_same ?_ w.serial fun y => ?_
    · exact Mod.Opened.takeMotion h.congr _
    · split <;> rfl
  split
  · exact hdue
  · next t _ =>
    extract_lets j m2 m3
    have hcounted : Mod.Opened a k (if w.revision then m1 else m1.perfModule 0x45 1) := by
      split
      · exact hdue
      · exact hdue.perfModule _ _
    have hjob : Mod.Opened a k m2 := Mod.Opened.foldl hcounted.congr _ fun x t hx => hx.perfTower t _ _
    have hruns : Mod.Opened a k m3 := (hjob.setTrack_same w.serial).joinHeld _
    exact (hruns.peak _ _ _).peak _ _ _

theorem Mod.Opened.dispatch (h : Mod.Opened a k m) (n : Nat) : Mod.Opened a k (m.dispatch n) := by
  induction n generalizing m with
  | zero => exact h
  | succ n ih =>
    unfold Mod.dispatch
    split
    · exact h
    · split
      · exact h
      · exact ih (h.admitJob _)

theorem Mod.Opened.enqueue (h : Mod.Opened a k m) (w : Wait) : Mod.Opened a k (m.enqueue w) := by
  unfold Mod.enqueue
  split
  · exact Mod.Opened.dispatch h.congr 64
  · extract_lets victim q cell m1
    have hfull : Mod.Opened a k m1 := h.congr
    exact (hfull.turnAway victim 3).dispatch 64

theorem Mod.Opened.pieceReady (h : Mod.Opened a k m) (serial commit sample : Nat) : Mod.Opened a k (m.pieceReady serial commit sample) := by
  unfold Mod.pieceReady
  extract_lets recent
  split
  · exact Mod.Opened.giveDefault h.congr _ _
  · exact Mod.Opened.enqueue h.congr _

theorem Mod.Opened.checkReady (h : Mod.Opened a k m) (serial : Nat) (byDue : Bool) : Mod.Opened a k (m.checkReady serial byDue) := by
  unfold Mod.checkReady
  split
  · exact h
  · split
    · exact (h.setTrack_same serial).pieceReady _ _ _
    · exact h

/-- The opened track is found by its serial. -/
theorem Mod.Opened.track? (h : Mod.Opened a k m) (hk : k ∈ a.trk.live) : ∃ x, m.track? k.serial = some x ∧ x.opening = k.opening := by
  have hmem : k.serial ∈ m.trk.live.map (·.serial) := h.serials ▸ List.mem_map_of_mem hk
  obtain ⟨y, hy, hyk⟩ := List.mem_map.1 hmem
  have hsome : (m.track? k.serial).isSome := List.find?_isSome.2 ⟨y, hy, by simpa using hyk⟩
  obtain ⟨x, hx⟩ := Option.isSome_iff_exists.1 hsome
  exact ⟨x, hx, h.same x (List.mem_of_find?_eq_some hx) (Mod.track?_serial hx)⟩

end

/-! ### Opening (R158, R161, R162, R167) -/

/-- The track that an observation opens in the next slot never taken. -/
def Mod.trackFor (m : Mod) (o : Obs) : Track :=
  Track.gather
    { slot := m.trk.fresh, serial := m.bist.serial, st := .open_, recipe := m.sys.recipe, variant := m.fus.variant, tFirst := o.t, ta := o.ta,
      xa := o.xa, lane := o.lane, colFirst := o.colFirst, colLast := o.colLast, obs := [o], lot := m.trk.lotId, vals := m.regs,
      calu := m.sys.calu } m.laneCount

theorem Mod.opening_trackFor (m : Mod) (o : Obs) :
    (m.trackFor o).opening = ((m.trk.fresh, m.bist.serial, m.sys.recipe, m.fus.variant, m.trk.lotId), [o], []) := rfl

section
variable {m : Mod} {o : Obs}

/-- The opened track enters the table; whether it is ready is judged at once. -/
theorem Mod.openTrack_of_fresh (hwins : m.trk.wins = []) (hfresh : m.trk.fresh < 8192) (hnew : m.track? m.bist.serial = none) :
    ∃ b : Mod, b.trk.live = m.trk.live ++ [m.trackFor o] ∧ b.trk.fresh = m.trk.fresh + 1 ∧ b.bist.serial = (m.bist.serial + 1) % 2 ^ 32
      ∧ Mod.Opened b (m.trackFor o) (m.openTrack o) := by
  let m2 : Mod := { m with bist := { m.bist with serial := (m.bist.serial + 1) % 2 ^ 32 }, trk := { m.trk with fresh := m.trk.fresh + 1 } }
  let m3 : Mod := { m2.forgetEntry m.trk.fresh with trk := { m2.trk with
    live := m2.trk.live ++ [m.trackFor o], done := m2.trk.done.filter (fun d => d.slot ≠ m.trk.fresh) } }
  have hmean : m.openTrack o = ((m3.inc P.trkOpened).peak P.trkLivePeak m3.trk.live.length).checkReady (m.trackFor o).serial false := by
    unfold Mod.openTrack Mod.takeSlot
    simp only [hfresh, if_true]
    rfl
  have hbist : m3.bist.serial = (m.bist.serial + 1) % 2 ^ 32 := by
    simp only [m3, Mod.forgetEntry]
    split <;> rfl
  have hlive : m3.trk.live = m.trk.live ++ [m.trackFor o] := rfl
  have hbase : Mod.Opened m3 (m.trackFor o) m3 := by
    refine ⟨hwins, rfl, rfl, rfl, rfl, fun x hx (hserial : x.serial = m.bist.serial) => ?_⟩
    rw [hlive] at hx
    rcases List.mem_append.1 hx with hold | hnow
    · exact absurd hserial (by simpa using List.find?_eq_none.1 hnew x hold)
    · rw [List.mem_singleton.1 hnow]
  rw [hmean]
  exact ⟨m3, hlive, rfl, hbist, ((hbase.inc _ _ _ _).peak _ _ _).checkReady _ _⟩

theorem assocWindowResult_of_one (hwins : m.trk.wins = [{ obs := [o], sol := some { choice := [none], left := none } }]) :
    assocWindowResult m = (({ m with trk := { m.trk with wins := [] } } : Mod).openTrack o).solveHead := by
  unfold assocWindowResult
  simp only [hwins]
  rfl

end

theorem assocWindowResult_yields {s : State} {t : Nat} {o : Obs}
    (hwins : s.m.trk.wins = [{ obs := [o], sol := some { choice := [none], left := none } }]) (hfresh : s.m.trk.fresh < 8192)
    (hnew : s.m.track? s.m.bist.serial = none) : s.Yields (.assocWindowResult t) fun m' =>
      m'.trk.wins = [] ∧ m'.bist.serial = (s.m.bist.serial + 1) % 2 ^ 32 ∧ m'.trk.fresh = s.m.trk.fresh + 1
      ∧ (∃ k, m'.track? s.m.bist.serial = some k
        ∧ k.opening = ((s.m.trk.fresh, s.m.bist.serial, s.m.sys.recipe, s.m.fus.variant, s.m.trk.lotId), [o], []))
      ∧ m'.trk.live.map (·.serial) = s.m.trk.live.map (·.serial) ++ [s.m.bist.serial] := by
  let x : Mod := { s.m.at t with trk := { s.m.trk with wins := [] } }
  obtain ⟨b, hlive, hslot, hnext, hopened⟩ := Mod.openTrack_of_fresh (m := x) (o := o) rfl hfresh hnew
  have hmean : assocWindowResult (s.m.at t) = x.openTrack o :=
    (assocWindowResult_of_one (m := s.m.at t) hwins).trans (Mod.solveHead_of_none hopened.wins)
  have hrun : Mod.Opened b (x.trackFor o) (Mod.run t assocWindowResult s.m) :=
    hopened.congr (by rw [Mod.run_trk, hmean]) (by rw [Mod.run_bist, hmean])
  obtain ⟨k, hk, hopening⟩ := hrun.track? (by simp [hlive])
  refine ⟨_, rfl, hrun.wins, hrun.next.trans hnext, hrun.fresh.trans hslot, ⟨k, hk, hopening⟩, hrun.serials.trans ?_⟩
  rw [hlive, List.map_append]
  rfl

/-! ### Due instants that pass (R148, R170) -/

section
variable {m : Mod} {serial : Nat} {k : Track}

/-- Without a free slot none is given out. -/
theorem Mod.tryAdmit_of_full (h : m.slots ≤ m.cell.jobs.length) : m.tryAdmit = m := by
  unfold Mod.tryAdmit Mod.dispatch
  rw [if_pos h]

/-- The wait of a piece that is ready. -/
def Mod.waitFor (m : Mod) (serial commit sample : Nat) : Wait :=
  { serial := serial, revision := false, commit := commit, latest := m.latestStart commit sample, sample := sample, since := m.now }

/-- Instants of the last 400 µs at which pieces were taken in. -/
def Mod.recentAdmits (m : Mod) : List Nat := m.cell.admits.filter (fun a => m.now < a + 400000)

/-- Within the rate budget, and with room in the queue but no free slot, a piece that is ready waits. -/
theorem Mod.pieceReady_of_full (hslots : m.slots ≤ m.cell.jobs.length) (hroom : m.cell.queue.length < 1024)
    (hrate : m.recentAdmits.length < m.rateBudget) (commit sample : Nat) : m.pieceReady serial commit sample
      = { m with cell := { m.cell with admits := m.now :: m.recentAdmits, queue := m.cell.queue ++ [m.waitFor serial commit sample] } } := by
  unfold Mod.recentAdmits at hrate
  unfold Mod.pieceReady Mod.enqueue
  simp only [Nat.not_le.2 hrate, hroom, if_true, if_false]
  exact Mod.tryAdmit_of_full hslots

/-- The track once every due instant has passed. -/
def Mod.readied (m : Mod) (k : Track) (byDue : Bool) (x : Track) : Track :=
  { x with st := .ready, readyAt := some m.now, byDue := byDue, tCross := m.crossOf k, tCommit := m.crossOf k - lrd k.vals P.trkProvLead * 1000 }

theorem Mod.checkReady_of_due (hk : m.track? serial = some k) (hst : k.st = .open_) (hdues : ∀ d ∈ m.dues k, d ≤ m.now) (byDue : Bool) :
    m.checkReady serial byDue = (m.setTrack serial (m.readied k byDue)).pieceReady serial
      (m.crossOf k - lrd k.vals P.trkProvLead * 1000) (m.lastSample k byDue) := by
  have hall : (m.dues k).all (fun d => d ≤ m.now) = true := List.all_eq_true.2 fun d hd => decide_eq_true (hdues d hd)
  unfold Mod.checkReady
  simp only [hk, hst, hall, decide_true, Bool.and_self, if_true]
  rfl

theorem observationDue_of_due {p : Nat} (hk : m.track? serial = some k) (hport : k.ports.contains p = true) (hunseen : k.saw p = false)
    (hdue : m.dueAt k p ≤ m.now) : observationDue serial p m = m.checkReady serial true := by
  unfold observationDue
  simp only [hk, hport, hunseen, hdue, Bool.not_false, decide_true, Bool.and_self, if_true]

end

theorem observationDue_yields {s : State} {t serial p : Nat} {k : Track} (hk : s.m.track? serial = some k) (hport : k.ports.contains p = true)
    (hunseen : k.saw p = false) (hdue : s.m.dueAt k p ≤ (s.m.at t).now) (hst : k.st = .open_)
    (hdues : ∀ d ∈ s.m.dues k, d ≤ (s.m.at t).now) (hslots : s.m.slots ≤ s.m.cell.jobs.length) (hroom : s.m.cell.queue.length < 1024)
    (hrate : (s.m.at t).recentAdmits.length < s.m.rateBudget) : s.Yields (.observationDue t serial p) fun m' =>
      (m'.track? serial = some ((s.m.at t).readied k true k)
        ∧ m'.cell.queue = s.m.cell.queue ++ [(s.m.at t).waitFor serial ((s.m.at t).crossOf k - lrd k.vals P.trkProvLead * 1000)
          ((s.m.at t).lastSample k true)])
      ∧ Mod.Frame t [.trk, .cell] [] s.m m' := by
  let x := (s.m.at t).setTrack serial ((s.m.at t).readied k true)
  let w := (s.m.at t).waitFor serial ((s.m.at t).crossOf k - lrd k.vals P.trkProvLead * 1000) ((s.m.at t).lastSample k true)
  have hmean : observationDue serial p (s.m.at t)
      = { x with cell := { x.cell with admits := x.now :: x.recentAdmits, queue := x.cell.queue ++ [w] } } :=
    calc observationDue serial p (s.m.at t)
      _ = (s.m.at t).checkReady serial true := observationDue_of_due (m := s.m.at t) hk hport hunseen hdue
      _ = x.pieceReady serial _ _ := Mod.checkReady_of_due (m := s.m.at t) hk hst hdues true
      _ = _ := Mod.pieceReady_of_full (m := x) hslots hroom hrate _ _
  refine State.yields_frame (f := observationDue serial p) rfl ?_ ⟨?_, ?_⟩
  · rw [hmean]
    exact (Mod.Within.setTrack _ _ _ (by simp)).trans (.ofCell x _ (by simp))
  · rw [Mod.track?_congr (Mod.run_trk t _ s.m), hmean]
    exact Mod.track?_setTrack (m := s.m.at t) hk fun _ => rfl
  · rw [Mod.run_cell, hmean]
    rfl

/-- Settles O37: a window that closes, the track that one observation opens, and a last due instant. -/
theorem observationsFormTracks : Obligations.ObservationsFormTracks := by
  intro s t _
  refine ⟨fun w hwin hdue hwins => ?closes, fun o hwins hfresh hnew => ?opens,
    fun serial p k hk hport hunseen hdue hst hdues hslots hroom hrate => ?due⟩
  case closes =>
    obtain ⟨m', hexec, ⟨sol, hlen, htrk⟩, hframe⟩ := assocWindowClose_yields hwin hdue hwins
    exact ⟨m', hexec, by rw [htrk], ⟨sol, by rw [htrk], hlen⟩, by rw [htrk], hframe⟩
  case opens =>
    obtain ⟨m', hexec, hnone, hserial, hslot, ⟨k, hk, hopening⟩, hserials⟩ := assocWindowResult_yields (t := t) hwins hfresh hnew
    simp only [Track.opening, Prod.mk.injEq] at hopening
    obtain ⟨⟨hkslot, -, hrecipe, hvariant, hlot⟩, hobs, -⟩ := hopening
    exact ⟨m', hexec, hnone, hserial, hslot, ⟨k, hk, hobs, hkslot, hrecipe, hvariant, hlot⟩, hserials⟩
  case due =>
    obtain ⟨m', hexec, ⟨htrack, hqueue⟩, hframe⟩ :=
      observationDue_yields hk hport hunseen hdue hst hdues hslots hroom hrate
    exact ⟨m', hexec, ⟨_, htrack, rfl, rfl, rfl, rfl, rfl, rfl⟩, ⟨_, hqueue, rfl, rfl, rfl⟩, hframe⟩

end Sys2Proof.Machine
end

section
/-!
PROOFS. The statements of 07_tracking_decision.md: the default action at the provisional commit point. What joins a piece that takes its
default action, and a running piece that holds an observation then.
-/
namespace Sys2Proof.Machine

/-! ### Held observations join (R177) -/

section
variable {m : Mod} {n : Nat} {k : Track}

theorem Mod.track?_foldl_addObs (l : List Obs) (hk : m.track? n = some k) :
    ∃ x, (l.foldl (fun m o => m.addObs n o) m).track? n = some x ∧ x.obs = k.obs ++ l := by
  induction l generalizing m k with
  | nil => exact ⟨k, hk, (List.append_nil _).symm⟩
  | cons o l ih =>
    have hjoined : (m.addObs n o).track? n = some ({ k with obs := k.obs ++ [o] }.gather m.laneCount) :=
      Mod.track?_setTrack hk fun _ => rfl
    obtain ⟨x, hx, hobs⟩ := ih hjoined
    exact ⟨x, hx, hobs.trans (List.append_assoc k.obs [o] l)⟩

theorem Mod.track?_joinHeld (hk : m.track? n = some k) : ∃ x, (m.joinHeld n).track? n = some x ∧ x.obs = k.obs ++ k.held := by
  unfold Mod.joinHeld
  simp only [hk]
  have hcleared : (m.setTrack n (fun t => { t with held := [] })).track? n = some { k with held := [] } :=
    Mod.track?_setTrack hk fun _ => rfl
  exact Mod.track?_foldl_addObs (k := { k with held := [] }) k.held hcleared

/-- A piece whose default action is ACCEPT takes it with every observation that it held (R175, R177). -/
theorem Mod.track?_giveDefault_of_accept (hk : m.track? n = some k) (hst : k.st = .ready ∨ k.st = .running)
    (haccept : m.dfltOf k.recipe = false) (cause : Nat) : ∃ x, (m.giveDefault n cause).track? n = some x ∧ x.obs = k.obs ++ k.held := by
  have hopen : ¬ (k.st = .decided ∨ k.st = .revising ∨ k.st = .committed) := by
    rcases hst with h | h <;> simp [h]
  have hwaits : (m.unwait n).track? n = some k := hk
  obtain ⟨x, hx, hobs⟩ := Mod.track?_joinHeld hwaits
  unfold Mod.giveDefault
  simp -zeta only [hk, Bool.or_eq_true, decide_eq_true_eq, or_assoc, hopen, if_false]
  extract_lets dflt tCross m1 m2
  have hgiven : m1.track? n = some _ := Mod.track?_setTrack hx fun _ => rfl
  have hdflt : dflt = false := haccept
  simp only [hdflt, Bool.false_eq_true, if_false]
  split <;> exact ⟨_, hgiven, hobs⟩

theorem provisionalCommitPass_of_due (hk : m.track? n = some k) (hst : k.st = .ready ∨ k.st = .running) (hdue : k.tCommit ≤ m.now) :
    provisionalCommitPass n m = m.giveDefault n 15 := by
  unfold provisionalCommitPass
  simp only [hk, hst, hdue, Bool.and_eq_true, Bool.or_eq_true, decide_eq_true_eq, and_self, if_true]

theorem exec_provisionalCommitPass_obs {s : State} {t : Nat} {m' : Mod} (hexec : exec (.provisionalCommitPass t n) s = .next { s with m := m' })
    (hk : s.m.track? n = some k) (hst : k.st = .ready ∨ k.st = .running) (hdue : k.tCommit ≤ (s.m.at t).now)
    (haccept : s.m.dfltOf k.recipe = false) : ∃ x, m'.track? n = some x ∧ x.obs = k.obs ++ k.held := by
  obtain rfl : Mod.run t (provisionalCommitPass n) s.m = m' := congrArg State.m (Host.Outcome.next.inj hexec)
  have hmean : provisionalCommitPass n (s.m.at t) = (s.m.at t).giveDefault n 15 :=
    provisionalCommitPass_of_due (m := s.m.at t) hk hst hdue
  rw [Mod.track?_congr (Mod.run_trk t _ s.m), hmean]
  exact Mod.track?_giveDefault_of_accept (m := s.m.at t) hk hst haccept 15

end

/-! ### A provisional commit point passes while an observation is held (R175, R177) -/

/-- The piece that holds an observation has its slot, and its job still runs. -/
def holdingRunning : Track := { holdingPiece with st := .running, tCommit := 3000000 }

/-- The provisional commit point has come, and the recipe's default action is ACCEPT. -/
def lateJobMod : Mod := { bist := { phase := .running }, now := 3000000, trk := { live := [holdingRunning] } }

/-- Refutes O38: the observation that a running piece holds for its revision joins it when it takes the default action at its provisional
commit point (R177), where the statement has its observations unchanged. -/
theorem not_tracksCommitAndClose : ¬ Obligations.TracksCommitAndClose := by
  intro ⟨htrack, _⟩
  have hfound : lateJobMod.track? 5 = some holdingRunning := rfl
  obtain ⟨hpass, -⟩ := htrack { m := lateJobMod } 3000000 5 holdingRunning rfl hfound
  obtain ⟨m', hexec, ⟨k', hk', -, -, -, hkept, -⟩, -⟩ := hpass (.inr rfl) (by decide) rfl
  obtain ⟨x, hx, hjoined⟩ := exec_provisionalCommitPass_obs hexec hfound (.inr rfl) (by decide) rfl
  obtain rfl : x = k' := Option.some.inj (hx.symm.trans hk')
  have hnone : holdingRunning.held = [] := List.append_right_eq_self.1 (hjoined.symm.trans hkept)
  exact absurd hnone (List.cons_ne_nil _ _)

end Sys2Proof.Machine
end

section
/-!
PROOFS. The statements of 08_ejection_scheduling.md: what the firing engine's operations change of the schedule, of the toll gate and of the
counts; a pulse that is missed is a chain of them.
-/
namespace Sys2Proof.Machine

/-! ### Counts -/

/-- A count that is raised once, between two changes that leave it alone. -/
theorem Mod.Within.rd_counted {as as' : List Area} {ws ws' : List Nat} {a b d : Mod} {q : Param} {i : Nat} (hbefore : Mod.Within as ws a b)
    (hafter : Mod.Within as' ws' (b.inc q i) d) (hwf : Store.wf a.regs = true) (hw : q.w = 32) (hws : q.addr i ∉ ws) (hws' : q.addr i ∉ ws')
    (hl : q.addr i ≠ P.loopFlags.addr) : d.rd q i = (a.rd q i + 1) % 2 ^ 32 := by
  have hwfb : Store.wf b.regs = true := hbefore.wf hwf
  rw [hafter.rd_eq (Mod.inc_wf hwfb _ _ _ _) hws' hl, Mod.rd_inc_full hwfb hw, hbefore.rd_eq hwf hws hl]

/-- An area that a change keeps need not be named in its frame. -/
theorem Mod.Within.without {A : Area} {as : List Area} {ws : List Nat} {a b : Mod} (h : Mod.Within (A :: as) ws a b) (hA : A.same a b) :
    Mod.Within as ws a b where
  now := h.now
  areas p hp := by
    by_cases hpA : p = A
    · rw [hpA]; exact hA
    · exact h.areas p (by simp [hpA, hp])
  wf := h.wf
  words := h.words

/-! ### The schedule's updates (R193, R203, R205) -/

section
variable {as : List Area} {ws : List Nat} (m : Mod) (p : EPulse)

@[simp] theorem Mod.setPulse_trk (id : Nat) (f : EPulse → EPulse) : (m.setPulse id f).trk = m.trk := rfl
@[simp] theorem Mod.setPulse_vlv (id : Nat) (f : EPulse → EPulse) : (m.setPulse id f).vlv = m.vlv := rfl
@[simp] theorem Mod.setPulse_toll (id : Nat) (f : EPulse → EPulse) : (m.setPulse id f).toll = m.toll := rfl
@[simp] theorem Mod.dropPulse_vlv (id : Nat) : (m.dropPulse id).vlv = m.vlv := rfl
@[simp] theorem Mod.dropPulse_toll (id : Nat) : (m.dropPulse id).toll = m.toll := rfl
@[simp] theorem Mod.setPlan_ej (serial : Nat) (f : Plan → Plan) : (m.setPlan serial f).ej = m.ej := rfl
@[simp] theorem Mod.setPlan_vlv (serial : Nat) (f : Plan → Plan) : (m.setPlan serial f).vlv = m.vlv := rfl
@[simp] theorem Mod.setPlan_toll (serial : Nat) (f : Plan → Plan) : (m.setPlan serial f).toll = m.toll := rfl

theorem Mod.Within.setPulse (id : Nat) (f : EPulse → EPulse) (h : Area.ej ∈ as) : Mod.Within as ws m (m.setPulse id f) := .ofEj m _ h

theorem Mod.Within.dropPulse (id : Nat) (h : Area.ej ∈ as) : Mod.Within as ws m (m.dropPulse id) := .ofEj m _ h

theorem Mod.Within.setEntry (serial : Nat) (f : Track → Track) (h : Area.trk ∈ as) : Mod.Within as ws m (m.setEntry serial f) := .ofTrk m _ h

theorem Mod.Within.setPlan (serial : Nat) (f : Plan → Plan) (h : Area.trk ∈ as) : Mod.Within as ws m (m.setPlan serial f) :=
  .setEntry m serial _ h

theorem Mod.Within.freeReserve (id : Nat) (h : Area.toll ∈ as) : Mod.Within as ws m (m.freeReserve id) := .ofToll m _ h

theorem Mod.setPulse_ej_congr {a b : Mod} (h : b.ej = a.ej) (id : Nat) (f : EPulse → EPulse) : (b.setPulse id f).ej = (a.setPulse id f).ej := by
  simp only [Mod.setPulse, h]

theorem Mod.setPlan_trk_congr {a b : Mod} (h : b.trk = a.trk) (serial : Nat) (f : Plan → Plan) :
    (b.setPlan serial f).trk = (a.setPlan serial f).trk := by
  simp only [Mod.setPlan, Mod.setEntry, h]

/-- Updates of one pulse join: the second finds the pulse that the first has left. -/
theorem Mod.setPulse_setPulse (id : Nat) (f g : EPulse → EPulse) (hid : ∀ q, (f q).id = q.id) :
    (m.setPulse id f).setPulse id g = m.setPulse id (fun q => g (f q)) := by
  have hone : ∀ q : EPulse, (if (if q.id = id then f q else q).id = id then g (if q.id = id then f q else q) else if q.id = id then f q else q)
      = if q.id = id then g (f q) else q := by
    intro q
    by_cases h : q.id = id <;> simp [h, hid]
  simp only [Mod.setPulse, List.map_map, Function.comp_def, hone]

/-! ### A pulse's wait and its grant (R196, R200, R207) -/

@[simp] theorem Mod.noteWait_ej : (m.noteWait p).ej = m.ej := by unfold Mod.noteWait; split <;> rfl
@[simp] theorem Mod.noteWait_vlv : (m.noteWait p).vlv = m.vlv := by unfold Mod.noteWait; split <;> rfl
@[simp] theorem Mod.noteWait_toll : (m.noteWait p).toll = m.toll := by unfold Mod.noteWait; split <;> rfl

theorem Mod.Within.noteWait (h : P.ejBankWaitMax.addr (bankOf p.ch) ∈ ws) : Mod.Within as ws m (m.noteWait p) := by
  unfold Mod.noteWait
  split
  · exact .peak _ _ _ _ h
  · exact .refl m

/-- The toll gate once a pulse has given back what it had of it: its request, or its reservation. -/
def EPulse.givesBack (p : EPulse) (x : TollSt) : TollSt :=
  match p.grant with
  | .none => x
  | .asked => { x with reqs := x.reqs.filter (fun r => r.who ≠ .pulse p.id p.ch) }
  | .held => { x with res := x.res.filter (fun r => r.id ≠ p.id) }

@[simp] theorem Mod.returnGrant_toll : (m.returnGrant p).toll = p.givesBack m.toll := by
  unfold Mod.returnGrant EPulse.givesBack
  cases p.grant <;> rfl

@[simp] theorem Mod.returnGrant_ej : (m.returnGrant p).ej = (m.setPulse p.id (fun q => { q with grant := .none })).ej := by
  unfold Mod.returnGrant
  cases p.grant <;> rfl

@[simp] theorem Mod.returnGrant_trk : (m.returnGrant p).trk = m.trk := by
  unfold Mod.returnGrant
  cases p.grant <;> rfl

theorem Mod.Within.returnGrant (hej : Area.ej ∈ as) (htoll : Area.toll ∈ as) (hw : P.tollExpired1.addr ∈ ws) :
    Mod.Within as ws m (m.returnGrant p) := by
  refine Mod.Within.trans ?_ (.setPulse _ _ _ hej)
  split
  · exact .refl m
  · exact (Mod.Within.unask m _ htoll).trans (.inc _ _ _ _ _ hw)
  · exact .freeReserve m _ htoll

/-! ### A missed pulse (R203) -/

@[simp] theorem Mod.noteMiss_toll (serial ch : Nat) (b : Option Nat) (cause : Nat) : (m.noteMiss serial ch b cause).toll = m.toll := by
  simp only [Mod.noteMiss, apply_ite Mod.toll, Mod.setEntry, Mod.raise_toll, Mod.inc_toll, Mod.flag_toll, ite_self]

@[simp] theorem Mod.noteMiss_pulses (serial ch : Nat) (b : Option Nat) (cause : Nat) :
    (m.noteMiss serial ch b cause).ej.pulses = m.ej.pulses := by
  simp only [Mod.noteMiss, apply_ite Mod.ej, apply_ite EjSt.pulses, Mod.setEntry, Mod.raise_ej, Mod.inc_ej, Mod.flag_ej, ite_self]

/-- The counts of a miss: of its cause, of the pieces that miss, and of the channel. -/
def Mod.countMiss (m : Mod) (ch cause : Nat) : Mod := ((m.inc P.ejMiss (cause - 1)).flag P.ejFlags 2).inc P.ejChMissed ch

/-- Once counted, a miss is noted in its piece's entry and raises its event. -/
theorem Mod.Within.noteMiss_countMiss {ch : Nat} (hch : ch < 384) (serial : Nat) (b : Option Nat) (cause : Nat) (hej : Area.ej ∈ as)
    (htrk : Area.trk ∈ as) : Mod.Within as ws (m.countMiss ch cause) (m.noteMiss serial ch b cause) := by
  unfold Mod.noteMiss
  extract_lets m1 m2 said ej m3
  have hcount : m2 = m.countMiss ch cause := if_pos hch
  have hnoted : Mod.Within as ws (m.countMiss ch cause) m3 := by
    rw [← hcount]
    refine Mod.Within.trans ?_ (.setEntry _ _ _ htrk)
    split
    · exact .refl m2
    · exact .ofEj m2 _ hej
  split
  · exact hnoted
  · exact hnoted.trans (.raise _ _ _ _)

theorem Mod.Within.unmerge (id : Nat) (hej : Area.ej ∈ as) (hw : P.ejQPeak.addr ∈ ws) : Mod.Within as ws m (m.unmerge id) :=
  (Mod.Within.ofEj m _ hej).trans (.peak _ _ _ _ hw)

/-- A pulse that is to be missed has left the schedule: its wait has ended, and its grant has returned. -/
def Mod.leaves (m : Mod) (p : EPulse) : Mod := ((m.noteWait p).returnGrant p).dropPulse p.id

theorem Mod.missPulse_eq (cause : Nat) :
    m.missPulse p cause = ((m.leaves p).noteMiss p.serial p.ch (some p.bit) cause).unmerge p.id := rfl

theorem Mod.Within.leaves (hej : Area.ej ∈ as) (htoll : Area.toll ∈ as)
    (hw : [P.tollExpired1.addr, P.ejBankWaitMax.addr (bankOf p.ch)] ⊆ ws) : Mod.Within as ws m (m.leaves p) :=
  ((Mod.Within.noteWait m p (hw (by simp))).trans (.returnGrant _ p hej htoll (hw (by simp)))).trans (.dropPulse _ _ hej)

@[simp] theorem Mod.leaves_toll : (m.leaves p).toll = p.givesBack m.toll := by
  rw [Mod.leaves, Mod.dropPulse_toll, Mod.returnGrant_toll, Mod.noteWait_toll]

@[simp] theorem Mod.unmerge_toll (id : Nat) : (m.unmerge id).toll = m.toll := rfl

theorem Mod.missPulse_toll (cause : Nat) : (m.missPulse p cause).toll = p.givesBack m.toll := by
  rw [Mod.missPulse_eq, Mod.unmerge_toll, Mod.noteMiss_toll, Mod.leaves_toll]

/-- Neither a missed pulse nor one merged into it is left: those that were merged stand on their own. -/
theorem Mod.missPulse_pulses (cause : Nat) : ∀ q ∈ (m.missPulse p cause).ej.pulses, q.id ≠ p.id ∧ q.into ≠ some p.id := by
  intro q hq
  have hmap : (m.missPulse p cause).ej.pulses = (m.leaves p).ej.pulses.map
      (fun q => if q.into = some p.id then { q with into := none, ins := ((m.leaves p).noteMiss p.serial p.ch (some p.bit) cause).now } else q) :=
    congrArg _ (Mod.noteMiss_pulses (m.leaves p) p.serial p.ch (some p.bit) cause)
  rw [hmap] at hq
  obtain ⟨r, hr, rfl⟩ := List.mem_map.1 hq
  have hid : r.id ≠ p.id := of_decide_eq_true (List.mem_filter.1 hr).2
  by_cases h : r.into = some p.id <;> simp [h, hid]

/-! ### The words of a miss -/

theorem bankOf_lt (c : Nat) : bankOf c < 24 := Nat.mod_lt c (by decide)

theorem ejMiss_mem_missWords {n : Nat} (h : n < 8) : P.ejMiss.addr n ∈ missWords := by
  simp only [missWords, List.mem_append, List.mem_map, List.mem_range]
  exact .inl (.inr ⟨n, h, rfl⟩)

theorem ejChMissed_mem_missWords {c : Nat} (h : c < 384) : P.ejChMissed.addr c ∈ missWords := by
  simp only [missWords, List.mem_append, List.mem_map, List.mem_range]
  exact .inr ⟨c, h, rfl⟩

theorem ejBankWaitMax_mem_missWords (c : Nat) : P.ejBankWaitMax.addr (bankOf c) ∈ missWords := by
  simp only [missWords, List.mem_append, List.mem_map, List.mem_range]
  exact .inl (.inl (.inr ⟨_, bankOf_lt c, rfl⟩))

theorem missWords_single : [P.ejFlags.addr, P.tollExpired1.addr, P.ejQPeak.addr] ⊆ missWords := by
  intro x hx
  simp only [missWords, List.mem_append]
  exact .inl (.inl (.inl hx))

variable {m p}

theorem Mod.Within.countMiss {ch cause : Nat} (hch : ch < 384) (hcause : cause - 1 < 8) : Mod.Within as missWords m (m.countMiss ch cause) :=
  ((Mod.Within.inc m _ _ _ _ (ejMiss_mem_missWords hcause)).trans (.flag _ _ _ _ (missWords_single (by simp)))).trans
    (.inc _ _ _ _ _ (ejChMissed_mem_missWords hch))

theorem Mod.Within.missPulse {cause : Nat} (hch : p.ch < 384) (hcause : cause - 1 < 8) :
    Mod.Within [.toll, .ej, .trk] missWords m (m.missPulse p cause) := by
  have hleaves : Mod.Within [.toll, .ej, .trk] missWords m (m.leaves p) :=
    .leaves m p (by simp) (by simp) (by simp [missWords_single (by simp : P.tollExpired1.addr ∈ _), ejBankWaitMax_mem_missWords])
  exact ((hleaves.trans (.countMiss hch hcause)).trans (.noteMiss_countMiss _ hch _ _ _ (by simp) (by simp))).trans
    (.unmerge _ _ (by simp) (missWords_single (by simp)))

/-- A miss is counted once, by its cause and by its channel. -/
theorem Mod.rd_missPulse {cause : Nat} (hwf : Store.wf m.regs = true) (hch : p.ch < 384) (hcause : cause - 1 < 8) :
    (m.missPulse p cause).rd P.ejMiss (cause - 1) = (m.rd P.ejMiss (cause - 1) + 1) % 2 ^ 32
    ∧ (m.missPulse p cause).rd P.ejChMissed p.ch = (m.rd P.ejChMissed p.ch + 1) % 2 ^ 32 := by
  have hbank := bankOf_lt p.ch
  let before := [P.tollExpired1.addr, P.ejBankWaitMax.addr (bankOf p.ch)]
  let counts := [P.ejMiss.addr (cause - 1), P.ejFlags.addr]
  have hleaves : Mod.Within [.ej, .toll] (before ++ counts) m (m.leaves p) := .leaves m p (by simp) (by simp) (by simp [before])
  have hends : ∀ ws, P.ejQPeak.addr ∈ ws → Mod.Within [.ej, .trk] ws ((m.leaves p).countMiss p.ch cause) (m.missPulse p cause) := fun ws hw =>
    (Mod.Within.noteMiss_countMiss _ hch _ _ _ (by simp) (by simp)).trans (.unmerge _ _ (by simp) hw)
  constructor
  · let after := [P.ejFlags.addr, P.ejChMissed.addr p.ch, P.ejQPeak.addr]
    have hrest : Mod.Within [.ej, .trk] after ((m.leaves p).inc P.ejMiss (cause - 1)) (m.missPulse p cause) :=
      ((Mod.Within.flag _ _ _ _ (by simp [after])).trans (.inc _ _ _ _ _ (by simp [after]))).trans (hends after (by simp [after]))
    have hfirst : Mod.Within [.ej, .toll] before m (m.leaves p) := .leaves m p (by simp) (by simp) (List.Subset.refl _)
    refine hfirst.rd_counted hrest hwf rfl ?_ ?_ ?_ <;>
      simp [before, after, Param.addr, P.ejMiss, P.tollExpired1, P.ejBankWaitMax, P.ejFlags, P.ejChMissed, P.ejQPeak, P.loopFlags] <;> omega
  · have hcounted : Mod.Within [.ej, .toll] (before ++ counts) m (((m.leaves p).inc P.ejMiss (cause - 1)).flag P.ejFlags 2) :=
      (hleaves.trans (.inc _ _ _ _ _ (by simp [counts]))).trans (.flag _ _ _ _ (by simp [counts]))
    refine hcounted.rd_counted (hends [P.ejQPeak.addr] (by simp)) hwf rfl ?_ ?_ ?_ <;>
      simp [before, counts, Param.addr, P.ejMiss, P.tollExpired1, P.ejBankWaitMax, P.ejFlags, P.ejChMissed, P.ejQPeak, P.loopFlags] <;> omega

end

end Sys2Proof.Machine
end

section
/-!
PROOFS. The statements of 08_ejection_scheduling.md: a pulse at its firm instant, at its hold-start instant and at its latest start.
-/
namespace Sys2Proof.Machine

theorem Mod.pulse?_spec {m : Mod} {serial ch : Nat} {p : EPulse} (h : m.pulse? serial ch = some p) :
    p ∈ m.ej.pulses ∧ p.serial = serial ∧ p.ch = ch := by
  have hfound : p.serial = serial ∧ p.ch = ch := by simpa using List.find?_some h
  exact ⟨List.mem_of_find?_eq_some h, hfound⟩

section
variable {m : Mod} {serial ch : Nat} {p : EPulse}

/-! ### The firm instant (R196, R197) -/

/-- A pulse that has become firm at `k` and asks for its grant. -/
def EPulse.firmed (k : Nat) (q : EPulse) : EPulse :=
  { q with firm := true, k := k, grant := .asked, planned := tickOf (Nat.max q.s (k + 2000)) }

/-- What the pulse asks of the toll gate. -/
def EPulse.request (p : EPulse) (amount now : Nat) : TollReq :=
  { who := .pulse p.id p.ch, cls := 1, budget := .vhi, key := p.s + p.slack, amount := amount, at_ := now }

theorem pulseFirm_of_due (hp : m.pulse? serial ch = some p) (hinto : p.into = none) (hfirm : p.firm = false) (hdue : p.firmAt ≤ m.now) :
    pulseFirm serial ch m = if p.s + p.slack < p.firmAt + 2000 then m.missPulse p 7
      else (m.setPulse p.id (EPulse.firmed p.firmAt)).ask (.pulse p.id p.ch) 1 .vhi (p.s + p.slack) (m.rd P.tollQBoost) := by
  simp only [pulseFirm, hp, hinto, hfirm, Nat.not_lt.2 hdue, Option.isSome_none, Bool.or_false, decide_false, Bool.false_eq_true, if_false]
  rfl

/-! ### The hold-start instant (R197) -/

/-- The lateness λ of a hold-start. -/
def EPulse.hsLate (p : EPulse) : Nat := p.hsAt + p.dHs - p.fire

/-- A pulse whose hold-start instant has passed. -/
def EPulse.modeSet (q : EPulse) : EPulse := { q with judged := true }

/-- A pulse that is to start as a hold-start of lateness `lam` at `tick`. -/
def EPulse.holdStarts (lam tick : Nat) (q : EPulse) : EPulse := { q with judged := true, grant := .none, hs := true, lam := lam, planned := tick }

/-- A pulse whose request is withdrawn at its hold-start instant: it starts as a hold-start, and its plan records the mode. -/
def Mod.holdStart (m : Mod) (serial ch : Nat) (p : EPulse) : Mod :=
  (((((m.setPulse p.id EPulse.modeSet).returnGrant p).setPulse p.id
    (fun q => { q with hs := true, lam := p.hsLate, planned := tickOf p.hsAt })).setPlan serial
      (fun q => { q with mode := q.mode ||| 2 ^ p.bit })).flag P.ejFlags 4).raise 66 0x0403
    (leBytes 4 serial ++ leBytes 2 ch ++ leBytes 2 (p.hsLate / 1000))

theorem holdStartInstant_of_due (hp : m.pulse? serial ch = some p) (hinto : p.into = none) (hfirm : p.firm = true) (hjudged : p.judged = false)
    (hstarted : p.started = none) (hdue : Nat.min p.hsAt (tickOf p.hsAt) ≤ m.now) :
    holdStartInstant serial ch m = if p.grant = .held || m.overlapped p || !m.hsAllowed p || p.slack < p.hsLate then m.setPulse p.id EPulse.modeSet
      else m.holdStart serial ch p := by
  simp only [holdStartInstant, hp, hinto, hfirm, hjudged, hstarted, Nat.not_lt.2 hdue, Option.isSome_none, Bool.or_false, Bool.not_true,
    decide_false, Bool.false_eq_true, if_false]
  rfl

/-- Of the pulse nothing changes but its mode and its grant. -/
theorem Mod.holdStart_ej (m : Mod) (serial ch : Nat) (p : EPulse) :
    (m.holdStart serial ch p).ej = (m.setPulse p.id (EPulse.holdStarts p.hsLate (tickOf p.hsAt))).ej := by
  rw [Mod.holdStart, Mod.raise_ej, Mod.flag_ej, Mod.setPlan_ej, Mod.setPulse_ej_congr (Mod.returnGrant_ej _ p), Mod.setPulse_setPulse,
    Mod.setPulse_setPulse]
  · rfl
  all_goals exact fun _ => rfl

theorem Mod.holdStart_toll (m : Mod) (serial ch : Nat) (p : EPulse) : (m.holdStart serial ch p).toll = p.givesBack m.toll := by
  simp only [Mod.holdStart, Mod.raise_toll, Mod.flag_toll, Mod.setPlan_toll, Mod.setPulse_toll, Mod.returnGrant_toll]

theorem Mod.holdStart_trk (m : Mod) (serial ch : Nat) (p : EPulse) :
    (m.holdStart serial ch p).trk = (m.setPlan serial (fun q => { q with mode := q.mode ||| 2 ^ p.bit })).trk := by
  rw [Mod.holdStart, Mod.raise_trk, Mod.flag_trk]
  exact Mod.setPlan_trk_congr (by rw [Mod.setPulse_trk, Mod.returnGrant_trk, Mod.setPulse_trk]) _ _

/-- A request that is withdrawn is counted as expired. -/
theorem Mod.Within.holdStart (m : Mod) (serial ch : Nat) {p : EPulse} (hgrant : p.grant = .asked) {as : List Area} {ws : List Nat}
    (hej : Area.ej ∈ as) (htrk : Area.trk ∈ as) (hw : P.ejFlags.addr ∈ ws) : Mod.Within as ws
      (((m.setPulse p.id EPulse.modeSet).unask (.pulse p.id p.ch)).inc P.tollExpired1) (m.holdStart serial ch p) := by
  have hback : (m.setPulse p.id EPulse.modeSet).returnGrant p
      = (((m.setPulse p.id EPulse.modeSet).unask (.pulse p.id p.ch)).inc P.tollExpired1).setPulse p.id (fun q => { q with grant := .none }) := by
    unfold Mod.returnGrant
    rw [hgrant]
  unfold Mod.holdStart
  rw [hback]
  exact ((((Mod.Within.setPulse _ _ _ hej).trans (.setPulse _ _ _ hej)).trans (.setPlan _ _ _ htrk)).trans (.flag _ _ _ _ hw)).trans
    (.raise _ _ _ _)

/-! ### The latest start (R197, R200) -/

theorem pulseLatestStart_of_due (hp : m.pulse? serial ch = some p) (hinto : p.into = none) (hfirm : p.firm = true) (hstarted : p.started = none)
    (hdue : p.latest ≤ m.now) (hstands : m.ready p = false ∨ m.obstacle p ≠ 0) : pulseLatestStart serial ch m = m.missPulse p (m.lateCause p) := by
  have hblocked : (m.ready p && m.obstacle p = 0 && !m.mustYield p) = false := by
    rcases hstands with h | h <;> simp [h]
  simp only [pulseLatestStart, hp, hinto, hfirm, hstarted, hblocked, Nat.not_lt.2 hdue, Option.isSome_none, Bool.or_false, Bool.not_true,
    decide_false, Bool.false_eq_true, if_false]

/-- A pulse without a grant that is no hold-start is missed for want of energy. -/
theorem Mod.lateCause_of_unheld (hhs : p.hs = false) (hgrant : p.grant = .asked) : m.lateCause p = 3 := by
  simp [Mod.lateCause, hhs, hgrant]

/-- The cause is the obstacle that stands. -/
theorem Mod.lateCause_of_obstacle (hgrant : p.grant = .held) (h : m.obstacle p ≠ 0) : m.lateCause p = m.obstacle p := by
  have hcases : m.obstacle p = 1 ∨ m.obstacle p = 2 := by
    unfold Mod.obstacle at h ⊢
    split <;> simp_all
  rcases hcases with h1 | h2
  · simp [Mod.lateCause, hgrant, h1]
  · simp [Mod.lateCause, hgrant, h2]

theorem Mod.obstacle_le (m : Mod) (p : EPulse) : m.obstacle p ≤ 2 := by
  unfold Mod.obstacle
  split
  · exact Nat.le_refl 2
  · split <;> decide

end

/-! ### The commands -/

section
variable {s : State} {t serial ch : Nat} {p : EPulse}

/-- A pulse that a command misses has left the schedule with what was merged into it, is counted by its cause, and has given back its grant. -/
theorem missPulse_yields {c : Instr} {f : Mod → Mod} {cause : Nat} (hexec : exec c s = s.run t f) (hs : s.Canonical)
    (hmean : f (s.m.at t) = (s.m.at t).missPulse p cause) (hch : p.ch < 384) (hcause : cause - 1 < 8) : s.Yields c fun m' =>
      (∀ q ∈ m'.ej.pulses, q.id ≠ p.id ∧ q.into ≠ some p.id)
      ∧ m'.rd P.ejMiss (cause - 1) = (s.m.rd P.ejMiss (cause - 1) + 1) % 2 ^ 32
      ∧ m'.rd P.ejChMissed p.ch = (s.m.rd P.ejChMissed p.ch + 1) % 2 ^ 32 ∧ m'.toll = p.givesBack s.m.toll
      ∧ Mod.Within [.toll, .ej, .trk] missWords (s.m.at t) m' := by
  obtain ⟨hmiss, hchan⟩ := Mod.rd_missPulse (m := s.m.at t) hs hch hcause
  refine State.yields_run hexec ⟨?_, ?_, ?_, ?_, ?_⟩
  · rw [Mod.run_ej, hmean]
    exact Mod.missPulse_pulses _ _ _
  · rw [Mod.run_rd_other t f s.m (by simp [Param.addr, P.ejMiss, P.loopFlags]; omega), hmean]
    exact hmiss
  · rw [Mod.run_rd_other t f s.m (by simp [Param.addr, P.ejChMissed, P.loopFlags]; omega), hmean]
    exact hchan
  · rw [Mod.run_toll, hmean]
    exact Mod.missPulse_toll _ _ _
  · exact Mod.Within.trans (by rw [hmean]; exact .missPulse hch hcause) (.run_end t f s.m)

theorem pulseFirm_due_yields (hp : s.m.pulse? serial ch = some p) (hinto : p.into = none) (hfirm : p.firm = false)
    (hdue : p.firmAt ≤ (s.m.at t).now) (hslack : p.firmAt + 2000 ≤ p.s + p.slack) (hasks : s.m.asking (.pulse p.id p.ch) = false) :
    s.Yields (.pulseFirm t serial ch) fun m' =>
      (m'.ej = (s.m.setPulse p.id (EPulse.firmed p.firmAt)).ej
        ∧ m'.toll = { s.m.toll with reqs := s.m.toll.reqs ++ [p.request (s.m.rd P.tollQBoost) (s.m.at t).now] })
      ∧ Mod.Frame t [.ej, .toll] [] s.m m' := by
  have hmean : pulseFirm serial ch (s.m.at t) = ((s.m.at t).setPulse p.id (EPulse.firmed p.firmAt)).ask (.pulse p.id p.ch) 1 .vhi
      (p.s + p.slack) (s.m.rd P.tollQBoost) :=
    (pulseFirm_of_due (m := s.m.at t) hp hinto hfirm hdue).trans (if_neg (Nat.not_lt.2 hslack))
  refine State.yields_frame (f := pulseFirm serial ch) rfl ?_ ⟨?_, ?_⟩
  · rw [hmean]
    exact (Mod.Within.setPulse _ _ _ (by simp)).trans (.ask _ _ _ _ _ _ (by simp))
  · rw [Mod.run_ej, hmean, Mod.ask_ej]
    rfl
  · rw [Mod.run_toll, hmean]
    exact Mod.ask_toll_of_not_asking (m := (s.m.at t).setPulse p.id (EPulse.firmed p.firmAt)) hasks _ _ _ _

theorem holdStartInstant_held_yields (hp : s.m.pulse? serial ch = some p) (hinto : p.into = none) (hfirm : p.firm = true)
    (hjudged : p.judged = false) (hstarted : p.started = none) (hdue : Nat.min p.hsAt (tickOf p.hsAt) ≤ (s.m.at t).now)
    (hgrant : p.grant = .held) : s.Yields (.holdStartInstant t serial ch) fun m' =>
      m'.ej = (s.m.setPulse p.id EPulse.modeSet).ej ∧ Mod.Frame t [.ej] [] s.m m' := by
  have hmean : holdStartInstant serial ch (s.m.at t) = (s.m.at t).setPulse p.id EPulse.modeSet :=
    (holdStartInstant_of_due (m := s.m.at t) hp hinto hfirm hjudged hstarted hdue).trans (if_pos (by simp [hgrant]))
  refine State.yields_frame (f := holdStartInstant serial ch) rfl ?_ ?_
  · rw [hmean]
    exact .setPulse _ _ _ (by simp)
  · rw [Mod.run_ej, hmean]
    rfl

theorem holdStartInstant_asked_yields (hs : s.Canonical) (hp : s.m.pulse? serial ch = some p) (hinto : p.into = none) (hfirm : p.firm = true)
    (hjudged : p.judged = false) (hstarted : p.started = none) (hdue : Nat.min p.hsAt (tickOf p.hsAt) ≤ (s.m.at t).now)
    (hgrant : p.grant = .asked) (halone : (s.m.at t).overlapped p = false) (hallowed : s.m.hsAllowed p = true) (hslack : p.hsLate ≤ p.slack) :
    s.Yields (.holdStartInstant t serial ch) fun m' =>
      (m'.ej = (s.m.setPulse p.id (EPulse.holdStarts p.hsLate (tickOf p.hsAt))).ej
        ∧ m'.toll = { s.m.toll with reqs := s.m.toll.reqs.filter (fun r => r.who ≠ .pulse p.id p.ch) }
        ∧ m'.rd P.tollExpired1 = (s.m.rd P.tollExpired1 + 1) % 2 ^ 32
        ∧ m'.trk = (s.m.setPlan serial (fun q => { q with mode := q.mode ||| 2 ^ p.bit })).trk)
      ∧ Mod.Frame t [.ej, .toll, .trk] [P.tollExpired1.addr, P.ejFlags.addr] s.m m' := by
  have hmean : holdStartInstant serial ch (s.m.at t) = (s.m.at t).holdStart serial ch p :=
    (holdStartInstant_of_due (m := s.m.at t) hp hinto hfirm hjudged hstarted hdue).trans
      (if_neg (by simp [hgrant, halone, show (s.m.at t).hsAllowed p = true from hallowed, Nat.not_lt.2 hslack]))
  have hfirst : ∀ as, Area.ej ∈ as → Area.toll ∈ as → ∀ ws,
      Mod.Within as ws (s.m.at t) (((s.m.at t).setPulse p.id EPulse.modeSet).unask (.pulse p.id p.ch)) := fun as hej htoll ws =>
    (Mod.Within.setPulse _ _ _ hej).trans (.unask _ _ htoll)
  refine State.yields_frame (f := holdStartInstant serial ch) rfl ?_ ⟨?_, ?_, ?_, ?_⟩
  · rw [hmean]
    exact ((hfirst _ (by simp) (by simp) _).trans (.inc _ P.tollExpired1 0 1 0 (by simp))).trans
      (.holdStart _ _ _ hgrant (by simp) (by simp) (by simp))
  · rw [Mod.run_ej, hmean]
    exact Mod.holdStart_ej (s.m.at t) serial ch p
  · rw [Mod.run_toll, hmean, Mod.holdStart_toll, EPulse.givesBack, hgrant]
    rfl
  · rw [Mod.run_rd_other t _ s.m (by decide), hmean]
    have hrest := Mod.Within.holdStart (as := [.ej, .trk]) (ws := [P.ejFlags.addr]) (s.m.at t) serial ch hgrant (by simp) (by simp) (by simp)
    exact (hfirst [.ej, .toll] (by simp) (by simp) []).rd_counted hrest hs rfl (by simp) (by decide) (by decide)
  · rw [Mod.run_trk, hmean]
    exact Mod.holdStart_trk (s.m.at t) serial ch p

end

end Sys2Proof.Machine
end

section
/-!
PROOFS. The statements of 08_ejection_scheduling.md: the channel of a pulse that starts. A change that touches one channel alone, but for what
the bank's stage shows the others, is said once; the profile that the driver begins is a chain of such changes.
-/
namespace Sys2Proof.Machine

/-! ### One channel (R208, R210) -/

theorem Mod.vch_congr {a b : Mod} (h : b.vlv = a.vlv) (c : Nat) : b.vch c = a.vch c := by
  unfold Mod.vch
  rw [h]

theorem Mod.vch_setVch_ne (m : Mod) {c k : Nat} (h : k ≠ c) (f : VCh → VCh) : (m.setVch c f).vch k = m.vch k := by
  simp [Mod.vch, Mod.setVch, updAt, List.getD_eq_getElem?_getD, Ne.symm h]

theorem Mod.vch_setVch {m : Mod} {c : Nat} (h : c < m.vlv.ch.length) (f : VCh → VCh) : (m.setVch c f).vch c = f (m.vch c) := by
  simp [Mod.vch, Mod.setVch, updAt, h]

theorem Mod.setVch_of_beyond {m : Mod} {c : Nat} (h : m.vlv.ch.length ≤ c) (f : VCh → VCh) : m.setVch c f = m := by
  simp [Mod.setVch, updAt, List.modify_eq_self h]

/-- Of a channel nothing changes but what its bank's stage shows it: that it has been HI, and the on-fraction of a rise. -/
def VCh.Alike (v w : VCh) : Prop := ∃ hi duty, w = { v with hiSeen := hi, duty := duty }

theorem VCh.Alike.refl (v : VCh) : v.Alike v := ⟨v.hiSeen, v.duty, rfl⟩

theorem VCh.Alike.trans {u v w : VCh} (h : u.Alike v) (k : v.Alike w) : u.Alike w := by
  obtain ⟨_, _, rfl⟩ := h
  obtain ⟨hi, duty, rfl⟩ := k
  exact ⟨hi, duty, rfl⟩

theorem VCh.Alike.eq {v w : VCh} (h : v.Alike w) : w = { v with hiSeen := w.hiSeen, duty := w.duty } := by
  obtain ⟨_, _, rfl⟩ := h
  rfl

/-- A change touches one channel alone, but for what the stage shows the others of its bank. -/
structure Mod.AtCh (c : Nat) (as : List Area) (ws : List Nat) (a b : Mod) : Prop where
  others : ∀ k, k ≠ c → (a.vch k).Alike (b.vch k)
  count : b.vlv.ch.length = a.vlv.ch.length
  within : Mod.Within as ws a b

section
variable {c : Nat} {as : List Area} {ws : List Nat} {a b d m : Mod}

theorem Mod.AtCh.trans (h : Mod.AtCh c as ws a b) (k : Mod.AtCh c as ws b d) : Mod.AtCh c as ws a d :=
  ⟨fun x hx => (h.others x hx).trans (k.others x hx), k.count.trans h.count, h.within.trans k.within⟩

/-- A change that keeps every channel. -/
theorem Mod.AtCh.of_within (hvlv : b.vlv = a.vlv) (h : Mod.Within as ws a b) : Mod.AtCh c as ws a b :=
  ⟨fun k _ => by rw [Mod.vch_congr hvlv]; exact .refl _, by rw [hvlv], h⟩

theorem Mod.AtCh.inc (m : Mod) (q : Param) (i n j : Nat) (h : q.addr i j ∈ ws) : Mod.AtCh c as ws m (m.inc q i n j) :=
  .of_within (Mod.inc_vlv m q i n j) (.inc m q i n j h)

theorem Mod.Within.setVch (m : Mod) (c : Nat) (f : VCh → VCh) (h : Area.vlv ∈ as) : Mod.Within as ws m (m.setVch c f) := .ofVlv m _ h

theorem Mod.AtCh.setVch (m : Mod) (c : Nat) (f : VCh → VCh) (h : Area.vlv ∈ as) : Mod.AtCh c as ws m (m.setVch c f) :=
  ⟨fun _ hk => by rw [Mod.vch_setVch_ne m hk]; exact .refl _, List.length_modify _ _ _, .setVch m c f h⟩

/-! ### The bank's stage (R210, R216) -/

theorem Mod.alike_setVch (m : Mod) (k : Nat) {f : VCh → VCh} (hf : ∀ v : VCh, v.Alike (f v)) (c : Nat) : (m.vch c).Alike ((m.setVch k f).vch c) := by
  by_cases hck : c = k
  · subst hck
    rcases Nat.lt_or_ge c m.vlv.ch.length with hlt | hge
    · rw [Mod.vch_setVch hlt]
      exact hf _
    · rw [Mod.setVch_of_beyond hge]
      exact .refl _
  · rw [Mod.vch_setVch_ne m hck]
    exact .refl _

theorem Mod.alike_foldl_setVch {f : VCh → VCh} (hf : ∀ v : VCh, v.Alike (f v)) (l : List Nat) (m : Mod) (c : Nat) :
    (m.vch c).Alike ((l.foldl (fun m x => m.setVch x f) m).vch c) := by
  induction l generalizing m with
  | nil => exact .refl _
  | cons k l ih => exact (m.alike_setVch k hf c).trans (ih (m.setVch k f))

theorem Mod.length_foldl_setVch (f : VCh → VCh) (l : List Nat) (m : Mod) :
    (l.foldl (fun m x => m.setVch x f) m).vlv.ch.length = m.vlv.ch.length := by
  induction l generalizing m with
  | nil => rfl
  | cons k l ih => exact (ih (m.setVch k f)).trans (List.length_modify _ _ _)

/-- What the stage shows a channel of its bank. -/
def VCh.seesStage (hi : Bool) (duty : Nat × Nat) (v : VCh) : VCh :=
  { v with hiSeen := v.hiSeen || hi, duty := if v.phase = .hsRise then duty else v.duty }

theorem Mod.setHi_eq (m : Mod) (b : Nat) (hi : Bool) (duty : Nat × Nat) : m.setHi b hi duty
    = (bankChannels b).foldl (fun m x => m.setVch x (VCh.seesStage hi duty)) { m with vlv := { m.vlv with bankHi := m.vlv.bankHi.set b hi } } := rfl

/-- A stage that goes to HI or leaves it shows that to its channels, and changes nothing else of them. -/
theorem Mod.alike_setHi (m : Mod) (b : Nat) (hi : Bool) (duty : Nat × Nat) (c : Nat) : (m.vch c).Alike ((m.setHi b hi duty).vch c) := by
  rw [Mod.setHi_eq]
  exact Mod.alike_foldl_setVch (fun v => ⟨_, _, rfl⟩) (bankChannels b) { m with vlv := { m.vlv with bankHi := m.vlv.bankHi.set b hi } } c

theorem Mod.AtCh.setHi (m : Mod) (b : Nat) (hi : Bool) (duty : Nat × Nat) (h : Area.vlv ∈ as) : Mod.AtCh c as ws m (m.setHi b hi duty) :=
  ⟨fun k _ => m.alike_setHi b hi duty k, Mod.length_foldl_setVch _ _ _, (Mod.Within.ofVlv m _ h).trans (.foldl (fun x k => .setVch x k _ h) _ _)⟩

/-! ### What ends before a profile begins (R217, R221, R222, R226) -/

theorem Mod.AtCh.closeSample (m : Mod) (c : Nat) (h : Area.vlv ∈ as) (hw : P.vlvDetNone.addr ∈ ws) : Mod.AtCh c as ws m (m.closeSample c) := by
  unfold Mod.closeSample
  split
  · exact (Mod.AtCh.inc m P.vlvDetNone 0 1 0 hw).trans (.setVch _ c _ h)
  · exact .of_within rfl (.refl m)

theorem Mod.vch_closeSample (h : c < m.vlv.ch.length) : ∃ judged arr, (m.closeSample c).vch c = { m.vch c with judged := judged, arr := arr } := by
  unfold Mod.closeSample
  split
  · exact ⟨true, none, Mod.vch_setVch (m := m.inc P.vlvDetNone) h _⟩
  · exact ⟨_, _, rfl⟩

/-- A profile without an arrival sample, or whose sample a restart takes away, is counted (R217, R221). -/
theorem Mod.closeSample_of_open (hphase : (m.vch c).phase ≠ .idle) (hopen : (m.vch c).judged = false ∨ (m.vch c).arr ≠ none) :
    m.closeSample c = (m.inc P.vlvDetNone).setVch c (fun v => { v with judged := true, arr := none }) := by
  have hcond : ((m.vch c).phase ≠ .idle && (!(m.vch c).judged || (m.vch c).arr.isSome)) = true := by
    rcases hopen with h | h
    · simp [hphase, h]
    · simp [hphase, Option.isSome_iff_ne_none.2 h]
  exact if_pos hcond

/-- Measured delays that come into force change nothing else of the channel. -/
theorem VCh.settled_eq (now : Nat) (v : VCh) : ∃ l d dhs, v.settled now = { v with pend := l, dMeas := d, dhsMeas := dhs } := by
  have hfold : ∀ (l : List (Bool × Nat × Option Nat)) (u : VCh), ∃ d dhs,
      l.foldl (fun v p => if p.1 then { v with dMeas := some p.2.1 } else { v with dhsMeas := some p.2.1 }) u
        = { u with dMeas := d, dhsMeas := dhs } := by
    intro l
    induction l with
    | nil => exact fun u => ⟨_, _, rfl⟩
    | cons x l ih =>
      intro u
      obtain ⟨d, dhs, hrest⟩ := ih (if x.1 then { u with dMeas := some x.2.1 } else { u with dhsMeas := some x.2.1 })
      refine ⟨d, dhs, hrest.trans ?_⟩
      cases x.1 <;> rfl
  obtain ⟨d, dhs, h⟩ := hfold _ _
  exact ⟨_, d, dhs, h⟩

/-- Once the delays in force are taken up, what is left is the raising of their events. -/
theorem Mod.settleDelays_evented (m : Mod) (c : Nat) : Evented (m.setVch c (fun _ => (m.vch c).settled m.now)) (m.settleDelays c) := by
  unfold Mod.settleDelays
  extract_lets v w m1 m2
  have hfirst : Evented m1 m2 := by
    unfold m2
    split
    · exact .raise _ _ _ _
    · exact .refl _
  split
  · exact hfirst.trans (.raise _ _ _ _)
  · exact hfirst

theorem Mod.AtCh.settleDelays (m : Mod) (c : Nat) (h : Area.vlv ∈ as) : Mod.AtCh c as ws m (m.settleDelays c) :=
  (Mod.AtCh.setVch m c _ h).trans (.of_within (m.settleDelays_evented c).vlv (.of_evented (m.settleDelays_evented c)))

theorem Mod.vch_settleDelays (h : c < m.vlv.ch.length) : (m.settleDelays c).vch c = (m.vch c).settled m.now :=
  (Mod.vch_congr (m.settleDelays_evented c).vlv c).trans (Mod.vch_setVch h _)

/-- The measured hold phase of fewer samples corrects nothing. -/
theorem Mod.holdEnds_of_short {last : List CoilSmp} (h : last.length ≠ 500) : m.holdEnds c last = m := by
  have hnone : m.coilMeasured c last = m := by simp [Mod.coilMeasured, h]
  unfold Mod.holdEnds
  rw [hnone, ite_self]

/-- A hold phase that ends changes at most its channel's temperature, with its band. -/
theorem Mod.holdEnds_cases (m : Mod) (c : Nat) (last : List CoilSmp) : m.holdEnds c last = m ∨ ∃ tc, m.holdEnds c last = m.setCoil c tc := by
  unfold Mod.holdEnds
  extract_lets v
  split
  · unfold Mod.coilMeasured
    extract_lets k rho i
    split
    · exact .inl rfl
    · exact .inr ⟨_, rfl⟩
  · exact .inl rfl

theorem Mod.AtCh.holdEnds (m : Mod) (c : Nat) (last : List CoilSmp) (h : Area.vlv ∈ as) : Mod.AtCh c as ws m (m.holdEnds c last) := by
  rcases m.holdEnds_cases c last with hsame | ⟨tc, hset⟩
  · rw [hsame]
    exact .of_within rfl (.refl m)
  · rw [hset]
    exact .setVch m c _ h

theorem Mod.vch_holdEnds (h : c < m.vlv.ch.length) (last : List CoilSmp) :
    ∃ tc band, (m.holdEnds c last).vch c = { m.vch c with tc := tc, band := band } := by
  rcases m.holdEnds_cases c last with hsame | ⟨tc, hset⟩
  · exact ⟨(m.vch c).tc, (m.vch c).band, by rw [hsame]⟩
  · exact ⟨tc, m.bandOf (m.vch c).band tc, by rw [hset]; exact Mod.vch_setVch h _⟩

end

/-! ### The profile that begins (R212, R217, R227) -/

/-- A channel as its driver begins a pulse's profile on it: what is its own stays, and the band in force is latched. -/
structure VCh.Begun (v w : VCh) (hs : Bool) (now off : Nat) : Prop where
  phase : w.phase = if hs then .hsRise else .boost
  energised : w.energised = true
  opened : w.opened = false
  start : w.start = now
  off : w.off = off
  band : w.band = v.band
  pband : w.pband = v.band
  tc : w.tc = v.tc
  cut : w.cut = none
  restarted : w.restarted = v.energised
  judged : w.judged = false
  arr : w.arr = none
  d : w.d = v.d
  dhs : w.dhs = v.dhs

theorem VCh.Begun.alike {v w u : VCh} {hs : Bool} {now off : Nat} (h : VCh.Begun v w hs now off) (k : w.Alike u) : VCh.Begun v u hs now off := by
  obtain ⟨_, _, rfl⟩ := k
  exact ⟨h.phase, h.energised, h.opened, h.start, h.off, h.band, h.pband, h.tc, h.cut, h.restarted, h.judged, h.arr, h.d, h.dhs⟩

/-- The channel's record as a pulse's profile begins. -/
def Mod.profile (m : Mod) (p : EPulse) (rail : Nat × Nat) (v : VCh) : VCh :=
  { v.released m.now with
    phase := if p.hs then .hsRise else .boost, pband := v.band, start := m.now, off := m.releaseOf p, ids := [p.id], hs := p.hs,
    restarted := (m.vch p.ch).energised, cut := none, judged := false, arr := none, minHold := false, holdMa := 0, chopNs := 0, chopKey := 0,
    duty := if p.hs && m.vlv.bankHi.getD (bankOf p.ch) false then rail else (1, 1),
    hiSeen := false, holdAt := 0, opened := false, energised := true }

/-- The profile stands on its channel, and a boost has its bank's stage. -/
def Mod.profiled (m : Mod) (p : EPulse) (rail : Nat × Nat) (f : VCh → VCh) : Mod :=
  let m1 := (m.settleDelays p.ch).setVch p.ch f
  if p.hs then m1 else (m1.setHi (bankOf p.ch) true rail).inc P.vlvBoosts

theorem Mod.driveStart_eq (m : Mod) (p : EPulse) (rail : Nat × Nat) : m.driveStart p rail
    = (((m.closeSample p.ch).profiled p rail (m.profile p rail)).inc P.vlvPulses).inc P.vlvChPulses p.ch := rfl

section
variable {as : List Area} {ws : List Nat} {m : Mod} {p : EPulse} {rail : Nat × Nat}

theorem Mod.AtCh.profiled (m : Mod) (p : EPulse) (rail : Nat × Nat) (f : VCh → VCh) (h : Area.vlv ∈ as) (hw : P.vlvBoosts.addr ∈ ws) :
    Mod.AtCh p.ch as ws m (m.profiled p rail f) := by
  have hset : Mod.AtCh p.ch as ws m ((m.settleDelays p.ch).setVch p.ch f) := (Mod.AtCh.settleDelays m p.ch h).trans (.setVch _ _ _ h)
  unfold Mod.profiled
  extract_lets m1
  split
  · exact hset
  · exact (hset.trans (.setHi m1 (bankOf p.ch) true rail h)).trans (.inc _ P.vlvBoosts 0 1 0 hw)

theorem Mod.vch_profiled (h : p.ch < m.vlv.ch.length) (f : VCh → VCh) :
    (f ((m.vch p.ch).settled m.now)).Alike ((m.profiled p rail f).vch p.ch) := by
  have hlen : p.ch < (m.settleDelays p.ch).vlv.ch.length := by rwa [(Mod.AtCh.settleDelays (as := [.vlv]) (ws := []) m p.ch (by simp)).count]
  have hset : ((m.settleDelays p.ch).setVch p.ch f).vch p.ch = f ((m.vch p.ch).settled m.now) := by
    rw [Mod.vch_setVch hlen, Mod.vch_settleDelays h]
  unfold Mod.profiled
  extract_lets m1
  rw [← hset]
  split
  · exact .refl _
  · rw [Mod.vch_congr (Mod.inc_vlv (m1.setHi (bankOf p.ch) true rail) P.vlvBoosts 0 1 0)]
    exact Mod.alike_setHi m1 (bankOf p.ch) true rail p.ch

theorem Mod.AtCh.driveStart (m : Mod) (p : EPulse) (rail : Nat × Nat) (h : Area.vlv ∈ as)
    (hw : [P.vlvDetNone.addr, P.vlvBoosts.addr, P.vlvPulses.addr, P.vlvChPulses.addr p.ch] ⊆ ws) : Mod.AtCh p.ch as ws m (m.driveStart p rail) := by
  rw [Mod.driveStart_eq]
  exact (((Mod.AtCh.closeSample m p.ch h (hw (by simp))).trans (.profiled _ p rail (m.profile p rail) h (hw (by simp)))).trans
    (.inc _ P.vlvPulses 0 1 0 (hw (by simp)))).trans (.inc _ P.vlvChPulses p.ch 1 0 (hw (by simp)))

theorem Mod.begun_driveStart (h : p.ch < m.vlv.ch.length) :
    VCh.Begun (m.vch p.ch) ((m.driveStart p rail).vch p.ch) p.hs m.now (m.releaseOf p) := by
  have hlen : p.ch < (m.closeSample p.ch).vlv.ch.length := by
    rwa [(Mod.AtCh.closeSample (as := [.vlv]) (ws := [P.vlvDetNone.addr]) m p.ch (by simp) (by simp)).count]
  obtain ⟨judged, arr, hclosed⟩ := Mod.vch_closeSample h
  obtain ⟨l, d, dhs, hsettled⟩ := VCh.settled_eq (m.closeSample p.ch).now ((m.closeSample p.ch).vch p.ch)
  have hprofile : VCh.Begun (m.vch p.ch) (m.profile p rail (((m.closeSample p.ch).vch p.ch).settled (m.closeSample p.ch).now)) p.hs m.now
      (m.releaseOf p) := by
    rw [hsettled, hclosed]
    exact ⟨rfl, rfl, rfl, rfl, rfl, rfl, rfl, rfl, rfl, rfl, rfl, rfl, rfl, rfl⟩
  rw [Mod.driveStart_eq, Mod.vch_congr (Mod.inc_vlv _ P.vlvChPulses p.ch 1 0), Mod.vch_congr (Mod.inc_vlv _ P.vlvPulses 0 1 0)]
  exact hprofile.alike (Mod.vch_profiled hlen (m.profile p rail))

end

end Sys2Proof.Machine
end

section
/-!
PROOFS. The statements of 08_ejection_scheduling.md: a pulse at its start, on a channel at rest and on one that runs; and the statement O39.
-/
namespace Sys2Proof.Machine

/-! ### What a start is made of (R197, R200, R202, R207) -/

/-- A pulse that starts at `now`. -/
def EPulse.startedAt (p : EPulse) (now : Nat) : EPulse := { p with started := some now, shift := now - p.own }

/-- The pulse that runs on a channel gives way to a restart (R202). -/
def Mod.givesWay (m : Mod) (c : Nat) (last : List CoilSmp) : Mod :=
  match m.runningOn c with
  | some old => (((m.firePulse old).inc P.ejRestarts).raise 66 0x0404 (leBytes 2 c)).holdEnds c last
  | none => m

/-- The pulse is marked as started, and the driver begins its profile. -/
def Mod.driven (m : Mod) (p : EPulse) (rail : Nat × Nat) : Mod :=
  (m.setPulse p.id (fun _ => p.startedAt m.now)).driveStart (p.startedAt m.now) rail

/-- The plan's record of a started pulse's lateness. -/
def Mod.noteLate (m : Mod) (p : EPulse) : Mod := m.setPlan p.serial (fun q => { q with shiftMax := Nat.max q.shiftMax (p.lateness / 1000) })

/-- The engine's counts of a started pulse, but for EJ_PULSES. -/
def Mod.countStart (m : Mod) (p : EPulse) : Mod :=
  let m1 := m.inc P.ejHoldStarts 0 (bit p.hs)
  let m2 := m1.peak P.ejEnergisedPeak (m1.allEnergised 384)
  if p.shift ≠ 0 then (m2.inc P.ejShifted).flag P.ejFlags 1 else m2

/-- A pulse starts on a channel on which none runs any more. -/
def Mod.begins (m : Mod) (p : EPulse) (rail : Nat × Nat) : Mod :=
  (((m.driven p rail).noteLate (p.startedAt m.now)).inc P.ejPulses).countStart (p.startedAt m.now)

theorem Mod.startPulse_eq (m : Mod) (p : EPulse) (rail : Nat × Nat) (last : List CoilSmp) :
    m.startPulse p rail last = ((m.noteWait p).givesWay p.ch last).begins p rail := rfl

/-- The words of the driver's counts as a profile begins. -/
def driveWords (c : Nat) : List Nat := [P.vlvDetNone.addr, P.vlvBoosts.addr, P.vlvPulses.addr, P.vlvChPulses.addr c]

/-- The words of the engine's other counts of a start. -/
def countWords : List Nat := [P.ejHoldStarts.addr, P.ejEnergisedPeak.addr, P.ejShifted.addr, P.ejFlags.addr]

section
variable {as : List Area} {ws : List Nat} {m : Mod} {p : EPulse} {rail : Nat × Nat}

theorem Mod.Within.countStart (m : Mod) (p : EPulse) (hw : countWords ⊆ ws) : Mod.Within as ws m (m.countStart p) := by
  have hcount : Mod.Within as ws m
      ((m.inc P.ejHoldStarts 0 (bit p.hs)).peak P.ejEnergisedPeak ((m.inc P.ejHoldStarts 0 (bit p.hs)).allEnergised 384)) :=
    (Mod.Within.inc m _ _ _ _ (hw (by simp [countWords]))).trans (.peak _ _ _ _ (hw (by simp [countWords])))
  unfold Mod.countStart
  extract_lets m1 m2
  split
  · exact (hcount.trans (.inc m2 P.ejShifted 0 1 0 (hw (by simp [countWords])))).trans (.flag _ P.ejFlags 1 0 (hw (by simp [countWords])))
  · exact hcount

theorem Mod.countStart_vlv (m : Mod) (p : EPulse) : (m.countStart p).vlv = m.vlv :=
  (Mod.Within.countStart (as := []) m p (List.Subset.refl _)).areas .vlv (by simp)

theorem Mod.countStart_ej (m : Mod) (p : EPulse) : (m.countStart p).ej = m.ej :=
  (Mod.Within.countStart (as := []) m p (List.Subset.refl _)).areas .ej (by simp)

/-- A start is a change of the schedule, of one channel, of the piece's plan and of the counts. -/
theorem Mod.AtCh.begins (m : Mod) (p : EPulse) (rail : Nat × Nat) (hej : Area.ej ∈ as) (hvlv : Area.vlv ∈ as) (htrk : Area.trk ∈ as)
    (hw : driveWords p.ch ++ P.ejPulses.addr :: countWords ⊆ ws) : Mod.AtCh p.ch as ws m (m.begins p rail) := by
  have hdriven : Mod.AtCh p.ch as ws m (m.driven p rail) :=
    have hset : Mod.AtCh p.ch as ws m (m.setPulse p.id (fun _ => p.startedAt m.now)) :=
      .of_within (Mod.setPulse_vlv m p.id _) (.setPulse m p.id _ hej)
    hset.trans (Mod.AtCh.driveStart _ (p.startedAt m.now) rail hvlv fun _ hx => hw (List.mem_append_left _ hx))
  have hnoted : Mod.AtCh p.ch as ws m ((m.driven p rail).noteLate (p.startedAt m.now)) :=
    hdriven.trans (.of_within (Mod.setPlan_vlv _ _ _) (.setPlan _ _ _ htrk))
  exact (hnoted.trans (.inc _ P.ejPulses 0 1 0 (hw (by simp)))).trans
    (.of_within (Mod.countStart_vlv _ _) (.countStart _ _ fun _ hx => hw (by simp [hx])))

theorem Mod.driven_ej (m : Mod) (p : EPulse) (rail : Nat × Nat) :
    (m.driven p rail).ej = (m.setPulse p.id (fun _ => p.startedAt m.now)).ej :=
  (Mod.AtCh.driveStart (as := [.vlv]) (m.setPulse p.id (fun _ => p.startedAt m.now)) (p.startedAt m.now) rail (by simp)
    (List.Subset.refl _)).within.areas .ej (by simp)

theorem Mod.begins_ej (m : Mod) (p : EPulse) (rail : Nat × Nat) :
    (m.begins p rail).ej = (m.setPulse p.id (fun _ => p.startedAt m.now)).ej := by
  rw [Mod.begins, Mod.countStart_ej, Mod.inc_ej, Mod.noteLate, Mod.setPlan_ej, Mod.driven_ej]

theorem Mod.begins_vlv (m : Mod) (p : EPulse) (rail : Nat × Nat) : (m.begins p rail).vlv = (m.driven p rail).vlv := by
  rw [Mod.begins, Mod.countStart_vlv, Mod.inc_vlv, Mod.noteLate, Mod.setPlan_vlv]

/-- A started pulse's release is a matter of the schedule alone. -/
theorem Mod.releaseOf_of_started {a b : Mod} {q : EPulse} (h : b.ej = a.ej) (hq : q.started.isSome = true) : b.releaseOf q = a.releaseOf q := by
  simp only [Mod.releaseOf, Mod.followers, Mod.shiftOf, h, hq, if_true]

theorem Mod.begun_begins (h : p.ch < m.vlv.ch.length) : VCh.Begun (m.vch p.ch) ((m.begins p rail).vch p.ch) p.hs m.now
    ((m.begins p rail).releaseOf (p.startedAt m.now)) := by
  have hoff : (m.begins p rail).releaseOf (p.startedAt m.now) = (m.setPulse p.id (fun _ => p.startedAt m.now)).releaseOf (p.startedAt m.now) :=
    Mod.releaseOf_of_started (m.begins_ej p rail) rfl
  rw [Mod.vch_congr (m.begins_vlv p rail), hoff]
  exact Mod.begun_driveStart (m := m.setPulse p.id (fun _ => p.startedAt m.now)) (p := p.startedAt m.now) h

/-! ### The counts of a start (R207, R217) -/

/-- A start counts one pulse, in the engine, in the drivers and on its channel. -/
theorem Mod.rd_begins (hwf : Store.wf m.regs = true) (hch : p.ch < 384) : (m.begins p rail).rd P.ejPulses = (m.rd P.ejPulses + 1) % 2 ^ 32
    ∧ (m.begins p rail).rd P.vlvPulses = (m.rd P.vlvPulses + 1) % 2 ^ 32
    ∧ (m.begins p rail).rd P.vlvChPulses p.ch = (m.rd P.vlvChPulses p.ch + 1) % 2 ^ 32 := by
  let x := m.setPulse p.id (fun _ => p.startedAt m.now)
  let y := (x.closeSample p.ch).profiled (p.startedAt m.now) rail (x.profile (p.startedAt m.now) rail)
  let z := (m.driven p rail).noteLate (p.startedAt m.now)
  have hy : ∀ ws, [P.vlvDetNone.addr, P.vlvBoosts.addr] ⊆ ws → Mod.Within [.ej, .vlv, .trk] ws m y := fun ws hw =>
    ((Mod.Within.setPulse m p.id _ (by simp)).trans (Mod.AtCh.closeSample x p.ch (by simp) (hw (by simp))).within).trans
      (Mod.AtCh.profiled _ (p.startedAt m.now) rail _ (by simp) (hw (by simp))).within
  have hz : ∀ ws, Mod.Within [.ej, .vlv, .trk] ws ((y.inc P.vlvPulses).inc P.vlvChPulses p.ch) z := fun ws =>
    .setPlan (m.driven p rail) _ _ (by simp)
  have hend : ∀ ws, countWords ⊆ ws → Mod.Within [.ej, .vlv, .trk] ws (z.inc P.ejPulses) (m.begins p rail) := fun ws hw =>
    .countStart _ (p.startedAt m.now) hw
  have hlast : ∀ ws, P.ejPulses.addr :: countWords ⊆ ws →
      Mod.Within [.ej, .vlv, .trk] ws ((y.inc P.vlvPulses).inc P.vlvChPulses p.ch) (m.begins p rail) := fun ws hw =>
    ((hz ws).trans (.inc z P.ejPulses 0 1 0 (hw (by simp)))).trans (hend ws fun _ hx => hw (by simp [hx]))
  refine ⟨?engine, ?drivers, ?channel⟩
  case engine =>
    have hcounted : Mod.Within [.ej, .vlv, .trk] (driveWords p.ch) m z :=
      (((hy _ (by simp [driveWords])).trans (.inc y P.vlvPulses 0 1 0 (by simp [driveWords]))).trans
        (.inc _ P.vlvChPulses p.ch 1 0 (by simp [driveWords]))).trans (hz _)
    refine hcounted.rd_counted (hend countWords (List.Subset.refl _)) hwf rfl ?_ (by decide) (by decide)
    simp [driveWords, Param.addr, P.ejPulses, P.vlvDetNone, P.vlvBoosts, P.vlvPulses, P.vlvChPulses]
    omega
  case drivers =>
    have hafter : Mod.Within [.ej, .vlv, .trk] (P.vlvChPulses.addr p.ch :: P.ejPulses.addr :: countWords) (y.inc P.vlvPulses) (m.begins p rail) :=
      (Mod.Within.inc _ P.vlvChPulses p.ch 1 0 (by simp)).trans (hlast _ (by simp))
    refine (hy _ (List.Subset.refl _)).rd_counted hafter hwf rfl (by decide) ?_ (by decide)
    simp [countWords, Param.addr, P.vlvPulses, P.vlvChPulses, P.ejPulses, P.ejHoldStarts, P.ejEnergisedPeak, P.ejShifted, P.ejFlags]
    omega
  case channel =>
    have hcounted : Mod.Within [.ej, .vlv, .trk] [P.vlvDetNone.addr, P.vlvBoosts.addr, P.vlvPulses.addr] m (y.inc P.vlvPulses) :=
      (hy _ (by simp)).trans (.inc y P.vlvPulses 0 1 0 (by simp))
    refine hcounted.rd_counted (hlast _ (List.Subset.refl _)) hwf rfl ?_ ?_ ?_ <;>
      simp [countWords, Param.addr, P.vlvPulses, P.vlvChPulses, P.vlvDetNone, P.vlvBoosts, P.ejPulses, P.ejHoldStarts, P.ejEnergisedPeak,
        P.ejShifted, P.ejFlags, P.loopFlags] <;> omega

/-- A restart counts the profile whose sample it takes away. -/
theorem Mod.rd_begins_detNone (hwf : Store.wf m.regs = true) (hphase : (m.vch p.ch).phase ≠ .idle)
    (hopen : (m.vch p.ch).judged = false ∨ (m.vch p.ch).arr ≠ none) :
    (m.begins p rail).rd P.vlvDetNone = (m.rd P.vlvDetNone + 1) % 2 ^ 32 := by
  let x := m.setPulse p.id (fun _ => p.startedAt m.now)
  let ws := [P.vlvBoosts.addr, P.vlvPulses.addr, P.vlvChPulses.addr p.ch] ++ P.ejPulses.addr :: countWords
  have hclosed : Mod.Within [.vlv, .trk] ws (x.inc P.vlvDetNone) (x.closeSample p.ch) := by
    rw [Mod.closeSample_of_open (m := x) hphase hopen]
    exact .setVch _ p.ch _ (by simp)
  have hdriven : Mod.Within [.vlv, .trk] ws (x.inc P.vlvDetNone) (m.driven p rail) :=
    ((hclosed.trans (Mod.AtCh.profiled _ (p.startedAt m.now) rail _ (by simp) (by simp [ws])).within).trans
      (.inc _ P.vlvPulses 0 1 0 (by simp [ws]))).trans (.inc _ P.vlvChPulses p.ch 1 0 (by simp [ws]))
  have hrest : Mod.Within [.vlv, .trk] ws (x.inc P.vlvDetNone) (m.begins p rail) :=
    ((hdriven.trans (.setPlan (m.driven p rail) _ _ (by simp))).trans (.inc _ P.ejPulses 0 1 0 (by simp [ws]))).trans
      (.countStart _ (p.startedAt m.now) fun _ hx => by simp [ws, hx])
  have hset : Mod.Within [.ej] [] m x := .setPulse m p.id _ (by simp)
  refine hset.rd_counted hrest hwf rfl (by simp) ?_ (by decide)
  simp [ws, countWords, Param.addr, P.vlvDetNone, P.vlvBoosts, P.vlvPulses, P.vlvChPulses, P.ejPulses, P.ejHoldStarts, P.ejEnergisedPeak,
    P.ejShifted, P.ejFlags]
  omega

/-! ### The pulse that a restart supersedes (R202) -/

theorem Mod.Within.noteFired (m : Mod) (q : EPulse) (late moved : Nat) (hej : Area.ej ∈ as) (htrk : Area.trk ∈ as) (hw : P.ejShiftMax.addr ∈ ws) :
    Mod.Within as ws m (m.noteFired q late moved) :=
  ((Mod.Within.dropPulse m q.id hej).trans (.setPlan _ q.serial _ htrk)).trans (.peak _ P.ejShiftMax _ 0 hw)

/-- A pulse without any merged into it is fired alone. -/
theorem Mod.firePulse_of_alone {q : EPulse} (h : m.followers q.id = []) :
    m.firePulse q = m.noteFired q q.lateness (m.releaseOf q - q.off) := by
  unfold Mod.firePulse
  rw [h]
  rfl

theorem Mod.givesWay_of_none {c : Nat} (h : m.runningOn c = none) (last : List CoilSmp) : m.givesWay c last = m := by
  unfold Mod.givesWay
  rw [h]

/-- The superseded pulse has been fired, and the restart counted. -/
def Mod.restarts (m : Mod) (old : EPulse) (c : Nat) : Mod :=
  ((m.noteFired old old.lateness (m.releaseOf old - old.off)).inc P.ejRestarts).raise 66 0x0404 (leBytes 2 c)

theorem Mod.givesWay_of_running {c : Nat} {old : EPulse} (h : m.runningOn c = some old) (halone : m.followers old.id = []) (last : List CoilSmp) :
    m.givesWay c last = (m.restarts old c).holdEnds c last := by
  unfold Mod.givesWay
  rw [h]
  exact congrArg (fun x : Mod => ((x.inc P.ejRestarts).raise 66 0x0404 (leBytes 2 c)).holdEnds c last) (Mod.firePulse_of_alone halone)

theorem Mod.Within.restarts (m : Mod) (old : EPulse) (c : Nat) (hej : Area.ej ∈ as) (htrk : Area.trk ∈ as)
    (hw : [P.ejShiftMax.addr, P.ejRestarts.addr] ⊆ ws) : Mod.Within as ws m (m.restarts old c) :=
  ((Mod.Within.noteFired m old _ _ hej htrk (hw (by simp))).trans (.inc _ P.ejRestarts 0 1 0 (hw (by simp)))).trans (.raise _ _ _ _)

theorem Mod.restarts_vlv (m : Mod) (old : EPulse) (c : Nat) : (m.restarts old c).vlv = m.vlv := by
  rw [Mod.restarts, Mod.raise_vlv, Mod.inc_vlv, Mod.noteFired, Mod.peak_vlv, Mod.setPlan_vlv, Mod.dropPulse_vlv]

theorem Mod.restarts_ej (m : Mod) (old : EPulse) (c : Nat) : (m.restarts old c).ej = (m.dropPulse old.id).ej := by
  rw [Mod.restarts, Mod.raise_ej, Mod.inc_ej, Mod.noteFired, Mod.peak_ej, Mod.setPlan_ej]

theorem Mod.holdEnds_ej (m : Mod) (c : Nat) (last : List CoilSmp) : (m.holdEnds c last).ej = m.ej :=
  (Mod.AtCh.holdEnds (as := [.vlv]) (ws := []) m c last (by simp)).within.areas .ej (by simp)

/-- The module as a restart of `old`'s channel finds it: the wait has ended, the pulse that ran is fired, and its hold phase ends. -/
def Mod.clearedFor (m : Mod) (p old : EPulse) (last : List CoilSmp) : Mod := ((m.noteWait p).restarts old p.ch).holdEnds p.ch last

theorem Mod.clearedFor_ej (m : Mod) (p old : EPulse) (last : List CoilSmp) : (m.clearedFor p old last).ej = (m.dropPulse old.id).ej := by
  rw [Mod.clearedFor, Mod.holdEnds_ej, Mod.restarts_ej]
  simp only [Mod.dropPulse, Mod.noteWait_ej]

theorem Mod.AtCh.clearedFor (m : Mod) (p old : EPulse) (last : List CoilSmp) (hej : Area.ej ∈ as) (hvlv : Area.vlv ∈ as) (htrk : Area.trk ∈ as)
    (hw : [P.ejBankWaitMax.addr (bankOf p.ch), P.ejShiftMax.addr, P.ejRestarts.addr] ⊆ ws) :
    Mod.AtCh p.ch as ws m (m.clearedFor p old last) := by
  have hwait : Mod.AtCh p.ch as ws m (m.noteWait p) := .of_within (Mod.noteWait_vlv m p) (.noteWait m p (hw (by simp)))
  exact (hwait.trans (.of_within (Mod.restarts_vlv _ old p.ch) (.restarts _ old p.ch hej htrk fun _ hx => hw (List.mem_cons_of_mem _ hx)))).trans
    (.holdEnds _ p.ch last hvlv)

/-- Of the channel's record only the temperature and the band may change, and neither where the hold phase was too short. -/
theorem Mod.vch_clearedFor (h : p.ch < m.vlv.ch.length) (old : EPulse) (last : List CoilSmp) :
    ∃ tc band, (m.clearedFor p old last).vch p.ch = { m.vch p.ch with tc := tc, band := band }
      ∧ (last.length ≠ 500 → tc = (m.vch p.ch).tc ∧ band = (m.vch p.ch).band) := by
  let y := (m.noteWait p).restarts old p.ch
  have hvlv : y.vlv = m.vlv := (Mod.restarts_vlv _ old p.ch).trans (Mod.noteWait_vlv m p)
  have hvch : y.vch p.ch = m.vch p.ch := Mod.vch_congr hvlv p.ch
  by_cases hlast : last.length = 500
  · obtain ⟨tc, band, hended⟩ := Mod.vch_holdEnds (m := y) (by rw [hvlv]; exact h) last
    exact ⟨tc, band, hended.trans (by rw [hvch]), fun hne => absurd hlast hne⟩
  · have hsame : m.clearedFor p old last = y := Mod.holdEnds_of_short hlast
    exact ⟨_, _, by rw [hsame, hvch], fun _ => ⟨rfl, rfl⟩⟩

/-- A restart is counted, and so is the profile whose sample it takes away. -/
theorem Mod.rd_clearedFor_begins (hwf : Store.wf m.regs = true) (hch : p.ch < 384) (hlen : p.ch < m.vlv.ch.length) (old : EPulse)
    (last : List CoilSmp) (hphase : (m.vch p.ch).phase ≠ .idle) (hopen : (m.vch p.ch).judged = false ∨ (m.vch p.ch).arr ≠ none) :
    ((m.clearedFor p old last).begins p rail).rd P.vlvDetNone = (m.rd P.vlvDetNone + 1) % 2 ^ 32
    ∧ ((m.clearedFor p old last).begins p rail).rd P.ejRestarts = (m.rd P.ejRestarts + 1) % 2 ^ 32 := by
  have hbank := bankOf_lt p.ch
  constructor
  · have hcleared := (Mod.AtCh.clearedFor m p old last (by simp : Area.ej ∈ [.ej, .vlv, .trk]) (by simp) (by simp) (List.Subset.refl _)).within
    obtain ⟨tc, band, hvch, -⟩ := Mod.vch_clearedFor hlen old last
    rw [Mod.rd_begins_detNone (hcleared.wf hwf) (by rw [hvch]; exact hphase) (by rw [hvch]; exact hopen), hcleared.rd_eq hwf _ (by decide)]
    simp [Param.addr, P.vlvDetNone, P.ejBankWaitMax, P.ejShiftMax, P.ejRestarts]
    omega
  · let late := (m.noteWait p).noteFired old old.lateness ((m.noteWait p).releaseOf old - old.off)
    have hfired : Mod.Within [.ej, .vlv, .trk] [P.ejBankWaitMax.addr (bankOf p.ch), P.ejShiftMax.addr] m late :=
      (Mod.Within.noteWait m p (by simp)).trans (.noteFired _ old _ _ (by simp) (by simp) (by simp))
    have hafter : Mod.Within [.ej, .vlv, .trk] (driveWords p.ch ++ P.ejPulses.addr :: countWords) (late.inc P.ejRestarts)
        ((m.clearedFor p old last).begins p rail) :=
      ((Mod.Within.raise _ 66 0x0404 (leBytes 2 p.ch)).trans (Mod.AtCh.holdEnds _ p.ch last (by simp)).within).trans
        (Mod.AtCh.begins _ p rail (by simp) (by simp) (by simp) (List.Subset.refl _)).within
    refine hfired.rd_counted hafter hwf rfl ?_ ?_ (by decide)
    · simp [Param.addr, P.ejRestarts, P.ejBankWaitMax, P.ejShiftMax]
      omega
    · simp [driveWords, countWords, Param.addr, P.ejRestarts, P.vlvDetNone, P.vlvBoosts, P.vlvPulses, P.vlvChPulses, P.ejPulses, P.ejHoldStarts,
        P.ejEnergisedPeak, P.ejShifted, P.ejFlags]
      omega

/-! ### The command's own conditions (R200) -/

theorem pulseStart_of_ready {serial ch : Nat} {last : List CoilSmp} (hp : m.pulse? serial ch = some p) (hstopped : m.ej.stopped = false)
    (hready : m.ready p = true) (hobstacle : m.obstacle p = 0) (hturn : m.mustYield p = false) (htick : m.now % 1000 = 0) :
    pulseStart serial ch false rail last m = m.startPulse p rail last := by
  have hready' := hready
  simp only [Mod.ready, Bool.and_eq_true, decide_eq_true_eq, Option.isNone_iff_eq_none] at hready'
  obtain ⟨⟨⟨⟨⟨hfirm, hinto⟩, hstarted⟩, hmode⟩, hdue⟩, -⟩ := hready'
  have hopen : (m.ej.stopped || !p.firm || p.into.isSome || p.started.isSome || m.now < p.planned || m.now % 1000 ≠ 0) = false := by
    simp [hstopped, hfirm, hinto, hstarted, hdue, htick]
  unfold pulseStart
  simp only [hp, hopen, hmode, hready, hobstacle, hturn]
  cases m.runningOn ch <;> simp

end

/-! ### The command -/

section
variable {s : State} {t serial ch : Nat} {p : EPulse} {rail : Nat × Nat} {last : List CoilSmp} {ws : List Nat} {x : Mod}

/-- A pulse starts on its channel once what the command does before has left the channel to it. -/
theorem pulseStart_yields (hmean : pulseStart serial ch false rail last (s.m.at t) = x.begins p rail)
    (hx : Mod.AtCh p.ch [.ej, .vlv, .trk] ws (s.m.at t) x) (hw : driveWords p.ch ++ P.ejPulses.addr :: countWords ⊆ ws)
    (hlen : p.ch < s.m.vlv.ch.length) : s.Yields (.pulseStart t serial ch false rail last) fun m' =>
      m'.ej = (x.setPulse p.id (fun _ => p.startedAt (s.m.at t).now)).ej
      ∧ VCh.Begun (x.vch p.ch) (m'.vch p.ch) p.hs (s.m.at t).now (m'.releaseOf (p.startedAt (s.m.at t).now))
      ∧ (∀ c, c ≠ p.ch → (s.m.vch c).Alike (m'.vch c))
      ∧ (∀ q i, q.addr i ≠ P.loopFlags.addr → m'.rd q i = (x.begins p rail).rd q i)
      ∧ Mod.Frame t [.ej, .vlv, .trk] ws s.m m' := by
  let f := pulseStart serial ch false rail last
  have hall : Mod.AtCh p.ch [.ej, .vlv, .trk] ws (s.m.at t) (f (s.m.at t)) := by
    rw [show f (s.m.at t) = _ from hmean]
    exact hx.trans (.begins x p rail (by simp) (by simp) (by simp) hw)
  have hvlv : (Mod.run t f s.m).vlv = (x.begins p rail).vlv := (Mod.run_vlv t f s.m).trans (congrArg Mod.vlv hmean)
  have hej : (Mod.run t f s.m).ej = (x.begins p rail).ej := (Mod.run_ej t f s.m).trans (congrArg Mod.ej hmean)
  have hbegun := Mod.begun_begins (p := p) (rail := rail) (hx.count ▸ hlen : p.ch < x.vlv.ch.length)
  rw [← hx.within.now]
  refine State.yields_run (f := f) rfl ⟨hej.trans (x.begins_ej p rail), ?_, fun c hc => ?_, fun q i hq => ?_, hall.within.frame⟩
  · rw [Mod.vch_congr hvlv, Mod.releaseOf_of_started hej rfl]
    exact hbegun
  · rw [Mod.vch_congr (Mod.run_vlv t f s.m)]
    exact hall.others c hc
  · rw [Mod.run_rd_other t f s.m hq]
    exact congrArg (fun m : Mod => m.rd q i) hmean

/-- The wait that a start ends is a matter of the counts alone. -/
theorem Mod.AtCh.noteWait {c : Nat} {as : List Area} (m : Mod) (p : EPulse) (h : P.ejBankWaitMax.addr (bankOf p.ch) ∈ ws) :
    Mod.AtCh c as ws m (m.noteWait p) := .of_within (Mod.noteWait_vlv m p) (.noteWait m p h)

/-- The words that a start on a channel at rest may change. -/
def startWords (c : Nat) : List Nat := P.ejBankWaitMax.addr (bankOf c) :: driveWords c ++ P.ejPulses.addr :: countWords

theorem pulseStart_rest_yields (hs : s.Canonical) (hp : s.m.pulse? serial ch = some p) (hch : ch < 384) (hstopped : s.m.ej.stopped = false)
    (hready : (s.m.at t).ready p = true) (hobstacle : s.m.obstacle p = 0) (hturn : (s.m.at t).mustYield p = false)
    (hrest : s.m.runningOn ch = none) (hlen : ch < s.m.vlv.ch.length) (htick : (s.m.at t).now % 1000 = 0) :
    s.Yields (.pulseStart t serial ch false rail last) fun m' =>
      m'.ej = (s.m.setPulse p.id (fun _ => p.startedAt (s.m.at t).now)).ej
      ∧ VCh.Begun (s.m.vch ch) (m'.vch ch) p.hs (s.m.at t).now (m'.releaseOf (p.startedAt (s.m.at t).now))
      ∧ (∀ c, c ≠ ch → (s.m.vch c).Alike (m'.vch c))
      ∧ m'.rd P.ejPulses = (s.m.rd P.ejPulses + 1) % 2 ^ 32 ∧ m'.rd P.vlvPulses = (s.m.rd P.vlvPulses + 1) % 2 ^ 32
      ∧ m'.rd P.vlvChPulses ch = (s.m.rd P.vlvChPulses ch + 1) % 2 ^ 32
      ∧ Mod.Frame t [.ej, .vlv, .trk] (startWords ch) s.m m' := by
  obtain ⟨-, -, rfl⟩ := Mod.pulse?_spec hp
  let x := (s.m.at t).noteWait p
  have hnone : x.runningOn p.ch = none := by
    unfold Mod.runningOn
    rw [Mod.noteWait_ej]
    exact hrest
  have hmean : pulseStart serial p.ch false rail last (s.m.at t) = x.begins p rail := by
    rw [pulseStart_of_ready (m := s.m.at t) hp hstopped hready hobstacle hturn htick, Mod.startPulse_eq, Mod.givesWay_of_none hnone]
  have hwait : Mod.Within [.ej, .vlv, .trk] [P.ejBankWaitMax.addr (bankOf p.ch)] (s.m.at t) x := .noteWait _ p (by simp)
  obtain ⟨m', hexec, hej, hbegun, hothers, hcounts, hframe⟩ := pulseStart_yields hmean (ws := startWords p.ch)
    (.noteWait _ p (by simp [startWords])) (by simp [startWords]) hlen
  obtain ⟨hengine, hdrivers, hchannel⟩ := Mod.rd_begins (m := x) (rail := rail) (hwait.wf hs) hch
  have hbank := bankOf_lt p.ch
  refine ⟨m', hexec, hej.trans (Mod.setPulse_ej_congr (Mod.noteWait_ej _ p) _ _), ?_, hothers, ?_, ?_, ?_, hframe⟩
  · rwa [Mod.vch_congr (Mod.noteWait_vlv _ p)] at hbegun
  · rw [hcounts _ _ (by decide), hengine, hwait.rd_eq hs _ (by decide)]
    · rfl
    · simp [Param.addr, P.ejPulses, P.ejBankWaitMax]; omega
  · rw [hcounts _ _ (by decide), hdrivers, hwait.rd_eq hs _ (by decide)]
    · rfl
    · simp [Param.addr, P.vlvPulses, P.ejBankWaitMax]; omega
  · have hflags : P.vlvChPulses.addr p.ch ≠ P.loopFlags.addr := by simp [Param.addr, P.vlvChPulses, P.loopFlags]; omega
    rw [hcounts _ _ hflags, hchannel, hwait.rd_eq hs _ hflags]
    · rfl
    · simp [Param.addr, P.vlvChPulses, P.ejBankWaitMax]; omega

/-- The words that a restart may change. -/
def restartWords (c : Nat) : List Nat := startWords c ++ [P.ejRestarts.addr, P.ejShiftMax.addr]

theorem startWords_subset_restartWords (c : Nat) : startWords c ⊆ restartWords c := List.subset_append_left _ _

theorem pulseStart_again_yields (hs : s.Canonical) {old : EPulse} (hp : s.m.pulse? serial ch = some p) (hch : ch < 384)
    (hstopped : s.m.ej.stopped = false) (hready : (s.m.at t).ready p = true) (hobstacle : s.m.obstacle p = 0)
    (hturn : (s.m.at t).mustYield p = false) (hruns : s.m.runningOn ch = some old) (hne : old.id ≠ p.id) (halone : s.m.followers old.id = [])
    (hlen : ch < s.m.vlv.ch.length) (htick : (s.m.at t).now % 1000 = 0) (hphase : (s.m.vch ch).phase ≠ .idle)
    (hopen : (s.m.vch ch).judged = false ∨ (s.m.vch ch).arr ≠ none) : s.Yields (.pulseStart t serial ch false rail last) fun m' =>
      (∀ q ∈ m'.ej.pulses, q.id ≠ old.id) ∧ (∃ q ∈ m'.ej.pulses, q.id = p.id ∧ q.started = some (s.m.at t).now)
      ∧ (∃ tc band off, VCh.Begun { s.m.vch ch with tc := tc, band := band } (m'.vch ch) p.hs (s.m.at t).now off
          ∧ (last.length ≠ 500 → tc = (s.m.vch ch).tc ∧ band = (s.m.vch ch).band))
      ∧ (∀ c, c ≠ ch → (s.m.vch c).Alike (m'.vch c))
      ∧ m'.rd P.vlvDetNone = (s.m.rd P.vlvDetNone + 1) % 2 ^ 32 ∧ m'.rd P.ejRestarts = (s.m.rd P.ejRestarts + 1) % 2 ^ 32
      ∧ Mod.Frame t [.ej, .vlv, .trk] (restartWords ch) s.m m' := by
  obtain ⟨hmem, -, rfl⟩ := Mod.pulse?_spec hp
  let x := (s.m.at t).clearedFor p old last
  have hgives : ((s.m.at t).noteWait p).givesWay p.ch last = x :=
    Mod.givesWay_of_running (by unfold Mod.runningOn; rw [Mod.noteWait_ej]; exact hruns)
      (by unfold Mod.followers; rw [Mod.noteWait_ej]; exact halone) last
  have hmean : pulseStart serial p.ch false rail last (s.m.at t) = x.begins p rail := by
    rw [pulseStart_of_ready (m := s.m.at t) hp hstopped hready hobstacle hturn htick, Mod.startPulse_eq, hgives]
  obtain ⟨m', hexec, hej, hbegun, hothers, hcounts, hframe⟩ := pulseStart_yields hmean (ws := restartWords p.ch)
    (.clearedFor _ p old last (by simp) (by simp) (by simp) (by simp [restartWords, startWords]))
    (List.Subset.trans (List.subset_cons_self _ _) (startWords_subset_restartWords p.ch)) hlen
  have hpulses : m'.ej.pulses = (s.m.ej.pulses.filter (fun q => q.id ≠ old.id)).map
      (fun q => if q.id = p.id then p.startedAt (s.m.at t).now else q) := by
    rw [hej, Mod.setPulse_ej_congr (Mod.clearedFor_ej _ p old last)]
    rfl
  obtain ⟨tc, band, hvch, hshort⟩ := Mod.vch_clearedFor (m := s.m.at t) hlen old last
  obtain ⟨hlost, hcounted⟩ := Mod.rd_clearedFor_begins (m := s.m.at t) (rail := rail) hs hch hlen old last hphase hopen
  refine ⟨m', hexec, ?gone, ?started, ⟨tc, band, _, hvch ▸ hbegun, hshort⟩, hothers, (hcounts _ _ (by decide)).trans hlost,
    (hcounts _ _ (by decide)).trans hcounted, hframe⟩
  case gone =>
    intro q hq
    rw [hpulses] at hq
    obtain ⟨r, hr, rfl⟩ := List.mem_map.1 hq
    have hrid : r.id ≠ old.id := of_decide_eq_true (List.mem_filter.1 hr).2
    split
    · exact hne.symm
    · exact hrid
  case started =>
    rw [hpulses]
    exact ⟨_, List.mem_map.2 ⟨p, List.mem_filter.2 ⟨hmem, by simpa using hne.symm⟩, if_pos rfl⟩, rfl, rfl⟩

end

/-- Settles O39: each command finds the pulse in the state that its own conditions name, and does what the engine's operation does. -/
theorem pulsesBecomeFirmAndStart : Obligations.PulsesBecomeFirmAndStart := by
  intro s t serial ch p hs hp hinto hch now
  obtain ⟨-, -, hpch⟩ := Mod.pulse?_spec hp
  have hch' : p.ch < 384 := hpch ▸ hch
  refine ⟨fun hfirm hdue hslack hasks => ?firm, fun hfirm hdue hslack hgrant => ?late,
    fun hfirm hjudged hstarted hdue hgrant => holdStartInstant_held_yields hp hinto hfirm hjudged hstarted hdue hgrant,
    fun hfirm hjudged hstarted hdue hgrant halone hallowed hslack => ?hold,
    fun hstopped _ hready hobstacle hturn hrest hlen htick rail last => ?start,
    fun old hstopped _ hready hobstacle hturn _ hruns hne halone hlen htick henergised hphase hopen rail last => ?again,
    fun hfirm hstarted hdue hhs hgrant => ?starved, fun hfirm hstarted hdue hgrant hstands => ?blocked⟩
  case firm =>
    obtain ⟨m', hexec, ⟨hej, htoll⟩, hframe⟩ := pulseFirm_due_yields hp hinto hfirm hdue hslack hasks
    exact ⟨m', hexec, hej, ⟨_, htoll, rfl, rfl, rfl, rfl, rfl, rfl⟩, hframe⟩
  case late =>
    have hmean : pulseFirm serial ch (s.m.at t) = (s.m.at t).missPulse p 7 :=
      (pulseFirm_of_due (m := s.m.at t) hp hinto hfirm hdue).trans (if_pos hslack)
    obtain ⟨m', hexec, hgone, hmiss, hchan, htoll, hwithin⟩ := missPulse_yields (c := .pulseFirm t serial ch) rfl hs hmean hch' (by decide)
    have hkept : m'.toll = s.m.toll := by rw [htoll, EPulse.givesBack, hgrant]
    exact ⟨m', hexec, hgone, hmiss, hpch ▸ hchan, hkept, (hwithin.without hkept).toFrame⟩
  case hold =>
    obtain ⟨m', hexec, ⟨hej, htoll, hexpired, htrk⟩, hframe⟩ :=
      holdStartInstant_asked_yields hs hp hinto hfirm hjudged hstarted hdue hgrant halone hallowed hslack
    exact ⟨m', hexec, hej, htoll, hexpired, htrk, hframe⟩
  case start =>
    obtain ⟨m', hexec, hej, hbegun, hothers, hengine, hdrivers, hchannel, hframe⟩ :=
      pulseStart_rest_yields (rail := rail) (last := last) hs hp hch hstopped hready hobstacle hturn hrest hlen htick
    exact ⟨m', hexec, hej, hbegun.phase, hbegun.energised, hbegun.opened, hbegun.start, hbegun.off, hbegun.pband, hbegun.cut,
      fun c hc => (hothers c hc).eq, hengine, hdrivers, hchannel, hframe⟩
  case again =>
    obtain ⟨m', hexec, hgone, hstarted, ⟨tc, band, off, hbegun, hshort⟩, hothers, hlost, hcounted, hframe⟩ :=
      pulseStart_again_yields (rail := rail) (last := last) hs hp hch hstopped hready hobstacle hturn hruns hne halone hlen htick hphase hopen
    refine ⟨m', hexec, hgone, hstarted, hbegun.restarted.trans henergised, hbegun.arr, hbegun.judged, hbegun.d, hbegun.dhs, hbegun.phase,
      hbegun.energised, hbegun.start, hbegun.pband.trans hbegun.band.symm, fun h => ?_, fun c hc => (hothers c hc).eq, hlost, hcounted, hframe⟩
    exact ⟨hbegun.band.trans (hshort h).2, hbegun.tc.trans (hshort h).1⟩
  case starved =>
    have hwaits : (s.m.at t).ready p = false := by simp [Mod.ready, hhs, hgrant]
    have hmean : pulseLatestStart serial ch (s.m.at t) = (s.m.at t).missPulse p 3 := by
      rw [pulseLatestStart_of_due (m := s.m.at t) hp hinto hfirm hstarted hdue (.inl hwaits), Mod.lateCause_of_unheld hhs hgrant]
    obtain ⟨m', hexec, hgone, hmiss, -, htoll, hwithin⟩ := missPulse_yields (c := .pulseLatestStart t serial ch) rfl hs hmean hch' (by decide)
    rw [EPulse.givesBack, hgrant] at htoll
    exact ⟨m', hexec, hgone, hmiss, htoll, (hwithin.mono (by simp) (List.Subset.refl _)).toFrame⟩
  case blocked =>
    have hmean : pulseLatestStart serial ch (s.m.at t) = (s.m.at t).missPulse p (s.m.obstacle p) :=
      (pulseLatestStart_of_due (m := s.m.at t) hp hinto hfirm hstarted hdue (.inr hstands)).trans
        (congrArg _ (Mod.lateCause_of_obstacle (m := s.m.at t) hgrant hstands))
    have hcause : s.m.obstacle p - 1 < 8 := by have := s.m.obstacle_le p; omega
    obtain ⟨m', hexec, hgone, hmiss, -, htoll, hwithin⟩ := missPulse_yields (c := .pulseLatestStart t serial ch) rfl hs hmean hch' hcause
    rw [EPulse.givesBack, hgrant] at htoll
    exact ⟨m', hexec, hgone, hmiss, htoll, (hwithin.mono (by simp) (List.Subset.refl _)).toFrame⟩

end Sys2Proof.Machine
end

section
/-!
PROOFS. The statements of 09_valve_drivers.md: proportional channels. What each operation leaves of its channel is said once; a command's
effect is a chain of them.
-/
namespace Sys2Proof.Machine

/-! ### One proportional channel (R231) -/

section
variable {m : Mod} {p : Nat}

theorem Mod.setPch_vlv (h : p < m.vlv.pv.length) (f : PCh → PCh) :
    (m.setPch p f).vlv = { m.vlv with pv := m.vlv.pv.set p (f (m.pch p)) } := by
  simp [Mod.setPch, Mod.pch, updAt, List.modify_eq_set_getElem?, h]

theorem Mod.pch_setPch (h : p < m.vlv.pv.length) (f : PCh → PCh) : (m.setPch p f).pch p = f (m.pch p) := by
  simp [Mod.setPch, Mod.pch, updAt, h]

theorem Mod.setPch_setPch (m : Mod) (p : Nat) (f g : PCh → PCh) : (m.setPch p f).setPch p g = m.setPch p (fun c => g (f c)) := by
  simp only [Mod.setPch, updAt, List.modify_modify_eq]
  rfl

/-- Changes that agree on the channel as it stands are one change. -/
theorem Mod.setPch_congr (h : p < m.vlv.pv.length) {f g : PCh → PCh} (hfg : f (m.pch p) = g (m.pch p)) : m.setPch p f = m.setPch p g := by
  have hvlv : (m.setPch p f).vlv = (m.setPch p g).vlv := by rw [Mod.setPch_vlv h, Mod.setPch_vlv h, hfg]
  exact congrArg (fun x => { m with vlv := x }) hvlv

theorem Mod.Within.setPch {as : List Area} {ws : List Nat} (m : Mod) (p : Nat) (f : PCh → PCh) (h : Area.vlv ∈ as) :
    Mod.Within as ws m (m.setPch p f) := .ofVlv m _ h

/-! ### On and off (R233, R244) -/

/-- A channel switched on. -/
def PCh.on (c : PCh) : PCh := { c with active := true }

/-- A channel that no class gates stands switched on, if it did before or is free to. -/
theorem Mod.pvOn_of_ungated (hp : p < m.vlv.pv.length) (hgate : (m.rd P.tollSafetyPv).testBit p = false)
    (hmay : (m.pch p).active = true ∨ ((m.pch p).waiting = false ∧ (m.pch p).free = true)) : m.pvOn p = m.setPch p PCh.on := by
  by_cases hact : (m.pch p).active = true
  · have hkept : PCh.on (m.pch p) = id (m.pch p) := by simp [PCh.on, ← hact]
    rw [Mod.setPch_congr hp hkept]
    simp [Mod.pvOn, hact, Mod.setPch, updAt, List.modify_id]
  · obtain ⟨hwait, hfree⟩ := hmay.resolve_left hact
    simp only [Mod.pvOn, hact, hwait, hfree, hgate, Bool.or_self, Bool.not_true, Bool.false_eq_true, if_false]
    rfl

/-- A channel switched off. -/
def PCh.off (c : PCh) : PCh := { c with active := false, waiting := false, setNow := 0, openAt := none }

end

theorem Mod.setPch_vlv_congr {a b : Mod} (h : b.vlv = a.vlv) (p : Nat) (f : PCh → PCh) : (b.setPch p f).vlv = (a.setPch p f).vlv := by
  simp only [Mod.setPch, h]

theorem Mod.pch_congr {a b : Mod} (h : b.vlv = a.vlv) (p : Nat) : b.pch p = a.pch p := by
  unfold Mod.pch
  rw [h]

@[simp] theorem Mod.rd_setPch (m : Mod) (p : Nat) (f : PCh → PCh) (q : Param) (i j : Nat) : (m.setPch p f).rd q i j = m.rd q i j := rfl

section
variable {m : Mod} {p : Nat}

theorem Mod.Within.pvOff {as : List Area} {ws : List Nat} (m : Mod) (p : Nat) (hvlv : Area.vlv ∈ as) (htoll : Area.toll ∈ as) :
    Mod.Within as ws m (m.pvOff p) := (Mod.Within.setPch m p PCh.off hvlv).trans (.unask _ _ htoll)

theorem Mod.pvOff_vlv (m : Mod) (p : Nat) : (m.pvOff p).vlv = (m.setPch p PCh.off).vlv := Mod.unask_vlv _ _

/-! ### Faults (R233) -/

/-- A channel that a fault has switched off at `now`: latched once its retries are spent, else with a retry in 100 ms. -/
def PCh.faulted (retries now : Nat) (c : PCh) : PCh :=
  if retries ≤ c.faults + 1 then { c.off with faults := c.faults + 1, latched := true, retryAt := none }
  else { c.off with faults := c.faults + 1, retryAt := some (now + 100000000) }

theorem Mod.pvFault_vlv (hp : p < m.vlv.pv.length) (code ma : Nat) :
    (m.pvFault p code ma).vlv = (m.setPch p (PCh.faulted (m.rd P.vlvPRetries p) m.now)).vlv := by
  have hoff : ∀ d : List Byte, ((m.pvOff p).raise (pvSrc p) code d).vlv = (m.setPch p PCh.off).vlv := fun _ => m.pvOff_vlv p
  unfold Mod.pvFault
  extract_lets n m1
  have hset : ∀ f : PCh → PCh, (m1.setPch p f).vlv = (m.setPch p (fun c => f c.off)).vlv := fun f => by
    rw [Mod.setPch_vlv_congr (hoff _), Mod.setPch_setPch]
  split <;> rename_i hlim
  · rw [Mod.raise_vlv, hset]
    refine congrArg Mod.vlv (Mod.setPch_congr hp ?_)
    rw [PCh.faulted, if_pos hlim]
  · rw [hset]
    refine congrArg Mod.vlv (Mod.setPch_congr hp ?_)
    rw [PCh.faulted, if_neg hlim]

/-- What a fault leaves of its channel, once it is marked. -/
theorem Mod.vlv_pvFault_setPch (hp : p < m.vlv.pv.length) (code ma : Nat) (f : PCh → PCh) : ((m.pvFault p code ma).setPch p f).vlv
    = (m.setPch p (fun c => f (c.faulted (m.rd P.vlvPRetries p) m.now))).vlv := by
  rw [Mod.setPch_vlv_congr (Mod.pvFault_vlv hp code ma), Mod.setPch_setPch]

theorem Mod.pvFault_toll (m : Mod) (p code ma : Nat) : (m.pvFault p code ma).toll = (m.unask (.pv p)).toll := by
  unfold Mod.pvFault
  dsimp only
  split <;> rfl

theorem Mod.Within.pvFault {as : List Area} {ws : List Nat} (m : Mod) (p code ma : Nat) (hvlv : Area.vlv ∈ as) (htoll : Area.toll ∈ as) :
    Mod.Within as ws m (m.pvFault p code ma) := by
  unfold Mod.pvFault
  extract_lets n m1
  have hoff : Mod.Within as ws m m1 := (Mod.Within.pvOff m p hvlv htoll).trans (.raise _ _ _ _)
  split
  · exact (hoff.trans (.setPch _ _ _ hvlv)).trans (.raise _ _ _ _)
  · exact hoff.trans (.setPch _ _ _ hvlv)

theorem Mod.Within.pvFault_setPch (m : Mod) (p code ma : Nat) (f : PCh → PCh) :
    Mod.Within [.vlv, .toll] [] m ((m.pvFault p code ma).setPch p f) :=
  (Mod.Within.pvFault m p code ma (by simp) (by simp)).trans (.setPch _ _ _ (by simp))

/-! ### The PWM period (R232, R237) -/

/-- The number of the dither period in hand. -/
def Mod.dithNo (m : Mod) (p : Nat) : Nat := m.now * m.rd P.vlvPDithF p / 10 ^ 9

/-- The current `ma` of a PWM period enters the dither period numbered `k`. -/
def PCh.averaged (k ma : Nat) (c : PCh) : PCh :=
  if c.dith = k then { c with dithSum := c.dithSum + ma, dithN := c.dithN + 1 } else { c with dith := k, dithSum := ma, dithN := 1 }

/-- The mean of the dither period in hand shows, if another begins. -/
def Mod.showMean (m : Mod) (p k : Nat) : Mod :=
  if (m.pch p).dith = k ∨ (m.pch p).dithN = 0 then m else m.wr P.vlvPINow (Nat.min 4095 ((m.pch p).dithSum / (m.pch p).dithN)) p

theorem Mod.pvMean_eq (hp : p < m.vlv.pv.length) (ma : Nat) :
    m.pvMean p ma = (m.showMean p (m.dithNo p)).setPch p (PCh.averaged (m.dithNo p) ma) := by
  unfold Mod.pvMean
  rw [← Mod.dithNo]
  extract_lets c k m1
  have hshown : c.dith ≠ k → m1 = m.showMean p k := fun hk => by
    by_cases hn : c.dithN = 0 <;> simp [m1, Mod.showMean, c, hn, show ¬ (m.pch p).dith = k from hk, Nat.pos_iff_ne_zero]
  split <;> rename_i hk
  · have hsame : m.showMean p k = m := if_pos (.inl hk)
    rw [hsame]
    exact Mod.setPch_congr hp (if_pos hk).symm
  · rw [hshown hk]
    refine Mod.setPch_congr ?_ ?_
    · rw [Mod.showMean]
      split <;> exact hp
    · have hch : (m.showMean p k).pch p = c := by
        rw [Mod.showMean]
        split <;> rfl
      rw [hch, PCh.averaged, if_neg hk]

@[simp] theorem Mod.showMean_vlv (m : Mod) (p k : Nat) : (m.showMean p k).vlv = m.vlv := by
  unfold Mod.showMean
  split <;> rfl

theorem Mod.Within.showMean {as : List Area} {ws : List Nat} (m : Mod) (p k : Nat) (hw : P.vlvPINow.addr p ∈ ws) :
    Mod.Within as ws m (m.showMean p k) := by
  unfold Mod.showMean
  split
  · exact .refl m
  · exact .wr _ _ _ _ _ hw

theorem Mod.rd_showMean (hwf : Store.wf m.regs = true) (p k : Nat) : (m.showMean p k).rd P.vlvPINow p
    = if (m.pch p).dith = k ∨ (m.pch p).dithN = 0 then m.rd P.vlvPINow p else Nat.min 4095 ((m.pch p).dithSum / (m.pch p).dithN) := by
  unfold Mod.showMean
  split
  · rfl
  · have hle : Nat.min 4095 ((m.pch p).dithSum / (m.pch p).dithN) ≤ 4095 := Nat.min_le_left _ _
    have hwidth : P.vlvPINow.w = 12 := rfl
    rw [Mod.rd_wr hwf, hwidth, Nat.mod_eq_of_lt (show _ < 2 ^ 12 by omega), Nat.mod_eq_of_lt (show _ < 2 ^ 32 by omega)]

/-- Every other word reads as before. -/
theorem Mod.rd_showMean_other (m : Mod) {p k : Nat} {q : Param} {i : Nat} (h : q.addr i ≠ P.vlvPINow.addr p) :
    (m.showMean p k).rd q i = m.rd q i := by
  unfold Mod.showMean
  split
  · rfl
  · exact congrArg BitVec.toNat (Store.get_put_other _ _ h)

/-- The dither current at this instant, where the base is `b`. -/
def Mod.pvDither (m : Mod) (p : Nat) (b : Int) : Int :=
  if b = 0 ∨ m.rd P.vlvPDithF p = 0 then 0 else ditherAt (m.rd P.vlvPDithA p) (m.rd P.vlvPDithF p) (m.rd P.vlvPDithShape p) m.now

/-- A channel whose new PWM period begins with base `b`, after one of current `ma` at a duty of `duty` %. -/
def Mod.period (m : Mod) (p ma duty : Nat) (b : Int) (c : PCh) : PCh :=
  { c.on with base := b, setNow := (clampI 0 3000 (b + m.pvDither p b)).toNat, nextAt := m.now + 10 ^ 9 / m.rd P.vlvPFreq p,
              openAt := if 95 ≤ duty ∧ 200 ≤ c.setNow ∧ 2 * ma < c.setNow then some (c.openAt.getD m.now) else none,
              faults := if 0 < b ∧ b ≤ 2 * (ma : Int) then 0 else c.faults }

/-- The period that ends is averaged, and the channel stands switched on (R233, R244). -/
theorem Mod.pvOn_pvMean (hp : p < 32) (hlen : p < m.vlv.pv.length) (hgate : (m.rd P.tollSafetyPv).testBit p = false)
    (hmay : (m.pch p).active = true ∨ ((m.pch p).waiting = false ∧ (m.pch p).free = true)) (ma : Nat) :
    (m.pvMean p ma).pvOn p = (m.showMean p (m.dithNo p)).setPch p (fun c => (c.averaged (m.dithNo p) ma).on) := by
  generalize hk : m.dithNo p = k
  have hlen' : p < (m.showMean p k).vlv.pv.length := m.showMean_vlv p k ▸ hlen
  have hpch : ((m.showMean p k).setPch p (PCh.averaged k ma)).pch p = (m.pch p).averaged k ma := by
    rw [Mod.pch_setPch hlen', Mod.pch_congr (m.showMean_vlv p k)]
  have hother : (m.showMean p k).rd P.tollSafetyPv = m.rd P.tollSafetyPv :=
    m.rd_showMean_other (by simp [Param.addr, P.tollSafetyPv, P.vlvPINow]; omega)
  have hmay' : ((m.pch p).averaged k ma).active = true ∨ (((m.pch p).averaged k ma).waiting = false ∧ ((m.pch p).averaged k ma).free = true) := by
    unfold PCh.averaged
    split <;> exact hmay
  rw [Mod.pvMean_eq hlen, hk, Mod.pvOn_of_ungated, Mod.setPch_setPch]
  · exact hlen'.trans_eq (List.length_modify _ _ _).symm
  · rw [Mod.rd_setPch, hother]
    exact hgate
  · rwa [hpch]

theorem pvPwmPeriod_of_due (hp : p < 32) (hlen : p < m.vlv.pv.length) (hgate : (m.rd P.tollSafetyPv).testBit p = false)
    (hrun : m.running = true) (hen : m.rd P.vlvPEn p = 1) (hdue : (m.pch p).nextAt ≤ m.now)
    (hmay : (m.pch p).active = true ∨ ((m.pch p).waiting = false ∧ (m.pch p).free = true)) (raw duty : Nat) :
    pvPwmPeriod p raw duty m = (m.showMean p (m.dithNo p)).setPch p (fun c =>
      m.period p (m.pvMa p raw) duty (m.pvBase p) (c.averaged (m.dithNo p) (m.pvMa p raw))) := by
  have hcond : (p < 32 && m.running && m.rd P.vlvPEn p = 1 && (m.pch p).nextAt ≤ m.now) = true := by simp [hp, hrun, hen, hdue]
  rw [pvPwmPeriod, if_pos hcond]
  dsimp only
  rw [Mod.pvOn_pvMean hp hlen hgate hmay, Mod.setPch_setPch]
  refine Mod.setPch_congr (m.showMean_vlv p _ ▸ hlen) ?_
  generalize PCh.averaged (m.dithNo p) (m.pvMa p raw) _ = c
  have hset : c.on.setNow = c.setNow := rfl
  rw [hset]
  simp only [Mod.period, Mod.pvDither, PCh.on]
  simp only [Bool.true_and, Bool.and_eq_true, Bool.or_eq_true, decide_eq_true_eq, and_assoc, if_true]

/-! ### Retries and over-temperature (R233) -/

/-- A channel whose faults are forgotten but for their count. -/
def PCh.retried (c : PCh) : PCh := { c with retryAt := none, short := false, open_ := false }

theorem Mod.pvRetryNow_of_ungated (hlen : p < m.vlv.pv.length) (hgate : (m.rd P.tollSafetyPv).testBit p = false)
    (hwait : (m.pch p).waiting = false) (hfree : (m.pch p).retried.free = true) :
    m.pvRetryNow p = m.setPch p (fun c => c.retried.on) := by
  have hretried : (m.setPch p PCh.retried).pch p = (m.pch p).retried := Mod.pch_setPch hlen _
  change (m.setPch p PCh.retried).pvOn p = _
  rw [Mod.pvOn_of_ungated, Mod.setPch_setPch]
  · exact hlen.trans_eq (List.length_modify _ _ _).symm
  · exact hgate
  · rw [hretried]
    exact .inr ⟨hwait, hfree⟩

end

/-! ### What the commands find (R233) -/

section
variable {m : Mod} {p raw : Nat}

/-- A channel with an open load, and one with a short, as VLV_P_STATE shows them. -/
def PCh.marked (short : Bool) (c : PCh) : PCh := { c with short := short, open_ := !short }

theorem pvOpenLoad_of_due {a : Nat} (hact : (m.pch p).active = true) (hset : 200 ≤ (m.pch p).setNow)
    (hlow : 2 * m.pvMa p raw < (m.pch p).setNow) (hopen : (m.pch p).openAt = some a) (hdue : a + 10000000 ≤ m.now) :
    pvOpenLoad p raw m = (m.pvFault p 0x0420 (m.pvMa p raw)).setPch p (PCh.marked false) := by
  have hstood : (m.pch p).openAt.any (fun a => a + 10000000 ≤ m.now) = true := by
    rw [hopen, Option.any_some, decide_eq_true_eq]
    exact hdue
  simp only [pvOpenLoad, hact, hset, hlow, hstood, decide_true, Bool.and_true, if_true]
  rfl

theorem pvShort_of_high (hact : (m.pch p).active = true) (hhigh : 4500 ≤ m.pvMa p raw) :
    pvShort p raw m = (m.pvFault p 0x0421 (m.pvMa p raw)).setPch p (PCh.marked true) := by
  simp only [pvShort, hact, hhigh, decide_true, Bool.and_true, if_true]
  rfl

theorem pvRetry_of_due {d : Nat} (hlen : p < m.vlv.pv.length) (hgate : (m.rd P.tollSafetyPv).testBit p = false)
    (hretry : (m.pch p).retryAt = some d) (hdue : d ≤ m.now) (htemp : (m.pch p).overtemp = false) (hwait : (m.pch p).waiting = false)
    (hfree : (m.pch p).retried.free = true) : pvRetry p m = m.setPch p (fun c => c.retried.on) := by
  simp only [pvRetry, hretry, hdue, htemp, decide_true, Bool.not_false, Bool.and_true, if_true]
  exact Mod.pvRetryNow_of_ungated hlen hgate hwait hfree

theorem pvOvertemp_of_hot {temp : Int} (hp : p < 32) (hcool : (m.pch p).overtemp = false) (hhot : 1500 ≤ temp) :
    pvOvertemp p raw temp m = ((m.pvOff p).setPch p (fun c => { c with overtemp := true })).raise (pvSrc p) 0x0423
      (leBytes 1 p ++ leBytes 2 (m.pvMa p raw)) := by
  simp only [pvOvertemp, hp, hcool, hhot, decide_true, Bool.not_false, Bool.and_true, if_true]

/-- A channel that has cooled. -/
def PCh.cooled (c : PCh) : PCh := { c with overtemp := false }

theorem pvOvertempCleared_of_cool {temp : Int} (hlen : p < m.vlv.pv.length) (hgate : (m.rd P.tollSafetyPv).testBit p = false)
    (hhot : (m.pch p).overtemp = true) (hcool : temp < 1300) (hretry : (m.pch p).retryAt = none) (hen : m.rd P.vlvPEn p = 1)
    (hrun : m.running = true) (hwait : (m.pch p).waiting = false) (hfree : (m.pch p).cooled.free = true) :
    pvOvertempCleared p temp m = m.setPch p (fun c => c.cooled.on) := by
  have hpch : (m.setPch p PCh.cooled).pch p = (m.pch p).cooled := Mod.pch_setPch hlen _
  have hon : pvOvertempCleared p temp m = (m.setPch p PCh.cooled).pvOn p := by
    simp only [pvOvertempCleared, hhot, hcool, hretry, hen, hrun, decide_true, Bool.and_true, if_true]
    rfl
  rw [hon, Mod.pvOn_of_ungated, Mod.setPch_setPch]
  · exact hlen.trans_eq (List.length_modify _ _ _).symm
  · exact hgate
  · rw [hpch]
    exact .inr ⟨hwait, hfree⟩

end

/-! ### The command VLV_P_CLR (R233) -/

theorem writeCheck_vlvPClr (m : Mod) (role : Nat) {p : Nat} (hp : p < 32) :
    m.writeCheck role (P.vlvPClr.addr p) 1#32 = .ok (P.vlvPClr, p, 0) := by
  have hat : ∀ p < 32, paramAt (P.vlvPClr.addr p) = some (P.vlvPClr, p, 0) := by decide +kernel
  have hplace : ∀ p < 32, P.vlvPClr.addr p % 4 = 0 ∧ P.vlvPClr.addr p < 0x20000000 ∧ P.vlvPClr.addr p / 0x1000000 = 8 := by decide +kernel
  obtain ⟨halign, hlow, hblock⟩ := hplace p hp
  unfold Mod.writeCheck
  simp only [hat p hp, halign, hblock, Nat.not_le.2 hlow]
  have hbits : P.vlvPClr.bitsOk p 1#32 = true := by simp [Param.bitsOk, Param.maskAt, P.vlvPClr]
  have hrange : P.vlvPClr.inRange m.word p 0 1#32 = true := by rfl
  simp only [hbits, hrange]
  rfl

theorem cmdWrite_vlvPClr {m : Mod} (hrun : m.running = true) (role : Nat) {p : Nat} (hp : p < 32) :
    cmdWrite P.vlvPClr p role [] 1#32 m = vlvPClr p (m.setWord (P.vlvPClr.addr p) 1#32) := by
  rw [cmdWrite, if_pos (by exact hp)]
  exact writeNow_of_cmd [] hrun (writeCheck_vlvPClr m role hp) rfl (by decide)

/-- A channel returned to service. -/
def PCh.cleared (c : PCh) : PCh := { c with latched := false, faults := 0, short := false, open_ := false }

theorem vlvPClr_of_latched {m : Mod} {p : Nat} (hp : p < 32) (hlatched : (m.pch p).latched = true) :
    vlvPClr p m = ((m.wr P.vlvPClr 1 p).setPch p PCh.cleared).raise (pvSrc p) 0x0424 (leBytes 1 p ++ leBytes 2 (m.rd P.vlvPINow p)) := by
  rw [vlvPClr, if_pos hp]
  exact if_pos hlatched

/-! ### The commands (R232, R233, R237) -/

section
variable {s : State} {t p : Nat}

/-- A command that leaves one channel changed answers with it, and with its frame. -/
theorem pv_yields {c : Instr} {f : Mod → Mod} {g : PCh → PCh} {as : List Area} {ws : List Nat} (hexec : exec c s = s.run t f)
    (hlen : p < s.m.vlv.pv.length) (hvlv : (f (s.m.at t)).vlv = ((s.m.at t).setPch p g).vlv)
    (hwithin : Mod.Within as ws (s.m.at t) (f (s.m.at t))) : s.Yields c fun m' =>
      m'.vlv = { s.m.vlv with pv := s.m.vlv.pv.set p (g (s.m.pch p)) } ∧ m'.toll = (f (s.m.at t)).toll ∧ Mod.Frame t as ws s.m m' := by
  refine State.yields_run hexec ⟨?_, Mod.run_toll t f s.m, hwithin.frame⟩
  rw [Mod.run_vlv, hvlv, Mod.setPch_vlv (m := s.m.at t) hlen]
  rfl

theorem pvPwmPeriod_yields (hs : s.Canonical) (hp : p < 32) (hlen : p < s.m.vlv.pv.length) (hgate : (s.m.rd P.tollSafetyPv).testBit p = false)
    (hrun : s.m.running = true) (hen : s.m.rd P.vlvPEn p = 1) (hdue : (s.m.pch p).nextAt ≤ (s.m.at t).now)
    (hmay : (s.m.pch p).active = true ∨ ((s.m.pch p).waiting = false ∧ (s.m.pch p).free = true)) (raw duty : Nat) :
    s.Yields (.pvPwmPeriod t p raw duty) fun m' =>
      m'.vlv = { s.m.vlv with pv := s.m.vlv.pv.set p ((s.m.at t).period p (s.m.pvMa p raw) duty ((s.m.at t).pvBase p)
        ((s.m.pch p).averaged ((s.m.at t).dithNo p) (s.m.pvMa p raw))) }
      ∧ m'.rd P.vlvPINow p = (if (s.m.pch p).dith = (s.m.at t).dithNo p ∨ (s.m.pch p).dithN = 0 then s.m.rd P.vlvPINow p
          else Nat.min 4095 ((s.m.pch p).dithSum / (s.m.pch p).dithN))
      ∧ Mod.Frame t [.vlv] [P.vlvPINow.addr p] s.m m' := by
  have hmean := pvPwmPeriod_of_due (m := s.m.at t) hp hlen hgate hrun hen hdue hmay raw duty
  have hshown : Mod.Within [.vlv] [P.vlvPINow.addr p] (s.m.at t) ((s.m.at t).showMean p ((s.m.at t).dithNo p)) := .showMean _ p _ (by simp)
  refine State.yields_run (f := pvPwmPeriod p raw duty) rfl ⟨?_, ?_, Mod.Within.frame ?_⟩
  · rw [Mod.run_vlv, hmean, Mod.setPch_vlv_congr (Mod.showMean_vlv _ _ _), Mod.setPch_vlv (m := s.m.at t) hlen]
    rfl
  · rw [Mod.run_rd_other t _ s.m (by simp [Param.addr, P.vlvPINow, P.loopFlags]; omega), hmean, Mod.rd_setPch, Mod.rd_showMean (m := s.m.at t) hs]
    rfl
  · rw [hmean]
    exact hshown.trans (.setPch _ _ _ (by simp))

theorem pvOpenLoad_yields (hlen : p < s.m.vlv.pv.length) (hact : (s.m.pch p).active = true) (hset : 200 ≤ (s.m.pch p).setNow) {raw a : Nat}
    (hlow : 2 * s.m.pvMa p raw < (s.m.pch p).setNow) (hopen : (s.m.pch p).openAt = some a) (hdue : a + 10000000 ≤ (s.m.at t).now) :
    s.Yields (.pvOpenLoad t p raw) fun m' =>
      m'.vlv = { s.m.vlv with pv := s.m.vlv.pv.set p (((s.m.pch p).faulted (s.m.rd P.vlvPRetries p) (s.m.at t).now).marked false) }
      ∧ m'.toll = (s.m.unask (.pv p)).toll ∧ Mod.Frame t [.vlv, .toll] [] s.m m' := by
  have hmean := pvOpenLoad_of_due (m := s.m.at t) (raw := raw) hact hset hlow hopen hdue
  obtain ⟨m', hexec, hvlv, htoll, hframe⟩ := pv_yields (c := .pvOpenLoad t p raw) rfl hlen
    ((congrArg Mod.vlv hmean).trans (Mod.vlv_pvFault_setPch (m := s.m.at t) hlen _ _ _)) (hmean ▸ Mod.Within.pvFault_setPch _ _ _ _ _)
  exact ⟨m', hexec, hvlv, htoll.trans ((congrArg Mod.toll hmean).trans (Mod.pvFault_toll _ _ _ _)), hframe⟩

theorem pvShort_yields (hlen : p < s.m.vlv.pv.length) (hact : (s.m.pch p).active = true) {raw : Nat} (hhigh : 4500 ≤ s.m.pvMa p raw) :
    s.Yields (.pvShort t p raw) fun m' =>
      m'.vlv = { s.m.vlv with pv := s.m.vlv.pv.set p (((s.m.pch p).faulted (s.m.rd P.vlvPRetries p) (s.m.at t).now).marked true) }
      ∧ m'.toll = (s.m.unask (.pv p)).toll ∧ Mod.Frame t [.vlv, .toll] [] s.m m' := by
  have hmean := pvShort_of_high (m := s.m.at t) (raw := raw) hact hhigh
  obtain ⟨m', hexec, hvlv, htoll, hframe⟩ := pv_yields (c := .pvShort t p raw) rfl hlen
    ((congrArg Mod.vlv hmean).trans (Mod.vlv_pvFault_setPch (m := s.m.at t) hlen _ _ _)) (hmean ▸ Mod.Within.pvFault_setPch _ _ _ _ _)
  exact ⟨m', hexec, hvlv, htoll.trans ((congrArg Mod.toll hmean).trans (Mod.pvFault_toll _ _ _ _)), hframe⟩

/-- A command that does nothing but change one channel. -/
theorem pv_set_yields {c : Instr} {f : Mod → Mod} {g : PCh → PCh} (hexec : exec c s = s.run t f) (hlen : p < s.m.vlv.pv.length)
    (hmean : f (s.m.at t) = (s.m.at t).setPch p g) : s.Yields c fun m' =>
      m'.vlv = { s.m.vlv with pv := s.m.vlv.pv.set p (g (s.m.pch p)) } ∧ Mod.Frame t [.vlv] [] s.m m' := by
  obtain ⟨m', hexec, hvlv, -, hframe⟩ := pv_yields (as := [.vlv]) (ws := []) hexec hlen (congrArg Mod.vlv hmean)
    (hmean ▸ .setPch _ _ _ (by simp))
  exact ⟨m', hexec, hvlv, hframe⟩

theorem pvOvertemp_yields (hp : p < 32) (hlen : p < s.m.vlv.pv.length) (hcool : (s.m.pch p).overtemp = false) (raw : Nat) {temp : Int}
    (hhot : 1500 ≤ temp) : s.Yields (.pvOvertemp t p raw temp) fun m' =>
      m'.vlv = { s.m.vlv with pv := s.m.vlv.pv.set p { (s.m.pch p).off with overtemp := true } }
      ∧ m'.toll = (s.m.unask (.pv p)).toll ∧ Mod.Frame t [.vlv, .toll] [] s.m m' := by
  have hmean := pvOvertemp_of_hot (m := s.m.at t) (raw := raw) hp hcool hhot
  obtain ⟨m', hexec, hvlv, htoll, hframe⟩ := pv_yields (c := .pvOvertemp t p raw temp) (g := fun c => { c.off with overtemp := true })
    (as := [.vlv, .toll]) (ws := []) rfl hlen
    (by rw [hmean, Mod.raise_vlv, Mod.setPch_vlv_congr (Mod.pvOff_vlv _ _), Mod.setPch_setPch])
    (hmean ▸ ((Mod.Within.pvOff _ _ (by simp) (by simp)).trans (.setPch _ _ _ (by simp))).trans (.raise _ _ _ _))
  exact ⟨m', hexec, hvlv, htoll.trans ((congrArg Mod.toll hmean).trans rfl), hframe⟩

theorem vlvPClr_yields (hp : p < 32) (hlen : p < s.m.vlv.pv.length) (role : Nat) (hrun : s.m.running = true)
    (hlatched : (s.m.pch p).latched = true) : s.Yields (.vlvPClr t role p 1#32) fun m' =>
      m'.vlv = { s.m.vlv with pv := s.m.vlv.pv.set p (s.m.pch p).cleared } ∧ Mod.Frame t [.vlv] [P.vlvPClr.addr p] s.m m' := by
  have hmean := (cmdWrite_vlvPClr (m := s.m.at t) hrun role hp).trans (vlvPClr_of_latched (m := (s.m.at t).setWord (P.vlvPClr.addr p) 1#32) hp hlatched)
  obtain ⟨m', hexec, hvlv, -, hframe⟩ := pv_yields (c := .vlvPClr t role p 1#32) (g := PCh.cleared) (as := [.vlv]) (ws := [P.vlvPClr.addr p]) rfl hlen
    (by rw [hmean]; rfl)
    (by rw [hmean]
        exact (((Mod.Within.setWord _ _ _ (by simp)).trans (.wr _ _ _ _ _ (by simp))).trans (.setPch _ _ _ (by simp))).trans (.raise _ _ _ _))
  exact ⟨m', hexec, hvlv, hframe⟩

end

/-- Settles O42: each command finds the channel in the state that its own conditions name, and changes it by one of the operations above. -/
theorem proportionalChannelsFollow : Obligations.ProportionalChannelsFollow := by
  intro s t p hs hp hlen hgate c now sets unasked
  refine ⟨fun raw duty hrun hen hdue hmay => ?period, fun raw a hact hset hlow hopen hdue hretries => ?openLoad,
    fun raw hact hhigh hretries => ?short, fun d hretry hdue htemp hact hwait huse hlatch => ?retry,
    fun raw temp hcool hhot => pvOvertemp_yields hp hlen hcool raw hhot,
    fun temp hhot hcool hretry hen hrun hact hwait huse hlatch => ?cooled, fun role hrun hlatched => vlvPClr_yields hp hlen role hrun hlatched⟩
  case period =>
    obtain ⟨m', hexec, hvlv, hmean, hframe⟩ := pvPwmPeriod_yields hs hp hlen hgate hrun hen hdue hmay raw duty
    refine ⟨m', hexec, hvlv.trans (congrArg (fun w => { s.m.vlv with pv := s.m.vlv.pv.set p w }) ?_), hmean, hframe⟩
    by_cases hk : c.dith = (s.m.at t).dithNo p
    · rw [PCh.averaged, if_pos hk, if_pos (by exact hk)]
      rfl
    · rw [PCh.averaged, if_neg hk, if_neg (by exact hk)]
      rfl
  case openLoad =>
    obtain ⟨m', hexec, hvlv, htoll, hframe⟩ := pvOpenLoad_yields hlen hact hset hlow hopen hdue
    rw [PCh.faulted, if_neg (Nat.not_le.2 hretries)] at hvlv
    exact ⟨m', hexec, hvlv, htoll, hframe⟩
  case short =>
    obtain ⟨m', hexec, hvlv, htoll, hframe⟩ := pvShort_yields hlen hact hhigh
    rw [PCh.faulted, if_pos hretries] at hvlv
    exact ⟨m', hexec, hvlv, htoll, hframe⟩
  case retry =>
    have hfree : (s.m.pch p).retried.free = true := by simp [PCh.free, PCh.retried, show (s.m.pch p).unusable = false from huse,
      show (s.m.pch p).latched = false from hlatch, show (s.m.pch p).overtemp = false from htemp]
    exact pv_set_yields rfl hlen (pvRetry_of_due (m := s.m.at t) hlen hgate hretry hdue htemp hwait hfree)
  case cooled =>
    have hfree : (s.m.pch p).cooled.free = true := by simp [PCh.free, PCh.cooled, show (s.m.pch p).unusable = false from huse,
      show (s.m.pch p).latched = false from hlatch, show (s.m.pch p).retryAt = none from hretry]
    exact pv_set_yields rfl hlen (pvOvertempCleared_of_cool (m := s.m.at t) hlen hgate hhot hcool hretry hen hrun hwait hfree)

end Sys2Proof.Machine
end

section
/-!
PROOFS. The statements of 09_valve_drivers.md: what the ejector drivers' shared operations change: one channel, a bank's stage, the obstacles
that pulses which wait take note of, and an arrival that enters its estimate.
-/
namespace Sys2Proof.Machine

/-! ### One ejector channel (R208) -/

section
variable {m : Mod} {c : Nat}

theorem Mod.setVch_vlv (h : c < m.vlv.ch.length) (f : VCh → VCh) :
    (m.setVch c f).vlv = { m.vlv with ch := m.vlv.ch.set c (f (m.vch c)) } := by
  simp [Mod.setVch, Mod.vch, updAt, List.modify_eq_set_getElem?, h]

theorem Mod.setVch_vlv_congr {a b : Mod} (h : b.vlv = a.vlv) (c : Nat) (f : VCh → VCh) : (b.setVch c f).vlv = (a.setVch c f).vlv := by
  simp only [Mod.setVch, h]

theorem Mod.setVch_setVch (m : Mod) (c : Nat) (f g : VCh → VCh) : (m.setVch c f).setVch c g = m.setVch c (fun v => g (f v)) := by
  simp only [Mod.setVch, updAt, List.modify_modify_eq]
  rfl

theorem Mod.setVch_id (m : Mod) (c : Nat) : m.setVch c id = m := by
  simp [Mod.setVch, updAt, List.modify_id]

/-- Changes that agree on the channel as it stands are one change. -/
theorem Mod.setVch_congr (h : c < m.vlv.ch.length) {f g : VCh → VCh} (hfg : f (m.vch c) = g (m.vch c)) : m.setVch c f = m.setVch c g := by
  have hvlv : (m.setVch c f).vlv = (m.setVch c g).vlv := by rw [Mod.setVch_vlv h, Mod.setVch_vlv h, hfg]
  exact congrArg (fun x => { m with vlv := x }) hvlv

@[simp] theorem Mod.setVch_ej (m : Mod) (c : Nat) (f : VCh → VCh) : (m.setVch c f).ej = m.ej := rfl
@[simp] theorem Mod.rd_setVch (m : Mod) (c : Nat) (f : VCh → VCh) (q : Param) (i j : Nat) : (m.setVch c f).rd q i j = m.rd q i j := rfl

end

/-! ### Obstacles that clear (R200) -/

/-- A pulse but for the obstacle that it keeps. -/
def EPulse.bare (q : EPulse) : EPulse := { q with obst := 0 }

/-- A pulse once the channels have changed from those of `m` to those of `a`. -/
def Mod.noted (m a : Mod) (p : EPulse) : EPulse :=
  if p.firm && p.into.isNone && p.started.isNone && (p.hs || p.grant = .held) && p.planned ≤ a.now then
    if m.countStands p && !a.countStands p then { p with obst := 2 }
    else if m.boostStands p && !a.boostStands p then { p with obst := 1 }
    else p
  else p

theorem Mod.bare_noted (m a : Mod) (p : EPulse) : (m.noted a p).bare = p.bare := by
  unfold Mod.noted
  split_ifs <;> rfl

section
variable {m : Mod} {f : Mod → Mod}

theorem Mod.noteClear_pulses (m : Mod) (f : Mod → Mod) : (m.noteClear f).ej.pulses = (f m).ej.pulses.map (m.noted (f m)) := rfl

@[simp] theorem Mod.noteClear_vlv (m : Mod) (f : Mod → Mod) : (m.noteClear f).vlv = (f m).vlv := rfl
@[simp] theorem Mod.noteClear_toll (m : Mod) (f : Mod → Mod) : (m.noteClear f).toll = (f m).toll := rfl
@[simp] theorem Mod.noteClear_free (m : Mod) (f : Mod → Mod) : (m.noteClear f).free = (f m).free := rfl
@[simp] theorem Mod.rd_noteClear (m : Mod) (f : Mod → Mod) (q : Param) (i j : Nat) : (m.noteClear f).rd q i j = (f m).rd q i j := rfl
@[simp] theorem Mod.vch_noteClear (m : Mod) (f : Mod → Mod) (c : Nat) : (m.noteClear f).vch c = (f m).vch c := rfl

theorem Mod.noteClear_bare (m : Mod) (f : Mod → Mod) : (m.noteClear f).ej.pulses.map EPulse.bare = (f m).ej.pulses.map EPulse.bare := by
  rw [Mod.noteClear_pulses, List.map_map]
  exact List.map_congr_left fun p _ => Mod.bare_noted m (f m) p

theorem Mod.Within.noteClear {as : List Area} {ws : List Nat} (h : Mod.Within as ws m (f m)) (hej : Area.ej ∈ as) :
    Mod.Within as ws m (m.noteClear f) := h.trans (.ofEj (f m) _ hej)

/-- No channel begins or ends being energised or in its boost. -/
def Mod.Still (a b : Mod) : Prop :=
  ∀ c, (b.vch c).energised = (a.vch c).energised ∧ decide ((b.vch c).phase = .boost) = decide ((a.vch c).phase = .boost)

/-- Where no channel begins or ends, no obstacle clears. -/
theorem Mod.noteClear_of_still (h : m.Still (f m)) : m.noteClear f = f m := by
  have hen : ∀ c x, (x ≠ c && ((f m).vch x).energised) = (x ≠ c && (m.vch x).energised) := fun c x => by rw [(h x).1]
  have hbank : ∀ b c, (f m).bankEnergised b c = m.bankEnergised b c := fun b c => by simp only [Mod.bankEnergised, hen]
  have hall : ∀ c, (f m).allEnergised c = m.allEnergised c := fun c => by simp only [Mod.allEnergised, hen]
  have hcount : ∀ p, (f m).countStands p = m.countStands p := fun p => by simp only [Mod.countStands, hbank, hall]
  have hboost : ∀ p, (f m).boostStands p = m.boostStands p := fun p => by
    simp only [Mod.boostStands, Mod.bankBoosts, (h _).2]
  have hkept : m.noted (f m) = id := by
    funext p
    simp [Mod.noted, hcount, hboost]
  have hej : (m.noteClear f).ej = (f m).ej := by
    change { (f m).ej with pulses := (f m).ej.pulses.map (m.noted (f m)) } = _
    rw [hkept, List.map_id]
  exact congrArg (fun x => { f m with ej := x }) hej

/-- So where one channel alone changes, and neither begins nor ends either. -/
theorem Mod.Still.of_setVch {a b : Mod} {c : Nat} {g : VCh → VCh} (h : b.vlv = (a.setVch c g).vlv) (hg : ∀ v, (g v).energised = v.energised)
    (hboost : (g (a.vch c)).phase = .boost ↔ (a.vch c).phase = .boost) : a.Still b := by
  intro k
  rw [Mod.vch_congr h]
  by_cases hk : k = c
  · subst hk
    rcases Nat.lt_or_ge k a.vlv.ch.length with hlt | hge
    · rw [Mod.vch_setVch hlt]
      exact ⟨hg _, decide_eq_decide.2 hboost⟩
    · rw [Mod.setVch_of_beyond hge]
      exact ⟨rfl, rfl⟩
  · rw [Mod.vch_setVch_ne a hk]
    exact ⟨rfl, rfl⟩

end

/-! ### A bank's stage that leaves HI (R210, R213, R216) -/

/-- What a stage that leaves HI shows a channel of its bank: a rise has the low side on without a break. -/
def VCh.stageOff (v : VCh) : VCh := { v with duty := if v.phase = .hsRise then (1, 1) else v.duty }

theorem VCh.seesStage_off : VCh.seesStage false (1, 1) = VCh.stageOff := by
  funext v
  simp [VCh.seesStage, VCh.stageOff]

theorem VCh.stageOff_eq_self {v : VCh} (h : v.phase ≠ .hsRise) : v.stageOff = v := by simp [VCh.stageOff, h]

/-- A change that is made to each channel of a list, and that made twice is made once. -/
theorem Mod.vch_foldl_setVch {f : VCh → VCh} (hf : ∀ v, f (f v) = f v) (l : List Nat) (m : Mod) (k : Nat) :
    (l.foldl (fun m x => m.setVch x f) m).vch k = if k ∈ l ∧ k < m.vlv.ch.length then f (m.vch k) else m.vch k := by
  induction l generalizing m with
  | nil => simp
  | cons c l ih =>
    rw [List.foldl_cons, ih, Mod.setVch, updAt, List.length_modify]
    change (if k ∈ l ∧ k < m.vlv.ch.length then f ((m.setVch c f).vch k) else (m.setVch c f).vch k) = _
    by_cases hlen : k < m.vlv.ch.length
    · by_cases hk : k = c
      · subst hk
        simp [hlen, Mod.vch_setVch hlen, hf]
      · simp [hlen, hk, Mod.vch_setVch_ne m hk]
    · have hsame : (m.setVch c f).vch k = m.vch k := by
        by_cases hk : k = c
        · rw [hk, Mod.setVch_of_beyond (hk ▸ Nat.not_lt.1 hlen)]
        · exact Mod.vch_setVch_ne m hk f
      simp [hlen, hsame]

/-- Changes of channels change nothing else. -/
theorem Mod.foldl_setVch_eq (f : VCh → VCh) (l : List Nat) (m : Mod) : l.foldl (fun m x => m.setVch x f) m
    = { m with vlv := { m.vlv with ch := (l.foldl (fun m x => m.setVch x f) m).vlv.ch } } := by
  induction l generalizing m with
  | nil => rfl
  | cons c l ih => exact ih (m.setVch c f)

section
variable {m : Mod} {c : Nat}

@[simp] theorem Mod.freeReserve_vlv (m : Mod) (id : Nat) : (m.freeReserve id).vlv = m.vlv := rfl

/-- A boost that ends changes its bank's stage and channels and the reservations, and nothing else. -/
theorem Mod.boostOver_eq (m : Mod) (c : Nat) : ∃ l, m.boostOver c
    = { m with vlv := { m.vlv with bankHi := m.vlv.bankHi.set (bankOf c) false, ch := l },
               toll := { m.toll with res := m.toll.res.filter (fun r => r.id ≠ (m.runningOn c).elim 0 (·.id)) } } := by
  have hhi : ∃ l, m.setHi (bankOf c) false (1, 1) = { m with vlv := { m.vlv with bankHi := m.vlv.bankHi.set (bankOf c) false, ch := l } } := by
    rw [Mod.setHi_eq, Mod.foldl_setVch_eq]
    exact ⟨_, rfl⟩
  obtain ⟨l, hl⟩ := hhi
  refine ⟨l, ?_⟩
  rw [Mod.boostOver, hl]
  rfl

@[simp] theorem Mod.boostOver_ej (m : Mod) (c : Nat) : (m.boostOver c).ej = m.ej := by
  obtain ⟨_, h⟩ := m.boostOver_eq c
  rw [h]
@[simp] theorem Mod.boostOver_now (m : Mod) (c : Nat) : (m.boostOver c).now = m.now := by
  obtain ⟨_, h⟩ := m.boostOver_eq c
  rw [h]
@[simp] theorem Mod.boostOver_free (m : Mod) (c : Nat) : (m.boostOver c).free = m.free := by
  obtain ⟨_, h⟩ := m.boostOver_eq c
  rw [h]
@[simp] theorem Mod.rd_boostOver (m : Mod) (c : Nat) (q : Param) (i j : Nat) : (m.boostOver c).rd q i j = m.rd q i j := by
  obtain ⟨_, h⟩ := m.boostOver_eq c
  rw [h]
  rfl

theorem Mod.boostOver_toll (m : Mod) (c : Nat) :
    (m.boostOver c).toll = { m.toll with res := m.toll.res.filter (fun r => r.id ≠ (m.runningOn c).elim 0 (·.id)) } := by
  obtain ⟨_, h⟩ := m.boostOver_eq c
  rw [h]

theorem Mod.boostOver_bankHi (m : Mod) (c : Nat) : (m.boostOver c).vlv.bankHi = m.vlv.bankHi.set (bankOf c) false := by
  obtain ⟨_, h⟩ := m.boostOver_eq c
  rw [h]

theorem Mod.Within.boostOver {as : List Area} {ws : List Nat} (m : Mod) (c : Nat) (hvlv : Area.vlv ∈ as) (htoll : Area.toll ∈ as) :
    Mod.Within as ws m (m.boostOver c) :=
  (Mod.AtCh.setHi (c := c) m (bankOf c) false (1, 1) hvlv).within.trans (.freeReserve _ _ htoll)

theorem Mod.vch_boostOver (m : Mod) (c k : Nat) : (m.boostOver c).vch k
    = if k ∈ bankChannels (bankOf c) ∧ k < m.vlv.ch.length then (m.vch k).stageOff else m.vch k := by
  have htwice : ∀ v : VCh, v.stageOff.stageOff = v.stageOff := fun v => by unfold VCh.stageOff; split <;> rfl
  have hhi : (m.boostOver c).vch k = (m.setHi (bankOf c) false (1, 1)).vch k :=
    Mod.vch_congr (Mod.freeReserve_vlv _ _) k
  rw [hhi, Mod.setHi_eq, VCh.seesStage_off]
  exact Mod.vch_foldl_setVch htwice (bankChannels (bankOf c)) { m with vlv := { m.vlv with bankHi := m.vlv.bankHi.set (bankOf c) false } } k

/-- Of a channel in no rise nothing changes. -/
theorem Mod.vch_boostOver_of_ne {k : Nat} (h : (m.vch k).phase ≠ .hsRise) : (m.boostOver c).vch k = m.vch k := by
  rw [Mod.vch_boostOver, VCh.stageOff_eq_self h, ite_self]

/-- A stage that has left HI is not there. -/
theorem getD_set_false (l : List Bool) (i : Nat) : (l.set i false).getD i false = false := by
  rw [List.getD_eq_getElem?_getD, List.getElem?_set]
  split_ifs <;> simp_all

theorem bankOf_of_mem {b k : Nat} (hb : b < 24) (h : k ∈ bankChannels b) : bankOf k = b := by
  obtain ⟨j, -, rfl⟩ := List.mem_map.1 h
  unfold bankOf
  omega

end

/-! ### A change of one channel (R210) -/

/-- A change touches one channel alone, but for the on-fraction of the rises of its bank; the other banks it leaves whole. -/
structure Mod.OneCh (c : Nat) (as : List Area) (ws : List Nat) (a b : Mod) : Prop where
  others : ∀ k, k ≠ c → b.vch k = { a.vch k with duty := (b.vch k).duty }
  apart : ∀ k, bankOf k ≠ bankOf c → b.vch k = a.vch k
  count : b.vlv.ch.length = a.vlv.ch.length
  service : b.vlv.bankOk = a.vlv.bankOk ∧ b.vlv.bankLost = a.vlv.bankLost
  within : Mod.Within as ws a b

section
variable {c : Nat} {as : List Area} {ws : List Nat} {a b d m : Mod}

theorem Mod.OneCh.trans (h : Mod.OneCh c as ws a b) (k : Mod.OneCh c as ws b d) : Mod.OneCh c as ws a d where
  others x hx := by
    rw [k.others x hx, h.others x hx]
  apart x hx := (k.apart x hx).trans (h.apart x hx)
  count := k.count.trans h.count
  service := ⟨k.service.1.trans h.service.1, k.service.2.trans h.service.2⟩
  within := h.within.trans k.within

theorem Mod.OneCh.of_within (hvlv : b.vlv = a.vlv) (h : Mod.Within as ws a b) : Mod.OneCh c as ws a b :=
  ⟨fun k _ => by rw [Mod.vch_congr hvlv], fun k _ => Mod.vch_congr hvlv k, by rw [hvlv], by rw [hvlv]; exact ⟨rfl, rfl⟩, h⟩

theorem Mod.OneCh.mono {as' : List Area} {ws' : List Nat} (h : Mod.OneCh c as ws a b) (has : as ⊆ as') (hws : ws ⊆ ws') : Mod.OneCh c as' ws' a b :=
  ⟨h.others, h.apart, h.count, h.service, h.within.mono has hws⟩

theorem Mod.OneCh.noteClear {f : Mod → Mod} (h : Mod.OneCh c as ws m (f m)) (hej : Area.ej ∈ as) : Mod.OneCh c as ws m (m.noteClear f) :=
  ⟨h.others, h.apart, h.count, h.service, h.within.noteClear hej⟩

theorem Mod.OneCh.refl (m : Mod) : Mod.OneCh c as ws m m := .of_within rfl (.refl m)

theorem Mod.OneCh.setVch (m : Mod) (f : VCh → VCh) (h : Area.vlv ∈ as) : Mod.OneCh c as ws m (m.setVch c f) :=
  ⟨fun _ hk => by rw [Mod.vch_setVch_ne m hk], fun _ hk => Mod.vch_setVch_ne m (fun h => hk (congrArg bankOf h)) f, List.length_modify _ _ _, ⟨rfl, rfl⟩,
   .setVch m c f h⟩

theorem Mod.OneCh.boostOver (m : Mod) (c : Nat) (hvlv : Area.vlv ∈ as) (htoll : Area.toll ∈ as) : Mod.OneCh c as ws m (m.boostOver c) where
  others k _ := by
    rw [Mod.vch_boostOver]
    split <;> rfl
  apart k hk := by
    rw [Mod.vch_boostOver, if_neg fun h => hk (bankOf_of_mem (bankOf_lt c) h.1)]
  count := Mod.length_foldl_setVch _ _ _
  service := by
    obtain ⟨_, h⟩ := m.boostOver_eq c
    rw [h]
    exact ⟨rfl, rfl⟩
  within := .boostOver m c hvlv htoll

theorem Mod.OneCh.inc (m : Mod) (q : Param) (i n j : Nat) (h : q.addr i j ∈ ws) : Mod.OneCh c as ws m (m.inc q i n j) :=
  .of_within (Mod.inc_vlv m q i n j) (.inc m q i n j h)

theorem Mod.OneCh.flag (m : Mod) (q : Param) (n i : Nat) (h : q.addr i ∈ ws) : Mod.OneCh c as ws m (m.flag q n i) :=
  .of_within (Mod.flag_vlv m q n i) (.flag m q n i h)

theorem Mod.OneCh.raise (m : Mod) (src code : Nat) (data : List Byte) : Mod.OneCh c as ws m (m.raise src code data) :=
  .of_within (Mod.raise_vlv m src code data) (.raise m src code data)

end

end Sys2Proof.Machine
end

section
/-!
PROOFS. The statements of 09_valve_drivers.md: a pulse's profile, from its boost to its rest.
-/
namespace Sys2Proof.Machine

section
variable {m : Mod} {c : Nat}

/-! ### The hold phase begins (R212, R214) -/

/-- A channel that begins its hold phase. -/
def Mod.holds (m : Mod) (c : Nat) (v : VCh) : VCh :=
  { v with phase := .hold, holdAt := m.now, holdMa := m.holdSet v, opens := 0, chopKey := Config.freeValue m.free,
           chopNs := chopLength (m.rd P.vlvChopF) (Config.freeValue m.free) 0, hiSeen := m.vlv.bankHi.getD (bankOf c) false }

theorem Mod.holdBegin_eq (m : Mod) (c : Nat) : m.holdBegin c = { m with free := m.free + 1 }.setVch c (m.holds c) := rfl

theorem Mod.vch_holdBegin (h : c < m.vlv.ch.length) : (m.holdBegin c).vch c = m.holds c (m.vch c) :=
  Mod.vch_setVch (m := { m with free := m.free + 1 }) h _

theorem Mod.vch_holdBegin_ne {k : Nat} (h : k ≠ c) : (m.holdBegin c).vch k = m.vch k :=
  Mod.vch_setVch_ne { m with free := m.free + 1 } h _

theorem Mod.OneCh.holdBegin {as : List Area} {ws : List Nat} (m : Mod) (c : Nat) (hvlv : Area.vlv ∈ as) (hfree : Area.free ∈ as) :
    Mod.OneCh c as ws m (m.holdBegin c) := by
  have hdrawn : Mod.OneCh c as ws m { m with free := m.free + 1 } := .of_within rfl (.ofFree m (m.free + 1) hfree)
  rw [Mod.holdBegin_eq]
  exact hdrawn.trans (.setVch _ _ hvlv)

@[simp] theorem Mod.holdBegin_toll (m : Mod) (c : Nat) : (m.holdBegin c).toll = m.toll := rfl
@[simp] theorem Mod.holdBegin_ej (m : Mod) (c : Nat) : (m.holdBegin c).ej = m.ej := rfl
@[simp] theorem Mod.holdBegin_free (m : Mod) (c : Nat) : (m.holdBegin c).free = m.free + 1 := rfl
@[simp] theorem Mod.holdBegin_bankHi (m : Mod) (c : Nat) : (m.holdBegin c).vlv.bankHi = m.vlv.bankHi := rfl

/-- A boost ends in hold. -/
def Mod.boostHeld (m : Mod) (c : Nat) : Mod := (m.boostOver c).holdBegin c

theorem Mod.vch_boostHeld (h : c < m.vlv.ch.length) (hphase : (m.vch c).phase = .boost) :
    (m.boostHeld c).vch c = { m.holds c (m.vch c) with hiSeen := false } := by
  have hlen : c < (m.boostOver c).vlv.ch.length :=
    h.trans_eq (Mod.OneCh.boostOver (as := [.vlv, .toll]) (ws := []) m c (by simp) (by simp)).count.symm
  rw [Mod.boostHeld, Mod.vch_holdBegin hlen, Mod.vch_boostOver_of_ne (by simp [hphase])]
  simp only [Mod.holds, Mod.holdSet, Mod.rd_boostOver, Mod.boostOver_now, Mod.boostOver_free, Mod.boostOver_bankHi, getD_set_false]

theorem Mod.OneCh.boostHeld {ws : List Nat} (m : Mod) (c : Nat) : Mod.OneCh c [.vlv, .toll, .ej, .free] ws m (m.boostHeld c) :=
  (Mod.OneCh.boostOver m c (by simp) (by simp)).trans (.holdBegin _ c (by simp) (by simp))

theorem Mod.boostHeld_bankHi (m : Mod) (c : Nat) : (m.boostHeld c).vlv.bankHi = m.vlv.bankHi.set (bankOf c) false := by
  rw [Mod.boostHeld, Mod.holdBegin_bankHi, Mod.boostOver_bankHi]

theorem Mod.boostHeld_toll (m : Mod) (c : Nat) :
    (m.boostHeld c).toll = { m.toll with res := m.toll.res.filter (fun r => r.id ≠ (m.runningOn c).elim 0 (·.id)) } := by
  rw [Mod.boostHeld, Mod.holdBegin_toll, Mod.boostOver_toll]

theorem Mod.boostHeld_ej (m : Mod) (c : Nat) : (m.boostHeld c).ej = m.ej := by rw [Mod.boostHeld, Mod.holdBegin_ej, Mod.boostOver_ej]

theorem Mod.boostHeld_free (m : Mod) (c : Nat) : (m.boostHeld c).free = m.free + 1 := by
  rw [Mod.boostHeld, Mod.holdBegin_free, Mod.boostOver_free]

/-- The rises of the bank have their low sides on without a break, once the stage has left HI (R216). -/
theorem Mod.duty_boostHeld {k : Nat} (hk : k ∈ bankChannels (bankOf c)) (hne : k ≠ c) (hlen : k < m.vlv.ch.length)
    (hrise : ((m.boostHeld c).vch k).phase = .hsRise) : ((m.boostHeld c).vch k).duty = (1, 1) := by
  have hsame : (m.boostHeld c).vch k = (m.vch k).stageOff := by
    rw [Mod.boostHeld, Mod.vch_holdBegin_ne hne, Mod.vch_boostOver, if_pos ⟨hk, hlen⟩]
  rw [hsame] at hrise ⊢
  exact if_pos hrise

/-! ### A boost ends (R212, R213, R229) -/

theorem boostEnd_of_peak {code : Nat} (hphase : (m.vch c).phase = .boost) (hpeak : m.rd P.vlvIPeak (m.vch c).pband ≤ m.coilMa c code) :
    boostEnd c code m = m.noteClear (fun m => m.boostHeld c) := by
  rw [boostEnd, if_neg (not_not.2 hphase), if_pos hpeak]
  rfl

/-- A boost ends at T_BOOST_MAX, as a fault. -/
def Mod.boostTimeout (m : Mod) (c ma : Nat) : Mod :=
  (((((m.boostHeld c).setVch c (fun v => { v with cut := some (v.cut.getD m.now) })).chanFault c 3).inc P.vlvBoostTimeouts).flag P.vlvFlags 4).raise
    (vlvSrc c) 0x0414 (leBytes 2 c ++ leBytes 2 ma)

theorem boostEnd_of_timeout {code : Nat} (hphase : (m.vch c).phase = .boost) (hlow : m.coilMa c code < m.rd P.vlvIPeak (m.vch c).pband)
    (hdue : (m.vch c).start + m.rd P.vlvTBoostMax (m.vch c).pband * 1000 ≤ m.now) :
    boostEnd c code m = m.noteClear (fun x => x.boostTimeout c (m.coilMa c code)) := by
  rw [boostEnd, if_neg (not_not.2 hphase), if_neg (Nat.not_le.2 hlow), if_pos hdue]
  rfl

/-- The words of a channel's fault. -/
def faultWords : List Nat := [P.vlvFaults.addr, P.vlvFlags.addr]

theorem Mod.OneCh.chanFault {as : List Area} {ws : List Nat} (m : Mod) (c fault : Nat) (hvlv : Area.vlv ∈ as) (hw : faultWords ⊆ ws) :
    Mod.OneCh c as ws m (m.chanFault c fault) :=
  ((Mod.OneCh.inc m _ _ _ _ (hw (by simp [faultWords]))).trans (.flag _ _ _ _ (hw (by simp [faultWords])))).trans (.setVch _ _ hvlv)

theorem Mod.chanFault_vlv (m : Mod) (c fault : Nat) : (m.chanFault c fault).vlv = (m.setVch c (fun v => { v with fault := fault })).vlv :=
  Mod.setVch_vlv_congr ((Mod.flag_vlv _ _ _ _).trans (Mod.inc_vlv _ _ _ _ _)) c _

@[simp] theorem Mod.setVch_bankHi (m : Mod) (c : Nat) (f : VCh → VCh) : (m.setVch c f).vlv.bankHi = m.vlv.bankHi := rfl

theorem Mod.boostTimeout_vlv (m : Mod) (c ma : Nat) : (m.boostTimeout c ma).vlv
    = ((m.boostHeld c).setVch c (fun v => { v with cut := some (v.cut.getD m.now), fault := 3 })).vlv := by
  rw [Mod.boostTimeout, Mod.raise_vlv, Mod.flag_vlv, Mod.inc_vlv, Mod.chanFault_vlv, Mod.setVch_setVch]

theorem Mod.vch_boostTimeout (hlen : c < m.vlv.ch.length) (hphase : (m.vch c).phase = .boost) (ma : Nat) : (m.boostTimeout c ma).vch c
    = { m.holds c (m.vch c) with hiSeen := false, cut := some ((m.vch c).cut.getD m.now), fault := 3 } := by
  have hlen' : c < (m.boostHeld c).vlv.ch.length := hlen.trans_eq (Mod.OneCh.boostHeld (ws := []) m c).count.symm
  rw [Mod.vch_congr (Mod.boostTimeout_vlv _ _ _), Mod.vch_setVch hlen', Mod.vch_boostHeld hlen hphase]
  rfl

theorem Mod.boostTimeout_bankHi (m : Mod) (c ma : Nat) : (m.boostTimeout c ma).vlv.bankHi = m.vlv.bankHi.set (bankOf c) false := by
  rw [Mod.boostTimeout_vlv, Mod.setVch_bankHi, Mod.boostHeld_bankHi]

theorem Mod.boostTimeout_ej (m : Mod) (c ma : Nat) : (m.boostTimeout c ma).ej = m.ej := by
  rw [Mod.boostTimeout, Mod.raise_ej, Mod.flag_ej, Mod.inc_ej, Mod.chanFault, Mod.setVch_ej, Mod.flag_ej, Mod.inc_ej, Mod.setVch_ej, Mod.boostHeld_ej]

theorem Mod.OneCh.boostTimeout (m : Mod) (c ma : Nat) :
    Mod.OneCh c [.vlv, .toll, .ej, .free] (P.vlvBoostTimeouts.addr :: faultWords) m (m.boostTimeout c ma) :=
  (((((Mod.OneCh.boostHeld m c).trans (.setVch _ _ (by simp))).trans (.chanFault _ c 3 (by simp) (by simp))).trans
    (.inc _ _ _ _ _ (by simp))).trans (.flag _ _ _ _ (by simp [faultWords]))).trans (.raise _ _ _ _)

theorem Mod.rd_boostTimeout (hwf : Store.wf m.regs = true) (c ma : Nat) :
    (m.boostTimeout c ma).rd P.vlvBoostTimeouts = (m.rd P.vlvBoostTimeouts + 1) % 2 ^ 32
    ∧ (m.boostTimeout c ma).rd P.vlvFaults = (m.rd P.vlvFaults + 1) % 2 ^ 32 := by
  let x := (m.boostHeld c).setVch c (fun v => { v with cut := some (v.cut.getD m.now) })
  have hheld : ∀ {ws}, Mod.Within [.vlv, .toll, .ej, .free] ws m x := (Mod.OneCh.boostHeld m c).within.trans (.setVch _ c _ (by simp))
  constructor
  · have hfaults : Mod.Within [.vlv, .toll, .ej, .free] faultWords m (x.chanFault c 3) :=
      hheld.trans (Mod.OneCh.chanFault _ c 3 (by simp) (by simp)).within
    have hends : Mod.Within [] [P.vlvFlags.addr] ((x.chanFault c 3).inc P.vlvBoostTimeouts) (m.boostTimeout c ma) :=
      (Mod.Within.flag _ _ _ _ (by simp)).trans (.raise _ _ _ _)
    exact hfaults.rd_counted hends hwf rfl (by decide) (by decide) (by decide)
  · have hends : Mod.Within [.vlv] [P.vlvFlags.addr, P.vlvBoostTimeouts.addr] (x.inc P.vlvFaults) (m.boostTimeout c ma) :=
      (((Mod.Within.flag _ P.vlvFlags 16 0 (by simp)).trans (.setVch _ c _ (by simp))).trans (.inc _ _ _ _ _ (by simp))).trans
        ((Mod.Within.flag _ _ _ _ (by simp)).trans (.raise _ _ _ _))
    exact (hheld (ws := [])).rd_counted hends hwf rfl (by simp) (by decide) (by decide)

end

section
variable {m : Mod} {c : Nat}

/-! ### The rise of a hold-start ends (R212) -/

theorem hsRiseEnd_of_due {code : Nat} (hphase : (m.vch c).phase = .hsRise)
    (hdue : m.rd P.vlvIPeak (m.vch c).pband ≤ m.coilMa c code ∨ (m.vch c).start + m.rd P.vlvHsTMax * 1000 ≤ m.now) :
    hsRiseEnd c code m = m.holdBegin c := by
  have hcond : ((m.vch c).phase = .hsRise && (m.rd P.vlvIPeak (m.vch c).pband ≤ m.coilMa c code
      || (m.vch c).start + m.rd P.vlvHsTMax * 1000 ≤ m.now)) = true := by
    rw [Bool.and_eq_true, Bool.or_eq_true, decide_eq_true_eq, decide_eq_true_eq, decide_eq_true_eq]
    exact ⟨hphase, hdue⟩
  exact if_pos hcond

/-! ### The low side opens (R214) -/

/-- A channel whose low side opens at `now`. -/
def VCh.lowOpen (now : Nat) (v : VCh) : VCh := { v.released now with opened := true, holdMa := 0, phase := .decay }

theorem Mod.enterArrival_of_none (h : (m.vch c).arr = none) : m.enterArrival c = m := by
  unfold Mod.enterArrival
  rw [h]

/-- Where a hold phase ends with its low side, and what it found changes the channel by `g`, no obstacle clears. -/
theorem lowSideOpen_of_hold {last : List CoilSmp} {g : VCh → VCh} (hen : (m.vch c).energised = true) (hclosed : (m.vch c).opened = false)
    (hphase : (m.vch c).phase = .hold) (hdue : (m.vch c).off ≤ m.now + m.rd P.vlvAdv (m.vch c).pband * 1000)
    (hvlv : ((m.enterArrival c).holdEnds c last).vlv = (m.setVch c g).vlv) (hg : ∀ v, (g v).energised = v.energised) :
    lowSideOpen c last m = ((m.enterArrival c).holdEnds c last).setVch c (VCh.lowOpen m.now) := by
  have hboost : ¬ (m.vch c).phase = .boost := by simp [hphase]
  have hcond : ¬ (!(m.vch c).energised || (m.vch c).opened || m.now + m.rd P.vlvAdv (m.vch c).pband * 1000 < (m.vch c).off) = true := by
    simp [hen, hclosed, hdue]
  have hopened : lowSideOpen c last m = m.noteClear (fun x => ((x.enterArrival c).holdEnds c last).setVch c (VCh.lowOpen x.now)) := by
    rw [lowSideOpen, if_neg hcond]
    simp only [if_neg hboost]
    rfl
  rw [hopened]
  refine Mod.noteClear_of_still (.of_setVch (c := c) (g := fun v => VCh.lowOpen m.now (g v)) ?_ hg ?_)
  · rw [Mod.setVch_vlv_congr hvlv, Mod.setVch_setVch]
  · simp [VCh.lowOpen, hphase]

theorem Mod.holdEnds_of_seen (h : (m.vch c).hiSeen = true) (last : List CoilSmp) : m.holdEnds c last = m := by
  simp [Mod.holdEnds, h]

/-- A hold phase of at least 1 ms whose stage was never HI corrects the coil's temperature (R226). -/
theorem Mod.holdEnds_of_measured {last : List CoilSmp} (hphase : (m.vch c).phase = .hold) (hseen : (m.vch c).hiSeen = false)
    (hlong : (m.vch c).holdAt + 1000000 ≤ m.now) : m.holdEnds c last = m.coilMeasured c last := by
  have hcond : ((m.vch c).phase = .hold && !(m.vch c).hiSeen && (m.vch c).holdAt + 1000000 ≤ m.now) = true := by
    rw [hphase, hseen, Bool.and_eq_true, decide_eq_true_eq]
    exact ⟨rfl, hlong⟩
  exact if_pos hcond

/-- The temperature that a hold phase's samples correct a coil's to (R226). -/
def Mod.corrected (m : Mod) (c : Nat) (last : List CoilSmp) : Int :=
  let i := sumOf (last.map (fun x => m.coilMa c x.code))
  let rho := m.calN P.vlvRes c
  let rhoM := rdiv (last.foldl (fun a x => a + m.coilNv c x) 0) i
  let tm := 20 * degree + rdiv ((rhoM - (rho : Int) * 1000) * 100000 * degree) (rho * 1000 * 393)
  (m.vch c).tc + rdiv ((tm - (m.vch c).tc) * (m.rd P.vlvRcorr : Int)) 256

theorem Mod.coilMeasured_of_current {last : List CoilSmp} (hlast : last.length = 500) (hi : sumOf (last.map (fun x => m.coilMa c x.code)) ≠ 0)
    (hrho : m.calN P.vlvRes c ≠ 0) (hk : m.rd P.vlvRcorr ≠ 0) : m.coilMeasured c last = m.setCoil c (m.corrected c last) := by
  have hcond : ¬ (m.rd P.vlvRcorr = 0 || sumOf (last.map (fun x => m.coilMa c x.code)) = 0 || m.calN P.vlvRes c = 0 || last.length ≠ 500) = true := by
    simp [hlast, hi, hrho, hk]
  exact if_neg hcond

/-! ### An arrival enters its estimate (R222, R223) -/

/-- The estimate after a valid sample `d` µs. -/
def Est.learned (e : Est) (d learn : Nat) : Est :=
  { n := e.n + 1, x := e.x + rdiv (((d * 65536 : Nat) : Int) - e.x) (Nat.min (e.n + 1) learn), disc := [] }

theorem Est.take_of_lt {e : Est} (h : e.n < 16) (d gate learn : Nat) : e.take d gate learn = (e.learned d learn, false, false) := by
  have hcond : ¬ (16 ≤ e.n && (gate * 65536 : Nat) < (((d * 65536 : Nat) : Int) - e.x).natAbs) = true := by
    simp [Nat.not_le.2 h]
  exact if_neg hcond

/-- A channel whose boosted pulse has trained its opening delay with a sample that is not discarded. -/
def VCh.trained (e : Est) (v : VCh) : VCh :=
  { v with arr := none, valid := Nat.min 65535 (v.valid + 1), d := e,
           pend := if 16 ≤ e.n then v.pend ++ [(true, e.us, none)] else v.pend }

/-- The words of a valid sample: its count, and the channel's last sample `d` µs with its inductance `l` in µH. -/
def Mod.sampleTaken (m : Mod) (c d l : Nat) : Mod := (m.inc P.vlvDetValid).wr P.vlvDLast (Nat.min l 65535 * 65536 + Nat.min d 65535) c

/-- A channel whose estimate is `e` after a sample, which the delay in force follows if it is `used`. -/
def VCh.learns (e : Est) (used : Bool) (v : VCh) : VCh :=
  let w := if v.hs then { v with dhs := e } else { v with d := e }
  { w with pend := if 16 ≤ e.n && used then w.pend ++ [(!w.hs, e.us, none)] else w.pend }

/-- A channel with one valid sample more, which has entered its estimate. -/
def VCh.counted (v : VCh) : VCh := { v with valid := Nat.min 65535 (v.valid + 1), arr := none }

theorem VCh.counted_learns {v : VCh} (h : v.hs = false) (e : Est) : (v.learns e true).counted = v.trained e := by
  simp [VCh.learns, VCh.counted, VCh.trained, h]

theorem Mod.enterArrival_of_used {d l : Nat} {e : Est} (harr : (m.vch c).arr = some (d, l)) (hhs : (m.vch c).hs = false)
    (htake : (m.vch c).d.take d (m.rd P.vlvDetGate) (m.rd P.vlvLearnN) = (e, false, false)) :
    m.enterArrival c = ((m.setVch c (VCh.learns e true)).sampleTaken c d l).setVch c VCh.counted := by
  have htaken : m.enterArrival c = (m.takeArrival c d l).setVch c (fun v => { v with arr := none }) := by
    unfold Mod.enterArrival
    rw [harr]
  have hold : (if (m.vch c).hs = true then (m.vch c).dhs else (m.vch c).d) = (m.vch c).d := if_neg (by simp [hhs])
  have hcount : m.takeArrival c d l
      = ((m.setVch c (VCh.learns e true)).sampleTaken c d l).setVch c (fun v => { v with valid := Nat.min 65535 (v.valid + 1) }) := by
    unfold Mod.takeArrival
    dsimp only
    rw [hold, htake]
    rfl
  rw [htaken, hcount, Mod.setVch_setVch]
  rfl

theorem Mod.sampleTaken_vlv (m : Mod) (c d l : Nat) : (m.sampleTaken c d l).vlv = m.vlv := by
  rw [Mod.sampleTaken, Mod.wr_vlv, Mod.inc_vlv]

theorem Mod.enterArrival_vlv {d l : Nat} (hlen : c < m.vlv.ch.length) (harr : (m.vch c).arr = some (d, l)) (hhs : (m.vch c).hs = false)
    (hn : (m.vch c).d.n < 16) :
    (m.enterArrival c).vlv = (m.setVch c (VCh.trained ((m.vch c).d.learned d (m.rd P.vlvLearnN)))).vlv := by
  rw [Mod.enterArrival_of_used harr hhs (Est.take_of_lt hn _ _ _), Mod.setVch_vlv_congr (Mod.sampleTaken_vlv _ _ _ _), Mod.setVch_setVch]
  exact congrArg Mod.vlv (Mod.setVch_congr hlen (VCh.counted_learns hhs _))

end

section
variable {m : Mod} {c : Nat}

theorem Mod.Within.enterArrival_of_used {d l : Nat} {e : Est} (harr : (m.vch c).arr = some (d, l)) (hhs : (m.vch c).hs = false)
    (htake : (m.vch c).d.take d (m.rd P.vlvDetGate) (m.rd P.vlvLearnN) = (e, false, false)) :
    Mod.Within [.vlv] [P.vlvDetValid.addr, P.vlvDLast.addr c] m (m.enterArrival c) := by
  rw [Mod.enterArrival_of_used harr hhs htake]
  exact (((Mod.Within.setVch m c _ (by simp)).trans (.inc _ _ _ _ _ (by simp))).trans (.wr _ _ _ _ _ (by simp))).trans (.setVch _ c _ (by simp))

theorem Mod.rd_enterArrival {d l : Nat} {e : Est} (hwf : Store.wf m.regs = true) (harr : (m.vch c).arr = some (d, l)) (hhs : (m.vch c).hs = false)
    (htake : (m.vch c).d.take d (m.rd P.vlvDetGate) (m.rd P.vlvLearnN) = (e, false, false)) (hc : c < 384) :
    (m.enterArrival c).rd P.vlvDetValid = (m.rd P.vlvDetValid + 1) % 2 ^ 32
    ∧ (m.enterArrival c).rd P.vlvDLast c = Nat.min l 65535 * 65536 + Nat.min d 65535 := by
  have hwf' : Store.wf ((m.setVch c (VCh.learns e true)).inc P.vlvDetValid).regs = true := Mod.inc_wf (m := m.setVch c _) hwf _ _ _ _
  have hne : P.vlvDetValid.addr ≠ P.vlvDLast.addr c := by simp [Param.addr, P.vlvDetValid, P.vlvDLast]; omega
  rw [Mod.enterArrival_of_used harr hhs htake, Mod.rd_setVch, Mod.rd_setVch, Mod.sampleTaken]
  constructor
  · rw [Mod.rd_wr_ne hwf' hne, Mod.rd_inc_full (m := m.setVch c _) hwf rfl, Mod.rd_setVch]
  · have hl : Nat.min l 65535 ≤ 65535 := Nat.min_le_right _ _
    have hd : Nat.min d 65535 ≤ 65535 := Nat.min_le_right _ _
    have hwidth : P.vlvDLast.w = 32 := rfl
    rw [Mod.rd_wr hwf', hwidth, Nat.mod_mod, Nat.mod_eq_of_lt (by omega)]

/-! ### The release (R194, R199, R201, R203) -/

@[simp] theorem Mod.noteFired_vlv (m : Mod) (q : EPulse) (late moved : Nat) : (m.noteFired q late moved).vlv = m.vlv := by
  rw [Mod.noteFired, Mod.peak_vlv, Mod.setPlan_vlv, Mod.dropPulse_vlv]

theorem Mod.noteFired_pulses (m : Mod) (q : EPulse) (late moved : Nat) :
    (m.noteFired q late moved).ej.pulses = m.ej.pulses.filter (fun x => x.id ≠ q.id) := by
  rw [Mod.noteFired, Mod.peak_ej, Mod.setPlan_ej]
  rfl

theorem EPulse.filter_filter_cons (q : EPulse) (l ps : List EPulse) :
    (ps.filter (fun x => x.id ≠ q.id)).filter (fun x => ∀ y ∈ l, x.id ≠ y.id) = ps.filter (fun x => ∀ y ∈ q :: l, x.id ≠ y.id) := by
  rw [List.filter_filter]
  refine List.filter_congr fun x _ => ?_
  simp [Bool.and_comm]

/-- Pulses fired together leave the schedule together. -/
theorem Mod.foldl_noteFired (late moved : EPulse → Nat) (l : List EPulse) (m : Mod) :
    (l.foldl (fun a q => a.noteFired q (late q) (moved q)) m).vlv = m.vlv
    ∧ (l.foldl (fun a q => a.noteFired q (late q) (moved q)) m).ej.pulses = m.ej.pulses.filter (fun x => ∀ q ∈ l, x.id ≠ q.id)
    ∧ Mod.Within [.vlv, .ej, .trk] [P.ejShiftMax.addr] m (l.foldl (fun a q => a.noteFired q (late q) (moved q)) m) := by
  induction l generalizing m with
  | nil => exact ⟨rfl, by simp, .refl m⟩
  | cons q l ih =>
    obtain ⟨hvlv, hpulses, hwithin⟩ := ih (m.noteFired q (late q) (moved q))
    refine ⟨hvlv.trans (Mod.noteFired_vlv _ _ _ _), ?_, (Mod.Within.noteFired m q _ _ (by simp) (by simp) (by simp)).trans hwithin⟩
    rw [List.foldl_cons, hpulses, Mod.noteFired_pulses, EPulse.filter_filter_cons]

theorem Mod.firePulse_spec (m : Mod) (p : EPulse) : (m.firePulse p).vlv = m.vlv
    ∧ (m.firePulse p).ej.pulses = m.ej.pulses.filter (fun x => ∀ q ∈ p :: m.followers p.id, x.id ≠ q.id)
    ∧ Mod.Within [.vlv, .ej, .trk] [P.ejShiftMax.addr] m (m.firePulse p) := by
  obtain ⟨hvlv, hpulses, hwithin⟩ := Mod.foldl_noteFired (fun q => p.shift - q.late0) (fun q => m.releaseOf p - q.off) (m.followers p.id)
    (m.noteFired p p.lateness (m.releaseOf p - p.off))
  refine ⟨hvlv.trans (Mod.noteFired_vlv _ _ _ _), hpulses.trans ?_, (Mod.Within.noteFired m p _ _ (by simp) (by simp) (by simp)).trans hwithin⟩
  rw [Mod.noteFired_pulses, EPulse.filter_filter_cons]

/-- A channel that is released at `now`. -/
def VCh.shut (now : Nat) (v : VCh) : VCh := { v.released now with energised := false, opened := true, holdMa := 0, phase := .decay }

/-- The release of a channel's pulse. -/
def Mod.releases (m : Mod) (c : Nat) (p : EPulse) : Mod := (m.firePulse p).setVch c (VCh.shut m.now)

theorem pulseRelease_of_due {p : EPulse} (hen : (m.vch c).energised = true) (hidle : (m.vch c).phase ≠ .idle) (hboost : (m.vch c).phase ≠ .boost)
    (hdue : (m.vch c).off ≤ m.now) (htick : m.now % 1000 = 0) (hp : m.runningOn c = some p) (harr : (m.vch c).arr = none) :
    pulseRelease c m = m.noteClear (fun m => m.releaseNow c) ∧ m.releaseNow c = m.releases c p := by
  have hcond : ¬ (!(m.vch c).energised || m.now < (m.vch c).off || m.now % 1000 ≠ 0) = true := by
    simp [hen, hdue, htick]
  have harr' : ((m.firePulse p).vch c).arr = none := by rw [Mod.vch_congr (m.firePulse_spec p).1, harr]
  refine ⟨if_neg hcond, ?_⟩
  unfold Mod.releaseNow
  simp only [if_neg hidle, if_neg hboost, hp]
  rw [Mod.enterArrival_of_none harr']
  rfl

/-! ### The decay (R212, R221, R222) -/

theorem VCh.settled_of_none {v : VCh} (h : v.pend = []) (now : Nat) : v.settled now = v := by
  have hsame : { v with pend := [] } = v := by rw [← h]
  simp only [VCh.settled, h, List.filter_nil, List.foldl_nil]
  exact hsame

/-- A delay whose time has come is in force. -/
theorem VCh.settled_of_due {v : VCh} {boost : Bool} {x u now : Nat} (h : v.pend = [(boost, x, some u)]) (hdue : u ≤ now) : v.settled now
    = { v with pend := [], dMeas := if boost then some x else v.dMeas, dhsMeas := if boost then v.dhsMeas else some x } := by
  unfold VCh.settled
  rw [h]
  cases boost <;> simp [hdue]

/-- Where nothing is due nothing is taken up. -/
theorem Mod.settleDelays_of_settled (hlen : c < m.vlv.ch.length) (h : (m.vch c).settled m.now = m.vch c) : m.settleDelays c = m := by
  have hset : m.setVch c (fun _ => m.vch c) = m := (Mod.setVch_congr (f := fun _ => m.vch c) (g := id) hlen rfl).trans (Mod.setVch_id m c)
  have hnone : ∀ x : Option Nat, (x.isNone && x.isSome) = false := fun x => by cases x <;> rfl
  unfold Mod.settleDelays
  simp only [h, hset, hnone, Bool.false_eq_true, if_false]

theorem Mod.closeSample_of_judged (hjudged : (m.vch c).judged = true) (harr : (m.vch c).arr = none) : m.closeSample c = m := by
  simp [Mod.closeSample, hjudged, harr]

theorem decayEnd_of_low {code : Nat} (hphase : (m.vch c).phase = .decay) (hlow : m.coilMa c code < 20) :
    decayEnd c code m = ((m.closeSample c).settleDelays c).setVch c (fun v => { v with phase := .idle }) := by
  have hcond : ((m.vch c).phase = .decay && m.coilMa c code < 20) = true := by simp [hphase, hlow]
  exact if_pos hcond

/-- A channel at rest, with the delays that are in force at `now`. -/
def VCh.rested (now : Nat) (v : VCh) : VCh := { v.settled now with phase := .idle }

theorem Mod.settleDelays_rest_vlv (hlen : c < m.vlv.ch.length) :
    ((m.settleDelays c).setVch c (fun v => { v with phase := .idle })).vlv = (m.setVch c (VCh.rested m.now)).vlv := by
  rw [Mod.setVch_vlv_congr (m.settleDelays_evented c).vlv, Mod.setVch_setVch]
  exact congrArg Mod.vlv (Mod.setVch_congr hlen rfl)

/-! ### The arrival (R220, R221) -/

/-- What the running pulse's samples show of its arrival. -/
def Mod.arrivalIn (m : Mod) (c : Nat) (smp : List CoilSmp) : Option (Nat × Int × Nat) :=
  arrivalFrom (m.arrivalTh c) (m.rd P.vlvDetBlank) (m.rd P.vlvDetMax) 1 none
    (fluxRun (m.rhoNow c) 0 (smp.map (fun x => (m.coilNv c x, m.coilMa c x.code))))

/-- Nothing stands against a sample at the arrival `na`: no restart, no cut before it, no saturated code up to it. -/
def VCh.clean (v : VCh) (smp : List CoilSmp) (na : Nat) : Bool :=
  !v.restarted && !v.cut.any (fun t => t < v.start + na * 1000) && (smp.take na).all (fun s => s.code < 4095)

theorem arrivalDetected_of_found {smp : List CoilSmp} {na i : Nat} {lam : Int} (hc : c < 384) (hlen : c < m.vlv.ch.length)
    (hidle : (m.vch c).phase ≠ .idle) (hdecay : (m.vch c).phase ≠ .decay) (hjudged : (m.vch c).judged = false) (hpend : (m.vch c).pend = [])
    (hdue : (m.vch c).start + smp.length * 1000 ≤ m.now) (hfound : m.arrivalIn c smp = some (na, lam, i)) :
    arrivalDetected c smp m = if (m.vch c).clean smp na then
        (m.setVch c (fun v => { v with judged := true })).setVch c
          (fun v => { v with arr := some (na + m.calN P.vlvAirLat c, (rdiv lam (i * 1000000)).toNat) })
      else (m.setVch c (fun v => { v with judged := true })).inc P.vlvDetNone := by
  have hcond : (c < 384 && (m.vch c).phase ≠ .idle && (m.vch c).phase ≠ .decay && !(m.vch c).judged
      && (m.vch c).start + smp.length * 1000 ≤ m.now) = true := by
    simp [hc, hidle, hdecay, hjudged, hdue]
  unfold arrivalDetected
  simp only [Mod.settleDelays_of_settled hlen (VCh.settled_of_none hpend _)]
  rw [if_pos hcond, ← Mod.arrivalIn, hfound]
  rfl

end

/-! ### One event that the firmware is told of (R383, R384) -/

section
variable {m : Mod} {r : Raised}

theorem Mod.traceEvent_of_noTrace {src : Nat} (h : m.NoTrace src) : m.traceEvent src = m := by
  have hnone : (List.range 8).filter (fun n => field (m.rd P.loopTrTrig n) 31 30 = 3 && field (m.rd P.loopTrTrig n) 6 0 = src) = [] := by
    rw [List.filter_eq_nil_iff]
    intro n hn hwaits
    rw [Bool.and_eq_true, decide_eq_true_eq, decide_eq_true_eq] at hwaits
    exact h n (List.mem_range.1 hn) hwaits.1 hwaits.2
  rw [Mod.traceEvent, hnone]
  rfl

/-- An event that no trace waits for, and that goes to the firmware and not to the recorder, stands at the end of the delivery queue. -/
theorem Mod.takeEvent_of_told (htrace : m.NoTrace r.src) (hrec : (m.rd P.evcRoute r.src).testBit 2 = false)
    (hfw : (m.rd P.evcRoute r.src).testBit 0 = true) (hroom : m.evc.q.length < 4096) :
    ∃ e x, (m.takeEvent r).evc.q = m.evc.q ++ [e] ∧ (e.src = r.src ∧ e.code = r.code ∧ e.fw = true)
      ∧ (m.takeEvent r).evc.raised = m.evc.raised ∧ (m.takeEvent r).evc.tick = m.tickNow ++ [x] := by
  let m1 := { m with evc := { m.evc with
    seq := (m.evc.seq + 1) % 2 ^ 32, counts := assocAdd m.evc.counts r.src 1, tickAt := m.now / 1000,
    tick := m.tickNow ++ [({ prio := m.prio r.src, src := r.src, code := r.code, seq := (m.evc.seq + 1) % 2 ^ 32 } : Ticked)] } }
  have hroute : ((m.rd P.evcRoute r.src).testBit 2 && !r.norec && r.src ≠ 120) = false := by simp [hrec]
  have htraced : m1.traceEvent r.src = m1 := Mod.traceEvent_of_noTrace htrace
  have hroom' : m1.evc.q.length < 4096 := hroom
  unfold Mod.takeEvent
  simp only [hroute, hfw, Bool.true_or, if_true, Bool.false_eq_true, if_false]
  rw [show ({ m with evc := _ } : Mod) = m1 from rfl, htraced, Mod.queueEvent, if_pos hroom']
  exact ⟨_, _, rfl, ⟨rfl, rfl, rfl⟩, rfl, rfl⟩

end

/-- A command that raises one event, alone in its tick, tells the firmware of it. -/
theorem Told.of_run {m : Mod} {t src code : Nat} {d : List Byte} {f : Mod → Mod} (hplain : m.Plain t src)
    (hfw : (m.rd P.evcRoute src).testBit 0 = true) (hnow : (f (m.at t)).now = (m.at t).now) (hregs : (f (m.at t)).regs = m.regs)
    (hevc : (f (m.at t)).evc = ((m.at t).raise src code d).evc) : Told src code m (Mod.run t f m) := by
  obtain ⟨hraised, htick, htrace, hrec, hroom⟩ := hplain
  generalize hx : f (m.at t) = x at hnow hregs hevc
  let r : Raised := { src := src, code := code, data := d, norec := false }
  have hone : x.evc.raised = [r] := by
    rw [hevc]
    exact congrArg (· ++ [r]) hraised
  let x0 : Mod := { x with evc := { x.evc with raised := [] } }
  have hword : ∀ (p : Param) (i : Nat), x0.rd p i = m.rd p i := fun p i => Mod.rd_congr hregs p i 0
  have htick0 : x0.tickNow = [] := by
    have hsame : x0.tickNow = (m.at t).tickNow := by
      simp only [Mod.tickNow, x0, hnow, hevc]
      rfl
    rw [hsame, htick]
  have hq : x.evc.q = m.evc.q := by
    rw [hevc]
    rfl
  obtain ⟨e, y, hadded, he, hrest, hticked⟩ := Mod.takeEvent_of_told (m := x0) (r := r)
    (fun n hn => by rw [hword]; exact htrace n hn) (by rw [hword]; exact hrec) (by rw [hword]; exact hfw) (hq.symm ▸ hroom)
  have honce : x.flushOnce = x0.takeEvent r := Mod.flushOnce_of_one hone
  have hall : x.flush = x0.takeEvent r := by
    have hsome : ¬ x.evc.raised = [] := by simp [hone]
    rw [Mod.flush, if_neg hsome, Mod.flushN, if_neg hsome, honce, Mod.flushN, if_pos hrest, Mod.renumber_of_one (x := y)]
    rw [hticked, htick0, List.nil_append]
  refine ⟨e, ?_, he⟩
  have hrun : (Mod.run t f m).evc = x.flush.evc := by rw [Mod.run_eq, hx]; rfl
  rw [hrun, hall, hadded]
  exact congrArg (· ++ [e]) hq

/-! ### The commands of a profile (R212 to R223, R229) -/

theorem Mod.vch_run (t : Nat) (f : Mod → Mod) (m : Mod) (k : Nat) : (Mod.run t f m).vch k = (f (m.at t)).vch k :=
  Mod.vch_congr (Mod.run_vlv t f m) k

section
variable {s : State} {t ch : Nat}

/-- What a command leaves of the drivers, where it leaves one channel changed. -/
theorem Mod.run_setVch_vlv {f : Mod → Mod} {g : VCh → VCh} (hlen : ch < s.m.vlv.ch.length)
    (hvlv : (f (s.m.at t)).vlv = ((s.m.at t).setVch ch g).vlv) :
    (Mod.run t f s.m).vlv = { s.m.vlv with ch := s.m.vlv.ch.set ch (g (s.m.vch ch)) } := by
  rw [Mod.run_vlv, hvlv, Mod.setVch_vlv (m := s.m.at t) hlen]
  rfl

/-- A command that does nothing but change one channel. -/
theorem vch_set_yields {c : Instr} {f : Mod → Mod} {g : VCh → VCh} (hexec : exec c s = s.run t f) (hlen : ch < s.m.vlv.ch.length)
    (hmean : f (s.m.at t) = (s.m.at t).setVch ch g) : s.Yields c fun m' =>
      m'.vlv = { s.m.vlv with ch := s.m.vlv.ch.set ch (g (s.m.vch ch)) } ∧ Mod.Frame t [.vlv] [] s.m m' :=
  State.yields_frame hexec (hmean ▸ .setVch _ _ _ (by simp)) (Mod.run_setVch_vlv hlen (congrArg Mod.vlv hmean))

theorem boostEnd_held_yields {code : Nat} (hlen : ch < s.m.vlv.ch.length) (hphase : (s.m.vch ch).phase = .boost)
    (hpeak : s.m.rd P.vlvIPeak (s.m.vch ch).pband ≤ s.m.coilMa ch code) : s.Yields (.boostEnd t ch code) fun m' =>
      m'.vch ch = { (s.m.at t).holds ch (s.m.vch ch) with hiSeen := false } ∧ m'.free = s.m.free + 1
      ∧ (∀ c, c ≠ ch → m'.vch c = { s.m.vch c with duty := (m'.vch c).duty }) ∧ m'.vlv.bankHi = s.m.vlv.bankHi.set (bankOf ch) false
      ∧ (∀ c ∈ bankChannels (bankOf ch), (m'.vch c).phase = .hsRise → c < s.m.vlv.ch.length → (m'.vch c).duty = (1, 1))
      ∧ m'.toll = { s.m.toll with res := s.m.toll.res.filter (fun r => r.id ≠ (s.m.runningOn ch).elim 0 (·.id)) }
      ∧ m'.ej.pulses.map EPulse.bare = s.m.ej.pulses.map EPulse.bare ∧ Mod.Frame t [.vlv, .toll, .ej, .free] [] s.m m' := by
  have hmean := boostEnd_of_peak (m := s.m.at t) hphase hpeak
  have hone : Mod.OneCh ch [.vlv, .toll, .ej, .free] [] (s.m.at t) ((s.m.at t).boostHeld ch) := .boostHeld _ ch
  have hch : ∀ k, (Mod.run t (boostEnd ch code) s.m).vch k = ((s.m.at t).boostHeld ch).vch k := fun k => by rw [Mod.vch_run, hmean, Mod.vch_noteClear]
  have hheld : (Mod.run t (boostEnd ch code) s.m).vch ch = { (s.m.at t).holds ch (s.m.vch ch) with hiSeen := false } :=
    (hch ch).trans (Mod.vch_boostHeld (m := s.m.at t) hlen hphase)
  refine ⟨_, rfl, hheld, ?_, fun k hk => ?_, ?_, fun k hk hrise hk' => ?_, ?_, ?_, Mod.Within.frame ?_⟩
  · rw [Mod.run_free, hmean, Mod.noteClear_free, Mod.boostHeld_free]
    rfl
  · rw [hch]
    exact hone.others k hk
  · rw [Mod.run_vlv, hmean, Mod.noteClear_vlv, Mod.boostHeld_bankHi]
    rfl
  · have hne : k ≠ ch := fun heq => by
      rw [heq, hheld] at hrise
      exact VPhase.noConfusion hrise
    rw [hch] at hrise ⊢
    exact Mod.duty_boostHeld (m := s.m.at t) hk hne hk' hrise
  · rw [Mod.run_toll, hmean, Mod.noteClear_toll, Mod.boostHeld_toll]
    rfl
  · rw [Mod.run_ej, hmean, Mod.noteClear_bare, Mod.boostHeld_ej]
    rfl
  · rw [hmean]
    exact hone.within.noteClear (f := fun m => m.boostHeld ch) (by simp)

theorem boostEnd_timeout_yields {code : Nat} (hs : s.Canonical) (hlen : ch < s.m.vlv.ch.length) (hphase : (s.m.vch ch).phase = .boost)
    (hlow : s.m.coilMa ch code < s.m.rd P.vlvIPeak (s.m.vch ch).pband)
    (hdue : (s.m.vch ch).start + s.m.rd P.vlvTBoostMax (s.m.vch ch).pband * 1000 ≤ (s.m.at t).now) : s.Yields (.boostEnd t ch code) fun m' =>
      m'.vch ch = { (s.m.at t).holds ch (s.m.vch ch) with
                      hiSeen := false, cut := some ((s.m.vch ch).cut.getD (s.m.at t).now), fault := 3 }
      ∧ (∀ c, c ≠ ch → m'.vch c = { s.m.vch c with duty := (m'.vch c).duty }) ∧ m'.vlv.bankHi = s.m.vlv.bankHi.set (bankOf ch) false
      ∧ m'.rd P.vlvBoostTimeouts = (s.m.rd P.vlvBoostTimeouts + 1) % 2 ^ 32 ∧ m'.rd P.vlvFaults = (s.m.rd P.vlvFaults + 1) % 2 ^ 32
      ∧ m'.ej.pulses.map EPulse.bare = s.m.ej.pulses.map EPulse.bare
      ∧ Mod.Frame t [.vlv, .toll, .ej, .free] [P.vlvBoostTimeouts.addr, P.vlvFaults.addr, P.vlvFlags.addr] s.m m' := by
  have hmean := boostEnd_of_timeout (m := s.m.at t) hphase hlow hdue
  generalize (s.m.at t).coilMa ch code = ma at hmean
  have hone : Mod.OneCh ch [.vlv, .toll, .ej, .free] (P.vlvBoostTimeouts.addr :: faultWords) (s.m.at t) ((s.m.at t).boostTimeout ch ma) :=
    .boostTimeout _ ch ma
  have hch : ∀ k, (Mod.run t (boostEnd ch code) s.m).vch k = ((s.m.at t).boostTimeout ch ma).vch k := fun k => by
    rw [Mod.vch_run, hmean, Mod.vch_noteClear]
  obtain ⟨htimeouts, hfaults⟩ := Mod.rd_boostTimeout (m := s.m.at t) hs ch ma
  refine ⟨_, rfl, ?_, fun k hk => ?_, ?_, ?_, ?_, ?_, Mod.Within.frame ?_⟩
  · rw [hch]
    exact Mod.vch_boostTimeout (m := s.m.at t) hlen hphase ma
  · rw [hch]
    exact hone.others k hk
  · rw [Mod.run_vlv, hmean, Mod.noteClear_vlv, Mod.boostTimeout_bankHi]
    rfl
  · rw [Mod.run_rd_other t _ s.m (by decide), hmean, Mod.rd_noteClear]
    exact htimeouts
  · rw [Mod.run_rd_other t _ s.m (by decide), hmean, Mod.rd_noteClear]
    exact hfaults
  · rw [Mod.run_ej, hmean, Mod.noteClear_bare, Mod.boostTimeout_ej]
    rfl
  · rw [hmean]
    exact hone.within.noteClear (f := fun m => m.boostTimeout ch ma) (by simp)

theorem hsRiseEnd_yields {code : Nat} (hlen : ch < s.m.vlv.ch.length) (hphase : (s.m.vch ch).phase = .hsRise)
    (hdue : s.m.rd P.vlvIPeak (s.m.vch ch).pband ≤ s.m.coilMa ch code ∨ (s.m.vch ch).start + s.m.rd P.vlvHsTMax * 1000 ≤ (s.m.at t).now) :
    s.Yields (.hsRiseEnd t ch code) fun m' =>
      m'.vlv = { s.m.vlv with ch := s.m.vlv.ch.set ch ((s.m.at t).holds ch (s.m.vch ch)) } ∧ m'.free = s.m.free + 1
      ∧ Mod.Frame t [.vlv, .free] [] s.m m' := by
  have hmean := hsRiseEnd_of_due (m := s.m.at t) hphase hdue
  refine ⟨_, rfl, Mod.run_setVch_vlv (f := hsRiseEnd ch code) (g := (s.m.at t).holds ch) hlen ?_, ?_, Mod.Within.frame ?_⟩
  · rw [hmean]
    rfl
  · rw [Mod.run_free, hmean]
    rfl
  · rw [hmean]
    exact (Mod.OneCh.holdBegin _ ch (by simp) (by simp)).within

/-- The low side opens, and what it found has changed the channel by `g`. -/
theorem lowSideOpen_yields {last : List CoilSmp} {g : VCh → VCh} (hlen : ch < s.m.vlv.ch.length) (hen : (s.m.vch ch).energised = true)
    (hclosed : (s.m.vch ch).opened = false) (hphase : (s.m.vch ch).phase = .hold)
    (hdue : (s.m.vch ch).off ≤ (s.m.at t).now + s.m.rd P.vlvAdv (s.m.vch ch).pband * 1000)
    {x : Mod} (hx : ((s.m.at t).enterArrival ch).holdEnds ch last = x) (hvlv : x.vlv = ((s.m.at t).setVch ch g).vlv)
    (hg : ∀ v, (g v).energised = v.energised) {ws : List Nat} (hwithin : Mod.Within [.vlv] ws (s.m.at t) x) :
    s.Yields (.lowSideOpen t ch last) fun m' =>
      m'.vlv = { s.m.vlv with ch := s.m.vlv.ch.set ch ((g (s.m.vch ch)).lowOpen (s.m.at t).now) }
      ∧ (∀ p i, p.addr i ≠ P.loopFlags.addr → m'.rd p i = x.rd p i) ∧ Mod.Frame t [.vlv] ws s.m m' := by
  have hmean := lowSideOpen_of_hold (m := s.m.at t) (last := last) hen hclosed hphase hdue (hx ▸ hvlv) hg
  rw [hx] at hmean
  refine ⟨_, rfl, Mod.run_setVch_vlv (f := lowSideOpen ch last) (g := fun v => (g v).lowOpen (s.m.at t).now) hlen ?_, fun p i hp => ?_,
    Mod.Within.frame ?_⟩
  · rw [hmean, Mod.setVch_vlv_congr hvlv, Mod.setVch_setVch]
  · rw [Mod.run_rd_other t _ s.m hp, hmean, Mod.rd_setVch]
  · rw [hmean]
    exact hwithin.trans (.setVch _ _ _ (by simp))

theorem pulseRelease_yields {p : EPulse} (hlen : ch < s.m.vlv.ch.length) (hen : (s.m.vch ch).energised = true) (hidle : (s.m.vch ch).phase ≠ .idle)
    (hboost : (s.m.vch ch).phase ≠ .boost) (hdue : (s.m.vch ch).off ≤ (s.m.at t).now) (htick : (s.m.at t).now % 1000 = 0)
    (hp : s.m.runningOn ch = some p) (harr : (s.m.vch ch).arr = none) : s.Yields (.pulseRelease t ch) fun m' =>
      m'.vlv = { s.m.vlv with ch := s.m.vlv.ch.set ch ((s.m.vch ch).shut (s.m.at t).now) }
      ∧ (∃ a : Mod, m'.ej.pulses = (s.m.ej.pulses.filter (fun x => ∀ q ∈ p :: s.m.followers p.id, x.id ≠ q.id)).map ((s.m.at t).noted a))
      ∧ Mod.Frame t [.vlv, .ej, .trk] [P.ejShiftMax.addr] s.m m' := by
  obtain ⟨hmean, hreleased⟩ := pulseRelease_of_due (m := s.m.at t) hen hidle hboost hdue htick hp harr
  obtain ⟨hvlv, hpulses, hfired⟩ := Mod.firePulse_spec (s.m.at t) p
  refine ⟨_, rfl, Mod.run_setVch_vlv (f := pulseRelease ch) (g := VCh.shut (s.m.at t).now) hlen ?_, ⟨(s.m.at t).releaseNow ch, ?_⟩, Mod.Within.frame ?_⟩
  · rw [hmean, Mod.noteClear_vlv, hreleased, Mod.releases, Mod.setVch_vlv_congr hvlv]
  · rw [Mod.run_ej, hmean, Mod.noteClear_pulses]
    refine congrArg (List.map _) ?_
    rw [hreleased, Mod.releases, Mod.setVch_ej, hpulses]
    rfl
  · rw [hmean]
    have hall : Mod.Within [.vlv, .ej, .trk] [P.ejShiftMax.addr] (s.m.at t) ((s.m.at t).releaseNow ch) := by
      rw [hreleased]
      exact hfired.trans (.setVch _ _ _ (by simp))
    exact hall.noteClear (f := fun m => m.releaseNow ch) (by simp)

end

section
variable {s : State} {t ch : Nat}

/-- A command that counts a pulse without a valid arrival, and changes its channel. -/
theorem detNone_yields {c : Instr} {f : Mod → Mod} {g : VCh → VCh} {x : Mod} (hexec : exec c s = s.run t f) (hs : s.Canonical)
    (hlen : ch < s.m.vlv.ch.length) (hvlv : (f (s.m.at t)).vlv = ((s.m.at t).setVch ch g).vlv)
    (hbefore : Mod.Within [.vlv] [] (s.m.at t) x) (hafter : Mod.Within [.vlv] [] (x.inc P.vlvDetNone) (f (s.m.at t))) :
    s.Yields c fun m' => m'.vlv = { s.m.vlv with ch := s.m.vlv.ch.set ch (g (s.m.vch ch)) }
      ∧ m'.rd P.vlvDetNone = (s.m.rd P.vlvDetNone + 1) % 2 ^ 32 ∧ Mod.Frame t [.vlv] [P.vlvDetNone.addr] s.m m' := by
  refine ⟨_, hexec, Mod.run_setVch_vlv hlen hvlv, ?_, Mod.Within.frame ?_⟩
  · rw [Mod.run_rd_other t _ s.m (by decide)]
    exact hbefore.rd_counted hafter hs rfl (by simp) (by simp) (by decide)
  · exact ((hbefore.mono (List.Subset.refl _) (by simp)).trans (.inc _ _ _ _ _ (by simp))).trans (hafter.mono (List.Subset.refl _) (by simp))

/-- A decay that ends after a valid sample, or a counted one, takes up the delays in force. -/
theorem decayEnd_judged_yields {code : Nat} (hlen : ch < s.m.vlv.ch.length) (hphase : (s.m.vch ch).phase = .decay) (hlow : s.m.coilMa ch code < 20)
    (hjudged : (s.m.vch ch).judged = true) (harr : (s.m.vch ch).arr = none) : s.Yields (.decayEnd t ch code) fun m' =>
      m' = Mod.run t (decayEnd ch code) s.m
      ∧ m'.vlv = { s.m.vlv with ch := s.m.vlv.ch.set ch ((s.m.vch ch).rested (s.m.at t).now) } ∧ Mod.Frame t [.vlv] [] s.m m' := by
  have hmean := decayEnd_of_low (m := s.m.at t) hphase hlow
  rw [Mod.closeSample_of_judged (m := s.m.at t) hjudged harr] at hmean
  refine ⟨_, rfl, rfl, Mod.run_setVch_vlv (f := decayEnd ch code) (g := VCh.rested (s.m.at t).now) hlen ?_, Mod.Within.frame ?_⟩
  · rw [hmean, Mod.settleDelays_rest_vlv (m := s.m.at t) hlen]
  · rw [hmean]
    exact (Mod.AtCh.settleDelays _ ch (by simp)).within.trans (.setVch _ _ _ (by simp))

/-- A channel's first measured delay raises its event as it comes into force. -/
theorem Mod.settleDelays_of_first {m : Mod} {boost : Bool} {x u : Nat} (hpend : (m.vch ch).pend = [(boost, x, some u)]) (hdue : u ≤ m.now)
    (hd : (m.vch ch).dMeas = none) (hdhs : (m.vch ch).dhsMeas = none) :
    m.settleDelays ch = (m.setVch ch (fun _ => (m.vch ch).settled m.now)).raise 73 (if boost then 0x0416 else 0x0418)
      (leBytes 2 ch ++ leBytes 2 x) := by
  have hboosted : ((m.vch ch).settled m.now).dMeas = if boost then some x else none := by rw [VCh.settled_of_due hpend hdue, hd]
  have hheld : ((m.vch ch).settled m.now).dhsMeas = if boost then none else some x := by rw [VCh.settled_of_due hpend hdue, hdhs]
  unfold Mod.settleDelays
  cases boost <;> simp [hd, hdhs, hboosted, hheld]

/-- The firmware is told of a channel's first measured delay. -/
theorem decayEnd_told {code : Nat} (hphase : (s.m.vch ch).phase = .decay) (hlow : s.m.coilMa ch code < 20)
    (hjudged : (s.m.vch ch).judged = true) (harr : (s.m.vch ch).arr = none) {boost : Bool} {x u : Nat}
    (hpend : (s.m.vch ch).pend = [(boost, x, some u)]) (hdue : u ≤ (s.m.at t).now) (hd : (s.m.vch ch).dMeas = none)
    (hdhs : (s.m.vch ch).dhsMeas = none) (hplain : s.m.Plain t 73) (hfw : (s.m.rd P.evcRoute 73).testBit 0 = true) :
    Told 73 (if boost then 0x0416 else 0x0418) s.m (Mod.run t (decayEnd ch code) s.m) := by
  have hmean := decayEnd_of_low (m := s.m.at t) hphase hlow
  rw [Mod.closeSample_of_judged (m := s.m.at t) hjudged harr, Mod.settleDelays_of_first (m := s.m.at t) hpend hdue hd hdhs] at hmean
  exact Told.of_run hplain hfw (by rw [hmean]; rfl) (by rw [hmean]; rfl) (d := leBytes 2 ch ++ leBytes 2 x) (by rw [hmean]; rfl)

/-- A channel whose sample is given up. -/
def VCh.closed (v : VCh) : VCh := { v with judged := true, arr := none }

/-- A delay comes into force. -/
def VCh.takesUp (v : VCh) (p : Bool × Nat × Option Nat) : VCh := if p.1 then { v with dMeas := some p.2.1 } else { v with dhsMeas := some p.2.1 }

/-- What comes into force is not changed by the sample that is given up. -/
theorem VCh.settled_closed (now : Nat) (v : VCh) : v.closed.settled now = (v.settled now).closed := by
  have hstep : ∀ (w : VCh) p, w.closed.takesUp p = (w.takesUp p).closed := fun w p => by
    unfold VCh.takesUp
    split <;> rfl
  change (v.pend.filter _).foldl VCh.takesUp (VCh.closed { v with pend := _ }) = ((v.pend.filter _).foldl VCh.takesUp _).closed
  exact List.foldl_hom VCh.closed hstep

theorem decayEnd_open_yields {code : Nat} (hs : s.Canonical) (hlen : ch < s.m.vlv.ch.length) (hphase : (s.m.vch ch).phase = .decay)
    (hlow : s.m.coilMa ch code < 20) (hjudged : (s.m.vch ch).judged = false) : s.Yields (.decayEnd t ch code) fun m' =>
      m'.vlv = { s.m.vlv with ch := s.m.vlv.ch.set ch ((s.m.vch ch).closed.rested (s.m.at t).now) }
      ∧ m'.rd P.vlvDetNone = (s.m.rd P.vlvDetNone + 1) % 2 ^ 32 ∧ Mod.Frame t [.vlv] [P.vlvDetNone.addr] s.m m' := by
  have hmean := decayEnd_of_low (m := s.m.at t) hphase hlow
  have hrunning : (s.m.vch ch).phase ≠ .idle := by simp [hphase]
  rw [Mod.closeSample_of_open (m := s.m.at t) hrunning (.inl hjudged)] at hmean
  have hlen' : ch < (((s.m.at t).inc P.vlvDetNone).setVch ch (fun v => { v with judged := true, arr := none })).vlv.ch.length :=
    hlen.trans_eq (List.length_modify _ _ _).symm
  refine detNone_yields (f := decayEnd ch code) (g := fun v => v.closed.rested (s.m.at t).now)
    rfl hs hlen ?_ (.refl _) ?_
  · rw [hmean, Mod.settleDelays_rest_vlv hlen', Mod.setVch_setVch, Mod.setVch_vlv_congr (Mod.inc_vlv _ _ _ _ _)]
    rfl
  · rw [hmean]
    exact ((Mod.Within.setVch _ ch _ (by simp)).trans (Mod.AtCh.settleDelays _ ch (by simp)).within).trans (.setVch _ _ _ (by simp))

theorem arrivalDetected_none_yields {smp : List CoilSmp} (hs : s.Canonical) (hlen : ch < s.m.vlv.ch.length)
    (hmean : arrivalDetected ch smp (s.m.at t) = ((s.m.at t).setVch ch (fun v => { v with judged := true })).inc P.vlvDetNone) :
    s.Yields (.arrivalDetected t ch smp) fun m' =>
      m'.vlv = { s.m.vlv with ch := s.m.vlv.ch.set ch { s.m.vch ch with judged := true } }
      ∧ m'.rd P.vlvDetNone = (s.m.rd P.vlvDetNone + 1) % 2 ^ 32 ∧ Mod.Frame t [.vlv] [P.vlvDetNone.addr] s.m m' :=
  detNone_yields (f := arrivalDetected ch smp) (g := fun v => { v with judged := true }) rfl hs hlen
    ((congrArg Mod.vlv hmean).trans (Mod.inc_vlv _ _ _ _ _)) (.setVch _ _ _ (by simp)) (by rw [hmean]; exact .refl _)

end

/-! ### What a channel and a pulse keep (R200, R222, R227) -/

theorem Mod.noted_id (m a : Mod) (q : EPulse) : (m.noted a q).id = q.id :=
  show (m.noted a q).bare.id = q.bare.id by rw [Mod.bare_noted]

theorem Mod.noted_into (m a : Mod) (q : EPulse) : (m.noted a q).into = q.into :=
  show (m.noted a q).bare.into = q.bare.into by rw [Mod.bare_noted]

/-- A coil at a temperature, with its band (R227). -/
def Mod.warmed (m : Mod) (tc : Int) (v : VCh) : VCh := { v with tc := tc, band := m.bandOf v.band tc }

theorem Mod.setCoil_eq {m : Mod} {c : Nat} (h : c < m.vlv.ch.length) (tc : Int) : m.setCoil c tc = m.setVch c (m.warmed tc) :=
  Mod.setVch_congr h rfl

theorem Mod.vch_of_set {m m' : Mod} {c : Nat} {w : VCh} (hlen : c < m.vlv.ch.length) (h : m'.vlv = { m.vlv with ch := m.vlv.ch.set c w }) :
    m'.vch c = w := by
  rw [Mod.vch, h]
  simp [hlen]

section
variable {v : VCh}

theorem VCh.lowOpen_trained (h : v.pend = []) (e : Est) (now : Nat) : (v.trained e).lowOpen now
    = { v with opened := true, holdMa := 0, phase := .decay, arr := none, valid := Nat.min 65535 (v.valid + 1), d := e,
               pend := if 16 ≤ e.n then [(true, e.us, some (now + 10000))] else [] } := by
  simp only [VCh.trained, VCh.lowOpen, VCh.released, h]
  split_ifs <;> rfl

variable {smp : List CoilSmp} {na : Nat}

theorem VCh.clean_of_valid (hrestarted : v.restarted = false) (hcut : ∀ c, v.cut = some c → v.start + na * 1000 ≤ c)
    (hcodes : ∀ x ∈ smp.take na, x.code < 4095) : v.clean smp na = true := by
  have hall : (smp.take na).all (fun s => s.code < 4095) = true := by simpa using hcodes
  have hnone : v.cut.any (fun t => t < v.start + na * 1000) = false := by
    cases h : v.cut with
    | none => rfl
    | some c => simpa using hcut c h
  simp [VCh.clean, hrestarted, hall, hnone]

theorem VCh.not_clean (h : v.restarted = true ∨ (∃ c, v.cut = some c ∧ c < v.start + na * 1000) ∨ ∃ x ∈ smp.take na, 4095 ≤ x.code) :
    ¬ v.clean smp na = true := by
  rw [VCh.clean, Bool.and_eq_true, Bool.and_eq_true, Bool.not_eq_true', Bool.not_eq_true', List.all_eq_true]
  rintro ⟨⟨hrestarted, hcut⟩, hcodes⟩
  rcases h with h | ⟨c, hc, hlt⟩ | ⟨x, hx, hle⟩
  · simp [hrestarted] at h
  · simp [hc, Nat.not_le.2 hlt] at hcut
  · exact Nat.not_le.2 (of_decide_eq_true (hcodes x hx)) hle

end

/-- Settles O40: each command finds the channel in the phase that its own conditions name, and its meaning is one change of that channel, but
for what the end of a boost shows its bank and for the pulses that a release takes from the schedule. -/
theorem pulsesRunTheirProfile : Obligations.PulsesRunTheirProfile := by
  intro s t ch hs hch hlen v now sets bare held
  refine ⟨fun code hphase hpeak => boostEnd_held_yields hlen hphase hpeak,
    fun code hphase hlow hdue => boostEnd_timeout_yields hs hlen hphase hlow hdue,
    fun code hphase hdue => hsRiseEnd_yields hlen hphase hdue,
    fun last hen hclosed hphase hseen harr hdue => ?opens, fun last d l hen hclosed hphase hseen harr hdue hhs hn hpend => ?learns,
    fun last hen hclosed hphase hseen hlong hdue hlast harr hi hrho hk => ?corrects,
    fun p hen hidle hboost hdue htick hp harr => ?fires, fun code hphase hlow hjudged harr hsettled => ?rests,
    fun code boost x u hphase hlow hjudged harr hd hdhs hpend hdue => ?settles, fun code hphase hlow hjudged hsettled => ?counted,
    fun smp na lam i hidle hdecay hjudged hpend hdue hfound => ?arrives⟩
  case opens =>
    have hsame : ((s.m.at t).enterArrival ch).holdEnds ch last = s.m.at t := by
      rw [Mod.enterArrival_of_none (m := s.m.at t) harr, Mod.holdEnds_of_seen (m := s.m.at t) hseen]
    obtain ⟨m', hexec, hvlv, -, hframe⟩ := lowSideOpen_yields (g := id) hlen hen hclosed hphase hdue hsame
      (congrArg Mod.vlv (Mod.setVch_id _ ch)).symm (fun _ => rfl) (.refl _)
    exact ⟨m', hexec, hvlv, hframe⟩
  case learns =>
    let e := v.d.learned d (s.m.rd P.vlvLearnN)
    have htake : v.d.take d (s.m.rd P.vlvDetGate) (s.m.rd P.vlvLearnN) = (e, false, false) := Est.take_of_lt hn _ _ _
    have hentered : ((s.m.at t).enterArrival ch).vlv = ((s.m.at t).setVch ch (VCh.trained e)).vlv :=
      Mod.enterArrival_vlv (m := s.m.at t) hlen harr hhs hn
    have hseen' : (((s.m.at t).enterArrival ch).vch ch).hiSeen = true := by
      rw [Mod.vch_congr hentered, Mod.vch_setVch (m := s.m.at t) hlen]
      exact hseen
    obtain ⟨m', hexec, hvlv, hrd, hframe⟩ := lowSideOpen_yields hlen hen hclosed hphase hdue (Mod.holdEnds_of_seen hseen' last) hentered
      (fun _ => rfl) (Mod.Within.enterArrival_of_used (m := s.m.at t) harr hhs htake)
    obtain ⟨hvalid, hlast⟩ := Mod.rd_enterArrival (m := s.m.at t) hs harr hhs htake hch
    rw [VCh.lowOpen_trained hpend] at hvlv
    exact ⟨m', hexec, hvlv, (hrd _ _ (by decide)).trans hvalid,
      (hrd _ _ (by simp [Param.addr, P.vlvDLast, P.loopFlags]; omega)).trans hlast, hframe⟩
  case corrects =>
    let tc := (s.m.at t).corrected ch last
    have hended : ((s.m.at t).enterArrival ch).holdEnds ch last = (s.m.at t).setCoil ch tc := by
      rw [Mod.enterArrival_of_none (m := s.m.at t) harr, Mod.holdEnds_of_measured (m := s.m.at t) hphase hseen hlong,
        Mod.coilMeasured_of_current (m := s.m.at t) hlast hi hrho hk]
    obtain ⟨m', hexec, hvlv, -, hframe⟩ := lowSideOpen_yields (g := (s.m.at t).warmed tc)
      hlen hen hclosed hphase hdue hended (congrArg Mod.vlv (Mod.setCoil_eq (m := s.m.at t) hlen tc)) (fun _ => rfl) (.setVch _ ch _ (by simp))
    exact ⟨m', hexec, hvlv, hframe⟩
  case fires =>
    obtain ⟨m', hexec, hvlv, ⟨a, hpulses⟩, hframe⟩ := pulseRelease_yields hlen hen hidle hboost hdue htick hp harr
    refine ⟨m', hexec, hvlv, fun q hq => ?_, fun q hq hne hfollow => ?_, hframe⟩
    · rw [hpulses] at hq
      obtain ⟨r, hr, rfl⟩ := List.mem_map.1 hq
      obtain ⟨hr, hleft⟩ := List.mem_filter.1 hr
      have hleft := of_decide_eq_true hleft
      rw [Mod.noted_id, Mod.noted_into]
      refine ⟨hleft p (by simp), fun hinto => hleft r ?_ rfl, r, hr, (Mod.bare_noted _ _ r).symm⟩
      exact List.mem_cons_of_mem _ (List.mem_filter.2 ⟨hr, decide_eq_true hinto⟩)
    · rw [hpulses]
      refine ⟨_, List.mem_map_of_mem (List.mem_filter.2 ⟨hq, decide_eq_true fun f hf => ?_⟩), Mod.bare_noted _ _ q⟩
      rcases List.mem_cons.1 hf with rfl | hf
      · exact hne
      · exact hfollow f hf
  case rests =>
    obtain ⟨m', hexec, -, hvlv, hframe⟩ := decayEnd_judged_yields hlen hphase hlow hjudged harr
    rw [VCh.rested, show (s.m.vch ch).settled (s.m.at t).now = s.m.vch ch from hsettled] at hvlv
    exact ⟨m', hexec, hvlv, hframe⟩
  case settles =>
    obtain ⟨m', hexec, hrun, hvlv, hframe⟩ := decayEnd_judged_yields hlen hphase hlow hjudged harr
    rw [VCh.rested, VCh.settled_of_due hpend hdue, show (s.m.vch ch).dMeas = none from hd, show (s.m.vch ch).dhsMeas = none from hdhs] at hvlv
    have hch' := Mod.vch_of_set hlen hvlv
    refine ⟨m', hexec, hvlv, ?_, ?_, fun hplain hfw => hrun ▸ decayEnd_told hphase hlow hjudged harr hpend hdue hd hdhs hplain hfw⟩
    · rintro rfl
      rw [Mod.dOpen, hch', VCh.settled_of_none rfl]
      rfl
    · rintro rfl
      rw [Mod.dHs, hch', VCh.settled_of_none rfl]
      rfl
  case counted =>
    obtain ⟨m', hexec, hvlv, hcount, hframe⟩ := decayEnd_open_yields hs hlen hphase hlow hjudged
    rw [VCh.rested, VCh.settled_closed, show (s.m.vch ch).settled (s.m.at t).now = s.m.vch ch from hsettled] at hvlv
    exact ⟨m', hexec, hvlv, hcount, hframe⟩
  case arrives =>
    have hmean := arrivalDetected_of_found (m := s.m.at t) hch hlen hidle hdecay hjudged hpend hdue hfound
    constructor
    · intro hfail
      exact arrivalDetected_none_yields hs hlen (hmean.trans (if_neg (VCh.not_clean (v := s.m.vch ch) hfail)))
    · intro hrestarted hcut hcodes
      have hvalid := hmean.trans (if_pos (VCh.clean_of_valid (v := s.m.vch ch) hrestarted hcut hcodes))
      exact vch_set_yields rfl hlen (hvalid.trans (Mod.setVch_setVch _ _ _ _))

end Sys2Proof.Machine
end

section
/-!
PROOFS. The statements of 09_valve_drivers.md: faults of coils and banks, and what each leaves of the other channels.
-/
namespace Sys2Proof.Machine

section
variable {m : Mod} {c : Nat} {as : List Area} {ws : List Nat}

/-! ### A channel's arrival, whatever it finds (R222, R223) -/

theorem Mod.OneCh.takeArrival (m : Mod) (c d l : Nat) (hvlv : Area.vlv ∈ as) (hw : detWords c ⊆ ws) :
    Mod.OneCh c as ws m (m.takeArrival c d l) := by
  have hset : ∀ f, Mod.OneCh c as ws m (m.setVch c f) := fun f => .setVch m f hvlv
  unfold Mod.takeArrival
  extract_lets v old
  split
  rename_i e gated restart
  extract_lets m1 m2
  have hgated : Mod.OneCh c as ws m m2 := ((hset _).trans (.inc _ _ _ _ _ (hw (by simp [detWords])))).trans (.flag _ _ _ _ (hw (by simp [detWords])))
  split
  · split
    · exact (hgated.trans (.flag _ _ _ _ (hw (by simp [detWords])))).trans (.raise _ _ _ _)
    · exact hgated
  · exact (((hset _).trans (.inc _ _ _ _ _ (hw (by simp [detWords])))).trans
      (.of_within (Mod.wr_vlv _ _ _ _ _) (.wr _ _ _ _ _ (hw (by simp [detWords]))))).trans (.setVch _ _ hvlv)

theorem Mod.OneCh.enterArrival (m : Mod) (c : Nat) (hvlv : Area.vlv ∈ as) (hw : detWords c ⊆ ws) : Mod.OneCh c as ws m (m.enterArrival c) := by
  unfold Mod.enterArrival
  split
  · exact (Mod.OneCh.takeArrival m c _ _ hvlv hw).trans (.setVch _ _ hvlv)
  · exact .refl m

@[simp] theorem Mod.enterArrival_ej (m : Mod) (c : Nat) : (m.enterArrival c).ej = m.ej :=
  (Mod.OneCh.enterArrival (as := [.vlv]) (ws := detWords c) m c (by simp) (List.Subset.refl _)).within.areas .ej (by simp)

/-- A sample that waits has been taken. -/
theorem Mod.arr_enterArrival (hlen : c < m.vlv.ch.length) : ((m.enterArrival c).vch c).arr = none := by
  unfold Mod.enterArrival
  split
  · rename_i d l _
    have hcount := (Mod.OneCh.takeArrival (as := [.vlv]) (ws := detWords c) m c d l (by simp) (List.Subset.refl _)).count
    rw [Mod.vch_setVch (hcount ▸ hlen)]
  · assumption

/-! ### Missed pulses (R203, R204) -/

/-- A miss of any channel, in the counts and in its piece's entry. -/
theorem Mod.Within.noteMiss (m : Mod) (serial ch : Nat) (b : Option Nat) {cause : Nat} (hcause : cause - 1 < 8) (hej : Area.ej ∈ as) (htrk : Area.trk ∈ as)
    (hw : missWords ⊆ ws) : Mod.Within as ws m (m.noteMiss serial ch b cause) := by
  unfold Mod.noteMiss
  extract_lets m1 m2 said ej m3
  have hflagged : Mod.Within as ws m m1 :=
    (Mod.Within.inc m _ _ _ _ (hw (ejMiss_mem_missWords hcause))).trans (.flag _ _ _ _ (hw (missWords_single (by simp))))
  have hcounted : Mod.Within as ws m m2 := by
    unfold m2
    split
    · exact hflagged.trans (.inc _ _ _ _ _ (hw (ejChMissed_mem_missWords ‹_›)))
    · exact hflagged
  have hnoted : Mod.Within as ws m m3 := by
    refine Mod.Within.trans ?_ (.setEntry _ _ _ htrk)
    split
    · exact hcounted
    · exact hcounted.trans (.ofEj m2 _ hej)
  split
  · exact hnoted
  · exact hnoted.trans (.raise _ _ _ _)

/-- A running pulse leaves the schedule as missed. -/
def Mod.cutPulse (m : Mod) (q : EPulse) : Mod := ((m.returnGrant q).dropPulse q.id).noteMiss q.serial q.ch (some q.bit) 8

theorem Mod.Within.cutPulse (m : Mod) (q : EPulse) : Mod.Within [.ej, .toll, .trk] missWords m (m.cutPulse q) :=
  ((Mod.Within.returnGrant m q (by simp) (by simp) (missWords_single (by simp))).trans (.dropPulse _ _ (by simp))).trans
    (.noteMiss _ _ _ _ (by decide) (by simp) (by simp) (List.Subset.refl _))

/-- What is changed of a pulse leaves the schedule with it. -/
theorem Mod.pulses_dropPulse_setPulse (m : Mod) (id : Nat) (f : EPulse → EPulse) (hf : ∀ q, (f q).id = q.id) :
    ((m.setPulse id f).dropPulse id).ej.pulses = m.ej.pulses.filter (fun x => x.id ≠ id) := by
  have hid : ∀ q : EPulse, (if q.id = id then f q else q).id = q.id := fun q => by split <;> simp [hf]
  change (m.ej.pulses.map _).filter _ = _
  rw [List.filter_map]
  have hsame : ((fun x : EPulse => decide (x.id ≠ id)) ∘ fun q => if q.id = id then f q else q) = fun x => decide (x.id ≠ id) := by
    funext q
    simp only [Function.comp, hid]
  rw [hsame]
  refine (List.map_congr_left fun q hq => ?_).trans (List.map_id _)
  exact if_neg (of_decide_eq_true (List.mem_filter.1 hq).2)

theorem Mod.dropPulse_pulses_congr {a b : Mod} (h : b.ej = a.ej) (id : Nat) : (b.dropPulse id).ej.pulses = (a.dropPulse id).ej.pulses := by
  simp only [Mod.dropPulse, h]

theorem Mod.returnGrant_dropPulse_pulses (m : Mod) (q : EPulse) :
    ((m.returnGrant q).dropPulse q.id).ej.pulses = m.ej.pulses.filter (fun x => x.id ≠ q.id) := by
  rw [Mod.dropPulse_pulses_congr (Mod.returnGrant_ej m q), Mod.pulses_dropPulse_setPulse m q.id (fun q => { q with grant := .none }) fun _ => rfl]

theorem Mod.cutPulse_pulses (m : Mod) (q : EPulse) : (m.cutPulse q).ej.pulses = m.ej.pulses.filter (fun x => x.id ≠ q.id) := by
  rw [Mod.cutPulse, Mod.noteMiss_pulses, Mod.returnGrant_dropPulse_pulses]

/-- Pulses cut together leave the schedule together. -/
theorem Mod.foldl_cutPulse (l : List EPulse) (m : Mod) : Mod.Within [.ej, .toll, .trk] missWords m (l.foldl Mod.cutPulse m)
    ∧ (l.foldl Mod.cutPulse m).ej.pulses = m.ej.pulses.filter (fun x => ∀ q ∈ l, x.id ≠ q.id) := by
  induction l generalizing m with
  | nil => exact ⟨.refl m, by simp⟩
  | cons q l ih =>
    obtain ⟨hwithin, hpulses⟩ := ih (m.cutPulse q)
    refine ⟨(Mod.Within.cutPulse m q).trans hwithin, ?_⟩
    rw [List.foldl_cons, hpulses, Mod.cutPulse_pulses, EPulse.filter_filter_cons]

end

section
variable {m : Mod} {c : Nat} {as : List Area} {ws : List Nat}

/-! ### A running channel is cut (R204) -/

/-- The pulses that a cut of a channel takes from the schedule: the one that runs, and those merged into it. -/
def Mod.cutWith (m : Mod) (c : Nat) : List EPulse :=
  match m.runningOn c with
  | some p => p :: m.followers p.id
  | none => []

theorem Mod.cutWith_congr {a b : Mod} (h : b.ej = a.ej) (c : Nat) : b.cutWith c = a.cutWith c := by
  simp only [Mod.cutWith, Mod.runningOn, Mod.followers, h]

/-- The module once a cut channel's boost, if it is in one, is over. -/
def Mod.boostCut (m : Mod) (c : Nat) : Mod := if (m.vch c).phase = .boost then m.boostOver c else m

theorem Mod.OneCh.boostCut (m : Mod) (c : Nat) (hvlv : Area.vlv ∈ as) (htoll : Area.toll ∈ as) : Mod.OneCh c as ws m (m.boostCut c) := by
  unfold Mod.boostCut
  split
  · exact .boostOver m c hvlv htoll
  · exact .refl m

theorem Mod.vch_boostCut (m : Mod) (c : Nat) : (m.boostCut c).vch c = m.vch c := by
  unfold Mod.boostCut
  split
  · next h => exact Mod.vch_boostOver_of_ne (by simp [h])
  · rfl

theorem Mod.boostCut_ej (m : Mod) (c : Nat) : (m.boostCut c).ej = m.ej := by
  unfold Mod.boostCut
  split
  · exact Mod.boostOver_ej m c
  · rfl

/-- The module once a cut channel's pulses are missed. -/
def Mod.pulsesCut (m : Mod) (c : Nat) : Mod := (m.cutWith c).foldl Mod.cutPulse (m.boostCut c)

theorem Mod.pulsesCut_vlv (m : Mod) (c : Nat) : (m.pulsesCut c).vlv = (m.boostCut c).vlv :=
  (Mod.foldl_cutPulse (m.cutWith c) (m.boostCut c)).1.areas .vlv (by simp)

theorem Mod.OneCh.pulsesCut (m : Mod) (c : Nat) : Mod.OneCh c [.ej, .vlv, .toll, .trk] missWords m (m.pulsesCut c) :=
  (Mod.OneCh.boostCut m c (by simp) (by simp)).trans
    (.of_within (m.pulsesCut_vlv c) ((Mod.foldl_cutPulse _ _).1.mono (by simp) (List.Subset.refl _)))

theorem Mod.vch_pulsesCut (m : Mod) (c : Nat) : (m.pulsesCut c).vch c = m.vch c := by
  rw [Mod.vch_congr (m.pulsesCut_vlv c), Mod.vch_boostCut]

theorem Mod.pulsesCut_pulses (m : Mod) (c : Nat) : (m.pulsesCut c).ej.pulses = m.ej.pulses.filter (fun x => ∀ q ∈ m.cutWith c, x.id ≠ q.id) := by
  rw [Mod.pulsesCut, (Mod.foldl_cutPulse _ _).2, Mod.boostCut_ej]

/-- A channel that is cut at `now`, with the phase it then is in. -/
def VCh.cutOff (now : Nat) (phase : VPhase) (v : VCh) : VCh :=
  { v.released now with cut := some (v.cut.getD now), energised := false, opened := true, holdMa := 0, phase := phase }

theorem Mod.cutChannel_of_rest (h : (m.vch c).phase = .idle ∧ (m.vch c).energised = false) : m.cutChannel c = m := by
  simp [Mod.cutChannel, h.1, h.2]

theorem Mod.cutChannel_of_runs (h : ¬ ((m.vch c).phase = .idle ∧ (m.vch c).energised = false)) : m.cutChannel c
    = ((m.pulsesCut c).enterArrival c).setVch c (VCh.cutOff m.now (if (m.vch c).phase = .idle then .idle else .decay)) := by
  have hcond : ¬ ((m.vch c).phase = .idle && !(m.vch c).energised) = true := by simpa using h
  have hcut : (match (m.boostCut c).runningOn c with
      | some p => (p :: (m.boostCut c).followers p.id).foldl Mod.cutPulse (m.boostCut c)
      | none => m.boostCut c) = m.pulsesCut c := by
    rw [Mod.pulsesCut, ← Mod.cutWith_congr (m.boostCut_ej c), Mod.cutWith]
    cases (m.boostCut c).runningOn c <;> rfl
  rw [← hcut]
  unfold Mod.cutChannel
  dsimp only
  rw [if_neg hcond]
  rfl

theorem Mod.OneCh.cutChannel (m : Mod) (c : Nat) : Mod.OneCh c [.ej, .vlv, .toll, .trk] (detWords c ++ missWords) m (m.cutChannel c) := by
  by_cases h : (m.vch c).phase = .idle ∧ (m.vch c).energised = false
  · rw [Mod.cutChannel_of_rest h]
    exact .refl m
  · have hcut : Mod.OneCh c [.ej, .vlv, .toll, .trk] (detWords c ++ missWords) m (m.pulsesCut c) :=
      (Mod.OneCh.pulsesCut m c).mono (List.Subset.refl _) (List.subset_append_right _ _)
    rw [Mod.cutChannel_of_runs h]
    exact (hcut.trans (.enterArrival _ c (by simp) (List.subset_append_left _ _))).trans (.setVch _ _ (by simp))

theorem Mod.energised_cutChannel (hlen : c < m.vlv.ch.length) : ((m.cutChannel c).vch c).energised = false := by
  by_cases h : (m.vch c).phase = .idle ∧ (m.vch c).energised = false
  · rw [Mod.cutChannel_of_rest h, h.2]
  · have hcount := ((Mod.OneCh.pulsesCut m c).mono (List.Subset.refl _) (List.subset_append_right (detWords c) _)).trans
      (.enterArrival _ c (by simp) (List.subset_append_left _ _)) |>.count
    rw [Mod.cutChannel_of_runs h, Mod.vch_setVch (hcount ▸ hlen)]
    rfl

/-- A channel that is not idle is cut into its decay, and keeps no sample that waits. -/
theorem Mod.vch_cutChannel (hlen : c < m.vlv.ch.length) (h : (m.vch c).phase ≠ .idle) :
    ((m.cutChannel c).vch c).phase = .decay ∧ ((m.cutChannel c).vch c).arr = none := by
  have hcut := (Mod.OneCh.pulsesCut m c).count ▸ hlen
  have hcount := ((Mod.OneCh.pulsesCut m c).mono (List.Subset.refl _) (List.subset_append_right (detWords c) _)).trans
    (.enterArrival _ c (by simp) (List.subset_append_left _ _)) |>.count
  rw [Mod.cutChannel_of_runs (fun hrest => h hrest.1), Mod.vch_setVch (hcount ▸ hlen), if_neg h]
  exact ⟨rfl, Mod.arr_enterArrival hcut⟩

theorem Mod.cutChannel_pulses (h : (m.vch c).phase ≠ .idle) :
    (m.cutChannel c).ej.pulses = m.ej.pulses.filter (fun x => ∀ q ∈ m.cutWith c, x.id ≠ q.id) := by
  rw [Mod.cutChannel_of_runs (fun hrest => h hrest.1), Mod.setVch_ej, Mod.enterArrival_ej, Mod.pulsesCut_pulses]

/-! ### Pulses that wait for a channel are missed (R203) -/

theorem Mod.Within.refuseWaiting (m : Mod) (hc : c < 384) {cause : Nat} (hcause : cause - 1 < 8) :
    Mod.Within [.toll, .ej, .trk] missWords m (m.refuseWaiting c cause) := by
  refine Mod.Within.foldl_mem _ (fun p hp a => ?_) m
  have hch : p.ch = c := by
    have hwaits := (List.mem_filter.1 hp).2
    simp only [Bool.and_eq_true, decide_eq_true_eq] at hwaits
    exact hwaits.1.1
  exact .missPulse (hch ▸ hc) hcause

theorem Mod.refuseWaiting_vlv (m : Mod) (hc : c < 384) {cause : Nat} (hcause : cause - 1 < 8) : (m.refuseWaiting c cause).vlv = m.vlv :=
  (Mod.Within.refuseWaiting m hc hcause).areas .vlv (by simp)

/-- Where none is merged, a missed pulse alone leaves the schedule. -/
theorem Mod.missPulse_pulses_of_none (h : ∀ q ∈ m.ej.pulses, q.into = none) (p : EPulse) (cause : Nat) :
    (m.missPulse p cause).ej.pulses = m.ej.pulses.filter (fun x => x.id ≠ p.id) := by
  have hleft : (m.leaves p).ej.pulses = m.ej.pulses.filter (fun x => x.id ≠ p.id) := by
    rw [Mod.leaves, Mod.returnGrant_dropPulse_pulses, Mod.noteWait_ej]
  have hmap : (m.missPulse p cause).ej.pulses = (m.leaves p).ej.pulses.map
      (fun q => if q.into = some p.id then { q with into := none, ins := ((m.leaves p).noteMiss p.serial p.ch (some p.bit) cause).now } else q) :=
    congrArg _ (Mod.noteMiss_pulses (m.leaves p) p.serial p.ch (some p.bit) cause)
  rw [hmap, hleft]
  refine (List.map_congr_left fun q hq => ?_).trans (List.map_id _)
  exact if_neg (by simp [h q (List.mem_of_mem_filter hq)])

theorem Mod.foldl_missPulse_pulses (cause : Nat) (l : List EPulse) (m : Mod) (h : ∀ q ∈ m.ej.pulses, q.into = none) :
    (l.foldl (fun m p => m.missPulse p cause) m).ej.pulses = m.ej.pulses.filter (fun x => ∀ q ∈ l, x.id ≠ q.id) := by
  induction l generalizing m with
  | nil => simp
  | cons p l ih =>
    have hnone := Mod.missPulse_pulses_of_none h p cause
    have hkept : ∀ q ∈ (m.missPulse p cause).ej.pulses, q.into = none := fun q hq => h q (List.mem_of_mem_filter (hnone ▸ hq))
    rw [List.foldl_cons, ih _ hkept, hnone, EPulse.filter_filter_cons]

theorem Mod.mem_waitingOn (h : ∀ q ∈ m.ej.pulses, q.into = none) {q : EPulse} :
    q ∈ m.waitingOn c ↔ q ∈ m.ej.pulses ∧ q.ch = c ∧ q.started = none := by
  unfold Mod.waitingOn
  rw [List.mem_filter]
  refine and_congr_right fun hq => ?_
  simp [h q hq]

/-- Where none is merged, no pulse that waits for the channel is left, and no other leaves. -/
theorem Mod.mem_refuseWaiting (h : ∀ q ∈ m.ej.pulses, q.into = none) (cause : Nat) {q : EPulse} :
    q ∈ (m.refuseWaiting c cause).ej.pulses
      ↔ q ∈ m.ej.pulses ∧ ∀ x ∈ m.ej.pulses, x.ch = c → x.started = none → q.id ≠ x.id := by
  rw [Mod.refuseWaiting, Mod.foldl_missPulse_pulses cause _ m h, List.mem_filter, decide_eq_true_eq]
  simp only [Mod.mem_waitingOn h, and_imp]

end

section
variable {m : Mod} {c : Nat} {as : List Area} {ws : List Nat}

/-! ### The count of faults (R229) -/

/-- The count of faults is none of the words that a channel's cut changes. -/
theorem vlvFaults_not_mem_missWords : P.vlvFaults.addr ∉ missWords := by
  simp [missWords, Param.addr, P.vlvFaults, P.ejFlags, P.tollExpired1, P.ejQPeak, P.ejBankWaitMax, P.ejMiss, P.ejChMissed]
  refine ⟨fun x _ => ?_, fun x _ => ?_, fun x _ => ?_⟩ <;> omega

theorem vlvFaults_not_mem_detWords (c : Nat) : P.vlvFaults.addr ∉ detWords c := by
  simp [detWords, Param.addr, P.vlvFaults, P.vlvDetValid, P.vlvDetGated, P.vlvFlags, P.vlvDLast]
  omega

/-- The fault count after a cut, where what follows the count leaves it alone. -/
theorem Mod.rd_vlvFaults {a b d : Mod} {as' : List Area} {ws' : List Nat} (hwf : Store.wf a.regs = true) (hbefore : Mod.Within as ws a b)
    (hafter : Mod.Within as' ws' (b.inc P.vlvFaults) d) (hws : P.vlvFaults.addr ∉ ws) (hws' : P.vlvFaults.addr ∉ ws') :
    d.rd P.vlvFaults = (a.rd P.vlvFaults + 1) % 2 ^ 32 :=
  hbefore.rd_counted hafter hwf rfl hws hws' (by decide)

/-! ### An open coil (R229) -/

/-- A cut that no sample waits for leaves its channel decaying. -/
theorem Mod.cutChannel_of_missed (h : (m.vch c).phase ≠ .idle) (harr : (m.vch c).arr = none) :
    m.cutChannel c = (m.pulsesCut c).setVch c (VCh.cutOff m.now .decay) := by
  rw [Mod.cutChannel_of_runs (fun hrest => h hrest.1), if_neg h, Mod.enterArrival_of_none (by rw [Mod.vch_pulsesCut, harr])]

theorem Mod.runningOn_ch {p : EPulse} (h : m.runningOn c = some p) : p ∈ m.ej.pulses ∧ p.ch = c := by
  have hfound := List.find?_some h
  simp only [Bool.and_eq_true, decide_eq_true_eq] at hfound
  exact ⟨List.mem_of_find?_eq_some h, hfound.1.1⟩

theorem Mod.cutWith_of_alone {p : EPulse} (hp : m.runningOn c = some p) (halone : m.followers p.id = []) : m.cutWith c = [p] := by
  simp only [Mod.cutWith, hp, halone]

/-- A cut counts the pulse that it misses. -/
theorem Mod.rd_cutPulse (hwf : Store.wf m.regs = true) {q : EPulse} (hch : q.ch < 384) :
    (m.cutPulse q).rd P.ejMiss 7 = (m.rd P.ejMiss 7 + 1) % 2 ^ 32 := by
  let after := [P.ejFlags.addr, P.ejChMissed.addr q.ch]
  have hleft : Mod.Within [.ej, .toll] [P.tollExpired1.addr] m ((m.returnGrant q).dropPulse q.id) :=
    (Mod.Within.returnGrant m q (by simp) (by simp) (by simp)).trans (.dropPulse _ _ (by simp))
  generalize hx : (m.returnGrant q).dropPulse q.id = x at hleft
  have hcounted : Mod.Within [.ej, .trk] after (x.inc P.ejMiss 7) (x.countMiss q.ch 8) :=
    (Mod.Within.flag _ _ _ _ (by simp [after])).trans (.inc _ _ _ _ _ (by simp [after]))
  have hrest : Mod.Within [.ej, .trk] after (x.inc P.ejMiss 7) (m.cutPulse q) := by
    rw [Mod.cutPulse, hx]
    exact hcounted.trans (.noteMiss_countMiss _ hch _ _ _ (by simp) (by simp))
  have h3 : P.ejMiss.addr 7 ∉ after := by
    simp [after, Param.addr, P.ejMiss, P.ejFlags, P.ejChMissed]
    omega
  exact hleft.rd_counted hrest hwf rfl (by decide) h3 (by decide)

theorem Mod.rd_pulsesCut_of_alone (hwf : Store.wf m.regs = true) (hc : c < 384) {p : EPulse} (hp : m.runningOn c = some p)
    (halone : m.followers p.id = []) : (m.pulsesCut c).rd P.ejMiss 7 = (m.rd P.ejMiss 7 + 1) % 2 ^ 32 := by
  have hover : Mod.Within [.vlv, .toll] [] m (m.boostCut c) := (Mod.OneCh.boostCut m c (by simp) (by simp)).within
  have hone : m.pulsesCut c = (m.boostCut c).cutPulse p := by
    rw [Mod.pulsesCut, Mod.cutWith_of_alone hp halone]
    rfl
  rw [hone, Mod.rd_cutPulse (hover.wf hwf) ((Mod.runningOn_ch hp).2 ▸ hc), hover.rd_eq hwf (by simp) (by decide)]

/-- What an open coil leaves, while its channel may retry. -/
def Mod.coilOpened (m : Mod) (c n : Nat) : Mod :=
  (((m.noteClear (fun m => m.cutChannel c)).chanFault c 1).setVch c (fun v => { v with opens := n })).raise (vlvSrc c) 0x0410 (leBytes 2 c)

theorem openCoil_of_due {code : Nat} (hdue : ((m.vch c).phase = .boost ∧ (m.vch c).start + 50000 ≤ m.now)
      ∨ ((m.vch c).phase = .hsRise ∧ (m.vch c).start + 200000 ≤ m.now)) (hlow : m.coilMa c code < 100)
    (hretry : (m.vch c).opens + 1 < m.rd P.vlvOpenLimit) : openCoil c code m = m.coilOpened c ((m.vch c).opens + 1) := by
  have hfail : ((m.vch c).phase = .boost && (m.vch c).start + 50000 ≤ m.now || (m.vch c).phase = .hsRise && (m.vch c).start + 200000 ≤ m.now) = true := by
    simpa only [Bool.or_eq_true, Bool.and_eq_true, decide_eq_true_eq] using hdue
  rw [openCoil]
  dsimp only
  rw [hfail, if_neg (by simp [Nat.not_le.2 hlow]), if_neg (Nat.not_le.2 hretry)]
  rfl

theorem Mod.coilOpened_vlv (m : Mod) (c n : Nat) :
    (m.coilOpened c n).vlv = ((m.cutChannel c).setVch c (fun v => { v with fault := 1, opens := n })).vlv := by
  rw [Mod.coilOpened, Mod.raise_vlv, Mod.setVch_vlv_congr (Mod.chanFault_vlv _ _ _), Mod.setVch_setVch]
  exact Mod.setVch_vlv_congr (Mod.noteClear_vlv m _) c _

/-- After a channel's cut is noted, an open coil changes only its channel and its counts. -/
theorem Mod.OneCh.coilOpened_noteClear (m : Mod) (c n : Nat) : Mod.OneCh c [.vlv] [P.vlvFlags.addr]
    ((m.noteClear (fun m => m.cutChannel c)).inc P.vlvFaults) (m.coilOpened c n) :=
  (((Mod.OneCh.flag _ _ _ _ (by simp)).trans (.setVch _ _ (by simp))).trans (.setVch _ _ (by simp))).trans (.raise _ _ _ _)

theorem Mod.coilOpened_ej (m : Mod) (c n : Nat) : (m.coilOpened c n).ej = (m.noteClear (fun m => m.cutChannel c)).ej :=
  ((Mod.OneCh.coilOpened_noteClear m c n).within.areas .ej (by simp)).trans (Mod.inc_ej _ _ _ _ _)

theorem Mod.OneCh.cutChannel_of_missed (h : (m.vch c).phase ≠ .idle) (harr : (m.vch c).arr = none) :
    Mod.OneCh c [.ej, .vlv, .toll, .trk] missWords m (m.cutChannel c) := by
  rw [Mod.cutChannel_of_missed h harr]
  exact (Mod.OneCh.pulsesCut m c).trans (.setVch _ _ (by simp))

end

section
variable {s : State} {t ch : Nat}

theorem openCoil_yields (hs : s.Canonical) (hlen : ch < s.m.vlv.ch.length) (hch : ch < 384) {code : Nat} {p : EPulse}
    (hdue : ((s.m.vch ch).phase = .boost ∧ (s.m.vch ch).start + 50000 ≤ (s.m.at t).now)
      ∨ ((s.m.vch ch).phase = .hsRise ∧ (s.m.vch ch).start + 200000 ≤ (s.m.at t).now)) (hlow : s.m.coilMa ch code < 100)
    (hp : s.m.runningOn ch = some p) (halone : s.m.followers p.id = []) (hretry : (s.m.vch ch).opens + 1 < s.m.rd P.vlvOpenLimit)
    (harr : (s.m.vch ch).arr = none) : s.Yields (.openCoil t ch code) fun m' =>
      m'.vch ch = { (s.m.vch ch).cutOff (s.m.at t).now .decay with fault := 1, opens := (s.m.vch ch).opens + 1 }
      ∧ (∀ c, c ≠ ch → m'.vch c = { s.m.vch c with duty := (m'.vch c).duty })
      ∧ m'.ej.pulses.map EPulse.bare = (s.m.ej.pulses.filter (fun q => q.id ≠ p.id)).map EPulse.bare
      ∧ m'.rd P.ejMiss 7 = (s.m.rd P.ejMiss 7 + 1) % 2 ^ 32 ∧ m'.rd P.vlvFaults = (s.m.rd P.vlvFaults + 1) % 2 ^ 32
      ∧ Mod.Frame t [.ej, .vlv, .toll, .trk] (faultWords ++ missWords) s.m m' := by
  have hmean : openCoil ch code (s.m.at t) = (s.m.at t).coilOpened ch ((s.m.vch ch).opens + 1) := openCoil_of_due hdue hlow hretry
  have hphase : (s.m.vch ch).phase ≠ .idle := by rcases hdue with h | h <;> simp [h.1]
  have hcut := Mod.cutChannel_of_missed (m := s.m.at t) hphase harr
  have hone : Mod.OneCh ch [.ej, .vlv, .toll, .trk] missWords (s.m.at t) ((s.m.at t).noteClear (fun m => m.cutChannel ch)) :=
    (Mod.OneCh.cutChannel_of_missed (m := s.m.at t) hphase harr).noteClear (f := fun m => m.cutChannel ch) (by simp)
  have hends := Mod.OneCh.coilOpened_noteClear (s.m.at t) ch ((s.m.vch ch).opens + 1)
  have hall : Mod.OneCh ch [.ej, .vlv, .toll, .trk] (faultWords ++ missWords) (s.m.at t) ((s.m.at t).coilOpened ch ((s.m.vch ch).opens + 1)) :=
    ((hone.mono (List.Subset.refl _) (by simp)).trans (.inc _ P.vlvFaults 0 1 0 (by simp [faultWords]))).trans (hends.mono (by simp) (by simp [faultWords]))
  have hrest : Mod.Within [.vlv] faultWords ((s.m.at t).noteClear (fun m => m.cutChannel ch)) ((s.m.at t).coilOpened ch ((s.m.vch ch).opens + 1)) :=
    (Mod.Within.inc _ P.vlvFaults 0 1 0 (by simp [faultWords])).trans (hends.within.mono (List.Subset.refl _) (by simp [faultWords]))
  refine ⟨_, rfl, ?_, fun c hc => ?_, ?_, ?_, ?_, Mod.Within.frame ?_⟩
  · have hlen' : ch < ((s.m.at t).pulsesCut ch).vlv.ch.length := hlen.trans_eq (Mod.OneCh.pulsesCut (s.m.at t) ch).count.symm
    rw [Mod.vch_run, hmean, Mod.vch_congr (Mod.coilOpened_vlv _ _ _), hcut, Mod.setVch_setVch, Mod.vch_setVch hlen', Mod.vch_pulsesCut]
    rfl
  · rw [Mod.vch_run, hmean]
    exact hall.others c hc
  · rw [Mod.run_ej, hmean, Mod.coilOpened_ej, Mod.noteClear_bare, Mod.cutChannel_pulses (m := s.m.at t) hphase,
      Mod.cutWith_of_alone (m := s.m.at t) hp halone]
    simp
  · rw [Mod.run_rd_other t _ s.m (by decide), hmean, hrest.rd_eq (p := P.ejMiss) (i := 7) (hone.within.wf hs) (by decide) (by decide),
      Mod.rd_noteClear, hcut, Mod.rd_setVch]
    exact Mod.rd_pulsesCut_of_alone (m := s.m.at t) hs hch hp halone
  · rw [Mod.run_rd_other t _ s.m (by decide), hmean]
    exact Mod.rd_vlvFaults (a := s.m.at t) hs hone.within hends.within vlvFaults_not_mem_missWords (by decide)
  · rw [hmean]
    exact hall.within
end

section
variable {m : Mod} {c : Nat} {as : List Area} {ws : List Nat}

/-! ### A short (R226, R229) -/

theorem Mod.OneCh.holdEnds (m : Mod) (c : Nat) (last : List CoilSmp) (h : Area.vlv ∈ as) : Mod.OneCh c as ws m (m.holdEnds c last) := by
  rcases m.holdEnds_cases c last with hsame | ⟨tc, hset⟩
  · rw [hsame]
    exact .refl m
  · rw [hset]
    exact .setVch m _ h

/-- A channel's hold phase and profile end in a cut. -/
def Mod.endCut (m : Mod) (c : Nat) (last : List CoilSmp) : Mod := (m.holdEnds c last).cutChannel c

theorem Mod.OneCh.endCut (m : Mod) (c : Nat) (last : List CoilSmp) :
    Mod.OneCh c [.ej, .vlv, .toll, .trk] (detWords c ++ missWords) m (m.endCut c last) :=
  (Mod.OneCh.holdEnds m c last (by simp)).trans (.cutChannel _ c)

/-- A channel latched. -/
def Mod.latched (m : Mod) (c fault : Nat) : Mod :=
  (m.setVch c (fun v => { v with latched := true })).raise (vlvSrc c) 0x0412 (leBytes 2 c ++ leBytes 1 fault)

/-- What a short leaves, before the pulses that wait for its channel are missed. -/
def Mod.shorted (m : Mod) (c ma : Nat) (last : List CoilSmp) : Mod :=
  (((m.noteClear (fun m => m.endCut c last)).chanFault c 2).raise (vlvSrc c) 0x0411 (leBytes 2 c ++ leBytes 2 ma)).latched c 2

theorem shortOvercurrent_of_high {code : Nat} (hc : c < 384) (hphase : (m.vch c).phase ≠ .idle) (hhigh : m.rd P.vlvIShort ≤ m.coilMa c code)
    (last : List CoilSmp) : shortOvercurrent c code last m = (m.shorted c (m.coilMa c code) last).refuseWaiting c 5 := by
  have hcond : (c < 384 && (m.vch c).phase ≠ .idle && m.rd P.vlvIShort ≤ m.coilMa c code) = true := by simp [hc, hphase, hhigh]
  rw [shortOvercurrent, if_pos hcond]
  rfl

theorem Mod.OneCh.shorted_noteClear (m : Mod) (c ma : Nat) (last : List CoilSmp) : Mod.OneCh c [.vlv] [P.vlvFlags.addr]
    ((m.noteClear (fun m => m.endCut c last)).inc P.vlvFaults) (m.shorted c ma last) :=
  ((((Mod.OneCh.flag _ _ _ _ (by simp)).trans (.setVch _ _ (by simp))).trans (.raise _ _ _ _)).trans (.setVch _ _ (by simp))).trans (.raise _ _ _ _)

theorem Mod.shorted_vlv (m : Mod) (c ma : Nat) (last : List CoilSmp) :
    (m.shorted c ma last).vlv = ((m.endCut c last).setVch c (fun v => { v with fault := 2, latched := true })).vlv := by
  have hcut : ((m.noteClear (fun m => m.endCut c last)).setVch c (fun v => { v with fault := 2, latched := true })).vlv
      = ((m.endCut c last).setVch c (fun v => { v with fault := 2, latched := true })).vlv := Mod.setVch_vlv_congr (Mod.noteClear_vlv m _) c _
  rw [Mod.shorted, Mod.latched, Mod.raise_vlv, Mod.setVch_vlv_congr ((Mod.raise_vlv _ _ _ _).trans (Mod.chanFault_vlv _ _ _)), Mod.setVch_setVch, hcut]

theorem Mod.shorted_ej (m : Mod) (c ma : Nat) (last : List CoilSmp) : (m.shorted c ma last).ej = (m.noteClear (fun m => m.endCut c last)).ej :=
  ((Mod.OneCh.shorted_noteClear m c ma last).within.areas .ej (by simp)).trans (Mod.inc_ej _ _ _ _ _)

theorem Mod.phase_holdEnds (hlen : c < m.vlv.ch.length) (last : List CoilSmp) : ((m.holdEnds c last).vch c).phase = (m.vch c).phase := by
  obtain ⟨_, _, h⟩ := Mod.vch_holdEnds hlen last
  rw [h]

theorem Mod.endCut_pulses (hlen : c < m.vlv.ch.length) (hphase : (m.vch c).phase ≠ .idle) (last : List CoilSmp) :
    (m.endCut c last).ej.pulses = m.ej.pulses.filter (fun x => ∀ q ∈ m.cutWith c, x.id ≠ q.id) := by
  rw [Mod.endCut, Mod.cutChannel_pulses (by rwa [Mod.phase_holdEnds hlen]), Mod.holdEnds_ej, Mod.cutWith_congr (Mod.holdEnds_ej m c last)]

theorem Mod.vch_endCut (hlen : c < m.vlv.ch.length) (hphase : (m.vch c).phase ≠ .idle) (last : List CoilSmp) :
    ((m.endCut c last).vch c).phase = .decay ∧ ((m.endCut c last).vch c).arr = none ∧ ((m.endCut c last).vch c).energised = false := by
  have hlen' : c < (m.holdEnds c last).vlv.ch.length :=
    hlen.trans_eq (Mod.OneCh.holdEnds (as := [.vlv]) (ws := []) m c last (by simp)).count.symm
  obtain ⟨hdecay, harr⟩ := Mod.vch_cutChannel hlen' (by rwa [Mod.phase_holdEnds hlen])
  exact ⟨hdecay, harr, Mod.energised_cutChannel hlen'⟩

theorem Mod.noted_ch (m a : Mod) (q : EPulse) : (m.noted a q).ch = q.ch :=
  show (m.noted a q).bare.ch = q.bare.ch by rw [Mod.bare_noted]

/-- Pulses cut from a channel, where none is merged, are the channel's own. -/
theorem Mod.cutWith_ch (h : ∀ q ∈ m.ej.pulses, q.into = none) {p : EPulse} (hp : p ∈ m.cutWith c) : p ∈ m.ej.pulses ∧ p.ch = c := by
  unfold Mod.cutWith at hp
  split at hp
  · rename_i r hr
    rcases List.mem_cons.1 hp with rfl | hp
    · exact Mod.runningOn_ch hr
    · obtain ⟨hmem, hinto⟩ := List.mem_filter.1 hp
      simp [h p hmem] at hinto
  · simp at hp

/-- Of pulses none of which is merged, a short leaves none that waits for its channel, and takes none of another's. -/
theorem Mod.shorted_pulses (hlen : c < m.vlv.ch.length) (hphase : (m.vch c).phase ≠ .idle) (hnone : ∀ q ∈ m.ej.pulses, q.into = none)
    (ma : Nat) (last : List CoilSmp) :
    (∀ q ∈ ((m.shorted c ma last).refuseWaiting c 5).ej.pulses, (q.ch = c → q.started.isSome = true) ∧ ∃ r ∈ m.ej.pulses, r.bare = q.bare)
    ∧ ∀ q ∈ m.ej.pulses, (∀ x ∈ m.ej.pulses, x.ch = c → x.id ≠ q.id) →
        ∃ r ∈ ((m.shorted c ma last).refuseWaiting c 5).ej.pulses, r.bare = q.bare := by
  have hpulses : (m.shorted c ma last).ej.pulses
      = (m.ej.pulses.filter (fun x => ∀ q ∈ m.cutWith c, x.id ≠ q.id)).map (m.noted (m.endCut c last)) := by
    rw [Mod.shorted_ej, Mod.noteClear_pulses, Mod.endCut_pulses hlen hphase]
  have horigin : ∀ q ∈ (m.shorted c ma last).ej.pulses, ∃ r ∈ m.ej.pulses, m.noted (m.endCut c last) r = q := fun q hq => by
    rw [hpulses] at hq
    obtain ⟨r, hr, rfl⟩ := List.mem_map.1 hq
    exact ⟨r, List.mem_of_mem_filter hr, rfl⟩
  have hnone' : ∀ q ∈ (m.shorted c ma last).ej.pulses, q.into = none := fun q hq => by
    obtain ⟨r, hr, rfl⟩ := horigin q hq
    rw [Mod.noted_into, hnone r hr]
  constructor
  · intro q hq
    obtain ⟨hmem, hleft⟩ := (Mod.mem_refuseWaiting hnone' 5).1 hq
    refine ⟨fun hch => Option.isSome_iff_ne_none.2 fun hwaits => hleft q hmem hch hwaits rfl, ?_⟩
    obtain ⟨r, hr, rfl⟩ := horigin q hmem
    exact ⟨r, hr, (Mod.bare_noted _ _ r).symm⟩
  · intro q hq hother
    refine ⟨m.noted (m.endCut c last) q, (Mod.mem_refuseWaiting hnone' 5).2 ⟨?_, fun x hx hch _ => ?_⟩, Mod.bare_noted _ _ q⟩
    · rw [hpulses]
      refine List.mem_map_of_mem (List.mem_filter.2 ⟨hq, decide_eq_true fun p hp => ?_⟩)
      obtain ⟨hmem, hch⟩ := Mod.cutWith_ch hnone hp
      exact (hother p hmem hch).symm
    · obtain ⟨r, hr, rfl⟩ := horigin x hx
      rw [Mod.noted_ch] at hch
      rw [Mod.noted_id, Mod.noted_id]
      exact (hother r hr hch).symm

end

section
variable {s : State} {t ch : Nat}

theorem shortOvercurrent_yields (hs : s.Canonical) (hlen : ch < s.m.vlv.ch.length) (hch : ch < 384) {code : Nat} (last : List CoilSmp)
    (hphase : (s.m.vch ch).phase ≠ .idle) (hhigh : s.m.rd P.vlvIShort ≤ s.m.coilMa ch code) (hnone : ∀ q ∈ s.m.ej.pulses, q.into = none) :
    s.Yields (.shortOvercurrent t ch code last) fun m' =>
      (m'.vch ch).latched = true ∧ (m'.vch ch).fault = 2 ∧ (m'.vch ch).energised = false ∧ (m'.vch ch).phase = .decay
      ∧ (∀ c, c ≠ ch → m'.vch c = { s.m.vch c with duty := (m'.vch c).duty })
      ∧ (∀ q ∈ m'.ej.pulses, (q.ch = ch → q.started.isSome = true) ∧ ∃ r ∈ s.m.ej.pulses, r.bare = q.bare)
      ∧ (∀ q ∈ s.m.ej.pulses, (∀ x ∈ s.m.ej.pulses, x.ch = ch → x.id ≠ q.id) → ∃ r ∈ m'.ej.pulses, r.bare = q.bare)
      ∧ m'.rd P.vlvFaults = (s.m.rd P.vlvFaults + 1) % 2 ^ 32
      ∧ (m'.vch ch).arr = none
      ∧ Mod.Frame t [.ej, .vlv, .toll, .trk] (detWords ch ++ faultWords ++ missWords) s.m m' := by
  have hmean := shortOvercurrent_of_high (m := s.m.at t) hch hphase hhigh last
  generalize (s.m.at t).coilMa ch code = ma at hmean
  have hone : Mod.OneCh ch [.ej, .vlv, .toll, .trk] (detWords ch ++ missWords) (s.m.at t) ((s.m.at t).noteClear (fun m => m.endCut ch last)) :=
    (Mod.OneCh.endCut (s.m.at t) ch last).noteClear (f := fun m => m.endCut ch last) (by simp)
  have hends := (Mod.OneCh.shorted_noteClear (s.m.at t) ch ma last)
  have hrefused : Mod.OneCh ch [.toll, .ej, .trk] missWords ((s.m.at t).shorted ch ma last) (((s.m.at t).shorted ch ma last).refuseWaiting ch 5) :=
    .of_within (Mod.refuseWaiting_vlv _ hch (by decide)) (.refuseWaiting _ hch (by decide))
  have hcounted : Mod.OneCh ch [.ej, .vlv, .toll, .trk] (P.vlvFlags.addr :: missWords)
      (((s.m.at t).noteClear (fun m => m.endCut ch last)).inc P.vlvFaults) (((s.m.at t).shorted ch ma last).refuseWaiting ch 5) :=
    (hends.mono (by simp) (by simp)).trans (hrefused.mono (by simp) (by simp))
  have hall : Mod.OneCh ch [.ej, .vlv, .toll, .trk] (detWords ch ++ faultWords ++ missWords) (s.m.at t)
      (((s.m.at t).shorted ch ma last).refuseWaiting ch 5) :=
    ((hone.mono (List.Subset.refl _) (by simp)).trans (.inc _ P.vlvFaults 0 1 0 (by simp [faultWords]))).trans
      (hcounted.mono (List.Subset.refl _) (by simp [faultWords]))
  have hvlv : (Mod.run t (shortOvercurrent ch code last) s.m).vlv
      = (((s.m.at t).endCut ch last).setVch ch (fun v => { v with fault := 2, latched := true })).vlv := by
    rw [Mod.run_vlv, hmean, Mod.refuseWaiting_vlv _ hch (by decide), Mod.shorted_vlv]
  have hvch : (Mod.run t (shortOvercurrent ch code last) s.m).vch ch = { ((s.m.at t).endCut ch last).vch ch with fault := 2, latched := true } := by
    rw [Mod.vch_congr hvlv, Mod.vch_setVch (hlen.trans_eq (Mod.OneCh.endCut (s.m.at t) ch last).count.symm)]
  obtain ⟨hdecay, harr, hoff⟩ := Mod.vch_endCut (m := s.m.at t) hlen hphase last
  obtain ⟨hkept, hothers⟩ := Mod.shorted_pulses (m := s.m.at t) hlen hphase hnone ma last
  have hej : (Mod.run t (shortOvercurrent ch code last) s.m).ej = (((s.m.at t).shorted ch ma last).refuseWaiting ch 5).ej := by
    rw [Mod.run_ej, hmean]
  refine ⟨_, rfl, ?_, ?_, ?_, ?_, fun c hc => ?_, ?_, ?_, ?_, ?_, Mod.Within.frame ?_⟩
  · rw [hvch]
  · rw [hvch]
  · rw [hvch]
    exact hoff
  · rw [hvch]
    exact hdecay
  · rw [Mod.vch_run, hmean]
    exact hall.others c hc
  · rw [hej]
    exact hkept
  · rw [hej]
    exact hothers
  · rw [Mod.run_rd_other t _ s.m (by decide), hmean]
    refine Mod.rd_vlvFaults (a := s.m.at t) hs hone.within hcounted.within ?_ ?_
    · exact fun h => (List.mem_append.1 h).elim (vlvFaults_not_mem_detWords ch) vlvFaults_not_mem_missWords
    · exact List.not_mem_cons_of_ne_of_not_mem (by decide) vlvFaults_not_mem_missWords
  · rw [hvch]
    exact harr
  · rw [hmean]
    exact hall.within

end

/-! ### A bank is lost (R229, R230) -/

/-- A channel of a lost bank. -/
def VCh.Lost (fault : Nat) (v : VCh) : Prop := v.energised = false ∧ v.fault = fault

/-- One channel of a lost bank is cut. -/
def Mod.bankStep (fault : Nat) (lasts : List (Nat × List CoilSmp)) (m : Mod) (c : Nat) : Mod :=
  (m.endCut c ((assocGet lasts c).getD [])).setVch c (fun v => { v with fault := fault })

section
variable {m : Mod} {b fault : Nat} {lasts : List (Nat × List CoilSmp)}

theorem Mod.OneCh.bankStep (m : Mod) (fault : Nat) (lasts : List (Nat × List CoilSmp)) (c : Nat) :
    Mod.OneCh c [.ej, .vlv, .toll, .trk] (detWords c ++ missWords) m (m.bankStep fault lasts c) :=
  (Mod.OneCh.endCut m c _).trans (.setVch _ _ (by simp))

theorem Mod.lost_bankStep {c : Nat} (hlen : c < m.vlv.ch.length) : ((m.bankStep fault lasts c).vch c).Lost fault := by
  have hheld : c < (m.holdEnds c ((assocGet lasts c).getD [])).vlv.ch.length :=
    hlen.trans_eq (Mod.OneCh.holdEnds (as := [.vlv]) (ws := []) m c _ (by simp)).count.symm
  have hoff : ((m.endCut c ((assocGet lasts c).getD [])).vch c).energised = false := by rw [Mod.endCut, Mod.energised_cutChannel hheld]
  rw [Mod.bankStep, Mod.vch_setVch (hlen.trans_eq (Mod.OneCh.endCut m c _).count.symm)]
  exact ⟨hoff, rfl⟩

theorem Mod.lost_bankStep_of_lost {c k : Nat} (hlen : c < m.vlv.ch.length) (h : (m.vch k).Lost fault) :
    ((m.bankStep fault lasts c).vch k).Lost fault := by
  by_cases hk : k = c
  · rw [hk]
    exact Mod.lost_bankStep hlen
  · rw [(Mod.OneCh.bankStep m fault lasts c).others k hk]
    exact h

/-- Channels of one bank are cut one after the other. -/
structure Mod.Cuts (b fault : Nat) (l : List Nat) (a x : Mod) : Prop where
  lost : ∀ c ∈ l, (x.vch c).Lost fault
  keeps : ∀ c, (a.vch c).Lost fault → (x.vch c).Lost fault
  apart : ∀ c, bankOf c ≠ b → x.vch c = a.vch c
  service : x.vlv.bankOk = a.vlv.bankOk ∧ x.vlv.bankLost = a.vlv.bankLost
  within : Mod.Within [.ej, .vlv, .toll, .trk] (l.flatMap detWords ++ missWords) a x

theorem Mod.Cuts.foldl (l : List Nat) (m : Mod) (hl : ∀ c ∈ l, bankOf c = b ∧ c < m.vlv.ch.length) :
    Mod.Cuts b fault l m (l.foldl (Mod.bankStep fault lasts) m) := by
  induction l generalizing m with
  | nil => exact ⟨by simp, fun _ h => h, fun _ _ => rfl, ⟨rfl, rfl⟩, .refl m⟩
  | cons c l ih =>
    obtain ⟨⟨hbank, hlen⟩, hrest⟩ := List.forall_mem_cons.1 hl
    have hstep := Mod.OneCh.bankStep m fault lasts c
    have hcuts := ih (m.bankStep fault lasts c) (fun k hk => ⟨(hrest k hk).1, hstep.count ▸ (hrest k hk).2⟩)
    refine ⟨fun k hk => ?_, fun k hk => hcuts.keeps k (Mod.lost_bankStep_of_lost hlen hk),
      fun k hk => (hcuts.apart k hk).trans (hstep.apart k (hbank ▸ hk)),
      ⟨hcuts.service.1.trans hstep.service.1, hcuts.service.2.trans hstep.service.2⟩, ?_⟩
    · rcases List.mem_cons.1 hk with rfl | hk
      · exact hcuts.keeps k (Mod.lost_bankStep hlen)
      · exact hcuts.lost k hk
    · have hwords : detWords c ++ missWords ⊆ (c :: l).flatMap detWords ++ missWords
          ∧ l.flatMap detWords ++ missWords ⊆ (c :: l).flatMap detWords ++ missWords := by
        rw [List.flatMap_cons, List.append_assoc]
        exact ⟨by simp, List.subset_append_right _ _⟩
      exact (hstep.within.mono (List.Subset.refl _) hwords.1).trans (hcuts.within.mono (List.Subset.refl _) hwords.2)

/-- The channels of a bank are cut. -/
def Mod.bankCut (m : Mod) (b fault : Nat) (lasts : List (Nat × List CoilSmp)) : Mod := (bankChannels b).foldl (fun m c => m.bankStep fault lasts c) m

theorem bankChannels_spec (hb : b < 24) {c : Nat} (hc : c ∈ bankChannels b) : bankOf c = b ∧ c < 384 := by
  refine ⟨bankOf_of_mem hb hc, ?_⟩
  obtain ⟨j, hj, rfl⟩ := List.mem_map.1 hc
  have := List.mem_range.1 hj
  omega

theorem Mod.Cuts.bankCut (hb : b < 24) (hlen : m.vlv.ch.length = 384) : Mod.Cuts b fault (bankChannels b) m (m.bankCut b fault lasts) :=
  .foldl _ m fun _ hc => ⟨(bankChannels_spec hb hc).1, hlen ▸ (bankChannels_spec hb hc).2⟩

/-- A bank out of service. -/
def Mod.bankOut (m : Mod) (b : Nat) : Mod :=
  { m with vlv := { m.vlv with bankOk := m.vlv.bankOk.set b false, bankLost := m.vlv.bankLost.set b true, bankHi := m.vlv.bankHi.set b false } }

theorem Mod.bankOut_bankOk (m : Mod) (b : Nat) : (m.bankOut b).vlv.bankOk = m.vlv.bankOk.set b false := rfl
theorem Mod.bankOut_bankLost (m : Mod) (b : Nat) : (m.bankOut b).vlv.bankLost = m.vlv.bankLost.set b true := rfl
theorem Mod.bankOut_bankHi (m : Mod) (b : Nat) : (m.bankOut b).vlv.bankHi = m.vlv.bankHi.set b false := rfl
theorem Mod.vch_bankOut (m : Mod) (b c : Nat) : (m.bankOut b).vch c = m.vch c := rfl

theorem Mod.bankOut_vlv_congr {x y : Mod} (h : y.vlv = x.vlv) : (y.bankOut b).vlv = (x.bankOut b).vlv := by
  simp only [Mod.bankOut, h]

/-- The loss of a bank, before the pulses that wait for it are missed. -/
def Mod.bankGone (m : Mod) (b cause fault : Nat) (lasts : List (Nat × List CoilSmp)) : Mod :=
  ((((m.noteClear (fun m => m.bankCut b fault lasts)).bankOut b).inc P.vlvFaults).flag P.vlvFlags 48).raise 72 0x0415 (leBytes 1 b ++ leBytes 1 cause)

theorem Mod.Within.bankGone (m : Mod) (b cause fault : Nat) (lasts : List (Nat × List CoilSmp)) : Mod.Within [] [P.vlvFlags.addr]
    (((m.noteClear (fun m => m.bankCut b fault lasts)).bankOut b).inc P.vlvFaults) (m.bankGone b cause fault lasts) := by
  unfold Mod.bankGone
  exact (Mod.Within.flag _ _ _ _ (by simp)).trans (.raise _ _ _ _)

theorem Mod.loseBank_eq (m : Mod) (b cause fault : Nat) (lasts : List (Nat × List CoilSmp)) :
    m.loseBank b cause fault lasts = (bankChannels b).foldl (fun m c => m.refuseWaiting c 5) (m.bankGone b cause fault lasts) := by
  simp only [Mod.loseBank, Mod.bankGone, Mod.bankOut, Mod.bankCut, Mod.bankStep, Mod.endCut]

theorem Mod.Within.loseBank_bankGone (hb : b < 24) (m : Mod) (cause fault : Nat) (lasts : List (Nat × List CoilSmp)) :
    Mod.Within [.toll, .ej, .trk] missWords (m.bankGone b cause fault lasts) (m.loseBank b cause fault lasts) := by
  rw [Mod.loseBank_eq]
  exact .foldl_mem _ (fun _ hc a => .refuseWaiting a (bankChannels_spec hb hc).2 (by decide)) _

theorem Mod.loseBank_vlv (hb : b < 24) (m : Mod) (cause fault : Nat) (lasts : List (Nat × List CoilSmp)) :
    (m.loseBank b cause fault lasts).vlv = ((m.bankCut b fault lasts).bankOut b).vlv := by
  rw [(Mod.Within.loseBank_bankGone hb m cause fault lasts).areas .vlv (by simp), Mod.bankGone, Mod.raise_vlv, Mod.flag_vlv, Mod.inc_vlv]
  exact Mod.bankOut_vlv_congr (Mod.noteClear_vlv m _)

theorem bankStageFault_of_bad {smp : List BankSmp} (hok : m.vlv.bankOk.getD b false = true) (hsmp : 5 ≤ smp.length)
    (hbad : ∀ x ∈ smp, 3000 < ((x.com : Int) - (stageMv (m.stageOf b) x : Int)).natAbs) :
    bankStageFault b smp lasts m = m.loseBank b 2 5 lasts := by
  have hall : smp.all (fun s => 3000 < ((s.com : Int) - (stageMv (m.stageOf b) s : Int)).natAbs) = true := by
    rw [List.all_eq_true]
    exact fun x hx => decide_eq_true (hbad x hx)
  have hcond : (m.vlv.bankOk.getD b false && 5 ≤ smp.length
      && smp.all (fun s => 3000 < ((s.com : Int) - (stageMv (m.stageOf b) s : Int)).natAbs)) = true := by
    rw [hall, hok, Bool.and_true, Bool.true_and]
    exact decide_eq_true hsmp
  exact if_pos hcond

theorem lowSideStuckOn_of_stuck {c : Nat} {smp : List CoilSmp} (hok : m.vlv.bankOk.getD (bankOf c) false = true) (hc : c < 384)
    (hstage : m.stageOf (bankOf c) ≠ 0) (hoff : m.lowSideOn c = false) (hsmp : 20 ≤ smp.length)
    (hstuck : ∀ x ∈ smp, x.on = false ∧ 100 ≤ m.coilMa c x.code) : lowSideStuckOn c smp lasts m = m.loseBank (bankOf c) 1 4 lasts := by
  have hall : smp.all (fun x => !x.on && 100 ≤ m.coilMa c x.code) = true := by
    rw [List.all_eq_true]
    intro x hx
    obtain ⟨hon, hhigh⟩ := hstuck x hx
    rw [hon, Bool.not_false, Bool.true_and]
    exact decide_eq_true hhigh
  have hcond : (c < 384 && m.vlv.bankOk.getD (bankOf c) false && m.stageOf (bankOf c) ≠ 0 && !m.lowSideOn c && 20 ≤ smp.length
      && smp.all (fun x => !x.on && 100 ≤ m.coilMa c x.code)) = true := by
    rw [hall, hok, hoff, Bool.and_true, Bool.and_true, Bool.not_false, Bool.and_true]
    simp [hc, hstage, hsmp]
  exact if_pos hcond

end

section
variable {s : State} {t b cause fault : Nat} {lasts : List (Nat × List CoilSmp)}

theorem loseBank_yields {cmd : Instr} {f : Mod → Mod} (hexec : exec cmd s = s.run t f)
    (hmean : f (s.m.at t) = (s.m.at t).loseBank b cause fault lasts) (hs : s.Canonical) (hlen : s.m.vlv.ch.length = 384) (hb : b < 24) :
    s.Yields cmd fun m' =>
      m'.vlv.bankOk = s.m.vlv.bankOk.set b false ∧ m'.vlv.bankLost = s.m.vlv.bankLost.set b true ∧ m'.vlv.bankHi.getD b false = false
      ∧ (∀ c ∈ bankChannels b, (m'.vch c).energised = false ∧ (m'.vch c).fault = fault)
      ∧ (∀ c, bankOf c ≠ b → m'.vch c = s.m.vch c) ∧ m'.rd P.vlvFaults = (s.m.rd P.vlvFaults + 1) % 2 ^ 32
      ∧ Mod.Frame t [.ej, .vlv, .toll, .trk] ((bankChannels b).flatMap detWords ++ faultWords ++ missWords) s.m m' := by
  have hcuts : Mod.Cuts b fault (bankChannels b) (s.m.at t) ((s.m.at t).bankCut b fault lasts) := .bankCut hb hlen
  have hvlv : (Mod.run t f s.m).vlv = (((s.m.at t).bankCut b fault lasts).bankOut b).vlv := by
    rw [Mod.run_vlv, hmean, Mod.loseBank_vlv hb]
  have hvch : ∀ c, (Mod.run t f s.m).vch c = ((s.m.at t).bankCut b fault lasts).vch c := fun c =>
    (Mod.vch_congr hvlv c).trans (Mod.vch_bankOut _ b c)
  have hcut : Mod.Within [.ej, .vlv, .toll, .trk] ((bankChannels b).flatMap detWords ++ missWords) (s.m.at t)
      (((s.m.at t).noteClear (fun m => m.bankCut b fault lasts)).bankOut b) :=
    (hcuts.within.noteClear (f := fun m => m.bankCut b fault lasts) (by simp)).trans (.ofVlv _ _ (by simp))
  have hends : Mod.Within [.ej, .vlv, .toll, .trk] (P.vlvFlags.addr :: missWords)
      ((((s.m.at t).noteClear (fun m => m.bankCut b fault lasts)).bankOut b).inc P.vlvFaults) ((s.m.at t).loseBank b cause fault lasts) :=
    ((Mod.Within.bankGone _ b cause fault lasts).mono (by simp) (by simp)).trans ((Mod.Within.loseBank_bankGone hb _ _ _ _).mono (by simp) (by simp))
  refine ⟨_, hexec, ?_, ?_, ?_, fun c hc => ?_, fun c hc => ?_, ?_, Mod.Within.frame ?_⟩
  · rw [hvlv, Mod.bankOut_bankOk, hcuts.service.1]
    rfl
  · rw [hvlv, Mod.bankOut_bankLost, hcuts.service.2]
    rfl
  · rw [hvlv, Mod.bankOut_bankHi, getD_set_false]
  · rw [hvch]
    exact hcuts.lost c hc
  · rw [hvch]
    exact hcuts.apart c hc
  · rw [Mod.run_rd_other t _ s.m (by decide), hmean]
    refine Mod.rd_vlvFaults (a := s.m.at t) hs hcut hends ?_ ?_
    · intro h
      rcases List.mem_append.1 h with h | h
      · obtain ⟨c, -, hc⟩ := List.mem_flatMap.1 h
        exact vlvFaults_not_mem_detWords c hc
      · exact vlvFaults_not_mem_missWords h
    · exact List.not_mem_cons_of_ne_of_not_mem (by decide) vlvFaults_not_mem_missWords
  · rw [hmean]
    exact ((hcut.mono (by simp) (by simp)).trans (.inc _ P.vlvFaults 0 1 0 (by simp [faultWords]))).trans (hends.mono (by simp) (by simp [faultWords]))

end

/-! ### The command VLV_CH_CLR (R230) -/

theorem writeCheck_vlvChClr (m : Mod) (role : Nat) {ch : Nat} (hch : ch < 384) :
    m.writeCheck role P.vlvChClr.addr (w32 ch) = .ok (P.vlvChClr, 0, 0) := by
  have hbits : ∀ ch < 384, P.vlvChClr.bitsOk 0 (w32 ch) = true := by decide +kernel
  have hnamed : ∀ ch < 384, specialRange .vlvClr (fun _ => 0#32) 0 0 (w32 ch).toNat = true := by decide +kernel
  have hrange : P.vlvChClr.inRange m.word 0 0 (w32 ch) = true := hnamed ch hch
  have hat : paramAt P.vlvChClr.addr = some (P.vlvChClr, 0, 0) := by rfl
  unfold Mod.writeCheck
  rw [hat]
  simp only [hbits ch hch, hrange]
  rfl

theorem cmdWrite_vlvChClr {m : Mod} (hrun : m.running = true) (role : Nat) {ch : Nat} (hch : ch < 384) :
    cmdWrite P.vlvChClr 0 role [] (w32 ch) m = vlvChClr ch (m.setWord P.vlvChClr.addr (w32 ch)) := by
  have hval : (w32 ch).toNat = ch := Nat.mod_eq_of_lt (show ch < 2 ^ 32 by omega)
  rw [cmdWrite, if_pos (by decide), writeNow_of_cmd [] hrun (writeCheck_vlvChClr m role hch) rfl (by decide), hval]
  rfl

/-- An ejector channel returned to service. -/
def VCh.returned (v : VCh) : VCh := { v with latched := false, opens := 0 }

theorem vlvChClr_of_latched {m : Mod} {ch : Nat} (hch : ch < 384) (hlatched : (m.vch ch).latched = true) :
    vlvChClr ch m = ((m.wr P.vlvChClr ch).setVch ch VCh.returned).raise (vlvSrc ch) 0x0413 (leBytes 2 ch) := by
  have hone : ¬ ch.testBit 15 = true := by rw [Nat.testBit_lt_two_pow (show ch < 2 ^ 15 by omega)]; simp
  have hnamed : field ch 8 0 = ch := by simp only [field]; omega
  rw [vlvChClr, if_neg hone, hnamed]
  exact if_pos hlatched

section
variable {s : State} {t ch : Nat}

theorem vlvChClr_yields (hlen : ch < s.m.vlv.ch.length) (hch : ch < 384) (role : Nat) (hrun : s.m.running = true)
    (hlatched : (s.m.vch ch).latched = true) : s.Yields (.vlvChClr t role (w32 ch)) fun m' =>
      m'.vlv = { s.m.vlv with ch := s.m.vlv.ch.set ch (s.m.vch ch).returned } ∧ Mod.Frame t [.vlv] [P.vlvChClr.addr] s.m m' := by
  have hmean := (cmdWrite_vlvChClr (m := s.m.at t) hrun role hch).trans
    (vlvChClr_of_latched (m := (s.m.at t).setWord P.vlvChClr.addr (w32 ch)) hch hlatched)
  refine ⟨_, rfl, Mod.run_setVch_vlv (f := cmdWrite P.vlvChClr 0 role [] (w32 ch)) (g := VCh.returned) hlen ?_, Mod.Within.frame ?_⟩
  · rw [hmean]
    rfl
  · rw [hmean]
    exact (((Mod.Within.setWord _ _ _ (by simp)).trans (.wr _ _ _ _ _ (by simp))).trans (.setVch _ _ _ (by simp))).trans (.raise _ _ _ _)

end

/-! ### The coils' temperatures (R225 to R228) -/

/-- A coil's temperature after an update, from the channel's samples of the last ms. -/
def Mod.heated (m : Mod) (board : Int) (codes : List (Nat × List Nat)) (c : Nat) : Int :=
  m.coilStep c board (sumOf ((((assocGet codes c).getD []).take 1000).map (fun x => m.coilMa c x ^ 2)))

section
variable {m x : Mod} {c : Nat} {board : Int} {codes : List (Nat × List Nat)}

/-- An update below the protective limit sets a coil's temperature and band, and nothing else. -/
theorem Mod.coilUpdate_of_below (hlen : c < m.vlv.ch.length) (hprotect : (m.vch c).protect = false)
    (hlow : m.heated board codes c < m.rdI P.vlvTProt * 100000000) :
    m.coilUpdate board codes c = m.setVch c (m.warmed (m.heated board codes c)) := by
  unfold Mod.coilUpdate
  extract_lets sq m1 v lim hyst
  have hset : m1 = m.setVch c (m.warmed (m.heated board codes c)) := Mod.setCoil_eq hlen _
  have hv : v = m.warmed (m.heated board codes c) (m.vch c) := (congrArg (fun x : Mod => x.vch c) hset).trans (Mod.vch_setVch hlen _)
  have hfree : v.protect = false := by
    rw [hv]
    exact hprotect
  have htc : v.tc = m.heated board codes c := by rw [hv, Mod.warmed]
  have hon : ¬ (!v.protect && lim ≤ v.tc) = true := by
    rw [htc, Bool.and_eq_true, decide_eq_true_eq]
    exact fun h => Int.not_le.2 hlow h.2
  have hoff : ¬ (v.protect && v.tc < lim - hyst) = true := by simp [hfree]
  rw [if_neg hon, if_neg hoff, hset]

/-- A coil's update reads no word that the update of the board's temperature writes, and nothing of the other channels. -/
theorem Mod.heated_of_within (h : Mod.Within [.vlv] [P.vlvTBoard.addr] m x) (hwf : Store.wf m.regs = true) (hvch : x.vch c = m.vch c) :
    x.heated board codes c = m.heated board codes c := by
  have hsys : x.sys = m.sys := h.areas .sys (by simp)
  have hnv : x.nv.calf = m.nv.calf := by
    rw [show x.nv = { m.nv with slots := x.nv.slots } from h.areas .nv (by simp)]
  have hcal : ∀ q i, x.calN q i = m.calN q i := fun q i => by simp only [Mod.calN, Mod.cal, hsys, hnv]
  have hrd : ∀ q : Param, q.addr ≠ P.vlvTBoard.addr → q.addr ≠ P.loopFlags.addr → x.rd q = m.rd q := fun q hq hl =>
    h.rd_eq hwf (by simpa using hq) hl
  simp only [Mod.heated, Mod.coilStep, Mod.coilMa, hcal, hvch, hrd P.vlvRth (by decide) (by decide), hrd P.vlvTau (by decide) (by decide)]

theorem Mod.bandOf_of_within (h : Mod.Within [.vlv] [P.vlvTBoard.addr] m x) (hwf : Store.wf m.regs = true) (old : Nat) (tc : Int) :
    x.bandOf old tc = m.bandOf old tc := by
  have hband : ∀ k < 3, x.rdI P.vlvBandT k = m.rdI P.vlvBandT k := fun k hk => by
    refine congrArg (sext P.vlvBandT.w) (h.rd_eq hwf ?_ ?_) <;> simp [Param.addr, P.vlvBandT, P.vlvTBoard, P.loopFlags] <;> omega
  have hhyst : x.rd P.vlvBandHyst = m.rd P.vlvBandHyst := h.rd_eq hwf (by decide) (by decide)
  have hup : (List.range 3).filter (fun k => x.rdI P.vlvBandT k * 100000000 ≤ tc)
      = (List.range 3).filter (fun k => m.rdI P.vlvBandT k * 100000000 ≤ tc) :=
    List.filter_congr fun k hk => by rw [hband k (List.mem_range.1 hk)]
  have hstay : (List.range 3).filter (fun k => (x.rdI P.vlvBandT k - x.rd P.vlvBandHyst) * 100000000 ≤ tc)
      = (List.range 3).filter (fun k => (m.rdI P.vlvBandT k - m.rd P.vlvBandHyst) * 100000000 ≤ tc) :=
    List.filter_congr fun k hk => by rw [hband k (List.mem_range.1 hk), hhyst]
  unfold Mod.bandOf
  rw [hup, hstay]

/-- The first `n` coils have been updated, none of which reaches the protective limit. -/
structure Mod.Heated (board : Int) (codes : List (Nat × List Nat)) (n : Nat) (m a x : Mod) : Prop where
  done : ∀ c < n, x.vch c = m.warmed (m.heated board codes c) (m.vch c)
  ahead : ∀ c, n ≤ c → x.vch c = m.vch c
  count : x.vlv.ch.length = m.vlv.ch.length
  tempAt : x.vlv.tempAt = a.vlv.tempAt
  regs : x.regs = a.regs
  within : Mod.Within [.vlv] [P.vlvTBoard.addr] m x

theorem Mod.Heated.foldl {a : Mod} (hwf : Store.wf m.regs = true) (ha : Mod.Within [.vlv] [P.vlvTBoard.addr] m a) (hch : a.vlv.ch = m.vlv.ch)
    (hsafe : ∀ c < m.vlv.ch.length, (m.vch c).protect = false ∧ m.heated board codes c < m.rdI P.vlvTProt * 100000000)
    (n : Nat) (hn : n ≤ m.vlv.ch.length) :
    Mod.Heated board codes n m a ((List.range n).foldl (fun x c => x.coilUpdate board codes c) a) := by
  induction n with
  | zero =>
    have hsame : ∀ c, a.vch c = m.vch c := fun c => congrArg (fun l : List VCh => l.getD c {}) hch
    exact ⟨by simp, fun c _ => hsame c, congrArg List.length hch, rfl, rfl, ha⟩
  | succ n ih =>
    have hbefore := ih (by omega)
    rw [List.range_succ, List.foldl_append]
    generalize (List.range n).foldl (fun x c => x.coilUpdate board codes c) a = x at hbefore
    have hvch : x.vch n = m.vch n := hbefore.ahead n (Nat.le_refl n)
    have hlen : n < x.vlv.ch.length := by
      rw [hbefore.count]
      omega
    obtain ⟨hprotect, hlow⟩ := hsafe n (by omega)
    have hheated : x.heated board codes n = m.heated board codes n := Mod.heated_of_within hbefore.within hwf hvch
    have hlimit : x.rdI P.vlvTProt = m.rdI P.vlvTProt := congrArg (sext P.vlvTProt.w) (hbefore.within.rd_eq hwf (by decide) (by decide))
    have hstep : x.coilUpdate board codes n = x.setVch n (x.warmed (m.heated board codes n)) := by
      rw [Mod.coilUpdate_of_below hlen (by rw [hvch, hprotect]) (by rw [hheated, hlimit]; exact hlow), hheated]
    have hwarmed : x.warmed (m.heated board codes n) (m.vch n) = m.warmed (m.heated board codes n) (m.vch n) := by
      rw [Mod.warmed, Mod.bandOf_of_within hbefore.within hwf, ← Mod.warmed]
    rw [List.foldl_cons, List.foldl_nil, hstep]
    refine ⟨fun c hc => ?_, fun c hc => ?_, ?_, hbefore.tempAt, hbefore.regs, hbefore.within.trans (.setVch _ _ _ (by simp))⟩
    · by_cases hcn : c = n
      · rw [hcn, Mod.vch_setVch hlen, hvch, hwarmed]
      · rw [Mod.vch_setVch_ne x hcn]
        exact hbefore.done c (by omega)
    · rw [Mod.vch_setVch_ne x (by omega)]
      exact hbefore.ahead c (by omega)
    · exact (List.length_modify _ _ _).trans hbefore.count

/-- The module as an update of its coils' temperatures begins: the next is due in 1 ms, and the board's temperature is written. -/
def Mod.boardRead (m : Mod) (board : Int) : Mod := { m with vlv := { m.vlv with tempAt := m.vlv.tempAt + 1000000 } }.wrI P.vlvTBoard board

theorem Mod.Within.boardRead (m : Mod) (board : Int) : Mod.Within [.vlv] [P.vlvTBoard.addr] m (m.boardRead board) :=
  (Mod.Within.ofVlv m { m.vlv with tempAt := m.vlv.tempAt + 1000000 } (by simp)).trans (.wrI _ P.vlvTBoard board 0 0 (by simp))

/-- Every coil's temperature updated. -/
def Mod.coilsHeated (m : Mod) (board : Int) (codes : List (Nat × List Nat)) : Mod :=
  (List.range 384).foldl (fun x c => x.coilUpdate board codes c) (m.boardRead board)

theorem coilTempUpdate_of_due (hset : m.vlv.tempSet = true) (hdue : m.vlv.tempAt ≤ m.now) :
    coilTempUpdate board codes m = m.noteClear (fun m => m.coilsHeated board codes) := by
  have hcond : ¬ (!m.vlv.tempSet || m.now < m.vlv.tempAt) = true := by simp [hset, hdue]
  exact if_neg hcond

theorem Mod.Heated.coilsHeated (hwf : Store.wf m.regs = true) (hlen : m.vlv.ch.length = 384)
    (hsafe : ∀ c < 384, (m.vch c).protect = false ∧ m.heated board codes c < m.rdI P.vlvTProt * 100000000) :
    Mod.Heated board codes 384 m (m.boardRead board) (m.coilsHeated board codes) := by
  rw [Mod.coilsHeated]
  exact .foldl hwf (.boardRead m board) rfl (by rwa [hlen]) 384 (Nat.le_of_eq hlen.symm)

/-- No channel begins or ends with its coil's temperature. -/
theorem Mod.Heated.still {a : Mod} {n : Nat} (h : Mod.Heated board codes n m a x) : m.Still x := fun c => by
  rcases Nat.lt_or_ge c n with hc | hc
  · rw [h.done c hc]
    exact ⟨rfl, rfl⟩
  · rw [h.ahead c hc]
    exact ⟨rfl, rfl⟩

end

section
variable {s : State} {t : Nat}

theorem coilTempUpdate_yields (hs : s.Canonical) (hlen : s.m.vlv.ch.length = 384) {board : Int} {codes : List (Nat × List Nat)}
    (hset : s.m.vlv.tempSet = true) (hdue : s.m.vlv.tempAt ≤ (s.m.at t).now)
    (hsafe : ∀ c < 384, (s.m.vch c).protect = false ∧ s.m.heated board codes c < s.m.rdI P.vlvTProt * 100000000) :
    s.Yields (.coilTempUpdate t board codes) fun m' =>
      (∀ c, c < 384 → m'.vch c = s.m.warmed (s.m.heated board codes c) (s.m.vch c))
      ∧ m'.vlv.tempAt = s.m.vlv.tempAt + 1000000
      ∧ m'.rdI P.vlvTBoard = sext P.vlvTBoard.w (toU P.vlvTBoard.w board % 2 ^ P.vlvTBoard.w)
      ∧ Mod.Frame t [.vlv] [P.vlvTBoard.addr] s.m m' := by
  have hheated : Mod.Heated board codes 384 (s.m.at t) ((s.m.at t).boardRead board) ((s.m.at t).coilsHeated board codes) := .coilsHeated hs hlen hsafe
  have hmean : coilTempUpdate board codes (s.m.at t) = (s.m.at t).coilsHeated board codes :=
    (coilTempUpdate_of_due (m := s.m.at t) hset hdue).trans (Mod.noteClear_of_still hheated.still)
  refine ⟨_, rfl, fun c hc => ?_, ?_, congrArg (sext P.vlvTBoard.w) ?_, Mod.Within.frame ?_⟩
  · rw [Mod.vch_run, hmean]
    exact hheated.done c hc
  · rw [Mod.run_vlv, hmean, hheated.tempAt]
    rfl
  · have hwidth : P.vlvTBoard.w = 16 := rfl
    rw [Mod.run_rd_other t _ s.m (by decide), hmean, Mod.rd_congr hheated.regs, Mod.boardRead, Mod.wrI, Mod.rd_wr (by exact hs), hwidth]
    exact Nat.mod_eq_of_lt (by omega)
  · rw [hmean]
    exact hheated.within

end

/-- Settles O41: each command's meaning is a chain of changes of the channels that it concerns, and of the pulses and counts of their faults. -/
theorem coilsAndFaultsAreContained : Obligations.CoilsAndFaultsAreContained := by
  intro s t hs hlen bare
  refine ⟨fun board codes hset hdue hsafe => coilTempUpdate_yields hs hlen hset hdue hsafe,
    fun ch code p hch hdue hlow hp halone hretry harr => openCoil_yields hs (hlen ▸ hch) hch hdue hlow hp halone hretry harr,
    fun ch code last hch hphase hhigh hnone => shortOvercurrent_yields hs (hlen ▸ hch) hch last hphase hhigh hnone,
    fun b cmd fault lasts hb _ _ hok hcmd => ?_,
    fun role ch hch hrun hlatched => vlvChClr_yields (hlen ▸ hch) hch role hrun hlatched⟩
  rcases hcmd with ⟨smp, rfl, rfl, hsmp, hbad⟩ | ⟨c0, smp, rfl, rfl, hc0, rfl, hstage, hoff, hsmp, hstuck⟩
  · exact loseBank_yields rfl (bankStageFault_of_bad (m := s.m.at t) hok hsmp hbad) hs hlen hb
  · exact loseBank_yields rfl (lowSideStuckOn_of_stuck (m := s.m.at t) hok hc0 hstage hoff hsmp hstuck) hs hlen hb

end Sys2Proof.Machine
end

section
/-!
PROOFS. The statements of the whole machine (the step of the queue, the state after reset) and of the control engine's shift (R278).
-/
namespace Sys2Proof.Machine

/-- Settles O1: by the two forms of the queue. -/
theorem stepRunsFrontCommand : Obligations.StepRunsFrontCommand := by
  refine ⟨fun s c rest hq => ?front, fun s hq => ?idle⟩
  case front => rw [step, hq]
  case idle => rw [step, hq]

/-- Settles O3: the store after reset is empty, so that every word reads its default. -/
theorem resetMeetsInvariant : Obligations.ResetMeetsInvariant := by
  have hregs : State.reset.m.regs = [] := rfl
  have hcanonical : State.reset.Canonical := by
    rw [State.Canonical, hregs]
    rfl
  have hword : ∀ a, State.reset.m.word a = dfltAt a := fun a => by
    rw [Mod.word, hregs]
    rfl
  exact ⟨hcanonical, rfl, rfl, rfl, rfl, rfl, rfl, hword⟩

/-! ### The rounding shift (R278) -/

/-- Saturation is a bound from both sides. -/
theorem sat32_eq (v : Int) : sat32 v = max (-2147483648) (min 2147483647 v) := by
  unfold sat32 clampI
  split_ifs <;> omega

/-- Division to the nearest integer, ties away from zero, by the magnitude and the sign. -/
theorem rdiv_eq_sign_mul (a : Int) {b : Nat} (hb : 0 < b) : rdiv a (2 * b) = a.sign * (((a.natAbs + b) / (2 * b) : Nat) : Int) := by
  have hhalf : ∀ n : Nat, (2 * n + 2 * b) / (2 * (2 * b)) = (n + b) / (2 * b) := fun n => by
    rw [← Nat.mul_add, Nat.mul_div_mul_left _ _ Nat.two_pos]
  have hne : ¬ 2 * b = 0 := by omega
  unfold rdiv
  rw [if_neg hne, hhalf, hhalf]
  rcases lt_trichotomy a 0 with ha | rfl | ha
  · rw [if_neg (by omega), Int.sign_eq_neg_one_of_neg ha, show (-a).toNat = a.natAbs by omega]
    omega
  · have hzero : (0 + b) / (2 * b) = 0 := Nat.div_eq_of_lt (by omega)
    rw [if_pos le_rfl, Int.sign_zero, zero_mul, Int.toNat_zero, hzero]
    rfl
  · rw [if_pos ha.le, Int.sign_eq_one_of_pos ha, show a.toNat = a.natAbs by omega, one_mul]

/-- Settles O58: the shift is a division by a power of two to the nearest, then saturated; the extreme products are those of the bounds. -/
theorem shiftRoundsAwayAndSaturates : Obligations.ShiftRoundsAwayAndSaturates := by
  refine ⟨fun a n hn _ => ?shift, fun a => ?zero, fun x y hx hx' hy hy' => ⟨?low, ?high⟩⟩
  case shift =>
    have hpow : (2 : Nat) ^ n = 2 * 2 ^ (n - 1) := by rw [← Nat.pow_succ', Nat.succ_eq_add_one, Nat.sub_add_cancel hn]
    rw [sh, if_neg (by omega), sat32_eq, hpow, rdiv_eq_sign_mul a (Nat.two_pow_pos _)]
  case zero => rw [sh, if_pos rfl, sat32_eq]
  case low => nlinarith
  case high => nlinarith

end Sys2Proof.Machine
end

section
/-!
PROOFS. The statements of 11_load_switches.md: what a switch-on request, a switch-off and a fault leave of their channel is said once, as is
a change of each channel of a load input; a command's effect is one of these.
-/
namespace Sys2Proof.Machine

/-! ### Words that are written -/

section
variable {m : Mod} {p q : Param} {i j k l : Nat}

/-- Another word reads as before a write, whatever the store's form. -/
theorem Mod.rd_wr_other (h : q.addr k l ≠ p.addr i j) (v : Nat) : (m.wr p v i j).rd q k l = m.rd q k l :=
  congrArg BitVec.toNat (Store.get_put_other _ _ h)

theorem Mod.rd_inc_other (h : q.addr k l ≠ p.addr i j) (n : Nat) : (m.inc p i n j).rd q k l = m.rd q k l := Mod.rd_wr_other h _

theorem Mod.rd_flag_other (h : q.addr k l ≠ p.addr i) (b : Nat) : (m.flag p b i).rd q k l = m.rd q k l := Mod.rd_wr_other h _

end

/-! ### One load switch channel (R258) -/

section
variable {m : Mod} {k : Nat}

/-- The load switches with channel `k` as `c`. -/
def Mod.lswWith (m : Mod) (k : Nat) (c : LswCh) : LswSt := { m.lsw with ch := m.lsw.ch.set k c }

theorem Mod.setLsw_lsw (h : k < m.lsw.ch.length) (f : LswCh → LswCh) : (m.setLsw k f).lsw = m.lswWith k (f (m.lswCh k)) := by
  simp [Mod.lswWith, Mod.setLsw, Mod.lswCh, updAt, List.modify_eq_set_getElem?, h]

theorem Mod.lswCh_setLsw (h : k < m.lsw.ch.length) (f : LswCh → LswCh) : (m.setLsw k f).lswCh k = f (m.lswCh k) := by
  simp [Mod.setLsw, Mod.lswCh, updAt, h]

theorem Mod.lswCh_setLsw_ne (m : Mod) {j : Nat} (h : j ≠ k) (f : LswCh → LswCh) : (m.setLsw k f).lswCh j = m.lswCh j := by
  simp [Mod.setLsw, Mod.lswCh, updAt, List.getD_eq_getElem?_getD, Ne.symm h]

theorem Mod.setLsw_setLsw (m : Mod) (k : Nat) (f g : LswCh → LswCh) : (m.setLsw k f).setLsw k g = m.setLsw k (fun c => g (f c)) := by
  simp only [Mod.setLsw, updAt, List.modify_modify_eq]
  rfl

theorem Mod.lswCh_congr {a b : Mod} (h : b.lsw = a.lsw) (k : Nat) : b.lswCh k = a.lswCh k := by
  unfold Mod.lswCh
  rw [h]

theorem Mod.setLsw_lsw_congr {a b : Mod} (h : b.lsw = a.lsw) (k : Nat) (f : LswCh → LswCh) :
    (b.setLsw k f).lsw = (a.setLsw k f).lsw := by
  simp only [Mod.setLsw, h]

/-- Changes that agree on the channel as it stands are one change. -/
theorem Mod.setLsw_congr (h : k < m.lsw.ch.length) {f g : LswCh → LswCh} (hfg : f (m.lswCh k) = g (m.lswCh k)) :
    m.setLsw k f = m.setLsw k g := by
  have hlsw : (m.setLsw k f).lsw = (m.setLsw k g).lsw := by rw [Mod.setLsw_lsw h, Mod.setLsw_lsw h, hfg]
  exact congrArg (fun x => { m with lsw := x }) hlsw

/-- A change that leaves the channel as it stands. -/
theorem Mod.setLsw_same (h : k < m.lsw.ch.length) {f : LswCh → LswCh} (hf : f (m.lswCh k) = m.lswCh k) : m.setLsw k f = m := by
  rw [Mod.setLsw_congr h (g := id) hf]
  simp [Mod.setLsw, updAt, List.modify_id]

theorem Mod.Within.setLsw {as : List Area} {ws : List Nat} (m : Mod) (k : Nat) (f : LswCh → LswCh) (h : Area.lsw ∈ as) :
    Mod.Within as ws m (m.setLsw k f) := .ofLsw m _ h

/-! ### Requests and switch-offs (R258, R262, R265, R268) -/

theorem Mod.lswOff_eq (m : Mod) (k : Nat) : m.lswOff k = (m.setLsw k LswCh.dark).unask (.lsw k) := rfl

theorem Mod.Within.lswOff {as : List Area} {ws : List Nat} (m : Mod) (k : Nat) (hlsw : Area.lsw ∈ as) (htoll : Area.toll ∈ as) :
    Mod.Within as ws m (m.lswOff k) := (Mod.Within.setLsw m k _ hlsw).trans (.unask _ _ htoll)

/-- A channel whose request waits. -/
def LswCh.asks (retry held : Bool) (c : LswCh) : LswCh :=
  { c with wait := true, isRetry := retry, thermalOff := false, uvOff := false, ovOff := false, held := held }

/-- What a switch-on request leaves of its channel. -/
def Mod.lswAsked (m : Mod) (k : Nat) (retry : Bool) (c : LswCh) : LswCh :=
  if !m.driving || !(m.rd P.lswEn).testBit k || c.unusable || c.latched || c.on then c
  else if c.thermal then { c with thermalOff := true }
  else if m.lswBarred k then { c with ovOff := true, wait := false, held := false }
  else c.asks retry (m.lsw.uv.getD (k % 2) false)

theorem Mod.lswRequest_lsw (h : k < m.lsw.ch.length) (retry : Bool) :
    (m.lswRequest k retry).lsw = (m.setLsw k (m.lswAsked k retry)).lsw := by
  have hset : ∀ {f : LswCh → LswCh}, f (m.lswCh k) = m.lswAsked k retry (m.lswCh k) →
      (m.setLsw k f).lsw = (m.setLsw k (m.lswAsked k retry)).lsw := fun hf => congrArg Mod.lsw (Mod.setLsw_congr h hf)
  unfold Mod.lswRequest
  dsimp only
  split
  · next hoff => exact (congrArg Mod.lsw (Mod.setLsw_same h (f := m.lswAsked k retry) (if_pos hoff))).symm
  · next hoff =>
    split
    · next hhot => exact hset (by rw [Mod.lswAsked, if_neg hoff, if_pos hhot])
    · next hhot =>
      split
      · next hbar => exact hset (by rw [Mod.lswAsked, if_neg hoff, if_neg hhot, if_pos hbar])
      · next hbar =>
        have hasked := hset (f := LswCh.asks retry (m.lsw.uv.getD (k % 2) false))
          (by rw [Mod.lswAsked, if_neg hoff, if_neg hhot, if_neg hbar])
        split
        · exact hasked
        · exact (Mod.ask_lsw _ _ _ _ _ _).trans hasked

theorem Mod.Within.lswRequest {as : List Area} {ws : List Nat} (m : Mod) (k : Nat) (retry : Bool) (hlsw : Area.lsw ∈ as)
    (htoll : Area.toll ∈ as) : Mod.Within as ws m (m.lswRequest k retry) := by
  unfold Mod.lswRequest
  dsimp only
  split
  · exact .refl m
  · split
    · exact .setLsw m _ _ hlsw
    · split
      · exact .setLsw m _ _ hlsw
      · split
        · exact .setLsw m _ _ hlsw
        · exact (Mod.Within.setLsw m _ _ hlsw).trans (.ask _ _ _ _ _ _ htoll)

/-- A request that nothing stands against asks the toll gate. -/
theorem Mod.lswRequest_of_free (hmay : m.lswMayAsk k) (hthermal : (m.lswCh k).thermal = false)
    (huv : m.lsw.uv.getD (k % 2) false = false) (retry : Bool) :
    m.lswRequest k retry = (m.setLsw k (LswCh.asks retry false)).ask (.lsw k) (if m.lswSafety k then 0 else 2)
      (if k % 2 = 0 then .loadA else .loadB) m.now (m.rd P.lswIAllow k) := by
  obtain ⟨hdrive, hen, husable, hlatched, hbarred, hon⟩ := hmay
  simp only [Mod.lswRequest, hdrive, hen, husable, hlatched, hon, hthermal, hbarred, huv, Bool.not_true, Bool.or_self,
    Bool.false_eq_true, if_false]
  rfl

theorem Mod.lswAsked_of_free (hmay : m.lswMayAsk k) (hthermal : (m.lswCh k).thermal = false) (retry : Bool) :
    m.lswAsked k retry (m.lswCh k) = (m.lswCh k).asks retry (m.lsw.uv.getD (k % 2) false) := by
  obtain ⟨hdrive, hen, husable, hlatched, hbarred, hon⟩ := hmay
  simp only [Mod.lswAsked, hdrive, hen, husable, hlatched, hon, hthermal, hbarred, Bool.not_true, Bool.or_self, Bool.false_eq_true,
    if_false]

/-! ### Overcurrent faults (R262, R266) -/

/-- A channel that an overcurrent fault has switched off at `now`: latched once its retries are spent, else with a retry after `ms`. -/
def LswCh.faulted (retries ms now : Nat) (c : LswCh) : LswCh :=
  if c.count = retries then { c.dark with latched := true, retryAt := none }
  else { c.dark with retryAt := some (now + ms * 1000000) }

theorem Mod.lswFault_lsw (h : k < m.lsw.ch.length) :
    (m.lswFault k).lsw = (m.setLsw k (LswCh.faulted (m.rd P.lswRetries k) (m.rd P.lswRetryMs k) m.now)).lsw := by
  unfold Mod.lswFault
  extract_lets c m1
  have hset : ∀ f : LswCh → LswCh, (m1.setLsw k f).lsw = (m.setLsw k (fun c => f c.dark)).lsw := fun f => by
    have hoff : m1.lsw = (m.setLsw k LswCh.dark).lsw := by simp [m1, Mod.lswOff_eq]
    rw [Mod.setLsw_lsw_congr hoff, Mod.setLsw_setLsw]
  split
  · next hspent =>
    rw [Mod.raise_lsw, Mod.flag_lsw, hset]
    exact congrArg Mod.lsw (Mod.setLsw_congr h (if_pos hspent).symm)
  · next hspent =>
    rw [hset]
    exact congrArg Mod.lsw (Mod.setLsw_congr h (if_neg hspent).symm)

theorem Mod.lswFault_toll (m : Mod) (k : Nat) : (m.lswFault k).toll = (m.unask (.lsw k)).toll := by
  unfold Mod.lswFault
  dsimp only
  split <;> rfl

theorem Mod.Within.lswFault {as : List Area} {ws : List Nat} (m : Mod) (k : Nat) (hlsw : Area.lsw ∈ as) (htoll : Area.toll ∈ as)
    (htrips : P.lswChTrips.addr k ∈ ws) (hflags : P.lswFlags.addr ∈ ws) : Mod.Within as ws m (m.lswFault k) := by
  unfold Mod.lswFault
  extract_lets c m1
  have hoff : Mod.Within as ws m m1 := ((Mod.Within.lswOff m k hlsw htoll).trans (.inc _ _ _ _ _ htrips)).trans (.flag _ _ _ _ hflags)
  split
  · exact ((hoff.trans (.setLsw _ _ _ hlsw)).trans (.flag _ _ _ _ hflags)).trans (.raise _ _ _ _)
  · exact hoff.trans (.setLsw _ _ _ hlsw)

/-- Each channel's words stand apart from those of the block. -/
theorem lswChTrips_ne_lswFlags (k : Nat) : P.lswChTrips.addr k ≠ P.lswFlags.addr := by
  simp [Param.addr, P.lswChTrips, P.lswFlags]
  omega

theorem Mod.rd_lswFault_other {q : Param} {i : Nat} (htrips : q.addr i ≠ P.lswChTrips.addr k) (hflags : q.addr i ≠ P.lswFlags.addr) :
    (m.lswFault k).rd q i = m.rd q i := by
  have hoff : (((m.lswOff k).inc P.lswChTrips k).flag P.lswFlags 1).rd q i = m.rd q i := by
    rw [Mod.rd_flag_other hflags, Mod.rd_inc_other htrips]
    exact Mod.rd_congr (by simp [Mod.lswOff_eq, Mod.setLsw]) _ _ _
  unfold Mod.lswFault
  dsimp only
  split
  · exact (Mod.rd_flag_other hflags _).trans hoff
  · exact hoff

theorem Mod.rd_lswFault_chTrips (hs : Store.wf m.regs = true) : (m.lswFault k).rd P.lswChTrips k = (m.rd P.lswChTrips k + 1) % 2 ^ 32 := by
  have hwf : Store.wf (m.lswOff k).regs = true := by simpa [Mod.lswOff_eq, Mod.setLsw] using hs
  have hoff : (((m.lswOff k).inc P.lswChTrips k).flag P.lswFlags 1).rd P.lswChTrips k = (m.rd P.lswChTrips k + 1) % 2 ^ 32 := by
    rw [Mod.rd_flag_other (lswChTrips_ne_lswFlags k), Mod.rd_inc_full hwf rfl]
    rfl
  unfold Mod.lswFault
  dsimp only
  split
  · exact (Mod.rd_flag_other (lswChTrips_ne_lswFlags k) _).trans hoff
  · exact hoff

end

/-! ### The inrush window and the PWM period (R259 to R261) -/

section
variable {m : Mod} {k : Nat}

/-- A channel whose inrush window has counted `n` and is over. -/
def LswCh.windowOver (n : Nat) (c : LswCh) : LswCh := { c with inrush := false, since := none, counted := n }

theorem inrushWindowEnd_of_counted {u : Nat} (hon : (m.lswCh k).on = true) (hinrush : (m.lswCh k).inrush = true)
    (hsince : (m.lswCh k).since = some u) (hdue : m.rd P.lswTInrush k * 1000000 ≤ (m.lswCh k).counted + (m.now - u)) :
    inrushWindowEnd k m = m.setLsw k (LswCh.windowOver ((m.lswCh k).counted + (m.now - u))) := by
  simp only [inrushWindowEnd, hon, hinrush, hsince, hdue, decide_true, Bool.and_self, if_true]
  rfl

theorem inrushWindowEnd_of_paused (hsince : (m.lswCh k).since = none)
    (hshort : (m.lswCh k).counted < m.rd P.lswTInrush k * 1000000) : inrushWindowEnd k m = m := by
  have hlate : ¬ m.rd P.lswTInrush k * 1000000 ≤ (m.lswCh k).counted := Nat.not_le.2 hshort
  simp only [inrushWindowEnd, hsince, Nat.add_zero, hlate, decide_false, Bool.and_false, Bool.false_eq_true, if_false]

/-- A channel whose new PWM period begins with duty `d`; the next begins at `n`. -/
def LswCh.period (d n : Nat) (c : LswCh) : LswCh := { c with duty := d, nextAt := n, vSum := 0, vN := 0 }

/-- The duty that a channel is set to, in 0.1 % (R260). -/
def Mod.lswSet (m : Mod) (k : Nat) : Nat :=
  if m.rd P.lswSrc k = 0 then m.rd P.lswDuty k else (clampI 0 1000 (m.loopOut (m.rd P.lswSrc k))).toNat

/-- The reference of a channel's compensation over the samples of its input (R261). -/
def Mod.lswRef (m : Mod) (k : Nat) : Nat := (m.lswVin k).2 * (if m.rd P.lswVref k = 0 then m.loadNom (k % 2) else m.rd P.lswVref k)

/-- The duty of a channel's new period, where an input of 0 V leaves it at `free`. -/
def Mod.lswNextDuty (m : Mod) (k : Nat) (free : Int) : Nat :=
  lswLeast k (m.rd P.lswFreq k) (lswComp (m.rd P.lswComp k) (m.lswSet k) (m.lswRef k) (m.lswVin k).1 free)

theorem Mod.lswVin_eq (m : Mod) (k : Nat) : m.lswVin k =
    (if (m.lswCh k).vN = 0 then (if k % 2 = 0 then m.toll.loadA else m.toll.loadB) else (m.lswCh k).vSum,
      if (m.lswCh k).vN = 0 then 1 else (m.lswCh k).vN) := by
  unfold Mod.lswVin
  dsimp only
  split <;> rfl

theorem Mod.lswNextDuty_of_open (hcomp : m.rd P.lswComp k ≠ 0) (hvin : (m.lswVin k).1 = 0) (free : Int) :
    m.lswNextDuty k free = lswLeast k (m.rd P.lswFreq k) (clampI 0 1000 free).toNat := by
  rw [Mod.lswNextDuty, lswComp, if_neg hcomp, if_pos hvin]

section
variable (hk : k < 24) (hon : (m.lswCh k).on = true) (hfreq : m.rd P.lswFreq k ≠ 0) (hdue : (m.lswCh k).nextAt ≤ m.now)
include hk hon hfreq hdue

theorem lswPwmPeriod_of_known (hknown : m.rd P.lswComp k = 0 ∨ (m.lswVin k).1 ≠ 0) :
    lswPwmPeriod k m = m.setLsw k (LswCh.period (m.lswNextDuty k 0) (m.now + 10 ^ 9 / m.rd P.lswFreq k)) := by
  have hopen : (decide (m.rd P.lswComp k ≠ 0) && decide ((m.lswVin k).1 = 0)) = false := by
    rcases hknown with h | h <;> simp [h]
  simp only [lswPwmPeriod, hk, hon, hfreq, hdue, hopen, ne_eq, not_false_eq_true, decide_true, Bool.and_self, Bool.false_eq_true,
    if_true, if_false]
  rfl

theorem lswPwmPeriod_of_open (hcomp : m.rd P.lswComp k ≠ 0) (hvin : (m.lswVin k).1 = 0) :
    lswPwmPeriod k m = m.draw.2.setLsw k (LswCh.period (m.lswNextDuty k m.draw.1) (m.now + 10 ^ 9 / m.rd P.lswFreq k)) := by
  have hopen : (decide (m.rd P.lswComp k ≠ 0) && decide ((m.lswVin k).1 = 0)) = true := by simp [hcomp, hvin]
  simp only [lswPwmPeriod, hk, hon, hfreq, hdue, hopen, ne_eq, not_false_eq_true, decide_true, Bool.and_self, if_true]
  rfl

end

/-! ### What the commands of a fault find (R262 to R266) -/

theorem lswHardShort_of_short {raw : Nat} (hon : (m.lswCh k).on = true) (hshort : hardShortMa k ≤ m.lswMa k raw) :
    lswHardShort k raw m = ((m.inc P.lswHardShorts).raise (lswSrc k) 0x0501 (leBytes 1 k ++ leBytes 4 (m.lswMa k raw))).lswFault k := by
  simp only [lswHardShort, hon, hshort, decide_true, Bool.and_self, if_true]

theorem lswOvercurrentTrip_of_long (hon : (m.lswCh k).on = true) (htrip : 0 < (m.lswCh k).trip)
    (hlong : 100 * m.rd P.lswTTrip k ≤ (m.lswCh k).trip) :
    lswOvercurrentTrip k m = ((m.inc P.lswTrips).raise (lswSrc k) 0x0502
      (leBytes 1 k ++ leBytes 1 (if (m.lswCh k).inrush then 1 else 2) ++ leBytes 4 (m.lswCh k).lastMa)).lswFault k := by
  simp only [lswOvercurrentTrip, hon, htrip, hlong, decide_true, Bool.and_self, if_true]

/-- A channel whose thermal latch is set, and one that asks again as it clears. -/
def LswCh.hot (c : LswCh) : LswCh := { c.dark with thermal := true }
def LswCh.waitsCool (c : LswCh) : LswCh := { c.hot with thermalOff := true }

/-- The switch-off of the thermal latch, counted and reported (R265). -/
def Mod.lswHot (m : Mod) (k : Nat) (temp : Int) : Mod :=
  (((((m.lswOff k).setLsw k (fun c => { c with thermal := true })).inc P.lswThermals).flag P.lswFlags 4).wrI P.lswTDie temp k).raise
    (lswSrc k) 0x0506 (leBytes 1 k ++ leBytes 2 (toU 16 temp))

theorem lswThermalLatch_of_hot {temp : Int} {raw : Nat} (hk : k < 24) (hcool : (m.lswCh k).thermal = false) (hhot : 1650 ≤ temp)
    (hon : (m.lswCh k).on = true) (hlow : m.lswMa k raw ≤ m.rd P.lswITrip k) :
    lswThermalLatch k temp raw m = (m.lswHot k temp).setLsw k (fun c => { c with thermalOff := true }) := by
  have hover : ¬ m.rd P.lswITrip k < m.lswMa k raw := Nat.not_lt.2 hlow
  simp only [lswThermalLatch, hk, hcool, hhot, hon, hover, decide_true, decide_false, Bool.not_false, Bool.and_self, Bool.and_false,
    Bool.true_or, Bool.false_eq_true, if_true, if_false]
  rfl

theorem lswThermalClear_of_idle {temp : Int} (hhot : (m.lswCh k).thermal = true) (hcool : temp < 1350)
    (hretry : (m.lswCh k).retryAt = none) (hoff : (m.lswCh k).thermalOff = false) :
    lswThermalClear k temp m
      = ((m.setLsw k (fun c => { c with thermal := false })).wrI P.lswTDie temp k).raise (lswSrc k) 0x0507 (leBytes 1 k) := by
  simp only [lswThermalClear, hhot, hcool, hretry, hoff, decide_true, Bool.and_self, Bool.false_and, Bool.false_eq_true, if_true,
    if_false, ite_self]

/-- A channel that consumes a retry (R267). -/
def LswCh.spend (c : LswCh) : LswCh := { c with retryAt := none, count := c.count + 1 }

/-- A retry before its request, counted and reported. -/
def Mod.lswSpent (m : Mod) (k : Nat) : Mod :=
  ((m.setLsw k LswCh.spend).inc P.lswRetriesDone).raise (lswSrc k) 0x0503 (leBytes 1 k ++ leBytes 1 ((m.lswCh k).count + 1))

theorem lswRetryDue_of_due {d : Nat} (hlen : k < m.lsw.ch.length) (hretry : (m.lswCh k).retryAt = some d) (hdue : d ≤ m.now)
    (hcool : (m.lswCh k).thermal = false) : lswRetryDue k m = (m.lswSpent k).lswRequest k true := by
  have hspend : m.setLsw k (fun c => { c with retryAt := none, count := (m.lswCh k).count + 1 }) = m.setLsw k LswCh.spend :=
    Mod.setLsw_congr hlen rfl
  simp only [lswRetryDue, hretry, hdue, hcool, decide_true, Bool.not_false, Bool.and_self, if_true, Mod.lswRetry, hspend]
  rfl

theorem lswRetryReset_of_long (hon : (m.lswCh k).on = true) (hlong : (m.lswCh k).onAt + 10 ^ 9 ≤ m.now) :
    lswRetryReset k m = m.setLsw k (fun c => { c with count := 0 }) := by
  simp only [lswRetryReset, hon, hlong, decide_true, Bool.and_self, if_true]

theorem lswOpenLoad_of_open {a : Nat} (hon : (m.lswCh k).on = true) (hinrush : (m.lswCh k).inrush = false)
    (hopen : (m.lswCh k).open_ = false) (hsince : (m.lswCh k).openAt = some a) (hlong : a + 100000000 ≤ m.now) :
    lswOpenLoad k m = ((m.setLsw k (fun c => { c with open_ := true })).flag P.lswFlags 8).raise (lswSrc k) 0x0508
      (leBytes 1 k ++ leBytes 4 (m.rd P.lswINow k)) := by
  have hstood : (m.lswCh k).openAt.any (fun a => a + 100000000 ≤ m.now) = true := by
    rw [hsince, Option.any_some, decide_eq_true_eq]
    exact hlong
  simp only [lswOpenLoad, hon, hinrush, hopen, hstood, Bool.not_false, Bool.and_self, if_true]

theorem lswOpenCleared_of_mean (hopen : (m.lswCh k).open_ = true) (hmean : m.rd P.lswIOpen k ≤ m.rd P.lswINow k) :
    lswOpenCleared k m = m.setLsw k (fun c => { c with open_ := false }) := by
  simp only [lswOpenCleared, hopen, hmean, decide_true, Bool.and_self, if_true]

/-! ### The command LSW_CLR (R266) -/

theorem writeCheck_lswClr (m : Mod) (role : Nat) (hk : k < 24) :
    m.writeCheck role P.lswClr.addr (w32 k) = .ok (P.lswClr, 0, 0) := by
  have hbits : ∀ k < 24, P.lswClr.bitsOk 0 (w32 k) = true := by decide +kernel
  have hnamed : ∀ k < 24, specialRange .lswClr (fun _ => 0#32) 0 0 (w32 k).toNat = true := by decide +kernel
  have hrange : P.lswClr.inRange m.word 0 0 (w32 k) = true := hnamed k hk
  have hat : paramAt P.lswClr.addr = some (P.lswClr, 0, 0) := by rfl
  unfold Mod.writeCheck
  rw [hat]
  simp only [hbits k hk, hrange]
  rfl

theorem cmdWrite_lswClr (hrun : m.running = true) (role : Nat) (hk : k < 24) :
    cmdWrite P.lswClr 0 role [] (w32 k) m = lswClr k (m.setWord P.lswClr.addr (w32 k)) := by
  have hval : (w32 k).toNat = k := Nat.mod_eq_of_lt (show k < 2 ^ 32 by omega)
  rw [cmdWrite, if_pos (by decide), writeNow_of_cmd [] hrun (writeCheck_lswClr m role hk) rfl (by decide), hval]
  rfl

/-- A channel that LSW_CLR releases. -/
def LswCh.released (c : LswCh) : LswCh := { c with count := 0, latched := false }

theorem lswClr_of_latched (hk : k < 24) (hlatched : (m.lswCh k).latched = true) (hoff : m.rd P.lswOn k = 0) :
    lswClr k m = ((m.wr P.lswClr k).setLsw k LswCh.released).raise (lswSrc k) 0x0505 (leBytes 1 k) := by
  have hone : ¬ k.testBit 15 = true := by rw [Nat.testBit_lt_two_pow (show k < 2 ^ 15 by omega)]; simp
  have hnamed : field k 4 0 = k := by simp only [field]; omega
  have hoff' : ((m.wr P.lswClr k).rd P.lswOn k) = 0 := by
    rw [Mod.rd_wr_other, hoff]
    simp [Param.addr, P.lswOn, P.lswClr]
    omega
  have hlatched' : ((m.wr P.lswClr k).lswCh k).latched = true := hlatched
  simp only [lswClr, hone, hnamed, Mod.lswClear, hlatched', hoff', if_true, if_false, Nat.zero_ne_one, Bool.false_eq_true]
  rfl

end

/-! ### The commands of one channel (R259 to R269) -/

section
variable {s : State} {t k : Nat}

/-- A command that leaves one channel changed answers with it, and with its frame. -/
theorem lsw_yields {c : Instr} {f : Mod → Mod} {g : LswCh → LswCh} {as : List Area} {ws : List Nat} (hexec : exec c s = s.run t f)
    (hlen : k < s.m.lsw.ch.length) (hlsw : (f (s.m.at t)).lsw = ((s.m.at t).setLsw k g).lsw)
    (hwithin : Mod.Within as ws (s.m.at t) (f (s.m.at t))) : s.Yields c fun m' =>
      m'.lsw = s.m.lswWith k (g (s.m.lswCh k)) ∧ m'.toll = (f (s.m.at t)).toll
      ∧ (∀ (q : Param) (i : Nat), q.addr i ≠ P.loopFlags.addr → m'.rd q i = (f (s.m.at t)).rd q i) ∧ Mod.Frame t as ws s.m m' := by
  refine State.yields_run hexec ⟨?_, Mod.run_toll t f s.m, fun _ _ hq => Mod.run_rd_other t f s.m hq, hwithin.frame⟩
  rw [Mod.run_lsw, hlsw, Mod.setLsw_lsw (m := s.m.at t) hlen]
  rfl

/-- A command that does nothing but change one channel. -/
theorem lsw_set_yields {c : Instr} {f : Mod → Mod} {g : LswCh → LswCh} (hexec : exec c s = s.run t f) (hlen : k < s.m.lsw.ch.length)
    (hmean : f (s.m.at t) = (s.m.at t).setLsw k g) : s.Yields c fun m' =>
      m'.lsw = s.m.lswWith k (g (s.m.lswCh k)) ∧ Mod.Frame t [.lsw] [] s.m m' := by
  obtain ⟨m', hexec, hlsw, -, -, hframe⟩ := lsw_yields (as := [.lsw]) (ws := []) hexec hlen (congrArg Mod.lsw hmean)
    (hmean ▸ .setLsw _ _ _ (by simp))
  exact ⟨m', hexec, hlsw, hframe⟩

/-- The words of a channel and of its block are not LOOP_FLAGS. -/
theorem lswWord_ne_loopFlags {p : Param} (hp : 0x09000000 ≤ p.base) (hq : p.base < 0x09020000) (hs1 : p.s1 ≤ 0x80) {i : Nat} (hi : i < 24) :
    p.addr i ≠ P.loopFlags.addr := by
  have hstep : i * p.s1 ≤ 24 * 0x80 := Nat.mul_le_mul hi.le hs1
  simp only [Param.addr, P.loopFlags]
  omega

theorem lswPwmPeriod_yields (hk : k < 24) (hlen : k < s.m.lsw.ch.length) (hon : (s.m.lswCh k).on = true) (hfreq : s.m.rd P.lswFreq k ≠ 0)
    (hdue : (s.m.lswCh k).nextAt ≤ (s.m.at t).now) : s.Yields (.lswPwmPeriod t k) fun m' =>
      let ends := (s.m.at t).now + 10 ^ 9 / s.m.rd P.lswFreq k
      ((s.m.rd P.lswComp k = 0 ∨ (s.m.lswVin k).1 ≠ 0 →
          m'.lsw = s.m.lswWith k ((s.m.lswCh k).period ((s.m.at t).lswNextDuty k 0) ends) ∧ m'.free = s.m.free)
        ∧ (s.m.rd P.lswComp k ≠ 0 → (s.m.lswVin k).1 = 0 →
          m'.lsw = s.m.lswWith k ((s.m.lswCh k).period ((s.m.at t).lswNextDuty k (Config.freeValue s.m.free)) ends)
            ∧ m'.free = s.m.free + 1))
      ∧ Mod.Frame t [.lsw, .free] [] s.m m' := by
  by_cases hopen : s.m.rd P.lswComp k ≠ 0 ∧ (s.m.lswVin k).1 = 0
  · obtain ⟨hcomp, hvin⟩ := hopen
    have hmean := lswPwmPeriod_of_open (m := s.m.at t) hk hon hfreq hdue hcomp hvin
    refine State.yields_frame (f := lswPwmPeriod k) rfl ?_ ⟨fun hknown => ?_, fun _ _ => ?_⟩
    · rw [hmean]
      exact (Mod.Within.draw _ (by simp)).trans (.setLsw _ _ _ (by simp))
    · exact absurd hknown (by simp [hcomp, hvin])
    · rw [Mod.run_lsw, Mod.run_free, hmean, Mod.setLsw_lsw (m := (s.m.at t).draw.2) hlen]
      exact ⟨rfl, rfl⟩
  · have hknown : s.m.rd P.lswComp k = 0 ∨ (s.m.lswVin k).1 ≠ 0 := by
      rwa [not_and_or, not_not] at hopen
    have hmean := lswPwmPeriod_of_known (m := s.m.at t) hk hon hfreq hdue hknown
    refine State.yields_frame (f := lswPwmPeriod k) rfl ?_ ⟨fun _ => ?_, fun hcomp hvin => ?_⟩
    · rw [hmean]
      exact .setLsw _ _ _ (by simp)
    · rw [Mod.run_lsw, Mod.run_free, hmean, Mod.setLsw_lsw (m := s.m.at t) hlen]
      exact ⟨rfl, rfl⟩
    · exact absurd ⟨hcomp, hvin⟩ hopen

/-- A command that counts an overcurrent and faults its channel, LSW_HARD_SHORT and LSW_OVERCURRENT_TRIP (R262). -/
theorem lswFaulted_yields {c : Instr} {f : Mod → Mod} {p : Param} {code : Nat} {d : List Byte} (hs : s.Canonical) (hk : k < 24)
    (hlen : k < s.m.lsw.ch.length) (hp : p = P.lswHardShorts ∨ p = P.lswTrips) (hexec : exec c s = s.run t f)
    (hmean : f (s.m.at t) = (((s.m.at t).inc p).raise (lswSrc k) code d).lswFault k) : s.Yields c fun m' =>
      m'.lsw = s.m.lswWith k ((s.m.lswCh k).faulted (s.m.rd P.lswRetries k) (s.m.rd P.lswRetryMs k) (s.m.at t).now)
      ∧ m'.toll = (s.m.unask (.lsw k)).toll ∧ m'.rd p = (s.m.rd p + 1) % 2 ^ 32
      ∧ m'.rd P.lswChTrips k = (s.m.rd P.lswChTrips k + 1) % 2 ^ 32
      ∧ Mod.Frame t [.lsw, .toll] [p.addr, P.lswChTrips.addr k, P.lswFlags.addr] s.m m' := by
  have hapart : p.addr ≠ P.lswChTrips.addr k ∧ p.addr ≠ P.lswFlags.addr ∧ p.addr ≠ P.loopFlags.addr ∧ P.lswRetries.addr k ≠ p.addr
      ∧ P.lswRetryMs.addr k ≠ p.addr ∧ p.w = 32 := by
    rcases hp with rfl | rfl <;>
      simp [Param.addr, P.lswHardShorts, P.lswTrips, P.lswChTrips, P.lswFlags, P.loopFlags, P.lswRetries, P.lswRetryMs] <;> omega
  obtain ⟨htrips, hflags, hloop, hretries, hms, hw⟩ := hapart
  have hwf : Store.wf (((s.m.at t).inc p).raise (lswSrc k) code d).regs = true := Mod.inc_wf (m := s.m.at t) hs p 0 1 0
  have hlen' : k < (((s.m.at t).inc p).raise (lswSrc k) code d).lsw.ch.length := hlen
  have hread : ∀ q : Param, q.addr k ≠ p.addr → (((s.m.at t).inc p).raise (lswSrc k) code d).rd q k = s.m.rd q k :=
    fun q hq => Mod.rd_inc_other (m := s.m.at t) hq 1
  obtain ⟨m', hexec, hlsw, htoll, hrd, hframe⟩ := lsw_yields
    (g := LswCh.faulted (s.m.rd P.lswRetries k) (s.m.rd P.lswRetryMs k) (s.m.at t).now) (as := [.lsw, .toll])
    (ws := [p.addr, P.lswChTrips.addr k, P.lswFlags.addr]) hexec hlen
    (by rw [hmean, Mod.lswFault_lsw hlen', hread _ hretries, hread _ hms]; rfl)
    (hmean ▸ ((Mod.Within.inc _ _ _ _ _ (by simp)).trans (.raise _ _ _ _)).trans
      (.lswFault _ _ (by simp) (by simp) (by simp) (by simp)))
  refine ⟨m', hexec, hlsw, ?_, ?_, ?_, hframe⟩
  · rw [htoll, hmean, Mod.lswFault_toll]
    rfl
  · rw [hrd p 0 hloop, hmean, Mod.rd_lswFault_other htrips hflags, Mod.rd_raise, Mod.rd_inc_full (m := s.m.at t) hs hw]
    rfl
  · rw [hrd _ k (lswWord_ne_loopFlags (by decide) (by decide) (by decide) hk), hmean, Mod.rd_lswFault_chTrips hwf,
      hread _ (Ne.symm htrips)]

theorem lswThermalLatch_yields (hs : s.Canonical) (hk : k < 24) (hlen : k < s.m.lsw.ch.length) {temp : Int} {raw : Nat}
    (hcool : (s.m.lswCh k).thermal = false) (hhot : 1650 ≤ temp) (hon : (s.m.lswCh k).on = true)
    (hlow : s.m.lswMa k raw ≤ s.m.rd P.lswITrip k) : s.Yields (.lswThermalLatch t k temp raw) fun m' =>
      m'.lsw = s.m.lswWith k (s.m.lswCh k).waitsCool ∧ m'.toll = (s.m.unask (.lsw k)).toll
      ∧ m'.rd P.lswThermals = (s.m.rd P.lswThermals + 1) % 2 ^ 32
      ∧ Mod.Frame t [.lsw, .toll] [P.lswThermals.addr, P.lswTDie.addr k, P.lswFlags.addr] s.m m' := by
  have hmean := lswThermalLatch_of_hot (m := s.m.at t) hk hcool hhot hon hlow
  have hlsw : ((s.m.at t).lswHot k temp).lsw = ((s.m.at t).setLsw k LswCh.hot).lsw := by
    simp only [Mod.lswHot, Mod.raise_lsw, Mod.wrI_lsw, Mod.flag_lsw, Mod.inc_lsw]
    rw [Mod.setLsw_lsw_congr (by exact Mod.unask_lsw _ _), Mod.setLsw_setLsw]
    rfl
  obtain ⟨m', hexec, hlsw, htoll, hrd, hframe⟩ := lsw_yields (c := .lswThermalLatch t k temp raw) (g := LswCh.waitsCool) (as := [.lsw, .toll])
    (ws := [P.lswThermals.addr, P.lswTDie.addr k, P.lswFlags.addr]) rfl hlen
    (by rw [hmean, Mod.setLsw_lsw_congr hlsw, Mod.setLsw_setLsw]; rfl)
    (hmean ▸ ((((((Mod.Within.lswOff _ k (by simp) (by simp)).trans (.setLsw _ _ _ (by simp))).trans (.inc _ _ _ _ _ (by simp))).trans
      (.flag _ _ _ _ (by simp))).trans (.wrI _ _ _ _ _ (by simp))).trans (.raise _ _ _ _)).trans (.setLsw _ _ _ (by simp)))
  refine ⟨m', hexec, hlsw, ?_, ?_, hframe⟩
  · rw [htoll, hmean]
    rfl
  · have hdie : P.lswThermals.addr ≠ P.lswTDie.addr k := by
      simp only [Param.addr, P.lswThermals, P.lswTDie]
      omega
    have hcounted : ((s.m.at t).lswHot k temp).rd P.lswThermals = (s.m.rd P.lswThermals + 1) % 2 ^ 32 :=
      (Mod.rd_wr_other hdie _).trans ((Mod.rd_flag_other (by decide) _).trans (Mod.rd_inc_full (m := s.m.at t) hs rfl 0 1 0))
    rw [hrd _ 0 (by decide), hmean]
    exact hcounted

theorem lswThermalClear_yields (hlen : k < s.m.lsw.ch.length) {temp : Int} (hhot : (s.m.lswCh k).thermal = true) (hcool : temp < 1350)
    (hretry : (s.m.lswCh k).retryAt = none) (hoff : (s.m.lswCh k).thermalOff = false) : s.Yields (.lswThermalClear t k temp) fun m' =>
      m'.lsw = s.m.lswWith k { s.m.lswCh k with thermal := false } ∧ Mod.Frame t [.lsw] [P.lswTDie.addr k] s.m m' := by
  have hmean := lswThermalClear_of_idle (m := s.m.at t) hhot hcool hretry hoff
  obtain ⟨m', hexec, hlsw, -, -, hframe⟩ := lsw_yields (c := .lswThermalClear t k temp) (g := fun c => { c with thermal := false })
    (as := [.lsw]) (ws := [P.lswTDie.addr k]) rfl hlen (by rw [hmean]; rfl)
    (hmean ▸ ((Mod.Within.setLsw _ _ _ (by simp)).trans (.wrI _ _ _ _ _ (by simp))).trans (.raise _ _ _ _))
  exact ⟨m', hexec, hlsw, hframe⟩

theorem lswRetryDue_yields (hs : s.Canonical) (hlen : k < s.m.lsw.ch.length) {d : Nat} (hretry : (s.m.lswCh k).retryAt = some d)
    (hdue : d ≤ (s.m.at t).now) (hcool : (s.m.lswCh k).thermal = false) (hmay : s.m.lswMayAsk k)
    (huv : s.m.lsw.uv.getD (k % 2) false = false) (hasking : s.m.asking (.lsw k) = false) : s.Yields (.lswRetryDue t k) fun m' =>
      m'.lsw = s.m.lswWith k ((s.m.lswCh k).spend.asks true false)
      ∧ (∃ q : TollReq, m'.toll = { s.m.toll with reqs := s.m.toll.reqs ++ [q] } ∧ q.who = .lsw k
        ∧ q.cls = (if s.m.lswSafety k then 0 else 2) ∧ q.amount = s.m.rd P.lswIAllow k ∧ q.at_ = (s.m.at t).now)
      ∧ m'.rd P.lswRetriesDone = (s.m.rd P.lswRetriesDone + 1) % 2 ^ 32
      ∧ Mod.Frame t [.lsw, .toll] [P.lswRetriesDone.addr] s.m m' := by
  generalize hx : (s.m.at t).lswSpent k = x
  have hch : x.lswCh k = (s.m.lswCh k).spend := hx ▸ Mod.lswCh_setLsw (m := s.m.at t) hlen _
  have hkept : ∀ (q : Param) (i : Nat), q.addr i ≠ P.lswRetriesDone.addr → x.rd q i = s.m.rd q i := fun q i hq =>
    hx ▸ Mod.rd_inc_other (m := (s.m.at t).setLsw k LswCh.spend) hq 1
  have hown : ∀ {q : Param}, 0x09010000 ≤ q.base → q.addr k ≠ P.lswRetriesDone.addr := fun hq => by
    simp only [Param.addr, P.lswRetriesDone]
    omega
  have hsafety : x.lswSafety k = s.m.lswSafety k := by
    simp only [Mod.lswSafety]
    rw [hkept _ _ (by decide)]
  have hbarred : x.lswBarred k = s.m.lswBarred k := by
    simp only [Mod.lswBarred]
    rw [hkept _ _ (hown (by decide)), ← hx]
    rfl
  have hmay' : x.lswMayAsk k := by
    obtain ⟨hdrive, hen, husable, hlatched, hbar, hon⟩ := hmay
    refine ⟨hx ▸ hdrive, ?_, hch ▸ husable, hch ▸ hlatched, hbarred.trans hbar, hch ▸ hon⟩
    rw [hkept _ _ (by decide)]
    exact hen
  have hmean : lswRetryDue k (s.m.at t) = (x.setLsw k (LswCh.asks true false)).ask (.lsw k) (if s.m.lswSafety k then 0 else 2)
      (if k % 2 = 0 then .loadA else .loadB) x.now (s.m.rd P.lswIAllow k) := by
    rw [lswRetryDue_of_due (m := s.m.at t) hlen hretry hdue hcool, hx, Mod.lswRequest_of_free hmay' (hch ▸ hcool) (hx ▸ huv), hsafety,
      hkept _ _ (hown (by decide))]
  have hspent : x.lsw = ((s.m.at t).setLsw k LswCh.spend).lsw := by
    rw [← hx]
    rfl
  obtain ⟨m', hexec, hlsw, htoll, hrd, hframe⟩ := lsw_yields (c := .lswRetryDue t k) (g := fun c => c.spend.asks true false)
    (as := [.lsw, .toll]) (ws := [P.lswRetriesDone.addr]) rfl hlen
    (by rw [hmean, Mod.ask_lsw, Mod.setLsw_lsw_congr hspent, Mod.setLsw_setLsw])
    (by rw [hmean, ← hx]
        exact ((((Mod.Within.setLsw _ _ _ (by simp)).trans (.inc _ _ _ _ _ (by simp))).trans (.raise _ _ _ _)).trans
          (.setLsw _ _ _ (by simp))).trans (.ask _ _ _ _ _ _ (by simp)))
  have hasks : (x.setLsw k (LswCh.asks true false)).asking (.lsw k) = false := hx ▸ hasking
  rw [hmean, Mod.ask_toll_of_not_asking hasks] at htoll
  refine ⟨m', hexec, hlsw, ?_, ?_, hframe⟩
  · subst hx
    exact ⟨_, htoll, rfl, rfl, rfl, rfl⟩
  · have hcount : x.rd P.lswRetriesDone = (s.m.rd P.lswRetriesDone + 1) % 2 ^ 32 :=
      hx ▸ Mod.rd_inc_full (m := (s.m.at t).setLsw k LswCh.spend) hs rfl 0 1 0
    rw [hrd _ 0 (by decide), hmean, Mod.rd_congr (Mod.ask_regs _ _ _ _ _ _)]
    exact hcount

theorem lswClr_yields (hk : k < 24) (hlen : k < s.m.lsw.ch.length) (role : Nat) (hrun : s.m.running = true)
    (hlatched : (s.m.lswCh k).latched = true) (hoff : s.m.rd P.lswOn k = 0) : s.Yields (.lswClr t role (w32 k)) fun m' =>
      m'.lsw = s.m.lswWith k (s.m.lswCh k).released ∧ Mod.Frame t [.lsw] [P.lswClr.addr] s.m m' := by
  have hoff' : ((s.m.at t).setWord P.lswClr.addr (w32 k)).rd P.lswOn k = 0 := by
    refine (congrArg BitVec.toNat (Store.get_put_other _ _ ?_)).trans hoff
    simp only [Param.addr, P.lswOn, P.lswClr]
    omega
  have hmean := (cmdWrite_lswClr (m := s.m.at t) hrun role hk).trans
    (lswClr_of_latched (m := (s.m.at t).setWord P.lswClr.addr (w32 k)) hk hlatched hoff')
  obtain ⟨m', hexec, hlsw, -, -, hframe⟩ := lsw_yields (c := .lswClr t role (w32 k)) (g := LswCh.released) (as := [.lsw])
    (ws := [P.lswClr.addr]) rfl hlen (by rw [hmean]; rfl)
    (hmean ▸ (((Mod.Within.setWord _ _ _ (by simp)).trans (.wr _ _ _ _ _ (by simp))).trans (.setLsw _ _ _ (by simp))).trans
      (.raise _ _ _ _))
  exact ⟨m', hexec, hlsw, hframe⟩

theorem lswOpenLoad_yields (hlen : k < s.m.lsw.ch.length) {a : Nat} (hon : (s.m.lswCh k).on = true) (hinrush : (s.m.lswCh k).inrush = false)
    (hopen : (s.m.lswCh k).open_ = false) (hsince : (s.m.lswCh k).openAt = some a) (hlong : a + 100000000 ≤ (s.m.at t).now) :
    s.Yields (.lswOpenLoad t k) fun m' =>
      m'.lsw = s.m.lswWith k { s.m.lswCh k with open_ := true } ∧ Mod.Frame t [.lsw] [P.lswFlags.addr] s.m m' := by
  have hmean := lswOpenLoad_of_open (m := s.m.at t) hon hinrush hopen hsince hlong
  obtain ⟨m', hexec, hlsw, -, -, hframe⟩ := lsw_yields (c := .lswOpenLoad t k) (g := fun c => { c with open_ := true })
    (as := [.lsw]) (ws := [P.lswFlags.addr]) rfl hlen (by rw [hmean]; rfl)
    (hmean ▸ ((Mod.Within.setLsw _ _ _ (by simp)).trans (.flag _ _ _ _ (by simp))).trans (.raise _ _ _ _))
  exact ⟨m', hexec, hlsw, hframe⟩

end

/-- Settles O45: each command finds its channel in the state that its own conditions name, and changes it by one of the operations above. -/
theorem loadSwitchesRunAndTrip : Obligations.LoadSwitchesRunAndTrip := by
  intro s t k hs hk hlen c now sets unasked
  refine ⟨fun u hon hinrush hsince hdue => lsw_set_yields rfl hlen (inrushWindowEnd_of_counted (m := s.m.at t) hon hinrush hsince hdue),
    fun hon hfreq hdue => ?period, fun raw hon hshort hretries => ?hardShort, fun hon hspent htrip hlong => ?trip,
    fun temp raw hcool hhot hon hlow => lswThermalLatch_yields hs hk hlen hcool hhot hon hlow,
    fun temp hhot hcool hretry hoff => lswThermalClear_yields hlen hhot hcool hretry hoff,
    fun d hretry hdue hcool hmay huv hasking => lswRetryDue_yields hs hlen hretry hdue hcool hmay huv hasking,
    fun hon hlong => lsw_set_yields rfl hlen (lswRetryReset_of_long (m := s.m.at t) hon hlong),
    fun role hrun hlatched hoff => lswClr_yields hk hlen role hrun hlatched hoff,
    fun a hon hinrush hopen hsince hlong => lswOpenLoad_yields hlen hon hinrush hopen hsince hlong,
    fun hopen hmean => lsw_set_yields rfl hlen (lswOpenCleared_of_mean (m := s.m.at t) hopen hmean)⟩
  case period =>
    obtain ⟨m', hexec, ⟨hknown, hopen⟩, hframe⟩ := lswPwmPeriod_yields hk hlen hon hfreq hdue
    have hvin : s.m.lswVin k = _ := Mod.lswVin_eq s.m k
    have hvin' : (s.m.at t).lswVin k = _ := hvin
    rw [hvin] at hknown
    rw [Mod.lswNextDuty, Mod.lswRef, hvin'] at hknown
    refine ⟨m', hexec, hknown, fun hcomp hzero => ?_, hframe⟩
    have hinput : (s.m.lswVin k).1 = 0 := hvin ▸ hzero
    rw [Mod.lswNextDuty_of_open (m := s.m.at t) hcomp hinput] at hopen
    exact hopen hcomp hinput
  case hardShort =>
    obtain ⟨m', hexec, hlsw, hrest⟩ := lswFaulted_yields (c := .lswHardShort t k raw) hs hk hlen (.inl rfl) rfl
      (lswHardShort_of_short (m := s.m.at t) hon hshort)
    rw [LswCh.faulted, if_neg hretries] at hlsw
    exact ⟨m', hexec, hlsw, hrest⟩
  case trip =>
    obtain ⟨m', hexec, hlsw, hrest⟩ := lswFaulted_yields (c := .lswOvercurrentTrip t k) hs hk hlen (.inr rfl) rfl
      (lswOvercurrentTrip_of_long (m := s.m.at t) hon htrip hlong)
    rw [LswCh.faulted, if_pos hspent] at hlsw
    exact ⟨m', hexec, hlsw, hrest⟩

end Sys2Proof.Machine
end

section
/-!
PROOFS. The statements of 11_load_switches.md: load inputs. A step that concerns one channel and reads only that channel leaves, made over
the channels of an input, each of them as that step alone would; so it is for the threshold, the switch-off and the ends of both.
-/
namespace Sys2Proof.Machine

/-! ### A step made for each channel of an input (R263, R268) -/

/-- Two modules differ in the channels of the load switches and in the waiting requests alone. -/
def Mod.LswAlike (a b : Mod) : Prop :=
  b = { a with lsw := { a.lsw with ch := b.lsw.ch }, toll := { a.toll with reqs := b.toll.reqs } } ∧ b.lsw.ch.length = a.lsw.ch.length

theorem Mod.LswAlike.refl (a : Mod) : Mod.LswAlike a a := ⟨rfl, rfl⟩

theorem Mod.LswAlike.trans {a b c : Mod} (h : Mod.LswAlike a b) (k : Mod.LswAlike b c) : Mod.LswAlike a c := by
  obtain ⟨h, hlen⟩ := h
  obtain ⟨k, klen⟩ := k
  refine ⟨?_, klen.trans hlen⟩
  rw [k, h]

theorem Mod.LswAlike.setLsw (m : Mod) (k : Nat) (f : LswCh → LswCh) : Mod.LswAlike m (m.setLsw k f) := ⟨rfl, List.length_modify _ _ _⟩

theorem Mod.LswAlike.unask (m : Mod) (w : Asker) : Mod.LswAlike m (m.unask w) := ⟨rfl, rfl⟩

theorem Mod.LswAlike.ask (m : Mod) (w : Asker) (c : Nat) (b : Budget) (k n : Nat) : Mod.LswAlike m (m.ask w c b k n) := by
  unfold Mod.ask
  split
  · exact .refl m
  · exact ⟨rfl, rfl⟩

theorem Mod.LswAlike.lswOff (m : Mod) (k : Nat) : Mod.LswAlike m (m.lswOff k) := (Mod.LswAlike.setLsw m k _).trans (.unask _ _)

theorem Mod.LswAlike.lswRequest (m : Mod) (k : Nat) (retry : Bool) : Mod.LswAlike m (m.lswRequest k retry) := by
  unfold Mod.lswRequest
  dsimp only
  split
  · exact .refl m
  · split
    · exact .setLsw m _ _
    · split
      · exact .setLsw m _ _
      · split
        · exact .setLsw m _ _
        · exact (Mod.LswAlike.setLsw m _ _).trans (.ask _ _ _ _ _ _)

/-- Such modules read the same words and the same inputs. -/
theorem Mod.LswAlike.lswAsked {a b : Mod} (h : Mod.LswAlike a b) (k : Nat) (retry : Bool) (c : LswCh) :
    b.lswAsked k retry c = a.lswAsked k retry c := by
  rw [h.1]
  rfl

theorem Mod.LswAlike.rd {a b : Mod} (h : Mod.LswAlike a b) (p : Param) (i j : Nat) : b.rd p i j = a.rd p i j := by
  rw [h.1]
  rfl

theorem Mod.LswAlike.now {a b : Mod} (h : Mod.LswAlike a b) : b.now = a.now := by rw [h.1]

/-- A step `f` leaves channel `k` as `g` says, and the other channels as they stand. -/
structure Mod.StepsLsw (f : Mod → Nat → Mod) (g : Mod → Nat → LswCh → LswCh) : Prop where
  alike : ∀ m k, Mod.LswAlike m (f m k)
  lsw : ∀ m k, k < m.lsw.ch.length → (f m k).lsw = (m.setLsw k (g m k)).lsw
  same : ∀ a b k, Mod.LswAlike a b → g b k = g a k

section
variable {f : Mod → Nat → Mod} {g : Mod → Nat → LswCh → LswCh}

theorem Mod.StepsLsw.foldl_alike (h : Mod.StepsLsw f g) (l : List Nat) (m : Mod) : Mod.LswAlike m (l.foldl f m) := by
  induction l generalizing m with
  | nil => exact .refl m
  | cons k l ih => exact (h.alike m k).trans (ih _)

/-- Made over a list of channels, the step leaves each of them as it alone would, and no other. -/
theorem Mod.StepsLsw.lswCh_foldl (h : Mod.StepsLsw f g) {l : List Nat} (hl : l.Nodup) {m : Mod} (hlen : ∀ k ∈ l, k < m.lsw.ch.length) (k : Nat) :
    (l.foldl f m).lswCh k = if k ∈ l then g m k (m.lswCh k) else m.lswCh k := by
  induction l generalizing m with
  | nil => simp
  | cons c l ih =>
    obtain ⟨hc, hl⟩ := List.nodup_cons.1 hl
    have hin : c < m.lsw.ch.length := hlen c List.mem_cons_self
    have hstep : (f m c).lswCh k = (m.setLsw c (g m c)).lswCh k := Mod.lswCh_congr (h.lsw m c hin) k
    rw [List.foldl_cons, ih hl (fun j hj => (h.alike m c).2 ▸ hlen j (List.mem_cons_of_mem _ hj)), h.same m _ k (h.alike m c), hstep]
    by_cases hk : k = c
    · subst hk
      rw [if_neg hc, if_pos List.mem_cons_self, Mod.lswCh_setLsw hin]
    · rw [Mod.lswCh_setLsw_ne m hk]
      simp [hk]

end

theorem mem_lswOf {inp k : Nat} : k ∈ lswOf inp ↔ k < 24 ∧ k % 2 = inp := by simp [lswOf]

theorem nodup_lswOf (inp : Nat) : (lswOf inp).Nodup := List.nodup_range.filter _

theorem Mod.StepsLsw.lswCh_input {f : Mod → Nat → Mod} {g : Mod → Nat → LswCh → LswCh} (h : Mod.StepsLsw f g) {m : Mod}
    (hlen : m.lsw.ch.length = 24) (inp k : Nat) :
    ((lswOf inp).foldl f m).lswCh k = if k < 24 ∧ k % 2 = inp then g m k (m.lswCh k) else m.lswCh k := by
  rw [h.lswCh_foldl (nodup_lswOf inp) (fun j hj => hlen ▸ (mem_lswOf.1 hj).1)]
  exact if_congr mem_lswOf rfl rfl

/-- What every step of a list keeps, the list keeps. -/
theorem foldl_keeps {α β γ : Type} {f : β → α → β} {π : β → γ} (h : ∀ b a, π (f b a) = π b) (l : List α) (b : β) : π (l.foldl f b) = π b := by
  induction l generalizing b with
  | nil => rfl
  | cons a l ih => exact (ih (f b a)).trans (h b a)

/-- A request that the step of channel `k` makes still waits after all steps, where none withdraws it. -/
theorem Mod.StepsLsw.asking_foldl {f : Mod → Nat → Mod} {g : Mod → Nat → LswCh → LswCh} (h : Mod.StepsLsw f g) {who : Asker}
    (hkeep : ∀ m k, m.asking who = true → (f m k).asking who = true) {l : List Nat} {k : Nat} (hk : k ∈ l) {m : Mod}
    (hlen : ∀ j ∈ l, j < m.lsw.ch.length)
    (hasks : ∀ x, Mod.LswAlike m x → x.lswCh k = m.lswCh k → (f x k).asking who = true) : (l.foldl f m).asking who = true := by
  have hkept : ∀ (l : List Nat) (m : Mod), m.asking who = true → (l.foldl f m).asking who = true := fun l => by
    induction l with
    | nil => exact fun _ h => h
    | cons j l ih => exact fun m hm => ih _ (hkeep m j hm)
  induction l generalizing m with
  | nil => exact absurd hk List.not_mem_nil
  | cons j l ih =>
    by_cases hj : j = k
    · exact hkept l _ (hj ▸ hasks m (.refl m) rfl)
    · have halike := h.alike m j
      have hch : (f m j).lswCh k = m.lswCh k :=
        (Mod.lswCh_congr (h.lsw m j (hlen j List.mem_cons_self)) k).trans (Mod.lswCh_setLsw_ne m (Ne.symm hj) _)
      exact ih ((List.mem_cons.1 hk).resolve_left (Ne.symm hj)) (fun i hi => halike.2 ▸ hlen i (List.mem_cons_of_mem _ hi))
        (fun x hx hsame => hasks x (halike.trans hx) (hsame.trans hch))

/-! ### The steps of the inputs' commands (R263, R268) -/

/-- A channel whose inrush window pauses at `now`, and one whose window counts on. -/
def LswCh.paused (now : Nat) (c : LswCh) : LswCh :=
  match c.since with
  | some u => { c with counted := c.counted + (now - u), since := none }
  | none => c
def LswCh.resumed (now : Nat) (c : LswCh) : LswCh := if c.on && c.inrush && c.since.isNone then { c with since := some now } else c

/-- The input falls to its threshold: a channel's window pauses. -/
def Mod.lswPause (m : Mod) (k : Nat) : Mod := m.setLsw k (LswCh.paused m.now)

/-- The input rises above its threshold: a channel's window counts on, and a request held back is issued. -/
def Mod.lswResume (m : Mod) (k : Nat) : Mod :=
  let m3 := if (m.lswCh k).on && (m.lswCh k).inrush && (m.lswCh k).since.isNone then m.setLsw k (fun c => { c with since := some m.now }) else m
  if (m.lswCh k).wait && (m.lswCh k).held then m3.lswRequest k (m.lswCh k).isRetry else m3

/-- The sag has lasted: a channel that is no safety channel switches off, or its request goes. -/
def LswCh.sags (safety : Bool) (c : LswCh) : Bool := !safety && (c.on || (c.wait && !c.held))
def Mod.lswSag (m : Mod) (k : Nat) : Mod :=
  if (m.lswCh k).sags (m.lswSafety k) then (m.lswOff k).setLsw k (fun c => { c with uvOff := true }) else m

/-- The input is back in range: a channel that was switched off, as `off` says, asks again. -/
def Mod.lswReturn (off : LswCh → Bool) (m : Mod) (k : Nat) : Mod :=
  if off (m.lswCh k) && m.rd P.lswOn k = 1 then m.lswRequest k false else m

theorem Mod.stepsLsw_pause : Mod.StepsLsw Mod.lswPause (fun m _ => LswCh.paused m.now) where
  alike m k := .setLsw m k _
  lsw _ _ _ := rfl
  same a b _ h := by rw [h.now]

theorem Mod.stepsLsw_resume : Mod.StepsLsw Mod.lswResume
    (fun m k c => if c.wait && c.held then m.lswAsked k c.isRetry (c.resumed m.now) else c.resumed m.now) where
  alike m k := by
    unfold Mod.lswResume
    extract_lets m3
    have h3 : Mod.LswAlike m m3 := by
      simp only [m3]
      split
      · exact .setLsw m k _
      · exact .refl m
    split
    · exact h3.trans (.lswRequest _ _ _)
    · exact h3
  lsw m k hk := by
    have h3 : (if (m.lswCh k).on && (m.lswCh k).inrush && (m.lswCh k).since.isNone then m.setLsw k (fun c => { c with since := some m.now }) else m)
        = m.setLsw k (LswCh.resumed m.now) := by
      split
      · next hcond => exact Mod.setLsw_congr hk (if_pos hcond).symm
      · next hcond => exact (Mod.setLsw_same hk (f := LswCh.resumed m.now) (if_neg hcond)).symm
    have halike := Mod.LswAlike.setLsw m k (LswCh.resumed m.now)
    unfold Mod.lswResume
    rw [h3]
    dsimp only
    split
    · next hheld =>
      rw [Mod.lswRequest_lsw (halike.2 ▸ hk), Mod.setLsw_setLsw]
      exact congrArg Mod.lsw (Mod.setLsw_congr hk ((halike.lswAsked k _ _).trans (if_pos hheld).symm))
    · next hheld => exact congrArg Mod.lsw (Mod.setLsw_congr hk (if_neg hheld).symm)
  same a b k h := by
    funext c
    rw [h.now, h.lswAsked]

theorem Mod.stepsLsw_sag : Mod.StepsLsw Mod.lswSag
    (fun m k c => if c.sags (m.lswSafety k) then { c.dark with uvOff := true } else c) where
  alike m k := by
    unfold Mod.lswSag
    split
    · exact (Mod.LswAlike.lswOff m k).trans (.setLsw _ _ _)
    · exact .refl m
  lsw m k hk := by
    unfold Mod.lswSag
    split
    · next hsags =>
      rw [Mod.lswOff_eq, Mod.setLsw_lsw_congr (Mod.unask_lsw _ _), Mod.setLsw_setLsw]
      exact congrArg Mod.lsw (Mod.setLsw_congr hk (if_pos hsags).symm)
    · next hsags =>
      refine congrArg Mod.lsw (Mod.setLsw_same hk ?_).symm
      exact if_neg hsags
  same a b k h := by
    have hsafety : b.lswSafety k = a.lswSafety k := congrArg (Nat.testBit · k) (h.rd P.tollSafetyLsw 0 0)
    rw [hsafety]

theorem Mod.stepsLsw_return (off : LswCh → Bool) : Mod.StepsLsw (Mod.lswReturn off)
    (fun m k c => if off c && m.rd P.lswOn k = 1 then m.lswAsked k false c else c) where
  alike m k := by
    unfold Mod.lswReturn
    split
    · exact .lswRequest m k _
    · exact .refl m
  lsw m k hk := by
    unfold Mod.lswReturn
    split
    · next hoff =>
      rw [Mod.lswRequest_lsw hk]
      exact congrArg Mod.lsw (Mod.setLsw_congr hk (if_pos hoff).symm)
    · next hoff =>
      refine congrArg Mod.lsw (Mod.setLsw_same hk ?_).symm
      exact if_neg hoff
  same a b k h := by
    funext c
    rw [h.rd, h.lswAsked]

/-! ### What the inputs' commands find -/

section
variable {m : Mod} {inp mv : Nat}

/-- A sample of `mv` crosses an input's threshold, before its channels follow. -/
def Mod.uvCrossed (m : Mod) (inp : Nat) (below : Bool) (mv : Nat) : Mod :=
  { m with lsw := { m.lsw with uv := m.lsw.uv.set inp below, sagDone := m.lsw.sagDone.set inp false,
                               uvAt := m.lsw.uvAt.set inp (some m.now) },
           toll := if inp = 0 then { m.toll with loadA := mv } else { m.toll with loadB := mv } }

theorem lswUndervoltageThreshold_of_below (hinp : inp < 2) (hup : m.lsw.uv.getD inp false = false) (hlow : mv ≤ m.lswUv inp) :
    lswUndervoltageThreshold inp true mv m = (lswOf inp).foldl Mod.lswPause (m.uvCrossed inp true mv) := by
  have hcross : (decide (2 ≤ inp) || decide (m.lsw.uv.getD inp false = true) || true != decide (mv ≤ m.lswUv inp)) = false := by
    rw [hup]
    simp [hlow, hinp]
  unfold lswUndervoltageThreshold
  rw [hcross]
  simp only [Bool.false_eq_true, if_false, if_true]
  unfold Mod.uvCrossed
  split <;> rfl

theorem lswUndervoltageThreshold_of_above (hinp : inp < 2) (hdown : m.lsw.uv.getD inp false = true) (hhigh : m.lswUv inp < mv) :
    lswUndervoltageThreshold inp false mv m = (lswOf inp).foldl Mod.lswResume (m.uvCrossed inp false mv) := by
  have hcross : (decide (2 ≤ inp) || decide (m.lsw.uv.getD inp false = false) || false != decide (mv ≤ m.lswUv inp)) = false := by
    rw [hdown]
    simp [hhigh, hinp]
  unfold lswUndervoltageThreshold
  rw [hcross]
  simp only [Bool.false_eq_true, if_false]
  unfold Mod.uvCrossed
  split <;> rfl

/-- The channels of an input switch off, which is counted and reported. -/
def Mod.sagged (m : Mod) (inp mv : Nat) : Mod :=
  let m1 := (lswOf inp).foldl Mod.lswSag m
  ((({ m1 with lsw := { m1.lsw with off := m1.lsw.off.set inp true, sagDone := m1.lsw.sagDone.set inp true } } : Mod).inc P.lswUvOffs).flag
    P.lswFlags 16).raise 80 0x0509 (leBytes 1 inp ++ leBytes 4 mv)

theorem lswUvSwitchOff_of_long {u : Nat} (hinp : inp < 2) (hdown : m.lsw.uv.getD inp false = true)
    (hsince : m.lsw.uvAt.getD inp none = some u) (hlong : u + m.rd P.lswUvOffMs * 1000000 ≤ m.now)
    (hfirst : m.lsw.sagDone.getD inp false = false) : lswUvSwitchOff inp mv m = m.sagged inp mv := by
  simp only [lswUvSwitchOff, hinp, hdown, hsince, hlong, hfirst, decide_true, Bool.not_false, Bool.and_self, if_true]
  rfl

theorem lswUvRestore_of_long {u : Nat} (hinp : inp < 2) (hoff : m.lsw.off.getD inp false = true) (hup : m.lsw.uv.getD inp false = false)
    (hsince : m.lsw.uvAt.getD inp none = some u) (hlong : u + 10000000 ≤ m.now) :
    lswUvRestore inp m = ((lswOf inp).foldl (Mod.lswReturn LswCh.uvOff)
      { m with lsw := { m.lsw with off := m.lsw.off.set inp false } }).raise 80 0x050A (leBytes 1 inp) := by
  simp only [lswUvRestore, hinp, hoff, hup, hsince, hlong, decide_true, Bool.not_false, Bool.and_self, if_true]
  rfl

theorem lswOvRestore_of_long {u : Nat} (hinp : inp < 2) (hsince : m.lsw.ovAt.getD inp none = some u) (hlong : u + 10000000 ≤ m.now) :
    lswOvRestore inp m = (lswOf inp).foldl (Mod.lswReturn LswCh.ovOff) { m with lsw := { m.lsw with ovAt := m.lsw.ovAt.set inp none } } := by
  simp only [lswOvRestore, hinp, hsince, hlong, decide_true, Bool.and_self, if_true]
  rfl

end

/-! ### What they leave (R263, R268) -/

section
variable {as : List Area} {ws : List Nat}

theorem Mod.Within.lswPause (m : Mod) (k : Nat) (hlsw : Area.lsw ∈ as) : Mod.Within as ws m (m.lswPause k) := .setLsw m k _ hlsw

theorem Mod.Within.lswResume (m : Mod) (k : Nat) (hlsw : Area.lsw ∈ as) (htoll : Area.toll ∈ as) : Mod.Within as ws m (m.lswResume k) := by
  unfold Mod.lswResume
  extract_lets m3
  have h3 : Mod.Within as ws m m3 := by
    simp only [m3]
    split
    · exact .setLsw m k _ hlsw
    · exact .refl m
  split
  · exact h3.trans (.lswRequest _ _ _ hlsw htoll)
  · exact h3

theorem Mod.Within.lswSag (m : Mod) (k : Nat) (hlsw : Area.lsw ∈ as) (htoll : Area.toll ∈ as) : Mod.Within as ws m (m.lswSag k) := by
  unfold Mod.lswSag
  split
  · exact (Mod.Within.lswOff m k hlsw htoll).trans (.setLsw _ _ _ hlsw)
  · exact .refl m

theorem Mod.Within.lswReturn (off : LswCh → Bool) (m : Mod) (k : Nat) (hlsw : Area.lsw ∈ as) (htoll : Area.toll ∈ as) :
    Mod.Within as ws m (m.lswReturn off k) := by
  unfold Mod.lswReturn
  split
  · exact .lswRequest m k _ hlsw htoll
  · exact .refl m

theorem Mod.Within.uvCrossed (m : Mod) (inp : Nat) (below : Bool) (mv : Nat) (hlsw : Area.lsw ∈ as) (htoll : Area.toll ∈ as) :
    Mod.Within as ws m (m.uvCrossed inp below mv) := 
  (Mod.Within.ofLsw m (m.uvCrossed inp below mv).lsw hlsw).trans (.ofToll _ (m.uvCrossed inp below mv).toll htoll)

end

section
variable {s : State} {t inp mv : Nat}

/-- A channel after a command that makes a step for each channel of an input. -/
theorem Mod.lswCh_of_input {m x b : Mod} {f : Mod → Nat → Mod} {g : Mod → Nat → LswCh → LswCh} (h : Mod.StepsLsw f g)
    (hlen : m.lsw.ch.length = 24) (hx : x.lsw.ch = m.lsw.ch) (hb : b.lsw.ch = ((lswOf inp).foldl f x).lsw.ch) (k : Nat) :
    b.lswCh k = if k < 24 ∧ k % 2 = inp then g x k (m.lswCh k) else m.lswCh k := by
  have hsame : x.lswCh k = m.lswCh k := congrArg (fun l : List LswCh => l.getD k {}) hx
  have hfold : b.lswCh k = ((lswOf inp).foldl f x).lswCh k := congrArg (fun l : List LswCh => l.getD k {}) hb
  rw [hfold, h.lswCh_input (by rw [hx, hlen]), hsame]

theorem lswUndervoltageThreshold_below_yields (hinp : inp < 2) (hlen : s.m.lsw.ch.length = 24)
    (hup : s.m.lsw.uv.getD inp false = false) (hlow : mv ≤ s.m.lswUv inp) :
    s.Yields (.lswUndervoltageThreshold t inp true mv) fun m' =>
      (m'.lsw.uv = s.m.lsw.uv.set inp true ∧ m'.lsw.uvAt = s.m.lsw.uvAt.set inp (some (s.m.at t).now)
        ∧ (∀ k, m'.lswCh k = if k < 24 ∧ k % 2 = inp then (s.m.lswCh k).paused (s.m.at t).now else s.m.lswCh k)
        ∧ m'.toll = if inp = 0 then { s.m.toll with loadA := mv } else { s.m.toll with loadB := mv })
      ∧ Mod.Frame t [.lsw, .toll] [] s.m m' := by
  have hmean := lswUndervoltageThreshold_of_below (m := s.m.at t) hinp hup hlow
  have halike := Mod.stepsLsw_pause.foldl_alike (lswOf inp) ((s.m.at t).uvCrossed inp true mv)
  have htoll := foldl_keeps (f := Mod.lswPause) (π := Mod.toll) (fun _ _ => rfl) (lswOf inp) ((s.m.at t).uvCrossed inp true mv)
  refine State.yields_frame (f := lswUndervoltageThreshold inp true mv) rfl ?_ ⟨?_, ?_, fun k => ?_, ?_⟩
  · rw [hmean]
    exact (Mod.Within.uvCrossed _ _ _ _ (by simp) (by simp)).trans (.foldl (fun m k => .lswPause m k (by simp)) _ _)
  · rw [Mod.run_lsw, hmean, halike.1]
    rfl
  · rw [Mod.run_lsw, hmean, halike.1]
    rfl
  · exact Mod.lswCh_of_input (m := s.m) Mod.stepsLsw_pause hlen (x := (s.m.at t).uvCrossed inp true mv) rfl
      (by rw [Mod.run_lsw, hmean]) k
  · rw [Mod.run_toll, hmean, htoll]
    rfl

theorem lswUndervoltageThreshold_above_yields (hinp : inp < 2) (hlen : s.m.lsw.ch.length = 24)
    (hdown : s.m.lsw.uv.getD inp false = true) (hhigh : s.m.lswUv inp < mv) (hidle : ∀ c ∈ s.m.lsw.ch, c.wait = false) :
    s.Yields (.lswUndervoltageThreshold t inp false mv) fun m' =>
      (m'.lsw.uv = s.m.lsw.uv.set inp false ∧ m'.lsw.uvAt = s.m.lsw.uvAt.set inp (some (s.m.at t).now)
        ∧ (∀ k, m'.lswCh k = if k < 24 ∧ k % 2 = inp then (s.m.lswCh k).resumed (s.m.at t).now else s.m.lswCh k))
      ∧ Mod.Frame t [.lsw, .toll] [] s.m m' := by
  have hmean := lswUndervoltageThreshold_of_above (m := s.m.at t) hinp hdown hhigh
  have halike := Mod.stepsLsw_resume.foldl_alike (lswOf inp) ((s.m.at t).uvCrossed inp false mv)
  refine State.yields_frame (f := lswUndervoltageThreshold inp false mv) rfl ?_ ⟨?_, ?_, fun k => ?_⟩
  · rw [hmean]
    exact (Mod.Within.uvCrossed _ _ _ _ (by simp) (by simp)).trans (.foldl (fun m k => .lswResume m k (by simp) (by simp)) _ _)
  · rw [Mod.run_lsw, hmean, halike.1]
    rfl
  · rw [Mod.run_lsw, hmean, halike.1]
    rfl
  · rw [Mod.lswCh_of_input (m := s.m) Mod.stepsLsw_resume hlen (x := (s.m.at t).uvCrossed inp false mv) rfl (by rw [Mod.run_lsw, hmean]) k]
    refine ite_congr rfl (fun hk => ?_) fun _ => rfl
    have hin : k < s.m.lsw.ch.length := hlen ▸ hk.1
    have hwait : (s.m.lswCh k).wait = false := by
      have hmem : s.m.lswCh k ∈ s.m.lsw.ch := by
        rw [Mod.lswCh, List.getD_eq_getElem _ _ hin]
        exact List.getElem_mem hin
      exact hidle _ hmem
    rw [hwait]
    rfl

theorem lswUvSwitchOff_yields (hs : s.Canonical) {u : Nat} (hinp : inp < 2) (hlen : s.m.lsw.ch.length = 24)
    (hdown : s.m.lsw.uv.getD inp false = true) (hsince : s.m.lsw.uvAt.getD inp none = some u)
    (hlong : u + s.m.rd P.lswUvOffMs * 1000000 ≤ (s.m.at t).now) (hfirst : s.m.lsw.sagDone.getD inp false = false) :
    s.Yields (.lswUvSwitchOff t inp mv) fun m' =>
      (m'.lsw.off = s.m.lsw.off.set inp true ∧ m'.lsw.sagDone = s.m.lsw.sagDone.set inp true
        ∧ (∀ k, m'.lswCh k = if k < 24 ∧ k % 2 = inp then
            (if (s.m.lswCh k).sags (s.m.lswSafety k) then { (s.m.lswCh k).dark with uvOff := true } else s.m.lswCh k) else s.m.lswCh k)
        ∧ m'.rd P.lswUvOffs = (s.m.rd P.lswUvOffs + 1) % 2 ^ 32)
      ∧ Mod.Frame t [.lsw, .toll] [P.lswUvOffs.addr, P.lswFlags.addr] s.m m' := by
  have hmean := lswUvSwitchOff_of_long (m := s.m.at t) (mv := mv) hinp hdown hsince hlong hfirst
  have halike := Mod.stepsLsw_sag.foldl_alike (lswOf inp) (s.m.at t)
  refine State.yields_frame (f := lswUvSwitchOff inp mv) rfl ?_ ⟨?_, ?_, fun k => ?_, ?_⟩
  · rw [hmean]
    exact ((((Mod.Within.foldl (fun m k => .lswSag m k (by simp) (by simp)) _ _).trans (.ofLsw _ _ (by simp))).trans
      (.inc _ _ _ _ _ (by simp))).trans (.flag _ _ _ _ (by simp))).trans (.raise _ _ _ _)
  · rw [Mod.run_lsw, hmean, Mod.sagged, halike.1]
    rfl
  · rw [Mod.run_lsw, hmean, Mod.sagged, halike.1]
    rfl
  · exact Mod.lswCh_of_input (m := s.m) Mod.stepsLsw_sag hlen (x := s.m.at t) rfl (by rw [Mod.run_lsw, hmean]; rfl) k
  · have hregs : ((lswOf inp).foldl Mod.lswSag (s.m.at t)).regs = s.m.regs := by
      rw [halike.1]
      rfl
    rw [Mod.run_rd_other _ _ _ (by decide), hmean, Mod.sagged, Mod.rd_raise, Mod.rd_flag_other (by decide),
      Mod.rd_inc_full (by rw [show Mod.regs _ = _ from hregs]; exact hs) rfl, Mod.rd_congr (a := s.m) (by exact hregs)]

end

theorem Mod.asking_ask_of_asking {m : Mod} {who : Asker} (h : m.asking who = true) (w : Asker) (c : Nat) (b : Budget) (k n : Nat) :
    (m.ask w c b k n).asking who = true := by
  unfold Mod.ask
  split
  · exact h
  · unfold Mod.asking at h ⊢
    rw [List.any_append, h, Bool.true_or]

theorem Mod.asking_ask (m : Mod) (who : Asker) (c : Nat) (b : Budget) (k n : Nat) : (m.ask who c b k n).asking who = true := by
  unfold Mod.ask
  split
  · next h => exact h
  · simp [Mod.asking]

theorem Mod.asking_lswRequest {m : Mod} {who : Asker} (h : m.asking who = true) (k : Nat) (retry : Bool) :
    (m.lswRequest k retry).asking who = true := by
  unfold Mod.lswRequest
  dsimp only
  split
  · exact h
  · split
    · exact h
    · split
      · exact h
      · split
        · exact h
        · exact Mod.asking_ask_of_asking (by exact h) _ _ _ _ _

theorem Mod.LswAlike.lswMayAsk {a b : Mod} (h : Mod.LswAlike a b) {k : Nat} (hch : b.lswCh k = a.lswCh k) (hmay : a.lswMayAsk k) :
    b.lswMayAsk k := by
  obtain ⟨hdrive, hen, husable, hlatched, hbarred, hon⟩ := hmay
  refine ⟨?_, ?_, hch ▸ husable, hch ▸ hlatched, ?_, hch ▸ hon⟩
  · rw [h.1]
    exact hdrive
  · rw [h.rd]
    exact hen
  · rw [h.1]
    exact hbarred

/-- The channels of an input that come back: those that `off` marks ask again, the others stand. -/
theorem Mod.lswCh_return {off : LswCh → Bool} {x : Mod} {inp : Nat} (hlen : x.lsw.ch.length = 24) (hup : x.lsw.uv.getD inp false = false) :
    (∀ k, k < 24 → k % 2 = inp → off (x.lswCh k) = true → x.rd P.lswOn k = 1 → x.lswMayAsk k → (x.lswCh k).thermal = false →
      ((lswOf inp).foldl (Mod.lswReturn off) x).lswCh k = (x.lswCh k).asks false false
      ∧ ((lswOf inp).foldl (Mod.lswReturn off) x).asking (.lsw k) = true)
    ∧ (∀ k, k % 2 ≠ inp ∨ off (x.lswCh k) = false → ((lswOf inp).foldl (Mod.lswReturn off) x).lswCh k = x.lswCh k) := by
  have hsteps := Mod.stepsLsw_return off
  refine ⟨fun k hk hinp hoff hon hmay hcool => ⟨?_, ?_⟩, fun k hkeep => ?_⟩
  · have hcond : (off (x.lswCh k) && decide (x.rd P.lswOn k = 1)) = true := by simp [hoff, hon]
    rw [hsteps.lswCh_input hlen, if_pos ⟨hk, hinp⟩, if_pos hcond, Mod.lswAsked_of_free hmay hcool, hinp, hup]
  · refine hsteps.asking_foldl (fun m j hm => ?_) (mem_lswOf.2 ⟨hk, hinp⟩) (fun j hj => hlen ▸ (mem_lswOf.1 hj).1) fun y hy hch => ?_
    · unfold Mod.lswReturn
      split
      · exact Mod.asking_lswRequest hm j false
      · exact hm
    · have hcond : (off (y.lswCh k) && decide (y.rd P.lswOn k = 1)) = true := by simp [hch, hoff, hy.rd, hon]
      have hfree : y.lsw.uv.getD (k % 2) false = false := by
        rw [hinp, hy.1]
        exact hup
      rw [Mod.lswReturn, if_pos hcond, Mod.lswRequest_of_free (hy.lswMayAsk hch hmay) (hch ▸ hcool) hfree]
      exact Mod.asking_ask _ _ _ _ _ _
  · rw [hsteps.lswCh_input hlen]
    split
    · next hin =>
      have hcond : ¬ (off (x.lswCh k) && decide (x.rd P.lswOn k = 1)) = true := by simp [hkeep.resolve_left (not_not.2 hin.2)]
      rw [if_neg hcond]
    · rfl

section
variable {s : State} {t inp : Nat}

theorem lswUvRestore_yields {u : Nat} (hinp : inp < 2) (hlen : s.m.lsw.ch.length = 24) (hoff : s.m.lsw.off.getD inp false = true)
    (hup : s.m.lsw.uv.getD inp false = false) (hsince : s.m.lsw.uvAt.getD inp none = some u) (hlong : u + 10000000 ≤ (s.m.at t).now) :
    s.Yields (.lswUvRestore t inp) fun m' =>
      (m'.lsw.off = s.m.lsw.off.set inp false ∧ m'.lsw.uv = s.m.lsw.uv
        ∧ (∀ k, k < 24 → k % 2 = inp → (s.m.lswCh k).uvOff = true → s.m.rd P.lswOn k = 1 → s.m.lswMayAsk k → (s.m.lswCh k).thermal = false →
          (m'.lswCh k).wait = true ∧ (m'.lswCh k).uvOff = false ∧ m'.asking (.lsw k) = true)
        ∧ (∀ k, k % 2 ≠ inp ∨ (s.m.lswCh k).uvOff = false → m'.lswCh k = s.m.lswCh k))
      ∧ Mod.Frame t [.lsw, .toll] [] s.m m' := by
  let x : Mod := { s.m.at t with lsw := { s.m.lsw with off := s.m.lsw.off.set inp false } }
  have hmean : lswUvRestore inp (s.m.at t) = ((lswOf inp).foldl (Mod.lswReturn LswCh.uvOff) x).raise 80 0x050A (leBytes 1 inp) :=
    lswUvRestore_of_long (m := s.m.at t) hinp hoff hup hsince hlong
  have halike := (Mod.stepsLsw_return LswCh.uvOff).foldl_alike (lswOf inp) x
  have hlsw : (Mod.run t (lswUvRestore inp) s.m).lsw = ((lswOf inp).foldl (Mod.lswReturn LswCh.uvOff) x).lsw := by
    rw [Mod.run_lsw, hmean]
    rfl
  have htoll : (Mod.run t (lswUvRestore inp) s.m).toll = ((lswOf inp).foldl (Mod.lswReturn LswCh.uvOff) x).toll := by
    rw [Mod.run_toll, hmean]
    rfl
  obtain ⟨hasks, hkeeps⟩ := Mod.lswCh_return (off := LswCh.uvOff) (x := x) (inp := inp) hlen hup
  refine State.yields_frame (f := lswUvRestore inp) rfl ?_ ⟨?_, ?_, fun k hk hside hmark hon hmay hcool => ?_, fun k hkeep => ?_⟩
  · rw [hmean]
    exact ((Mod.Within.ofLsw _ x.lsw (by simp)).trans (.foldl (fun m k => .lswReturn _ m k (by simp) (by simp)) _ _)).trans (.raise _ _ _ _)
  · rw [hlsw, halike.1]
  · rw [hlsw, halike.1]
  · obtain ⟨hch, hasking⟩ := hasks k hk hside hmark hon hmay hcool
    rw [Mod.lswCh_congr hlsw, Mod.asking_congr htoll, hch]
    exact ⟨rfl, rfl, hasking⟩
  · rw [Mod.lswCh_congr hlsw]
    exact hkeeps k hkeep

theorem lswOvRestore_yields {u : Nat} (hinp : inp < 2) (hlen : s.m.lsw.ch.length = 24) (hup : s.m.lsw.uv.getD inp false = false)
    (hsince : s.m.lsw.ovAt.getD inp none = some u) (hlong : u + 10000000 ≤ (s.m.at t).now) :
    s.Yields (.lswOvRestore t inp) fun m' =>
      (m'.lsw.ovAt = s.m.lsw.ovAt.set inp none
        ∧ (∀ k, k < 24 → k % 2 = inp → (s.m.lswCh k).ovOff = true → s.m.rd P.lswOn k = 1 → s.m.lswMayAsk k → (s.m.lswCh k).thermal = false →
          (m'.lswCh k).wait = true ∧ (m'.lswCh k).ovOff = false ∧ m'.asking (.lsw k) = true)
        ∧ (∀ k, k % 2 ≠ inp ∨ (s.m.lswCh k).ovOff = false → m'.lswCh k = s.m.lswCh k))
      ∧ Mod.Frame t [.lsw, .toll] [] s.m m' := by
  let x : Mod := { s.m.at t with lsw := { s.m.lsw with ovAt := s.m.lsw.ovAt.set inp none } }
  have hmean : lswOvRestore inp (s.m.at t) = (lswOf inp).foldl (Mod.lswReturn LswCh.ovOff) x :=
    lswOvRestore_of_long (m := s.m.at t) hinp hsince hlong
  have halike := (Mod.stepsLsw_return LswCh.ovOff).foldl_alike (lswOf inp) x
  have hlsw : (Mod.run t (lswOvRestore inp) s.m).lsw = ((lswOf inp).foldl (Mod.lswReturn LswCh.ovOff) x).lsw := by rw [Mod.run_lsw, hmean]
  have htoll : (Mod.run t (lswOvRestore inp) s.m).toll = ((lswOf inp).foldl (Mod.lswReturn LswCh.ovOff) x).toll := by
    rw [Mod.run_toll, hmean]
  obtain ⟨hasks, hkeeps⟩ := Mod.lswCh_return (off := LswCh.ovOff) (x := x) (inp := inp) hlen hup
  refine State.yields_frame (f := lswOvRestore inp) rfl ?_ ⟨?_, fun k hk hside hmark hon hmay hcool => ?_, fun k hkeep => ?_⟩
  · rw [hmean]
    exact (Mod.Within.ofLsw _ x.lsw (by simp)).trans (.foldl (fun m k => .lswReturn _ m k (by simp) (by simp)) _ _)
  · rw [hlsw, halike.1]
  · obtain ⟨hch, hasking⟩ := hasks k hk hside hmark hon hmay hcool
    rw [Mod.lswCh_congr hlsw, Mod.asking_congr htoll, hch]
    exact ⟨rfl, rfl, hasking⟩
  · rw [Mod.lswCh_congr hlsw]
    exact hkeeps k hkeep

end

theorem LswCh.paused_of_some {c : LswCh} {u : Nat} (h : c.since = some u) (now : Nat) :
    c.paused now = { c with since := none, counted := c.counted + (now - u) } := by
  rw [LswCh.paused, h]

theorem LswCh.paused_of_none {c : LswCh} (h : c.since = none) (now : Nat) : c.paused now = c := by
  rw [LswCh.paused, h]

theorem LswCh.resumed_eq (c : LswCh) (now : Nat) :
    c.resumed now = if c.on = true ∧ c.inrush = true ∧ c.since = none then { c with since := some now } else c := by
  rw [LswCh.resumed]
  refine if_congr ?_ rfl rfl
  rw [Bool.and_eq_true, Bool.and_eq_true, Option.isNone_iff_eq_none, and_assoc]

theorem LswCh.sags_iff {c : LswCh} {safety : Bool} :
    c.sags safety = true ↔ safety = false ∧ (c.on = true ∨ (c.wait = true ∧ c.held = false)) := by
  simp [LswCh.sags]

/-- Settles O46: each command of an input makes its step for each channel of that input, which concerns that channel alone. -/
theorem loadInputsSwitchChannels : Obligations.LoadInputsSwitchChannels := by
  intro s t inp hs hinp hlen _ _ now
  refine ⟨fun mv hup hlow => ?below, fun mv hdown hhigh hidle => ?above, fun mv u hdown hsince hlong hfirst => ?switchOff,
    fun u hoff hup hsince hlong => ?uvBack, fun u hsince hlong hup => ?ovBack⟩
  case below =>
    obtain ⟨m', hexec, ⟨huv, huvAt, hch, htoll⟩, hframe⟩ := lswUndervoltageThreshold_below_yields (t := t) hinp hlen hup hlow
    refine ⟨m', hexec, huv, huvAt, fun k u hk hside hsince => ?_, fun k hkeep => ?_, htoll, hframe⟩
    · rw [hch, if_pos ⟨hk, hside⟩, LswCh.paused_of_some hsince]
    · rw [hch]
      split
      · next hin => exact LswCh.paused_of_none (hkeep.resolve_left (not_not.2 hin.2)) _
      · rfl
  case above =>
    obtain ⟨m', hexec, ⟨huv, huvAt, hch⟩, hframe⟩ := lswUndervoltageThreshold_above_yields (t := t) hinp hlen hdown hhigh hidle
    refine ⟨m', hexec, huv, huvAt, fun k hk => ?_, hframe⟩
    rw [hch, LswCh.resumed_eq]
    by_cases hside : k % 2 = inp <;> simp only [hk, hside, true_and, false_and, and_false, if_true, if_false]
    rfl
  case switchOff =>
    obtain ⟨m', hexec, ⟨hoff, hdone, hch, hcount⟩, hframe⟩ := lswUvSwitchOff_yields (t := t) (mv := mv) hs hinp hlen hdown hsince hlong hfirst
    refine ⟨m', hexec, hoff, hdone, fun k hk => ?_, hcount, hframe⟩
    rw [hch, ← ite_and]
    refine if_congr ?_ rfl rfl
    rw [LswCh.sags_iff]
    exact ⟨fun h => ⟨h.1.2, h.2⟩, fun h => ⟨⟨hk, h.1⟩, h.2⟩⟩
  case uvBack =>
    obtain ⟨m', hexec, ⟨hoff, huv, hasks, hkeeps⟩, hframe⟩ := lswUvRestore_yields (t := t) hinp hlen hoff hup hsince hlong
    exact ⟨m', hexec, hoff, huv, hasks, hkeeps, hframe⟩
  case ovBack =>
    obtain ⟨m', hexec, ⟨hat, hasks, hkeeps⟩, hframe⟩ := lswOvRestore_yields (t := t) hinp hlen hup hsince hlong
    exact ⟨m', hexec, hat, hasks, hkeeps, hframe⟩

/-- Settles O60: the pause and the resumption of a window are those of its input's threshold; a window that stands paused has not counted
its time. -/
theorem inrushWindowsPause : Obligations.InrushWindowsPause := by
  intro s t inp k mv hs hinp hk hside hlen huvs hon hinrush hidle
  refine ⟨fun u hup hlow hsince => ?pause, fun hdown hsince => ⟨fun hshort => ?paused, fun hhigh => ?resume⟩⟩
  case pause =>
    obtain ⟨m', hexec, ⟨huv, -, hch, -⟩, -⟩ := lswUndervoltageThreshold_below_yields (t := t) hinp hlen hup hlow
    refine ⟨m', hexec, ?_, ?_⟩
    · rw [huv]
      simp [List.getD_eq_getElem?_getD, huvs, hinp]
    · rw [hch, if_pos ⟨hk, hside⟩, LswCh.paused_of_some hsince]
      exact ⟨rfl, rfl, hinrush⟩
  case paused =>
    refine State.yields_run (f := inrushWindowEnd k) rfl ?_
    rw [Mod.lswCh_congr (Mod.run_lsw _ _ _), inrushWindowEnd_of_paused (m := s.m.at t) hsince hshort]
    rfl
  case resume =>
    obtain ⟨m', hexec, ⟨huv, -, hch⟩, -⟩ := lswUndervoltageThreshold_above_yields (t := t) hinp hlen hdown hhigh hidle
    refine ⟨m', hexec, ?_, ?_⟩
    · rw [huv]
      simp [List.getD_eq_getElem?_getD, huvs, hinp]
    · rw [hch, if_pos ⟨hk, hside⟩, LswCh.resumed_eq, if_pos ⟨hon, hinrush, hsince⟩]
      exact ⟨rfl, rfl, hinrush⟩

/-! ### A mean that is formed in the off-time (R269) -/

/-- Channel 0 is on at 10 Hz with a duty of 0, so that it is always in its off-time; its mean has been judged below LSW_I_OPEN before. -/
def offTimeMod : Mod :=
  { lsw := { ch := [{ on := true, iN := 99, openAt := some 0 }] },
    regs := [(P.lswFreq.addr 0, 10#32), (P.evcRoute.addr 80, 0x13#32)] }

theorem offTimeMod_plain : offTimeMod.Plain 0 (lswSrc 0) := by
  refine ⟨rfl, rfl, ?_, by decide +kernel, by decide⟩
  have htrig : ∀ n < 8, field (offTimeMod.rd P.loopTrTrig n) 31 30 ≠ 3 := by decide +kernel
  exact fun n hn hwaits => absurd hwaits (htrig n hn)

/-- Refutes O59: a sample in the off-time of a channel is no sample of its mean, so that `openAt` stands as it was, where the statement
asks that it be judged anew. -/
theorem not_openLoadsAreReported : ¬ Obligations.OpenLoadsAreReported := by
  intro h
  have hcanonical : State.Canonical { m := offTimeMod } := by unfold State.Canonical; decide +kernel
  obtain ⟨-, -, hjudged, -⟩ := h { m := offTimeMod } 0 0 hcanonical (by decide) (by decide) offTimeMod_plain (by decide +kernel) rfl
  have hanew := hjudged { k := 0, raw := 0, temp := 0 } rfl (by decide)
  have hstands : (((offTimeMod.at 0).lswSample { k := 0, raw := 0, temp := 0 }).lswCh 0).openAt = some 0 := by decide +kernel
  have hmean : ¬ ((offTimeMod.lswCh 0).inrush = false ∧
      ((offTimeMod.lswCh 0).iSum + offTimeMod.lswMa 0 0) / ((offTimeMod.lswCh 0).iN + 1) < offTimeMod.rd P.lswIOpen 0) := by decide +kernel
  exact Option.some_ne_none _ (hstands.symm.trans (hanew.trans (if_neg hmean)))

end Sys2Proof.Machine
end

section
/-!
PROOFS. The statement of 16_volron_protocol.md about the event controller (R383, R384): one event that a command raises, alone in its tick or
behind one other, and an event that meets a full delivery queue.
-/
namespace Sys2Proof.Machine

/-! ### One event taken (R383, R384) -/

section
variable {m : Mod} {r : Raised}

/-- The number that the next event takes (R383). -/
def Mod.nextSeq (m : Mod) : Nat := (m.evc.seq + 1) % 2 ^ 32

/-- An event as it stands in its tick, and in the delivery queue where it is not recorded. -/
def Mod.ticked (m : Mod) (r : Raised) : Ticked := { prio := m.prio r.src, src := r.src, code := r.code, seq := m.nextSeq }
def Mod.queuedEv (m : Mod) (r : Raised) : Ev :=
  { seq := m.nextSeq, code := r.code, src := r.src, prio := m.prio r.src, raw := m.now, valid := m.time.valid, held := m.time.hold.isSome,
    recorded := r.norec, fw := (m.rd P.evcRoute r.src).testBit 0, stream := (m.rd P.evcRoute r.src).testBit 1, rep := m.reported,
    data := r.data }

/-- The event numbered and counted, before its routes. -/
def Mod.numbered (m : Mod) (r : Raised) : Mod :=
  { m with evc := { m.evc with
      seq := m.nextSeq, counts := assocAdd m.evc.counts r.src 1, tickAt := m.now / 1000, tick := m.tickNow ++ [m.ticked r] } }

/-- An event that no trace waits for and that does not go to the recorder is numbered, and queued where a route asks for it. -/
theorem Mod.takeEvent_of_noTrace (htrace : m.NoTrace r.src) (hrec : (m.rd P.evcRoute r.src).testBit 2 = false) :
    m.takeEvent r = if (m.rd P.evcRoute r.src).testBit 0 || (m.rd P.evcRoute r.src).testBit 1 then (m.numbered r).queueEvent (m.queuedEv r)
      else m.numbered r := by
  have hroute : ((m.rd P.evcRoute r.src).testBit 2 && !r.norec && r.src ≠ 120) = false := by simp [hrec]
  have htraced : (m.numbered r).traceEvent r.src = m.numbered r := Mod.traceEvent_of_noTrace htrace
  unfold Mod.takeEvent
  simp only [hroute, Bool.false_eq_true, if_false]
  exact congrArg (fun x : Mod => if (m.rd P.evcRoute r.src).testBit 0 || (m.rd P.evcRoute r.src).testBit 1 then
    x.queueEvent (m.queuedEv r) else x) htraced

theorem Mod.queueEvent_of_room {e : Ev} (hroom : m.evc.q.length < 4096) : m.queueEvent e =
    { m with evc := { m.evc with q := m.evc.q ++ [e], peak := Nat.max m.evc.peak (m.evc.q.length + 1) } } := if_pos hroom

/-- The module with no event waiting to be taken. -/
def Mod.unraised (m : Mod) : Mod := { m with evc := { m.evc with raised := [] } }

/-- One event, whose taking raises none, is the only one that the end of its command takes. -/
theorem Mod.flush_of_one (hone : m.evc.raised = [r]) (hrest : (m.unraised.takeEvent r).evc.raised = []) :
    m.flush = (m.unraised.takeEvent r).renumber := by
  have hsome : ¬ m.evc.raised = [] := by simp [hone]
  have honce : m.flushOnce = m.unraised.takeEvent r := Mod.flushOnce_of_one hone
  rw [Mod.flush, if_neg hsome, Mod.flushN, if_neg hsome, honce, Mod.flushN, if_pos hrest]

theorem Mod.flush_of_unrouted (hone : m.evc.raised = [r]) (htrace : m.NoTrace r.src) (hrec : (m.rd P.evcRoute r.src).testBit 2 = false)
    (hfw : (m.rd P.evcRoute r.src).testBit 0 = false) (hstream : (m.rd P.evcRoute r.src).testBit 1 = false) :
    m.flush = (m.unraised.numbered r).renumber := by
  have htake : m.unraised.takeEvent r = m.unraised.numbered r := by
    rw [Mod.takeEvent_of_noTrace (m := m.unraised) htrace hrec, if_neg]
    simp only [show m.unraised.rd P.evcRoute r.src = m.rd P.evcRoute r.src from rfl, hfw, hstream, Bool.or_self, Bool.false_eq_true,
      not_false_eq_true]
  rw [Mod.flush_of_one hone (by rw [htake]; rfl), htake]

/-- The event numbered, and at the end of the delivery queue. -/
def Mod.numberedQueued (m : Mod) (r : Raised) : Mod :=
  { m.numbered r with evc := { (m.numbered r).evc with q := m.evc.q ++ [m.queuedEv r], peak := Nat.max m.evc.peak (m.evc.q.length + 1) } }

theorem Mod.flush_of_routed (hone : m.evc.raised = [r]) (htrace : m.NoTrace r.src) (hrec : (m.rd P.evcRoute r.src).testBit 2 = false)
    (hroute : (m.rd P.evcRoute r.src).testBit 0 = true ∨ (m.rd P.evcRoute r.src).testBit 1 = true) (hroom : m.evc.q.length < 4096) :
    m.flush = (m.unraised.numberedQueued r).renumber := by
  have htake : m.unraised.takeEvent r = m.unraised.numberedQueued r := by
    exact (Mod.takeEvent_of_noTrace (m := m.unraised) htrace hrec).trans
      ((if_pos (Bool.or_eq_true_iff.2 hroute)).trans (Mod.queueEvent_of_room hroom))
  rw [Mod.flush_of_one hone (by rw [htake]; rfl), htake]

/-- An event alone in its tick keeps its number. -/
theorem Mod.renumber_numbered (htick : m.tickNow = []) : (m.unraised.numbered r).renumber = m.unraised.numbered r :=
  Mod.renumber_of_one (x := m.ticked r) (congrArg (· ++ [m.ticked r]) htick)

theorem Mod.renumber_numberedQueued (htick : m.tickNow = []) : (m.unraised.numberedQueued r).renumber = m.unraised.numberedQueued r :=
  Mod.renumber_of_one (x := m.ticked r) (congrArg (· ++ [m.ticked r]) htick)

/-- A command that raises one event, alone in its tick, has it numbered and counted, and leaves the traces as its meaning does. -/
theorem RaisedOne.of_run {m : Mod} {t src code : Nat} {d : List Byte} {f : Mod → Mod} (hplain : m.Plain t src)
    (hnow : (f (m.at t)).now = (m.at t).now) (htrig : ∀ n, (f (m.at t)).rd P.loopTrTrig n = m.rd P.loopTrTrig n)
    (hroute : (f (m.at t)).rd P.evcRoute src = m.rd P.evcRoute src) (hevc : (f (m.at t)).evc = ((m.at t).raise src code d).evc) :
    RaisedOne src m (Mod.run t f m) ∧ (Mod.run t f m).loop = (f (m.at t)).loop := by
  obtain ⟨hraised, htick, htrace, hrec, hroom⟩ := hplain
  rw [Mod.run_eq]
  generalize f (m.at t) = x at *
  let r : Raised := { src := src, code := code, data := d, norec := false }
  have hone : x.evc.raised = [r] := by
    rw [hevc]
    exact congrArg (· ++ [r]) hraised
  have htick' : x.tickNow = [] := by
    simp only [Mod.tickNow, hnow, hevc]
    exact htick
  have hseq : x.evc.seq = m.evc.seq ∧ x.evc.counts = m.evc.counts ∧ x.evc.q = m.evc.q := by
    rw [hevc]
    exact ⟨rfl, rfl, rfl⟩
  obtain ⟨hseq, hcounts, hq⟩ := hseq
  have htrace' : x.NoTrace r.src := fun n hn => by
    rw [htrig]
    exact htrace n hn
  have hdone : RaisedOne src m (x.unraised.numbered r) := ⟨congrArg (fun n => (n + 1) % 2 ^ 32) hseq, congrArg (assocAdd · src 1) hcounts⟩
  by_cases hrouted : (x.rd P.evcRoute r.src).testBit 0 = true ∨ (x.rd P.evcRoute r.src).testBit 1 = true
  · rw [Mod.flush_of_routed hone htrace' (hroute ▸ hrec) hrouted (hq ▸ hroom), Mod.renumber_numberedQueued htick']
    exact ⟨hdone, rfl⟩
  · rw [not_or, Bool.not_eq_true, Bool.not_eq_true] at hrouted
    rw [Mod.flush_of_unrouted hone htrace' (hroute ▸ hrec) hrouted.1 hrouted.2, Mod.renumber_numbered htick']
    exact ⟨hdone, rfl⟩

/-! ### Two events of one tick (R383) -/

/-- The order in which the events of a tick are numbered: the first of two comes before the second, or the second strictly before it. -/
theorem Ticked.before_iff (a b : Ticked) :
    a.before b = true ↔ a.prio < b.prio ∨ (a.prio = b.prio ∧ (a.src < b.src ∨ (a.src = b.src ∧ a.code ≤ b.code))) := by
  simp [Ticked.before]

theorem sortBy_pair {α : Type} (le : α → α → Bool) (a b : α) : sortBy le [a, b] = if le a b then [a, b] else [b, a] := by
  simp [sortBy, insertBy]

/-- The second event of a tick that comes before the first takes its number, and the first the second's. -/
theorem renumbered_swap {q : List Ev} {e f : Ev} {x y : Ticked} (he : e.seq = x.seq) (hf : f.seq = y.seq) (hne : x.seq ≠ y.seq)
    (hq : ∀ z ∈ q, z.seq ≠ x.seq ∧ z.seq ≠ y.seq) :
    renumbered [x, y] [y, x] (q ++ [e] ++ [f]) = q ++ [{ f with seq := x.seq }] ++ [{ e with seq := y.seq }] := by
  have hnone : ∀ n, (∀ z ∈ q, z.seq ≠ n) → q.filter (fun e => decide (e.seq = n)) = [] := fun n hn =>
    List.filter_eq_nil_iff.2 fun z hz => by simp [hn z hz]
  have hx := hnone x.seq fun z hz => (hq z hz).1
  have hy := hnone y.seq fun z hz => (hq z hz).2
  simp [renumbered, List.filter_append, hx, hy, he, hf, hne, Ne.symm hne]
  exact fun z hz => ⟨Ne.symm (hq z hz).1, Ne.symm (hq z hz).2⟩

/-- An event that comes behind another of its tick: the two stand as they came, or with their numbers and places exchanged. -/
theorem Mod.renumber_second {m : Mod} {r : Raised} {q : List Ev} {e : Ev} {x : Ticked} (htick : m.tickNow = [x]) (hq : m.evc.q = q ++ [e])
    (he : e.seq = x.seq) (hx : x.seq = m.evc.seq) (hother : ∀ y ∈ q, y.seq ≠ x.seq ∧ y.seq ≠ m.nextSeq) :
    (m.unraised.numberedQueued r).renumber.evc.q =
      if x.before (m.ticked r) then q ++ [e] ++ [m.queuedEv r]
      else q ++ [{ m.queuedEv r with seq := x.seq }] ++ [{ e with seq := m.nextSeq }] := by
  have hpair : (m.unraised.numberedQueued r).evc.tick = [x, m.ticked r] := congrArg (· ++ [m.ticked r]) htick
  have hqueue : (m.unraised.numberedQueued r).evc.q = q ++ [e] ++ [m.queuedEv r] := congrArg (· ++ [m.queuedEv r]) hq
  have hne : x.seq ≠ m.nextSeq := by
    rw [hx, Mod.nextSeq]
    omega
  have hpairne : [m.ticked r, x] ≠ [x, m.ticked r] := fun h => hne (congrArg Ticked.seq (List.cons.inj h).1).symm
  unfold Mod.renumber
  rw [hpair, hqueue, sortBy_pair]
  by_cases hfirst : x.before (m.ticked r) = true
  · simp only [hfirst, if_true]
    exact hqueue
  · simp only [hfirst, if_false, hpairne, Bool.false_eq_true]
    exact renumbered_swap he rfl hne hother

end

/-! ### A full delivery queue (R384) -/

theorem foldl_max_le {l : List Nat} {d n : Nat} : l.foldl Nat.max d ≤ n ↔ d ≤ n ∧ ∀ x ∈ l, x ≤ n := by
  induction l generalizing d with
  | nil => simp
  | cons a l ih => simp [ih, and_assoc]

/-- The greatest of a list that is not empty is one of its elements. -/
theorem maxOf_mem {l : List Nat} (hl : l ≠ []) : maxOf 0 l ∈ l := by
  have hor : ∀ (l : List Nat) (d : Nat), l.foldl Nat.max d = d ∨ l.foldl Nat.max d ∈ l := fun l => by
    induction l with
    | nil => exact fun d => .inl rfl
    | cons a l ih =>
      intro d
      rcases ih (d.max a) with h | h
      · rcases Nat.le_total d a with hda | hda
        · exact .inr (List.mem_cons.2 (.inl (h.trans (Nat.max_eq_right hda))))
        · exact .inl (h.trans (Nat.max_eq_left hda))
      · exact .inr (List.mem_cons_of_mem _ h)
  rcases hor l 0 with h | h
  · obtain ⟨a, ha⟩ := List.exists_mem_of_ne_nil l hl
    have hzero : a = 0 := Nat.le_zero.1 ((foldl_max_le.1 (le_of_eq h)).2 a ha)
    rw [maxOf, h, ← hzero]
    exact ha
  · exact h

/-- The position that a full queue gives up is that of the newest element of its lowest priority, which stands for the greatest number. -/
theorem newestLowest_spec {l : List Nat} (hl : l ≠ []) :
    newestLowest l < l.length ∧ (∀ x ∈ l, x ≤ l.getD (newestLowest l) 0)
      ∧ ∀ j, newestLowest l < j → j < l.length → l.getD j 0 ≠ l.getD (newestLowest l) 0 := by
  have hk : l.reverse.findIdx (fun p => p = maxOf 0 l) < l.reverse.length :=
    List.findIdx_lt_length_of_exists ⟨_, List.mem_reverse.2 (maxOf_mem hl), decide_eq_true rfl⟩
  have hlen : l.reverse.findIdx (fun p => p = maxOf 0 l) < l.length := by simpa using hk
  have hpos : newestLowest l = l.length - 1 - l.reverse.findIdx (fun p => p = maxOf 0 l) := rfl
  have hlast : l.getD (newestLowest l) 0 = maxOf 0 l := by
    have hfound := List.findIdx_getElem (w := hk)
    rw [decide_eq_true_eq, List.getElem_reverse] at hfound
    rw [List.getD_eq_getElem _ _ (by omega)]
    exact hfound
  rw [hlast]
  refine ⟨by omega, (foldl_max_le.1 (le_refl _)).2, fun j hj hjlen heq => ?_⟩
  have hbefore : l.length - 1 - j < l.reverse.findIdx (fun p => p = maxOf 0 l) := by omega
  have hnot := List.not_of_lt_findIdx hbefore
  simp only [List.getElem_reverse, decide_eq_false_iff_not, show l.length - 1 - (l.length - 1 - j) = j by omega] at hnot
  exact hnot ((List.getD_eq_getElem _ _ hjlen).symm.trans heq)

theorem Mod.raiseOnce_queue (m : Mod) (src code key : Nat) (d : Nat → List Byte) (n : Nat) :
    (m.raiseOnce src code key d n).evc.q = m.evc.q ∧ (m.raiseOnce src code key d n).evc.dropFlag = m.evc.dropFlag
      ∧ (m.raiseOnce src code key d n).evc.dropped = m.evc.dropped := by
  unfold Mod.raiseOnce
  dsimp only
  split <;> exact ⟨rfl, rfl, rfl⟩

/-- An event that meets a full delivery queue has it give up one event, which is counted for its priority. -/
theorem Mod.queueEvent_of_full {m : Mod} {e : Ev} (hfull : ¬ m.evc.q.length < 4096) :
    let q := m.evc.q ++ [e]
    let i := newestLowest (q.map (·.prio))
    (m.queueEvent e).evc.q = q.eraseIdx i ∧ (m.queueEvent e).evc.dropFlag = true
      ∧ (m.queueEvent e).evc.dropped = m.evc.dropped.modify (q.getD i e).prio (fun n => (n + 1) % 2 ^ 32) := by
  intro q i
  unfold Mod.queueEvent
  rw [if_neg hfull]
  exact Mod.raiseOnce_queue _ _ _ _ _ _

/-! ### The statement -/

/-- Settles O5: with one event the flush takes it alone and exchanges it at most with the one before it in its tick; a full queue gives up
the newest event of its greatest priority number. -/
theorem eventsAreNumberedAndQueued : Obligations.EventsAreNumberedAndQueued := by
  unfold Obligations.EventsAreNumberedAndQueued
  refine ⟨fun m r hone htrace hrec => ⟨fun hfw hstream htick => ?unrouted, fun hroute hroom => ⟨fun htick => ?alone,
    fun q e x htick hq he hx hother => ?second⟩⟩, fun m e hfull => ?full⟩
  case unrouted =>
    rw [Mod.flush_of_unrouted hone htrace hrec hfw hstream, Mod.renumber_numbered htick]
    exact ⟨rfl, rfl, rfl, rfl, rfl⟩
  case alone =>
    rw [Mod.flush_of_routed hone htrace hrec hroute hroom, Mod.renumber_numberedQueued htick]
    exact ⟨rfl, rfl, rfl, rfl, m.queuedEv r, (List.append_nil _).symm, rfl, rfl, rfl, rfl, rfl, rfl, rfl, rfl, rfl, rfl⟩
  case second =>
    rw [Mod.flush_of_routed hone htrace hrec hroute hroom, Mod.renumber_second htick hq he hx hother]
    refine ⟨fun hbefore => ?_, fun hafter => ?_⟩
    · have hswap : ¬ x.before (m.ticked r) = true := by
        rw [Ticked.before_iff]
        simp only [Mod.ticked]
        omega
      rw [if_neg hswap]
      exact ⟨_, rfl, rfl, rfl, rfl, rfl, rfl, rfl, rfl, rfl, rfl, rfl⟩
    · rw [if_pos ((Ticked.before_iff _ _).2 hafter)]
      exact ⟨_, (List.append_nil _).symm, rfl, rfl, rfl, rfl, rfl, rfl, rfl, rfl, rfl, rfl⟩
  case full =>
    obtain ⟨hq, hflag, hdropped⟩ := Mod.queueEvent_of_full (e := e) (not_lt.2 hfull.ge)
    have hlen : (m.evc.q ++ [e]).length = 4097 := by simp [hfull]
    have hprio : ∀ j, j ≤ 4096 → ((m.evc.q ++ [e]).map (·.prio)).getD j 0 = ((m.evc.q ++ [e]).getD j e).prio := fun j hj => by
      rw [List.getD_eq_getElem _ _ (by simp [hfull]; omega), List.getD_eq_getElem _ _ (by omega), List.getElem_map]
    obtain ⟨hlt, hmax, hlast⟩ := newestLowest_spec (l := (m.evc.q ++ [e]).map (·.prio)) (by simp)
    rw [List.length_map, hlen] at hlt hlast
    have hi := hprio _ (Nat.le_of_lt_succ hlt)
    rw [hi] at hmax hlast
    refine ⟨_, Nat.le_of_lt_succ hlt, hq, ?_, hflag, fun x hx => hmax _ (List.mem_map_of_mem hx), fun j hj hj' => ?_, hdropped⟩
    · rw [hq, List.length_eraseIdx_of_lt (hlen ▸ hlt), hlen]
    · rw [← hprio j hj']
      exact hlast j hj (Nat.lt_succ_of_le hj')

end Sys2Proof.Machine
end

section
/-!
PROOFS. The statements of 12_control_engine.md about the loops and the inputs. Both say that a command which does nothing leaves the traces as
they stand, of a state in which an event may wait to be taken: its taking triggers the trace that waits for it (R288).
-/
namespace Sys2Proof.Machine

/-- What a command is said to answer holds of its run. -/
theorem State.Yields.of_run {s : State} {c : Instr} {t : Nat} {f : Mod → Mod} {Q : Mod → Prop} (h : s.Yields c Q) (hexec : exec c s = s.run t f) :
    Q (Mod.run t f s.m) := by
  obtain ⟨m', hm', hQ⟩ := h
  have hrun : Mod.run t f s.m = m' := congrArg State.m (Host.Outcome.next.inj (hexec.symm.trans hm'))
  exact hrun ▸ hQ

/-! ### A trace that waits for an event not yet taken (R288) -/

/-- Trace 0 is armed and waits for an event of source 2, of which one has been raised and not been taken. The first tick is due at 1 ns, and
a level of encoder 0 has to hold for 100 ns. -/
def eventWaitsMod : Mod :=
  { bist := { phase := .running, e0 := 1 }, loop := { traces := [{ st := .armed }] },
    evc := { raised := [{ src := 2, code := 0, data := [], norec := false }] },
    regs := [(P.loopTrTrig.addr 0, 0xC0000002#32), (P.ainEncCfg.addr 0, 0x201#32)] }

theorem eventWaitsMod_canonical : ({ m := eventWaitsMod } : State).Canonical := by
  unfold State.Canonical
  decide +kernel

/-- The trace triggers where the event is taken. -/
theorem eventWaitsMod_loopTick : ((Mod.run 0 loopTick eventWaitsMod).loop.traces.getD 0 {}).st = .triggered := by decide +kernel

theorem eventWaitsMod_encoderEdge :
    ((Mod.run 0 (encoderEdge 0 true false 0) eventWaitsMod).loop.traces.getD 0 {}).st = .triggered := by decide +kernel

/-- Refutes O47: a tick before its instant leaves the loops, and with them the traces, as they stand only where no event waits to be taken;
the event of `eventWaitsMod` triggers its trace. -/
theorem not_loopsRunEachTick : ¬ Obligations.LoopsRunEachTick := by
  intro h
  have hearly := (h.1 { m := eventWaitsMod } 0 eventWaitsMod_canonical rfl rfl rfl rfl).1
  obtain ⟨hloop, -⟩ := (hearly (by decide +kernel)).of_run (t := 0) (f := loopTick) rfl
  have htraces := eventWaitsMod_loopTick
  rw [hloop] at htraces
  exact absurd htraces (by decide)

/-- Refutes O48: an edge whose level has not held its filter time leaves the loops, and with them the traces, as they stand only where no
event waits to be taken; the event of `eventWaitsMod` triggers its trace. -/
theorem not_inputsAreMeasured : ¬ Obligations.InputsAreMeasured := by
  intro h
  obtain ⟨-, hencoder, -⟩ := h { m := eventWaitsMod } 0 0 eventWaitsMod_canonical
  have hshort := (hencoder (by decide) (by decide +kernel) (by decide +kernel) rfl 0).2
  obtain ⟨hloop, -⟩ := ((hshort (by decide +kernel)).1 true false).of_run (t := 0) (f := encoderEdge 0 true false 0) rfl
  have htraces := eventWaitsMod_encoderEdge
  rw [hloop] at htraces
  exact absurd htraces (by decide)

end Sys2Proof.Machine
end

section
/-!
PROOFS. The statements of 13_gnss.md: the antenna, the sessions and the channels of the receiver. What each command does where its conditions
hold is said once; what it answers follows.
-/
namespace Sys2Proof.Machine

section
variable {as : List Area} {ws : List Nat} {s : State} {t : Nat} {c : Instr} {f : Mod → Mod}

/-! ### Commands that change the receiver (chapter 13) -/

theorem Mod.Within.setGnss (m : Mod) (g : GnssSt → GnssSt) (hgnss : Area.gnss ∈ as) : Mod.Within as ws m (m.setGnss g) := .ofGnss m _ hgnss

theorem Mod.Within.setGch (m : Mod) (k : Nat) (g : GCh → GCh) (hgnss : Area.gnss ∈ as) : Mod.Within as ws m (m.setGch k g) :=
  .ofGnss m _ hgnss

/-- A command answers with the receiver as its meaning leaves it. -/
theorem gnss_yields {x : Mod} (hexec : exec c s = s.run t f) (hf : f (s.m.at t) = x) (hx : Mod.Within as ws (s.m.at t) x) :
    s.Yields c fun m' => m'.gnss = x.gnss ∧ Mod.Frame t as ws s.m m' :=
  State.yields_frame hexec (hf.symm ▸ hx) ((Mod.run_gnss t f s.m).trans (congrArg Mod.gnss hf))

/-! ### The antenna (R299) -/

/-- The antenna's state changed, with its flag and its event. -/
def Mod.antennaSet (m : Mod) (st code : Nat) (data : List Byte) : Mod :=
  ((m.setGnss (fun g => { g with ant := st })).flag P.gnssFlags 32).raise 96 code data

theorem Mod.antenna_of_other {m : Mod} {st : Nat} (h : m.gnss.ant ≠ st) (code : Nat) (data : List Byte) :
    m.antenna st code data = m.antennaSet st code data := if_neg h

/-- Whatever state the antenna had, it has the new one. -/
theorem Mod.antenna_gnss (m : Mod) (st code : Nat) (data : List Byte) : (m.antenna st code data).gnss = { m.gnss with ant := st } := by
  unfold Mod.antenna
  split
  · next h => rw [← h]
  · rfl

theorem Mod.Within.antennaSet (m : Mod) (st code : Nat) (data : List Byte) :
    Mod.Within [.gnss] [P.gnssFlags.addr] m (m.antennaSet st code data) :=
  ((Mod.Within.setGnss m _ (by decide)).trans (.flag _ _ _ _ (by decide))).trans (.raise _ _ _ _)

theorem Mod.Within.antenna (m : Mod) (st code : Nat) (data : List Byte) :
    Mod.Within [.gnss] [P.gnssFlags.addr] m (m.antenna st code data) := by
  unfold Mod.antenna
  split
  · exact .refl m
  · exact .antennaSet m st code data

/-- A bit of GNSS_FLAGS that a command sets stands after it. -/
theorem testBit_gnssFlags {x : Mod} {b i : Nat} (hwf : Store.wf x.regs = true) (hf : (f (s.m.at t)).regs = (x.flag P.gnssFlags b).regs)
    (hb : b.testBit i = true) (hi : i < 6) : ((Mod.run t f s.m).rd P.gnssFlags).testBit i = true := by
  rw [Mod.run_rd_other t f s.m (by decide), Mod.rd_congr hf, Mod.rd_flag hwf]
  exact testBit_flagged _ b i hb hi

/-- A command that finds the antenna in another state answers with the new one and its flag. -/
theorem antenna_yields {st code : Nat} {data : List Byte} (hexec : exec c s = s.run t f) (hs : s.Canonical) (hother : s.m.gnss.ant ≠ st)
    (hf : f (s.m.at t) = (s.m.at t).antenna st code data) : s.Yields c fun m' =>
      m'.gnss = { s.m.gnss with ant := st } ∧ (m'.rd P.gnssFlags).testBit 5 = true ∧ Mod.Frame t [.gnss] [P.gnssFlags.addr] s.m m' := by
  have hset : f (s.m.at t) = (s.m.at t).antennaSet st code data := hf.trans (Mod.antenna_of_other (m := s.m.at t) hother code data)
  have hwithin : Mod.Within [.gnss] [P.gnssFlags.addr] (s.m.at t) (f (s.m.at t)) := hset ▸ .antennaSet _ _ _ _
  refine State.yields_run hexec ⟨?_, ?_, hwithin.frame⟩
  · rw [Mod.run_gnss, hset]
    rfl
  · exact testBit_gnssFlags (x := (s.m.at t).setGnss (fun g => { g with ant := st })) (b := 32) hs (by rw [hset]; rfl) (by decide) (by decide)

section
variable {m : Mod} {ma : Nat}

theorem antennaOpen_of_low (hjudged : m.antennaJudged = true) (hlow : ma < 3) (hlong : m.gnss.antAt + 100000000 ≤ m.now) :
    antennaOpen ma m = m.antenna 1 0x0701 (leBytes 4 ma) := by
  simp only [antennaOpen, hjudged, hlow, hlong, decide_true, Bool.and_self, if_true]

theorem antennaNormal_of_between (hjudged : m.antennaJudged = true) (hlow : 3 ≤ ma) (hhigh : ma < 120) :
    antennaNormal ma m = m.antenna 0 0x0703 (leBytes 4 ma) := by
  simp only [antennaNormal, hjudged, hlow, hhigh, decide_true, Bool.and_self, if_true]

theorem antennaShort_of_limit (hjudged : m.antennaJudged = true) (hhigh : 120 ≤ ma) (hlong : m.gnss.antAt + 1000000 ≤ m.now) :
    antennaShort ma m = (m.antenna 2 0x0702 []).setGnss (fun g => { g with antOn := false, antAt := m.now }) := by
  simp only [antennaShort, hjudged, hhigh, hlong, decide_true, Bool.and_self, if_true]

theorem antennaRetry_of_short (hfitted : m.isG = true) (hstarted : m.gnss.started = true) (hvolts : m.rd P.gnssAntV ≠ 0)
    (hshort : m.gnss.ant = 2) (hoff : m.gnss.antOn = false) (hlong : m.gnss.antAt + 1000000000 ≤ m.now) :
    antennaRetry m = m.setGnss (fun g => { g with antOn := true, antAt := m.now }) := by
  have hvolts' : (decide (m.rd P.gnssAntV ≠ 0)) = true := decide_eq_true hvolts
  unfold antennaRetry
  rw [hfitted, hstarted, hvolts', hshort, hoff]
  simp only [hlong, decide_true, Bool.not_false, Bool.and_self, if_true]

/-! ### Sessions (R303) -/

/-- A session that is asked for. -/
def Mod.acqAsked (m : Mod) : Mod :=
  (m.setGnss (fun g => { g with acq := .asked, acqAt := m.now, owed := false })).ask .gnss 4 .logic m.now (m.rd P.tollPGnssAcq)

theorem Mod.acqAsk_of_due (hnone : m.gnss.acq = .none) (hdue : m.acqDue = true) : m.acqAsk = m.acqAsked := by
  unfold Mod.acqAsk
  rw [hnone, hdue]
  rfl

theorem Mod.acqDue_iff : m.acqDue = true ↔ ∀ e, m.gnss.acqEnd = some e → e + m.rd P.gnssAcqEveryS * 1000000000 ≤ m.now := by
  unfold Mod.acqDue
  cases m.gnss.acqEnd with
  | none => exact ⟨fun _ _ h => absurd h (Option.some_ne_none _).symm, fun _ => rfl⟩
  | some e =>
    rw [Option.all_some, decide_eq_true_eq]
    exact ⟨fun h e' he => Option.some.inj he ▸ h, fun h => h e rfl⟩

theorem gnssAcqRequest_of_due (hon : m.gnssOn = true) (hmode : m.sys.gnssMode = 1) (hnone : m.gnss.acq = .none) (hdue : m.acqDue = true) :
    gnssAcqRequest m = m.acqAsked.raise 97 0x0709 (leBytes 4 0) := by
  have hcond : (m.gnssOn && (m.sys.gnssMode = 1 || m.gnss.continuous ≠ 0 || m.gnss.owed)) = true := by simp [hon, hmode]
  unfold gnssAcqRequest
  rw [if_pos hcond, hnone, ← Mod.acqAsk_of_due hnone hdue]
  exact if_pos hdue

theorem gnssAcqEnd_of_over {all : Bool} (hactive : m.gnss.acq = .active)
    (hover : all = true ∨ m.gnss.acqAt + m.rd P.gnssAcqMaxMs * 1000000 ≤ m.now) : gnssAcqEnd all m =
      (m.setGnss (fun g => { g with acq := .none, acqEnd := some m.now })).endGrant .gnss := by
  have hcond : (m.gnss.acq = .active && (all || m.gnss.acqAt + m.rd P.gnssAcqMaxMs * 1000000 ≤ m.now)) = true := by
    rw [hactive, decide_eq_true rfl, Bool.true_and, Bool.or_eq_true, decide_eq_true_eq]
    exact hover
  unfold gnssAcqEnd
  rw [if_pos hcond, Mod.acqStop, hactive]

theorem Mod.Within.acqAsked (m : Mod) : Mod.Within [.gnss, .toll] ws m m.acqAsked :=
  (Mod.Within.setGnss m _ (by decide)).trans (.ask _ _ _ _ _ _ (by decide))

end

/-! ### Channels (R301 to R303) -/

/-- A command that changes one channel answers with it. -/
theorem channel_yields {k : Nat} {g : GCh → GCh} {y : GCh} (hexec : exec c s = s.run t f) (hk : k < s.m.gnss.ch.length)
    (hf : f (s.m.at t) = (s.m.at t).setGch k g) (hy : g (s.m.gnss.ch.getD k {}) = y) : s.Yields c fun m' =>
      m'.gnss = { s.m.gnss with ch := s.m.gnss.ch.set k y } ∧ Mod.Frame t [.gnss] [] s.m m' := by
  have hset : ((s.m.at t).setGch k g).gnss = { s.m.gnss with ch := s.m.gnss.ch.set k y } := by
    have hmodify : s.m.gnss.ch.modify k g = s.m.gnss.ch.set k y := by
      simp [List.modify_eq_set_getElem?, hk, ← hy]
    exact congrArg (fun l => { s.m.gnss with ch := l }) hmodify
  exact hset ▸ gnss_yields hexec hf (.setGch _ _ _ (by decide))

/-- A command that changes nothing leaves every channel. -/
theorem channel_yields_same {k : Nat} (hexec : exec c s = s.run t f) (hk : k < s.m.gnss.ch.length) (hf : f (s.m.at t) = s.m.at t) :
    s.Yields c fun m' =>
      m'.gnss = { s.m.gnss with ch := s.m.gnss.ch.set k (s.m.gnss.ch.getD k {}) } ∧ Mod.Frame t [.gnss] [] s.m m' := by
  have hset : s.m.gnss.ch.set k (s.m.gnss.ch.getD k {}) = s.m.gnss.ch := by
    rw [List.getD_eq_getElem _ _ hk, List.set_getElem_self]
  rw [hset]
  exact gnss_yields (x := s.m.at t) hexec hf (.refl _)

section
variable {m : Mod} {k : Nat}

theorem gnssSidePeak_of_side {ve p vl : Nat} (hcorr : m.correlating = true) (htrack : (m.gnss.ch.getD k {}).st = 2)
    (hboc : (m.gnss.ch.getD k {}).sig = 2 ∨ (m.gnss.ch.getD k {}).sig = 4) (hside : p < ve ∨ p < vl) : gnssSidePeak k ve p vl m =
      m.setGch k (fun g => { g with mp := (g.mp + 1) % 2 ^ 32, code := if ve < vl then g.code + 128 else g.code - 128 }) := by
  unfold gnssSidePeak
  dsimp only
  rw [hcorr, htrack, decide_eq_true rfl, if_pos]
  simp only [Bool.true_and, Bool.and_eq_true, Bool.or_eq_true, decide_eq_true_eq]
  exact ⟨hboc, hside⟩

theorem gnssSidePeak_of_prompt {ve p vl : Nat} (hve : ve ≤ p) (hvl : vl ≤ p) : gnssSidePeak k ve p vl m = m := by
  unfold gnssSidePeak
  rw [if_neg]
  simp [Nat.not_lt.2 hve, Nat.not_lt.2 hvl]

theorem gnssLostLock_of_tracking (hcorr : m.correlating = true) (htrack : (m.gnss.ch.getD k {}).st = 2) :
    gnssLostLock k m = m.setGch k (fun g => { g with st := 1, lostAt := some m.now }) := by
  simp only [gnssLostLock, hcorr, htrack, decide_true, Bool.and_self, if_true]

theorem gnssLockSearchEnd_of_long {u : Nat} (hsearch : (m.gnss.ch.getD k {}).st = 1) (hlost : (m.gnss.ch.getD k {}).lostAt = some u)
    (hlong : u + 10000000000 ≤ m.now) :
    gnssLockSearchEnd k m = m.setGch k (fun g => { g with st := 0, lostAt := none, cn0 := 0, res := 0 }) := by
  have hcond : ((m.gnss.ch.getD k {}).st = 1 && u + 10000000000 ≤ m.now) = true := by
    rw [hsearch, decide_eq_true rfl, Bool.true_and, decide_eq_true_eq]
    exact hlong
  unfold gnssLockSearchEnd
  rw [hlost]
  exact if_pos hcond

/-- A channel has been given to this signal of this satellite in this band. -/
def Mod.isOn (m : Mod) (sig : Nat) (low : Bool) (prn i : Nat) : Bool :=
  decide ((m.gnss.ch.getD i {}).st ≠ 0 ∧ (m.gnss.ch.getD i {}).sig = sig ∧ (m.gnss.ch.getD i {}).prn = prn
    ∧ (m.gnss.ch.getD i {}).low = lowerBand sig low)

/-- What a signal that is found does: the channel that has it tracks it again, or in a session a free one is given to it. -/
theorem gnssSignalTracked_eq {sig prn : Nat} {low : Bool} (el : Nat) (hcorr : m.correlating = true) (hsig : sig < 8) (hprn : prn < 256)
    (hon : (m.rd P.gnssSignals).testBit sig = true) : gnssSignalTracked sig low prn el m =
      match (List.range 64).find? (m.isOn sig low prn) with
      | some c => if m.narrowSearch (m.gnss.ch.getD c {}) || ((m.gnss.ch.getD c {}).st = 1 && m.gnss.acq = .active) then
          m.setGch c (fun g => { g with st := 2, lostAt := none, el := el % 65536 }) else m
      | none =>
        if m.gnss.acq = .active && m.rd P.gnssElevMask * 100 ≤ el then
          match m.freeChannel el with
          | some c => m.setGch c (fun _ => { sig := sig, prn := prn, low := lowerBand sig low, st := 2, el := el % 65536 })
          | none => m
        else m := by
  have hgoes : (!m.correlating || 8 ≤ sig || !(m.rd P.gnssSignals).testBit sig) = false := by simp [hcorr, hon, hsig]
  have hmine : (fun i => let g := m.gnss.ch.getD i {}; decide (g.st ≠ 0) && decide (g.sig = sig) && decide (g.prn = prn % 256)
      && decide (g.low = lowerBand sig low)) = m.isOn sig low prn := by
    funext i
    rw [Nat.mod_eq_of_lt hprn]
    simp only [Mod.isOn, Bool.decide_and, Bool.and_assoc]
  unfold gnssSignalTracked
  dsimp only
  rw [hgoes, ← hmine, Nat.mod_eq_of_lt hprn]
  rfl

end

section
variable {m : Mod} {sig prn el : Nat} {low : Bool}

theorem gnssSignalTracked_of_new {k : Nat} (hcorr : m.correlating = true) (hsig : sig < 8) (hprn : prn < 256)
    (hon : (m.rd P.gnssSignals).testBit sig = true) (hnew : (List.range 64).find? (m.isOn sig low prn) = none)
    (hactive : m.gnss.acq = .active) (hmask : m.rd P.gnssElevMask * 100 ≤ el) (hfree : m.freeChannel el = some k) :
    gnssSignalTracked sig low prn el m =
      m.setGch k (fun _ => { sig := sig, prn := prn, low := lowerBand sig low, st := 2, el := el % 65536 }) := by
  rw [gnssSignalTracked_eq el hcorr hsig hprn hon, hnew]
  simp only [hactive, hmask, decide_true, Bool.and_self, if_true, hfree]

theorem gnssSignalTracked_of_none (hcorr : m.correlating = true) (hsig : sig < 8) (hprn : prn < 256)
    (hon : (m.rd P.gnssSignals).testBit sig = true) (hnew : (List.range 64).find? (m.isOn sig low prn) = none)
    (hbarred : m.gnss.acq ≠ .active ∨ el < m.rd P.gnssElevMask * 100 ∨ m.freeChannel el = none) : gnssSignalTracked sig low prn el m = m := by
  rw [gnssSignalTracked_eq el hcorr hsig hprn hon, hnew]
  dsimp only
  split
  · next hcond =>
    rw [Bool.and_eq_true, decide_eq_true_eq, decide_eq_true_eq] at hcond
    have hnone : m.freeChannel el = none := (hbarred.resolve_left (not_not.2 hcond.1)).resolve_left (not_lt.2 hcond.2)
    rw [hnone]
  · rfl

theorem gnssSignalTracked_of_lost {k u : Nat} (hcorr : m.correlating = true) (hsig : sig < 8) (hprn : prn < 256)
    (hon : (m.rd P.gnssSignals).testBit sig = true) (hmine : (List.range 64).find? (m.isOn sig low prn) = some k)
    (hsearch : (m.gnss.ch.getD k {}).st = 1) (hlost : (m.gnss.ch.getD k {}).lostAt = some u)
    (htime : m.now < u + 10000000000 ∨ m.gnss.acq = .active ∨ m.gnss.burst ≠ none) :
    gnssSignalTracked sig low prn el m = m.setGch k (fun g => { g with st := 2, lostAt := none, el := el % 65536 }) := by
  have hcond : (m.narrowSearch (m.gnss.ch.getD k {}) || ((m.gnss.ch.getD k {}).st = 1 && m.gnss.acq = .active)) = true := by
    rw [Mod.narrowSearch, hsearch, hlost, decide_eq_true rfl, Bool.true_and, Bool.true_and, Option.any_some]
    simp only [Bool.or_eq_true, decide_eq_true_eq]
    rcases htime with h | h | h
    · exact .inl (.inr h)
    · exact .inr h
    · exact .inl (.inl (Option.isSome_iff_ne_none.2 h))
  rw [gnssSignalTracked_eq el hcorr hsig hprn hon, hmine]
  exact if_pos hcond

end

end

/-! ### The statement -/

/-- Settles O49: each command's conditions give its meaning, and its meaning the one field or channel that it changes. -/
theorem receiverAcquiresAndTracks : Obligations.ReceiverAcquiresAndTracks := by
  unfold Obligations.ReceiverAcquiresAndTracks
  intro s t hs now g
  refine ⟨fun ma hjudged => ⟨fun hother hlow hlong => ?opens, fun hhigh hlong => ?short, fun hother hlow hhigh => ?normal⟩,
    fun hfitted hstarted hvolts hshort hoff hlong => ?retry, fun hon hmode hnone hdue hfree => ?request, fun all hactive hover => ?ends,
    fun c hc => ⟨fun hcorr => ⟨fun htrack hboc ve p vl => ⟨fun hside => ?side, fun hve hvl => ?prompt⟩, fun htrack => ?lost,
      fun sig low prn hsig hprn hon => ⟨fun el hnew hactive hmask hfree => ?new, fun el hnew hbarred => ?barred,
        fun el u hmine hsearch hlost htime => ?found⟩⟩, fun u hsearch hlost hlong => ?gone⟩⟩
  case opens => exact antenna_yields rfl hs hother (antennaOpen_of_low (m := s.m.at t) hjudged hlow hlong)
  case normal => exact antenna_yields rfl hs hother (antennaNormal_of_between (m := s.m.at t) hjudged hlow hhigh)
  case short =>
    have hgnss : (((s.m.at t).antenna 2 0x0702 []).setGnss (fun g => { g with antOn := false, antAt := (s.m.at t).now })).gnss
        = { s.m.gnss with ant := 2, antOn := false, antAt := (s.m.at t).now } :=
      congrArg (fun g : GnssSt => { g with antOn := false, antAt := (s.m.at t).now }) (Mod.antenna_gnss _ _ _ _)
    exact hgnss ▸ gnss_yields (f := antennaShort ma) rfl (antennaShort_of_limit (m := s.m.at t) hjudged hhigh hlong)
      ((Mod.Within.antenna _ _ _ _).trans (.setGnss _ _ (by decide)))
  case retry =>
    exact gnss_yields (f := antennaRetry) rfl (antennaRetry_of_short (m := s.m.at t) hfitted hstarted hvolts hshort hoff hlong)
      (.setGnss _ _ (by decide))
  case request =>
    have hmean := gnssAcqRequest_of_due (m := s.m.at t) hon hmode hnone (Mod.acqDue_iff.2 hdue)
    have hwithin : Mod.Within [.gnss, .toll] [] (s.m.at t) (gnssAcqRequest (s.m.at t)) :=
      hmean ▸ (Mod.Within.acqAsked _).trans (.raise _ _ _ _)
    have htoll : (gnssAcqRequest (s.m.at t)).toll = _ :=
      (congrArg Mod.toll hmean).trans (Mod.ask_toll_of_not_asking (m := (s.m.at t).setGnss _) hfree _ _ _ _)
    refine State.yields_run (f := gnssAcqRequest) rfl ⟨?_, ⟨_, (Mod.run_toll _ _ _).trans htoll, rfl, rfl, rfl, rfl, rfl⟩, hwithin.frame⟩
    rw [Mod.run_gnss, hmean]
    exact Mod.ask_gnss _ _ _ _ _ _
  case ends =>
    have hmean := gnssAcqEnd_of_over (m := s.m.at t) hactive hover
    have hwithin : Mod.Within [.gnss, .toll] [] (s.m.at t) (gnssAcqEnd all (s.m.at t)) :=
      hmean ▸ (Mod.Within.setGnss _ _ (by decide)).trans (.endGrant _ _ (by decide))
    refine State.yields_run (f := gnssAcqEnd all) rfl ⟨?_, ?_, hwithin.frame⟩
    · rw [Mod.run_gnss, hmean]
      rfl
    · rw [Mod.run_toll, hmean]
      rfl
  case side => exact channel_yields rfl hc (gnssSidePeak_of_side (m := s.m.at t) hcorr htrack hboc hside) rfl
  case prompt => exact channel_yields_same (f := gnssSidePeak c ve p vl) rfl hc (gnssSidePeak_of_prompt hve hvl)
  case lost => exact channel_yields rfl hc (gnssLostLock_of_tracking (m := s.m.at t) hcorr htrack) rfl
  case new => exact channel_yields rfl hc (gnssSignalTracked_of_new (m := s.m.at t) hcorr hsig hprn hon hnew hactive hmask hfree) rfl
  case barred =>
    exact gnss_yields (f := gnssSignalTracked sig low prn el) (x := s.m.at t) rfl
      (gnssSignalTracked_of_none (m := s.m.at t) hcorr hsig hprn hon hnew hbarred) (.refl _)
  case found => exact channel_yields rfl hc (gnssSignalTracked_of_lost (m := s.m.at t) hcorr hsig hprn hon hmine hsearch hlost htime) rfl
  case gone => exact channel_yields rfl hc (gnssLockSearchEnd_of_long (m := s.m.at t) hsearch hlost hlong) rfl

end Sys2Proof.Machine
end

section
/-!
PROOFS. The statements of 14_timebase_ptp.md: the timebase. What the raw counter, ε, a slew, a set, a step and the end of a hold leave.
-/
namespace Sys2Proof.Machine

section
variable {as : List Area} {ws : List Nat} {s : State} {t : Nat} {c : Instr} {f : Mod → Mod} {m : Mod}

/-! ### Commands that change the timebase (chapter 14) -/

/-- A command answers with the timebase as its meaning leaves it. -/
theorem time_yields {x : Mod} (hexec : exec c s = s.run t f) (hf : f (s.m.at t) = x) (hx : Mod.Within as ws (s.m.at t) x) :
    s.Yields c fun m' => m'.time = x.time ∧ Mod.Frame t as ws s.m m' :=
  State.yields_frame hexec (hf.symm ▸ hx) ((Mod.run_time t f s.m).trans (congrArg Mod.time hf))

/-- An offset of the mapping changes one word. -/
theorem Mod.rd_setOfs {p : Param} {i j : Nat} (hp : p.addr i j ≠ P.timeMapSeq.addr) (o : Int) : (m.setOfs o).rd p i j = m.rd p i j :=
  Mod.rd_inc_other hp 1

theorem Mod.Within.setOfs (m : Mod) (o : Int) (htime : Area.time ∈ as) (hw : P.timeMapSeq.addr ∈ ws) : Mod.Within as ws m (m.setOfs o) :=
  (Mod.Within.ofTime m _ htime).trans (.inc _ _ _ _ _ hw)

/-- The module with the timebase changed. -/
def Mod.setTime (m : Mod) (g : TimeSt → TimeSt) : Mod := { m with time := g m.time }

theorem Mod.Within.setTime (m : Mod) (g : TimeSt → TimeSt) (htime : Area.time ∈ as) : Mod.Within as ws m (m.setTime g) := .ofTime m _ htime

/-- Neither an event nor a change of the timebase is a change of a word. -/
theorem Mod.rdI_raise (m : Mod) (a b : Nat) (d : List Byte) (p : Param) (i j : Nat) : (m.raise a b d).rdI p i j = m.rdI p i j := rfl

theorem Mod.rd_setTime (m : Mod) (g : TimeSt → TimeSt) (p : Param) (i j : Nat) : (m.setTime g).rd p i j = m.rd p i j := rfl

theorem Mod.rdI_setTime (m : Mod) (g : TimeSt → TimeSt) (p : Param) (i j : Nat) : (m.setTime g).rdI p i j = m.rdI p i j := rfl

/-! ### The raw counter (R323) -/

theorem Mod.raw_wrapped (n : Nat) : (n / 2 ^ 32 + 1) * 2 ^ 32 % 2 ^ 32 = 0 := Nat.mul_mod_left _ _

/-! ### ε and TIME_VALID (R326, R327) -/

theorem timeEpsUpdate_of_early (hearly : m.now < m.time.epsAt + 1000000) : timeEpsUpdate m = m := if_pos hearly

/-- TIME_VALID as an update finds it (R327). -/
def Mod.validNow (m : Mod) : Bool := m.time.isSet && m.time.st ≠ 0 && m.eps ≤ m.rd P.timeValidBound

/-- The timebase with ε and TIME_VALID updated. -/
def Mod.epsTaken (m : Mod) : TimeSt :=
  { m.time with epsAt := m.now, epsLog := ((m.now, m.eps) :: m.time.epsLog).take 64, valid := m.validNow,
                validOut := m.validNow && m.pulsesLive }

/-- An update of ε, whatever it says of TIME_VALID. -/
theorem timeEpsUpdate_of_due (hdue : m.time.epsAt + 1000000 ≤ m.now) :
    (timeEpsUpdate m).time = m.epsTaken ∧ (timeEpsUpdate m).rd P.timeEps = (m.wr P.timeEps m.eps).rd P.timeEps
      ∧ Mod.Within [.time] [P.timeEps.addr, P.timeFlags.addr] m (timeEpsUpdate m) := by
  unfold timeEpsUpdate
  rw [if_neg (Nat.not_lt.2 hdue)]
  extract_lets e ok old m1 old' m2
  have h1 : Mod.Within [.time] [P.timeEps.addr, P.timeFlags.addr] m m1 :=
    Mod.Within.trans (.setTime m (fun x => { x with epsAt := m.now, epsLog := ((m.now, e) :: x.epsLog).take 64,
                                                    validOut := ok && m.pulsesLive }) (by decide)) (.wr _ P.timeEps e 0 0 (by decide))
  split
  · next hsame =>
    refine ⟨?_, rfl, h1⟩
    simp only [m1, Mod.wr_time, Mod.epsTaken]
    rw [show m.validNow = m.time.valid from hsame, show ok = m.time.valid from hsame]
  · have h2 : Mod.Within [.time] [P.timeEps.addr, P.timeFlags.addr] m m2 :=
      h1.trans (.setTime _ (fun x => { x with valid := ok }) (by decide))
    split
    · exact ⟨rfl, rfl, h2.trans (.raise _ _ _ _)⟩
    · have hflag : Mod.Within [.time] [P.timeEps.addr, P.timeFlags.addr] m2 (m2.flag P.timeFlags 2) := .flag _ _ _ _ (by decide)
      refine ⟨rfl, ?_, (h2.trans hflag).trans (.raise _ _ _ _)⟩
      rw [Mod.rd_raise, Mod.rd_flag_other (by decide)]
      rfl

theorem Mod.eps_of_freeRun (hfree : m.time.st = 0) : m.eps = 0xFFFFFFFF := by
  simp only [Mod.eps, hfree]

/-- ε fits its word. -/
theorem Mod.eps_le (m : Mod) : m.eps ≤ 0xFFFFFFFF := by
  unfold Mod.eps Mod.epsLocked
  dsimp only
  split
  · exact le_refl _
  · exact Nat.min_le_left _ _
  · exact Nat.min_le_left _ _

theorem Mod.rd_wr_full {p : Param} (hwf : Store.wf m.regs = true) (hw : p.w = 32) {v : Nat} (hv : v < 2 ^ 32) (i j : Nat) :
    (m.wr p v i j).rd p i j = v := by
  rw [Mod.rd_wr hwf, hw, Nat.mod_mod, Nat.mod_eq_of_lt hv]

/-! ### Slews (R328) -/

theorem sext_toU {v : Int} (hlow : -2147483648 ≤ v) (hhigh : v ≤ 2147483647) : sext 32 (toU 32 v) = v := by
  unfold sext toU
  split <;> omega

theorem sext_bounds (v : Nat) : -2147483648 ≤ sext 32 v ∧ sext 32 v ≤ 2147483647 := by
  unfold sext
  split <;> omega

/-- A signed word of 32 bits that is written reads as it was written. -/
theorem Mod.rdI_wrI_full {p : Param} (hwf : Store.wf m.regs = true) (hw : p.w = 32) {v : Int} (hlow : -2147483648 ≤ v) (hhigh : v ≤ 2147483647)
    (i j : Nat) : (m.wrI p v i j).rdI p i j = v := by
  have hv : toU p.w v < 2 ^ 32 := by
    rw [hw]
    unfold toU
    omega
  unfold Mod.rdI Mod.wrI
  rw [Mod.rd_wr_full hwf hw hv, hw]
  exact sext_toU hlow hhigh

/-- What a slew's update counts: its rate times the time since the last, with what that left over. -/
def Mod.slewRun (m : Mod) : Nat := (m.now - m.time.slewAt) * m.slewRate + m.time.slewRem

/-- The slew with `left` to go, its update noted. -/
def Mod.slewTaken (m : Mod) (left : Int) : Mod :=
  (m.setTime (fun x => { x with slewAt := m.now, slewRem := m.slewRun % sec })).wrI P.timeSlewLeft left

theorem timeSlewUpdate_of_none {u : Nat} (hslew : m.time.slew = some u) (hnone : m.slewRun / sec = 0) (hleft : m.rdI P.timeSlewLeft ≠ 0) :
    timeSlewUpdate m = m := by
  have hzero : ((m.slewRun / sec : Nat) : Int) = 0 := by rw [hnone]; rfl
  unfold timeSlewUpdate
  rw [hslew]
  dsimp only
  rw [if_pos]
  rw [Bool.and_eq_true, decide_eq_true_eq, decide_eq_true_eq]
  exact ⟨hzero, hleft⟩

/-- What is left of a slew of which `n` has run. -/
def slewNext (left n : Int) : Int := if left.natAbs ≤ n.natAbs then 0 else if 0 < left then left - n else left + n

theorem timeSlewUpdate_of_run {u : Nat} (hslew : m.time.slew = some u)
    (hrun : ¬ (((m.slewRun / sec : Nat) : Int) = 0 ∧ m.rdI P.timeSlewLeft ≠ 0)) : timeSlewUpdate m =
      if slewNext (m.rdI P.timeSlewLeft) (m.slewRun / sec : Nat) = 0 then
        ((m.slewTaken (slewNext (m.rdI P.timeSlewLeft) (m.slewRun / sec : Nat))).setTime (fun x => { x with slew := none })).raise 104 0x0805
          (leBytes 4 ((m.now - u) / 1000000))
      else m.slewTaken (slewNext (m.rdI P.timeSlewLeft) (m.slewRun / sec : Nat)) := by
  unfold timeSlewUpdate
  rw [hslew]
  dsimp only
  rw [if_neg]
  · rfl
  · rw [Bool.and_eq_true, decide_eq_true_eq, decide_eq_true_eq]
    exact hrun

theorem timeSlewUpdate_of_last {u : Nat} (hslew : m.time.slew = some u)
    (hlast : (m.rdI P.timeSlewLeft).natAbs ≤ ((m.slewRun / sec : Nat) : Int).natAbs) : timeSlewUpdate m =
      ((m.slewTaken 0).setTime (fun x => { x with slew := none })).raise 104 0x0805 (leBytes 4 ((m.now - u) / 1000000)) := by
  have hnext : slewNext (m.rdI P.timeSlewLeft) (m.slewRun / sec : Nat) = 0 := if_pos hlast
  rw [timeSlewUpdate_of_run hslew (fun h => by omega), hnext, if_pos rfl]

theorem slewNext_of_part {left n : Int} (hn : 0 < n) (hlt : n < left.natAbs) :
    slewNext left n = if 0 < left then left - n else left + n := if_neg (by omega)

theorem slewNext_bounds {left n : Int} (hn : 0 < n) (hlt : n < left.natAbs) (h : -2147483648 ≤ left ∧ left ≤ 2147483647) :
    slewNext left n ≠ 0 ∧ -2147483648 ≤ slewNext left n ∧ slewNext left n ≤ 2147483647 := by
  rw [slewNext_of_part hn hlt]
  split <;> omega

theorem timeSlewUpdate_of_part {u : Nat} (hslew : m.time.slew = some u) (hpos : (0 : Int) < (m.slewRun / sec : Nat))
    (hpart : ((m.slewRun / sec : Nat) : Int) < (m.rdI P.timeSlewLeft).natAbs) :
    timeSlewUpdate m = m.slewTaken (slewNext (m.rdI P.timeSlewLeft) (m.slewRun / sec : Nat)) := by
  rw [timeSlewUpdate_of_run hslew (fun h => absurd h.1 (ne_of_gt hpos)), if_neg (slewNext_bounds hpos hpart (sext_bounds _)).1]

theorem Mod.slewTaken_time (m : Mod) (left : Int) :
    (m.slewTaken left).time = { m.time with slewAt := m.now, slewRem := m.slewRun % sec } := rfl

theorem Mod.slewTaken_rdI (hwf : Store.wf m.regs = true) {left : Int} (hlow : -2147483648 ≤ left) (hhigh : left ≤ 2147483647) :
    (m.slewTaken left).rdI P.timeSlewLeft = left := Mod.rdI_wrI_full (p := P.timeSlewLeft) (m := m.setTime _) hwf rfl hlow hhigh 0 0

theorem Mod.run_rdI_other (t : Nat) (f : Mod → Mod) (m : Mod) {p : Param} {i j : Nat} (hp : p.addr i j ≠ P.loopFlags.addr) :
    (Mod.run t f m).rdI p i j = (f (m.at t)).rdI p i j := congrArg (sext p.w) (Mod.run_rd_other t f m hp)

theorem Mod.Within.slewTaken (m : Mod) (left : Int) : Mod.Within [.time] [P.timeSlewLeft.addr] m (m.slewTaken left) :=
  (Mod.Within.setTime m _ (by decide)).trans (.wrI _ _ _ _ _ (by decide))

/-! ### Sets, steps and holds (R329 to R331) -/

/-- Where no time output is armed, no instant was skipped. -/
theorem Mod.outSkip_of_unarmed (hunarmed : ∀ o ∈ m.time.outs, o.armed = false) : m.outSkip = m := by
  have hout : ∀ n, (m.time.outs.getD n {}).armed = false := fun n => by
    rw [List.getD_eq_getElem?_getD]
    cases hn : m.time.outs[n]? with
    | none => rfl
    | some o => exact hunarmed o (List.mem_of_getElem? hn)
  have hfold : ∀ l : List Nat, l.foldl (fun m n =>
      let o := m.time.outs.getD n {}
      let cfg := m.rd P.timeOutCfg n
      if o.armed && cfg.testBit 3 && o.next ≤ m.reported then
        if field cfg 2 1 = 1 then m.outLate n
        else m.setOut n (fun o => { o with next := nextPeriod o.next (m.rd P.timeOutPeriod n) m.reported })
      else m) m = m := fun l => by
    induction l with
    | nil => rfl
    | cons n l ih =>
      rw [List.foldl_cons]
      simp only [hout n, Bool.false_and, Bool.false_eq_true, if_false]
      exact ih
  exact hfold _

/-- The timebase as it is first set, with the whole second that its source has reached. -/
def Mod.timeFirst (m : Mod) (src : Nat) (ofs : Int) : TimeSt :=
  { m.time with isSet := true, toSet := none, st := 1, src := src, gained := false, lastDisc := m.now, epsL := 3 * m.time.sigma,
                ofs := ((m.now : Int) + ofs).fdiv 1000000000 * 1000000000 - (m.now : Int) }

theorem timeSet_of_whole {src : Nat} {ofs : Int} (hto : m.time.toSet = some (src, ofs)) (hunset : m.time.isSet = false)
    (hwhole : ((m.now : Int) + ofs) % 1000000000 < 4) (hunarmed : ∀ o ∈ m.time.outs, o.armed = false) :
    ∃ d, timeSet m = (Mod.flag (Mod.inc { m with time := m.timeFirst src ofs } P.timeMapSeq) P.timeFlags 32).raise 104 0x0801 d := by
  have hgoes : (m.time.isSet || 4 ≤ ((m.now : Int) + ofs) % 1000000000) = false := by
    rw [hunset, Bool.false_or, decide_eq_false_iff_not]
    exact not_le.2 hwhole
  unfold timeSet
  rw [hto]
  dsimp only
  rw [hgoes, if_neg Bool.false_ne_true]
  exact ⟨_, Mod.outSkip_of_unarmed hunarmed⟩

theorem timeStep_of_forward {d : Int} (hstep : m.time.step = some d) (hlocked : m.time.st = 1) (hsec : m.atSecond = true) (hd : 0 < d)
    (hunarmed : ∀ o ∈ m.time.outs, o.armed = false) : ∃ b, timeStep m =
      (Mod.setOfs (((m.setTime (fun x => { x with step := none, gained := false })).inc P.timeSteps).flag P.timeFlags 16) (m.time.ofs + d)).raise
        104 0x0802 b := by
  have hgoes : (decide (m.time.st ≠ 1) || !m.atSecond) = false := by rw [hlocked, hsec]; rfl
  unfold timeStep
  rw [hstep]
  dsimp only
  rw [hgoes, if_neg Bool.false_ne_true, if_pos hd]
  exact ⟨_, Mod.outSkip_of_unarmed hunarmed⟩

/-- The hold of a backward step begins (R330): its steps of 4 ns cover what is taken back. -/
def Mod.holdOf (m : Mod) (d : Int) : Hold :=
  { s := m.reported / sec * sec, until_ := m.now + (d.natAbs + 3) / 4 * 4, amount := d.natAbs }

theorem timeStep_of_backward {d : Int} (hstep : m.time.step = some d) (hlocked : m.time.st = 1) (hsec : m.atSecond = true) (hd : d ≤ 0) :
    ∃ b, timeStep m = ((((((m.setTime (fun x => { x with step := none, gained := false })).inc P.timeSteps).flag P.timeFlags 16).setTime
      (fun x => { x with st := 3, hold := some (m.holdOf d) })).flag P.timeFlags 8).raise 104 0x0803 b) := by
  have hgoes : (decide (m.time.st ≠ 1) || !m.atSecond) = false := by rw [hlocked, hsec]; rfl
  unfold timeStep
  rw [hstep]
  dsimp only
  rw [hgoes, if_neg Bool.false_ne_true, if_neg (not_lt.2 hd)]
  exact ⟨_, rfl⟩

theorem timeHoldEnd_of_over {h : Hold} (hhold : m.time.hold = some h) (hover : h.until_ ≤ m.now) : timeHoldEnd m =
    (m.setTime (fun x => { x with hold := none, st := if x.src = 0 then 2 else 1 })).setOfs (m.time.ofs - (h.amount : Int)) := by
  unfold timeHoldEnd
  rw [hhold]
  exact if_pos hover

end

/-! ### The statement -/

section
variable {s : State} {t : Nat}

/-- A count that a command raises, of whatever it changes besides. -/
theorem count_of_run {f : Mod → Mod} {p : Param} {x : Mod} (hwf : Store.wf x.regs = true) (hw : p.w = 32) (hp : p.addr ≠ P.loopFlags.addr)
    (hf : (f (s.m.at t)).rd p = (x.inc p).rd p) (hx : x.rd p = s.m.rd p) : (Mod.run t f s.m).rd p = (s.m.rd p + 1) % 2 ^ 32 := by
  rw [Mod.run_rd_other t f s.m hp, hf, Mod.rd_inc_full hwf hw, hx]

/-- A slew that has run out, and one that goes on. -/
theorem timeSlew_last_yields {u : Nat} (hs : s.Canonical) (hslew : s.m.time.slew = some u)
    (hlast : (s.m.rdI P.timeSlewLeft).natAbs ≤ (((s.m.at t).slewRun / sec : Nat) : Int).natAbs) :
    s.Yields (.timeSlewUpdate t) fun m' => m'.rdI P.timeSlewLeft = 0
      ∧ m'.time = { s.m.time with slew := none, slewAt := (s.m.at t).now, slewRem := (s.m.at t).slewRun % sec }
      ∧ Mod.Frame t [.time] [P.timeSlewLeft.addr] s.m m' := by
  have hmean := timeSlewUpdate_of_last (m := s.m.at t) hslew hlast
  have hwithin : Mod.Within [.time] [P.timeSlewLeft.addr] (s.m.at t) (timeSlewUpdate (s.m.at t)) :=
    hmean ▸ ((Mod.Within.slewTaken _ _).trans (.setTime _ _ (by decide))).trans (.raise _ _ _ _)
  refine State.yields_run (f := timeSlewUpdate) rfl ⟨?_, ?_, hwithin.frame⟩
  · rw [Mod.run_rdI_other t _ s.m (by decide), hmean, Mod.rdI_raise, Mod.rdI_setTime]
    exact Mod.slewTaken_rdI (m := s.m.at t) hs (by decide) (by decide)
  · rw [Mod.run_time, hmean, Mod.raise_time, Mod.setTime, Mod.slewTaken_time, Mod.at_time]

theorem timeSlew_part_yields {u : Nat} (hs : s.Canonical) (hslew : s.m.time.slew = some u)
    (hpos : (0 : Int) < ((s.m.at t).slewRun / sec : Nat))
    (hpart : (((s.m.at t).slewRun / sec : Nat) : Int) < (s.m.rdI P.timeSlewLeft).natAbs) :
    s.Yields (.timeSlewUpdate t) fun m' =>
      m'.rdI P.timeSlewLeft = slewNext (s.m.rdI P.timeSlewLeft) ((s.m.at t).slewRun / sec : Nat)
      ∧ m'.time = { s.m.time with slewAt := (s.m.at t).now, slewRem := (s.m.at t).slewRun % sec }
      ∧ Mod.Frame t [.time] [P.timeSlewLeft.addr] s.m m' := by
  have hmean := timeSlewUpdate_of_part (m := s.m.at t) hslew hpos hpart
  obtain ⟨-, hlow, hhigh⟩ := slewNext_bounds hpos hpart (sext_bounds (s.m.rd P.timeSlewLeft))
  have hwithin : Mod.Within [.time] [P.timeSlewLeft.addr] (s.m.at t) (timeSlewUpdate (s.m.at t)) := hmean ▸ .slewTaken _ _
  refine State.yields_run (f := timeSlewUpdate) rfl ⟨?_, ?_, hwithin.frame⟩
  · rw [Mod.run_rdI_other t _ s.m (by decide), hmean]
    exact Mod.slewTaken_rdI (m := s.m.at t) hs hlow hhigh
  · rw [Mod.run_time, hmean, Mod.slewTaken_time, Mod.at_time]

end

/-- Settles O52: each event of the timebase by what its meaning leaves of the state and of the words that show it. -/
theorem timebaseFollowsEvents : Obligations.TimebaseFollowsEvents := by
  unfold Obligations.TimebaseFollowsEvents
  intro s t hs hraised now x
  refine ⟨?wrap, fun hearly => ?early, fun hdue => ?due, fun u hslew => ⟨fun hlast => ?last, fun hpos hpart => ?part,
    fun hnone hleft => ?stands⟩, fun src ofs hto hunset hwhole hunarmed => ?set,
    fun d hstep hlocked hsec => ⟨fun hd hunarmed => ?forward, fun hd => ?backward⟩, fun h hhold hover => ?holdEnd⟩
  case wrap =>
    exact State.yields_calm (f := rawCounterWrap) rfl hraised hs ⟨rfl, Mod.raw_wrapped _⟩
  case early => exact time_yields (f := timeEpsUpdate) (x := s.m.at t) rfl (timeEpsUpdate_of_early (m := s.m.at t) hearly) (.refl _)
  case due =>
    obtain ⟨htime, heps, hwithin⟩ := timeEpsUpdate_of_due (m := s.m.at t) hdue
    refine State.yields_run (f := timeEpsUpdate) rfl ⟨?_, Mod.eps_of_freeRun (m := s.m.at t), (Mod.run_time _ _ _).trans htime, hwithin.frame⟩
    rw [Mod.run_rd_other t _ s.m (by decide), heps]
    exact Mod.rd_wr_full hs rfl (Nat.lt_succ_of_le (Mod.eps_le _)) 0 0
  case last => exact timeSlew_last_yields hs hslew hlast
  case part =>
    rw [← slewNext_of_part hpos hpart]
    exact timeSlew_part_yields hs hslew hpos hpart
  case stands =>
    exact time_yields (f := timeSlewUpdate) (x := s.m.at t) rfl
      (timeSlewUpdate_of_none (m := s.m.at t) hslew (Int.natCast_eq_zero.1 hnone) hleft) (.refl _)
  case set =>
    obtain ⟨b, hmean⟩ := timeSet_of_whole (m := s.m.at t) hto hunset hwhole hunarmed
    have hwithin : Mod.Within [.time] [P.timeMapSeq.addr, P.timeFlags.addr] (s.m.at t) (timeSet (s.m.at t)) :=
      hmean ▸ (((Mod.Within.ofTime _ _ (by decide)).trans (.inc _ _ _ _ _ (by decide))).trans (.flag _ _ _ _ (by decide))).trans (.raise _ _ _ _)
    refine State.yields_run (f := timeSet) rfl ⟨?_, ?_, hwithin.frame⟩
    · rw [Mod.run_time, hmean, Mod.raise_time, Mod.flag_time, Mod.inc_time]
      rfl
    · refine count_of_run (x := s.m.at t) hs rfl (by decide) ?_ rfl
      rw [hmean, Mod.rd_raise, Mod.rd_flag_other (by decide)]
      exact Mod.rd_congr rfl _ _ _
  case forward =>
    obtain ⟨b, hmean⟩ := timeStep_of_forward (m := s.m.at t) hstep hlocked hsec hd hunarmed
    have hwithin : Mod.Within [.time] [P.timeSteps.addr, P.timeMapSeq.addr, P.timeFlags.addr] (s.m.at t) (timeStep (s.m.at t)) :=
      hmean ▸ ((((Mod.Within.setTime _ _ (by decide)).trans (.inc _ _ _ _ _ (by decide))).trans (.flag _ _ _ _ (by decide))).trans
        (.setOfs _ _ (by decide) (by decide))).trans (.raise _ _ _ _)
    refine State.yields_run (f := timeStep) rfl ⟨?_, ?_, ?_, hwithin.frame⟩
    · rw [Mod.run_time, hmean]
      rfl
    · refine count_of_run (x := s.m.at t) hs rfl (by decide) ?_ rfl
      rw [hmean, Mod.rd_raise, Mod.rd_setOfs (by decide), Mod.rd_flag_other (by decide)]
      exact Mod.rd_congr rfl _ _ _
    · refine count_of_run (x := ((s.m.at t).inc P.timeSteps).flag P.timeFlags 16) ?_ rfl (by decide) ?_ ?_
      · exact Mod.flag_wf (Mod.inc_wf hs _ _ _ _) _ _ _
      · rw [hmean, Mod.rd_raise]
        exact Mod.rd_congr rfl _ _ _
      · rw [Mod.rd_flag_other (by decide), Mod.rd_inc_other (by decide)]
        rfl
  case backward =>
    obtain ⟨b, hmean⟩ := timeStep_of_backward (m := s.m.at t) hstep hlocked hsec hd
    have hwithin : Mod.Within [.time] [P.timeSteps.addr, P.timeFlags.addr] (s.m.at t) (timeStep (s.m.at t)) :=
      hmean ▸ (((((Mod.Within.setTime _ _ (by decide)).trans (.inc _ _ _ _ _ (by decide))).trans (.flag _ _ _ _ (by decide))).trans
        (.setTime _ _ (by decide))).trans (.flag _ _ _ _ (by decide))).trans (.raise _ _ _ _)
    have htime := (Mod.run_time t timeStep s.m).trans (congrArg Mod.time hmean)
    refine State.yields_run (f := timeStep) rfl ⟨(congrArg TimeSt.st htime).trans rfl,
      (congrArg TimeSt.ofs htime).trans rfl, (congrArg TimeSt.step htime).trans rfl,
      ⟨(s.m.at t).holdOf d, (congrArg TimeSt.hold htime).trans rfl, rfl, rfl, ?_, ?_⟩, ?_, hwithin.frame⟩
    · simp only [Mod.holdOf]
      omega
    · simp only [Mod.holdOf]
      omega
    · refine count_of_run (x := s.m.at t) hs rfl (by decide) ?_ rfl
      rw [hmean, Mod.rd_raise, Mod.rd_flag_other (by decide), Mod.rd_setTime, Mod.rd_flag_other (by decide)]
      exact Mod.rd_congr rfl _ _ _
  case holdEnd =>
    have hmean := timeHoldEnd_of_over (m := s.m.at t) hhold hover
    have hwithin : Mod.Within [.time] [P.timeMapSeq.addr] (s.m.at t) (timeHoldEnd (s.m.at t)) :=
      hmean ▸ (Mod.Within.setTime _ _ (by decide)).trans (.setOfs _ _ (by decide) (by decide))
    refine State.yields_run (f := timeHoldEnd) rfl ⟨?_, ?_, hwithin.frame⟩
    · rw [Mod.run_time, hmean]
      rfl
    · exact count_of_run (x := s.m.at t) hs rfl (by decide) (by rw [hmean]; rfl) rfl

end Sys2Proof.Machine
end

section
/-!
PROOFS. The statements of 14_timebase_ptp.md: PPS, the time outputs and the captures.
-/
namespace Sys2Proof.Machine

section
variable {as : List Area} {ws : List Nat} {s : State} {t n : Nat} {c : Instr} {f : Mod → Mod} {m : Mod}

/-! ### PPS (R337, R338) -/

/-- PPS may rise at this instant: at a second boundary that it has not met, in a state in which pulses leave the module. -/
structure Mod.PpsMeets (m : Mod) : Prop where
  live : m.pulsesLive = true
  shown : m.time.st ≠ 0 ∨ m.rd P.timePpsFree ≠ 0
  boundary : m.atSecond = true
  first : m.time.ppsSec ≠ some (m.reported / sec)

/-- PPS has met this second boundary. -/
def Mod.ppsMet (m : Mod) : Mod := m.setTime (fun x => { x with ppsSec := some (m.reported / sec) })

/-- The last rise was less than 999 ms ago. -/
def Mod.ppsClose (m : Mod) : Bool :=
  match m.time.ppsLast with
  | some l => m.now < l + 999000000
  | none => false

theorem ppsEdge_of_meets (h : m.PpsMeets) : ppsEdge m =
    if m.ppsClose then ((m.ppsMet.inc P.timePpsOmitted).flag P.timeFlags 1).raise 108 0x080A (leBytes 1 4 ++ leBytes 4 m.raw)
    else m.ppsMet.setTime (fun x => { x with pps := true, ppsLast := some m.now }) := by
  obtain ⟨hlive, hshown, hboundary, hfirst⟩ := h
  have hgoes : (!m.pulsesLive || (m.time.st = 0 && m.rd P.timePpsFree = 0) || !m.atSecond || m.time.ppsSec = some (m.reported / sec))
      = false := by
    rw [hlive, hboundary, decide_eq_false hfirst, Bool.not_true, Bool.or_false, Bool.or_false, Bool.false_or, ← Bool.decide_and,
      decide_eq_false_iff_not]
    exact fun hboth => hshown.elim (fun h => h hboth.1) (fun h => h hboth.2)
  unfold ppsEdge
  rw [hgoes, if_neg Bool.false_ne_true]
  rfl

theorem ppsEdge_of_apart (h : m.PpsMeets) (hapart : ∀ l, m.time.ppsLast = some l → l + 999000000 ≤ m.now) :
    ppsEdge m = m.ppsMet.setTime (fun x => { x with pps := true, ppsLast := some m.now }) := by
  have hclose : ¬ m.ppsClose = true := by
    unfold Mod.ppsClose
    split
    · next l hl =>
      rw [decide_eq_true_eq]
      exact not_lt.2 (hapart l hl)
    · exact Bool.false_ne_true
  rw [ppsEdge_of_meets h, if_neg hclose]

theorem ppsEdge_of_close {l : Nat} (h : m.PpsMeets) (hl : m.time.ppsLast = some l) (hclose : m.now < l + 999000000) :
    ppsEdge m = ((m.ppsMet.inc P.timePpsOmitted).flag P.timeFlags 1).raise 108 0x080A (leBytes 1 4 ++ leBytes 4 m.raw) := by
  have hclose' : m.ppsClose = true := by
    unfold Mod.ppsClose
    rw [hl]
    exact decide_eq_true hclose
  rw [ppsEdge_of_meets h, if_pos hclose']

theorem ppsPulseEnd_of_over {l : Nat} (hl : m.time.ppsLast = some l) (hover : l + m.rd P.timePpsWidth * 1000000 ≤ m.now) :
    ppsPulseEnd m = m.setTime (fun x => { x with pps := false }) := by
  unfold ppsPulseEnd
  rw [hl]
  exact if_pos hover

/-! ### Time outputs (R338, R339) -/

theorem Mod.Within.setOut (m : Mod) (k : Nat) (g : TimeOut → TimeOut) (htime : Area.time ∈ as) : Mod.Within as ws m (m.setOut k g) :=
  .ofTime m _ htime

/-- An output changed is the list of outputs with it set. -/
theorem Mod.setOut_time (hlen : n < m.time.outs.length) (g : TimeOut → TimeOut) :
    (m.setOut n g).time = { m.time with outs := m.time.outs.set n (g (m.time.outs.getD n {})) } := by
  have hmodify : m.time.outs.modify n g = m.time.outs.set n (g (m.time.outs.getD n {})) := by simp [List.modify_eq_set_getElem?, hlen]
  exact congrArg (fun l => { m.time with outs := l }) hmodify

/-- A command that changes one output answers with it. -/
theorem out_yields {g : TimeOut → TimeOut} {x : Mod} (hexec : exec c s = s.run t f) (hlen : n < s.m.time.outs.length)
    (hf : f (s.m.at t) = x.setOut n g) (htime : x.time = s.m.time) (hx : Mod.Within as ws (s.m.at t) x) (hin : Area.time ∈ as) :
    s.Yields c fun m' => m'.time = { s.m.time with outs := s.m.time.outs.set n (g (s.m.time.outs.getD n {})) }
      ∧ Mod.Frame t as ws s.m m' := by
  have houts := Mod.setOut_time (m := x) (n := n) (htime ▸ hlen) g
  rw [htime] at houts
  exact houts ▸ time_yields hexec hf (hx.trans (.setOut _ _ _ hin))

/-- The write of the high word of an output's instant. -/
theorem writeCheck_timeOutAtHi (m : Mod) (role : Nat) (hn : n < 4) (v : Word) :
    m.writeCheck role (P.timeOutAtHi.addr n) v = .ok (P.timeOutAtHi, n, 0) := by
  have hat : ∀ n < 4, paramAt (P.timeOutAtHi.addr n) = some (P.timeOutAtHi, n, 0) := by decide +kernel
  have hplace : ∀ n < 4, P.timeOutAtHi.addr n % 4 = 0 ∧ P.timeOutAtHi.addr n < 0x20000000 ∧ P.timeOutAtHi.addr n / 0x1000000 = 13 := by
    decide +kernel
  obtain ⟨halign, hlow, hblock⟩ := hplace n hn
  unfold Mod.writeCheck
  simp only [hat n hn, halign, hblock, Nat.not_le.2 hlow]
  have hbits : P.timeOutAtHi.bitsOk n v = true := by
    have hv : v.toNat < 2 ^ 32 := v.isLt
    have hmask : v.toNat &&& 0xFFFFFFFF = v.toNat := by
      rw [show (0xFFFFFFFF : Nat) = 2 ^ 32 - 1 from rfl, Nat.and_two_pow_sub_one_eq_mod, Nat.mod_eq_of_lt hv]
    exact decide_eq_true hmask
  simp only [hbits]
  rfl

/-- An output that is armed for an instant more than 2 µs ahead. -/
theorem timeOutArm_of_ahead (hn : n < 4) {v : Nat} (hv : v < 2 ^ 32) (hmode : field (m.rd P.timeOutCfg n) 2 1 ≠ 0)
    (hahead : m.outNow n + 2000 < v * 2 ^ 32 + m.rd P.timeOutAtLo n) : timeOutArm n v m =
      (m.wr P.timeOutAtHi v n).setOut n (fun o => { o with armed := true, next := v * 2 ^ 32 + m.rd P.timeOutAtLo n }) := by
  have hlate : (v * 2 ^ 32 + m.rd P.timeOutAtLo n ≤ m.outNow n + 2000 && m.pulsesLive) = false := by
    rw [decide_eq_false (not_le.2 hahead), Bool.false_and]
  unfold timeOutArm
  rw [if_pos hn, Nat.mod_eq_of_lt hv]
  dsimp only
  rw [if_neg hmode, hlate, if_neg Bool.false_ne_true]

/-- The write of an output's instant: the word is stored, and the output armed. -/
theorem cmdWrite_timeOutAtHi (hrun : m.running = true) (role : Nat) (hn : n < 4) (v : Word) :
    cmdWrite P.timeOutAtHi n role [] v m = timeOutArm n v.toNat (m.setWord (P.timeOutAtHi.addr n) v) := by
  rw [cmdWrite, if_pos (by exact hn)]
  exact writeNow_of_cmd [] hrun (writeCheck_timeOutAtHi m role hn v) rfl (by decide)

/-- An output whose instant has come fires, unless it is periodic on the reported base. -/
theorem timeOutEdge_of_due (hn : n < 4) (harmed : (m.time.outs.getD n {}).armed = true) (hlive : m.pulsesLive = true)
    (hdue : (m.time.outs.getD n {}).next ≤ m.outNow n)
    (hbase : ((m.rd P.timeOutCfg n).testBit 3 && field (m.rd P.timeOutCfg n) 2 1 = 2) = false) : timeOutEdge n m = m.outFire n := by
  have hcond : (n < 4 && (m.time.outs.getD n {}).armed && m.pulsesLive && (m.time.outs.getD n {}).next ≤ m.outNow n) = true := by
    rw [decide_eq_true hn, harmed, hlive, decide_eq_true hdue]
    rfl
  unfold timeOutEdge
  dsimp only
  rw [if_pos hcond, hbase]
  cases (m.time.outs.getD n {}).lastEdge with
  | none => rfl
  | some l =>
    dsimp only
    simp only [Bool.false_and, Bool.false_eq_true, if_false]

/-- The one pulse of a one-shot; a periodic output on the raw base takes its next instant. -/
theorem Mod.outFire_once (hone : field (m.rd P.timeOutCfg n) 2 1 = 1) :
    m.outFire n = m.setOut n (fun o => { o with level := true, lastEdge := some m.now, armed := false }) := by
  unfold Mod.outFire
  rw [hone]
  rfl

theorem Mod.outFire_periodic (hperiodic : field (m.rd P.timeOutCfg n) 2 1 = 2) :
    m.outFire n = m.setOut n (fun o => { o with level := true, lastEdge := some m.now, armed := true,
                                                next := nextPeriod o.next (m.rd P.timeOutPeriod n) (Nat.max (m.outNow n) o.next) }) := by
  unfold Mod.outFire
  rw [hperiodic]
  rfl

theorem timeOutPulseEnd_of_over {l : Nat} (hl : (m.time.outs.getD n {}).lastEdge = some l) (hover : l + m.rd P.timeOutWidth n ≤ m.now) :
    timeOutPulseEnd n m = m.setOut n (fun o => { o with level := false }) := by
  unfold timeOutPulseEnd
  rw [hl]
  exact if_pos hover

/-! ### Captures (R340) -/

/-- An edge that a capture input takes, noted as its last. -/
def Mod.capNoted (m : Mod) (n : Nat) : Mod := m.setTime (fun x => { x with capLast := x.capLast.set n (some m.now) })

/-- The number of a capture, and the capture in its ring. -/
def Mod.capSeq (m : Mod) (n : Nat) : Nat := (m.rd P.timeCapSeq n + 1) % 2 ^ 32
def Mod.captured (m : Mod) (n : Nat) (rising : Bool) : Mod :=
  (((m.capNoted n).wr P.timeCapSeq (m.capSeq n) n).wr P.timeCapRing m.raw n (m.capSeq n % 16)).wr P.timeCapEdges
    (setField (m.rd P.timeCapEdges n) (m.capSeq n % 16) (m.capSeq n % 16) (bit rising)) n

theorem testBit_field_low {x i : Nat} (hi : i < 2) : (field x 1 0).testBit i = x.testBit i := by
  unfold field
  rw [pow_zero, Nat.div_one]
  exact (Nat.testBit_mod_two_pow x 2 i).trans (by rw [decide_eq_true hi, Bool.true_and])

theorem captureEdge_eq (hn : n < 4) {rising : Bool} (htakes : (m.rd P.timeCapCfg n).testBit (if rising then 0 else 1) = true) :
    captureEdge n rising m = if (match m.time.capLast.getD n none with
        | some l => decide (m.now < l + 40)
        | none => false) = true then (m.capNoted n).inc P.timeCapLost n else m.captured n rising := by
  have hcond : (n < 4 && (if rising then (field (m.rd P.timeCapCfg n) 1 0).testBit 0 else (field (m.rd P.timeCapCfg n) 1 0).testBit 1)) = true := by
    rw [testBit_field_low (by decide), testBit_field_low (by decide), decide_eq_true hn, Bool.true_and]
    cases rising <;> exact htakes
  unfold captureEdge
  dsimp only
  rw [if_pos hcond]
  rfl

theorem captureEdge_of_apart (hn : n < 4) {rising : Bool} (htakes : (m.rd P.timeCapCfg n).testBit (if rising then 0 else 1) = true)
    (hapart : ∀ l, m.time.capLast.getD n none = some l → l + 40 ≤ m.now) : captureEdge n rising m = m.captured n rising := by
  rw [captureEdge_eq hn htakes, if_neg]
  split
  · next l hl =>
    rw [decide_eq_true_eq]
    exact not_lt.2 (hapart l hl)
  · exact Bool.false_ne_true

theorem captureEdge_of_close (hn : n < 4) {rising : Bool} (htakes : (m.rd P.timeCapCfg n).testBit (if rising then 0 else 1) = true) {l : Nat}
    (hl : m.time.capLast.getD n none = some l) (hclose : m.now < l + 40) : captureEdge n rising m = (m.capNoted n).inc P.timeCapLost n := by
  rw [captureEdge_eq hn htakes, hl]
  exact if_pos (decide_eq_true hclose)

/-- A bit that a field of one bit sets. -/
theorem testBit_setField (w q : Nat) (b : Bool) : (setField w q q (bit b)).testBit q = b := by
  have hpos : 0 < 2 ^ q := Nat.two_pow_pos q
  have hone : q + 1 - q = 1 := by omega
  have hsplit : w = 2 ^ q * (w / 2 ^ q) + w % 2 ^ q := (Nat.div_add_mod w (2 ^ q)).symm
  have hle : w / 2 ^ q % 2 ≤ w / 2 ^ q := Nat.mod_le _ _
  have hfield : setField w q q (bit b) / 2 ^ q = w / 2 ^ q - w / 2 ^ q % 2 + bit b % 2 := by
    have hrest : w - w / 2 ^ q % 2 * 2 ^ q = 2 ^ q * (w / 2 ^ q - w / 2 ^ q % 2) + w % 2 ^ q := by
      rw [Nat.mul_sub, Nat.mul_comm _ (2 ^ q)]
      have := Nat.mul_le_mul_left (2 ^ q) hle
      omega
    rw [setField, field, hone, pow_one, hrest, Nat.mul_comm (bit b % 2), Nat.add_right_comm, ← Nat.mul_add,
      Nat.mul_add_div hpos, Nat.div_eq_of_lt (Nat.mod_lt _ hpos), Nat.add_zero]
  rw [Nat.testBit_eq_decide_div_mod_eq, hfield]
  cases b <;> simp [bit] <;> omega

section
variable {k : Nat}

theorem timeCapRing_ne (hn : n < 4) (hk : k < 16) : P.timeCapSeq.addr n ≠ P.timeCapRing.addr n k ∧ P.timeCapEdges.addr n ≠ P.timeCapRing.addr n k
    ∧ P.timeCapRing.addr n k ≠ P.loopFlags.addr := by
  simp [Param.addr, P.timeCapSeq, P.timeCapRing, P.timeCapEdges, P.loopFlags]
  omega

theorem timeCap_ne (n : Nat) : P.timeCapSeq.addr n ≠ P.timeCapEdges.addr n ∧ P.timeCapSeq.addr n ≠ P.loopFlags.addr
    ∧ P.timeCapEdges.addr n ≠ P.loopFlags.addr ∧ P.timeCapLost.addr n ≠ P.loopFlags.addr := by
  simp [Param.addr, P.timeCapSeq, P.timeCapEdges, P.timeCapLost, P.loopFlags]
  omega

end

/-- A capture that is taken stands in its ring at its number, with its edge. -/
theorem captured_reads (hwf : Store.wf m.regs = true) (hn : n < 4) (rising : Bool) : (m.captured n rising).rd P.timeCapSeq n = m.capSeq n
    ∧ (m.captured n rising).rd P.timeCapRing n (m.capSeq n % 16) = m.now % 2 ^ 32
    ∧ ((m.captured n rising).rd P.timeCapEdges n).testBit (m.capSeq n % 16) = rising := by
  have hk : m.capSeq n % 16 < 16 := Nat.mod_lt _ (by decide)
  obtain ⟨hseq, hedges, -⟩ := timeCapRing_ne hn hk
  obtain ⟨hse, -⟩ := timeCap_ne n
  have h1 : Store.wf (m.capNoted n).regs = true := hwf
  have h2 := Mod.wr_wf h1 P.timeCapSeq (m.capSeq n) n 0
  refine ⟨?_, ?_, ?_⟩
  · rw [Mod.captured, Mod.rd_wr_other hse, Mod.rd_wr_other hseq]
    exact Mod.rd_wr_full h1 rfl (Nat.mod_lt _ (by decide)) n 0
  · rw [Mod.captured, Mod.rd_wr_other hedges.symm]
    exact Mod.rd_wr_full h2 rfl (Nat.mod_lt _ (by decide)) n _
  · rw [Mod.captured, Mod.rd_wr (Mod.wr_wf h2 _ _ _ _)]
    rw [Nat.testBit_mod_two_pow, decide_eq_true (by omega), Bool.true_and]
    exact (Nat.testBit_mod_two_pow _ 16 _).trans (by rw [decide_eq_true hk, Bool.true_and, testBit_setField])

theorem Mod.Within.captured (m : Mod) (n : Nat) (rising : Bool) :
    Mod.Within [.time] [P.timeCapSeq.addr n, P.timeCapRing.addr n (m.capSeq n % 16), P.timeCapEdges.addr n] m (m.captured n rising) :=
  (((Mod.Within.setTime m _ (by simp)).trans (.wr _ _ _ _ _ (by simp))).trans (.wr _ _ _ _ _ (by simp))).trans (.wr _ _ _ _ _ (by simp))

end

/-! ### The statement -/

/-- Settles O54: PPS by whether it met its boundary and the last rise is 999 ms past; an output by its arming, its instant and its width; a
capture by its ring. -/
theorem pulsesAndCapturesFollowTime : Obligations.PulsesAndCapturesFollowTime := by
  unfold Obligations.PulsesAndCapturesFollowTime
  intro s t n hs hn houts hcaps now x o cfg
  have hlen : n < s.m.time.outs.length := houts ▸ hn
  refine ⟨fun hlive hshown hboundary hfirst => ⟨fun hapart => ?apart, fun l hl hclose => ?close⟩, fun l hl hover => ?falls,
    fun role v hrun hmode hahead => ?arms, fun harmed hlive hdue => ⟨fun hone => ?fires, fun hperiodic hbase => ?again⟩,
    fun l hl hover => ?ends, fun rising htakes => ⟨fun hapart => ?captured, fun l hl hclose => ?lost⟩⟩
  case apart =>
    exact time_yields (f := ppsEdge) rfl (ppsEdge_of_apart (m := s.m.at t) ⟨hlive, hshown, hboundary, hfirst⟩ hapart)
      ((Mod.Within.setTime _ _ (by decide)).trans (.setTime _ _ (by decide)))
  case close =>
    have hmean := ppsEdge_of_close (m := s.m.at t) ⟨hlive, hshown, hboundary, hfirst⟩ hl hclose
    have hwithin : Mod.Within [.time] [P.timePpsOmitted.addr, P.timeFlags.addr] (s.m.at t) (ppsEdge (s.m.at t)) :=
      hmean ▸ (((Mod.Within.setTime _ _ (by decide)).trans (.inc _ _ _ _ _ (by decide))).trans (.flag _ _ _ _ (by decide))).trans (.raise _ _ _ _)
    refine State.yields_run (f := ppsEdge) rfl ⟨?_, (Mod.run_time _ _ _).trans (congrArg Mod.time hmean), hwithin.frame⟩
    refine count_of_run (x := s.m.at t) hs rfl (by decide) ?_ rfl
    rw [hmean, Mod.rd_raise, Mod.rd_flag_other (by decide)]
    exact Mod.rd_congr rfl _ _ _
  case falls =>
    exact time_yields (f := ppsPulseEnd) rfl (ppsPulseEnd_of_over (m := s.m.at t) hl hover) (.setTime _ _ (by decide))
  case arms =>
    have hcfg : ((s.m.at t).setWord (P.timeOutAtHi.addr n) v).rd P.timeOutCfg n = s.m.rd P.timeOutCfg n := by
      refine congrArg BitVec.toNat (Store.get_put_other _ _ ?_)
      simp [Param.addr, P.timeOutCfg, P.timeOutAtHi]
    have hlo : ((s.m.at t).setWord (P.timeOutAtHi.addr n) v).rd P.timeOutAtLo n = s.m.rd P.timeOutAtLo n := by
      refine congrArg BitVec.toNat (Store.get_put_other _ _ ?_)
      simp [Param.addr, P.timeOutAtLo, P.timeOutAtHi]
    have hnow : ((s.m.at t).setWord (P.timeOutAtHi.addr n) v).outNow n = (s.m.at t).outNow n := by
      unfold Mod.outNow
      rw [hcfg]
      rfl
    have hmean := (cmdWrite_timeOutAtHi (m := s.m.at t) hrun role hn v).trans
      (timeOutArm_of_ahead hn v.isLt (hcfg ▸ hmode) (hnow ▸ hlo ▸ hahead))
    rw [hlo] at hmean
    exact out_yields (f := cmdWrite P.timeOutAtHi n role [] v) rfl hlen hmean rfl
      ((Mod.Within.setWord _ _ _ (by simp)).trans (.wr _ _ _ _ _ (by simp))) (by decide)
  case fires =>
    have hbase : ((s.m.rd P.timeOutCfg n).testBit 3 && decide (field (s.m.rd P.timeOutCfg n) 2 1 = 2)) = false := by
      rw [show field (s.m.rd P.timeOutCfg n) 2 1 = 1 from hone, decide_eq_false (by decide), Bool.and_false]
    exact out_yields (f := timeOutEdge n) rfl hlen ((timeOutEdge_of_due (m := s.m.at t) hn harmed hlive hdue hbase).trans
      (Mod.outFire_once hone)) rfl (.refl _) (by decide)
  case again =>
    have hbase' : ((s.m.rd P.timeOutCfg n).testBit 3 && decide (field (s.m.rd P.timeOutCfg n) 2 1 = 2)) = false := by
      rw [show (s.m.rd P.timeOutCfg n).testBit 3 = false from hbase, Bool.false_and]
    have hnow : (s.m.at t).outNow n = (s.m.at t).now := by
      unfold Mod.outNow
      rw [Mod.rd_at, show (s.m.rd P.timeOutCfg n).testBit 3 = false from hbase]
      rfl
    have hfire := (timeOutEdge_of_due (m := s.m.at t) hn harmed hlive hdue hbase').trans (Mod.outFire_periodic hperiodic)
    have hmax : Nat.max ((s.m.at t).outNow n) o.next = now := (Nat.max_eq_left hdue).trans hnow
    have hyields := out_yields (c := .timeOutEdge t n) (f := timeOutEdge n) rfl hlen hfire rfl (.refl (as := [.time]) (ws := []) _) (by decide)
    have hout : ({ o with level := true, lastEdge := some now, armed := true, next := nextPeriod o.next (s.m.rd P.timeOutPeriod n) now } : TimeOut)
        = { o with level := true, lastEdge := some now, next := nextPeriod o.next (s.m.rd P.timeOutPeriod n) now } :=
      congrArg (fun b => { o with level := true, lastEdge := some now, armed := b, next := nextPeriod o.next (s.m.rd P.timeOutPeriod n) now })
        harmed.symm
    rw [hmax] at hyields
    exact hout ▸ hyields
  case ends => exact out_yields (f := timeOutPulseEnd n) rfl hlen (timeOutPulseEnd_of_over (m := s.m.at t) hl hover) rfl (.refl _) (by decide)
  case captured =>
    have hmean := captureEdge_of_apart (m := s.m.at t) hn htakes hapart
    obtain ⟨hseq, hring, hedge⟩ := captured_reads (m := s.m.at t) hs hn rising
    obtain ⟨-, -, hring0⟩ := timeCapRing_ne hn (Nat.mod_lt ((s.m.at t).capSeq n) (by decide))
    obtain ⟨-, hseq0, hedges0, -⟩ := timeCap_ne n
    have hwithin := Mod.Within.captured (s.m.at t) n rising
    rw [← hmean] at hseq hring hedge hwithin
    refine State.yields_run (f := captureEdge n rising) rfl ⟨?_, ?_, ?_, ?_, hwithin.frame⟩
    · rw [Mod.run_time, hmean]
      rfl
    · rw [Mod.run_rd_other t _ s.m hseq0]
      exact hseq
    · exact (Mod.run_rd_other t _ s.m hring0).trans hring
    · exact (congrArg (Nat.testBit · _) (Mod.run_rd_other t _ s.m hedges0)).trans hedge
  case lost =>
    have hmean := captureEdge_of_close (m := s.m.at t) hn htakes hl hclose
    obtain ⟨-, -, -, hlost⟩ := timeCap_ne n
    have hwithin : Mod.Within [.time] [P.timeCapLost.addr n] (s.m.at t) (captureEdge n rising (s.m.at t)) :=
      hmean ▸ (Mod.Within.setTime _ _ (by decide)).trans (.inc _ _ _ _ _ (by simp))
    refine State.yields_run (f := captureEdge n rising) rfl ⟨?_, ?_, hwithin.frame⟩
    · rw [Mod.run_time, hmean]
      rfl
    · rw [Mod.run_rd_other t _ s.m hlost, hmean]
      exact Mod.rd_inc_full (m := (s.m.at t).capNoted n) hs rfl n 1 0

end Sys2Proof.Machine
end

section
/-!
PROOFS. The statements of 14_timebase_ptp.md: the choice among the sources, and the PTP ports.
-/
namespace Sys2Proof.Machine

section
variable {as : List Area} {ws : List Nat} {s : State} {t n : Nat} {c : Instr} {f : Mod → Mod} {m : Mod}

/-! ### The choice of a source (R325, R326) -/

/-- The words that the choice of a source changes: those of HOLDOVER. -/
def srcWords : List Nat := [P.timeFreq.addr, P.timeSlewLeft.addr, P.timeHoldovers.addr, P.timeFlags.addr]

theorem Mod.Within.holdover (m : Mod) : Mod.Within [.time] srcWords m m.holdover :=
  (((((Mod.Within.ofTime m _ (by decide)).trans (.wrI _ _ _ _ _ (by decide))).trans (.wrI _ _ _ _ _ (by decide))).trans
    (.inc _ _ _ _ _ (by decide))).trans (.flag _ _ _ _ (by decide))).trans (.raise _ _ _ _)

theorem Mod.Within.chooseSource (m : Mod) : Mod.Within [.time] srcWords m m.chooseSource := by
  unfold Mod.chooseSource
  dsimp only
  split
  · exact .ofTime m _ (by decide)
  split
  · exact .refl m
  split
  · split
    · exact .holdover m
    · exact .refl m
  split
  · exact .ofTime m _ (by decide)
  · exact (Mod.Within.ofTime m _ (by decide)).trans (.raise _ _ _ _)

/-- What the choice of a source leaves of the timebase: the mapping, the ports, the messages sent and what GNSS delivers. -/
structure Mod.SourceKept (a b : Mod) : Prop where
  ofs : b.time.ofs = a.time.ofs
  ports : b.time.ports = a.time.ports
  sent : b.time.sent = a.time.sent
  gnssAvail : b.time.gnssAvail = a.time.gnssAvail
  gnssOfs : b.time.gnssOfs = a.time.gnssOfs
  isSet : b.time.isSet = a.time.isSet

theorem Mod.chooseSource_kept (m : Mod) : Mod.SourceKept m m.chooseSource := by
  unfold Mod.chooseSource
  dsimp only
  split
  · exact ⟨rfl, rfl, rfl, rfl, rfl, rfl⟩
  split
  · exact ⟨rfl, rfl, rfl, rfl, rfl, rfl⟩
  split
  · split <;> exact ⟨rfl, rfl, rfl, rfl, rfl, rfl⟩
  split <;> exact ⟨rfl, rfl, rfl, rfl, rfl, rfl⟩

/-! ### A port changed -/

theorem Mod.Within.setPtp (m : Mod) (n : Nat) (g : PtpPort → PtpPort) (htime : Area.time ∈ as) : Mod.Within as ws m (m.setPtp n g) :=
  .ofTime m _ htime

theorem Mod.setPtp_time (hlen : n < m.time.ports.length) (g : PtpPort → PtpPort) :
    (m.setPtp n g).time = { m.time with ports := m.time.ports.set n (g (m.ptp n)) } := by
  have hmodify : m.time.ports.modify n g = m.time.ports.set n (g (m.time.ports.getD n {})) := by simp [List.modify_eq_set_getElem?, hlen]
  exact congrArg (fun l => { m.time with ports := l }) hmodify

theorem Mod.ptp_setPtp_same (hlen : n < m.time.ports.length) (g : PtpPort → PtpPort) : (m.setPtp n g).ptp n = g (m.ptp n) := by
  simp [Mod.ptp, Mod.setPtp_time hlen, hlen]

theorem Mod.ptp_setPtp_other {k : Nat} (hk : k ≠ n) (g : PtpPort → PtpPort) : (m.setPtp n g).ptp k = m.ptp k := by
  simp [Mod.ptp, Mod.setPtp, updAt, hk.symm]

theorem Mod.setPtp_length (m : Mod) (n : Nat) (g : PtpPort → PtpPort) : (m.setPtp n g).time.ports.length = m.time.ports.length :=
  List.length_modify _ _ _

/-- A part of the ports that a change of one port keeps. -/
theorem Mod.setPtp_keeps {α : Type} {π : PtpPort → α} {g : PtpPort → PtpPort} (hg : ∀ p, π (g p) = π p) (m : Mod) (n k : Nat) :
    π ((m.setPtp n g).ptp k) = π (m.ptp k) := by
  by_cases hk : k = n
  · subst hk
    by_cases hlen : k < m.time.ports.length
    · rw [Mod.ptp_setPtp_same hlen, hg]
    · simp [Mod.ptp, Mod.setPtp, updAt, List.getElem?_eq_none (not_lt.1 hlen)]
  · rw [Mod.ptp_setPtp_other hk]

/-! ### The states of the ports (R335) -/

/-- What a port knows of its master. -/
def PtpPort.master (p : PtpPort) : Option PtpData × Nat × Nat × Option (Int × Int) × Option (Nat × Int) :=
  (p.best, p.annAt, p.parent, p.sync, p.pendSync)

/-- What the choice of states leaves of the timebase: the mapping, the messages sent, and what each port knows of its master. -/
structure Mod.MastersKept (a b : Mod) : Prop where
  ofs : b.time.ofs = a.time.ofs
  sent : b.time.sent = a.time.sent
  length : b.time.ports.length = a.time.ports.length
  master : ∀ k, (b.ptp k).master = (a.ptp k).master

theorem Mod.MastersKept.refl (m : Mod) : Mod.MastersKept m m := ⟨rfl, rfl, rfl, fun _ => rfl⟩

theorem Mod.MastersKept.trans {a b d : Mod} (h : Mod.MastersKept a b) (k : Mod.MastersKept b d) : Mod.MastersKept a d :=
  ⟨k.ofs.trans h.ofs, k.sent.trans h.sent, k.length.trans h.length, fun i => (k.master i).trans (h.master i)⟩

theorem Mod.MastersKept.setPtp {g : PtpPort → PtpPort} (hg : ∀ p, (g p).master = p.master) (m : Mod) (n : Nat) :
    Mod.MastersKept m (m.setPtp n g) :=
  ⟨rfl, rfl, m.setPtp_length n g, m.setPtp_keeps hg n⟩

/-- An event and a word are no part of the timebase. -/
theorem Mod.MastersKept.of_time {a b d : Mod} (h : Mod.MastersKept a b) (hd : d.time = b.time) : Mod.MastersKept a d := by
  have hptp : ∀ k, d.ptp k = b.ptp k := fun k => by rw [Mod.ptp, hd, Mod.ptp]
  exact ⟨hd ▸ h.ofs, hd ▸ h.sent, hd ▸ h.length, fun k => hptp k ▸ h.master k⟩

/-- A port that takes a state, and one whose foreign master is reported. -/
def PtpPort.taking (st : Nat) (p : PtpPort) : PtpPort :=
  { p with st := st, conf := [], confRaised := false, offsets := (if st = 9 then p.offsets else []),
           filtered := (if st = 9 then p.filtered else []) }
def PtpPort.reported (p : PtpPort) : PtpPort := { p with foreign := true }

/-- The step of one port in `ptpDecide`. -/
def Mod.ptpDecided (m : Mod) (n : Nat) : Mod := if field (m.rd P.timePtpCfg n) 5 4 = 0 then m else m.ptpState n (m.bmcState n)

/-- The step of one port in `ptpForeign`. -/
def Mod.ptpForeigned (m : Mod) (n : Nat) : Mod :=
  if (m.ptp n).st = 9 && !(m.ptp n).foreign && m.time.gnssAvail && (m.rd P.timeSrcOrder = 0 || m.rd P.timeSrcOrder = 3) then
    (m.setPtp n PtpPort.reported).raise (106 + n) 0x0811
      (leBytes 1 n ++ leBytes 4 (((m.ptp n).best.map (·.identity)).getD 0))
  else m

theorem Mod.ptpDecide_eq (m : Mod) : m.ptpDecide = ((m.ptpDecided 0).ptpDecided 1).ptpForeign.chooseSource := rfl
theorem Mod.ptpForeign_eq (m : Mod) : m.ptpForeign = (m.ptpForeigned 0).ptpForeigned 1 := rfl

theorem Mod.ptpState_of_other {st : Nat} (h : (m.ptp n).st ≠ st) : m.ptpState n st =
    ((m.setPtp n (PtpPort.taking st)).wr P.timePtpState st n).raise (106 + n) 0x0810
      (leBytes 1 n ++ leBytes 1 (m.ptp n).st ++ leBytes 1 st) := if_neg h

theorem Mod.ptpState_of_same {st : Nat} (h : (m.ptp n).st = st) : m.ptpState n st = m := if_pos h

theorem Mod.MastersKept.ptpState (m : Mod) (n st : Nat) : Mod.MastersKept m (m.ptpState n st) := by
  by_cases h : (m.ptp n).st = st
  · rw [Mod.ptpState_of_same h]
    exact .refl m
  · rw [Mod.ptpState_of_other h]
    exact .of_time (.setPtp (g := PtpPort.taking st) (fun _ => rfl) m n) rfl

theorem Mod.Within.ptpState (m : Mod) (n st : Nat) : Mod.Within [.time] [P.timePtpState.addr n] m (m.ptpState n st) := by
  by_cases h : (m.ptp n).st = st
  · rw [Mod.ptpState_of_same h]
    exact .refl m
  · rw [Mod.ptpState_of_other h]
    exact ((Mod.Within.setPtp _ _ _ (by decide)).trans (.wr _ _ _ _ _ (by simp))).trans (.raise _ _ _ _)

theorem Mod.ptpState_st {st : Nat} (hlen : n < m.time.ports.length) : ((m.ptpState n st).ptp n).st = st := by
  by_cases h : (m.ptp n).st = st
  · rw [Mod.ptpState_of_same h, h]
  · rw [Mod.ptpState_of_other h]
    exact congrArg PtpPort.st (Mod.ptp_setPtp_same hlen _)

theorem Mod.ptpState_other {st k : Nat} (hk : k ≠ n) : (m.ptpState n st).ptp k = m.ptp k := by
  by_cases h : (m.ptp n).st = st
  · rw [Mod.ptpState_of_same h]
  · rw [Mod.ptpState_of_other h]
    exact Mod.ptp_setPtp_other hk _

theorem Mod.MastersKept.ptpDecided (m : Mod) (n : Nat) : Mod.MastersKept m (m.ptpDecided n) := by
  unfold Mod.ptpDecided
  split
  · exact .refl m
  · exact .ptpState m n _

theorem Mod.Within.ptpDecided (m : Mod) (n : Nat) : Mod.Within [.time] [P.timePtpState.addr n] m (m.ptpDecided n) := by
  unfold Mod.ptpDecided
  split
  · exact .refl m
  · exact .ptpState m n _

theorem Mod.ptpDecided_other {k : Nat} (hk : k ≠ n) : (m.ptpDecided n).ptp k = m.ptp k := by
  unfold Mod.ptpDecided
  split
  · rfl
  · exact Mod.ptpState_other hk

theorem Mod.MastersKept.ptpForeigned (m : Mod) (n : Nat) : Mod.MastersKept m (m.ptpForeigned n) := by
  unfold Mod.ptpForeigned
  split
  · exact .of_time (.setPtp (g := PtpPort.reported) (fun _ => rfl) m n) rfl
  · exact .refl m

theorem Mod.Within.ptpForeigned (m : Mod) (n : Nat) : Mod.Within [.time] ws m (m.ptpForeigned n) := by
  unfold Mod.ptpForeigned
  split
  · exact (Mod.Within.setPtp _ _ _ (by decide)).trans (.raise _ _ _ _)
  · exact .refl m

theorem Mod.Within.ptpForeign (m : Mod) : Mod.Within [.time] ws m m.ptpForeign := (Mod.Within.ptpForeigned m 0).trans (.ptpForeigned _ 1)

theorem Mod.ptpForeigned_st (m : Mod) (n k : Nat) : ((m.ptpForeigned n).ptp k).st = (m.ptp k).st := by
  unfold Mod.ptpForeigned
  split
  · exact Mod.setPtp_keeps (π := PtpPort.st) (g := PtpPort.reported) (fun _ => rfl) m n k
  · rfl

/-- The choice of the states changes no more of a port than its state and what belongs to it. -/
theorem Mod.MastersKept.ptpDecide (m : Mod) : Mod.MastersKept m m.ptpDecide := by
  have hforeign : Mod.MastersKept m ((m.ptpDecided 0).ptpDecided 1).ptpForeign :=
    (((Mod.MastersKept.ptpDecided m 0).trans (.ptpDecided _ 1)).trans (.ptpForeigned _ 0)).trans (.ptpForeigned _ 1)
  obtain ⟨hofs, hports, hsent, -⟩ := Mod.chooseSource_kept ((m.ptpDecided 0).ptpDecided 1).ptpForeign
  rw [Mod.ptpDecide_eq]
  refine ⟨hofs.trans hforeign.ofs, hsent.trans hforeign.sent, (congrArg List.length hports).trans hforeign.length, fun k => ?_⟩
  rw [Mod.ptp, hports]
  exact hforeign.master k

/-- The words that the choice of the states changes. -/
def ptpWords : List Nat := srcWords ++ (List.range 2).map (fun q => P.timePtpState.addr q)

theorem Mod.Within.ptpDecide (m : Mod) : Mod.Within [.time] ptpWords m m.ptpDecide :=
  ((((Mod.Within.ptpDecided m 0).mono (List.Subset.refl _) (by decide)).trans ((Mod.Within.ptpDecided _ 1).mono (List.Subset.refl _) (by decide))).trans
    (.ptpForeign _)).trans ((Mod.Within.chooseSource _).mono (List.Subset.refl _) (List.subset_append_left _ _))

/-- The state of a port after the choice of the states: the one that its algorithm gave. -/
theorem Mod.ptpDecide_st (m : Mod) (k : Nat) : (m.ptpDecide.ptp k).st = (((m.ptpDecided 0).ptpDecided 1).ptp k).st := by
  obtain ⟨-, hports, -⟩ := Mod.chooseSource_kept ((m.ptpDecided 0).ptpDecided 1).ptpForeign
  rw [Mod.ptpDecide_eq, Mod.ptp, hports]
  exact (Mod.ptpForeigned_st _ 1 k).trans (Mod.ptpForeigned_st _ 0 k)

/-- The state that the algorithm gives a port without a master. -/
theorem Mod.bmcState_of_none (hbest : (m.ptp n).best = none) : m.bmcState n = if (m.rd P.timePtpCfg n).testBit 1 then 4 else 6 := by
  unfold Mod.bmcState
  dsimp only
  rw [hbest]
  dsimp only
  rw [decide_eq_true (by decide : (6 : Nat) ≠ 9), Bool.and_true]

theorem Mod.ptpDecided_st_of_none (hlen : n < m.time.ports.length) (hmode : field (m.rd P.timePtpCfg n) 5 4 ≠ 0) (hbest : (m.ptp n).best = none) :
    ((m.ptpDecided n).ptp n).st = if (m.rd P.timePtpCfg n).testBit 1 then 4 else 6 := by
  rw [Mod.ptpDecided, if_neg hmode, Mod.ptpState_st hlen, Mod.bmcState_of_none hbest]

/-- After the choice, a port without a master has the state of such a port. -/
theorem Mod.ptpDecide_st_of_none (hwf : Store.wf m.regs = true) (hn : n < 2) (hlen : m.time.ports.length = 2)
    (hmode : field (m.rd P.timePtpCfg n) 5 4 ≠ 0) (hbest : (m.ptp n).best = none) :
    (m.ptpDecide.ptp n).st = if (m.rd P.timePtpCfg n).testBit 1 then 4 else 6 := by
  rw [Mod.ptpDecide_st]
  obtain rfl | rfl : n = 0 ∨ n = 1 := by omega
  · rw [Mod.ptpDecided_other (by decide), Mod.ptpDecided_st_of_none (by omega) hmode hbest]
  · have hkept := Mod.MastersKept.ptpDecided m 0
    have hcfg : (m.ptpDecided 0).rd P.timePtpCfg 1 = m.rd P.timePtpCfg 1 :=
      (Mod.Within.ptpDecided m 0).rd_eq hwf (by decide) (by decide)
    have hbest' : ((m.ptpDecided 0).ptp 1).best = none := by rw [Mod.ptpDecided_other (by decide), hbest]
    rw [Mod.ptpDecided_st_of_none (by rw [hkept.length]; omega) (hcfg ▸ hmode) hbest', hcfg]

end
end Sys2Proof.Machine
end

section
/-!
PROOFS. The statements of 14_timebase_ptp.md: the messages of the PTP ports and the timeout of their masters.
-/
namespace Sys2Proof.Machine

section
variable {as : List Area} {ws : List Nat} {s : State} {t n : Nat} {c : Instr} {f : Mod → Mod} {m : Mod} {g : PtpMsg}

/-! ### What a message does to its port -/

theorem Mod.setPtp_setPtp (m : Mod) (n : Nat) (a b : PtpPort → PtpPort) : (m.setPtp n a).setPtp n b = m.setPtp n (fun p => b (a p)) := by
  simp only [Mod.setPtp, updAt, List.modify_modify_eq]
  rfl

theorem Mod.ptpSend_setPtp (m : Mod) (n : Nat) (a : PtpPort → PtpPort) (l : List PtpTx) :
    (m.setPtp n a).ptpSend l = (m.ptpSend l).setPtp n a := rfl

/-- A list with an entry set to what it is. -/
theorem set_getD {α : Type} {l : List α} {d : α} (hn : n < l.length) : l.set n (l.getD n d) = l := by simp [hn]

/-- A command that changes one port answers with it. -/
theorem port_yields {a : PtpPort → PtpPort} (hexec : exec c s = s.run t f) (hlen : n < s.m.time.ports.length)
    (hf : f (s.m.at t) = (s.m.at t).setPtp n a) :
    s.Yields c fun m' => m'.time = { s.m.time with ports := s.m.time.ports.set n (a (s.m.ptp n)) } ∧ Mod.Frame t [.time] [] s.m m' := by
  have htime := Mod.setPtp_time (m := s.m.at t) hlen a
  exact htime ▸ time_yields hexec hf (.setPtp _ _ _ (by decide))

/-- A command that sends messages and changes its port answers with both. -/
theorem sends_yields {a : PtpPort → PtpPort} {l : List PtpTx} (hexec : exec c s = s.run t f) (hlen : n < s.m.time.ports.length)
    (hf : f (s.m.at t) = ((s.m.at t).ptpSend l).setPtp n a) :
    s.Yields c fun m' => m'.time = { s.m.time with ports := s.m.time.ports.set n (a (s.m.ptp n)), sent := s.m.time.sent ++ l }
      ∧ Mod.Frame t [.time] [] s.m m' := by
  have htime := Mod.setPtp_time (m := (s.m.at t).ptpSend l) hlen a
  exact htime ▸ time_yields hexec hf ((Mod.Within.ofTime _ _ (by decide)).trans (.setPtp _ _ _ (by decide)))

/-- A command that sends messages alone leaves its port as it is. -/
theorem answers_yields {l : List PtpTx} (hexec : exec c s = s.run t f) (hlen : n < s.m.time.ports.length)
    (hf : f (s.m.at t) = (s.m.at t).ptpSend l) :
    s.Yields c fun m' => m'.time = { s.m.time with ports := s.m.time.ports.set n (s.m.ptp n), sent := s.m.time.sent ++ l }
      ∧ Mod.Frame t [.time] [] s.m m' := by
  have hset : s.m.time.ports.set n (s.m.ptp n) = s.m.time.ports := set_getD hlen
  rw [hset]
  exact time_yields hexec hf (.ofTime _ _ (by decide))

/-- A command that turns its message away changes nothing. -/
theorem nothing_yields (hexec : exec c s = s.run t f) (hf : f (s.m.at t) = s.m.at t) :
    s.Yields c fun m' => m'.time = s.m.time ∧ Mod.Frame t [] [] s.m m' := 
  time_yields (x := s.m.at t) hexec hf (.refl _)

/-! ### Messages received (R333 to R335) -/

/-- A message that the port's transport and domain admit. -/
structure Mod.PtpAdmits (m : Mod) (n : Nat) (g : PtpMsg) : Prop where
  port : n < 2
  mode : field (m.rd P.timePtpCfg n) 5 4 ≠ 0
  domain : g.domain = (if field (m.rd P.timePtpCfg n) 5 4 = 3 then 0 else field (m.rd P.timePtpCfg n) 15 8)
  udp : g.udp = ((m.rd P.timePtpCfg n).testBit 3 && decide (field (m.rd P.timePtpCfg n) 5 4 ≠ 3))

theorem Mod.PtpAdmits.passes (h : m.PtpAdmits n g) : (2 ≤ n || field (m.rd P.timePtpCfg n) 5 4 = 0
    || g.domain ≠ (if field (m.rd P.timePtpCfg n) 5 4 = 3 then 0 else field (m.rd P.timePtpCfg n) 15 8)
    || g.udp ≠ ((m.rd P.timePtpCfg n).testBit 3 && decide (field (m.rd P.timePtpCfg n) 5 4 ≠ 3))) = false := by
  obtain ⟨hport, hmode, hdomain, hudp⟩ := h
  rw [decide_eq_false (not_le.2 hport), decide_eq_false hmode, decide_eq_false (not_not.2 hdomain), decide_eq_false (not_not.2 hudp)]
  rfl

/-- The end-to-end delay request that a master answers. -/
theorem ptpEventMessage_delayReq (h : m.PtpAdmits n g) (hkind : g.kind = 3) (hst : (m.ptp n).st = 6) : ptpEventMessage n g m =
    m.ptpSend [{ port := n, kind := 4, seq := g.seq, time := m.timeOf (m.ingress n g.ingress), corr := g.corr, req := g.sender }] := by
  unfold ptpEventMessage
  dsimp only
  rw [h.passes, if_neg Bool.false_ne_true, hkind]
  exact if_pos hst

/-- The answers to a peer's delay request. -/
def Mod.ptpPeerAnswers (m : Mod) (n : Nat) (g : PtpMsg) : List PtpTx :=
  if (m.rd P.timePtpCfg n).testBit 2 then
    [{ port := n, kind := 6, seq := g.seq, corr := g.corr + (m.egress n g.egress - m.ingress n g.ingress), req := g.sender }]
  else [{ port := n, kind := 6, seq := g.seq, time := m.timeOf (m.ingress n g.ingress), req := g.sender },
        { port := n, kind := 7, seq := g.seq, time := m.timeOf (m.egress n g.egress), corr := g.corr, req := g.sender }]

theorem ptpEventMessage_pdelayReq (h : m.PtpAdmits n g) (hkind : g.kind = 5) (hmode : field (m.rd P.timePtpCfg n) 5 4 ≠ 1) :
    ptpEventMessage n g m = m.ptpSend (m.ptpPeerAnswers n g) := by
  unfold ptpEventMessage
  dsimp only
  rw [h.passes, if_neg Bool.false_ne_true, hkind]
  exact if_neg hmode

/-- A two-step Sync of the port's master. -/
theorem ptpEventMessage_sync (h : m.PtpAdmits n g) (hkind : g.kind = 1) (hst : (m.ptp n).st = 9) (hsender : g.sender = (m.ptp n).parent)
    (htwo : g.twoStep = true) :
    ptpEventMessage n g m = m.setPtp n (fun p => { p with pendSync := some (g.seq, m.ingress n g.ingress - g.corr) }) := by
  have hours : (decide ((m.ptp n).st ≠ 9) || decide (g.sender ≠ (m.ptp n).parent)) = false := by
    rw [decide_eq_false (not_not.2 hst), decide_eq_false (not_not.2 hsender), Bool.false_or]
  unfold ptpEventMessage
  dsimp only
  rw [h.passes, if_neg Bool.false_ne_true, hkind]
  exact (if_neg (by rw [hours]; exact Bool.false_ne_true)).trans (if_pos htwo)

/-- The times of the master come from the parent alone (R333). -/
theorem ptpEventMessage_stranger (h : m.PtpAdmits n g) (hkind : g.kind = 1 ∨ g.kind = 2) (hsender : g.sender ≠ (m.ptp n).parent) :
    ptpEventMessage n g m = m := by
  unfold ptpEventMessage
  dsimp only
  rw [h.passes, if_neg Bool.false_ne_true]
  obtain hkind | hkind := hkind
  · rw [hkind]
    exact if_pos (by rw [decide_eq_true hsender, Bool.or_true])
  · simp only [hkind]
    split
    · exact if_neg (by rw [decide_eq_false hsender, Bool.and_false]; exact Bool.false_ne_true)
    · rfl

/-- The answer to the port's own delay request. -/
theorem ptpEventMessage_delayResp {t1 t2 t3 : Int} (h : m.PtpAdmits n g) (hkind : g.kind = 4) (hmode : field (m.rd P.timePtpCfg n) 5 4 = 1)
    (hsender : g.sender = (m.ptp n).parent) (hreq : g.req = m.ptpId n) (hasked : (m.ptp n).delayReq = some (g.seq, t3))
    (hsync : (m.ptp n).sync = some (t1, t2)) :
    ptpEventMessage n g m = m.ptpDelay n (rdiv ((t2 - t1) + (g.time - g.corr - t3)) 2) := by
  unfold ptpEventMessage
  dsimp only
  rw [h.passes, if_neg Bool.false_ne_true]
  simp only [hkind, hasked, hsync]
  rw [decide_eq_true trivial, decide_eq_true hmode, decide_eq_true hsender, decide_eq_true hreq]
  exact if_pos rfl

theorem ptpDelay_yields {d : Int} (hexec : exec c s = s.run t f) (hs : s.Canonical) (hlen : n < s.m.time.ports.length)
    (hf : f (s.m.at t) = (s.m.at t).ptpDelay n d) : s.Yields c fun m' =>
      m'.time = { s.m.time with ports := s.m.time.ports.set n { s.m.ptp n with delay := d } }
      ∧ m'.rd P.timePtpDelay n = (clampI 0 0xFFFFFFFF d).toNat ∧ Mod.Frame t [.time] [P.timePtpDelay.addr n] s.m m' := by
  have htime := Mod.setPtp_time (m := s.m.at t) hlen (fun p => { p with delay := d })
  have hwithin : Mod.Within [.time] [P.timePtpDelay.addr n] (s.m.at t) (f (s.m.at t)) :=
    hf ▸ (Mod.Within.setPtp _ _ _ (by decide)).trans (.wr _ _ _ _ _ (by simp))
  refine State.yields_run hexec ⟨(Mod.run_time _ _ _).trans ((congrArg Mod.time hf).trans htime), ?_, hwithin.frame⟩
  have hne : P.timePtpDelay.addr n ≠ P.loopFlags.addr := by
    simp [Param.addr, P.timePtpDelay, P.loopFlags]
    omega
  have hbound : (clampI 0 0xFFFFFFFF d).toNat < 2 ^ 32 := by
    unfold clampI
    omega
  rw [Mod.run_rd_other t f s.m hne, hf]
  exact Mod.rd_wr_full (m := (s.m.at t).setPtp n (fun p => { p with delay := d })) hs rfl hbound n 0

/-! ### An Announce (R333, R335) -/

/-- The dataset that an Announce carries. -/
def announced (g : PtpMsg) : PtpData :=
  { prio1 := g.prio1, cls := g.cls, accuracy := g.accuracy, variance := g.variance, prio2 := g.prio2, identity := g.identity, steps := g.steps,
    source := g.source }

/-- A port without a master takes that of an Announce. -/
def PtpPort.joins (g : PtpMsg) (now : Nat) (p : PtpPort) : PtpPort :=
  { p with best := some (announced g), parent := g.sender, annAt := now, foreign := false, sync := none, pendSync := none }

/-- The identity of the port's grandmaster, shown where the port is a slave. -/
def Mod.ptpShown (m : Mod) (n identity : Nat) : Mod :=
  if (m.ptp n).st = 9 then (m.wr P.timePtpGmLo (identity % 2 ^ 32) n).wr P.timePtpGmHi (identity / 2 ^ 32) n else m

theorem Mod.ptpShown_time (m : Mod) (n identity : Nat) : (m.ptpShown n identity).time = m.time := by
  unfold Mod.ptpShown
  split <;> rfl

theorem Mod.Within.ptpShown (m : Mod) (n identity : Nat) :
    Mod.Within [.time] [P.timePtpGmLo.addr n, P.timePtpGmHi.addr n] m (m.ptpShown n identity) := by
  unfold Mod.ptpShown
  split
  · exact (Mod.Within.wr _ _ _ _ _ (by simp)).trans (.wr _ _ _ _ _ (by simp))
  · exact .refl m

theorem ptpEventMessage_announce (h : m.PtpAdmits n g) (hkind : g.kind = 0) (hbest : (m.ptp n).best = none) :
    ptpEventMessage n g m = ((m.setPtp n (PtpPort.joins g m.now)).ptpDecide).ptpShown n g.identity := by
  unfold ptpEventMessage
  dsimp only
  rw [h.passes, if_neg Bool.false_ne_true]
  simp only [hkind, hbest]
  simp only [Option.isSome_none, Bool.false_and, Bool.false_eq_true, if_false, if_true, Option.map_none, reduceCtorEq, decide_false, Bool.and_false]
  rfl

theorem announceWords (n : Nat) : ptpWords ⊆ [P.timeFreq.addr, P.timeSlewLeft.addr, P.timeHoldovers.addr, P.timeFlags.addr,
    P.timePtpGmLo.addr n, P.timePtpGmHi.addr n] ++ (List.range 2).map (fun q => P.timePtpState.addr q) :=
  List.append_subset.2 ⟨fun _ hx => List.mem_append_left _ (List.mem_append_left [P.timePtpGmLo.addr n, P.timePtpGmHi.addr n] hx),
    List.subset_append_right _ _⟩

/-- An Announce that a port without a master takes. -/
theorem announce_yields (hexec : exec c s = s.run t (ptpEventMessage n g)) (hlen : s.m.time.ports.length = 2) (h : s.m.PtpAdmits n g)
    (hkind : g.kind = 0) (hbest : (s.m.ptp n).best = none) : s.Yields c fun m' =>
      (m'.ptp n).best = some (announced g) ∧ (m'.ptp n).annAt = (s.m.at t).now ∧ (m'.ptp n).parent = g.sender
      ∧ (m'.ptp (1 - n)).best = (s.m.ptp (1 - n)).best ∧ m'.time.sent = s.m.time.sent ∧ m'.time.ofs = s.m.time.ofs
      ∧ Mod.Frame t [.time] ([P.timeFreq.addr, P.timeSlewLeft.addr, P.timeHoldovers.addr, P.timeFlags.addr, P.timePtpGmLo.addr n,
          P.timePtpGmHi.addr n] ++ (List.range 2).map (fun q => P.timePtpState.addr q)) s.m m' := by
  have hn := h.port
  have hmean := ptpEventMessage_announce (m := s.m.at t) ⟨h.port, h.mode, h.domain, h.udp⟩ hkind hbest
  have hkept : Mod.MastersKept ((s.m.at t).setPtp n (PtpPort.joins g (s.m.at t).now)) (ptpEventMessage n g (s.m.at t)) :=
    hmean ▸ (Mod.MastersKept.ptpDecide _).of_time (Mod.ptpShown_time _ _ _)
  have hwithin : Mod.Within [.time] ([P.timeFreq.addr, P.timeSlewLeft.addr, P.timeHoldovers.addr, P.timeFlags.addr, P.timePtpGmLo.addr n,
      P.timePtpGmHi.addr n] ++ (List.range 2).map (fun q => P.timePtpState.addr q)) (s.m.at t) (ptpEventMessage n g (s.m.at t)) :=
    hmean ▸ ((Mod.Within.setPtp _ _ _ (by decide)).trans ((Mod.Within.ptpDecide _).mono (List.Subset.refl _) (announceWords n))).trans
      ((Mod.Within.ptpShown _ _ _).mono (List.Subset.refl _) (by simp))
  have hport : ((Mod.run t (ptpEventMessage n g) s.m).ptp n).master = (PtpPort.joins g (s.m.at t).now (s.m.ptp n)).master := by
    rw [Mod.ptp, Mod.run_time]
    exact (hkept.master n).trans (congrArg PtpPort.master (Mod.ptp_setPtp_same (m := s.m.at t) (by rw [Mod.at_time, hlen]; exact hn) _))
  have hother : ((Mod.run t (ptpEventMessage n g) s.m).ptp (1 - n)).master = (s.m.ptp (1 - n)).master := by
    rw [Mod.ptp, Mod.run_time]
    exact (hkept.master (1 - n)).trans (congrArg PtpPort.master (Mod.ptp_setPtp_other (m := s.m.at t) (by omega) _))
  simp only [PtpPort.master, Prod.mk.injEq] at hport hother
  obtain ⟨hbest', hann, hparent, -⟩ := hport
  exact State.yields_run hexec ⟨hbest', hann, hparent, hother.1, (congrArg TimeSt.sent (Mod.run_time _ _ _)).trans hkept.sent,
    (congrArg TimeSt.ofs (Mod.run_time _ _ _)).trans hkept.ofs, hwithin.frame⟩

/-! ### Messages that a port sends (R333 to R335) -/

/-- What is noted of a message of `kind` as it leaves. -/
def PtpPort.noted (p : PtpPort) (kind now : Nat) : PtpPort :=
  { p with txSeq := (p.txSeq + 1) % 65536, sentAt := p.sentAt.set kind (some now) }

/-- The interval of the port's messages of `kind` has elapsed while the module may send. -/
structure Mod.PtpMaySend (m : Mod) (n kind : Nat) : Prop where
  port : n < 2
  mode : field (m.rd P.timePtpCfg n) 5 4 ≠ 0
  live : m.pulsesLive = true
  due : m.ptpDue n kind = true

theorem Mod.PtpMaySend.passes {kind : Nat} (h : m.PtpMaySend n kind) :
    (2 ≤ n || field (m.rd P.timePtpCfg n) 5 4 = 0 || !m.pulsesLive || !m.ptpDue n kind) = false := by
  obtain ⟨hport, hmode, hlive, hdue⟩ := h
  rw [decide_eq_false (not_le.2 hport), decide_eq_false hmode, hlive, hdue]
  rfl

/-- A message or two of one kind leave a port. -/
def Mod.ptpLeaves (m : Mod) (n kind : Nat) (l : List PtpTx) (a : PtpPort → PtpPort) : Mod :=
  (m.ptpSend l).setPtp n (fun p => (a p).noted kind m.now)

theorem leaves_yields {kind : Nat} {l : List PtpTx} {a : PtpPort → PtpPort} (hexec : exec c s = s.run t f) (hlen : n < s.m.time.ports.length)
    (hf : f (s.m.at t) = (s.m.at t).ptpLeaves n kind l a) :
    s.Yields c fun m' => m'.time = { s.m.time with ports := s.m.time.ports.set n ((a (s.m.ptp n)).noted kind (s.m.at t).now),
                                                   sent := s.m.time.sent ++ l }
      ∧ Mod.Frame t [.time] [] s.m m' := sends_yields hexec hlen hf

theorem ptpMessageTimer_announce (h : m.PtpMaySend n 0) (egress : Nat) (hst : (m.ptp n).st = 6) : ptpMessageTimer n 0 egress m =
    m.ptpLeaves n 0 [{ port := n, kind := 0, seq := (m.ptp n).txSeq }] (fun p => { p with said := some (m.annData n) }) := by
  unfold ptpMessageTimer
  dsimp only
  rw [show Nat.min 0 2 = 0 from rfl, h.passes, if_neg Bool.false_ne_true, if_pos rfl, if_pos hst, Mod.ptpSend_setPtp]
  exact Mod.setPtp_setPtp _ _ _ _

/-- A Sync, with its Follow_Up where the port is two-step. -/
def Mod.ptpSyncs (m : Mod) (n egress : Nat) : List PtpTx :=
  if (m.rd P.timePtpCfg n).testBit 2 then [{ port := n, kind := 1, seq := (m.ptp n).txSeq, time := m.timeOf (m.egress n egress) }]
  else [{ port := n, kind := 1, seq := (m.ptp n).txSeq }, { port := n, kind := 2, seq := (m.ptp n).txSeq, time := m.timeOf (m.egress n egress) }]

theorem ptpMessageTimer_sync (h : m.PtpMaySend n 1) (egress : Nat) (hst : (m.ptp n).st = 6) :
    ptpMessageTimer n 1 egress m = m.ptpLeaves n 1 (m.ptpSyncs n egress) id := by
  unfold ptpMessageTimer
  dsimp only
  rw [show Nat.min 1 2 = 1 from rfl, h.passes, if_neg Bool.false_ne_true, if_neg Nat.one_ne_zero, if_pos rfl, if_pos hst]
  unfold Mod.ptpSyncs
  split <;> rfl

/-- A delay request: end to end from a slave, of the peer from any port of another mode. -/
theorem ptpMessageTimer_request (h : m.PtpMaySend n 2) (egress : Nat)
    (hslave : field (m.rd P.timePtpCfg n) 5 4 = 1 → (m.ptp n).st = 9) : ptpMessageTimer n 2 egress m =
      m.ptpLeaves n 2 [{ port := n, kind := if field (m.rd P.timePtpCfg n) 5 4 = 1 then 3 else 5, seq := (m.ptp n).txSeq }]
        (fun p => { p with delayReq := some (p.txSeq, m.egress n egress) }) := by
  have hasks : (decide (field (m.rd P.timePtpCfg n) 5 4 = 1) && decide ((m.ptp n).st ≠ 9)) = false := by
    rw [← Bool.decide_and, decide_eq_false_iff_not]
    exact fun hboth => hboth.2 (hslave hboth.1)
  unfold ptpMessageTimer
  dsimp only
  rw [show Nat.min 2 2 = 2 from rfl, h.passes, if_neg Bool.false_ne_true, if_neg (by decide), if_neg (by decide), hasks,
    if_neg Bool.false_ne_true, Mod.ptpSend_setPtp]
  exact Mod.setPtp_setPtp _ _ _ _

theorem ptpMessageTimer_early {kind : Nat} (hkind : kind ≤ 2) (egress : Nat) (hearly : m.ptpDue n kind = false) :
    ptpMessageTimer n kind egress m = m := by
  unfold ptpMessageTimer
  refine if_pos ?_
  rw [show Nat.min kind 2 = kind from Nat.min_eq_left hkind, hearly, Bool.not_false, Bool.or_true]

/-! ### The timeout of a master (R336) -/

/-- A port whose master is gone. -/
def PtpPort.orphaned (p : PtpPort) : PtpPort := { p with best := none, foreign := false, sync := none, pendSync := none }

theorem ptpAnnounceTimeout_of_late (hn : n < 2) (hmode : field (m.rd P.timePtpCfg n) 5 4 ≠ 0) (hbest : (m.ptp n).best ≠ none)
    (hlate : (m.ptp n).annAt + m.annTimeout n ≤ m.now) :
    ptpAnnounceTimeout n m = ((m.setPtp n PtpPort.orphaned).raise (106 + n) 0x0813 (leBytes 1 n)).ptpDecide := by
  have hgoes : (2 ≤ n || field (m.rd P.timePtpCfg n) 5 4 = 0 || m.now < (m.ptp n).annAt + m.annTimeout n) = false := by
    rw [decide_eq_false (not_le.2 hn), decide_eq_false hmode, decide_eq_false (not_lt.2 hlate)]
    rfl
  have hsome : ¬ (m.ptp n).best.isNone = true := fun h => hbest (Option.isNone_iff_eq_none.1 h)
  unfold ptpAnnounceTimeout
  rw [hgoes, if_neg Bool.false_ne_true, if_neg hsome]
  rfl

theorem announceTimeout_yields (hs : s.Canonical) (hn : n < 2) (hlen : s.m.time.ports.length = 2) (hmode : field (s.m.rd P.timePtpCfg n) 5 4 ≠ 0)
    (hbest : (s.m.ptp n).best ≠ none) (hlate : (s.m.ptp n).annAt + s.m.annTimeout n ≤ (s.m.at t).now) :
    s.Yields (.ptpAnnounceTimeout t n) fun m' =>
      (m'.ptp n).best = none ∧ (m'.ptp n).sync = none ∧ (m'.ptp n).pendSync = none
      ∧ (m'.ptp n).st = (if (s.m.rd P.timePtpCfg n).testBit 1 then 4 else 6)
      ∧ (m'.ptp (1 - n)).best = (s.m.ptp (1 - n)).best ∧ m'.time.ofs = s.m.time.ofs
      ∧ Mod.Frame t [.time] ([P.timeFreq.addr, P.timeSlewLeft.addr, P.timeHoldovers.addr, P.timeFlags.addr]
          ++ (List.range 2).map (fun q => P.timePtpState.addr q)) s.m m' := by
  have hlen' : n < (s.m.at t).time.ports.length := hlen ▸ hn
  have hmean := ptpAnnounceTimeout_of_late (m := s.m.at t) hn hmode hbest hlate
  have hptp : ((s.m.at t).setPtp n PtpPort.orphaned).ptp n = (s.m.ptp n).orphaned := Mod.ptp_setPtp_same hlen' _
  have hdecide := Mod.MastersKept.ptpDecide (((s.m.at t).setPtp n PtpPort.orphaned).raise (106 + n) 0x0813 (leBytes 1 n))
  have hst := Mod.ptpDecide_st_of_none (m := ((s.m.at t).setPtp n PtpPort.orphaned).raise (106 + n) 0x0813 (leBytes 1 n)) hs hn
    ((Mod.setPtp_length (s.m.at t) n _).trans hlen) hmode (congrArg PtpPort.best hptp)
  have hwithin : Mod.Within [.time] ptpWords (s.m.at t) (ptpAnnounceTimeout n (s.m.at t)) :=
    hmean ▸ ((Mod.Within.setPtp _ _ _ (by decide)).trans (.raise _ _ _ _)).trans (.ptpDecide _)
  rw [← hmean] at hdecide hst
  have hrun : ∀ k, (Mod.run t (ptpAnnounceTimeout n) s.m).ptp k = (ptpAnnounceTimeout n (s.m.at t)).ptp k := fun k => by
    rw [Mod.ptp, Mod.run_time, Mod.ptp]
  have hport := (hdecide.master n).trans (congrArg PtpPort.master hptp)
  have hother := (hdecide.master (1 - n)).trans (congrArg PtpPort.master (Mod.ptp_setPtp_other (m := s.m.at t) (by omega) PtpPort.orphaned))
  simp only [PtpPort.master, Prod.mk.injEq] at hport hother
  obtain ⟨hbest', -, -, hsync, hpend⟩ := hport
  refine State.yields_run (f := ptpAnnounceTimeout n) rfl ⟨?_, ?_, ?_, ?_, ?_, (congrArg TimeSt.ofs (Mod.run_time _ _ _)).trans hdecide.ofs,
    hwithin.frame⟩
  · rw [hrun, hbest', PtpPort.orphaned]
  · rw [hrun, hsync, PtpPort.orphaned]
  · rw [hrun, hpend, PtpPort.orphaned]
  · rw [hrun]
    exact hst
  · rw [hrun]
    exact hother.1

end

/-! ### The statement -/

/-- Settles O53: each message by its kind, each timer by its kind, and the timeout by the choice of the states after it. -/
theorem ptpPortsFollowMasters : Obligations.PtpPortsFollowMasters := by
  unfold Obligations.PtpPortsFollowMasters
  intro s t n hs hn hports cfg mode p ports sends at_ hmode
  have hlen : n < s.m.time.ports.length := hports ▸ hn
  refine ⟨fun g hdomain hudp => ?received, fun hlive => ?sent, announceTimeout_yields hs hn hports hmode⟩
  case received =>
    have hadmits : (s.m.at t).PtpAdmits n g := ⟨hn, hmode, hdomain, hudp⟩
    refine ⟨fun hkind hst => ?_, fun hkind hpeer => ?_, fun hkind hst hsender htwo => ?_, fun hkind hsender => ?_,
      fun t1 t2 t3 hkind he2e hsender hreq hasked hsync => ?_, fun hkind hbest => ?_⟩
    · exact answers_yields (f := ptpEventMessage n g) rfl hlen (ptpEventMessage_delayReq hadmits hkind hst)
    · exact answers_yields (f := ptpEventMessage n g) rfl hlen (ptpEventMessage_pdelayReq hadmits hkind hpeer)
    · exact port_yields (f := ptpEventMessage n g) rfl hlen (ptpEventMessage_sync hadmits hkind hst hsender htwo)
    · exact nothing_yields (f := ptpEventMessage n g) rfl (ptpEventMessage_stranger hadmits hkind hsender)
    · exact ptpDelay_yields (f := ptpEventMessage n g) rfl hs hlen (ptpEventMessage_delayResp hadmits hkind he2e hsender hreq hasked hsync)
    · exact announce_yields rfl hports ⟨hn, hmode, hdomain, hudp⟩ hkind hbest
  case sent =>
    refine ⟨fun egress hdue hst => ?_, fun egress hdue hst => ?_, fun egress hdue he2e hst => ?_, fun egress hdue hpeer => ?_,
      fun kind egress hkind hearly => ?_⟩
    · exact leaves_yields (f := ptpMessageTimer n 0 egress) rfl hlen (ptpMessageTimer_announce (m := s.m.at t) ⟨hn, hmode, hlive, hdue⟩ egress hst)
    · exact leaves_yields (f := ptpMessageTimer n 1 egress) rfl hlen (ptpMessageTimer_sync (m := s.m.at t) ⟨hn, hmode, hlive, hdue⟩ egress hst)
    · have hmean := ptpMessageTimer_request (m := s.m.at t) ⟨hn, hmode, hlive, hdue⟩ egress (fun _ => hst)
      rw [if_pos (show field ((s.m.at t).rd P.timePtpCfg n) 5 4 = 1 from he2e)] at hmean
      exact leaves_yields (f := ptpMessageTimer n 2 egress) rfl hlen hmean
    · have hmean := ptpMessageTimer_request (m := s.m.at t) ⟨hn, hmode, hlive, hdue⟩ egress (fun he2e => absurd he2e hpeer)
      rw [if_neg (show ¬ field ((s.m.at t).rd P.timePtpCfg n) 5 4 = 1 from hpeer)] at hmean
      exact leaves_yields (f := ptpMessageTimer n 2 egress) rfl hlen hmean
    · exact nothing_yields (f := ptpMessageTimer n kind egress) rfl (ptpMessageTimer_early hkind egress hearly)

end Sys2Proof.Machine
end

section
/-!
PROOFS. The statements of 13_gnss.md: exclusions, corrections, the receiver's commands, bursts and the loss of the solution.
-/
namespace Sys2Proof.Machine

section
variable {as : List Area} {ws : List Nat} {s : State} {t n : Nat} {c : Instr} {f : Mod → Mod} {m : Mod}

/-! ### Exclusions, corrections and GNSS_ACCEPT (R307, R308, R310) -/

theorem gnssDiffStale_of_late {u : Nat} (hcorr : m.gnss.corr = some u) (hfresh : m.gnss.stale = false)
    (hlate : u + m.rd P.gnssDiffAgeMax * 1000000000 < m.now) :
    gnssDiffStale m = ((m.setGnss (fun g => { g with stale := true })).flag P.gnssFlags 2).raise 100 0x0720 (leBytes 1 1) := by
  have hgoes : (!m.gnss.stale && decide (u + m.rd P.gnssDiffAgeMax * 1000000000 < m.now)) = true := by
    rw [hfresh, decide_eq_true hlate]
    rfl
  unfold gnssDiffStale
  rw [hcorr]
  exact if_pos hgoes

/-- A service trigger of block 12, written 1 by a role above 0 on a module that has the receiver. -/
theorem writeCheck_serviceTrigger {p : Param} (hp : p.isTrigger = true) (hfitted : m.isG = true) {role : Nat} (hrole : 1 ≤ role) :
    m.writeCheck role p.addr 1#32 = .ok (p, 0, 0) := by
  obtain ⟨hat, halign, hlow, -, hcls, -, hmask, -⟩ := Param.isTrigger_iff.1 hp
  have hbits : p.bitsOk 0 1#32 = true := by simp [Param.bitsOk, hmask]
  have hvariant : m.rd P.sysVariant = 1 := of_decide_eq_true hfitted
  have hrole' : role ≠ 0 := Nat.one_le_iff_ne_zero.1 hrole
  unfold Mod.writeCheck
  simp [hat, halign, hvariant, Nat.not_le.2 hlow, hcls, hrole', hbits, Param.inRange_trigger hp]

theorem cmdWrite_serviceTrigger {p : Param} (hp : p.isTrigger = true) (hbase : p.base ≠ P.sysRecipeSel.base) (hrun : m.running = true)
    (hfitted : m.isG = true) {role : Nat} (hrole : 1 ≤ role) :
    cmdWrite p 0 role [] 1#32 m = (m.setWord p.addr 1#32).cmdEffect 0 [] p 0 p.addr 1 := by
  obtain ⟨-, -, -, hone, hcls, -⟩ := Param.isTrigger_iff.1 hp
  have hzero : 0 < p.n1 := by omega
  rw [cmdWrite, if_pos hzero]
  exact writeNow_of_cmd [] hrun (writeCheck_serviceTrigger hp hfitted hrole) hcls hbase

theorem Mod.isG_setWord {a : Nat} (ha : a ≠ P.sysVariant.addr) (v : Word) : (m.setWord a v).isG = m.isG := by
  have hread : (m.setWord a v).rd P.sysVariant = m.rd P.sysVariant := congrArg BitVec.toNat (Store.get_put_other _ _ ha.symm)
  unfold Mod.isG
  rw [hread]

theorem Mod.gnssAcceptNow_of_locked (hlock : m.gnss.oscLock = true) : m.gnssAcceptNow =
    (m.setGnss (fun g => { g with oscLock := false, accepted := true, count := 0 })).raise 99 0x071B
      (leBytes 4 (toU 32 ((m.gnss.lastDelta).getD 0))) := if_pos hlock

/-! ### GNSS_COLD (R305) -/

/-- What GNSS_COLD leaves of the receiver: no channel, no trust, no fix and no position. -/
structure GnssSt.Cold (g : GnssSt) : Prop where
  ch : g.ch = List.replicate 64 {}
  trusted : g.trusted = false
  count : g.count = 0
  pos : g.pos = none
  startType : g.startType = 0
  fixes : g.fixes = []
  held : g.held = none
  fix : g.fix = 0
  burst : g.burst = none

/-- The store without what the receiver knew. -/
def Mod.gnssStoreCold (m : Mod) : Mod :=
  { m with nv := { m.nv with gnssAlm := none, gnssEph := [], gnssPos := none, gnssDrift := 0, gnssLeap := 0 } }

/-- The receiver that has forgotten, before it begins to search. -/
def Mod.gnssForgot (m : Mod) : Mod :=
  m.gnssQuiet.setGnss (fun g => { g with pos := none, startType := 0, firstGrant := none, fixes := [], held := none, lastTrust := none })

theorem Mod.gnssColdNow_of_idle (hfitted : m.isG = true) (hidle : m.gnss.started = false) : m.gnssColdNow = m.gnssStoreCold := by
  unfold Mod.gnssColdNow
  rw [hfitted, hidle]
  rfl

theorem Mod.gnssColdNow_of_started (hfitted : m.isG = true) (hstarted : m.gnss.started = true) : m.gnssColdNow =
    if m.sys.gnssMode = 0 then m.gnssStoreCold.gnssForgot else m.gnssStoreCold.gnssForgot.gnssBegin := by
  unfold Mod.gnssColdNow
  rw [hfitted, hstarted]
  rfl

theorem Mod.acqStop_acq (m : Mod) : m.acqStop.gnss.acq = .none := by
  unfold Mod.acqStop
  split
  · rfl
  · rfl
  · assumption

theorem Mod.acqStop_acqEnd (hidle : m.gnss.acq ≠ .active) : m.acqStop.gnss.acqEnd = m.gnss.acqEnd := by
  unfold Mod.acqStop
  split
  · next h => exact absurd h hidle
  · rfl
  · rfl

theorem Mod.Within.acqStop (m : Mod) : Mod.Within [.gnss, .toll] ws m m.acqStop := by
  unfold Mod.acqStop
  split
  · exact (Mod.Within.setGnss _ _ (by decide)).trans (.endGrant _ _ (by decide))
  · exact (Mod.Within.setGnss _ _ (by decide)).trans (.unask _ _ (by decide))
  · exact .refl m

theorem Mod.gnssForgot_cold (m : Mod) : m.gnssForgot.gnss.Cold := ⟨rfl, rfl, rfl, rfl, rfl, rfl, rfl, rfl, rfl⟩

theorem Mod.Within.gnssForgot (m : Mod) : Mod.Within [.gnss, .toll] ws m m.gnssForgot :=
  ((Mod.Within.acqStop m).trans (.setGnss _ _ (by decide))).trans (.setGnss _ _ (by decide))

/-- Without a stored position the receiver starts cold. -/
theorem Mod.startType_of_unknown (hpos : m.nv.gnssPos = none) : m.startType = (0, m.draw.2) := by
  unfold Mod.startType
  dsimp only
  rw [hpos]
  exact if_pos rfl

/-- The beginning of a search that starts cold, before KEEP-TIME and the session. -/
def Mod.gnssBegun (m : Mod) : Mod :=
  (m.draw.2.setGnss (fun g => { g with startType := 0, firstGrant := none, firstFix := false, continuous := 0, lost := false })).trackBegin

theorem Mod.gnssBegin_of_unknown (hpos : m.nv.gnssPos = none) :
    m.gnssBegin = (if m.sys.gnssMode = 2 then m.gnssBegun.keepTime else m.gnssBegun).acqAsk := by
  unfold Mod.gnssBegin
  rw [Mod.startType_of_unknown hpos]
  rfl

theorem Mod.gnssBegun_cold (hcold : m.gnss.Cold) : m.gnssBegun.gnss.Cold := by
  obtain ⟨hch, htrusted, hcount, hpos, -, hfixes, hheld, hfix, hburst⟩ := hcold
  exact ⟨hch, htrusted, hcount, hpos, rfl, hfixes, hheld, hfix, hburst⟩

theorem Mod.Within.trackBegin (m : Mod) (hgnss : Area.gnss ∈ as) : Mod.Within as ws m m.trackBegin := .setGnss _ _ hgnss

/-- KEEP-TIME without a fix: no position is held, and the receiver tracks continuously. -/
theorem Mod.keepTime_of_cold (hcold : m.gnss.Cold) : m.keepTime =
    ((m.setGnss (fun g => { g with held := none, untrustedBursts := 0, burstSec := some m.burstSecond })).setGnss
      (fun g => { g with continuous := 1, lossFrom := m.now })).raise 101 0x0729 (leBytes 1 1) := by
  unfold Mod.keepTime
  rw [hcold.fixes, hcold.held]
  rfl

/-- The search as it stands where its session is asked for. -/
def Mod.gnssSearch (m : Mod) : Mod := if m.sys.gnssMode = 2 then m.gnssBegun.keepTime else m.gnssBegun

theorem Mod.gnssSearch_keeps (hcold : m.gnss.Cold) : m.gnssSearch.gnss.Cold ∧ m.gnssSearch.gnss.firstFix = false
    ∧ m.gnssSearch.gnss.acq = m.gnss.acq ∧ m.gnssSearch.gnss.acqEnd = m.gnss.acqEnd ∧ Mod.Within [.gnss, .free] ws m m.gnssSearch := by
  have hbegun := Mod.gnssBegun_cold hcold
  have hwithin : Mod.Within [.gnss, .free] ws m m.gnssBegun :=
    ((Mod.Within.draw _ (by decide)).trans (.setGnss _ _ (by decide))).trans (.trackBegin _ (by decide))
  unfold Mod.gnssSearch
  split
  · have hkeep : Mod.Within [.gnss, .free] ws m.gnssBegun m.gnssBegun.keepTime := by
      rw [Mod.keepTime_of_cold hbegun]
      exact ((Mod.Within.setGnss _ _ (by decide)).trans (.setGnss _ _ (by decide))).trans (.raise _ _ _ _)
    have hwhole := hwithin.trans hkeep
    obtain ⟨hch, htrusted, hcount, hpos, hstart, hfixes, -, hfix, hburst⟩ := hbegun
    rw [Mod.keepTime_of_cold (Mod.gnssBegun_cold hcold)] at hwhole ⊢
    exact ⟨⟨hch, htrusted, hcount, hpos, hstart, hfixes, rfl, hfix, hburst⟩, rfl, rfl, rfl, hwhole⟩
  · exact ⟨hbegun, rfl, rfl, rfl, hwithin⟩

theorem Mod.acqAsk_keeps (m : Mod) : ∃ acq at_ owed, m.acqAsk.gnss = { m.gnss with acq := acq, acqAt := at_, owed := owed } := by
  unfold Mod.acqAsk
  split
  · exact ⟨.asked, m.now, false, Mod.ask_gnss ..⟩
  split
  · exact ⟨m.gnss.acq, m.gnss.acqAt, true, rfl⟩
  · exact ⟨m.gnss.acq, m.gnss.acqAt, m.gnss.owed, rfl⟩

theorem Mod.Within.acqAsk (m : Mod) : Mod.Within [.gnss, .toll] ws m m.acqAsk := by
  unfold Mod.acqAsk
  split
  · exact .acqAsked m
  split
  · exact .setGnss _ _ (by decide)
  · exact .refl m

theorem Mod.acqAsk_cold (hcold : m.gnss.Cold) : m.acqAsk.gnss.Cold := by
  obtain ⟨acq, at_, owed, hask⟩ := m.acqAsk_keeps
  obtain ⟨hch, htrusted, hcount, hpos, hstart, hfixes, hheld, hfix, hburst⟩ := hcold
  rw [hask]
  exact ⟨hch, htrusted, hcount, hpos, hstart, hfixes, hheld, hfix, hburst⟩

/-- Everything that GNSS_COLD leaves of a receiver that runs. -/
theorem Mod.gnssBegin_cold (hcold : m.gnss.Cold) (hpos : m.nv.gnssPos = none) : m.gnssBegin.gnss.Cold ∧ m.gnssBegin.gnss.firstFix = false
    ∧ Mod.Within [.gnss, .toll, .free] ws m m.gnssBegin := by
  obtain ⟨hsearch, hfirst, -, -, hwithin⟩ := Mod.gnssSearch_keeps (ws := ws) hcold
  obtain ⟨acq, at_, owed, hask⟩ := m.gnssSearch.acqAsk_keeps
  rw [Mod.gnssBegin_of_unknown hpos]
  refine ⟨Mod.acqAsk_cold hsearch, ?_, (hwithin.mono (by decide) (List.Subset.refl _)).trans
    ((Mod.Within.acqAsk _).mono (by decide) (List.Subset.refl _))⟩
  exact (congrArg GnssSt.firstFix hask).trans hfirst

/-- Where a session is due, the receiver that begins to search asks for one. -/
theorem Mod.gnssBegin_asks (hwf : Store.wf m.regs = true) (hcold : m.gnss.Cold) (hpos : m.nv.gnssPos = none) (hnone : m.gnss.acq = .none)
    (hdue : m.acqDue = true) : m.gnssBegin.gnss.acq = .asked ∧ m.gnssBegin.asking .gnss = true := by
  obtain ⟨-, -, hacq, hend, hwithin⟩ := Mod.gnssSearch_keeps (ws := []) hcold
  have hdue' : m.gnssSearch.acqDue = true := by
    rw [Mod.acqDue_iff, hend, hwithin.rd_eq hwf (by decide) (by decide), hwithin.now]
    exact Mod.acqDue_iff.1 hdue
  have hbegin : m.gnssBegin = m.gnssSearch.acqAsked :=
    (Mod.gnssBegin_of_unknown hpos).trans (Mod.acqAsk_of_due (hacq.trans hnone) hdue')
  rw [hbegin]
  exact ⟨congrArg GnssSt.acq (Mod.ask_gnss ..), Mod.asking_ask ..⟩

/-- The receiver that GNSS_COLD starts again. -/
def Mod.gnssRestart (m : Mod) : Mod := if m.sys.gnssMode = 0 then m.gnssForgot else m.gnssForgot.gnssBegin

theorem Mod.gnssForgot_nv (m : Mod) : m.gnssForgot.nv = m.nv := by
  unfold Mod.gnssForgot Mod.gnssQuiet Mod.acqStop
  split <;> rfl

theorem Mod.Within.gnssRestart (hpos : m.nv.gnssPos = none) : Mod.Within [.gnss, .toll, .free] ws m m.gnssRestart := by
  have hforgot : Mod.Within [.gnss, .toll, .free] ws m m.gnssForgot := (Mod.Within.gnssForgot m).mono (by decide) (List.Subset.refl _)
  unfold Mod.gnssRestart
  split
  · exact hforgot
  · exact hforgot.trans (Mod.gnssBegin_cold m.gnssForgot_cold (by rw [Mod.gnssForgot_nv, hpos])).2.2

theorem Mod.gnssRestart_cold (hpos : m.nv.gnssPos = none) : m.gnssRestart.gnss.Cold := by
  unfold Mod.gnssRestart
  split
  · exact m.gnssForgot_cold
  · exact (Mod.gnssBegin_cold (ws := []) m.gnssForgot_cold (by rw [Mod.gnssForgot_nv, hpos])).1

theorem Mod.gnssRestart_of_off (hoff : m.sys.gnssMode = 0) : m.gnssRestart.gnss.acq = .none := by
  rw [Mod.gnssRestart, if_pos hoff]
  exact m.acqStop_acq

theorem Mod.gnssRestart_firstFix (hon : m.sys.gnssMode ≠ 0) (hpos : m.nv.gnssPos = none) : m.gnssRestart.gnss.firstFix = false := by
  rw [Mod.gnssRestart, if_neg hon]
  exact (Mod.gnssBegin_cold (ws := []) m.gnssForgot_cold (by rw [Mod.gnssForgot_nv, hpos])).2.1

theorem Mod.gnssRestart_asks (hwf : Store.wf m.regs = true) (hon : m.sys.gnssMode ≠ 0) (hpos : m.nv.gnssPos = none)
    (hidle : m.gnss.acq ≠ .active) (hdue : m.acqDue = true) : m.gnssRestart.gnss.acq = .asked ∧ m.gnssRestart.asking .gnss = true := by
  have hwithin : Mod.Within [.gnss, .toll] [] m m.gnssForgot := .gnssForgot m
  have hend : m.gnssForgot.gnss.acqEnd = m.gnss.acqEnd := Mod.acqStop_acqEnd hidle
  rw [Mod.gnssRestart, if_neg hon]
  refine Mod.gnssBegin_asks (hwithin.wf hwf) m.gnssForgot_cold (by rw [Mod.gnssForgot_nv, hpos]) m.acqStop_acq ?_
  rw [Mod.acqDue_iff, hend, hwithin.rd_eq hwf (by decide) (by decide), hwithin.now]
  exact Mod.acqDue_iff.1 hdue

/-! ### Bursts (R314) and the loss of the solution (R316) -/

theorem gnssBurstStart_of_due (hon : m.gnssOn = true) (hmode : m.sys.gnssMode = 2) (hcont : m.gnss.continuous = 0) (hnone : m.gnss.burst = none)
    (hnow : m.burstNow = true) (hfirst : m.gnss.burstSec ≠ some m.burstSecond) : gnssBurstStart m =
      (m.setGnss (fun g => { g with burst := some m.now, burstSec := some m.burstSecond,
                                    ch := g.ch.map (fun c => if c.st = 2 then { c with st := 1 } else c) })).inc P.gnssBursts := by
  unfold gnssBurstStart
  rw [hon, decide_eq_true hmode, decide_eq_true hcont, hnone, hnow, decide_eq_true hfirst]
  rfl

theorem Mod.ptpForeigned_avail (m : Mod) (n : Nat) : (m.ptpForeigned n).time.gnssAvail = m.time.gnssAvail := by
  unfold Mod.ptpForeigned
  split <;> rfl

theorem Mod.gnssAvailable_avail (m : Mod) (yes : Bool) : (m.gnssAvailable yes).time.gnssAvail = yes :=
  (Mod.chooseSource_kept _).gnssAvail.trans ((Mod.ptpForeigned_avail _ 1).trans (Mod.ptpForeigned_avail _ 0))

theorem Mod.Within.gnssAvailable (m : Mod) (yes : Bool) : Mod.Within [.time] srcWords m (m.gnssAvailable yes) :=
  ((Mod.Within.ofTime _ _ (by decide)).trans (.ptpForeign _)).trans (.chooseSource _)

/-- The receiver that has lost its solution. -/
def Mod.gnssLost (m : Mod) : Mod :=
  m.setGnss (fun g => { g with lost := true, trusted := false, count := if g.trusted then 0 else g.count })

def Mod.gnssLossCause (m : Mod) : Nat := if m.gnss.ch.any (fun c => c.st = 2) then 2 else 1

theorem gnssLoss_of_late (hon : m.gnssOn = true) (hmode : m.sys.gnssMode = 1) (hheld : m.gnss.lost = false)
    (hlate : Nat.max (m.gnss.lastTrust.getD 0) m.gnss.lossFrom + m.rd P.gnssLossMs * 1000000 ≤ m.now) : gnssLoss m =
      (((m.gnssLost.inc P.gnssLosses).flag P.gnssFlags 16).raise 98 0x0710 (leBytes 1 m.gnssLossCause)).gnssAvailable false := by
  unfold gnssLoss
  dsimp only
  rw [hon, decide_eq_true hmode, hheld, decide_eq_true hlate]
  rfl

end

/-! ### The statement -/

/-- Settles O50: each command by its effect; the restart after GNSS_COLD by what every step of it keeps. -/
theorem receiverStateFollowsEvents : Obligations.ReceiverStateFollowsEvents := by
  unfold Obligations.ReceiverStateFollowsEvents
  intro s t hs now g
  refine ⟨fun sys prn => ?expire, fun u hcorr hfresh hlate => ?stale, fun role hrole hrun hfitted => ?commands,
    fun hon hmode hcont hnone hnow hfirst => ?burst, fun hon hmode hheld hlate => ?loss⟩
  case expire =>
    refine State.yields_run (f := gnssExclusionExpire sys prn) rfl ⟨fun e => ?_, ?_, (Mod.Within.setGnss (s.m.at t) _ (by decide)).frame⟩
    · rw [Mod.run_gnss]
      simp only [gnssExclusionExpire, Mod.setGnss, List.mem_filter, Bool.not_eq_true', Bool.and_eq_false_iff, decide_eq_false_iff_not]
      tauto
    · rw [Mod.run_gnss]
      rfl
  case stale =>
    have hmean := gnssDiffStale_of_late (m := s.m.at t) hcorr hfresh hlate
    refine State.yields_run (f := gnssDiffStale) rfl ⟨?_, ?_, ?_⟩
    · rw [Mod.run_gnss, hmean]
      rfl
    · exact testBit_gnssFlags (x := (s.m.at t).setGnss (fun g => { g with stale := true })) (b := 2) hs (by rw [hmean]; rfl) (by decide : Nat.testBit 2 1 = true) (by decide)
    · exact (hmean ▸ ((Mod.Within.setGnss _ _ (by decide)).trans (.flag _ _ _ _ (by decide))).trans (.raise _ _ _ _) :
        Mod.Within [.gnss] [P.gnssFlags.addr] (s.m.at t) (gnssDiffStale (s.m.at t))).frame
  case commands =>
    have hfitted' : ((s.m.at t).setWord P.gnssCold.addr 1#32).isG = (s.m.at t).isG := Mod.isG_setWord (by decide) _
    refine ⟨fun hlock => ?accept, fun hstarted => ?cold, fun hidle => ?store⟩
    case accept =>
      have hmean := (cmdWrite_serviceTrigger (p := P.gnssAccept) (m := s.m.at t) rfl (by decide) hrun hfitted hrole).trans
        (Mod.gnssAcceptNow_of_locked (m := (s.m.at t).setWord P.gnssAccept.addr 1#32) hlock)
      exact gnss_yields (f := cmdWrite P.gnssAccept 0 role [] 1#32) rfl hmean
        (((Mod.Within.setWord _ _ _ (by decide)).trans (.setGnss _ _ (by decide))).trans (.raise _ _ _ _))
    case cold =>
      have hmean := (cmdWrite_serviceTrigger (p := P.gnssCold) (m := s.m.at t) rfl (by decide) hrun hfitted hrole).trans
        (Mod.gnssColdNow_of_started (m := (s.m.at t).setWord P.gnssCold.addr 1#32) (hfitted' ▸ hfitted) hstarted)
      have hstore : Mod.Within [.nv] [P.gnssCold.addr] (s.m.at t) ((s.m.at t).setWord P.gnssCold.addr 1#32).gnssStoreCold :=
        (Mod.Within.setWord _ _ _ (by decide)).trans (.ofNv _ _ (by decide))
      have hrest := Mod.Within.gnssRestart (ws := [P.gnssCold.addr]) (m := ((s.m.at t).setWord P.gnssCold.addr 1#32).gnssStoreCold) rfl
      have hcold := Mod.gnssRestart_cold (m := ((s.m.at t).setWord P.gnssCold.addr 1#32).gnssStoreCold) rfl
      have hmean' : cmdWrite P.gnssCold 0 role [] 1#32 (s.m.at t) = ((s.m.at t).setWord P.gnssCold.addr 1#32).gnssStoreCold.gnssRestart := hmean
      have hwithin := (hstore.mono (as' := [.gnss, .nv, .toll, .free]) (by decide) (List.Subset.refl _)).trans (hrest.mono (by decide) (List.Subset.refl _))
      have hnv := Mod.run_nv t (cmdWrite P.gnssCold 0 role [] 1#32) s.m
      have hkept := hrest.areas .nv (by decide)
      obtain ⟨hch, htrusted, hcount, hpos, hstart, hfixes, hheld, hfix, hburst⟩ := hcold
      have hgnss : (Mod.run t (cmdWrite P.gnssCold 0 role [] 1#32) s.m).gnss
          = ((s.m.at t).setWord P.gnssCold.addr 1#32).gnssStoreCold.gnssRestart.gnss := (Mod.run_gnss _ _ _).trans (congrArg Mod.gnss hmean')
      rw [hmean', hkept] at hnv
      rw [← hmean'] at hwithin
      refine State.yields_run (f := cmdWrite P.gnssCold 0 role [] 1#32) rfl ⟨by rw [hnv]; rfl, by rw [hnv]; rfl, by rw [hnv]; rfl,
        by rw [hnv]; rfl, by rw [hnv]; rfl, hgnss ▸ hch, hgnss ▸ htrusted, hgnss ▸ hcount, hgnss ▸ hpos, hgnss ▸ hstart, hgnss ▸ hfixes,
        hgnss ▸ hheld, hgnss ▸ hfix, hgnss ▸ hburst, fun hon => ⟨?_, fun hidle hdue => ?_⟩, fun hoff => ?_, by rw [hnv]; rfl, by rw [hnv]; rfl,
        hwithin.frame⟩
      · rw [hgnss]
        exact Mod.gnssRestart_firstFix hon rfl
      · have hdue' : ((s.m.at t).setWord P.gnssCold.addr 1#32).gnssStoreCold.acqDue = true := by
          rw [Mod.acqDue_iff, hstore.rd_eq hs (by decide) (by decide), hstore.now]
          exact hdue
        obtain ⟨hacq, hasking⟩ := Mod.gnssRestart_asks (hstore.wf hs) hon rfl hidle hdue'
        exact ⟨hgnss ▸ hacq, (Mod.asking_congr ((Mod.run_toll _ _ _).trans (congrArg Mod.toll hmean')) _).trans hasking⟩
      · rw [hgnss]
        exact Mod.gnssRestart_of_off hoff
    case store =>
      have hmean := (cmdWrite_serviceTrigger (p := P.gnssCold) (m := s.m.at t) rfl (by decide) hrun hfitted hrole).trans
        (Mod.gnssColdNow_of_idle (m := (s.m.at t).setWord P.gnssCold.addr 1#32) (hfitted' ▸ hfitted) hidle)
      have hwithin : Mod.Within [.nv] [P.gnssCold.addr] (s.m.at t) (cmdWrite P.gnssCold 0 role [] 1#32 (s.m.at t)) :=
        hmean ▸ (Mod.Within.setWord _ _ _ (by decide)).trans (.ofNv _ _ (by decide))
      have hnv := (Mod.run_nv t (cmdWrite P.gnssCold 0 role [] 1#32) s.m)
      rw [hmean] at hnv
      refine State.yields_run (f := cmdWrite P.gnssCold 0 role [] 1#32) rfl ⟨?_, ?_, ?_, ?_, ?_, ?_, ?_, hwithin.frame⟩ <;> rw [hnv] <;> rfl
  case burst =>
    have hmean := gnssBurstStart_of_due (m := s.m.at t) hon hmode hcont hnone hnow hfirst
    refine State.yields_run (f := gnssBurstStart) rfl ⟨?_, ?_, ?_⟩
    · rw [Mod.run_gnss, hmean]
      rfl
    · exact count_of_run (x := s.m.at t) hs rfl (by decide) (hmean ▸ rfl) rfl
    · exact (hmean ▸ (Mod.Within.setGnss _ _ (by decide)).trans (.inc _ _ _ _ _ (by decide)) :
        Mod.Within [.gnss] [P.gnssBursts.addr] (s.m.at t) (gnssBurstStart (s.m.at t))).frame
  case loss =>
    have hmean := gnssLoss_of_late (m := s.m.at t) hon hmode hheld hlate
    have hown : Mod.Within [.gnss] [P.gnssLosses.addr, P.gnssFlags.addr] (s.m.at t)
        ((((s.m.at t).gnssLost.inc P.gnssLosses).flag P.gnssFlags 16).raise 98 0x0710 (leBytes 1 (s.m.at t).gnssLossCause)) :=
      (((Mod.Within.setGnss _ _ (by decide)).trans (.inc _ _ _ _ _ (by decide))).trans (.flag _ _ _ _ (by decide))).trans (.raise _ _ _ _)
    have htime := Mod.Within.gnssAvailable
      ((((s.m.at t).gnssLost.inc P.gnssLosses).flag P.gnssFlags 16).raise 98 0x0710 (leBytes 1 (s.m.at t).gnssLossCause)) false
    have hwithin := (hown.mono (as' := [.gnss, .time]) (ws' := [P.gnssLosses.addr, P.gnssFlags.addr, P.timeFreq.addr, P.timeSlewLeft.addr,
      P.timeHoldovers.addr, P.timeFlags.addr]) (by decide) (by decide)).trans (htime.mono (by decide) (by decide))
    rw [← hmean] at hwithin
    refine State.yields_run (f := gnssLoss) rfl ⟨?_, ?_, ?_, hwithin.frame⟩
    · rw [Mod.run_gnss, hmean]
      exact htime.areas .gnss (by decide)
    · rw [Mod.run_time, hmean, Mod.gnssAvailable_avail]
    · refine count_of_run (x := s.m.at t) hs rfl (by decide) ?_ rfl
      rw [hmean, htime.rd_eq (hown.wf hs) (by decide) (by decide), Mod.rd_raise, Mod.rd_flag_other (by decide)]
      exact Mod.rd_congr rfl _ _ _

end Sys2Proof.Machine
end

section
/-!
PROOFS. The statements of 13_gnss.md: what a solution's checks find, and what a solution that passes leaves.
-/
namespace Sys2Proof.Machine

section
variable {as : List Area} {ws : List Nat} {s : State} {t n : Nat} {c : Instr} {f : Mod → Mod} {m : Mod} {h : GnssSt}

/-! ### What the checks look at (R306, R308, R309) -/

/-- What the checks read of a channel. -/
def GCh.seen (c : GCh) : Nat × Nat × Nat × Nat × Nat := (c.st, c.sig, c.prn, c.cn0, c.el)

/-- Two receivers that the checks cannot tell apart. -/
structure GnssSt.Alike (g h : GnssSt) : Prop where
  excl : h.excl = g.excl
  lastDelta : h.lastDelta = g.lastDelta
  accepted : h.accepted = g.accepted
  length : h.ch.length = g.ch.length
  seen : ∀ i, (h.ch.getD i {}).seen = (g.ch.getD i {}).seen

theorem GnssSt.Alike.channel {g h : GnssSt} (k : g.Alike h) (i : Nat) : (h.ch.getD i {}).st = (g.ch.getD i {}).st
    ∧ (h.ch.getD i {}).sig = (g.ch.getD i {}).sig ∧ (h.ch.getD i {}).prn = (g.ch.getD i {}).prn
    ∧ (h.ch.getD i {}).cn0 = (g.ch.getD i {}).cn0 ∧ (h.ch.getD i {}).el = (g.ch.getD i {}).el := by
  have hseen := k.seen i
  simp only [GCh.seen, Prod.mk.injEq] at hseen
  exact hseen

/-- The module with another receiver. -/
def Mod.withGnss (m : Mod) (h : GnssSt) : Mod := { m with gnss := h }

theorem Mod.withGnss_satOut (k : m.gnss.Alike h) (sys prn : Nat) : (m.withGnss h).satOut sys prn = m.satOut sys prn := by
  unfold Mod.satOut
  rw [show (m.withGnss h).gnss.excl = m.gnss.excl from k.excl]
  rfl

theorem Mod.withGnss_usable (k : m.gnss.Alike h) (l : List GResid) : (m.withGnss h).usable l = m.usable l := by
  refine List.filter_congr fun x _ => ?_
  obtain ⟨hst, hsig, hprn, hcn0, hel⟩ := k.channel x.ch
  dsimp only
  rw [Mod.withGnss_satOut k, show ((m.withGnss h).gnss.ch.getD x.ch {}) = h.ch.getD x.ch {} from rfl, hst, hsig, hprn, hcn0, hel]
  rfl

theorem Mod.withGnss_unknowns (k : m.gnss.Alike h) (timeOnly : Bool) (l : List GResid) :
    (m.withGnss h).unknowns timeOnly l = m.unknowns timeOnly l := by
  have hany : ∀ sys, l.any (fun x => sysOf ((m.withGnss h).gnss.ch.getD x.ch {}).sig = sys)
      = l.any (fun x => sysOf (m.gnss.ch.getD x.ch {}).sig = sys) := fun sys => by
    refine congrArg l.any (funext fun x => ?_)
    rw [show ((m.withGnss h).gnss.ch.getD x.ch {}).sig = (m.gnss.ch.getD x.ch {}).sig from (k.channel x.ch).2.1]
  unfold Mod.unknowns
  simp only [hany]

theorem Mod.withGnss_normResid (k : m.gnss.Alike h) (x : GResid) : (m.withGnss h).normResid x = m.normResid x := by
  obtain ⟨-, -, -, hcn0, hel⟩ := k.channel x.ch
  unfold Mod.normResid Mod.sigmaOf
  rw [show ((m.withGnss h).gnss.ch.getD x.ch {}) = h.ch.getD x.ch {} from rfl, hcn0, hel]
  rfl

theorem Mod.withGnss_residOk (k : m.gnss.Alike h) (timeOnly : Bool) (l : List GResid) :
    (m.withGnss h).residOk timeOnly l = m.residOk timeOnly l := by
  unfold Mod.residOk
  simp only [Mod.withGnss_unknowns k, Mod.withGnss_normResid k]
  rfl

theorem Mod.withGnss_worst (k : m.gnss.Alike h) (l : List GResid) : (m.withGnss h).worst l = m.worst l := by
  unfold Mod.worst
  simp only [Mod.withGnss_normResid k]

/-- The receiver without a satellite, until its time is over. -/
def Mod.excluding (m : Mod) (x : GResid) (g : GnssSt) : GnssSt :=
  { g with excl := g.excl.filter (fun e => !(e.1 = sysOf (m.gnss.ch.getD x.ch {}).sig && e.2.1 = (m.gnss.ch.getD x.ch {}).prn))
                   ++ [(sysOf (m.gnss.ch.getD x.ch {}).sig, (m.gnss.ch.getD x.ch {}).prn, m.now + m.rd P.gnssExclHoldS * 1000000000)] }

theorem Mod.withGnss_exclude (k : m.gnss.Alike h) (x : GResid) : (m.withGnss h).exclude x = (m.exclude x).withGnss (m.excluding x h) := by
  obtain ⟨-, hsig, hprn, -, -⟩ := k.channel x.ch
  unfold Mod.exclude
  rw [Mod.withGnss_normResid k, show ((m.withGnss h).gnss.ch.getD x.ch {}) = h.ch.getD x.ch {} from rfl]
  dsimp only
  rw [hsig, hprn]
  rfl

theorem Mod.exclude_alike (k : m.gnss.Alike h) (x : GResid) : (m.exclude x).gnss.Alike (m.excluding x h) :=
  ⟨congrArg (fun l : List (Nat × Nat × Nat) => l.filter _ ++ _) k.excl, k.lastDelta, k.accepted, k.length, k.seen⟩

/-! The residual check, by what it meets. -/

section
variable {timeOnly : Bool} {l : List GResid} {more : List (List GResid)} {x : GResid}

theorem Mod.residCheck_of_ok (hok : m.residOk timeOnly (m.usable l) = true) :
    Mod.residCheck timeOnly n (l :: more) m = (m.usable l, true, m) := by
  rw [Mod.residCheck.eq_def]
  exact if_pos hok

/-- No satellite may be removed any more, or there is none. -/
theorem Mod.residCheck_of_end (hbad : m.residOk timeOnly (m.usable l) = false) (hend : n = 0 ∨ m.worst (m.usable l) = none) :
    Mod.residCheck timeOnly n (l :: more) m = (m.usable l, false, m) := by
  rw [Mod.residCheck.eq_def]
  dsimp only
  rw [hbad, if_neg Bool.false_ne_true]
  obtain rfl | hnone := hend
  · rfl
  · rw [hnone]
    cases n <;> rfl

theorem Mod.residCheck_of_last (hbad : m.residOk timeOnly (m.usable l) = false) (hworst : m.worst (m.usable l) = some x) :
    Mod.residCheck timeOnly (n + 1) [l] m = ((m.usable l).filter (fun y => y.ch ≠ x.ch), false, m.exclude x) := by
  rw [Mod.residCheck.eq_def]
  dsimp only
  rw [hbad, if_neg Bool.false_ne_true, hworst]

theorem Mod.residCheck_of_worst {l' : List GResid} (hbad : m.residOk timeOnly (m.usable l) = false) (hworst : m.worst (m.usable l) = some x) :
    Mod.residCheck timeOnly (n + 1) (l :: l' :: more) m = Mod.residCheck timeOnly n (l' :: more) (m.exclude x) := by
  rw [Mod.residCheck.eq_def]
  dsimp only
  rw [hbad, if_neg Bool.false_ne_true, hworst]

/-- What every step of the residual check keeps and every removal keeps, the check keeps. -/
theorem Mod.residCheck_induct {motive : Mod → Mod → Prop} (hrefl : ∀ a, motive a a) (hexclude : ∀ a b x, motive (a.exclude x) b → motive a b)
    (timeOnly : Bool) (tries : List (List GResid)) : ∀ n m, motive m (Mod.residCheck timeOnly n tries m).2.2 := by
  induction tries with
  | nil =>
    intro n m
    cases n <;> exact hrefl m
  | cons l more ih =>
    intro n m
    cases hpass : m.residOk timeOnly (m.usable l) with
    | true =>
      rw [Mod.residCheck_of_ok hpass]
      exact hrefl m
    | false =>
      by_cases hend : n = 0 ∨ m.worst (m.usable l) = none
      · rw [Mod.residCheck_of_end hpass hend]
        exact hrefl m
      · obtain ⟨hn, hx⟩ := not_or.1 hend
        obtain ⟨k, rfl⟩ := Nat.exists_eq_succ_of_ne_zero hn
        obtain ⟨x, hx⟩ := Option.ne_none_iff_exists'.1 hx
        cases more with
        | nil =>
          rw [Mod.residCheck_of_last hpass hx]
          exact hexclude m _ x (hrefl _)
        | cons l' more =>
          rw [Mod.residCheck_of_worst hpass hx]
          exact hexclude m _ x (ih k (m.exclude x))

end

/-- The residual check finds the same in receivers that it cannot tell apart. -/
theorem Mod.withGnss_residCheck (timeOnly : Bool) (tries : List (List GResid)) : ∀ (m : Mod) (h : GnssSt) (n : Nat), m.gnss.Alike h →
    (Mod.residCheck timeOnly n tries (m.withGnss h)).1 = (Mod.residCheck timeOnly n tries m).1
    ∧ (Mod.residCheck timeOnly n tries (m.withGnss h)).2.1 = (Mod.residCheck timeOnly n tries m).2.1 := by
  induction tries with
  | nil =>
    intro m h n _
    cases n <;> exact ⟨rfl, rfl⟩
  | cons l more ih =>
    intro m h n k
    have husable := Mod.withGnss_usable k l
    have hok := Mod.withGnss_residOk k timeOnly (m.usable l)
    have hworst := Mod.withGnss_worst k (m.usable l)
    rw [← husable] at hok hworst
    cases hpass : m.residOk timeOnly (m.usable l) with
    | true =>
      rw [Mod.residCheck_of_ok hpass, Mod.residCheck_of_ok (hok.trans (husable ▸ hpass)), husable]
      exact ⟨rfl, rfl⟩
    | false =>
      have hbad := hok.trans (husable ▸ hpass)
      by_cases hend : n = 0 ∨ m.worst (m.usable l) = none
      · rw [Mod.residCheck_of_end hpass hend, Mod.residCheck_of_end hbad (by rwa [hworst, husable]), husable]
        exact ⟨rfl, rfl⟩
      · obtain ⟨hn, hx⟩ := not_or.1 hend
        obtain ⟨j, rfl⟩ := Nat.exists_eq_succ_of_ne_zero hn
        obtain ⟨x, hx⟩ := Option.ne_none_iff_exists'.1 hx
        have hx' : (m.withGnss h).worst ((m.withGnss h).usable l) = some x := by rw [hworst, husable, hx]
        cases more with
        | nil =>
          rw [Mod.residCheck_of_last hpass hx, Mod.residCheck_of_last hbad hx', husable]
          exact ⟨rfl, rfl⟩
        | cons l' more =>
          rw [Mod.residCheck_of_worst hpass hx, Mod.residCheck_of_worst hbad hx', Mod.withGnss_exclude k x]
          exact ih (m.exclude x) (m.excluding x h) j (Mod.exclude_alike k x)

/-- So do all checks: they look at no more. -/
theorem Mod.withGnss_checkSol (k : m.gnss.Alike h) (timeOnly : Bool) (g : GnssSol) :
    ((m.withGnss h).checkSol timeOnly g).1 = (m.checkSol timeOnly g).1 := by
  obtain ⟨hused, hok⟩ := Mod.withGnss_residCheck timeOnly g.tries m h (m.rd P.gnssExclMax) k
  unfold Mod.checkSol
  dsimp only
  rw [show (m.withGnss h).rd P.gnssExclMax = m.rd P.gnssExclMax from rfl, hused, hok,
    show (m.withGnss h).gnss.lastDelta = m.gnss.lastDelta from k.lastDelta, show (m.withGnss h).gnss.accepted = m.gnss.accepted from k.accepted]
  rfl

/-! ### The sample stream and the channels' reports (R18, R302, R319) -/

/-- The count of lost blocks, in the receiver. -/
def GnssSt.losing (n : Nat) (g : GnssSt) : GnssSt := { g with blocksLost := g.blocksLost + n }

theorem Mod.withGnss_streamLost (m : Mod) (h : GnssSt) (n : Nat) :
    (m.withGnss h).streamLost n = (m.streamLost n).withGnss (h.losing n) := by
  unfold Mod.streamLost
  split
  · next hn => rw [hn]; rfl
  · rfl

theorem Mod.streamLost_gnss (m : Mod) (n : Nat) : (m.streamLost n).gnss = m.gnss.losing n := by
  unfold Mod.streamLost
  split
  · next hn => rw [hn]; rfl
  · rfl

/-- A report of a channel, as its channel takes it. -/
def Mod.reported? (m : Mod) (r : GReport) (c : GCh) : GCh :=
  { c with cn0 := r.cn0 % 256, az := r.az % 65536, el := r.el % 65536, corr := r.corr, disc := discOf (m.rd P.gnssMpMode) r.corr,
           code := Config.codeLoop (m.rd P.gnssDllBw) (Config.carrierLoop (m.rd P.gnssPllBw) c.carrier (r.corr.getD 3 0)) c.code
             (discOf (m.rd P.gnssMpMode) r.corr),
           carrier := Config.carrierLoop (m.rd P.gnssPllBw) c.carrier (r.corr.getD 3 0) }

theorem Mod.takeReports_cons (m : Mod) (r : GReport) (l : List GReport) :
    m.takeReports (r :: l) = (m.setGch r.ch (m.reported? r)).takeReports l := rfl

section
variable {α : Type} {l : List α} {i j : Nat} {d : α} {F : α → α}

theorem length_updAt (l : List α) (i : Nat) (F : α → α) : (updAt l i F).length = l.length := List.length_modify _ _ _

theorem getD_updAt_same (hi : i < l.length) : (updAt l i F).getD i d = F (l.getD i d) := by simp [updAt, hi]

theorem getD_updAt_other (hij : i ≠ j) : (updAt l i F).getD j d = l.getD j d := by simp [updAt, hij]

theorem updAt_of_le (hi : l.length ≤ i) : updAt l i F = l := List.modify_eq_self hi

end

theorem GnssSt.Alike.setGch {g h : GnssSt} (k : g.Alike h) (i : Nat) {F : GCh → GCh}
    (hF : ∀ c d : GCh, d.seen = c.seen → (F d).seen = (F c).seen) :
    GnssSt.Alike { g with ch := updAt g.ch i F } { h with ch := updAt h.ch i F } := by
  have hlength : (updAt h.ch i F).length = (updAt g.ch i F).length := by rw [length_updAt, length_updAt, k.length]
  refine ⟨k.excl, k.lastDelta, k.accepted, hlength, fun j => ?_⟩
  have hseen := k.seen j
  by_cases hij : i = j
  · subst hij
    by_cases hi : i < g.ch.length
    · rw [getD_updAt_same (k.length ▸ hi), getD_updAt_same hi]
      exact hF _ _ hseen
    · rw [updAt_of_le (k.length ▸ not_lt.1 hi), updAt_of_le (not_lt.1 hi)]
      exact hseen
  · rw [getD_updAt_other hij, getD_updAt_other hij]
    exact hseen

theorem Mod.withGnss_takeReports (l : List GReport) : ∀ (m : Mod) (h : GnssSt), m.gnss.Alike h → ∃ h', (m.takeReports l).gnss.Alike h'
    ∧ (m.withGnss h).takeReports l = (m.takeReports l).withGnss h' := by
  induction l with
  | nil => exact fun m h k => ⟨h, k, rfl⟩
  | cons r l ih =>
    intro m h k
    rw [Mod.takeReports_cons, Mod.takeReports_cons]
    refine ih (m.setGch r.ch (m.reported? r)) { h with ch := updAt h.ch r.ch (m.reported? r) } (k.setGch r.ch fun c d hcd => ?_)
    simp only [GCh.seen, Prod.mk.injEq] at hcd
    obtain ⟨hst, hsig, hprn, -⟩ := hcd
    simp only [Mod.reported?, GCh.seen, hst, hsig, hprn]

/-- What the checks find of a solution, taken with its lost blocks and its reports. -/
def Mod.verdict (m : Mod) (timeOnly : Bool) (g : GnssSol) : Verdict :=
  (((m.streamLost g.lost).takeReports g.reports).checkSol timeOnly g).1

/-- The checks find the same after a change of the receiver that they do not look at. -/
theorem Mod.withGnss_verdict (k : m.gnss.Alike h) (timeOnly : Bool) (g : GnssSol) : (m.withGnss h).verdict timeOnly g = m.verdict timeOnly g := by
  have hlost : (m.streamLost g.lost).gnss.Alike (h.losing g.lost) := by
    rw [Mod.streamLost_gnss]
    exact ⟨k.excl, k.lastDelta, k.accepted, k.length, k.seen⟩
  obtain ⟨h', halike, htake⟩ := Mod.withGnss_takeReports g.reports (m.streamLost g.lost) (h.losing g.lost) hlost
  unfold Mod.verdict
  rw [Mod.withGnss_streamLost, htake, Mod.withGnss_checkSol halike]

theorem Mod.setGnss_verdict {F : GnssSt → GnssSt} (k : m.gnss.Alike (F m.gnss)) (timeOnly : Bool) (g : GnssSol) :
    (m.setGnss F).verdict timeOnly g = m.verdict timeOnly g := by
  rw [show m.setGnss F = m.withGnss (F m.gnss) from rfl]
  exact Mod.withGnss_verdict k timeOnly g

/-- The channels of a burst's end are alike those of the burst. -/
theorem Mod.verdict_burst (m : Mod) (timeOnly : Bool) (g : GnssSol) :
    (m.setGnss (fun k => { k with burst := none, ch := k.ch.map (GCh.searchOn m.now) })).verdict timeOnly g = m.verdict timeOnly g := by
  refine Mod.setGnss_verdict ⟨rfl, rfl, rfl, List.length_map _, fun i => ?_⟩ timeOnly g
  have hseen : ∀ c : GCh, (GCh.searchOn m.now c).seen = c.seen := fun c => by
    unfold GCh.searchOn
    split <;> rfl
  have hmap : ((m.gnss.ch.map (GCh.searchOn m.now)).getD i {}).seen = (m.gnss.ch.getD i {}).seen := by
    rw [List.getD_eq_getElem?_getD, List.getD_eq_getElem?_getD, List.getElem?_map]
    cases m.gnss.ch[i]? with
    | none => rfl
    | some c => exact hseen c
  exact hmap

theorem Mod.verdict_epoch (m : Mod) (timeOnly : Bool) (g : GnssSol) (e : Nat) :
    (m.setGnss (fun k => { k with epochAt := some e })).verdict timeOnly g = m.verdict timeOnly g :=
  Mod.setGnss_verdict ⟨rfl, rfl, rfl, rfl, fun _ => rfl⟩ timeOnly g

end
end Sys2Proof.Machine
end

section
/-!
PROOFS. The statements of 13_gnss.md: solutions, their trust and their delivery to the timebase.
-/
namespace Sys2Proof.Machine

section
variable {as as' : List Area} {ws ws' : List Nat} {s : State} {t n : Nat} {c : Instr} {f : Mod → Mod} {m : Mod}

/-! ### An offer to the timebase (R325 to R328) -/

/-- The words that an offer of a source's time changes. -/
def offerWords : List Nat := srcWords ++ [P.timeAltOffset.addr]

theorem Mod.Within.takeOffset (m : Mod) (d : Int) : Mod.Within [.time] [P.timeSlewLeft.addr] m (m.takeOffset d) := by
  unfold Mod.takeOffset
  split
  · exact .refl m
  split
  · exact .ofTime m _ (by decide)
  split
  · dsimp only
    split
    · exact (Mod.Within.ofTime m _ (by decide)).trans (.wrI _ _ _ _ _ (by decide))
    split
    · exact (Mod.Within.ofTime m _ (by decide)).trans (.wrI _ _ _ _ _ (by decide))
    · exact (((Mod.Within.ofTime m _ (by decide)).trans (.wrI _ _ _ _ _ (by decide))).trans (.ofTime _ _ (by decide))).trans (.raise _ _ _ _)
  split
  · exact (Mod.Within.ofTime m _ (by decide)).trans (.wrI _ _ _ _ _ (by decide))
  · exact .refl m

theorem Mod.takeOffset_avail (m : Mod) (d : Int) : (m.takeOffset d).time.gnssAvail = m.time.gnssAvail := by
  unfold Mod.takeOffset
  split
  · rfl
  split
  · rfl
  split
  · dsimp only
    split
    · rfl
    split <;> rfl
  split <;> rfl

theorem Mod.Within.servo (m : Mod) : Mod.Within [.time, .free] [P.timeFreq.addr] m m.servo :=
  ((Mod.Within.draw m (by decide)).trans (.ofTime _ _ (by decide))).trans (.wrI _ _ _ _ _ (by decide))

theorem Mod.servo_avail (m : Mod) : m.servo.time.gnssAvail = m.time.gnssAvail := rfl

/-- The mapping disciplined by its source. -/
def Mod.disciplined (m : Mod) (delta : Int) (sigma now : Nat) : Mod :=
  ((m.setTime (fun x => { x with sigma := sigma })).takeOffset delta).servo.setTime (fun x => { x with
    epsL := (((m.setTime (fun x => { x with sigma := sigma })).takeOffset delta).servo).epsLocked, lastDisc := now })

/-- The offer of a source, with GNSS's own offset noted. -/
def Mod.offered (m : Mod) (src : Nat) (ofs : Int) : Mod := if src = 1 then m.setTime (fun x => { x with gnssOfs := ofs }) else m

theorem Mod.timeOffer_eq (m : Mod) (src : Nat) (ofs : Int) (sigma : Nat) : m.timeOffer src ofs sigma =
    if !(m.offered src ofs).time.isSet then
      (if (m.offered src ofs).srcChoice = src then (m.offered src ofs).setTime (fun x => { x with toSet := some (src, ofs), sigma := sigma })
       else m.offered src ofs)
    else if (m.offered src ofs).chooseSource.time.src = src then
      (m.offered src ofs).chooseSource.disciplined (ofs - (m.offered src ofs).chooseSource.time.ofs) sigma m.now
    else (m.offered src ofs).chooseSource.wrI P.timeAltOffset (ofs - (m.offered src ofs).chooseSource.time.ofs) := rfl

theorem Mod.Within.offered (m : Mod) (src : Nat) (ofs : Int) : Mod.Within [.time, .free] ws m (m.offered src ofs) := by
  unfold Mod.offered
  split
  · exact .setTime _ _ (by decide)
  · exact .refl m

theorem Mod.offered_avail (m : Mod) (src : Nat) (ofs : Int) : (m.offered src ofs).time.gnssAvail = m.time.gnssAvail := by
  unfold Mod.offered
  split <;> rfl

theorem Mod.Within.disciplined (m : Mod) (delta : Int) (sigma now : Nat) :
    Mod.Within [.time, .free] offerWords m (m.disciplined delta sigma now) :=
  (((Mod.Within.setTime _ _ (by decide)).trans ((Mod.Within.takeOffset _ _).mono (by decide) (by decide))).trans
    ((Mod.Within.servo _).mono (by decide) (by decide))).trans (.setTime _ _ (by decide))

theorem Mod.disciplined_avail (m : Mod) (delta : Int) (sigma now : Nat) :
    (m.disciplined delta sigma now).time.gnssAvail = m.time.gnssAvail :=
  (Mod.servo_avail _).trans (Mod.takeOffset_avail _ _)

theorem Mod.Within.timeOffer (m : Mod) (src : Nat) (ofs : Int) (sigma : Nat) :
    Mod.Within [.time, .free] offerWords m (m.timeOffer src ofs sigma) := by
  have hoffered : Mod.Within [.time, .free] offerWords m (m.offered src ofs) := .offered m src ofs
  have hchosen := hoffered.trans ((Mod.Within.chooseSource (m.offered src ofs)).mono (by decide) (by decide))
  rw [Mod.timeOffer_eq]
  split
  · split
    · exact hoffered.trans (.setTime _ _ (by decide))
    · exact hoffered
  split
  · exact hchosen.trans (.disciplined _ _ _ _)
  · exact hchosen.trans (.wrI _ _ _ _ _ (by decide))

theorem Mod.timeOffer_avail (m : Mod) (src : Nat) (ofs : Int) (sigma : Nat) : (m.timeOffer src ofs sigma).time.gnssAvail = m.time.gnssAvail := by
  have hoffered := Mod.offered_avail m src ofs
  have hchosen := (Mod.chooseSource_kept (m.offered src ofs)).gnssAvail.trans hoffered
  rw [Mod.timeOffer_eq]
  split
  · split <;> exact hoffered
  split
  · exact (Mod.disciplined_avail _ _ _ _).trans hchosen
  · exact hchosen

/-! ### What the steps of a solution keep (R306 to R312) -/

/-- What a solution's trust decides, and what counts its epochs and bursts. -/
def GnssSt.standing (g : GnssSt) : Nat × Bool × Nat × Option Nat × Option Nat := (g.count, g.trusted, g.reason, g.epochAt, g.burst)

/-- A step of a solution that keeps its standing. -/
structure Mod.SolKept (as : List Area) (ws : List Nat) (a b : Mod) : Prop where
  within : Mod.Within as ws a b
  standing : b.gnss.standing = a.gnss.standing
  lastTrust : b.gnss.lastTrust = a.gnss.lastTrust

theorem Mod.SolKept.refl (m : Mod) : Mod.SolKept as ws m m := ⟨.refl m, rfl, rfl⟩

theorem Mod.SolKept.trans {a b d : Mod} (h : Mod.SolKept as ws a b) (k : Mod.SolKept as ws b d) : Mod.SolKept as ws a d :=
  ⟨h.within.trans k.within, k.standing.trans h.standing, k.lastTrust.trans h.lastTrust⟩

theorem Mod.SolKept.mono {a b : Mod} (h : Mod.SolKept as ws a b) (ha : as ⊆ as') (hw : ws ⊆ ws') : Mod.SolKept as' ws' a b :=
  ⟨h.within.mono ha hw, h.standing, h.lastTrust⟩

theorem Mod.SolKept.of_other {a b : Mod} (h : Mod.Within as ws a b) (hgnss : Area.gnss ∉ as) : Mod.SolKept as ws a b := by
  have hsame : b.gnss = a.gnss := h.areas .gnss hgnss
  exact ⟨h, congrArg GnssSt.standing hsame, congrArg GnssSt.lastTrust hsame⟩

theorem Mod.SolKept.setGnss {F : GnssSt → GnssSt} (hgnss : Area.gnss ∈ as) (hstanding : (F m.gnss).standing = m.gnss.standing)
    (htrust : (F m.gnss).lastTrust = m.gnss.lastTrust) : Mod.SolKept as ws m (m.setGnss F) :=
  ⟨.setGnss m F hgnss, hstanding, htrust⟩

theorem Mod.SolKept.setGch (m : Mod) (k : Nat) (g : GCh → GCh) (hgnss : Area.gnss ∈ as) : Mod.SolKept as ws m (m.setGch k g) :=
  ⟨.setGch m k g hgnss, rfl, rfl⟩

theorem Mod.SolKept.foldl {α : Type} {F : Mod → α → Mod} (hF : ∀ m x, Mod.SolKept as ws m (F m x)) (l : List α) (m : Mod) :
    Mod.SolKept as ws m (l.foldl F m) := by
  induction l generalizing m with
  | nil => exact .refl m
  | cons x l ih => exact (hF m x).trans (ih _)

theorem Mod.SolKept.wr (m : Mod) (p : Param) (v i j : Nat) (hp : p.addr i j ∈ ws) : Mod.SolKept as ws m (m.wr p v i j) :=
  ⟨.wr m p v i j hp, rfl, rfl⟩

theorem Mod.SolKept.wrI (m : Mod) (p : Param) (v : Int) (i j : Nat) (hp : p.addr i j ∈ ws) : Mod.SolKept as ws m (m.wrI p v i j) :=
  ⟨.wrI m p v i j hp, rfl, rfl⟩

theorem Mod.SolKept.thenWr {a b : Mod} (h : Mod.SolKept as ws a b) {p : Param} {v i j : Nat} (hp : p.addr i j ∈ ws) :
    Mod.SolKept as ws a (b.wr p v i j) := h.trans (.wr b p v i j hp)

theorem Mod.SolKept.thenWrI {a b : Mod} (h : Mod.SolKept as ws a b) {p : Param} {v : Int} {i j : Nat} (hp : p.addr i j ∈ ws) :
    Mod.SolKept as ws a (b.wrI p v i j) := h.trans (.wrI b p v i j hp)

theorem Mod.SolKept.streamLost (m : Mod) (n : Nat) : Mod.SolKept [.gnss, .free] ws m (m.streamLost n) := by
  unfold Mod.streamLost
  split
  · exact .refl m
  · exact ⟨((Mod.Within.draw m (by decide)).trans (.setGnss _ _ (by decide))).trans (.raise _ _ _ _), rfl, rfl⟩

theorem Mod.SolKept.takeReports (m : Mod) (l : List GReport) : Mod.SolKept [.gnss, .free] ws m (m.takeReports l) :=
  .foldl (fun _ _ => .setGch _ _ _ (by decide)) l m

theorem Mod.SolKept.exclude (m : Mod) (x : GResid) : Mod.SolKept [.gnss, .free] [P.gnssExclusions.addr, P.gnssFlags.addr] m (m.exclude x) :=
  ⟨(((Mod.Within.setGnss _ _ (by decide)).trans (.inc _ _ _ _ _ (by decide))).trans (.flag _ _ _ _ (by decide))).trans (.raise _ _ _ _), rfl, rfl⟩

theorem Mod.SolKept.checkSol (m : Mod) (timeOnly : Bool) (g : GnssSol) :
    Mod.SolKept [.gnss, .free] [P.gnssExclusions.addr, P.gnssFlags.addr] m (m.checkSol timeOnly g).2 :=
  Mod.residCheck_induct (motive := Mod.SolKept [.gnss, .free] [P.gnssExclusions.addr, P.gnssFlags.addr]) .refl
    (fun a _ x h => (Mod.SolKept.exclude a x).trans h) timeOnly g.tries _ m

/-! ### Publication (R306, R319) -/

/-- The words of a solution's position, and those of its time and its satellites. -/
def positionWords : List Nat :=
  [P.gnssLat.addr, P.gnssLon.addr, P.gnssHgt.addr, P.gnssVelN.addr, P.gnssVelE.addr, P.gnssVelU.addr, P.gnssErr.addr, P.gnssDop.addr]
def fixWords : List Nat :=
  [P.gnssFixT.addr, P.gnssNsv.addr, P.gnssTSecLo.addr, P.gnssTSecHi.addr, P.gnssTNs.addr, P.gnssTErr.addr, P.gnssOscDelta.addr,
   P.gnssDrift.addr, P.gnssLeap.addr]

/-- The position of a solution, shown. -/
def Mod.positioned (m : Mod) (timeOnly : Bool) (g : GnssSol) : Mod :=
  if timeOnly then m else
    (((((((m.wrI P.gnssLat g.lat).wrI P.gnssLon g.lon).wrI P.gnssHgt g.hgt).wrI P.gnssVelN g.vn).wrI P.gnssVelE g.ve).wrI
      P.gnssVelU g.vu).wr P.gnssErr (65536 * Nat.min g.vErr 65535 + Nat.min g.hErr 65535)).wr P.gnssDop
        (65536 * Nat.min g.pDop 65535 + Nat.min g.hDop 65535)

theorem Mod.SolKept.positioned (m : Mod) (timeOnly : Bool) (g : GnssSol) : Mod.SolKept [.gnss, .free] positionWords m (m.positioned timeOnly g) := by
  unfold Mod.positioned
  split
  · exact .refl m
  · exact .thenWr (.thenWr (.thenWrI (.thenWrI (.thenWrI (.thenWrI (.thenWrI (.thenWrI (.refl m) (by decide)) (by decide)) (by decide)) (by decide))
      (by decide)) (by decide)) (by decide)) (by decide)

/-- What corrects a residual of a solution. -/
def Mod.correctedBy (m : Mod) (g : GnssSol) (x : GResid) : Nat :=
  m.corrOf (m.extend g.cnt) g.sbas (sysOf (m.gnss.ch.getD x.ch {}).sig) (m.gnss.ch.getD x.ch {}).prn

/-- The words of a solution that is published. -/
def Mod.fixShown (m : Mod) (timeOnly : Bool) (g : GnssSol) (v : Verdict) : Mod :=
  let t := g.gps + m.calN P.gnssDlyNow
  let m1 := (((m.positioned timeOnly g).inc P.gnssFixSeq).wr P.gnssFixT g.cnt).wr P.gnssNsv
    (65536 * v.used.length + 256 * (m.gnss.ch.filter (fun c => c.st = 2)).length + (m.gnss.ch.filter (fun c => c.st ≠ 0)).length)
  let m2 := ((m1.wr P.gnssTSecLo (t / 1000000000)).wr P.gnssTSecHi (t / 1000000000 / 2 ^ 32)).wr P.gnssTNs (t % 1000000000)
  (((m2.wr P.gnssTErr (Nat.min g.tErr 65535)).wrI P.gnssOscDelta v.delta).wrI P.gnssDrift g.drift).wr P.gnssLeap g.leap

/-- The fix type of a solution. -/
def Mod.fixType (m : Mod) (timeOnly : Bool) (g : GnssSol) (v : Verdict) : Nat :=
  if timeOnly then 1 else if v.used.any (fun x => m.correctedBy g x = 2) then 4 else if v.used.any (fun x => m.correctedBy g x = 1) then 3 else 2

theorem Mod.publish_eq (m : Mod) (timeOnly : Bool) (g : GnssSol) (v : Verdict) : m.publish timeOnly g v =
    (v.used.foldl (fun a x => a.setGch x.ch (fun c => { c with res := x.r, diff := m.correctedBy g x,
                                                               iono := a.ionoOf c (m.correctedBy g x) }))
      (m.fixShown timeOnly g v)).setGnss (fun k => { k with fix := m.fixType timeOnly g v }) := rfl

theorem Mod.publish_kept (m : Mod) (timeOnly : Bool) (g : GnssSol) (v : Verdict) :
    Mod.SolKept [.gnss, .free] fixWords ((m.positioned timeOnly g).inc P.gnssFixSeq) (m.publish timeOnly g v) := by
  have hwords : Mod.SolKept [.gnss, .free] fixWords ((m.positioned timeOnly g).inc P.gnssFixSeq) (m.fixShown timeOnly g v) :=
    .thenWr (.thenWrI (.thenWrI (.thenWr (.thenWr (.thenWr (.thenWr (.thenWr (.thenWr (.refl _) (by decide)) (by decide)) (by decide)) (by decide))
      (by decide)) (by decide)) (by decide)) (by decide)) (by decide)
  rw [Mod.publish_eq]
  exact (hwords.trans (.foldl (fun _ _ => .setGch _ _ _ (by decide)) v.used _)).trans (.setGnss (by decide) rfl rfl)

/-! ### Trust and delivery (R310 to R312, R316, R321) -/

/-- The count of a solution that passes. -/
def Mod.trustCount (m : Mod) : Nat := Nat.min (m.gnss.count + 1) (m.rd P.gnssTrustN)

theorem Mod.trust_of_passes {v : Verdict} (hpass : v.reason = 0) : ∃ F : GnssSt → GnssSt, m.trust v = m.setGnss F
    ∧ (F m.gnss).standing = (m.trustCount, decide (m.rd P.gnssTrustN ≤ m.trustCount), 0, m.gnss.epochAt, m.gnss.burst) := by
  unfold Mod.trust
  dsimp only
  rw [if_pos hpass]
  split
  · next hn =>
    refine ⟨_, rfl, ?_⟩
    rw [decide_eq_true (show m.rd P.gnssTrustN ≤ m.trustCount from hn)]
    rfl
  · next hn =>
    refine ⟨_, rfl, ?_⟩
    rw [decide_eq_false (show ¬ m.rd P.gnssTrustN ≤ m.trustCount from hn)]
    rfl

/-- The steps of a delivery: it is noted, the first fix and the end of a loss are told, the fix is kept, the timebase is offered the time. -/
def Mod.deliveryNoted (m : Mod) (timeOnly : Bool) (g : GnssSol) : Mod :=
  (m.inc P.gnssFixes).setGnss (fun k =>
    { k with lastTrust := some m.now, untrustedBursts := 0, pos := if timeOnly then k.pos else some (g.lat, g.lon, g.hgt) })

def Mod.firstFixed (m : Mod) (timeOnly : Bool) (t : Nat) : Mod :=
  if m.gnss.firstFix || timeOnly then m
  else
    let ttff := match m.gnss.firstGrant with
      | some f => (t - f) / 1000000
      | none => 0
    ((m.setGnss (fun k => { k with firstFix := true, ttff := ttff })).wr P.gnssTtff (Nat.min ttff 0xFFFFFF)).raise 97 0x0708
      (leBytes 1 (3 - m.gnss.startType) ++ leBytes 4 ttff)

def Mod.lossEnded (m : Mod) (v : Verdict) : Mod :=
  if m.gnss.lost then (m.setGnss (fun k => { k with lost := false })).raise 98 0x0711 (leBytes 4 (toU 32 v.delta)) else m

def Mod.fixKept (m base : Mod) (timeOnly : Bool) (g : GnssSol) : Mod :=
  let t := base.extend g.cnt
  let valid := !timeOnly && 2 ≤ m.gnss.fix && (base.rd P.gnssHErrMax = 0 || g.hErr ≤ base.rd P.gnssHErrMax)
  let f : Fix := { t := t, lat := g.lat, lon := g.lon, hgt := g.hgt, vn := g.vn, ve := g.ve, hErr := g.hErr }
  if valid then
    m.setGnss (fun k => { k with fixes := f :: k.fixes.filter (fun x => t ≤ x.t + 60000000000),
                                 held := if base.sys.gnssMode = 2 then some f else none })
  else m

def Mod.timeDelivered (m base : Mod) (g : GnssSol) : Mod :=
  (((m.setTime (fun x => { x with leapKnown := true, leapDown := g.leapDown })).wr P.timeLeap
    (256 * field g.leap 8 8 + (field g.leap 7 0 + 19) % 256)).gnssAvailable true).timeOffer 1 (base.solOfs g) (Nat.min g.tErr 65535)

theorem Mod.deliver_eq (m : Mod) (timeOnly : Bool) (g : GnssSol) (v : Verdict) : m.deliver timeOnly g v =
    ((((((m.deliveryNoted timeOnly g).firstFixed timeOnly (m.extend g.cnt)).lossEnded v).fixKept m timeOnly g).lotOrigin).timeDelivered m g) := rfl

/-- The words of a delivery beside the count of fixes. -/
def deliverWords : List Nat := [P.gnssTtff.addr, P.timeLeap.addr] ++ offerWords

theorem Mod.SolKept.firstFixed (m : Mod) (timeOnly : Bool) (t : Nat) :
    Mod.SolKept [.gnss, .time, .trk, .free] deliverWords m (m.firstFixed timeOnly t) := by
  unfold Mod.firstFixed
  split
  · exact .refl m
  · exact ⟨((Mod.Within.setGnss _ _ (by decide)).trans (.wr _ _ _ _ _ (by decide))).trans (.raise _ _ _ _), rfl, rfl⟩

theorem Mod.SolKept.lossEnded (m : Mod) (v : Verdict) : Mod.SolKept [.gnss, .time, .trk, .free] deliverWords m (m.lossEnded v) := by
  unfold Mod.lossEnded
  split
  · exact ⟨(Mod.Within.setGnss _ _ (by decide)).trans (.raise _ _ _ _), rfl, rfl⟩
  · exact .refl m

theorem Mod.SolKept.fixKept (m base : Mod) (timeOnly : Bool) (g : GnssSol) :
    Mod.SolKept [.gnss, .time, .trk, .free] deliverWords m (m.fixKept base timeOnly g) := by
  unfold Mod.fixKept
  dsimp only
  split
  · exact .setGnss (by decide) rfl rfl
  · exact .refl m

theorem Mod.SolKept.lotOrigin (m : Mod) : Mod.SolKept [.gnss, .time, .trk, .free] deliverWords m m.lotOrigin := by
  unfold Mod.lotOrigin
  split
  · exact .refl m
  · exact ⟨.ofTrk m _ (by decide), rfl, rfl⟩

theorem Mod.Within.timeDelivered (m base : Mod) (g : GnssSol) : Mod.Within [.time, .free] deliverWords m (m.timeDelivered base g) :=
  (((Mod.Within.setTime _ _ (by decide)).trans (.wr _ _ _ _ _ (by decide))).trans
    ((Mod.Within.gnssAvailable _ _).mono (by decide) (by decide))).trans ((Mod.Within.timeOffer _ _ _ _).mono (by decide) (by decide))

theorem Mod.timeDelivered_avail (m base : Mod) (g : GnssSol) : (m.timeDelivered base g).time.gnssAvail = true :=
  (Mod.timeOffer_avail _ _ _ _).trans (Mod.gnssAvailable_avail _ _)

/-- A delivery is noted, and the rest of it keeps what was noted. -/
theorem Mod.deliver_kept (m : Mod) (timeOnly : Bool) (g : GnssSol) (v : Verdict) :
    Mod.SolKept [.gnss, .time, .trk, .free] deliverWords (m.deliveryNoted timeOnly g) (m.deliver timeOnly g v) := by
  rw [Mod.deliver_eq]
  exact ((((Mod.SolKept.firstFixed _ _ _).trans (.lossEnded _ _)).trans (.fixKept _ _ _ _)).trans (.lotOrigin _)).trans
    ((Mod.SolKept.of_other (Mod.Within.timeDelivered _ _ _) (by decide)).mono (by decide) (List.Subset.refl _))

/-! ### A solution that passes (R306, R309 to R311) -/

/-- A solution with its lost blocks and its reports taken, and its checks made. -/
def Mod.solChecked (m : Mod) (timeOnly : Bool) (g : GnssSol) : Mod :=
  (((m.streamLost g.lost).takeReports g.reports).checkSol timeOnly g).2

/-- The almanac and the ephemerides that a solution brings are stored. -/
def Mod.ephStored (m : Mod) (at_ : Nat) (e : Nat × Nat × List Byte) : Mod :=
  { m with nv := { m.nv with gnssEph := m.nv.gnssEph.filter (fun x => !(x.1 = e.1 && x.2.1 = e.2.1)) ++ [(e.1, e.2.1, at_, e.2.2)] } }

def Mod.almStored (m : Mod) (at_ : Nat) (alm : Option (List Byte)) : Mod :=
  match alm with
  | some a => { m with nv := { m.nv with gnssAlm := some (at_, a) } }
  | none => m

def Mod.orbitsStored (m : Mod) (g : GnssSol) : Mod :=
  g.eph.foldl (fun a e => a.ephStored (g.gps + 315964819 * 1000000000) e) (m.almStored (g.gps + 315964819 * 1000000000) g.alm)

/-- What the checks found is noted for the next solution. -/
def Mod.deltaNoted (m : Mod) (v : Verdict) : Mod := m.setGnss (fun k => { k with lastDelta := if v.used = [] then none else some v.delta })

theorem Mod.rd_setGnss (m : Mod) (F : GnssSt → GnssSt) (p : Param) (i j : Nat) : (m.setGnss F).rd p i j = m.rd p i j := rfl
theorem Mod.rd_deltaNoted (m : Mod) (v : Verdict) (p : Param) (i j : Nat) : (m.deltaNoted v).rd p i j = m.rd p i j := rfl

/-- A solution published where there is one, and judged. -/
def Mod.solJudged (m : Mod) (timeOnly : Bool) (g : GnssSol) : Mod :=
  ((if (m.verdict timeOnly g).used = [] then (m.solChecked timeOnly g).setGnss (fun k => { k with fix := 0 })
    else (m.solChecked timeOnly g).publish timeOnly g (m.verdict timeOnly g)).trust (m.verdict timeOnly g)).deltaNoted (m.verdict timeOnly g)

theorem Mod.takeSol_eq (m : Mod) (timeOnly : Bool) (g : GnssSol) : m.takeSol timeOnly g =
    (if (m.solJudged timeOnly g).gnss.trusted then (m.solJudged timeOnly g).deliver timeOnly g (m.verdict timeOnly g)
     else m.solJudged timeOnly g).orbitsStored g := rfl

theorem Mod.SolKept.solChecked (m : Mod) (timeOnly : Bool) (g : GnssSol) :
    Mod.SolKept [.gnss, .free] [P.gnssExclusions.addr, P.gnssFlags.addr] m (m.solChecked timeOnly g) :=
  ((Mod.SolKept.streamLost m g.lost).trans (.takeReports _ _)).trans (.checkSol _ timeOnly g)

theorem Mod.SolKept.ephStored (m : Mod) (at_ : Nat) (e : Nat × Nat × List Byte) : Mod.SolKept [.nv] ws m (m.ephStored at_ e) :=
  ⟨.ofNv _ _ (by decide), rfl, rfl⟩

theorem Mod.SolKept.orbitsStored (m : Mod) (g : GnssSol) : Mod.SolKept [.nv] ws m (m.orbitsStored g) := by
  have halm : Mod.SolKept [.nv] ws m (m.almStored (g.gps + 315964819 * 1000000000) g.alm) := by
    unfold Mod.almStored
    split
    · exact ⟨.ofNv _ _ (by decide), rfl, rfl⟩
    · exact .refl m
  exact halm.trans (.foldl (fun a e => .ephStored a _ e) g.eph _)

theorem Mod.orbitsStored_time (m : Mod) (g : GnssSol) : (m.orbitsStored g).time = m.time :=
  (Mod.SolKept.orbitsStored (ws := []) m g).within.areas .time (by decide)

/-- What a solution that passes leaves of a module: its count, its trust, its publication and its delivery. -/
structure Mod.Earned (a b : Mod) : Prop where
  count : b.gnss.count = a.trustCount
  trusted : b.gnss.trusted = true ↔ a.rd P.gnssTrustN ≤ a.trustCount
  reason : b.gnss.reason = 0
  fixSeq : b.rd P.gnssFixSeq = (a.rd P.gnssFixSeq + 1) % 2 ^ 32
  fixes : b.rd P.gnssFixes = if a.rd P.gnssTrustN ≤ a.trustCount then (a.rd P.gnssFixes + 1) % 2 ^ 32 else a.rd P.gnssFixes
  delivered : a.rd P.gnssTrustN ≤ a.trustCount → b.gnss.lastTrust = some a.now ∧ b.time.gnssAvail = true
  within : Mod.Within [.gnss, .time, .trk, .nv, .free, .toll] solutionWords a b

/-- A solution that passes is published and counted. -/
theorem Mod.solJudged_of_passes {timeOnly : Bool} {g : GnssSol} (hwf : Store.wf m.regs = true) (hpass : (m.verdict timeOnly g).reason = 0)
    (hused : (m.verdict timeOnly g).used ≠ []) :
    (m.solJudged timeOnly g).gnss.standing = (m.trustCount, decide (m.rd P.gnssTrustN ≤ m.trustCount), 0, m.gnss.epochAt, m.gnss.burst)
    ∧ (m.solJudged timeOnly g).rd P.gnssFixSeq = (m.rd P.gnssFixSeq + 1) % 2 ^ 32
    ∧ Mod.Within [.gnss, .free] ([P.gnssExclusions.addr, P.gnssFlags.addr] ++ positionWords ++ [P.gnssFixSeq.addr] ++ fixWords) m
        (m.solJudged timeOnly g) := by
  have hplace := (Mod.SolKept.solChecked m timeOnly g).mono (as' := [.gnss, .free])
    (ws' := [P.gnssExclusions.addr, P.gnssFlags.addr] ++ positionWords) (by decide) (by decide) |>.trans
      ((Mod.SolKept.positioned (m.solChecked timeOnly g) timeOnly g).mono (List.Subset.refl _) (by decide))
  have hpublish := Mod.publish_kept (m.solChecked timeOnly g) timeOnly g (m.verdict timeOnly g)
  have hinc : Mod.SolKept [.gnss, .free] [P.gnssFixSeq.addr] ((m.solChecked timeOnly g).positioned timeOnly g)
    (((m.solChecked timeOnly g).positioned timeOnly g).inc P.gnssFixSeq) := ⟨.inc _ _ _ _ _ (by decide), rfl, rfl⟩
  have hshown := (hplace.mono (as' := [.gnss, .free]) (ws' := [P.gnssExclusions.addr, P.gnssFlags.addr] ++ positionWords ++ [P.gnssFixSeq.addr]
    ++ fixWords) (List.Subset.refl _) (by decide)).trans ((hinc.mono (List.Subset.refl _) (by decide)).trans
      (hpublish.mono (List.Subset.refl _) (by decide)))
  obtain ⟨F, htrust, hF⟩ := Mod.trust_of_passes (m := (m.solChecked timeOnly g).publish timeOnly g (m.verdict timeOnly g)) hpass
  have hjudged : m.solJudged timeOnly g =
      (((m.solChecked timeOnly g).publish timeOnly g (m.verdict timeOnly g)).setGnss F).deltaNoted (m.verdict timeOnly g) := by
    rw [Mod.solJudged, if_neg hused, htrust]
  have hstanding := hshown.standing
  simp only [GnssSt.standing, Prod.mk.injEq] at hstanding
  obtain ⟨hcount, -, -, hepoch, hburst⟩ := hstanding
  have hn : ((m.solChecked timeOnly g).publish timeOnly g (m.verdict timeOnly g)).rd P.gnssTrustN = m.rd P.gnssTrustN :=
    hshown.within.rd_eq hwf (by decide) (by decide)
  rw [Mod.trustCount, hcount, hn, hepoch, hburst] at hF
  rw [hjudged]
  refine ⟨hF, ?_, (hshown.within.trans (.setGnss _ _ (by decide))).trans (.setGnss _ _ (by decide))⟩
  have hseq := hpublish.within.rd_eq (p := P.gnssFixSeq) (i := 0) (j := 0) (hinc.within.wf (hplace.within.wf hwf)) (by decide) (by decide)
  have hseq' := hplace.within.rd_eq (p := P.gnssFixSeq) (i := 0) (j := 0) hwf (by decide) (by decide)
  rw [Mod.rd_inc_full (hplace.within.wf hwf) rfl, hseq'] at hseq
  rw [Mod.rd_deltaNoted, Mod.rd_setGnss, hseq]

/-- A solution that passes earns its trust; once trusted it is delivered. -/
theorem Mod.takeSol_earned {timeOnly : Bool} {g : GnssSol} (hwf : Store.wf m.regs = true) (hpass : (m.verdict timeOnly g).reason = 0)
    (hused : (m.verdict timeOnly g).used ≠ []) : Mod.Earned m (m.takeSol timeOnly g)
      ∧ (m.takeSol timeOnly g).gnss.epochAt = m.gnss.epochAt ∧ (m.takeSol timeOnly g).gnss.burst = m.gnss.burst := by
  obtain ⟨hstanding, hseq, hjudged⟩ := Mod.solJudged_of_passes hwf hpass hused
  have hfixes := hjudged.rd_eq (p := P.gnssFixes) (i := 0) (j := 0) hwf (by decide) (by decide)
  have htrusted : (m.solJudged timeOnly g).gnss.trusted = decide (m.rd P.gnssTrustN ≤ m.trustCount) := by
    simp only [GnssSt.standing, Prod.mk.injEq] at hstanding
    exact hstanding.2.1
  have hown := hjudged.mono (as' := [.gnss, .time, .trk, .nv, .free, .toll]) (ws' := solutionWords) (by decide) (by decide)
  rw [Mod.takeSol_eq, htrusted]
  by_cases hn : m.rd P.gnssTrustN ≤ m.trustCount
  · rw [decide_eq_true hn, if_pos rfl]
    have hdeliver := Mod.deliver_kept (m.solJudged timeOnly g) timeOnly g (m.verdict timeOnly g)
    have hstore := Mod.SolKept.orbitsStored (ws := []) ((m.solJudged timeOnly g).deliver timeOnly g (m.verdict timeOnly g)) g
    have hnoted : Mod.Within [.gnss] [P.gnssFixes.addr] (m.solJudged timeOnly g) ((m.solJudged timeOnly g).deliveryNoted timeOnly g) :=
      (Mod.Within.inc _ _ _ _ _ (by decide)).trans (.setGnss _ _ (by decide))
    have hrest := (hdeliver.mono (as' := [.gnss, .time, .trk, .nv, .free]) (by decide) (List.Subset.refl _)).trans
      (hstore.mono (by decide) (by decide))
    have hwhole := hrest.standing.trans hstanding
    simp only [GnssSt.standing, Prod.mk.injEq, decide_eq_true hn] at hwhole
    obtain ⟨hcount, htrust, hreason, hepoch, hburst⟩ := hwhole
    have hwf' := hjudged.wf hwf
    have hrd := fun p hp hl => hrest.within.rd_eq (p := p) (i := 0) (j := 0) (hnoted.wf hwf') hp hl
    have hnow : (m.solJudged timeOnly g).now = m.now := hjudged.now
    refine ⟨⟨hcount, iff_of_true htrust hn, hreason, ?_, ?_, fun _ => ⟨?_, ?_⟩, ?_⟩, hepoch, hburst⟩
    · rw [hrd P.gnssFixSeq (by decide) (by decide), hnoted.rd_eq hwf' (by decide) (by decide), hseq]
    · rw [hrd P.gnssFixes (by decide) (by decide), if_pos hn, ← hfixes, ← Mod.rd_inc_full hwf' rfl]
      rfl
    · exact hrest.lastTrust.trans (congrArg some hnow)
    · rw [Mod.orbitsStored_time, Mod.deliver_eq]
      exact Mod.timeDelivered_avail _ _ _
    · exact (hown.trans (hnoted.mono (by decide) (by decide))).trans (hrest.within.mono (by decide) (by decide))
  · rw [decide_eq_false hn, if_neg Bool.false_ne_true]
    have hstore := Mod.SolKept.orbitsStored (ws := []) (m.solJudged timeOnly g) g
    have hwhole := hstore.standing.trans hstanding
    simp only [GnssSt.standing, Prod.mk.injEq, decide_eq_false hn] at hwhole
    obtain ⟨hcount, htrust, hreason, hepoch, hburst⟩ := hwhole
    have hrd := fun p hp hl => hstore.within.rd_eq (p := p) (i := 0) (j := 0) (hjudged.wf hwf) hp hl
    refine ⟨⟨hcount, iff_of_false (by rw [htrust]; exact Bool.false_ne_true) hn, hreason, ?_, ?_, fun h => absurd h hn,
      hown.trans (hstore.within.mono (by decide) (by decide))⟩, hepoch, hburst⟩
    · rw [hrd P.gnssFixSeq (by decide) (by decide), hseq]
    · rw [hrd P.gnssFixes (by decide) (by decide), hfixes, if_neg hn]

end
end Sys2Proof.Machine
end

section
/-!
PROOFS. The statements of 13_gnss.md: epochs and the ends of bursts, with a solution and without one.
-/
namespace Sys2Proof.Machine

section
variable {as as' : List Area} {ws ws' : List Nat} {s : State} {t n : Nat} {c : Instr} {f : Mod → Mod} {m : Mod} {g : GnssSol}

/-! ### An epoch and a burst's end -/

/-- A change of the receiver before its solution that keeps its count. -/
theorem Mod.Earned.of_setGnss {b : Mod} {F : GnssSt → GnssSt} (h : Mod.Earned (m.setGnss F) b) (hF : (F m.gnss).count = m.gnss.count) :
    Mod.Earned m b := by
  have hcount : (m.setGnss F).trustCount = m.trustCount := by
    rw [Mod.trustCount, show (m.setGnss F).gnss.count = m.gnss.count from hF]
    rfl
  obtain ⟨h1, h2, h3, h4, h5, h6, h7⟩ := h
  rw [hcount] at h1 h2 h5 h6
  exact ⟨h1, h2, h3, h4, h5, h6, (Mod.Within.setGnss m F (by decide)).trans h7⟩

/-- What follows a solution that passes keeps what it earned. -/
theorem Mod.Earned.keeps {a b d : Mod} (h : Mod.Earned a b) (hwf : Store.wf a.regs = true) (k : Mod.SolKept [.gnss, .toll] [P.gnssFlags.addr] b d) :
    Mod.Earned a d := by
  obtain ⟨hcount, htrusted, hreason, hseq, hfixes, hdelivered, hwithin⟩ := h
  have hstanding := k.standing
  simp only [GnssSt.standing, Prod.mk.injEq] at hstanding
  obtain ⟨kcount, ktrusted, kreason, -, -⟩ := hstanding
  have hrd := fun p hp hl => k.within.rd_eq (p := p) (i := 0) (j := 0) (hwithin.wf hwf) hp hl
  have htime : d.time = b.time := k.within.areas .time (by decide)
  refine ⟨kcount.trans hcount, ktrusted ▸ htrusted, kreason.trans hreason, (hrd P.gnssFixSeq (by decide) (by decide)).trans hseq,
    (hrd P.gnssFixes (by decide) (by decide)).trans hfixes, fun hn => ?_, hwithin.trans (k.within.mono (by decide) (by decide))⟩
  obtain ⟨hlast, havail⟩ := hdelivered hn
  exact ⟨k.lastTrust.trans hlast, htime ▸ havail⟩

/-- The end of continuous tracking that an epoch may bring (R315). -/
def Mod.epochDone (m base : Mod) (g : GnssSol) : Mod :=
  if (m.gnss.continuous = 1 && m.gnss.trusted && m.gnss.fixes.head?.any (fun f => f.t = base.extend g.cnt))
      || (m.gnss.continuous = 2 && base.rd P.gnssKtMinSv ≤ (m.gnss.ch.filter (fun c => c.st = 2)).length) then
    m.setGnss (fun k => { k with continuous := 0, shortBursts := 0 })
  else m

theorem Mod.SolKept.epochDone (m base : Mod) (g : GnssSol) : Mod.SolKept [.gnss, .toll] [P.gnssFlags.addr] m (m.epochDone base g) := by
  unfold Mod.epochDone
  split
  · exact .setGnss (by decide) rfl rfl
  · exact .refl m

/-- A solution that comes at its epoch. -/
structure Mod.EpochDue (m : Mod) (g : GnssSol) : Prop where
  on : m.gnssOn = true
  track : m.sys.gnssMode = 1
  period : ∀ a, m.gnss.epochAt = some a → a + m.epochEvery ≤ m.extend g.cnt
  soon : m.now ≤ m.extend g.cnt + 50000000

theorem gnssEpoch_of_due (h : m.EpochDue g) :
    gnssEpoch g m = ((m.setGnss (fun k => { k with epochAt := some (m.extend g.cnt) })).takeSol false g).epochDone m g := by
  obtain ⟨hon, htrack, hperiod, hsoon⟩ := h
  have hall : m.gnss.epochAt.all (fun a => a + m.epochEvery ≤ m.extend g.cnt) = true := by
    cases ha : m.gnss.epochAt with
    | none => rfl
    | some a => exact decide_eq_true (hperiod a ha)
  unfold gnssEpoch
  dsimp only
  rw [hon, decide_eq_true htrack, hall, decide_eq_true hsoon]
  rfl

theorem gnssEpoch_earned (hwf : Store.wf m.regs = true) (h : m.EpochDue g) (hpass : (m.verdict false g).reason = 0)
    (hused : (m.verdict false g).used ≠ []) :
    Mod.Earned m (gnssEpoch g m) ∧ (gnssEpoch g m).gnss.epochAt = some (m.extend g.cnt) := by
  have hverdict := m.verdict_epoch false g (m.extend g.cnt)
  obtain ⟨hearned, hepoch, -⟩ := Mod.takeSol_earned (m := m.setGnss (fun k => { k with epochAt := some (m.extend g.cnt) })) (timeOnly := false) (g := g)
    hwf (hverdict.symm ▸ hpass) (hverdict.symm ▸ hused)
  have hdone := Mod.SolKept.epochDone ((m.setGnss (fun k => { k with epochAt := some (m.extend g.cnt) })).takeSol false g) m g
  have hstanding := hdone.standing
  simp only [GnssSt.standing, Prod.mk.injEq] at hstanding
  rw [gnssEpoch_of_due h]
  exact ⟨(hearned.of_setGnss rfl).keeps hwf hdone, hstanding.2.2.2.1.trans hepoch⟩

/-- The receiver as a burst ends. -/
def Mod.burstEnded (m : Mod) : Mod := m.setGnss (fun k => { k with burst := none, ch := k.ch.map (GCh.searchOn m.now) })

/-- A burst without a trusted solution counts toward a loss (R316). -/
def Mod.burstCounted (m : Mod) : Mod := if m.gnss.trusted then m else m.setGnss (fun k => { k with untrustedBursts := k.untrustedBursts + 1 })

/-- A burst that fell short, and the second in a row, which has the receiver track continuously (R315). -/
def Mod.burstShort (m : Mod) (n short now : Nat) : Mod :=
  if 1 ≤ short then
    ((((m.flag P.gnssFlags 1).raise 101 0x0728 (leBytes 1 n)).setGnss
      (fun k => { k with shortBursts := 0, continuous := 2, lossFrom := now })).raise 101 0x0729 (leBytes 1 2)).acqAsk
  else ((m.flag P.gnssFlags 1).raise 101 0x0728 (leBytes 1 n)).setGnss (fun k => { k with shortBursts := 1 })

/-- The measurements that a burst brought. -/
def Mod.burstSize (m : Mod) (g : GnssSol) : Nat := ((m.takeReports g.reports).usable (g.tries.headD [])).length

theorem gnssBurstEnd_of_over {b : Nat} (hon : m.gnssOn = true) (hburst : m.gnss.burst = some b) (hover : b + 40000000 ≤ m.now) : gnssBurstEnd g m =
    if m.burstEnded.burstSize g < m.rd P.gnssKtMinSv then
      (m.burstEnded.takeSol true g).burstCounted.burstShort (m.burstEnded.burstSize g) m.gnss.shortBursts m.now
    else (m.burstEnded.takeSol true g).burstCounted.setGnss (fun k => { k with shortBursts := 0 }) := by
  have hgoes : (m.gnssOn && m.gnss.burst.any (fun b => b + 40000000 ≤ m.now)) = true := by
    rw [hon, hburst, Option.any_some, decide_eq_true hover]
    rfl
  unfold gnssBurstEnd
  rw [if_pos hgoes]
  rfl

theorem Mod.SolKept.burstCounted (m : Mod) : Mod.SolKept [.gnss, .toll] [P.gnssFlags.addr] m m.burstCounted := by
  unfold Mod.burstCounted
  split
  · exact .refl m
  · exact .setGnss (by decide) rfl rfl

theorem Mod.SolKept.acqAsk (m : Mod) : Mod.SolKept [.gnss, .toll] ws m m.acqAsk := by
  obtain ⟨acq, at_, owed, hask⟩ := m.acqAsk_keeps
  exact ⟨.acqAsk m, (congrArg GnssSt.standing hask).trans rfl, (congrArg GnssSt.lastTrust hask).trans rfl⟩

theorem Mod.SolKept.burstShort (m : Mod) (n short now : Nat) : Mod.SolKept [.gnss, .toll] [P.gnssFlags.addr] m (m.burstShort n short now) := by
  have hflag : Mod.SolKept [.gnss, .toll] [P.gnssFlags.addr] m ((m.flag P.gnssFlags 1).raise 101 0x0728 (leBytes 1 n)) :=
    ⟨(Mod.Within.flag _ _ _ _ (by decide)).trans (.raise _ _ _ _), rfl, rfl⟩
  unfold Mod.burstShort
  split
  · exact (hflag.trans ⟨(Mod.Within.setGnss _ _ (by decide)).trans (.raise _ _ _ _), rfl, rfl⟩).trans (.acqAsk _)
  · exact hflag.trans (.setGnss (by decide) rfl rfl)

theorem gnssBurstEnd_earned {b : Nat} (hwf : Store.wf m.regs = true) (hon : m.gnssOn = true) (hburst : m.gnss.burst = some b)
    (hover : b + 40000000 ≤ m.now) (hpass : (m.verdict true g).reason = 0) (hused : (m.verdict true g).used ≠ []) :
    Mod.Earned m (gnssBurstEnd g m) ∧ (gnssBurstEnd g m).gnss.burst = none := by
  have hverdict : m.burstEnded.verdict true g = m.verdict true g := m.verdict_burst true g
  obtain ⟨hearned, -, hnone⟩ := Mod.takeSol_earned (m := m.burstEnded) (timeOnly := true) (g := g) hwf (hverdict.symm ▸ hpass) (hverdict.symm ▸ hused)
  have hrest : Mod.SolKept [.gnss, .toll] [P.gnssFlags.addr] (m.burstEnded.takeSol true g) (gnssBurstEnd g m) := by
    rw [gnssBurstEnd_of_over hon hburst hover]
    split
    · exact (Mod.SolKept.burstCounted _).trans (.burstShort _ _ _ _)
    · exact (Mod.SolKept.burstCounted _).trans (.setGnss (by decide) rfl rfl)
  have hstanding := hrest.standing
  simp only [GnssSt.standing, Prod.mk.injEq] at hstanding
  have hown : Mod.Earned m (m.burstEnded.takeSol true g) := Mod.Earned.of_setGnss hearned rfl
  exact ⟨hown.keeps hwf hrest, hstanding.2.2.2.2.trans hnone⟩

/-! ### An epoch or a burst without a solution (R310, R314) -/

/-- A solution of which nothing came. -/
structure NoSolution (g : GnssSol) : Prop where
  tries : g.tries = []
  reports : g.reports = []
  alm : g.alm = none
  eph : g.eph = []

/-- The receiver that a solution of which nothing came leaves. -/
def GnssSt.failed (k : GnssSt) (lost : Nat) : GnssSt :=
  { k with fix := 0, count := 0, trusted := false, shown := false, armed := false, reason := 4, lastDelta := none,
           blocksLost := k.blocksLost + lost }

def GnssSt.unsolved (k : GnssSt) : GnssSt :=
  { k with fix := 0, count := 0, trusted := false, shown := false, armed := false, reason := 4, lastDelta := none }

theorem Mod.streamLost_regs (m : Mod) (n : Nat) : (m.streamLost n).regs = m.regs := by
  unfold Mod.streamLost
  split <;> rfl

theorem NoSolution.residCheck (h : NoSolution g) (timeOnly : Bool) (n : Nat) (m : Mod) : Mod.residCheck timeOnly n g.tries m = ([], false, m) := by
  rw [h.tries]
  cases n <;> rfl

theorem NoSolution.solChecked (h : NoSolution g) (timeOnly : Bool) (m : Mod) : m.solChecked timeOnly g = m.streamLost g.lost := by
  unfold Mod.solChecked Mod.checkSol
  rw [h.residCheck, h.reports]
  rfl

/-- Of such a solution the checks find that it has too few satellites. -/
theorem NoSolution.verdict (h : NoSolution g) {timeOnly : Bool} (m : Mod) (hneed : m.rd (if timeOnly then P.gnssKtMinSv else P.gnssMinSv) ≠ 0) :
    (m.verdict timeOnly g).used = [] ∧ (m.verdict timeOnly g).reason = 4 := by
  have hregs := m.streamLost_regs g.lost
  have hfew : 0 < (if timeOnly then (m.streamLost g.lost).rd P.gnssKtMinSv else (m.streamLost g.lost).rd P.gnssMinSv) := by
    rw [Mod.rd_congr hregs, Mod.rd_congr hregs]
    cases timeOnly <;> exact Nat.pos_of_ne_zero hneed
  unfold Mod.verdict Mod.checkSol
  rw [h.residCheck, h.reports]
  exact ⟨rfl, if_pos hfew⟩

/-- The trust that too few satellites leave. -/
def GnssSt.distrusted (k : GnssSt) : GnssSt := { k with count := 0, trusted := false, shown := false, armed := false, reason := 4 }

def Mod.distrusted (m : Mod) : Mod :=
  ((m.setGnss GnssSt.distrusted).inc P.gnssUntrusted).flag P.gnssFlags 4

theorem Mod.trust_of_few {v : Verdict} (hfew : v.reason = 4) :
    m.trust v = if m.gnss.armed then m.distrusted.raiseOnce 99 0x0719 0 (fun _ => leBytes 1 v.reason) else m.distrusted := by
  unfold Mod.trust
  dsimp only
  rw [hfew, if_neg (by decide)]
  simp only [show decide ((4 : Nat) = 2) = false from rfl, show decide ((4 : Nat) = 3) = false from rfl, Bool.false_and, Bool.false_eq_true, if_false,
    Bool.or_false, Bool.not_false, Bool.and_true]
  rfl

theorem Mod.trust_of_few_leaves {v : Verdict} (hwf : Store.wf m.regs = true) (hfew : v.reason = 4) :
    (m.trust v).gnss = m.distrusted.gnss ∧ (m.trust v).rd P.gnssUntrusted = (m.rd P.gnssUntrusted + 1) % 2 ^ 32
    ∧ Mod.Within [.gnss, .free] [P.gnssUntrusted.addr, P.gnssFlags.addr] m (m.trust v) := by
  have hwithin : Mod.Within [.gnss, .free] [P.gnssUntrusted.addr, P.gnssFlags.addr] m m.distrusted :=
    ((Mod.Within.setGnss _ _ (by decide)).trans (.inc _ _ _ _ _ (by decide))).trans (.flag _ _ _ _ (by decide))
  have hcount : m.distrusted.rd P.gnssUntrusted = (m.rd P.gnssUntrusted + 1) % 2 ^ 32 := by
    unfold Mod.distrusted
    rw [Mod.rd_flag_other (by decide)]
    exact Mod.rd_inc_full (m := m.setGnss GnssSt.distrusted) hwf rfl 0 1 0
  rw [Mod.trust_of_few hfew]
  split
  · have honce : Mod.Within [] [] m.distrusted (m.distrusted.raiseOnce 99 0x0719 0 (fun _ => leBytes 1 v.reason)) := .raiseOnce _ _ _ _ _ _
    exact ⟨honce.areas .gnss (by decide), (honce.rd_eq (hwithin.wf hwf) (by decide) (by decide)).trans hcount, hwithin.trans (.raiseOnce _ _ _ _ _ _)⟩
  · exact ⟨rfl, hcount, hwithin⟩

/-- A solution of which nothing came is no solution: trust is lost and its count restarts. -/
theorem Mod.takeSol_failed (hwf : Store.wf m.regs = true) (h : NoSolution g) {timeOnly : Bool}
    (hneed : m.rd (if timeOnly then P.gnssKtMinSv else P.gnssMinSv) ≠ 0) :
    (m.takeSol timeOnly g).gnss = m.gnss.failed g.lost ∧ (m.takeSol timeOnly g).rd P.gnssUntrusted = (m.rd P.gnssUntrusted + 1) % 2 ^ 32
    ∧ Mod.Within [.gnss, .free] [P.gnssUntrusted.addr, P.gnssFlags.addr] m (m.takeSol timeOnly g) := by
  obtain ⟨hused, hreason⟩ := h.verdict m hneed
  have hregs := m.streamLost_regs g.lost
  have hlost := Mod.SolKept.streamLost (ws := [P.gnssUntrusted.addr, P.gnssFlags.addr]) m g.lost
  have hjudged : m.solJudged timeOnly g =
      (((m.streamLost g.lost).setGnss (fun k => { k with fix := 0 })).trust (m.verdict timeOnly g)).deltaNoted (m.verdict timeOnly g) := by
    rw [Mod.solJudged, if_pos hused, h.solChecked]
  obtain ⟨hgnss, hcount, hwithin⟩ := Mod.trust_of_few_leaves (m := (m.streamLost g.lost).setGnss (fun k => { k with fix := 0 }))
    (v := m.verdict timeOnly g) (hlost.within.wf hwf) hreason
  have hall : (m.solJudged timeOnly g).gnss = m.gnss.failed g.lost := by
    rw [hjudged, Mod.deltaNoted, if_pos hused]
    exact (congrArg (fun k : GnssSt => { k with lastDelta := none }) hgnss).trans (congrArg GnssSt.unsolved (m.streamLost_gnss g.lost))
  have htake : m.takeSol timeOnly g = m.solJudged timeOnly g := by
    rw [Mod.takeSol_eq, hall]
    unfold Mod.orbitsStored
    rw [h.eph, h.alm]
    rfl
  rw [htake]
  refine ⟨hall, ?_, ?_⟩
  · rw [hjudged, Mod.rd_deltaNoted, hcount, Mod.rd_setGnss, Mod.rd_congr hregs]
  · rw [hjudged]
    exact ((hlost.within.trans (.setGnss _ _ (by decide))).trans hwithin).trans (.setGnss _ _ (by decide))

theorem gnssEpoch_failed (hwf : Store.wf m.regs = true) (h : m.EpochDue g) (hempty : NoSolution g) (hcont : m.gnss.continuous = 0)
    (hneed : m.rd P.gnssMinSv ≠ 0) :
    (gnssEpoch g m).gnss = { m.gnss.failed g.lost with epochAt := some (m.extend g.cnt) }
    ∧ (gnssEpoch g m).rd P.gnssUntrusted = (m.rd P.gnssUntrusted + 1) % 2 ^ 32
    ∧ Mod.Within [.gnss, .free] [P.gnssUntrusted.addr, P.gnssFlags.addr] m (gnssEpoch g m) := by
  obtain ⟨hgnss, hcount, hwithin⟩ := Mod.takeSol_failed (m := m.setGnss (fun k => { k with epochAt := some (m.extend g.cnt) })) (g := g)
    (timeOnly := false) hwf hempty hneed
  have hdone : ((m.setGnss (fun k => { k with epochAt := some (m.extend g.cnt) })).takeSol false g).epochDone m g
      = (m.setGnss (fun k => { k with epochAt := some (m.extend g.cnt) })).takeSol false g := by
    refine if_neg ?_
    rw [show ((m.setGnss (fun k => { k with epochAt := some (m.extend g.cnt) })).takeSol false g).gnss.continuous = 0 from
      (congrArg GnssSt.continuous hgnss).trans hcont]
    exact Bool.false_ne_true
  rw [gnssEpoch_of_due h, hdone]
  exact ⟨hgnss, hcount, (Mod.Within.setGnss _ _ (by decide)).trans hwithin⟩

/-- A burst of which nothing came, the first in a row. -/
def GnssSt.burstFailed (k : GnssSt) (lost now : Nat) : GnssSt :=
  { k.failed lost with burst := none, shortBursts := 1, untrustedBursts := k.untrustedBursts + 1, ch := k.ch.map (GCh.searchOn now) }

theorem gnssBurstEnd_failed {b : Nat} (hwf : Store.wf m.regs = true) (hon : m.gnssOn = true) (hburst : m.gnss.burst = some b)
    (hover : b + 40000000 ≤ m.now) (hempty : NoSolution g) (hneed : m.rd P.gnssKtMinSv ≠ 0) (hfirst : m.gnss.shortBursts = 0) :
    (gnssBurstEnd g m).gnss = m.gnss.burstFailed g.lost m.now
    ∧ (gnssBurstEnd g m).rd P.gnssUntrusted = (m.rd P.gnssUntrusted + 1) % 2 ^ 32
    ∧ Mod.Within [.gnss, .free] [P.gnssUntrusted.addr, P.gnssFlags.addr] m (gnssBurstEnd g m) := by
  obtain ⟨hgnss, hcount, hwithin⟩ := Mod.takeSol_failed (m := m.burstEnded) (g := g) (timeOnly := true) hwf hempty hneed
  have hsize : m.burstEnded.burstSize g = 0 := by
    unfold Mod.burstSize
    rw [hempty.tries]
    rfl
  have hcounted : (m.burstEnded.takeSol true g).burstCounted
      = (m.burstEnded.takeSol true g).setGnss (fun k => { k with untrustedBursts := k.untrustedBursts + 1 }) := by
    refine if_neg ?_
    rw [hgnss]
    exact Bool.false_ne_true
  have hflag : ∀ x : Mod, (x.flag P.gnssFlags 1).rd P.gnssUntrusted = x.rd P.gnssUntrusted := fun _ => Mod.rd_flag_other (by decide) 1
  rw [gnssBurstEnd_of_over hon hburst hover, hsize, if_pos (Nat.pos_of_ne_zero hneed), Mod.burstShort, hfirst, if_neg (by decide)]
  rw [hcounted]
  refine ⟨?_, ?_, ?_⟩
  · exact congrArg (fun k : GnssSt => { k with untrustedBursts := k.untrustedBursts + 1, shortBursts := 1 }) hgnss
  · exact (hflag _).trans hcount
  · exact ((((Mod.Within.setGnss _ _ (by decide)).trans hwithin).trans (.setGnss _ _ (by decide))).trans (.flag _ _ _ _ (by decide))).trans
      ((Mod.Within.raise _ _ _ _).trans (.setGnss _ _ (by decide)))

/-- What a command answers of a solution that passes. -/
theorem Mod.Earned.run (h : Mod.Earned (s.m.at t) (f (s.m.at t))) :
    (Mod.run t f s.m).gnss.count = Nat.min (s.m.gnss.count + 1) (s.m.rd P.gnssTrustN)
    ∧ ((Mod.run t f s.m).gnss.trusted = true ↔ s.m.rd P.gnssTrustN ≤ Nat.min (s.m.gnss.count + 1) (s.m.rd P.gnssTrustN))
    ∧ (Mod.run t f s.m).gnss.reason = 0
    ∧ (Mod.run t f s.m).rd P.gnssFixSeq = (s.m.rd P.gnssFixSeq + 1) % 2 ^ 32
    ∧ (Mod.run t f s.m).rd P.gnssFixes = (if s.m.rd P.gnssTrustN ≤ Nat.min (s.m.gnss.count + 1) (s.m.rd P.gnssTrustN) then
        (s.m.rd P.gnssFixes + 1) % 2 ^ 32 else s.m.rd P.gnssFixes)
    ∧ (s.m.rd P.gnssTrustN ≤ Nat.min (s.m.gnss.count + 1) (s.m.rd P.gnssTrustN) →
        (Mod.run t f s.m).gnss.lastTrust = some (s.m.at t).now ∧ (Mod.run t f s.m).time.gnssAvail = true)
    ∧ Mod.Frame t [.gnss, .time, .trk, .nv, .free, .toll] solutionWords s.m (Mod.run t f s.m) := by
  obtain ⟨hcount, htrusted, hreason, hseq, hfixes, hdelivered, hwithin⟩ := h
  rw [Mod.run_gnss, Mod.run_time, Mod.run_rd_other t f s.m (by decide), Mod.run_rd_other t f s.m (by decide)]
  exact ⟨hcount, htrusted, hreason, hseq, hfixes, hdelivered, hwithin.frame⟩

end

/-! ### The statement -/

/-- Settles O51: what a solution earns by the steps of its taking, and what one of which nothing came leaves. -/
theorem solutionsEarnTrust : Obligations.SolutionsEarnTrust := by
  unfold Obligations.SolutionsEarnTrust
  intro s t g hs hon now e due n c passes earned failed
  refine ⟨fun hmode hcont hdue hpass => ?epoch, fun hmode hcont hdue htries hreports halm heph hneed => ?noEpoch,
    fun b hburst hover hpass => ?burst, fun b hburst hover htries hreports halm heph hneed hfirst => ?noBurst⟩
  case epoch =>
    obtain ⟨hperiod, hsoon⟩ := hdue
    obtain ⟨hearned, hepoch⟩ := gnssEpoch_earned (m := s.m.at t) (g := g) hs ⟨hon, hmode, hperiod, hsoon⟩ hpass.1 hpass.2
    exact State.yields_run (f := gnssEpoch g) rfl ⟨hearned.run, (congrArg GnssSt.epochAt (Mod.run_gnss _ _ _)).trans hepoch⟩
  case noEpoch =>
    obtain ⟨hperiod, hsoon⟩ := hdue
    obtain ⟨hgnss, hcount, hwithin⟩ := gnssEpoch_failed (m := s.m.at t) (g := g) hs ⟨hon, hmode, hperiod, hsoon⟩
      ⟨htries, hreports, halm, heph⟩ hcont hneed
    exact State.yields_run (f := gnssEpoch g) rfl ⟨(Mod.run_gnss _ _ _).trans hgnss, (Mod.run_rd_other t _ s.m (by decide)).trans hcount,
      hwithin.frame⟩
  case burst =>
    obtain ⟨hearned, hnone⟩ := gnssBurstEnd_earned (m := s.m.at t) (g := g) hs hon hburst hover hpass.1 hpass.2
    exact State.yields_run (f := gnssBurstEnd g) rfl ⟨hearned.run, (congrArg GnssSt.burst (Mod.run_gnss _ _ _)).trans hnone⟩
  case noBurst =>
    obtain ⟨hgnss, hcount, hwithin⟩ := gnssBurstEnd_failed (m := s.m.at t) (g := g) hs hon hburst hover ⟨htries, hreports, halm, heph⟩ hneed hfirst
    exact State.yields_run (f := gnssBurstEnd g) rfl ⟨(Mod.run_gnss _ _ _).trans hgnss, (Mod.run_rd_other t _ s.m (by decide)).trans hcount,
      hwithin.frame⟩

end Sys2Proof.Machine
end

section
/-!
PROOFS. The statements of 15_can.md: what the shared operations of a channel do, and the frames that it receives.
-/
namespace Sys2Proof.Machine

section
variable {as : List Area} {ws : List Nat} {s : State} {t ch : Nat} {c : Instr} {f : Mod → Mod} {m : Mod}

/-! ### A channel changed -/

theorem Mod.setCan_can (hch : ch < m.can.ch.length) (g : CanCh → CanCh) :
    (m.setCan ch g).can = { m.can with ch := m.can.ch.set ch (g (m.canCh ch)) } := by
  have hmodify : m.can.ch.modify ch g = m.can.ch.set ch (g (m.can.ch.getD ch {})) := by simp [List.modify_eq_set_getElem?, hch]
  exact congrArg (fun l => { m.can with ch := l }) hmodify

theorem Mod.canCh_setCan_same (hch : ch < m.can.ch.length) (g : CanCh → CanCh) : (m.setCan ch g).canCh ch = g (m.canCh ch) :=
  getD_updAt_same hch

theorem Mod.canCh_setCan_other {k : Nat} (hk : k ≠ ch) (g : CanCh → CanCh) : (m.setCan ch g).canCh k = m.canCh k :=
  getD_updAt_other hk.symm

theorem Mod.setCan_setCan (m : Mod) (ch : Nat) (g h : CanCh → CanCh) : (m.setCan ch g).setCan ch h = m.setCan ch (fun c => h (g c)) := by
  simp only [Mod.setCan, updAt, List.modify_modify_eq]
  rfl

/-- Two changes of a channel that agree on it as it stands are one. -/
theorem Mod.setCan_congr (hch : ch < m.can.ch.length) {g h : CanCh → CanCh} (heq : g (m.canCh ch) = h (m.canCh ch)) : m.setCan ch g = m.setCan ch h := by
  have hcan : (m.setCan ch g).can = (m.setCan ch h).can := by rw [Mod.setCan_can hch, Mod.setCan_can hch, heq]
  exact congrArg (fun x => { m with can := x }) hcan

theorem Mod.run_canCh (t : Nat) (f : Mod → Mod) (m : Mod) (k : Nat) : (Mod.run t f m).canCh k = (f (m.at t)).canCh k := by
  rw [Mod.canCh, Mod.run_can, Mod.canCh]

/-- A command that leaves a channel changed answers with it. -/
theorem can_yields {x : Mod} {g : CanCh → CanCh} {w : CanCh} (hexec : exec c s = s.run t f) (hch : ch < s.m.can.ch.length)
    (hf : f (s.m.at t) = x) (hx : x.can = ((s.m.at t).setCan ch g).can) (hw : g (s.m.canCh ch) = w) (hwithin : Mod.Within as ws (s.m.at t) x) :
    s.Yields c fun m' => m'.can = { s.m.can with ch := s.m.can.ch.set ch w } ∧ Mod.Frame t as ws s.m m' := by
  have hcan := Mod.setCan_can (m := s.m.at t) hch g
  refine State.yields_frame hexec (hf ▸ hwithin) ((Mod.run_can _ _ _).trans ((congrArg Mod.can hf).trans (hx.trans (hcan.trans ?_))))
  exact congrArg (fun w => { s.m.can with ch := s.m.can.ch.set ch w }) hw

/-- A command that leaves every channel as it is. -/
theorem canNothing_yields {x : Mod} (hexec : exec c s = s.run t f) (hf : f (s.m.at t) = x) (hx : x.can = s.m.can)
    (hwithin : Mod.Within as ws (s.m.at t) x) : s.Yields c fun m' => m'.can = s.m.can ∧ Mod.Frame t as ws s.m m' :=
  State.yields_frame hexec (hf ▸ hwithin) ((Mod.run_can _ _ _).trans ((congrArg Mod.can hf).trans hx))

/-! ### The words of a channel (R362) -/

section
variable {p q : Param}

theorem Param.channel_ne (h : p.s1 = q.s1 ∧ p.base ≠ q.base) (ch : Nat) : p.addr ch ≠ q.addr ch := by
  obtain ⟨hstep, hbase⟩ := h
  unfold Param.addr
  rw [hstep]
  omega

theorem Param.channel_ne_loopFlags (hp : P.loopFlags.base < p.base) (ch : Nat) : p.addr ch ≠ P.loopFlags.addr := by
  have hflags : P.loopFlags.addr = P.loopFlags.base := rfl
  rw [hflags, Param.addr]
  omega

end

/-- A count of a channel after a command that leaves it one higher. -/
theorem canCount_of_run {p : Param} {x : Mod} (hwf : Store.wf x.regs = true) (hw : p.w = 32) (hp : P.loopFlags.base < p.base)
    (hf : (f (s.m.at t)).rd p ch = (x.inc p ch).rd p ch) (hx : x.rd p ch = s.m.rd p ch) :
    (Mod.run t f s.m).rd p ch = (s.m.rd p ch + 1) % 2 ^ 32 := by
  rw [Mod.run_rd_other t f s.m (Param.channel_ne_loopFlags hp ch), hf, Mod.rd_inc_full hwf hw, hx]

/-! ### The error counters (R358) -/

/-- A channel with its counters and the state that they give. -/
def CanCh.counted (now tec rec : Nat) (c : CanCh) : CanCh :=
  { c with tec := tec, rec_ := rec, st := errState tec rec, busOffAt := if errState tec rec = 2 then now else c.busOffAt }

theorem Mod.canCounters_eq (m : Mod) (ch tec rec : Nat) : m.canCounters ch tec rec =
    if errState tec rec = (m.canCh ch).st then m.setCan ch (CanCh.counted m.now tec rec)
    else if errState tec rec = 1 then
      ((m.setCan ch (CanCh.counted m.now tec rec)).flag P.canFlags 1 ch).raise (112 + ch) 0x0901 (leBytes 2 tec ++ leBytes 1 rec)
    else if errState tec rec = 2 then
      (((m.setCan ch (CanCh.counted m.now tec rec)).inc P.canBusoffs ch).flag P.canFlags 2 ch).raise (112 + ch) 0x0903 (leBytes 2 tec)
    else (m.setCan ch (CanCh.counted m.now tec rec)).raise (112 + ch) 0x0902 := rfl

theorem Mod.canCounters_can (m : Mod) (ch tec rec : Nat) : (m.canCounters ch tec rec).can = (m.setCan ch (CanCh.counted m.now tec rec)).can := by
  rw [Mod.canCounters_eq]
  split
  · rfl
  split
  · rfl
  split <;> rfl

theorem Mod.canCounters_of_same {tec rec : Nat} (hsame : errState tec rec = (m.canCh ch).st) :
    m.canCounters ch tec rec = m.setCan ch (CanCh.counted m.now tec rec) := if_pos hsame

theorem Mod.Within.canCounters (m : Mod) (ch tec rec : Nat) (hcan : Area.can ∈ as) (hflags : P.canFlags.addr ch ∈ ws)
    (hoffs : P.canBusoffs.addr ch ∈ ws) : Mod.Within as ws m (m.canCounters ch tec rec) := by
  rw [Mod.canCounters_eq]
  split
  · exact .setCan m ch _ hcan
  split
  · exact ((Mod.Within.setCan m ch _ hcan).trans (.flag _ _ _ _ hflags)).trans (.raise _ _ _ _)
  split
  · exact (((Mod.Within.setCan m ch _ hcan).trans (.inc _ _ _ _ _ hoffs)).trans (.flag _ _ _ _ hflags)).trans (.raise _ _ _ _)
  · exact (Mod.Within.setCan m ch _ hcan).trans (.raise _ _ _ _)

theorem errState_of_low {tec rec : Nat} (htec : tec < 128) (hrec : rec < 128) : errState tec rec = 0 := by
  unfold errState
  rw [if_neg (by omega), if_neg (by simp only [Bool.or_eq_true, decide_eq_true_eq]; omega)]

/-! ### Frames received (R346, R351, R353, R358) -/

theorem Mod.canLive_of_lt (hch : ch < 4) (hst : (m.canCh ch).st < 2) : m.canLive ch = true := by
  rw [Mod.canLive, decide_eq_true hch, decide_eq_true hst]
  rfl

/-- A frame in the next slot of the ring, with its number. -/
def CanCh.kept (e : CanEntry) (c : CanCh) : CanCh :=
  { c.store { e with seq := (c.seq + 1) % 2 ^ 32 % 65536 } false c.lostBefore with lostBefore := false, seq := (c.seq + 1) % 2 ^ 32 }

theorem Mod.canKeep_of_room {e : CanEntry} (hch : ch < m.can.ch.length) (hroom : (m.canCh ch).ring.length < 511) :
    m.canKeep ch e = m.setCan ch (CanCh.kept e) := by
  have hnot : ((m.canCh ch).ring.length = 511 && (m.canCh ch).reading.isSome) = false := by
    rw [decide_eq_false (Nat.ne_of_lt hroom), Bool.false_and]
  unfold Mod.canKeep
  dsimp only
  rw [if_neg (by omega), hnot, if_neg Bool.false_ne_true]
  exact Mod.setCan_congr hch rfl

theorem Mod.canKeep_of_full {e : CanEntry} (hfull : (m.canCh ch).ring.length = 512) : m.canKeep ch e = m.canDiscard ch := if_pos hfull

/-- A frame that the channel's format and state admit. -/
theorem canFrameReceived_of_admitted {sof : Nat} {fr : CanFrame} (hlive : m.canLive ch = true)
    (hformat : fr.fd = false ∨ (m.rd P.canCfg ch).testBit 3 = true) (hrec : (m.canCh ch).rec_ ≤ 127) : canFrameReceived ch sof fr m =
      ((m.canCounters ch (m.canCh ch).tec ((m.canCh ch).rec_ - 1)).inc P.canRxFrames ch).canKeep ch (entryOf fr (m.canStamp ch sof) false) := by
  have hadmits : (fr.fd && !(m.rd P.canCfg ch).testBit 3) = false := by
    obtain hclassic | hfd := hformat
    · rw [hclassic, Bool.false_and]
    · rw [hfd, Bool.not_true, Bool.and_false]
  unfold canFrameReceived
  dsimp only
  rw [hlive, Bool.not_true, if_neg Bool.false_ne_true, hadmits, if_neg Bool.false_ne_true, if_neg (by omega)]

theorem canFrameReceived_of_refused {sof : Nat} {fr : CanFrame} (hlive : m.canLive ch = true) (hfd : fr.fd = true)
    (hclassic : (m.rd P.canCfg ch).testBit 3 = false) : canFrameReceived ch sof fr m = m.flag P.canFlags 32 ch := by
  unfold canFrameReceived
  rw [hlive, Bool.not_true, if_neg Bool.false_ne_true, hfd, hclassic]
  rfl

/-- A channel in the active state that has received a frame. -/
def CanCh.heard (c : CanCh) : CanCh := { c with rec_ := c.rec_ - 1 }

theorem Mod.canCounters_of_active (hch : ch < m.can.ch.length) (hst : (m.canCh ch).st = 0) (htec : (m.canCh ch).tec < 128)
    (hrec : (m.canCh ch).rec_ ≤ 127) : m.canCounters ch (m.canCh ch).tec ((m.canCh ch).rec_ - 1) = m.setCan ch CanCh.heard := by
  have hstate : errState (m.canCh ch).tec ((m.canCh ch).rec_ - 1) = 0 := errState_of_low htec (by omega)
  rw [Mod.canCounters_of_same (hstate.trans hst.symm)]
  refine Mod.setCan_congr hch ?_
  unfold CanCh.counted CanCh.heard
  rw [hstate, if_neg (by decide), ← hst]

/-- The channels after a frame that the ring has room for. -/
theorem received_yields {sof : Nat} {fr : CanFrame} (hs : s.Canonical) (hch : ch < s.m.can.ch.length) (hlive : s.m.canLive ch = true)
    (hst : (s.m.canCh ch).st = 0) (htec : (s.m.canCh ch).tec < 128) (hrec : (s.m.canCh ch).rec_ ≤ 127)
    (hformat : fr.fd = false ∨ (s.m.rd P.canCfg ch).testBit 3 = true) (hroom : (s.m.canCh ch).ring.length < 511) :
    s.Yields (.canFrameReceived t ch sof fr) fun m' =>
      let c := s.m.canCh ch
      let e := { entryOf fr (s.m.canStamp ch sof) false with seq := (c.seq + 1) % 2 ^ 32 % 65536 }
      (m'.canCh ch).ring = c.ring ++ [(e, false, c.lostBefore)] ∧ (m'.canCh ch).seq = (c.seq + 1) % 2 ^ 32
      ∧ (m'.canCh ch).lostBefore = false ∧ (m'.canCh ch).rec_ = c.rec_ - 1 ∧ (m'.canCh ch).txq = c.txq
      ∧ assocGet (m'.canCh ch).slots ((c.head + c.ring.length) % 512) = some (e, false, c.lostBefore)
      ∧ (∀ k, k ≠ ch → m'.canCh k = s.m.canCh k) ∧ m'.rd P.canRxFrames ch = (s.m.rd P.canRxFrames ch + 1) % 2 ^ 32
      ∧ Mod.Frame t [.can] [P.canRxFrames.addr ch] s.m m' := by
  have hch' : ch < ((s.m.at t).setCan ch CanCh.heard).can.ch.length := (length_updAt _ _ _).symm ▸ hch
  have hheard : ((s.m.at t).setCan ch CanCh.heard).canCh ch = (s.m.canCh ch).heard := Mod.canCh_setCan_same (m := s.m.at t) hch _
  have hmean := canFrameReceived_of_admitted (m := s.m.at t) (sof := sof) (fr := fr) hlive hformat hrec
  rw [Mod.canCounters_of_active (m := s.m.at t) hch hst htec hrec,
    Mod.canKeep_of_room (m := ((s.m.at t).setCan ch CanCh.heard).inc P.canRxFrames ch) hch' ((congrArg (fun c => c.ring.length) hheard).trans_lt hroom)]
    at hmean
  have hsame : (Mod.run t (canFrameReceived ch sof fr) s.m).canCh ch
      = CanCh.kept (entryOf fr ((s.m.at t).canStamp ch sof) false) (s.m.canCh ch).heard := by
    rw [Mod.run_canCh, hmean, Mod.canCh_setCan_same (m := ((s.m.at t).setCan ch CanCh.heard).inc P.canRxFrames ch) hch']
    exact congrArg _ hheard
  have hwithin : Mod.Within [.can] [P.canRxFrames.addr ch] (s.m.at t) (canFrameReceived ch sof fr (s.m.at t)) :=
    hmean ▸ ((Mod.Within.setCan _ _ _ (by decide)).trans (.inc _ _ _ _ _ (by simp))).trans (.setCan _ _ _ (by decide))
  refine State.yields_run (f := canFrameReceived ch sof fr) rfl ?_
  rw [hsame]
  refine ⟨rfl, rfl, rfl, rfl, rfl, ?_, fun k hk => ?_, ?_, hwithin.frame⟩
  · exact (assocGet_assocSet _ _ _ _).trans (if_pos rfl)
  · rw [Mod.run_canCh, hmean]
    exact (Mod.canCh_setCan_other hk _).trans (Mod.canCh_setCan_other (m := s.m.at t) hk _)
  · exact canCount_of_run (x := (s.m.at t).setCan ch CanCh.heard) hs rfl (by decide) (by rw [hmean]; rfl) rfl

/-- A channel that has discarded a frame. -/
def CanCh.losing (c : CanCh) : CanCh := { c with lostBefore := true }

theorem Mod.canDiscard_leaves (hwf : Store.wf m.regs = true) (ch : Nat) : (m.canDiscard ch).can = (m.setCan ch CanCh.losing).can
    ∧ (m.canDiscard ch).rd P.canRxDiscarded ch = (m.rd P.canRxDiscarded ch + 1) % 2 ^ 32
    ∧ Mod.Within [.can] [P.canRxDiscarded.addr ch, P.canFlags.addr ch] m (m.canDiscard ch) := by
  have honce : Mod.Within [] [] (((m.setCan ch CanCh.losing).inc P.canRxDiscarded ch).flag P.canFlags 4 ch) (m.canDiscard ch) :=
    .raiseOnce _ _ _ _ _ _
  have hflag : Mod.Within [.can] [P.canRxDiscarded.addr ch, P.canFlags.addr ch] m
      (((m.setCan ch CanCh.losing).inc P.canRxDiscarded ch).flag P.canFlags 4 ch) :=
    ((Mod.Within.setCan _ _ _ (by decide)).trans (.inc _ _ _ _ _ (by simp))).trans (.flag _ _ _ _ (by simp))
  refine ⟨honce.areas .can (by decide), ?_, hflag.trans (.raiseOnce _ _ _ _ _ _)⟩
  have hne : P.canRxDiscarded.addr ch ≠ P.canFlags.addr ch := Param.channel_ne (by decide) ch
  rw [honce.rd_eq (hflag.wf hwf) List.not_mem_nil (Param.channel_ne_loopFlags (by decide) ch), Mod.rd_flag_other hne]
  exact Mod.rd_inc_full (m := m.setCan ch CanCh.losing) hwf rfl ch 1 0

/-- The channels after a frame that met a full ring. -/
theorem discarded_yields {sof : Nat} {fr : CanFrame} (hs : s.Canonical) (hch : ch < s.m.can.ch.length) (hlive : s.m.canLive ch = true)
    (hst : (s.m.canCh ch).st = 0) (htec : (s.m.canCh ch).tec < 128) (hrec : (s.m.canCh ch).rec_ ≤ 127)
    (hformat : fr.fd = false ∨ (s.m.rd P.canCfg ch).testBit 3 = true) (hfull : (s.m.canCh ch).ring.length = 512) :
    s.Yields (.canFrameReceived t ch sof fr) fun m' =>
      m'.can = { s.m.can with ch := s.m.can.ch.set ch { s.m.canCh ch with rec_ := (s.m.canCh ch).rec_ - 1, lostBefore := true } }
      ∧ m'.rd P.canRxDiscarded ch = (s.m.rd P.canRxDiscarded ch + 1) % 2 ^ 32
      ∧ Mod.Frame t [.can] [P.canRxFrames.addr ch, P.canRxDiscarded.addr ch, P.canFlags.addr ch] s.m m' := by
  have hheard : ((s.m.at t).setCan ch CanCh.heard).canCh ch = (s.m.canCh ch).heard := Mod.canCh_setCan_same (m := s.m.at t) hch _
  have hmean := canFrameReceived_of_admitted (m := s.m.at t) (sof := sof) (fr := fr) hlive hformat hrec
  rw [Mod.canCounters_of_active (m := s.m.at t) hch hst htec hrec,
    Mod.canKeep_of_full (m := ((s.m.at t).setCan ch CanCh.heard).inc P.canRxFrames ch) ((congrArg (fun c => c.ring.length) hheard).trans hfull)]
    at hmean
  have hinc : Mod.Within [.can] [P.canRxFrames.addr ch, P.canRxDiscarded.addr ch, P.canFlags.addr ch] (s.m.at t)
      (((s.m.at t).setCan ch CanCh.heard).inc P.canRxFrames ch) := (Mod.Within.setCan _ _ _ (by decide)).trans (.inc _ _ _ _ _ (by simp))
  obtain ⟨hcan, hcount, hwithin⟩ := Mod.canDiscard_leaves (m := ((s.m.at t).setCan ch CanCh.heard).inc P.canRxFrames ch) (hinc.wf hs) ch
  have hchange : (((s.m.at t).setCan ch CanCh.heard).setCan ch CanCh.losing).can
      = { s.m.can with ch := s.m.can.ch.set ch { s.m.canCh ch with rec_ := (s.m.canCh ch).rec_ - 1, lostBefore := true } } := by
    rw [Mod.setCan_setCan]
    exact Mod.setCan_can (m := s.m.at t) hch _
  refine State.yields_run (f := canFrameReceived ch sof fr) rfl ⟨?_, ?_, ?_⟩
  · exact (Mod.run_can _ _ _).trans ((congrArg Mod.can hmean).trans (hcan.trans hchange))
  · rw [Mod.run_rd_other t _ s.m (Param.channel_ne_loopFlags (by decide) ch), hmean, hcount]
    have hne : P.canRxDiscarded.addr ch ≠ P.canRxFrames.addr ch := Param.channel_ne (by decide) ch
    rw [Mod.rd_inc_other hne]
    rfl
  · exact (hmean ▸ hinc.trans (hwithin.mono (List.Subset.refl _) (by simp)) :
      Mod.Within [.can] [P.canRxFrames.addr ch, P.canRxDiscarded.addr ch, P.canFlags.addr ch] (s.m.at t) (canFrameReceived ch sof fr (s.m.at t))).frame

/-! ### The ring's service (R353 to R355, R365) -/

/-- A read that ends frees its slot; without a frame in the shadow buffer nothing else changes. -/
def CanCh.freed (c : CanCh) : CanCh := { c with reading := none }

theorem CanCh.release_ring {c : CanCh} (hshadow : c.shadow = none) : c.release.ring = c.ring := by
  unfold CanCh.release
  rw [hshadow]

theorem Mod.setCan_release (hch : ch < m.can.ch.length) (hshadow : (m.canCh ch).shadow = none) :
    m.setCan ch CanCh.release = m.setCan ch CanCh.freed := by
  refine Mod.setCan_congr hch ?_
  unfold CanCh.release CanCh.freed
  rw [hshadow]

theorem Mod.tpExpire_of_none (hnone : (m.canCh ch).tp = []) : m.tpExpire ch = m := by
  unfold Mod.tpExpire
  rw [hnone]
  rfl

theorem Mod.mirror_of_none (m : Mod) (ch : Nat) : m.mirror ch [] = m :=
  foldl_keeps (π := id) (fun _ _ => rfl) _ m

/-- The entry at the head is taken. -/
def CanCh.taken (x : CanEntry × Bool × Bool) (rest : List (CanEntry × Bool × Bool)) (c : CanCh) : CanCh :=
  { c with reading := some x, ring := rest, head := (c.head + 1) % 512 }

theorem Mod.ringTake_of_head {h : Handler} {acc : List (List Byte)} {x : CanEntry × Bool × Bool} {rest : List (CanEntry × Bool × Bool)}
    (hch : ch < m.can.ch.length) (hring : (m.canCh ch).ring = x :: rest) :
    Mod.ringTake h ch (m, acc) = Mod.routeEntry h ch (m.setCan ch (CanCh.taken x rest), acc) x := by
  have htake : m.setCan ch CanCh.take = m.setCan ch (CanCh.taken x rest) := by
    refine Mod.setCan_congr hch ?_
    unfold CanCh.take
    rw [hring]
    rfl
  unfold Mod.ringTake
  dsimp only
  rw [hring, htake]

/-- Where an entry goes depends on no channel's state. -/
theorem Mod.destOf_setCan (m : Mod) (ch : Nat) (g : CanCh → CanCh) (e : CanEntry) : (m.setCan ch g).destOf ch e = m.destOf ch e := rfl

theorem Mod.routeEntry_nowhere {h : Handler} {acc : List (List Byte)} {x : CanEntry × Bool × Bool} (hdest : m.destOf ch x.1 = 0) :
    Mod.routeEntry h ch (m, acc) x = (m, acc) := by
  unfold Mod.routeEntry
  dsimp only
  rw [hdest]
  rfl

theorem Mod.routeEntry_record {h : Handler} {acc : List (List Byte)} {x : CanEntry × Bool × Bool} (hdest : m.destOf ch x.1 = 8) :
    Mod.routeEntry h ch (m, acc) x =
      (m.raise (112 + ch) 0x090A (leBytes 4 x.1.id ++ leBytes 1 x.1.dlc ++ leBytes 4 x.1.stamp), acc) := by
  unfold Mod.routeEntry
  dsimp only
  rw [hdest]
  rfl

theorem Mod.routeEntry_volron {h : Handler} {acc : List (List Byte)} {x : CanEntry × Bool × Bool} (hdest : m.destOf ch x.1 = 1) :
    Mod.routeEntry h ch (m, acc) x = (m.volronFrame h ch x.1, acc) := by
  unfold Mod.routeEntry
  dsimp only
  rw [hdest]
  rfl

/-- The service as it begins, of a channel whose shadow buffer is empty and that has no session of the transport protocol. -/
theorem Mod.serviceBegin (hch : ch < m.can.ch.length) (hshadow : (m.canCh ch).shadow = none) (htp : (m.canCh ch).tp = []) :
    (m.setCan ch CanCh.release).tpExpire ch = m.setCan ch CanCh.freed := by
  rw [Mod.setCan_release hch hshadow]
  refine Mod.tpExpire_of_none ?_
  rw [Mod.canCh_setCan_same hch]
  exact htp

theorem Mod.ringTake_after_begin {h : Handler} {acc : List (List Byte)} {x : CanEntry × Bool × Bool} {rest : List (CanEntry × Bool × Bool)}
    (hch : ch < m.can.ch.length) (hring : (m.canCh ch).ring = x :: rest) :
    Mod.ringTake h ch (m.setCan ch CanCh.freed, acc) = Mod.routeEntry h ch (m.setCan ch (CanCh.taken x rest), acc) x := by
  rw [Mod.ringTake_of_head (rest := rest) ((length_updAt _ _ _).symm ▸ hch) ((congrArg CanCh.ring (Mod.canCh_setCan_same hch _)).trans hring),
    Mod.setCan_setCan]
  rfl

/-- A service that reads one entry. -/
theorem canRingService_one {counts : List (Nat × Nat)} {x : CanEntry × Bool × Bool} {rest : List (CanEntry × Bool × Bool)} (hch4 : ch < 4)
    (hch : ch < m.can.ch.length) (hring : (m.canCh ch).ring = x :: rest) (hshadow : (m.canCh ch).shadow = none) (htp : (m.canCh ch).tp = []) :
    canRingService ch 1 false counts m =
      ((Mod.routeEntry (handler counts) ch (m.setCan ch (CanCh.taken x rest), []) x).1.setCan ch CanCh.release).mirror ch
        (Mod.routeEntry (handler counts) ch (m.setCan ch (CanCh.taken x rest), []) x).2 := by
  unfold canRingService
  rw [if_neg (not_le.2 hch4)]
  dsimp only
  rw [Mod.serviceBegin hch hshadow htp, ← Mod.ringTake_after_begin hch hring]
  rfl

/-- A service that begins to read one entry. -/
theorem canRingService_hold {counts : List (Nat × Nat)} {x : CanEntry × Bool × Bool} {rest : List (CanEntry × Bool × Bool)} (hch4 : ch < 4)
    (hch : ch < m.can.ch.length) (hring : (m.canCh ch).ring = x :: rest) (hshadow : (m.canCh ch).shadow = none) (htp : (m.canCh ch).tp = []) :
    canRingService ch 0 true counts m =
      (Mod.routeEntry (handler counts) ch (m.setCan ch (CanCh.taken x rest), []) x).1.mirror ch
        (Mod.routeEntry (handler counts) ch (m.setCan ch (CanCh.taken x rest), []) x).2 := by
  unfold canRingService
  rw [if_neg (not_le.2 hch4)]
  dsimp only
  rw [Mod.serviceBegin hch hshadow htp, ← Mod.ringTake_after_begin hch hring]
  rfl

/-- The entry read and its slot free again. -/
theorem Mod.setCan_taken_release {x : CanEntry × Bool × Bool} {rest : List (CanEntry × Bool × Bool)} (hch : ch < m.can.ch.length)
    (hshadow : (m.canCh ch).shadow = none) :
    (m.setCan ch (CanCh.taken x rest)).setCan ch CanCh.release = m.setCan ch (fun c => (c.taken x rest).freed) := by
  rw [Mod.setCan_release ((length_updAt _ _ _).symm ▸ hch) ((congrArg CanCh.shadow (Mod.canCh_setCan_same hch _)).trans hshadow),
    Mod.setCan_setCan]

/-! ### Segments of the Volron transport (R365) -/

/-- The first segment of a message of more than one. -/
theorem Mod.segment_first {h : Handler} {peer tag : Nat} {data : List Byte} (htag : tag < 16) (hnone : ∀ r ∈ m.net.reasm, r.ch ≠ ch) :
    m.segment h ch peer (BitVec.ofNat 8 (128 + tag) :: 0#8 :: data) = { m with net := { m.net with reasm := m.net.reasm ++
      [{ ch := ch, peer := peer, tag := tag, next := 1, last := m.now, bytes := data }] } } := by
  have hhead : leAt (BitVec.ofNat 8 (128 + tag) :: 0#8 :: data) 0 1 = 128 + tag := by
    have hnat : (BitVec.ofNat 8 (128 + tag)).toNat = 128 + tag := by
      rw [BitVec.toNat_ofNat]
      exact Nat.mod_eq_of_lt (by omega)
    exact hnat
  have hindex : leAt (BitVec.ofNat 8 (128 + tag) :: 0#8 :: data) 1 1 = 0 := rfl
  have htag' : (128 + tag) % 16 = tag := by omega
  have hbits : (128 + tag).testBit 7 = true ∧ (128 + tag).testBit 6 = false := by
    have hall : ∀ n < 16, (128 + n).testBit 7 = true ∧ (128 + n).testBit 6 = false := by decide
    exact hall tag htag
  have hfind : m.net.reasm.find? (fun r => r.is ch peer tag) = none := by
    refine List.find?_eq_none.2 fun r hr => ?_
    simp [Reasm.is, hnone r hr]
  have hothers : m.net.reasm.filter (fun r => r.ch = ch && r.peer = peer) = [] := by
    refine List.filter_eq_nil_iff.2 fun r hr => ?_
    simp [hnone r hr]
  have hdrop : m.net.reasm.filter (fun r => !r.is ch peer tag) = m.net.reasm := by
    refine List.filter_eq_self.2 fun r hr => ?_
    simp [Reasm.is, hnone r hr]
  unfold Mod.segment
  dsimp only
  rw [hhead, hindex, htag', hbits.1, hbits.2, hfind, if_pos rfl, if_neg (not_not.2 rfl), Option.isSome_none, if_neg Bool.false_ne_true, hothers,
    if_neg (by decide)]
  unfold Mod.reasmTake Mod.reasmDrop
  rw [if_neg Bool.false_ne_true, hdrop]
  rfl

theorem Mod.carries_setCan (hch : ch < m.can.ch.length) (hch4 : ch < 4) {g : CanCh → CanCh} (hg : ∀ c, (g c).st = c.st) :
    (m.setCan ch g).carries (2 + ch) = m.carries (2 + ch) := by
  have hlive : (m.setCan ch g).canLive (2 + ch - 2) = m.canLive (2 + ch - 2) := by
    rw [Nat.add_sub_cancel_left, Mod.canLive, Mod.canCh_setCan_same hch, hg, Mod.canLive]
  unfold Mod.carries
  rw [show (m.setCan ch g).netState = m.netState from rfl]
  split
  · rfl
  · have hcan : ¬ 2 + ch ≤ 1 := by omega
    have hlast : 2 + ch ≤ 5 := by omega
    rw [if_neg hcan, if_neg hcan, if_pos hlast, if_pos hlast, hlive]
    rfl
  · rfl

/-- A frame of the Volron transport from a peer's address. -/
theorem Mod.volronFrame_of_peer {h : Handler} {e : CanEntry} {peer : Nat} (hpeer : peer < 32) (hcarries : m.carries (2 + ch) = true)
    (hext : e.ext = true) (hdata : e.rtr = false) (hid : e.id = m.rd P.netCanBase + 2 * peer) :
    m.volronFrame h ch e = m.segment h ch peer (e.data.take (dlcLen e.fd e.dlc)) := by
  have hplace : (e.id - m.rd P.netCanBase) / 2 = peer := by omega
  unfold Mod.volronFrame
  dsimp only
  rw [hext, hdata, hcarries, decide_eq_true (show m.rd P.netCanBase ≤ e.id by omega), decide_eq_true (show e.id < m.rd P.netCanBase + 64 by omega),
    decide_eq_true (show (e.id - m.rd P.netCanBase) % 2 = 0 by omega), hplace]
  rfl

theorem canReassemblyTimeout_of_late {peer tag : Nat} {r : Reasm} (hfind : m.net.reasm.find? (fun r => r.is ch peer tag) = some r)
    (hlate : r.last + m.rd P.netCanReasmMs * 1000000 ≤ m.now) : canReassemblyTimeout ch peer tag m = m.reasmFail ch peer tag := by
  unfold canReassemblyTimeout
  rw [hfind]
  exact if_pos hlate

end

/-! ### The statement -/

/-- Settles O55: a frame from the bus by the room of its ring and its format; an entry by its destination; a partial message by its age. -/
theorem canFramesAreReceivedAndRouted : Obligations.CanFramesAreReceivedAndRouted := by
  unfold Obligations.CanFramesAreReceivedAndRouted
  intro s t ch hs hch4 hch c
  refine ⟨fun sof f hst htec hrec => ?received,
    fun x rest counts hring hshadow htp => ⟨fun hdest => ?_, fun hdest hplain => ?_,
      fun peer tag data hpeer htag hdest hcarries hext hrtr hid hdata hnone => ?_⟩, fun peer tag r hfind hlate => ?_⟩
  case received =>
    have hlow : c.st < 2 := hst ▸ Nat.zero_lt_two
    refine ⟨fun hformat hroom => ?_, fun hformat hfull => ?_, fun hfd hclassic => ?_⟩
    · exact received_yields hs hch (Mod.canLive_of_lt hch4 hlow) hst htec hrec hformat hroom
    · exact discarded_yields hs hch (Mod.canLive_of_lt hch4 hlow) hst htec hrec hformat hfull
    · have hmean := canFrameReceived_of_refused (m := s.m.at t) (ch := ch) (sof := sof) (Mod.canLive_of_lt (m := s.m.at t) hch4 hlow) hfd hclassic
      refine State.yields_run (f := canFrameReceived ch sof f) rfl ⟨?_, ?_⟩
      · rw [Mod.run_rd_other t _ s.m (Param.channel_ne_loopFlags (by decide) ch), hmean, Mod.rd_flag (m := s.m.at t) hs]
        exact testBit_flagged _ 32 5 (by decide) (by decide)
      · exact (hmean ▸ Mod.Within.flag _ _ _ _ (by simp) : Mod.Within [] [P.canFlags.addr ch] (s.m.at t) (canFrameReceived ch sof f (s.m.at t))).frame
  · have hmean := canRingService_one (m := s.m.at t) (counts := counts) hch4 hch hring hshadow htp
    rw [Mod.routeEntry_nowhere (m := (s.m.at t).setCan ch (CanCh.taken x rest)) hdest, Mod.mirror_of_none,
      Mod.setCan_taken_release (m := s.m.at t) hch hshadow] at hmean
    exact can_yields (f := canRingService ch 1 false counts) rfl hch hmean rfl rfl (.setCan _ _ _ (by decide))
  · have hmean := canRingService_hold (m := s.m.at t) (counts := counts) hch4 hch hring hshadow htp
    rw [Mod.routeEntry_record (m := (s.m.at t).setCan ch (CanCh.taken x rest)) hdest, Mod.mirror_of_none] at hmean
    obtain ⟨hone, -⟩ := RaisedOne.of_run (f := canRingService ch 0 true counts) (code := 0x090A)
      (d := leBytes 4 x.1.id ++ leBytes 1 x.1.dlc ++ leBytes 4 x.1.stamp) hplain (hmean ▸ rfl) (fun n => hmean ▸ rfl) (hmean ▸ rfl)
      ((congrArg Mod.evc hmean).trans rfl)
    refine State.yields_run (f := canRingService ch 0 true counts) rfl ⟨?_, hone, ?_⟩
    · exact (Mod.run_can _ _ _).trans ((congrArg Mod.can hmean).trans (Mod.setCan_can (m := s.m.at t) hch (CanCh.taken x rest)))
    · exact (hmean ▸ (Mod.Within.setCan _ _ _ (by decide)).trans (.raise _ _ _ _) :
        Mod.Within [.can] [] (s.m.at t) (canRingService ch 0 true counts (s.m.at t))).frame
  · have hmean := canRingService_one (m := s.m.at t) (counts := counts) hch4 hch hring hshadow htp
    rw [Mod.routeEntry_volron (m := (s.m.at t).setCan ch (CanCh.taken x rest)) hdest, Mod.mirror_of_none] at hmean
    have hcarries' : ((s.m.at t).setCan ch (CanCh.taken x rest)).carries (2 + ch) = true :=
      (Mod.carries_setCan (m := s.m.at t) (g := CanCh.taken x rest) hch hch4 (fun _ => rfl)).trans hcarries
    rw [Mod.volronFrame_of_peer (m := (s.m.at t).setCan ch (CanCh.taken x rest)) hpeer hcarries' hext hrtr hid, hdata,
      Mod.segment_first (m := (s.m.at t).setCan ch (CanCh.taken x rest)) htag hnone] at hmean
    refine State.yields_run (f := canRingService ch 1 false counts) rfl ⟨?_, ?_, ?_⟩
    · exact (Mod.run_net _ _ _).trans (congrArg Mod.net hmean)
    · have hlength : ch < ((s.m.at t).setCan ch (CanCh.taken x rest)).can.ch.length := (length_updAt _ _ _).symm ▸ hch
      have htaken : ((s.m.at t).setCan ch (CanCh.taken x rest)).canCh ch = (s.m.canCh ch).taken x rest := Mod.canCh_setCan_same (m := s.m.at t) hch _
      have hsame : (Mod.run t (canRingService ch 1 false counts) s.m).canCh ch = ((s.m.canCh ch).taken x rest).release := by
        rw [Mod.run_canCh, hmean, ← htaken]
        exact getD_updAt_same hlength
      exact (congrArg CanCh.ring hsame).trans (CanCh.release_ring (c := (s.m.canCh ch).taken x rest) hshadow)
    · exact (hmean ▸ ((Mod.Within.setCan _ _ _ (by decide)).trans (.ofNet _ _ (by decide))).trans (.setCan _ _ _ (by decide)) :
        Mod.Within [.net, .can] [] (s.m.at t) (canRingService ch 1 false counts (s.m.at t))).frame
  · have hmean := canReassemblyTimeout_of_late (m := s.m.at t) hfind hlate
    refine State.yields_run (f := canReassemblyTimeout ch peer tag) rfl ⟨?_, ?_, ?_⟩
    · rw [Mod.run_net, hmean]
      rfl
    · have hflag : ∀ x : Mod, (x.flag P.netFlags 4).rd P.netCanReasmFails = x.rd P.netCanReasmFails := fun _ => Mod.rd_flag_other (by decide) 4
      exact count_of_run (x := s.m.at t) hs rfl (by decide) (hmean ▸ hflag _) rfl
    · exact (hmean ▸ (((Mod.Within.ofNet _ _ (by decide)).trans (.inc _ _ _ _ _ (by decide))).trans (.flag _ _ _ _ (by decide))).trans (.raise _ _ _ _) :
        Mod.Within [.net] [P.netCanReasmFails.addr, P.netFlags.addr] (s.m.at t) (canReassemblyTimeout ch peer tag (s.m.at t))).frame

end Sys2Proof.Machine
end

section
/-!
PROOFS. The statements of 15_can.md: the frames that a channel sends, its errors, and its address.
-/
namespace Sys2Proof.Machine

section
variable {as : List Area} {ws : List Nat} {s : State} {t ch : Nat} {c : Instr} {f : Mod → Mod} {m : Mod}

/-! ### The order of the queue (R356) -/

theorem foldl_min_le {α : Type} (k : α → Nat) (l : List α) (b : Nat) :
    l.foldl (fun b x => Nat.min b (k x)) b ≤ b ∧ ∀ x ∈ l, l.foldl (fun b x => Nat.min b (k x)) b ≤ k x := by
  induction l generalizing b with
  | nil => exact ⟨le_refl b, fun _ h => absurd h List.not_mem_nil⟩
  | cons y l ih =>
    obtain ⟨hb, hall⟩ := ih (Nat.min b (k y))
    refine ⟨hb.trans (Nat.min_le_left _ _), fun x hx => ?_⟩
    obtain rfl | hx := List.mem_cons.1 hx
    · exact hb.trans (Nat.min_le_right _ _)
    · exact hall x hx

/-- The least key among the frames that may be offered. -/
def CanCh.leastKey (k : CanCh) (sof : Nat) : Nat := (k.txq.filter (k.mayOffer sof)).foldl (fun b f => Nat.min b f.key) (2 ^ 40)

/-- The frame that is offered is one of least key. -/
theorem CanCh.txHead_least {k : CanCh} {sof : Nat} {x : CanTx} (hhead : k.txq[k.txHead sof]? = some x) :
    ∀ g ∈ k.txq, k.mayOffer sof g = true → x.key ≤ g.key := by
  intro g hg hoffer
  obtain ⟨hlt, hx⟩ := List.getElem?_eq_some_iff.1 hhead
  have hfound : (k.mayOffer sof k.txq[k.txHead sof] && decide (k.txq[k.txHead sof].key = k.leastKey sof)) = true :=
    List.findIdx_getElem (w := hlt)
  rw [hx, Bool.and_eq_true, decide_eq_true_eq] at hfound
  rw [hfound.2]
  exact (foldl_min_le CanTx.key _ _).2 g (List.mem_filter.2 ⟨hg, hoffer⟩)

/-! ### Frames sent (R350, R351, R356) -/

/-- The frame that leaves, as the bus carries it. -/
def Mod.canLeaves (m : Mod) (ch : Nat) (x : CanTx) : CanFrame :=
  { id := x.id, ext := x.ext, fd := x.fd, brs := x.brs && (m.rd P.canCfg ch).testBit 2, esi := x.fd && (m.canCh ch).st = 1, rtr := false,
    dlc := x.dlc, data := x.data }

/-- The entry with which it comes back into the ring. -/
def sentEntry (m : Mod) (ch sof : Nat) (x : CanTx) : CanEntry := entryOf (m.canLeaves ch x) (m.canStamp ch sof) true

/-- A channel that a frame has left. -/
def CanCh.sentOne (i : Nat) (e : CanEntry) (now : Nat) (x : CanTx) (k : CanCh) : CanCh :=
  ({ k with txq := k.txq.eraseIdx i, sent := k.sent ++ [e] }.claimOut now x).refill now

/-- The measured delay of a frame in the FD format. -/
def Mod.canMeasured (m : Mod) (ch tdc : Nat) (fd : Bool) : Mod := if fd then m.canTdc ch tdc else m

theorem canFrameTransmitted_of_head {sof tdc : Nat} {x : CanTx} (hhead : (m.canCh ch).txq[(m.canCh ch).txHead (m.extend sof)]? = some x)
    (hlive : m.canLive ch = true) (hmode : m.rd P.canMode ch = 1) : canFrameTransmitted ch sof tdc m =
      (((((m.setCan ch (CanCh.sentOne ((m.canCh ch).txHead (m.extend sof)) (sentEntry m ch sof x) m.now x)).inc
        P.canTxFrames ch).canMeasured ch tdc x.fd).canCounters ch ((m.canCh ch).tec - 1) (m.canCh ch).rec_).canKeep ch
          (sentEntry m ch sof x)) := by
  unfold canFrameTransmitted
  dsimp only
  rw [hhead]
  dsimp only
  rw [hlive, decide_eq_true hmode, Bool.and_self, if_pos rfl]
  rfl

theorem CanCh.claimOut_eq (now : Nat) (x : CanTx) (k : CanCh) : ∃ sent at_, k.claimOut now x = { k with claimSent := sent, isoAt := at_ } := by
  unfold CanCh.claimOut
  split
  · exact ⟨true, now, rfl⟩
  · exact ⟨k.claimSent, k.isoAt, rfl⟩

/-- Where no frame waits for space in the queue, none takes it. -/
theorem CanCh.refill_of_none {k : CanCh} (hwait : k.txWait = []) (now : Nat) : k.refill now = k := by
  unfold CanCh.refill
  dsimp only
  rw [hwait, List.take_nil, List.map_nil, List.append_nil, List.drop_nil, ← hwait]

theorem CanCh.sentOne_eq {k : CanCh} (hwait : k.txWait = []) (i : Nat) (e : CanEntry) (now : Nat) (x : CanTx) : ∃ sent at_,
    k.sentOne i e now x = { k with txq := k.txq.eraseIdx i, sent := k.sent ++ [e], claimSent := sent, isoAt := at_ } := by
  obtain ⟨sent, at_, hclaim⟩ := CanCh.claimOut_eq now x { k with txq := k.txq.eraseIdx i, sent := k.sent ++ [e] }
  refine ⟨sent, at_, ?_⟩
  unfold CanCh.sentOne
  rw [hclaim]
  exact CanCh.refill_of_none (by exact hwait) now

/-- A channel whose transmitter delay was measured. -/
def CanCh.measured (ssp : Nat) (fd : Bool) (k : CanCh) : CanCh := if fd then { k with ssp := ssp } else k

theorem CanCh.measured_st (ssp : Nat) (fd : Bool) (k : CanCh) : (k.measured ssp fd).st = k.st := by
  unfold CanCh.measured
  split <;> rfl

theorem CanCh.measured_ring (ssp : Nat) (fd : Bool) (k : CanCh) : (k.measured ssp fd).ring = k.ring := by
  unfold CanCh.measured
  split <;> rfl

theorem CanCh.measured_txq (ssp : Nat) (fd : Bool) (k : CanCh) : (k.measured ssp fd).txq = k.txq := by
  unfold CanCh.measured
  split <;> rfl

theorem CanCh.measured_sent (ssp : Nat) (fd : Bool) (k : CanCh) : (k.measured ssp fd).sent = k.sent := by
  unfold CanCh.measured
  split <;> rfl

theorem Mod.canMeasured_canCh (hch : ch < m.can.ch.length) (tdc : Nat) (fd : Bool) :
    (m.canMeasured ch tdc fd).canCh ch = (m.canCh ch).measured (m.canSsp ch (Nat.min tdc 255)) fd := by
  unfold Mod.canMeasured CanCh.measured
  cases fd with
  | true => exact getD_updAt_same hch
  | false => rfl

theorem Mod.canMeasured_length (m : Mod) (ch tdc : Nat) (fd : Bool) : (m.canMeasured ch tdc fd).can.ch.length = m.can.ch.length := by
  unfold Mod.canMeasured
  cases fd with
  | true => exact length_updAt _ _ _
  | false => rfl

theorem Mod.rd_canMeasured {p : Param} (hp : p.addr ch ≠ P.canTdcNow.addr ch) (tdc : Nat) (fd : Bool) :
    (m.canMeasured ch tdc fd).rd p ch = m.rd p ch := by
  unfold Mod.canMeasured
  cases fd with
  | true => exact Mod.rd_wr_other hp _
  | false => rfl

theorem Mod.canMeasured_other {k : Nat} (hk : k ≠ ch) (tdc : Nat) (fd : Bool) : (m.canMeasured ch tdc fd).canCh k = m.canCh k := by
  unfold Mod.canMeasured
  cases fd with
  | true => exact getD_updAt_other hk.symm
  | false => rfl

theorem Mod.Within.canTdc (m : Mod) (ch tdc : Nat) (hcan : Area.can ∈ as) (hw : P.canTdcNow.addr ch ∈ ws) : Mod.Within as ws m (m.canTdc ch tdc) :=
  (Mod.Within.wr _ _ _ _ _ hw).trans (.setCan _ _ _ hcan)

theorem Mod.Within.canMeasured (m : Mod) (ch tdc : Nat) (fd : Bool) (hcan : Area.can ∈ as) (hw : P.canTdcNow.addr ch ∈ ws) :
    Mod.Within as ws m (m.canMeasured ch tdc fd) := by
  unfold Mod.canMeasured
  cases fd with
  | true => exact .canTdc m ch tdc hcan hw
  | false => exact .refl m

/-- The module after a frame has left, before the frame comes back into the ring. -/
def Mod.canSent (m : Mod) (ch sof tdc : Nat) (x : CanTx) : Mod :=
  ((m.setCan ch (CanCh.sentOne ((m.canCh ch).txHead (m.extend sof)) (sentEntry m ch sof x) m.now x)).inc
    P.canTxFrames ch).canMeasured ch tdc x.fd

theorem Mod.canSent_length (m : Mod) (ch sof tdc : Nat) (x : CanTx) : (m.canSent ch sof tdc x).can.ch.length = m.can.ch.length :=
  (Mod.canMeasured_length _ _ _ _).trans (length_updAt _ _ _)

theorem Mod.canSent_canCh (hch : ch < m.can.ch.length) (sof tdc : Nat) (x : CanTx) : (m.canSent ch sof tdc x).canCh ch =
    (CanCh.sentOne ((m.canCh ch).txHead (m.extend sof)) (sentEntry m ch sof x) m.now x (m.canCh ch)).measured
      (m.canSsp ch (Nat.min tdc 255)) x.fd := by
  have hssp : ((m.setCan ch (CanCh.sentOne ((m.canCh ch).txHead (m.extend sof)) (sentEntry m ch sof x) m.now x)).inc
      P.canTxFrames ch).canSsp ch (Nat.min tdc 255) = m.canSsp ch (Nat.min tdc 255) := by
    have hdbt : P.canDbt.addr ch ≠ P.canTxFrames.addr ch := Param.channel_ne (by decide) ch
    have htdco : P.canTdco.addr ch ≠ P.canTxFrames.addr ch := Param.channel_ne (by decide) ch
    unfold Mod.canSsp
    rw [Mod.rd_inc_other hdbt, Mod.rd_inc_other htdco]
    rfl
  rw [Mod.canSent, Mod.canMeasured_canCh ((length_updAt _ _ _).symm ▸ hch), hssp]
  exact congrArg (CanCh.measured _ _) (getD_updAt_same hch)

theorem Mod.Within.canSent (m : Mod) (ch sof tdc : Nat) (x : CanTx) :
    Mod.Within [.can] [P.canTxFrames.addr ch, P.canTdcNow.addr ch] m (m.canSent ch sof tdc x) :=
  ((Mod.Within.setCan _ _ _ (by decide)).trans (.inc _ _ _ _ _ (by simp))).trans (.canMeasured _ _ _ _ (by decide) (by simp))

/-- The channels after a frame that was sent in the active state. -/
theorem transmitted_yields {sof tdc : Nat} {x : CanTx} (hs : s.Canonical) (hch : ch < s.m.can.ch.length)
    (hhead : (s.m.canCh ch).txq[(s.m.canCh ch).txHead ((s.m.at t).extend sof)]? = some x) (hlive : s.m.canLive ch = true)
    (hst : (s.m.canCh ch).st = 0) (htec : (s.m.canCh ch).tec < 128) (hrec : (s.m.canCh ch).rec_ < 128) (hmode : s.m.rd P.canMode ch = 1)
    (hroom : (s.m.canCh ch).ring.length < 511) (hwait : (s.m.canCh ch).txWait = []) :
    s.Yields (.canFrameTransmitted t ch sof tdc) fun m' =>
      let c := s.m.canCh ch
      (m'.canCh ch).txq = c.txq.eraseIdx (c.txHead ((s.m.at t).extend sof)) ∧ (m'.canCh ch).tec = c.tec - 1
      ∧ (∃ e : CanEntry, (m'.canCh ch).sent = c.sent ++ [e] ∧ e.tx = true ∧ e.id = x.id ∧ e.dlc = x.dlc ∧ e.ext = x.ext
        ∧ e.stamp = s.m.canStamp ch sof ∧ (x.fd = true → (m'.canCh ch).ssp = s.m.canSsp ch (Nat.min tdc 255))
        ∧ e.rtr = false
        ∧ (m'.canCh ch).ring = c.ring ++ [({ e with seq := (c.seq + 1) % 2 ^ 32 % 65536 }, false, c.lostBefore)])
      ∧ (∀ k, k ≠ ch → m'.canCh k = s.m.canCh k) ∧ m'.rd P.canTxFrames ch = (s.m.rd P.canTxFrames ch + 1) % 2 ^ 32
      ∧ Mod.Frame t [.can] [P.canTxFrames.addr ch, P.canTdcNow.addr ch] s.m m' := by
  have hmean := canFrameTransmitted_of_head (m := s.m.at t) (tdc := tdc) hhead hlive hmode
  obtain ⟨claimed, at_, hone⟩ := CanCh.sentOne_eq hwait ((s.m.canCh ch).txHead ((s.m.at t).extend sof))
    (sentEntry (s.m.at t) ch sof x) (s.m.at t).now x
  have hsent := Mod.canSent_canCh (m := s.m.at t) hch sof tdc x
  rw [show ((s.m.at t).canCh ch) = s.m.canCh ch from rfl, hone] at hsent
  have hlength : ch < ((s.m.at t).canSent ch sof tdc x).can.ch.length := (Mod.canSent_length (s.m.at t) ch sof tdc x).symm ▸ hch
  have hstate : errState ((s.m.canCh ch).tec - 1) (s.m.canCh ch).rec_ = (((s.m.at t).canSent ch sof tdc x).canCh ch).st := by
    rw [hsent, CanCh.measured_st, errState_of_low (by omega) hrec, hst]
  have hroom' : (((s.m.at t).canSent ch sof tdc x).setCan ch (CanCh.counted (s.m.at t).now ((s.m.canCh ch).tec - 1) (s.m.canCh ch).rec_)
      |>.canCh ch).ring.length < 511 := by
    rw [Mod.canCh_setCan_same hlength, hsent]
    exact (congrArg List.length (CanCh.measured_ring _ _ _)).trans_lt hroom
  have hnow : ((s.m.at t).canSent ch sof tdc x).now = (s.m.at t).now := (Mod.Within.canSent (s.m.at t) ch sof tdc x).now
  have hwhole : canFrameTransmitted ch sof tdc (s.m.at t) = ((s.m.at t).canSent ch sof tdc x).setCan ch (fun k =>
      (k.counted (s.m.at t).now ((s.m.canCh ch).tec - 1) (s.m.canCh ch).rec_).kept (sentEntry (s.m.at t) ch sof x)) := by
    have hsteps : canFrameTransmitted ch sof tdc (s.m.at t) = (((s.m.at t).canSent ch sof tdc x).canCounters ch ((s.m.canCh ch).tec - 1)
      (s.m.canCh ch).rec_).canKeep ch (sentEntry (s.m.at t) ch sof x) := hmean
    rw [hsteps, Mod.canCounters_of_same hstate, hnow, Mod.canKeep_of_room ((length_updAt _ _ _).symm ▸ hlength) hroom', Mod.setCan_setCan]
  have hwithin : Mod.Within [.can] [P.canTxFrames.addr ch, P.canTdcNow.addr ch] (s.m.at t) (canFrameTransmitted ch sof tdc (s.m.at t)) :=
    hwhole ▸ (Mod.Within.canSent _ _ _ _ _).trans (.setCan _ _ _ (by decide))
  have hsame : (Mod.run t (canFrameTransmitted ch sof tdc) s.m).canCh ch =
      (((((s.m.at t).canSent ch sof tdc x).canCh ch).counted (s.m.at t).now ((s.m.canCh ch).tec - 1) (s.m.canCh ch).rec_).kept
        (sentEntry (s.m.at t) ch sof x)) := by
    rw [Mod.run_canCh, hwhole]
    exact Mod.canCh_setCan_same hlength _
  refine State.yields_run (f := canFrameTransmitted ch sof tdc) rfl ?_
  rw [hsame, hsent]
  refine ⟨CanCh.measured_txq _ _ _, rfl, ⟨sentEntry (s.m.at t) ch sof x, CanCh.measured_sent _ _ _, rfl, rfl, rfl, rfl, rfl, fun hfd => ?_, rfl, ?_⟩,
    fun k hk => ?_, ?_, hwithin.frame⟩
  · rw [hfd]
    rfl
  · cases x.fd <;> rfl
  · rw [Mod.run_canCh, hwhole, Mod.canCh_setCan_other hk]
    exact (Mod.canMeasured_other hk _ _).trans (Mod.canCh_setCan_other (m := s.m.at t) hk _)
  · refine canCount_of_run (x := (s.m.at t).setCan ch (CanCh.sentOne ((s.m.canCh ch).txHead ((s.m.at t).extend sof))
      (sentEntry (s.m.at t) ch sof x) (s.m.at t).now x)) hs rfl (by decide) ?_ rfl
    rw [hwhole]
    exact Mod.rd_canMeasured (Param.channel_ne (by decide) ch) _ _

/-! ### Errors (R350, R357, R358) -/

/-- An attempt of the channel's own needs normal mode and a queued frame. -/
def Mod.canTries (m : Mod) (ch : Nat) : Prop := m.rd P.canMode ch = 1 ∧ (m.canCh ch).txq ≠ []

/-- An error as it is counted. -/
def Mod.canErrStep (m : Mod) (ch kind : Nat) : Mod :=
  let m1 := if kind = 0 then m else m.inc P.canErrFrames ch
  match kind with
  | 1 => m1.canCounters ch ((m.canCh ch).tec + 8) (m.canCh ch).rec_
  | 2 => m1.canCounters ch (m.canCh ch).tec (Nat.min 255 ((m.canCh ch).rec_ + 1))
  | 3 => m1.canCounters ch (m.canCh ch).tec (Nat.min 255 ((m.canCh ch).rec_ + 8))
  | 4 => if (m.canCh ch).st = 1 then m1 else m1.canCounters ch ((m.canCh ch).tec + 8) (m.canCh ch).rec_
  | _ => m1

theorem canError_of_idle {kind : Nat} {tdc : Option Nat} (hown : ownAttempt kind = true) (hidle : ¬ m.canTries ch) : canError ch kind tdc m = m := by
  have hcond : (!m.canLive ch || (ownAttempt kind && (decide (m.rd P.canMode ch ≠ 1) || decide ((m.canCh ch).txq = [])))) = true := by
    rw [hown, Bool.true_and, Bool.or_eq_true, ← Bool.decide_or, decide_eq_true_eq]
    exact Or.inr (by_contra fun h => hidle ⟨not_not.1 (not_or.1 h).1, (not_or.1 h).2⟩)
  exact if_pos hcond

/-- An error on a channel that takes part in the bus, with no frame that waited too long. -/
theorem canError_of_live {kind : Nat} {tdc : Option Nat} (hlive : m.canLive ch = true) (htries : ownAttempt kind = true → m.canTries ch)
    (hlate : ∀ x ∈ (m.canCh ch).txq, x.late = false) : canError ch kind tdc m =
      match tdc with
      | some d => if ownAttempt kind && (m.rd P.canCfg ch).testBit 3 then (m.canErrStep ch kind).canTdc ch d else m.canErrStep ch kind
      | none => m.canErrStep ch kind := by
  have hcond : (!m.canLive ch || (ownAttempt kind && (decide (m.rd P.canMode ch ≠ 1) || decide ((m.canCh ch).txq = [])))) = false := by
    rw [hlive, Bool.not_true, Bool.false_or]
    cases hown : ownAttempt kind with
    | false => rfl
    | true =>
      obtain ⟨hmode, hqueued⟩ := htries hown
      rw [decide_eq_false (not_not.2 hmode), decide_eq_false hqueued]
      rfl
  have hnone : ¬ (m.canCh ch).txq.findIdx (fun x => x.late) < (m.canCh ch).txq.length := by
    rw [List.findIdx_lt_length]
    rintro ⟨x, hx, hl⟩
    exact Bool.false_ne_true ((hlate x hx).symm.trans hl)
  unfold canError
  rw [hcond, if_neg Bool.false_ne_true]
  dsimp only
  rw [decide_eq_false hnone, Bool.and_false, if_neg Bool.false_ne_true]
  rfl

/-- An error that moves the counters answers with them. -/
theorem counted_yields {kind tec rec : Nat} (hs : s.Canonical) (hch : ch < s.m.can.ch.length)
    (hf : canError ch kind none (s.m.at t) = ((s.m.at t).inc P.canErrFrames ch).canCounters ch tec rec) :
    s.Yields (.canError t ch kind none) fun m' =>
      m'.can = { s.m.can with ch := s.m.can.ch.set ch { s.m.canCh ch with tec := tec, rec_ := rec, st := errState tec rec, busOffAt := if errState tec rec = 2 then (s.m.at t).now else (s.m.canCh ch).busOffAt } }
      ∧ m'.rd P.canErrFrames ch = (s.m.rd P.canErrFrames ch + 1) % 2 ^ 32
      ∧ Mod.Frame t [.can] [P.canErrFrames.addr ch, P.canFlags.addr ch, P.canBusoffs.addr ch] s.m m' := by
  have hcounters : Mod.Within [.can] [P.canFlags.addr ch, P.canBusoffs.addr ch] ((s.m.at t).inc P.canErrFrames ch)
      (((s.m.at t).inc P.canErrFrames ch).canCounters ch tec rec) := .canCounters _ _ _ _ (by decide) (by simp) (by simp)
  have hinc : Mod.Within [.can] [P.canErrFrames.addr ch] (s.m.at t) ((s.m.at t).inc P.canErrFrames ch) := .inc _ _ _ _ _ (by simp)
  have hwithin := (hinc.mono (ws' := [P.canErrFrames.addr ch, P.canFlags.addr ch, P.canBusoffs.addr ch]) (List.Subset.refl _) (by simp)).trans
    (hcounters.mono (List.Subset.refl _) (by simp))
  refine State.yields_run (f := canError ch kind none) rfl ⟨?_, ?_, (hf ▸ hwithin).frame⟩
  · exact (Mod.run_can _ _ _).trans ((congrArg Mod.can hf).trans ((Mod.canCounters_can _ _ _ _).trans
      (Mod.setCan_can (m := (s.m.at t).inc P.canErrFrames ch) hch _)))
  · refine canCount_of_run (x := s.m.at t) hs rfl (by decide) ?_ rfl
    rw [hf]
    refine hcounters.rd_eq (hinc.wf hs) ?_ (Param.channel_ne_loopFlags (by decide) ch)
    simp [Param.addr, P.canErrFrames, P.canFlags, P.canBusoffs]

/-! ### Frames that waited too long (R357, R360) -/

/-- A channel that a frame has left unsent. -/
def CanCh.expired (now : Nat) (i : Nat) (x : CanTx) (k : CanCh) : CanCh :=
  { k with txq := k.txq.eraseIdx i, unsent := k.unsent ++ [x] }.refill now

/-- A frame that has left unsent, before its sender is told. -/
def Mod.canExpired (m : Mod) (ch i : Nat) (x : CanTx) : Mod :=
  (((m.setCan ch (CanCh.expired m.now i x)).inc P.canTxExpired ch).flag P.canFlags 8 ch).raise (112 + ch) 0x0906 (leBytes 4 x.id)

theorem Mod.canExpire_eq {i : Nat} {x : CanTx} (hx : (m.canCh ch).txq[i]? = some x) : m.canExpire ch i = (m.canExpired ch i x).claimAgain ch x := by
  unfold Mod.canExpire
  rw [hx]
  rfl

theorem CanCh.expired_eq {k : CanCh} (hwait : k.txWait = []) (now i : Nat) (x : CanTx) :
    k.expired now i x = { k with txq := k.txq.eraseIdx i, unsent := k.unsent ++ [x] } := CanCh.refill_of_none (by exact hwait) now

theorem Mod.Within.canExpired (m : Mod) (ch i : Nat) (x : CanTx) :
    Mod.Within [.can] [P.canTxExpired.addr ch, P.canFlags.addr ch] m (m.canExpired ch i x) :=
  (((Mod.Within.setCan _ _ _ (by decide)).trans (.inc _ _ _ _ _ (by simp))).trans (.flag _ _ _ _ (by simp))).trans (.raise _ _ _ _)

theorem Mod.rd_canExpired (hwf : Store.wf m.regs = true) (ch i : Nat) (x : CanTx) :
    (m.canExpired ch i x).rd P.canTxExpired ch = (m.rd P.canTxExpired ch + 1) % 2 ^ 32 := by
  have hne : P.canTxExpired.addr ch ≠ P.canFlags.addr ch := Param.channel_ne (by decide) ch
  rw [Mod.canExpired, Mod.rd_raise, Mod.rd_flag_other hne]
  exact Mod.rd_inc_full (m := m.setCan ch (CanCh.expired m.now i x)) hwf rfl ch 1 0

theorem Mod.claimAgain_of_other {x : CanTx} (hother : x.isClaim = false) : m.claimAgain ch x = m := by
  unfold Mod.claimAgain
  rw [hother]
  exact if_neg Bool.false_ne_true

/-- A claim that stayed unsent is made again. -/
theorem Mod.claimAgain_of_claim {x : CanTx} (hclaim : x.isClaim = true) (hours : x.id % 256 = (m.canCh ch).sa)
    (hiso : (m.canCh ch).iso = .claimed) (hunsent : (m.canCh ch).claimSent = false) : m.claimAgain ch x = m.isoClaim ch (m.canCh ch).sa := by
  unfold Mod.claimAgain
  dsimp only
  rw [hclaim, decide_eq_true hours, decide_eq_true hiso, hunsent]
  rfl

/-- A frame offered to a queue that has room, where none waits. -/
theorem CanCh.refill_of_one {k : CanCh} (hwait : k.txWait = []) (hroom : k.txq.length < 32) (x : CanTx) (now : Nat) :
    { k with txWait := k.txWait ++ [x] }.refill now = { k with txq := k.txq ++ [{ x with at_ := now }] } := by
  unfold CanCh.refill
  dsimp only
  obtain ⟨n, hn⟩ := Nat.exists_eq_succ_of_ne_zero (show 32 - k.txq.length ≠ 0 by omega)
  rw [hwait, hn, List.nil_append, List.take_succ_cons, List.take_nil, List.drop_succ_cons, List.drop_nil]
  rfl

/-- A channel that claims its address. -/
def CanCh.claims (x : CanTx) (now : Nat) (k : CanCh) : CanCh := { k with txWait := k.txWait ++ [x] }.refill now

theorem Mod.isoClaim_eq (m : Mod) (ch sa : Nat) :
    m.isoClaim ch sa = m.setCan ch (CanCh.claims (m.isoFrame (0x18EEFF00 + sa) (leBytes 8 (m.isoName ch))) m.now) := rfl

theorem canTxTimeout_of_first {x : CanTx} {rest : List CanTx} {busy : Bool} (hch : ch < 4) (hqueue : (m.canCh ch).txq = x :: rest)
    (hlate : x.at_ + m.rd P.canTxTimeout ch * 1000000 ≤ m.now) (hfirst : x.late = false) : canTxTimeout ch busy m =
      if busy then m.setCan ch (fun c => { c with txq := updAt c.txq 0 (fun f => { f with late := true }) }) else m.canExpire ch 0 := by
  have hindex : (m.canCh ch).txq.findIdx (fun f => f.at_ + m.rd P.canTxTimeout ch * 1000000 ≤ m.now && !f.late) = 0 := by
    rw [hqueue, List.findIdx_cons, decide_eq_true hlate, hfirst]
    rfl
  unfold canTxTimeout
  dsimp only
  rw [hindex, hqueue, decide_eq_true hch]
  exact if_pos rfl

/-- A channel without the frame at the head of its queue. -/
def CanCh.without (x : CanTx) (rest : List CanTx) (k : CanCh) : CanCh := { k with txq := rest, unsent := k.unsent ++ [x] }

/-- A claim that waited too long is sent again. -/
theorem claimAgain_yields {x : CanTx} {rest : List CanTx} (hs : s.Canonical) (hch4 : ch < 4) (hch : ch < s.m.can.ch.length)
    (hqueue : (s.m.canCh ch).txq = x :: rest) (hlate : x.at_ + s.m.rd P.canTxTimeout ch * 1000000 ≤ (s.m.at t).now) (hfirst : x.late = false)
    (hwait : (s.m.canCh ch).txWait = []) (hclaim : x.isClaim = true) (hours : x.id % 256 = (s.m.canCh ch).sa)
    (hiso : (s.m.canCh ch).iso = .claimed) (hunsent : (s.m.canCh ch).claimSent = false) (hroom : rest.length < 32) :
    s.Yields (.canTxTimeout t ch false) fun m' =>
      (∃ g : CanTx, m'.can = { s.m.can with ch := s.m.can.ch.set ch { s.m.canCh ch with txq := rest ++ [g], unsent := (s.m.canCh ch).unsent ++ [x] } }
        ∧ g.id = 0x18EEFF00 + (s.m.canCh ch).sa ∧ g.at_ = (s.m.at t).now)
      ∧ m'.rd P.canTxExpired ch = (s.m.rd P.canTxExpired ch + 1) % 2 ^ 32
      ∧ Mod.Frame t [.can] [P.canTxExpired.addr ch, P.canFlags.addr ch] s.m m' := by
  have hleft : (s.m.canCh ch).expired (s.m.at t).now 0 x = (s.m.canCh ch).without x rest := by
    rw [CanCh.expired_eq hwait, hqueue]
    rfl
  have hexpired : ((s.m.at t).canExpired ch 0 x).canCh ch = (s.m.canCh ch).without x rest :=
    (Mod.canCh_setCan_same (m := s.m.at t) hch _).trans hleft
  have hsa : (((s.m.at t).canExpired ch 0 x).canCh ch).sa = (s.m.canCh ch).sa := (congrArg CanCh.sa hexpired).trans rfl
  have hmean : canTxTimeout ch false (s.m.at t) = ((s.m.at t).canExpired ch 0 x).isoClaim ch (s.m.canCh ch).sa := by
    rw [canTxTimeout_of_first (m := s.m.at t) hch4 hqueue hlate hfirst, if_neg Bool.false_ne_true,
      Mod.canExpire_eq (m := s.m.at t) (x := x) ((congrArg (fun l : List CanTx => l[0]?) hqueue).trans rfl),
      Mod.claimAgain_of_claim hclaim (hours.trans hsa.symm) ((congrArg CanCh.iso hexpired).trans hiso) ((congrArg CanCh.claimSent hexpired).trans hunsent),
      hsa]
  have hwithin : Mod.Within [.can] [P.canTxExpired.addr ch, P.canFlags.addr ch] (s.m.at t) (canTxTimeout ch false (s.m.at t)) :=
    hmean ▸ (Mod.Within.canExpired _ _ _ _).trans (.setCan _ _ _ (by decide))
  let claim := ((s.m.at t).canExpired ch 0 x).isoFrame (0x18EEFF00 + (s.m.canCh ch).sa) (leBytes 8 (((s.m.at t).canExpired ch 0 x).isoName ch))
  have hcan : (canTxTimeout ch false (s.m.at t)).can =
      (((s.m.at t).setCan ch (CanCh.expired (s.m.at t).now 0 x)).setCan ch (CanCh.claims claim (s.m.at t).now)).can := (congrArg Mod.can hmean).trans rfl
  refine State.yields_run (f := canTxTimeout ch false) rfl ⟨⟨{ claim with at_ := (s.m.at t).now }, ?_, rfl, rfl⟩, ?_, hwithin.frame⟩
  · rw [Mod.run_can, hcan, Mod.setCan_setCan, Mod.setCan_can (m := s.m.at t) hch]
    refine congrArg (fun k => { s.m.can with ch := s.m.can.ch.set ch k }) ?_
    exact (congrArg (CanCh.claims claim (s.m.at t).now) hleft).trans (CanCh.refill_of_one (k := (s.m.canCh ch).without x rest) hwait hroom _ _)
  · rw [Mod.run_rd_other t _ s.m (Param.channel_ne_loopFlags (by decide) ch), hmean]
    exact Mod.rd_canExpired hs ch 0 x

/-- A frame that waited too long and that the data link has no interest in. -/
theorem expired_yields {x : CanTx} {rest : List CanTx} (hs : s.Canonical) (hch4 : ch < 4) (hch : ch < s.m.can.ch.length)
    (hqueue : (s.m.canCh ch).txq = x :: rest) (hlate : x.at_ + s.m.rd P.canTxTimeout ch * 1000000 ≤ (s.m.at t).now) (hfirst : x.late = false)
    (hwait : (s.m.canCh ch).txWait = []) (hother : x.isClaim = false) :
    s.Yields (.canTxTimeout t ch false) fun m' =>
      m'.can = { s.m.can with ch := s.m.can.ch.set ch { s.m.canCh ch with txq := rest, unsent := (s.m.canCh ch).unsent ++ [x] } }
      ∧ m'.rd P.canTxExpired ch = (s.m.rd P.canTxExpired ch + 1) % 2 ^ 32
      ∧ Mod.Frame t [.can] [P.canTxExpired.addr ch, P.canFlags.addr ch] s.m m' := by
  have hleft : (s.m.canCh ch).expired (s.m.at t).now 0 x = (s.m.canCh ch).without x rest := by
    rw [CanCh.expired_eq hwait, hqueue]
    rfl
  have hmean : canTxTimeout ch false (s.m.at t) = (s.m.at t).canExpired ch 0 x := by
    rw [canTxTimeout_of_first (m := s.m.at t) hch4 hqueue hlate hfirst, if_neg Bool.false_ne_true,
      Mod.canExpire_eq (m := s.m.at t) (x := x) ((congrArg (fun l : List CanTx => l[0]?) hqueue).trans rfl), Mod.claimAgain_of_other hother]
  refine State.yields_run (f := canTxTimeout ch false) rfl ⟨?_, ?_, (hmean ▸ Mod.Within.canExpired _ _ _ _ :
    Mod.Within [.can] [P.canTxExpired.addr ch, P.canFlags.addr ch] (s.m.at t) (canTxTimeout ch false (s.m.at t))).frame⟩
  · refine (Mod.run_can _ _ _).trans ((congrArg Mod.can hmean).trans ((Mod.setCan_can (m := s.m.at t) hch _).trans ?_))
    exact congrArg (fun k => { s.m.can with ch := s.m.can.ch.set ch k }) hleft
  · rw [Mod.run_rd_other t _ s.m (Param.channel_ne_loopFlags (by decide) ch), hmean]
    exact Mod.rd_canExpired hs ch 0 x

/-! ### Bus-off and the address (R358, R360) -/

theorem canBusoffRecovered_of_over (hch : ch < 4) (hoff : (m.canCh ch).st = 2) (hover : 2 * (m.canCh ch).busOffAt + 1408 * m.canBit ch ≤ 2 * m.now)
    (hplain : (m.rd P.canCfg ch).testBit 0 = false) : canBusoffRecovered ch m =
      (m.setCan ch (fun k => { k with st := 0, tec := 0, rec_ := 0 })).raise (112 + ch) 0x0904
        (leBytes 4 ((m.now - (m.canCh ch).busOffAt) / 1000)) := by
  unfold canBusoffRecovered
  dsimp only
  rw [decide_eq_true hch, decide_eq_true hoff, decide_eq_true hover, Bool.and_self, Bool.and_self, if_pos rfl]
  refine if_neg ?_
  rw [Bool.and_eq_true]
  exact fun h => Bool.false_ne_true (hplain.symm.trans h.1)

theorem isoClaimSend_of_over (hch : ch < 4) (hiso : (m.canCh ch).iso = .waiting) (hover : (m.canCh ch).isoAt + 600000 * (m.isoName ch % 256) ≤ m.now) :
    isoClaimSend ch m = (m.setCan ch (fun k => { k with iso := .claimed, isoAt := m.now, claimSent := false })).isoClaim ch (m.canCh ch).sa := by
  unfold isoClaimSend
  dsimp only
  rw [decide_eq_true hch, decide_eq_true hiso, decide_eq_true hover]
  rfl

theorem length_leBytes (n v : Nat) : (leBytes n v).length = n := by
  induction n generalizing v with
  | zero => rfl
  | succ n ih => rw [leBytes, List.length_cons, ih]

theorem padTo_leBytes (n v : Nat) : padTo n (leBytes n v) = leBytes n v := by
  have hlength := length_leBytes n v
  unfold padTo
  rw [hlength, Nat.sub_self, List.replicate_zero, List.append_nil, List.take_of_length_le hlength.le]

theorem claimSend_yields (hch4 : ch < 4) (hch : ch < s.m.can.ch.length) (hiso : (s.m.canCh ch).iso = .waiting)
    (hover : (s.m.canCh ch).isoAt + 600000 * (s.m.isoName ch % 256) ≤ (s.m.at t).now) (hroom : (s.m.canCh ch).txq.length < 32)
    (hwait : (s.m.canCh ch).txWait = []) :
    s.Yields (.isoClaimSend t ch) fun m' =>
      (∃ f : CanTx, m'.can = { s.m.can with ch := s.m.can.ch.set ch { s.m.canCh ch with iso := .claimed, isoAt := (s.m.at t).now, claimSent := false, txq := (s.m.canCh ch).txq ++ [f] } }
        ∧ f.id = 0x18EEFF00 + (s.m.canCh ch).sa ∧ f.ext = true ∧ f.dlc = 8 ∧ f.data = leBytes 8 (s.m.isoName ch))
      ∧ Mod.Frame t [.can] [] s.m m' := by
  have hmean := isoClaimSend_of_over (m := s.m.at t) hch4 hiso hover
  have hwithin : Mod.Within [.can] [] (s.m.at t) (isoClaimSend ch (s.m.at t)) :=
    hmean ▸ (Mod.Within.setCan _ _ _ (by decide)).trans (.setCan _ _ _ (by decide))
  let claim := (s.m.at t).isoFrame (0x18EEFF00 + (s.m.canCh ch).sa) (leBytes 8 ((s.m.at t).isoName ch))
  have hcan : (isoClaimSend ch (s.m.at t)).can = (((s.m.at t).setCan ch (fun k => { k with iso := .claimed, isoAt := (s.m.at t).now, claimSent := false })).setCan
      ch (CanCh.claims claim (s.m.at t).now)).can := (congrArg Mod.can hmean).trans rfl
  refine State.yields_run (f := isoClaimSend ch) rfl ⟨⟨{ claim with at_ := (s.m.at t).now }, ?_, rfl, rfl, rfl, padTo_leBytes 8 _⟩, hwithin.frame⟩
  rw [Mod.run_can, hcan, Mod.setCan_setCan, Mod.setCan_can (m := s.m.at t) hch]
  refine congrArg (fun k => { s.m.can with ch := s.m.can.ch.set ch k }) ?_
  exact CanCh.refill_of_one (k := { s.m.canCh ch with iso := .claimed, isoAt := (s.m.at t).now, claimSent := false }) hwait hroom _ _

theorem isoAddressHeld_of_over (hlive : m.canLive ch = true) (hiso : (m.canCh ch).iso = .claimed) (hsent : (m.canCh ch).claimSent = true)
    (hover : (m.canCh ch).isoAt + 250000000 ≤ m.now) : isoAddressHeld ch m =
      ((m.setCan ch (fun k => { k with iso := .held })).wr P.canIsoSa (m.canCh ch).sa ch).raise (112 + ch) 0x0907 (leBytes 1 (m.canCh ch).sa) := by
  unfold isoAddressHeld
  dsimp only
  rw [hlive, decide_eq_true hiso, hsent, decide_eq_true hover]
  rfl

theorem isoAddressHeld_of_unsent (hunsent : (m.canCh ch).claimSent = false) : isoAddressHeld ch m = m := by
  refine if_neg ?_
  rw [hunsent, Bool.and_false, Bool.false_and]
  exact Bool.false_ne_true

end

/-! ### The statement -/

/-- Settles O56: the frame sent by the least key, errors by their kind, a frame that waited too long by its sender, and the address by its claim. -/
theorem canTransmitsAndConfinesErrors : Obligations.CanTransmitsAndConfinesErrors := by
  unfold Obligations.CanTransmitsAndConfinesErrors
  intro s t ch hs hch4 hch c now chans
  refine ⟨fun sof tdc f hhead hst _ htec hrec hmode hroom hwait => ⟨CanCh.txHead_least hhead,
    transmitted_yields hs hch hhead (Mod.canLive_of_lt hch4 (hst ▸ Nat.zero_lt_two)) hst htec hrec hmode hroom hwait⟩,
    fun hst hnolate => ?errors, fun f r hqueue hlate hfirst hwait => ?timeout, fun hoff hover hplain => ?busoff,
    fun hiso hover hroom hwait => claimSend_yields hch4 hch hiso hover hroom hwait, fun _ hunsent => ?unsent, fun hiso hst hsent hover => ?held⟩
  case errors =>
    intro tries
    have hlive : (s.m.at t).canLive ch = true := Mod.canLive_of_lt hch4 hst
    refine ⟨fun kind tdc hown hidle => ?_, fun htries => ?_, fun d htries hfd => ?_, fun kind htries hkind => ?_,
      fun kind tec rec hmem hown hcount => ?_⟩
    · exact canNothing_yields (f := canError ch kind tdc) rfl (canError_of_idle (m := s.m.at t) hown hidle) rfl (.refl _)
    · exact canNothing_yields (f := canError ch 0 none) rfl (canError_of_live (m := s.m.at t) hlive (fun _ => htries) hnolate) rfl (.refl _)
    · have hmean := canError_of_live (m := s.m.at t) (kind := 0) (tdc := some d) hlive (fun _ => htries) hnolate
      dsimp only at hmean
      rw [if_pos (by rw [show ((s.m.at t).rd P.canCfg ch).testBit 3 = true from hfd]; rfl)] at hmean
      have hwithin : Mod.Within [.can] [P.canTdcNow.addr ch] (s.m.at t) (canError ch 0 (some d) (s.m.at t)) :=
        hmean ▸ Mod.Within.canTdc _ _ _ (by decide) (by simp)
      refine State.yields_run (f := canError ch 0 (some d)) rfl ⟨?_, ?_, hwithin.frame⟩
      · refine (Mod.run_can _ _ _).trans ((congrArg Mod.can hmean).trans ((Mod.setCan_can (m := (s.m.at t).wr P.canTdcNow (Nat.min d 255) ch) hch _).trans rfl))
      · rw [Mod.run_rd_other t _ s.m (Param.channel_ne_loopFlags (by decide) ch), hmean]
        have hread := Mod.rd_wr (m := s.m.at t) hs P.canTdcNow (Nat.min d 255) ch 0
        have hmax : Nat.min d 255 < 2 ^ 8 := Nat.lt_of_le_of_lt (Nat.min_le_right d 255) (by decide)
        exact hread.trans ((Nat.mod_eq_of_lt ((Nat.mod_le _ _).trans_lt (hmax.trans (by decide)))).trans (Nat.mod_eq_of_lt hmax))
    · have hmean := canError_of_live (m := s.m.at t) (kind := kind) (tdc := none) hlive (fun _ => htries) hnolate
      have hstep : (s.m.at t).canErrStep ch kind = (s.m.at t).inc P.canErrFrames ch := by
        obtain rfl | ⟨rfl, hpassive⟩ := hkind
        · rfl
        · exact if_pos hpassive
      have hcount : canError ch kind none (s.m.at t) = (s.m.at t).inc P.canErrFrames ch := hmean.trans hstep
      exact State.yields_run (f := canError ch kind none) rfl ⟨(Mod.run_can _ _ _).trans ((congrArg Mod.can hcount).trans rfl),
        canCount_of_run (x := s.m.at t) hs rfl (by decide) (by rw [hcount]) rfl, (hcount ▸ Mod.Within.inc _ _ _ _ _ (by simp) :
          Mod.Within [] [P.canErrFrames.addr ch] (s.m.at t) (canError ch kind none (s.m.at t))).frame⟩
    · have hmean := canError_of_live (m := s.m.at t) (kind := kind) (tdc := none) hlive hown hnolate
      simp only [List.mem_cons, List.not_mem_nil, or_false, Prod.mk.injEq] at hmem
      obtain ⟨rfl, rfl, rfl⟩ | ⟨rfl, rfl, rfl⟩ | ⟨rfl, rfl, rfl⟩ | ⟨rfl, rfl, rfl⟩ := hmem
      · exact counted_yields hs hch hmean
      · exact counted_yields hs hch hmean
      · exact counted_yields hs hch hmean
      · have hactive : c.st = 0 := hcount.resolve_left (fun h => h rfl)
        exact counted_yields hs hch (hmean.trans (if_neg (by rw [show ((s.m.at t).canCh ch).st = 0 from hactive]; decide)))
  case timeout =>
    refine ⟨fun hother => expired_yields hs hch4 hch hqueue hlate hfirst hwait hother, fun hclaim hours hiso hunsent hroom =>
      claimAgain_yields hs hch4 hch hqueue hlate hfirst hwait hclaim hours hiso hunsent hroom, ?_⟩
    have hmean := canTxTimeout_of_first (m := s.m.at t) (busy := true) hch4 hqueue hlate hfirst
    refine can_yields (f := canTxTimeout ch true) rfl hch hmean rfl ?_ (.setCan _ _ _ (by decide))
    exact congrArg (fun l : List CanTx => { c with txq := updAt l 0 (fun f => { f with late := true }) }) hqueue
  case busoff =>
    exact can_yields (f := canBusoffRecovered ch) rfl hch (canBusoffRecovered_of_over (m := s.m.at t) hch4 hoff hover hplain) rfl rfl
      ((Mod.Within.setCan _ _ _ (by decide)).trans (.raise _ _ _ _))
  case unsent =>
    exact canNothing_yields (f := isoAddressHeld ch) rfl (isoAddressHeld_of_unsent (m := s.m.at t) hunsent) rfl (.refl _)
  case held =>
    have hmean := isoAddressHeld_of_over (m := s.m.at t) (Mod.canLive_of_lt hch4 hst) hiso hsent hover
    have hwithin : Mod.Within [.can] [P.canIsoSa.addr ch] (s.m.at t) (isoAddressHeld ch (s.m.at t)) :=
      hmean ▸ ((Mod.Within.setCan _ _ _ (by decide)).trans (.wr _ _ _ _ _ (by simp))).trans (.raise _ _ _ _)
    refine State.yields_run (f := isoAddressHeld ch) rfl ⟨?_, ?_, hwithin.frame⟩
    · exact (Mod.run_can _ _ _).trans ((congrArg Mod.can hmean).trans (Mod.setCan_can (m := s.m.at t) hch _))
    · rw [Mod.run_rd_other t _ s.m (Param.channel_ne_loopFlags (by decide) ch), hmean, Mod.rd_raise]
      have hread := Mod.rd_wr (m := (s.m.at t).setCan ch (fun k => { k with iso := .held })) hs P.canIsoSa c.sa ch 0
      exact hread.trans (Nat.mod_eq_of_lt ((Nat.mod_lt c.sa (by decide : 0 < 2 ^ 8)).trans (by decide)))

end Sys2Proof.Machine
end

section
/-!
PROOFS. Performance counters (chapter 20): a snapshot with the counts it takes in, a sample and a tag record in the ring.
-/
namespace Sys2Proof.Machine

/-! ### Where the counters lie -/

theorem cntAt_perfTCnt : ∀ tw < 16, ∀ k < 8, cntAt (P.perfTCntLo.addr tw k) = some (tw, k) := by decide +kernel

theorem isHist_perfTCnt : ∀ tw < 16, ∀ k < 8, isHist (P.perfTCntLo.addr tw k) = false := by decide +kernel

theorem isLedger_perfTCnt : ∀ tw < 16, ∀ k < 8, (List.range 16).any (fun t => isLedger t (P.perfTCntLo.addr tw k)) = false := by
  decide +kernel

/-- A line histogram is among the histograms. -/
theorem isHist_of_lineTower {a : Nat} (h : (lineTower a).isSome = true) : isHist a = true := by
  have hall : ∀ t ∈ List.range 16, isHist (P.perfHLine.addr t) = true := by decide
  obtain ⟨t, ht⟩ := Option.isSome_iff_exists.1 h
  have hat : P.perfHLine.addr t = a := of_decide_eq_true (List.find?_some (p := fun t => decide (P.perfHLine.addr t = a)) ht)
  exact hat ▸ hall t (List.mem_of_find?_eq_some ht)

/-! ### A count enters its counter (R451, R456) -/

theorem Mod.perfSet_val (m : Mod) (a v : Nat) : (m.perfSet a v).perf.val a = v := by
  simp [Mod.perfSet, PerfSt.val, assocGet_assocSet]

theorem Mod.perfSet_val_other (m : Mod) {a b : Nat} (v : Nat) (h : b ≠ a) : (m.perfSet a v).perf.val b = m.perf.val b := by
  simp [Mod.perfSet, PerfSt.val, assocGet_assocSet, h]

/-- A counter that is neither lent, nor a histogram, nor sampling counts modulo 2^48. -/
theorem Mod.perfAdd_of_plain {m : Mod} {a n : Nat} (hlent : (List.range 16).any (fun t => m.perf.lent.testBit t && isLedger t a) = false)
    (hhist : isHist a = false) (hcnt : ∀ t k, cntAt a = some (t, k) → m.sampling t k = false) :
    m.perfAdd a n = m.perfSet a ((m.perf.val a + n) % 2 ^ 48) := by
  unfold Mod.perfAdd
  rw [hlent, hhist]
  cases hat : cntAt a with
  | none => rfl
  | some e =>
    obtain ⟨t, k⟩ := e
    simp [hcnt t k hat]

/-- A fold in which one element alone has an effect. -/
theorem foldl_eq_single {α β : Type} {f : α → β → α} {l : List β} {k : β} {x : α} (hnodup : l.Nodup) (hk : k ∈ l)
    (hx : ∀ j, j ∈ l → j ≠ k → f x j = x) (hy : ∀ j, j ∈ l → j ≠ k → f (f x k) j = f x k) : l.foldl f x = f x k := by
  induction l with
  | nil => simp at hk
  | cons b l ih =>
    obtain ⟨hb, hl⟩ := List.nodup_cons.1 hnodup
    rw [List.foldl_cons]
    obtain rfl | hk := List.mem_cons.1 hk
    · refine List.foldlRecOn (motive := fun z => z = f x k) l f rfl (fun z hz j hj => ?_)
      rw [hz]
      exact hy j (List.mem_cons_of_mem _ hj) (fun h => hb (h ▸ hj))
    · rw [hx b (List.mem_cons_self ..) (fun h => hb (h ▸ hk))]
      exact ih hl hk (fun j hj => hx j (List.mem_cons_of_mem _ hj)) (fun j hj => hy j (List.mem_cons_of_mem _ hj))

/-- A count of a tower whose counters select different events enters one of them. -/
theorem Mod.perfCount_tower {m : Mod} {tw k n : Nat} (htw : tw < 16) (hk : k < 8) (hsampling : m.sampling tw k = false)
    (hother : ∀ j, j < 8 → j ≠ k → m.towerCode tw j ≠ m.towerCode tw k) :
    m.perfCount (P.perfTCntLo.addr tw k, n)
      = m.perfSet (P.perfTCntLo.addr tw k) ((m.perf.val (P.perfTCntLo.addr tw k) + n) % 2 ^ 48) := by
  have hat := cntAt_perfTCnt tw htw k hk
  have hadd : m.perfAdd (P.perfTCntLo.addr tw k) n
      = m.perfSet (P.perfTCntLo.addr tw k) ((m.perf.val (P.perfTCntLo.addr tw k) + n) % 2 ^ 48) := by
    refine Mod.perfAdd_of_plain ?_ (isHist_perfTCnt tw htw k hk) (fun t j h => ?_)
    · have hnone := List.any_eq_false.1 (isLedger_perfTCnt tw htw k hk)
      exact List.any_eq_false.2 (fun t ht => by simp [Bool.eq_false_iff.2 (hnone t ht)])
    · obtain ⟨rfl, rfl⟩ := Prod.mk.inj (Option.some.inj (hat.symm.trans h))
      exact hsampling
  have hcount : m.perfCount (P.perfTCntLo.addr tw k, n) = m.perfTower tw (m.towerCode tw k) n := by
    unfold Mod.perfCount
    simp only [hat]
  have hself : (if m.towerCode tw k = m.towerCode tw k then m.perfAdd (P.perfTCntLo.addr tw k) n else m)
      = m.perfAdd (P.perfTCntLo.addr tw k) n := if_pos rfl
  rw [hcount, Mod.perfTower, foldl_eq_single List.nodup_range (List.mem_range.2 hk), hself, hadd]
  · intro j hj hne
    exact if_neg (hother j (List.mem_range.1 hj) hne)
  · intro j hj hne
    rw [hself, hadd]
    exact if_neg (hother j (List.mem_range.1 hj) hne)

/-- A count of none of the selected events enters the counter at its address. -/
theorem Mod.perfCount_plain {m : Mod} {a n : Nat} (hlent : m.perf.lent = 0) (hhist : isHist a = false) (hcnt : cntAt a = none)
    (hmod : P.perfMCntLo.find a = none) : m.perfCount (a, n) = m.perfSet a ((m.perf.val a + n) % 2 ^ 48) := by
  have hline : (lineTower a).isSome = false := by
    cases h : (lineTower a).isSome with
    | false => rfl
    | true => exact absurd (isHist_of_lineTower h) (by simp [hhist])
  have hcount : m.perfCount (a, n) = m.perfAdd a n := by
    unfold Mod.perfCount
    simp only [hcnt, hmod, hline]
    rfl
  refine hcount.trans (Mod.perfAdd_of_plain ?_ hhist (fun t k h => by simp [hcnt] at h))
  simp [hlent]

/-! ### The snapshot (R450) -/

/-- The counters as a snapshot at raw count `now` shows them. -/
def PerfSt.shown (p : PerfSt) (now : Nat) : PerfSt :=
  { p with snap := p.live, snapT := now % 2 ^ 32, snapSeq := (p.snapSeq + 1) % 2 ^ 32, snapAt := now, snapSmp := p.smpSeq, snapLost := p.smpLost,
           stillNs := [] }

/-- The module when a write of PERF_SNAP takes effect. -/
def Mod.asked (m : Mod) : Mod := (m.setWord P.perfSnap.addr 1#32).wr P.perfSnap 1

theorem Mod.asked_cycles (m : Mod) (ns : Nat) : m.asked.cycles ns = m.cycles ns := by
  have hmode : P.sysMode.addr ≠ P.perfSnap.addr := by decide
  have hread : m.asked.rd P.sysMode = m.rd P.sysMode :=
    (Mod.rd_wr_other (m := m.setWord P.perfSnap.addr 1#32) (p := P.perfSnap) (q := P.sysMode) hmode 1).trans
      (congrArg BitVec.toNat (Store.get_put_other m.regs 1#32 hmode))
  unfold Mod.cycles Mod.half
  rw [hread]

/-- The write itself makes no count more or less believable. -/
theorem Mod.asked_countTaken (m : Mod) (counts : List (Nat × Nat)) (e : Nat × Nat) :
    m.asked.countTaken counts e = m.countTaken counts e := by
  have hledger : ∀ t, m.asked.ledgerOk counts t = m.ledgerOk counts t := fun t => by
    unfold Mod.ledgerOk
    rw [Mod.asked_cycles, Mod.asked_cycles]
    rfl
  unfold Mod.countTaken
  simp only [hledger]
  rfl

theorem perfSnap_eq {m : Mod} (hrun : m.running = true) (role : Nat) (counts : List (Nat × Nat)) :
    cmdWrite P.perfSnap 0 role counts 1#32 m = m.asked.perfSnapshot counts := cmdWrite_trigger (p := P.perfSnap) rfl hrun role counts

theorem Mod.perfSnapshot_of_counted {m b : Mod} {counts : List (Nat × Nat)}
    (hcounted : (counts.filter (m.countTaken counts)).foldl Mod.perfCount m = b) (hpend : b.perf.pend = []) :
    m.perfSnapshot counts = { b with perf := b.perf.shown m.now } := by
  unfold Mod.perfSnapshot
  rw [hcounted]
  dsimp only
  rw [hpend]
  exact congrArg (fun l => { b with perf := { b.perf.shown m.now with pend := l } }) hpend.symm

section
variable {s : State} {t role : Nat} {counts : List (Nat × Nat)} {b : Mod}

/-- PERF_SNAP of a module where no selection waits shows the counters as the counts given leave them. -/
theorem perfSnap_yields (hrun : s.m.running = true)
    (hcounted : (counts.filter ((s.m.at t).asked.countTaken counts)).foldl Mod.perfCount (s.m.at t).asked = b) (hpend : b.perf.pend = [])
    (hwithin : Mod.Within [.perf] [P.perfSnap.addr] (s.m.at t).asked b) :
    s.Yields (.perfSnap t role 1#32 counts) fun m' =>
      m'.perf = b.perf.shown (s.m.at t).now ∧ Mod.Frame t [.perf] [P.perfSnap.addr] s.m m' := by
  have hmean := (perfSnap_eq (m := s.m.at t) hrun role counts).trans (Mod.perfSnapshot_of_counted hcounted hpend)
  have hasked : Mod.Within [.perf] [P.perfSnap.addr] (s.m.at t) (s.m.at t).asked :=
    (Mod.Within.setWord _ _ _ (by simp)).trans (.wr _ _ _ _ _ (by simp))
  refine State.yields_frame (f := cmdWrite P.perfSnap 0 role counts 1#32) rfl ?_ ((Mod.run_perf _ _ _).trans ((congrArg Mod.perf hmean).trans rfl))
  rw [hmean]
  exact (hasked.trans hwithin).trans (.ofPerf _ _ (by decide))

/-- A snapshot with one count that is taken. -/
theorem perfSnap_one_yields {a n : Nat} (hrun : s.m.running = true) (hpend : s.m.perf.pend = [])
    (htaken : (s.m.at t).countTaken [(a, n)] (a, n) = true)
    (hcount : (s.m.at t).asked.perfCount (a, n) = (s.m.at t).asked.perfSet a ((s.m.perf.val a + n) % 2 ^ 48)) :
    s.Yields (.perfSnap t role 1#32 [(a, n)]) fun m' =>
      m'.perf.snap = m'.perf.live ∧ m'.perf.val a = (s.m.perf.val a + n) % 2 ^ 48 ∧ (∀ b, b ≠ a → m'.perf.val b = s.m.perf.val b)
      ∧ Mod.Frame t [.perf] [P.perfSnap.addr] s.m m' := by
  have hcounted : ([(a, n)].filter ((s.m.at t).asked.countTaken [(a, n)])).foldl Mod.perfCount (s.m.at t).asked
      = (s.m.at t).asked.perfSet a ((s.m.perf.val a + n) % 2 ^ 48) := by
    rw [List.filter_cons_of_pos ((Mod.asked_countTaken _ _ _).trans htaken)]
    exact hcount
  obtain ⟨m', hexec, hperf, hframe⟩ := perfSnap_yields (role := role) hrun hcounted hpend (.perfSet _ _ _ (by decide))
  exact ⟨m', hexec, hperf ▸ rfl, hperf ▸ Mod.perfSet_val _ a _, fun b hb => hperf ▸ Mod.perfSet_val_other (s.m.at t).asked _ hb, hframe⟩

end

/-! ### The sample ring (R457 to R459) -/

/-- A record later than all others is the newest. -/
theorem smpInsert_of_later {r : Smp} {ring : List Smp} (h : ∀ x ∈ ring, x.us < r.us) : smpInsert r ring = r :: ring := by
  cases ring with
  | nil => rfl
  | cons x l =>
    have hx := h x (List.mem_cons_self ..)
    have hbefore : r.before x = false := by
      simp only [Smp.before, Bool.or_eq_false_iff, Bool.and_eq_false_iff, decide_eq_false_iff_not]
      exact ⟨by omega, .inl (by omega)⟩
    simp [smpInsert, hbefore]

/-- The counters with record `r` of tower `tw`, the newest, in the ring. -/
def PerfSt.recorded (p : PerfSt) (tw us : Nat) (r : Smp) : PerfSt :=
  { p with ring := ({ r with n := p.smpSeq, us := us } :: p.ring).take 4096, smpSeq := (p.smpSeq + 1) % 2 ^ 32,
           lastUs := assocSet p.lastUs tw us, lastSmp := if r.kind / 64 = 1 then assocSet p.lastSmp tw us else p.lastSmp }

theorem Mod.smpWrite_of_later {m : Mod} {tw us : Nat} {r : Smp} (hring : ∀ x ∈ m.perf.ring, x.us < us) (hroom : m.perf.smpSeq < 4096) :
    m.smpWrite tw us r = { m with perf := m.perf.recorded tw us r } := by
  unfold Mod.smpWrite PerfSt.recorded
  dsimp only
  rw [smpInsert_of_later (r := { r with n := m.perf.smpSeq, us := us }) hring]
  exact if_neg (Nat.not_le.2 hroom)

theorem Mod.tagIn_of_later {m : Mod} {tw us : Nat} (hring : ∀ x ∈ m.perf.ring, x.us < us) : m.tagIn tw us = none := by
  refine List.find?_eq_none.2 (fun x hx h => ?_)
  have hus := (hring x hx).ne
  simp [hus] at h

theorem Mod.sampleWrite_of_later {m : Mod} {tw us : Nat} {r : Smp} (hring : ∀ x ∈ m.perf.ring, x.us < us) (hroom : m.perf.smpSeq < 4096) :
    m.sampleWrite tw us r = { m with perf := m.perf.recorded tw us r } := by
  unfold Mod.sampleWrite
  rw [Mod.tagIn_of_later hring]
  exact Mod.smpWrite_of_later hring hroom

section
variable {m : Mod} {tw n cell skid raw pc serial : Nat} {ended : Bool}

/-- The record of a sample. -/
def sampleRecord (tw n cell skid : Nat) (ended : Bool) (raw pc serial : Nat) : Smp :=
  { n := 0, raw := raw % 2 ^ 32, kind := 64 + 32 * bit ended + n, skid := skid, loc := 64 * tw + cell, pc := pc % 2 ^ 32,
    data := serial % 2 ^ 32 }

/-- A counter that counts what the model shows has no sample but the one due. -/
theorem perfSample_of_notDue (hown : ownCode (m.towerCode tw n) = true) (hdue : (tw, n) ∉ m.perf.due) :
    perfSample tw n cell skid ended raw pc serial m = m := by
  unfold perfSample
  refine if_neg ?_
  simp [hown, hdue]

/-- A counter of events that the model does not show reloads its period and writes its sample, or loses it. -/
theorem perfSample_of_foreign (htw : m.towerSamples tw = true) (hn : n < 8) (hskid : skid ≤ 8) (hcell : cell < 64)
    (hsampling : m.sampling tw n = true) (hcode : m.towerCode tw n ≠ 0)
    (hfixed : ((assocGet m.perf.sel (P.perfTSel.addr tw n)).getD 0).testBit 14 = false) (hown : ownCode (m.towerCode tw n) = false) :
    perfSample tw n cell skid ended raw pc serial m
      = let m2 := m.perfSet (P.perfTCntLo.addr tw n) (m.rd P.perfTPeriod tw n)
        if m.smpTaken tw (m.now / 1000) then
          ({ m2 with perf := { m2.perf with smpLost := (m2.perf.smpLost + 1) % 2 ^ 32 } }).flag P.perfFlags 2
        else m2.sampleWrite tw (m.now / 1000) (sampleRecord tw n cell skid ended raw pc serial) := by
  have hreload : m.smpReload tw n = (m.rd P.perfTPeriod tw n, m) := by
    unfold Mod.smpReload
    rw [hfixed]
    rfl
  unfold perfSample
  dsimp only
  rw [hreload, hown]
  exact if_pos (by simp [htw, hn, hcell, hskid, hcode, hsampling])

theorem Mod.smpTaken_of_later {us : Nat} (h : ∀ u, assocGet m.perf.lastSmp tw = some u → u < us) : m.smpTaken tw us = false := by
  unfold Mod.smpTaken
  cases hlast : assocGet m.perf.lastSmp tw with
  | none => rfl
  | some u => exact decide_eq_false (Nat.not_le.2 (h u hlast))

theorem Mod.smpTaken_of_last {us u : Nat} (hlast : assocGet m.perf.lastSmp tw = some u) (h : us ≤ u) : m.smpTaken tw us = true := by
  unfold Mod.smpTaken
  rw [hlast]
  exact decide_eq_true h

end

section
variable {m : Mod} {tw cell issue raw value cycles pc why u : Nat} {gone : Bool}

/-- The record of a tag. -/
def tagRecord (tw cell : Nat) (gone : Bool) (raw cycles pc why : Nat) : Smp :=
  { n := 0, raw := raw % 2 ^ 32, kind := 128 + 16 * bit gone, skid := 0, loc := 64 * tw + cell, pc := pc % 2 ^ 32,
    data := 65536 * Nat.min 65535 cycles + why % 32 }

/-- The module with the tag of a tower taken at this instant (R458). -/
def Mod.tagTaken (m : Mod) (tw value : Nat) : Mod :=
  { m with perf := { m.perf with tagSeq := assocSet m.perf.tagSeq tw value, tagFrom := assocSet m.perf.tagFrom tw m.now } }

/-- The record of a tagged instruction waits for its tower's next microsecond. -/
theorem perfTagRecord_of_busy (htw : m.towerSamples tw = true) (hcell : cell < 64) (htagged : m.tagged tw issue value = true)
    (hbusy : m.smpBusy tw = some u) :
    perfTagRecord tw cell gone issue raw value cycles pc why m
      = (m.tagTaken tw value).smpWrite tw (Nat.max (m.now / 1000) (u + 1)) (tagRecord tw cell gone raw cycles pc why) := by
  unfold perfTagRecord
  rw [hbusy]
  exact if_pos (by simp [htw, hcell, htagged])

end

theorem PerfSt.recorded_busy (p : PerfSt) (tw us : Nat) (r : Smp) : assocGet (p.recorded tw us r).lastUs tw = some us :=
  (assocGet_assocSet _ _ _ _).trans (if_pos rfl)

/-! ### The statement -/

/-- Settles O57: a snapshot by the counts it takes in, a sample and a tag record by their place in the ring. -/
theorem countersAndSamplesAreKept : Obligations.CountersAndSamplesAreKept := by
  unfold Obligations.CountersAndSamplesAreKept
  intro s t hs p
  refine ⟨fun role hrun hpend => ⟨?snap, fun tw k n htw hk htakes hsampling hother => ?tower, fun a n hlent hhist hcnt hmod htaken => ?plain⟩,
    fun tw n cell skid ended raw pc serial htw hn hskid hcell hsampling hcode hfixed =>
      ⟨fun hown hdue => ?notDue, fun hown hring hlast hroom => ?sample, fun u hown hlast hlate => ?lost⟩,
    fun tw cell gone issue raw value cycles pc why u htw hcell htagged hbusy hring hroom => ?tag⟩
  case snap => exact perfSnap_yields (counts := []) (b := (s.m.at t).asked) hrun rfl hpend (.refl _)
  case tower =>
    refine perfSnap_one_yields hrun hpend ?_ (Mod.perfCount_tower (m := (s.m.at t).asked) htw hk hsampling hother)
    unfold Mod.countTaken
    simp only [cntAt_perfTCnt tw htw k hk]
    exact htakes
  case plain => exact perfSnap_one_yields hrun hpend htaken (Mod.perfCount_plain (m := (s.m.at t).asked) hlent hhist hcnt hmod)
  case notDue =>
    have hmean := perfSample_of_notDue (m := s.m.at t) (cell := cell) (skid := skid) (raw := raw) (pc := pc) (serial := serial) (ended := ended)
      hown hdue
    refine State.yields_frame (f := perfSample tw n cell skid ended raw pc serial) rfl (by rw [hmean]; exact .refl _) ?_
    exact (Mod.run_perf t (perfSample tw n cell skid ended raw pc serial) s.m).trans ((congrArg Mod.perf hmean).trans rfl)
  case sample =>
    have hmean := perfSample_of_foreign (m := s.m.at t) (raw := raw) (pc := pc) (serial := serial) (ended := ended)
      htw hn hskid hcell hsampling hcode hfixed hown
    dsimp only at hmean
    rw [Mod.smpTaken_of_later (m := s.m.at t) hlast, if_neg Bool.false_ne_true,
      Mod.sampleWrite_of_later (m := (s.m.at t).perfSet _ _) hring hroom] at hmean
    have hperf := (Mod.run_perf t (perfSample tw n cell skid ended raw pc serial) s.m).trans (congrArg Mod.perf hmean)
    refine State.yields_run (f := perfSample tw n cell skid ended raw pc serial) rfl ⟨?_, ?_, ?_, ?_, ?_⟩
    · rw [hperf]
      exact Mod.perfSet_val _ _ _
    · rw [hperf]
      rfl
    · rw [Mod.smpBusy, hperf]
      exact PerfSt.recorded_busy _ _ _ _
    · rw [hperf]
      rfl
    · have hwithin : Mod.Within [.perf] [] (s.m.at t) (perfSample tw n cell skid ended raw pc serial (s.m.at t)) :=
        hmean ▸ (Mod.Within.perfSet _ _ _ (by decide)).trans (.ofPerf _ _ (by decide))
      exact hwithin.frame
  case lost =>
    have hmean := perfSample_of_foreign (m := s.m.at t) (raw := raw) (pc := pc) (serial := serial) (ended := ended)
      htw hn hskid hcell hsampling hcode hfixed hown
    dsimp only at hmean
    rw [Mod.smpTaken_of_last (m := s.m.at t) hlast hlate, if_pos rfl] at hmean
    have hperf := (Mod.run_perf t (perfSample tw n cell skid ended raw pc serial) s.m).trans (congrArg Mod.perf hmean)
    refine State.yields_run (f := perfSample tw n cell skid ended raw pc serial) rfl ⟨?_, ?_, ?_, ?_, ?_⟩
    · rw [hperf]
      exact Mod.perfSet_val _ _ _
    · rw [hperf]
      rfl
    · rw [hperf]
      rfl
    · rw [hperf]
      rfl
    · have hwithin : Mod.Within [.perf] [P.perfFlags.addr] (s.m.at t) (perfSample tw n cell skid ended raw pc serial (s.m.at t)) :=
        hmean ▸ ((Mod.Within.perfSet _ _ _ (by decide)).trans (.ofPerf _ _ (by decide))).trans (.flag _ _ _ _ (by simp))
      exact hwithin.frame
  case tag =>
    have hmean := (perfTagRecord_of_busy (m := s.m.at t) (raw := raw) (cycles := cycles) (pc := pc) (why := why) (gone := gone)
      htw hcell htagged hbusy).trans (Mod.smpWrite_of_later (m := (s.m.at t).tagTaken tw value) hring hroom)
    have hperf := (Mod.run_perf t (perfTagRecord tw cell gone issue raw value cycles pc why) s.m).trans (congrArg Mod.perf hmean)
    refine State.yields_run (f := perfTagRecord tw cell gone issue raw value cycles pc why) rfl ⟨?_, ?_, ?_, ?_, ?_⟩
    · rw [Mod.smpBusy, hperf]
      exact PerfSt.recorded_busy _ _ _ _
    · rw [hperf]
      rfl
    · rw [hperf]
      rfl
    · rw [hperf]
      rfl
    · have hwithin : Mod.Within [.perf] [] (s.m.at t) (perfTagRecord tw cell gone issue raw value cycles pc why (s.m.at t)) :=
        hmean ▸ (Mod.Within.ofPerf _ _ (by decide)).trans (.ofPerf _ _ (by decide))
      exact hwithin.frame

end Sys2Proof.Machine
end

section
/-!
PROOFS. The event recorder (chapter 17): the clocks and buckets, the records it writes, its window, and the start that follows a torn record.
-/
namespace Sys2Proof.Machine

/-! ### A restart (R407, R414) -/

/-- A store cut to the addresses below a bound reads its defaults from there on. -/
theorem Store.get_filter_lt (s : Store) (n x : Nat) :
    Store.get (s.filter (fun e => e.1 < n)) x = if x < n then Store.get s x else dfltAt x := by
  have hlook : Store.look (s.filter (fun e => e.1 < n)) x = if x < n then Store.look s x else none := by
    induction s with
    | nil => simp [Store.look]
    | cons e r ih =>
      obtain ⟨b, w⟩ := e
      by_cases hb : b < n
      · rw [List.filter_cons_of_pos (by simpa using hb)]
        by_cases hx : b = x
        · simp [Store.look, hx, hx ▸ hb]
        · simp [Store.look, hx, ih]
      · rw [List.filter_cons_of_neg (by simpa using hb), ih]
        by_cases hx : x < n
        · have hne : b ≠ x := fun h => hb (h ▸ hx)
          simp [Store.look, hx, hne]
        · simp [hx]
  unfold Store.get
  rw [hlook]
  split <;> rfl

/-- A command that begins the module anew leaves it restarted, with the store as the command had it. -/
theorem Restarted.of_run {m x : Mod} {t cause : Nat} {f : Mod → Mod} (hf : f (m.at t) = x.fresh cause) (hfree : x.free = m.free)
    (hregs : x.regs = m.regs) : Restarted x.nv cause m (Mod.run t f m) := by
  rw [Mod.run_quiet t f m (by rw [hf]; rfl), hf]
  refine ⟨?_, fun _ a => ?_⟩
  · exact congrArg (fun n => { ({ } : Mod) with nv := { x.nv with cause := cause }, free := n, bist := { phase := .off }, regs := [] }) hfree
  · exact (Store.get_canon _ a).trans ((Store.get_filter_lt x.regs 0x10 a).trans (by rw [hregs]; rfl))

/-! ### Buckets (R398) -/

/-- The module with other buckets. -/
def Mod.withBuckets (m : Mod) (l : List Bucket) : Mod := { m with log := { m.log with buckets := l } }

theorem Mod.setBucket_eq (m : Mod) (b : Bucket) : m.setBucket b = m.withBuckets (m.setBucket b).log.buckets := rfl

theorem Mod.Within.setBucket {as : List Area} {ws : List Nat} (m : Mod) (b : Bucket) (h : Area.log ∈ as) :
    Mod.Within as ws m (m.setBucket b) := .ofLog m _ h

section
variable {m : Mod} {b : Bucket} {src code : Nat}

/-- A pair's bucket reads as it was set, or full where it holds LOG_BURST or more and counts nothing. -/
theorem Mod.bucket_setBucket : (m.setBucket b).bucket b.src b.code =
    if b.tokens < m.rd P.logBurst ∨ b.suppressed ≠ 0 then b
    else { src := b.src, code := b.code, tokens := m.rd P.logBurst, suppressed := 0 } := by
  have hnone : (m.log.buckets.filter (fun c => !(c.src = b.src && c.code = b.code))).find?
      (fun c => decide (c.src = b.src) && decide (c.code = b.code)) = none := by
    refine List.find?_eq_none.2 (fun c hc h => ?_)
    have hne := (List.mem_filter.1 hc).2
    simp [h] at hne
  have hburst : (m.setBucket b).rd P.logBurst = m.rd P.logBurst := rfl
  unfold Mod.bucket
  rw [hburst]
  unfold Mod.setBucket
  dsimp only
  by_cases hkeep : b.tokens < m.rd P.logBurst ∨ b.suppressed ≠ 0
  · rw [if_pos (by simpa using hkeep), if_pos hkeep, List.find?_append, hnone]
    simp
  · rw [if_neg (by simpa using hkeep), if_neg hkeep, hnone]
    rfl

theorem Mod.bucket_setBucket_same (hfill : b.tokens ≤ m.rd P.logBurst) : (m.setBucket b).bucket b.src b.code = b := by
  rw [Mod.bucket_setBucket]
  by_cases hkeep : b.tokens < m.rd P.logBurst ∨ b.suppressed ≠ 0
  · exact if_pos hkeep
  · obtain ⟨hfull, hzero⟩ := not_or.1 hkeep
    rw [if_neg hkeep]
    obtain ⟨src, code, tokens, suppressed⟩ := b
    simp only [not_not] at hfill hfull hzero
    simp [hzero, Nat.le_antisymm (Nat.not_lt.1 hfull) hfill]

/-- The buckets of other pairs stand. -/
theorem Mod.bucket_setBucket_other (hne : ¬ (b.src = src ∧ b.code = code)) : (m.setBucket b).bucket src code = m.bucket src code := by
  have hrest : (m.log.buckets.filter (fun c => !(c.src = b.src && c.code = b.code))).find?
      (fun c => decide (c.src = src) && decide (c.code = code)) = m.log.buckets.find? (fun c => decide (c.src = src) && decide (c.code = code)) := by
    rw [List.find?_filter]
    congr 1
    funext c
    by_cases h : c.src = src ∧ c.code = code
    · obtain ⟨rfl, rfl⟩ := h
      have hkept : ¬ (c.src = b.src ∧ c.code = b.code) := fun h => hne ⟨h.1.symm, h.2.symm⟩
      simpa using not_and_or.1 hkept
    · simpa using fun hs hc => absurd ⟨hs, hc⟩ h
  have hself : (decide (b.src = src) && decide (b.code = code)) = false := by simpa using hne
  have hburst : (m.setBucket b).rd P.logBurst = m.rd P.logBurst := rfl
  unfold Mod.bucket
  rw [hburst]
  unfold Mod.setBucket
  dsimp only
  split
  · rw [List.find?_append, hrest, List.find?_singleton, hself]
    simp
  · rw [hrest]

end

/-- A bucket that gains tokens. -/
def Bucket.gaining (burst n : Nat) (b : Bucket) : Bucket := { b with tokens := Nat.min burst (b.tokens + n) }

/-- The buckets that gain tokens, one after the other (R398). -/
def Mod.gain (m : Mod) (n : Nat) (l : List Bucket) : Mod := l.foldl (fun m b => m.setBucket (b.gaining (m.rd P.logBurst) n)) m

theorem logToken_eq (m : Mod) : logToken m
    = ({ m with log := { m.log with toks := Nat.max m.tokensDue m.log.toks } }).gain (m.tokensDue - m.log.toks) m.log.buckets := rfl

/-- What a fold over the buckets leaves but for the buckets themselves. -/
theorem Mod.gain_eq (m : Mod) (n : Nat) (l : List Bucket) : m.gain n l = m.withBuckets (m.gain n l).log.buckets := by
  induction l generalizing m with
  | nil => rfl
  | cons b l ih => exact (ih (m.setBucket (b.gaining (m.rd P.logBurst) n))).trans rfl

section
variable {src code n : Nat}

theorem Mod.gain_other {m : Mod} {l : List Bucket} (h : ∀ b ∈ l, ¬ (b.src = src ∧ b.code = code)) :
    (m.gain n l).bucket src code = m.bucket src code := by
  induction l generalizing m with
  | nil => rfl
  | cons b l ih =>
    have hb := h b (List.mem_cons_self ..)
    exact (ih (m := m.setBucket (b.gaining (m.rd P.logBurst) n)) (fun c hc => h c (List.mem_cons_of_mem _ hc))).trans
      (Mod.bucket_setBucket_other (b := b.gaining (m.rd P.logBurst) n) hb)

/-- A bucket of the list gains its tokens once. -/
theorem Mod.gain_same {m : Mod} {l : List Bucket} {b : Bucket} (hb : b ∈ l) (hpairs : (l.map (fun b => (b.src, b.code))).Nodup) :
    (m.gain n l).bucket b.src b.code = b.gaining (m.rd P.logBurst) n := by
  induction l generalizing m with
  | nil => simp at hb
  | cons c l ih =>
    obtain ⟨hc, hl⟩ := List.nodup_cons.1 hpairs
    obtain rfl | hb := List.mem_cons.1 hb
    · refine (Mod.gain_other (m := m.setBucket (b.gaining (m.rd P.logBurst) n)) (fun c hcl h => hc ?_)).trans
        (Mod.bucket_setBucket_same (b := b.gaining (m.rd P.logBurst) n) (Nat.min_le_left _ _))
      exact List.mem_map.2 ⟨c, hcl, Prod.ext h.1 h.2⟩
    · exact ih (m := m.setBucket (c.gaining (m.rd P.logBurst) n)) hb hl

/-- Whether listed or full, each pair's bucket gains its tokens up to LOG_BURST. -/
theorem Mod.gain_all {m : Mod} (hpairs : (m.log.buckets.map (fun b => (b.src, b.code))).Nodup) :
    ((m.gain n m.log.buckets).bucket src code).tokens = Nat.min (m.rd P.logBurst) ((m.bucket src code).tokens + n)
    ∧ ((m.gain n m.log.buckets).bucket src code).suppressed = (m.bucket src code).suppressed := by
  cases hfind : m.log.buckets.find? (fun b => b.src = src && b.code = code) with
  | none =>
    have hnone : ∀ b ∈ m.log.buckets, ¬ (b.src = src ∧ b.code = code) := by simpa using List.find?_eq_none.1 hfind
    have hfull : (m.bucket src code).tokens = m.rd P.logBurst := by
      unfold Mod.bucket
      rw [hfind]
      rfl
    rw [Mod.gain_other hnone, hfull]
    exact ⟨(Nat.min_eq_left (Nat.le_add_right _ _)).symm, rfl⟩
  | some b =>
    have hpair : b.src = src ∧ b.code = code := by simpa using List.find?_some hfind
    obtain ⟨rfl, rfl⟩ := hpair
    have hlisted : m.bucket b.src b.code = b := by
      unfold Mod.bucket
      rw [hfind]
      rfl
    rw [Mod.gain_same (List.mem_of_find?_eq_some hfind) hpairs, hlisted]
    exact ⟨rfl, rfl⟩

end

/-- The buckets read alike in a module that differs in other things. -/
theorem Mod.bucket_congr {a b : Mod} (hlog : b.log.buckets = a.log.buckets) (hburst : b.rd P.logBurst = a.rd P.logBurst) (src code : Nat) :
    b.bucket src code = a.bucket src code := by
  unfold Mod.bucket
  rw [hlog, hburst]

/-- A command that raises nothing leaves the event controller, the recorder and the store as its meaning does. -/
theorem Mod.run_still {t : Nat} {f : Mod → Mod} {m x : Mod} (hf : f (m.at t) = x) (h : x.evc.raised = []) : Mod.run t f m = x.settle := by
  rw [Mod.run_quiet t f m (hf ▸ h), hf]

/-! ### The clocks -/

/-- Settles O21: the recorder's clock, token by token and interval by interval; a bucket is found by its pair or full. -/
theorem recorderClocksRun : Obligations.RecorderClocksRun := by
  unfold Obligations.RecorderClocksRun
  intro s t hraised now due
  refine ⟨?second, fun hpairs => ?token, fun hover hnone => ?interval⟩
  case second =>
    refine State.yields_run (f := operatingSecond) rfl ⟨?_, ?_, ?_, (Mod.Within.ofLog _ _ (by decide)).frame⟩ <;>
      rw [Mod.run_still (f := operatingSecond) rfl hraised] <;> rfl
  case token =>
    let x : Mod := { s.m.at t with log := { s.m.log with toks := Nat.max due s.m.log.toks } }
    have hmean : logToken (s.m.at t) = x.gain (due - s.m.log.toks) s.m.log.buckets := logToken_eq (s.m.at t)
    have hkept := Mod.gain_eq x (due - s.m.log.toks) s.m.log.buckets
    have hrun : Mod.run t logToken s.m = (x.gain (due - s.m.log.toks) s.m.log.buckets).settle :=
      Mod.run_still hmean (by rw [hkept]; exact hraised)
    have hall := fun src code => Mod.gain_all (m := x) (n := due - s.m.log.toks) (src := src) (code := code) hpairs
    refine State.yields_run (f := logToken) rfl ⟨fun src code => ?_, ?_, ?_, ?_, ?_⟩
    · have hread := Mod.bucket_congr (a := x.gain (due - s.m.log.toks) s.m.log.buckets) (b := Mod.run t logToken s.m) (by rw [hrun]; rfl)
        (by rw [hrun]; exact congrArg BitVec.toNat (Store.get_canon _ _)) src code
      rw [hread]
      exact hall src code
    · rw [hrun, hkept]
      rfl
    · rw [hrun, hkept]
      rfl
    · rw [hrun, hkept]
      rfl
    · have hwithin : Mod.Within [.log] [] (s.m.at t) (logToken (s.m.at t)) := by
        rw [hmean, hkept]
        exact .ofLog _ _ (by decide)
      exact hwithin.frame
  case interval =>
    have hfilter : s.m.log.buckets.filter (fun b => decide (b.suppressed ≠ 0)) = [] :=
      List.filter_eq_nil_iff.2 (fun b hb => by simp [hnone b hb])
    have hmean : logIntervalEnd (s.m.at t) = { s.m.at t with log := { s.m.log with ivals := now / 10 ^ 9 } } := by
      refine (if_neg (Nat.not_le.2 hover)).trans ?_
      exact congrArg (fun l => (sortBy Bucket.before l).foldl Mod.summary { s.m.at t with log := { s.m.log with ivals := now / 10 ^ 9 } }) hfilter
    refine State.yields_run (f := logIntervalEnd) rfl ⟨?_, ?_, ?_, ?_⟩
    · rw [Mod.run_still hmean hraised]
      rfl
    · rw [Mod.run_still hmean hraised]
      rfl
    · rw [Mod.run_still hmean hraised]
      rfl
    · have hwithin : Mod.Within [.log] [] (s.m.at t) (logIntervalEnd (s.m.at t)) := by
        rw [hmean]
        exact .ofLog _ _ (by decide)
      exact hwithin.frame

end Sys2Proof.Machine
end

section
/-!
PROOFS. The records that the recorder writes (chapter 17): in order, at the last free slot, torn by a power fail, the summary of an interval, and
the window of LOG_CURSOR.
-/
namespace Sys2Proof.Machine

/-! ### The CHECK of a record (R392) -/

/-- The bytes of a record before and behind its CHECK. -/
def Rec.front (r : Rec) : List Byte :=
  leBytes 4 r.seq ++ leBytes 4 r.opSec ++ leBytes 3 r.cycle
    ++ leBytes 1 (128 * bit r.valid + 64 * bit r.held + 32 * bit r.trunc + 16 * bit r.internal + r.prio)
    ++ leBytes 2 r.code ++ leBytes 1 r.src
def Rec.back (r : Rec) : List Byte := leBytes 8 r.time ++ padTo 8 r.data

theorem Rec.bytes_eq (r : Rec) : r.bytes = r.front ++ (leBytes 1 r.check ++ r.back) := by
  simp only [Rec.bytes, Rec.front, Rec.back, List.append_assoc]

theorem Rec.front_length (r : Rec) : r.front.length = 15 := by simp [Rec.front, length_leBytes]

theorem Rec.checkOf_eq (r : Rec) : r.checkOf = crc8 (r.front ++ r.back) := by
  have hsecond : (leBytes 1 r.check ++ r.back).drop 1 = r.back := List.drop_left' (length_leBytes 1 r.check)
  have hdrop : r.bytes.drop 16 = r.back := by
    rw [r.bytes_eq, show 16 = r.front.length + 1 by rw [r.front_length], List.drop_length_add_append, hsecond]
  rw [Rec.checkOf, hdrop, r.bytes_eq, List.take_left' r.front_length]

/-- The CHECK does not cover itself. -/
theorem Rec.checkOf_check (r : Rec) (c : Nat) : Rec.checkOf { r with check := c } = r.checkOf := by
  rw [Rec.checkOf_eq, Rec.checkOf_eq]
  rfl

/-! ### A record written (R394 to R401) -/

/-- A record with its number, its operating seconds and its power cycle, its CHECK given. -/
def LogSt.numbered (l : LogSt) (r : Rec) (check : Nat) : Rec := { r with seq := l.next, opSec := l.opSec, cycle := l.cycles, check := check }

/-- A record as the recorder writes it. -/
def LogSt.written (l : LogSt) (r : Rec) : Rec := l.numbered r (l.numbered r 0).checkOf

theorem LogSt.numbered_check (l : LogSt) (r : Rec) (c : Nat) : (l.numbered r c).check = c := rfl

theorem LogSt.numbered_checkOf (l : LogSt) (r : Rec) (c : Nat) : (l.numbered r c).checkOf = (l.numbered r 0).checkOf :=
  Rec.checkOf_check (l.numbered r 0) c

theorem LogSt.written_check (l : LogSt) (r : Rec) : (l.written r).check = (l.written r).checkOf := by
  rw [LogSt.written, LogSt.numbered_check]
  exact (LogSt.numbered_checkOf l r _).symm

theorem Mod.recStore_log (m : Mod) (r : Rec) : (m.recStore r).log = { m.log with next := (m.log.next + 1) % 2 ^ 32 } := rfl

theorem Mod.recStore_nv (m : Mod) (r : Rec) :
    (m.recStore r).nv = { m.nv with slots := assocSet m.nv.slots (m.log.next % 8192) (m.log.written r) } := rfl

section
variable {m : Mod} {r : Rec}

theorem Mod.recPut_of_room (hfull : m.log.full = false) (hroom : m.log.fill ≠ 8191) : m.recPut r = m.recStore r := by
  unfold Mod.recPut
  rw [if_neg (by simp [hfull]), if_neg hroom]

/-- A record that a full recorder counts and does not write (R400). -/
def Mod.passedOver (m : Mod) : Mod := { m with log := { m.log with notRecorded := (m.log.notRecorded + 1) % 2 ^ 32 } }

theorem Mod.recPut_of_full (hfull : m.log.full = true) : m.recPut r = m.passedOver := if_pos hfull

/-- The data of the full record: the code and source of the record that it replaces (R400). -/
def Rec.replaced (r : Rec) : List Byte := leBytes 2 r.code ++ leBytes 1 r.src

/-- The module whose recorder is full. -/
def Mod.fullNow (m : Mod) : Mod := { m with log := { m.log with full := true, flags := m.log.flags ||| 1 } }

theorem Mod.recPut_of_last (hfull : m.log.full = false) (hlast : m.log.fill = 8191) :
    m.recPut r = (((m.recStore (m.mkRec 120 0x0A01 r.replaced)).fullNow).mark P.logFlags.base 1).raiseLog 0x0A01 r.replaced := by
  unfold Mod.recPut
  rw [if_neg (by simp [hfull]), if_pos hlast]
  rfl

/-- Below LOG_WARN_FILL no warning is due. -/
theorem Mod.recWarn_of_below (hwarned : m.log.warned = false) (hbelow : m.rd P.logWarnFill = 0 ∨ m.log.fill < m.rd P.logWarnFill) :
    m.recWarn = m := by
  have hdue : (decide (m.rd P.logWarnFill ≠ 0) && decide (m.rd P.logWarnFill ≤ m.log.fill) && !m.log.warned) = false := by
    obtain hzero | hless := hbelow
    · simp [hzero]
    · simp [Nat.not_le.2 hless]
  have hend : (m.log.warned && (decide (m.log.fill < m.rd P.logWarnFill) || decide (m.rd P.logWarnFill = 0))) = false := by simp [hwarned]
  unfold Mod.recWarn
  dsimp only
  rw [hdue, hend]
  simp

/-- The recorder, ready, takes the record at the head of its queue. -/
def Mod.recTaken (m : Mod) (q : List Rec) : Mod := { m with log := { m.log with q := q } }

theorem recorderWrite_of_ready {q : List Rec} (hq : m.log.q = r :: q) (hready : m.log.ready = true) :
    recorderWrite false m = ((m.recTaken q).recPut r).recWarn := by
  have hwrite : (m.recTaken q).recWrite r = ((m.recTaken q).recPut r).recWarn := if_pos hready
  unfold recorderWrite
  rw [hq]
  dsimp only
  rw [if_neg (by simp [hready]), if_neg (by simp)]
  exact hwrite

end

/-- One record more fills the recorder by one, below its last slot. -/
theorem LogSt.fill_next {l : LogSt} (h : l.fill < 8191) : LogSt.fill { l with next := (l.next + 1) % 2 ^ 32 } = l.fill + 1 := by
  unfold LogSt.fill at *
  dsimp only
  omega

/-! ### Events of the recorder itself (R397) -/

theorem Mod.renumber_log (m : Mod) : m.renumber.log = m.log ∧ m.renumber.nv = m.nv ∧ m.renumber.regs = m.regs := by
  unfold Mod.renumber
  dsimp only
  split <;> exact ⟨rfl, rfl, rfl⟩

/-- An event that is not recorded, as the recorder's own are, leaves the recorder, its slots and the parameters. -/
theorem Mod.flush_of_norec {m : Mod} {r : Raised} (hone : m.evc.raised = [r]) (hnorec : r.norec = true) (htrace : m.NoTrace r.src)
    (hroom : m.evc.q.length < 4096) : m.flush.log = m.log ∧ m.flush.nv = m.nv ∧ m.flush.regs = m.regs := by
  have hroute : ((m.unraised.rd P.evcRoute r.src).testBit 2 && !r.norec && decide (r.src ≠ 120)) = false := by simp [hnorec]
  have htraced : (m.unraised.numbered r).traceEvent r.src = m.unraised.numbered r := Mod.traceEvent_of_noTrace htrace
  have htake : m.unraised.takeEvent r = m.unraised.numberedQueued r ∨ m.unraised.takeEvent r = m.unraised.numbered r := by
    have htaken : m.unraised.takeEvent r = if (m.unraised.rd P.evcRoute r.src).testBit 0 || (m.unraised.rd P.evcRoute r.src).testBit 1 then
        (m.unraised.numbered r).queueEvent (m.unraised.queuedEv r) else m.unraised.numbered r := by
      unfold Mod.takeEvent
      simp only [hroute, Bool.false_eq_true, if_false]
      exact congrArg (fun x : Mod => if (m.unraised.rd P.evcRoute r.src).testBit 0 || (m.unraised.rd P.evcRoute r.src).testBit 1 then
        x.queueEvent (m.unraised.queuedEv r) else x) htraced
    rw [htaken]
    split
    · exact .inl (Mod.queueEvent_of_room hroom)
    · exact .inr rfl
  obtain htake | htake := htake <;>
  · rw [Mod.flush_of_one hone (by rw [htake]; rfl), htake]
    exact Mod.renumber_log _

/-- A command that raises one event of the recorder alone leaves the recorder and its slots as its meaning does. -/
theorem Mod.run_of_norec {t code : Nat} {d : List Byte} {f : Mod → Mod} {m x : Mod} (hf : f (m.at t) = x.raiseLog code d)
    (hraised : x.evc.raised = []) (htrace : x.NoTrace 120) (hroom : x.evc.q.length < 4096) :
    (Mod.run t f m).log = x.log ∧ (Mod.run t f m).nv = x.nv ∧ ∀ a, (Mod.run t f m).word a = x.word a := by
  have hone : (x.raiseLog code d).evc.raised = [{ src := 120, code := code, data := d, norec := true }] :=
    congrArg (fun l : List Raised => l ++ [{ src := 120, code := code, data := d, norec := true }]) hraised
  obtain ⟨hlog, hnv, hregs⟩ := Mod.flush_of_norec hone rfl htrace hroom
  rw [Mod.run, hf]
  exact ⟨hlog, hnv, fun a => (Store.get_canon _ a).trans (congrArg (Store.get · a) hregs)⟩

/-! ### The window (R403) -/

theorem writeCheck_logCursor (m : Mod) (role : Nat) (v : Word) : m.writeCheck role P.logCursor.addr v = .ok (P.logCursor, 0, 0) := by
  have hbits : P.logCursor.bitsOk 0 v = true := by
    have hmask : P.logCursor.maskAt 0 = 2 ^ 32 - 1 := rfl
    simp [Param.bitsOk, hmask, Nat.and_two_pow_sub_one_of_lt_two_pow (n := 32) v.isLt]
  have hat : paramAt P.logCursor.addr = some (P.logCursor, 0, 0) := by rfl
  unfold Mod.writeCheck
  rw [hat]
  simp only [hbits]
  rfl

theorem cmdWrite_logCursor {m : Mod} (hrun : m.running = true) (role : Nat) (v : Word) :
    cmdWrite P.logCursor 0 role [] v m = logCursor v.toNat (m.setWord P.logCursor.addr v) := by
  rw [cmdWrite, if_pos (by decide)]
  exact writeNow_of_cmd [] hrun (writeCheck_logCursor m role v) rfl (by decide)

theorem Mod.recsFrom_length (m : Mod) (first n : Nat) : (m.recsFrom first n).length ≤ n := by
  refine (List.length_filterMap_le _ _).trans ?_
  rw [List.length_range]
  exact Nat.min_le_left _ _

/-! ### The summary of an interval (R399) -/

/-- The data of a summary. -/
def Bucket.summed (b : Bucket) : List Byte := leBytes 2 b.code ++ leBytes 1 b.src ++ [0] ++ leBytes 4 b.suppressed

/-- The module at an interval's end, the bucket's count at 0. -/
def Mod.intervalled (m : Mod) (b : Bucket) : Mod :=
  ({ m with log := { m.log with ivals := m.now / 10 ^ 9 } }).setBucket { b with suppressed := 0 }

theorem logIntervalEnd_of_one {m : Mod} {b : Bucket} (hover : m.log.ivals < m.now / 10 ^ 9) (hone : m.log.buckets = [b])
    (hsome : b.suppressed ≠ 0) : logIntervalEnd m = (m.intervalled b).recInternal 0x0A02 b.summed := by
  have hfilter : m.log.buckets.filter (fun b => decide (b.suppressed ≠ 0)) = [b] := by simp [hone, hsome]
  refine (if_neg (Nat.not_le.2 hover)).trans ?_
  exact congrArg (fun l => (sortBy Bucket.before l).foldl Mod.summary { m with log := { m.log with ivals := m.now / 10 ^ 9 } }) hfilter

/-! ### The statement -/

/-- Settles O20: the recorder's record by the fill it meets, the summary by the one bucket, the window by where its number lies. -/
theorem recorderWritesInOrder : Obligations.RecorderWritesInOrder := by
  unfold Obligations.RecorderWritesInOrder
  refine ⟨fun s t r q hraised hq hready => ⟨fun hfull hfill hwarned hbelow => ?stored, fun hfull hzero hwarned => ?full,
    fun hfull hlast hzero hwarned hroom htrace => ?last, fun hidle hfull => ?torn⟩,
    fun s t b hraised hover hone hsome hready hfull hfill hwarned hzero hroom htrace => ?summary, fun s t role v hraised hs hrun => ?window⟩
  case stored =>
    have hput := Mod.recPut_of_room (m := (s.m.at t).recTaken q) (r := r) hfull (Nat.ne_of_lt hfill)
    have hbelow' : (((s.m.at t).recTaken q).recStore r).rd P.logWarnFill = 0
        ∨ (((s.m.at t).recTaken q).recStore r).log.fill < (((s.m.at t).recTaken q).recStore r).rd P.logWarnFill :=
      hbelow.imp id (fun h => (LogSt.fill_next (l := ((s.m.at t).recTaken q).log) hfill).trans_lt h)
    have hmean : recorderWrite false (s.m.at t) = ((s.m.at t).recTaken q).recStore r := by
      rw [recorderWrite_of_ready (m := s.m.at t) hq hready, hput]
      exact Mod.recWarn_of_below (m := ((s.m.at t).recTaken q).recStore r) hwarned hbelow'
    have hrun := Mod.run_still (f := recorderWrite false) hmean hraised
    refine State.yields_run (f := recorderWrite false) rfl ⟨?_, ⟨s.m.log.written r, ?_, LogSt.written_check _ _, rfl⟩, ?_, ?_⟩
    · rw [hrun]
      rfl
    · rw [hrun]
      rfl
    · rw [hrun]
      rfl
    · have hwithin : Mod.Within [] [] (s.m.at t) (recorderWrite false (s.m.at t)) :=
        hmean ▸ Mod.Within.of_evented ((Evented.ofLog _ _ rfl).trans (.recStore _ _))
      exact hwithin.frame
  case full =>
    have hput := Mod.recPut_of_full (m := (s.m.at t).recTaken q) (r := r) hfull
    have hmean : recorderWrite false (s.m.at t) = ((s.m.at t).recTaken q).passedOver := by
      rw [recorderWrite_of_ready (m := s.m.at t) hq hready, hput]
      exact Mod.recWarn_of_below (m := ((s.m.at t).recTaken q).passedOver) hwarned (.inl hzero)
    have hrun := Mod.run_still (f := recorderWrite false) hmean hraised
    refine State.yields_run (f := recorderWrite false) rfl ⟨?_, ?_, ?_, ?_⟩
    · rw [hrun]
      rfl
    · rw [hrun]
      rfl
    · rw [hrun]
      rfl
    · have hwithin : Mod.Within [] [] (s.m.at t) (recorderWrite false (s.m.at t)) :=
        hmean ▸ Mod.Within.of_evented ((Evented.ofLog _ _ rfl).trans (.ofLog _ _ rfl))
      exact hwithin.frame
  case last =>
    let x := ((((s.m.at t).recTaken q).recStore (((s.m.at t).recTaken q).mkRec 120 0x0A01 r.replaced)).fullNow).mark P.logFlags.base 1
    have hput := Mod.recPut_of_last (m := (s.m.at t).recTaken q) (r := r) hfull hlast
    have hmean : recorderWrite false (s.m.at t) = x.raiseLog 0x0A01 r.replaced := by
      rw [recorderWrite_of_ready (m := s.m.at t) hq hready, hput]
      exact Mod.recWarn_of_below (m := x.raiseLog 0x0A01 r.replaced) hwarned (.inl hzero)
    obtain ⟨hlog, hnv, -⟩ := Mod.run_of_norec (f := recorderWrite false) hmean hraised htrace hroom
    refine State.yields_run (f := recorderWrite false) rfl ⟨hlog, ⟨_, congrArg Nv.slots hnv, rfl, rfl, rfl, rfl, rfl⟩, ?_⟩
    have hwithin : Mod.Within [] [] (s.m.at t) (recorderWrite false (s.m.at t)) :=
      hmean ▸ Mod.Within.of_evented (((((Evented.ofLog _ _ rfl).trans (.recStore _ _)).trans (.ofLog _ _ rfl)).trans (.mark _ _ _)).trans
        (.raiseLog _ _ _))
    exact hwithin.frame
  case torn =>
    let w : Rec := s.m.log.numbered r (((s.m.log.numbered r 0).checkOf + 1) % 256)
    have hmean : recorderWrite true (s.m.at t) = ((s.m.at t).recTear r).fresh s.m.nv.cause := by
      have hidle' : (s.m.at t).running = false := hidle
      unfold recorderWrite
      rw [show (s.m.at t).log.q = r :: q from hq]
      dsimp only
      rw [if_neg (by simp [hready]), if_pos (by simp [hidle'])]
      rfl
    have htear : (s.m.at t).recTear r = { s.m.at t with nv := { s.m.nv with slots := assocSet s.m.nv.slots (s.m.log.next % 8192) w } } :=
      if_neg (by simp [hfull])
    have hrest := Restarted.of_run (m := s.m) (f := recorderWrite true) hmean (by rw [htear]; rfl) (by rw [htear]; rfl)
    rw [htear] at hrest
    refine State.yields_run (f := recorderWrite true) rfl ⟨w, ?_, hrest⟩
    have hcheck : w.checkOf = (s.m.log.numbered r 0).checkOf := LogSt.numbered_checkOf _ _ _
    rw [hcheck, LogSt.numbered_check]
    omega
  case summary =>
    let y := (s.m.at t).intervalled b
    let x := y.recStore (y.mkRec 120 0x0A02 b.summed)
    have hput : y.recWrite (y.mkRec 120 0x0A02 b.summed) = x := by
      have hwrite : y.recWrite (y.mkRec 120 0x0A02 b.summed) = (y.recPut (y.mkRec 120 0x0A02 b.summed)).recWarn := if_pos hready
      rw [hwrite, Mod.recPut_of_room (m := y) hfull (Nat.ne_of_lt hfill)]
      exact Mod.recWarn_of_below (m := x) hwarned (.inl hzero)
    have hmean : logIntervalEnd (s.m.at t) = x.raiseLog 0x0A02 b.summed :=
      (logIntervalEnd_of_one (m := s.m.at t) hover hone hsome).trans (congrArg (fun z : Mod => z.raiseLog 0x0A02 b.summed) hput)
    obtain ⟨hlog, hnv, hword⟩ := Mod.run_of_norec (f := logIntervalEnd) hmean hraised htrace hroom
    have hbucket : (Mod.run t logIntervalEnd s.m).bucket b.src b.code = y.bucket b.src b.code :=
      Mod.bucket_congr (congrArg LogSt.buckets hlog) (congrArg BitVec.toNat (hword P.logBurst.addr)) _ _
    have hset : y.bucket b.src b.code = _ := Mod.bucket_setBucket (b := { b with suppressed := 0 })
    refine State.yields_run (f := logIntervalEnd) rfl ⟨⟨_, congrArg Nv.slots hnv, rfl, rfl, rfl, rfl, rfl⟩, congrArg LogSt.next hlog,
      congrArg LogSt.ivals hlog, ?_, ?_, ?_⟩
    · rw [hbucket, hset]
      split <;> rfl
    · rw [hbucket, hset]
      split
      · next h => exact (Nat.min_eq_right (h.resolve_right (fun h => h rfl)).le).symm
      · next h => exact (Nat.min_eq_left (Nat.not_lt.1 (fun hless => h (.inl hless)))).symm
    · have hwithin : Mod.Within [.log] [] (s.m.at t) (logIntervalEnd (s.m.at t)) :=
        hmean ▸ ((Mod.Within.ofLog _ _ (by decide)).trans (.setBucket _ _ (by decide))).trans
          (.of_evented ((Evented.recStore _ _).trans (.raiseLog _ _ _)))
      exact hwithin.frame
  case window =>
    have hmean := cmdWrite_logCursor (m := s.m.at t) hrun role v
    have hv : v.toNat % 2 ^ 32 = v.toNat := Nat.mod_eq_of_lt v.isLt
    have hwithin : Mod.Within [.log] [P.logCursor.addr] (s.m.at t) (cmdWrite P.logCursor 0 role [] v (s.m.at t)) :=
      hmean ▸ ((Mod.Within.setWord _ _ _ (by simp)).trans (.wr _ _ _ _ _ (by simp))).trans (.ofLog _ _ (by decide))
    have hlog : (cmdWrite P.logCursor 0 role [] v (s.m.at t)).log
        = { s.m.log with winFirst := v.toNat, winClears := s.m.log.clears,
                         window := if s.m.log.holds v.toNat then s.m.recsFrom v.toNat 16 else [] } := by
      rw [hmean]
      exact congrArg (fun n => { s.m.log with winFirst := n, winClears := s.m.log.clears,
                                              window := if s.m.log.holds v.toNat then s.m.recsFrom v.toNat 16 else [] }) hv
    refine State.yields_calm (f := cmdWrite P.logCursor 0 role [] v) rfl (hmean ▸ hraised) (hwithin.wf hs) ⟨?_, ?_, ?_, ?_, ?_, ?_, ?_⟩
    · rw [hlog]
    · rw [hlog]
    · rw [hlog]
    · rw [hlog]
      dsimp only
      split
      · exact Mod.recsFrom_length _ _ _
      · exact Nat.zero_le _
    · rw [hmean]
      rfl
    · rw [hmean]
      rfl
    · exact hwithin.toFrame

end Sys2Proof.Machine
end

section
/-!
PROOFS. Streams of events (R386): a session of the implement bus whose address is not held is sent nothing.
-/
namespace Sys2Proof.Machine

/-- An event of highest priority waits for an open session of the implement bus, where the module holds no address (R366). -/
def busEvent : Ev :=
  { seq := 1, code := 0x0201, src := 2, prio := 0, raw := 0, valid := false, held := false, recorded := false, fw := true, stream := true,
    rep := 0, data := [] }
def busSession : Session :=
  { idx := 0, id := 1, opened := true, slot := 0, role := 0, tr := 6, peer := 0, key := [], nonceC := [], nonceM := [], since := 0, lastMsg := 0,
    sub := some { mask := 4, maxPrio := 0 }, buf := [busEvent] }
def busMod : Mod := { bist := { phase := .running }, net := { sessions := [busSession] } }

theorem busMod_stream : (eventStreamSend 0 (busMod.at 0)).net.sent = [] := by decide +kernel

/-- Refutes O19: an EVENT message that is due leaves only where its transport reaches the session; `busMod` holds no address on the implement
bus, so that its session is sent none. -/
theorem not_eventsReachFirmwareAndSessions : ¬ Obligations.EventsReachFirmwareAndSessions := by
  intro h
  have hdue : (busMod.at 0).streamDue busSession = true := by decide +kernel
  obtain ⟨⟨o, hsent, -⟩, -⟩ := (h.2 { m := busMod } 0 0 busSession rfl rfl rfl hdue).of_run (t := 0) (f := eventStreamSend 0) rfl
  rw [Mod.run_net, busMod_stream] at hsent
  exact absurd hsent.symm (by simp)

end Sys2Proof.Machine
end

section
/-!
PROOFS. The Ethernet ports (R364): links, the answers of the interfaces, and the switch's learned addresses.
-/
namespace Sys2Proof.Machine

/-! ### Links -/

/-- Where a port's link stands in NET_LINK (R390). -/
def linkOf (w port : Nat) : Nat := if port = 2 then field w 4 4 else field w (2 * port + 1) (2 * port)

theorem Mod.link_eq (m : Mod) (port : Nat) : m.link port = linkOf (m.rd P.netLink) port := rfl

/-- A host port's link set in NET_LINK leaves the others'. -/
theorem linkOf_setField {w port speed : Nat} (hport : port < 2) (hspeed : speed < 3) :
    let v := setField w (2 * port + 1) (2 * port) speed % 2 ^ 5 % 2 ^ 32
    linkOf v port = speed ∧ linkOf v (1 - port) = linkOf w (1 - port) ∧ linkOf v 2 = linkOf w 2 := by
  intro v
  have hcases : port = 0 ∨ port = 1 := by omega
  obtain rfl | rfl := hcases <;>
  · simp only [v, linkOf, setField, field]
    norm_num
    omega

section
variable {m : Mod} {port speed : Nat}

/-- NET_LINK with the link of a host port changed, and the flag of the change. -/
def Mod.linked (m : Mod) (port speed : Nat) : Mod :=
  (m.wr P.netLink (setField (m.rd P.netLink) (2 * port + 1) (2 * port) speed)).flag P.netFlags 1

theorem Mod.rd_linked (hwf : Store.wf m.regs = true) (port speed : Nat) : (m.linked port speed).rd P.netLink
    = setField (m.rd P.netLink) (2 * port + 1) (2 * port) speed % 2 ^ 5 % 2 ^ 32 := by
  have hw : P.netLink.w = 5 := rfl
  unfold Mod.linked
  rw [Mod.rd_flag_other (by decide), Mod.rd_wr hwf, hw]

theorem ethLinkChange_of_changed (hport : port < 2) (hspeed : speed < 3) (hgood : m.net.ethBad.contains port = false)
    (hon : m.bist.phase ≠ .off) (hchanged : m.link port ≠ speed) :
    ∃ code d, ethLinkChange port speed m = (m.linked port speed).raise 116 code d := by
  have hhost : port ≠ 2 := by omega
  have hgoes : (decide (3 ≤ port) || decide (3 ≤ speed) || m.net.ethBad.contains port
      || decide (m.link port = (if port = 2 then Nat.min speed 1 else speed)) || decide (m.bist.phase = .off)) = false := by
    rw [if_neg hhost, hgood]
    simp only [Bool.or_eq_false_iff, decide_eq_false_iff_not, Nat.not_le]
    exact ⟨⟨⟨⟨by omega, hspeed⟩, trivial⟩, hchanged⟩, hon⟩
  unfold ethLinkChange
  rw [hgoes, if_neg Bool.false_ne_true]
  dsimp only
  rw [if_neg hhost]
  split
  · exact ⟨_, _, rfl⟩
  · exact ⟨_, _, rfl⟩

end

/-! ### The answers of the interfaces -/

theorem length_beBytes (k v : Nat) : (beBytes k v).length = k := by rw [beBytes, List.length_reverse, length_leBytes]

/-- A frame leaves at a port whose link is up. -/
theorem Mod.ethSend_one {m : Mod} {port : Nat} (f : List Byte) (hup : m.link port ≠ 0) :
    m.ethSend [port] f = { m with net := { m.net with ethOut := m.net.ethOut ++ [(port, f)] } } := by
  have hports : [port].filter (fun p => decide (m.link p ≠ 0)) = [port] := List.filter_cons_of_pos (decide_eq_true hup)
  unfold Mod.ethSend
  rw [hports]
  rfl

theorem Mod.Within.ethSend {as : List Area} {ws : List Nat} (m : Mod) (ports : List Nat) (f : List Byte) (h : Area.net ∈ as) :
    Mod.Within as ws m (m.ethSend ports f) := .ofNet m _ h

theorem Mod.link_of_answers {m : Mod} {port ip : Nat} (h : m.answers port ip = true) : m.link port ≠ 0 := by
  unfold Mod.answers at h
  rw [Bool.and_eq_true, decide_eq_true_eq] at h
  exact h.1

/-- The answer to an ARP request. -/
def arpFrame (mac ip sha spa : Nat) : List Byte :=
  beBytes 6 sha ++ beBytes 6 mac ++ beBytes 2 0x0806 ++ beBytes 2 1 ++ beBytes 2 0x0800 ++ [6, 4] ++ beBytes 2 2
    ++ beBytes 6 mac ++ beBytes 4 ip ++ beBytes 6 sha ++ beBytes 4 spa

/-- Bytes that lie behind `a` and before `c`. -/
theorem take_drop_middle {a b c : List Byte} {i k : Nat} (ha : a.length = i) (hb : b.length = k) : ((a ++ (b ++ c)).drop i).take k = b := by
  rw [List.drop_left' ha, List.take_left' hb]

theorem arpFrame_spec (mac ip sha spa : Nat) : (arpFrame mac ip sha spa).length = 42
    ∧ (arpFrame mac ip sha spa).take 6 = beBytes 6 sha ∧ ((arpFrame mac ip sha spa).drop 6).take 6 = beBytes 6 mac
    ∧ ((arpFrame mac ip sha spa).drop 12).take 2 = beBytes 2 0x0806 ∧ ((arpFrame mac ip sha spa).drop 20).take 2 = beBytes 2 2
    ∧ ((arpFrame mac ip sha spa).drop 22).take 6 = beBytes 6 mac ∧ ((arpFrame mac ip sha spa).drop 28).take 4 = beBytes 4 ip := by
  have hlen := length_beBytes
  refine ⟨by simp [arpFrame, hlen], ?_, ?_, ?_, ?_, ?_, ?_⟩
  · simp only [arpFrame, List.append_assoc]
    exact List.take_left' (hlen 6 sha)
  · simp only [arpFrame, List.append_assoc]
    exact take_drop_middle (hlen 6 sha) (hlen 6 mac)
  · simp only [arpFrame, List.append_assoc]
    rw [← List.append_assoc]
    exact take_drop_middle (by simp [hlen]) (hlen 2 _)
  · have hat : arpFrame mac ip sha spa = (beBytes 6 sha ++ beBytes 6 mac ++ beBytes 2 0x0806 ++ beBytes 2 1 ++ beBytes 2 0x0800 ++ [6, 4])
        ++ (beBytes 2 2 ++ (beBytes 6 mac ++ beBytes 4 ip ++ beBytes 6 sha ++ beBytes 4 spa)) := by simp [arpFrame]
    rw [hat]
    exact take_drop_middle (by simp [hlen]) (hlen 2 _)
  · have hat : arpFrame mac ip sha spa
        = (beBytes 6 sha ++ beBytes 6 mac ++ beBytes 2 0x0806 ++ beBytes 2 1 ++ beBytes 2 0x0800 ++ [6, 4] ++ beBytes 2 2)
          ++ (beBytes 6 mac ++ (beBytes 4 ip ++ beBytes 6 sha ++ beBytes 4 spa)) := by simp [arpFrame]
    rw [hat]
    exact take_drop_middle (by simp [hlen]) (hlen 6 _)
  · have hat : arpFrame mac ip sha spa
        = (beBytes 6 sha ++ beBytes 6 mac ++ beBytes 2 0x0806 ++ beBytes 2 1 ++ beBytes 2 0x0800 ++ [6, 4] ++ beBytes 2 2 ++ beBytes 6 mac)
          ++ (beBytes 4 ip ++ (beBytes 6 sha ++ beBytes 4 spa)) := by simp [arpFrame]
    rw [hat]
    exact take_drop_middle (by simp [hlen]) (hlen 4 _)

theorem arpRequest_of_answers {m : Mod} {port ip : Nat} (sha spa : Nat) (h : m.answers port ip = true) :
    arpRequest port ip sha spa m = m.ethSend [port] (arpFrame (m.hostMac (port = 2)) ip sha spa) := if_pos h

/-- The answer to an echo request: 38 bytes of headers, then what was sent. -/
theorem icmpEcho_of_answers {m : Mod} {port ip : Nat} (smac sip : Nat) (pl : List Byte) (h : m.answers port ip = true) :
    ∃ f : List Byte, icmpEcho port ip smac sip pl m = m.draw.2.ethSend [port] f ∧ f.take 6 = beBytes 6 smac ∧ f.drop 38 = pl := by
  have hlen := length_beBytes
  unfold icmpEcho
  rw [if_pos h]
  refine ⟨_, rfl, ?_, ?_⟩
  · simp only [List.append_assoc]
    exact List.take_left' (hlen 6 smac)
  · rw [← List.append_assoc, ← List.append_assoc]
    exact List.drop_left' (by simp [hlen])

/-! ### The switch -/

section
variable {m : Mod} {port : Nat} {f : List Byte}

/-- A frame for another station that comes by one host port: its sender is learned, and it leaves by the entry of its destination, or at the
other port. -/
theorem ethernetFrameReceived_of_station (hport : port < 2) (hup : m.link port ≠ 0) (hrun : m.running = true) (hlen : 14 ≤ f.length)
    (hptp : isPtp f = false) (hdst : beVal (f.take 6) ≠ m.hostMac false) (hone : beVal (f.take 1) % 2 = 0) :
    ethernetFrameReceived port false f m =
      let m1 := m.learn (beVal ((f.drop 6).take 6)) port
      match m1.net.macs.find? (fun e => decide (e.mac = beVal (f.take 6)) && decide (m.now < e.seen + 300 * 10 ^ 9)) with
      | some e => if e.port = port then m1 else m1.ethSend [e.port] f
      | none => m1.ethSend [1 - port] f := by
  have hgroup : ¬ beVal (f.take 1) % 2 = 1 := by omega
  have hgoes : (decide (3 ≤ port) || decide (m.link port = 0) || decide (f.length < 14)) = false := by
    simp only [Bool.or_eq_false_iff, decide_eq_false_iff_not]
    exact ⟨⟨by omega, hup⟩, by omega⟩
  have hhost : ¬ port = 2 := by omega
  have hon : (!m.switchOn) = false := congrArg not hrun
  unfold ethernetFrameReceived
  dsimp only
  rw [hgoes, if_neg Bool.false_ne_true, if_neg hhost, hon, if_neg Bool.false_ne_true]
  simp only [hgroup, hdst, hptp, decide_false, Bool.or_self, Bool.false_and, Bool.false_or, Bool.false_eq_true, if_false, decide_eq_true_eq] <;> rfl

theorem Mod.learn_of_few {mac : Nat} (hfew : m.net.macs.length < 1024) (hnew : ∀ e ∈ m.net.macs, e.mac ≠ mac) :
    m.learn mac port = { m with net := { m.net with macs := m.net.macs ++ [{ mac := mac, port := port, seen := m.now }] } } := by
  have hrest : m.net.macs.filter (fun e => decide (e.mac ≠ mac)) = m.net.macs :=
    List.filter_eq_self.2 (fun e he => decide_eq_true (hnew e he))
  unfold Mod.learn
  rw [hrest]
  exact if_pos hfew

end

/-- A command that leaves the network changed answers with it. -/
theorem net_yields {as : List Area} {ws : List Nat} {s : State} {c : Instr} {t : Nat} {f : Mod → Mod} {x : Mod} {n : NetSt}
    (hexec : exec c s = s.run t f) (hf : f (s.m.at t) = x) (hx : x.net = n) (hwithin : Mod.Within as ws (s.m.at t) x) :
    s.Yields c fun m' => m'.net = n ∧ Mod.Frame t as ws s.m m' :=
  State.yields_frame hexec (hf ▸ hwithin) ((Mod.run_net _ _ _).trans ((congrArg Mod.net hf).trans hx))

/-! ### The statement -/

/-- Settles O17: NET_LINK by its fields, the answers by their bytes, the switch by the entries that it holds. -/
theorem ethernetPortsAnswer : Obligations.EthernetPortsAnswer := by
  unfold Obligations.EthernetPortsAnswer
  refine ⟨⟨fun s t port speed hs hport hspeed hgood hon hchanged => ?link, fun s t port ip sha spa hanswers => ?arp,
    fun s t port ip smac sip pl hanswers => ?icmp⟩,
    fun s t port f _ _ hport hup hother hrun hlen => ?switch, fun s t mac => ?age⟩
  case link =>
    obtain ⟨code, d, hmean⟩ := ethLinkChange_of_changed (m := s.m.at t) hport hspeed hgood hon hchanged
    have hread : (Mod.run t (ethLinkChange port speed) s.m).rd P.netLink
        = setField (s.m.rd P.netLink) (2 * port + 1) (2 * port) speed % 2 ^ 5 % 2 ^ 32 := by
      rw [Mod.run_rd_other t _ s.m (by decide), hmean, Mod.rd_raise, Mod.rd_linked (m := s.m.at t) hs, Mod.rd_at]
    obtain ⟨hport', hother', hsvc'⟩ := linkOf_setField (w := s.m.rd P.netLink) hport hspeed
    refine State.yields_run (f := ethLinkChange port speed) rfl ⟨?_, ?_, ?_, ?_⟩
    · rw [Mod.link_eq, hread]
      exact hport'
    · rw [Mod.link_eq, hread]
      exact hother'
    · rw [Mod.link_eq, hread]
      exact hsvc'
    · have hwithin : Mod.Within [] [P.netLink.addr, P.netFlags.addr] (s.m.at t) (ethLinkChange port speed (s.m.at t)) :=
        hmean ▸ ((Mod.Within.wr _ _ _ _ _ (by simp)).trans (.flag _ _ _ _ (by simp))).trans (.raise _ _ _ _)
      exact hwithin.frame
  case arp =>
    have hmean := (arpRequest_of_answers (m := s.m.at t) sha spa hanswers).trans
      (Mod.ethSend_one (m := s.m.at t) _ (Mod.link_of_answers hanswers))
    obtain ⟨m', hexec, hnet, hframe⟩ := net_yields (as := [.net]) (ws := []) (s := s) (c := .arpRequest t port ip sha spa)
      (f := arpRequest port ip sha spa) rfl hmean rfl (.ofNet _ _ (by decide))
    exact ⟨m', hexec, ⟨_, hnet, arpFrame_spec _ _ _ _⟩, hframe⟩
  case icmp =>
    obtain ⟨f, hmean, hto, hdata⟩ := icmpEcho_of_answers (m := s.m.at t) smac sip pl hanswers
    rw [Mod.ethSend_one (m := (s.m.at t).draw.2) f (Mod.link_of_answers (m := s.m.at t) hanswers)] at hmean
    obtain ⟨m', hexec, hnet, hframe⟩ := net_yields (as := [.net, .free]) (ws := []) (s := s)
      (c := .icmpEcho t port ip smac sip pl) (f := icmpEcho port ip smac sip pl) rfl hmean rfl
      ((Mod.Within.draw _ (by decide)).trans (.ofNet _ _ (by decide)))
    exact ⟨m', hexec, ⟨f, hnet, hto, hdata⟩, hframe⟩
  case switch =>
    intro dst src me hptp hdst hone hne
    refine ⟨fun hnone => ?flood, fun e hmacs hmac hseen hhere => ?known⟩
    case flood =>
      have hmean := ethernetFrameReceived_of_station (m := s.m.at t) hport hup hrun hlen hptp hdst hone
      have hlearn : (s.m.at t).learn src port = { s.m.at t with net := { s.m.net with macs := [me] } } := by
        refine (Mod.learn_of_few (m := s.m.at t) (by simp [hnone]) (by simp [hnone])).trans ?_
        exact congrArg (fun l => { s.m.at t with net := { s.m.net with macs := l ++ [me] } }) hnone
      have hfind : [me].find? (fun e => decide (e.mac = beVal (f.take 6)) && decide ((s.m.at t).now < e.seen + 300 * 10 ^ 9)) = none := by
        have hmac : me.mac ≠ beVal (f.take 6) := hne
        simp [hmac]
      dsimp only at hmean
      rw [hlearn] at hmean
      dsimp only at hmean
      rw [hfind] at hmean
      have hsend := Mod.ethSend_one (m := { s.m.at t with net := { s.m.net with macs := [me] } }) f hother
      exact net_yields (f := ethernetFrameReceived port false f) rfl (hmean.trans hsend) rfl
        ((Mod.Within.ofNet (s.m.at t) { s.m.net with macs := [me] } (by decide)).trans (.ofNet _ _ (by decide)))
    case known =>
      have hmean := ethernetFrameReceived_of_station (m := s.m.at t) hport hup hrun hlen hptp hdst hone
      have hlearn : (s.m.at t).learn src port = { s.m.at t with net := { s.m.net with macs := [e, me] } } := by
        have hnew : e.mac ≠ src := fun h => hne (h.symm.trans hmac)
        refine (Mod.learn_of_few (m := s.m.at t) (by simp [hmacs]) (by simpa [hmacs] using hnew)).trans ?_
        exact congrArg (fun l => { s.m.at t with net := { s.m.net with macs := l ++ [me] } }) hmacs
      have hfind : [e, me].find? (fun e => decide (e.mac = beVal (f.take 6)) && decide ((s.m.at t).now < e.seen + 300 * 10 ^ 9)) = some e := by
        have hmac' : e.mac = beVal (f.take 6) := hmac
        exact List.find?_cons_of_pos (by rw [decide_eq_true hmac', decide_eq_true hseen]; rfl)
      dsimp only at hmean
      rw [hlearn] at hmean
      dsimp only at hmean
      rw [hfind] at hmean
      exact net_yields (f := ethernetFrameReceived port false f) rfl (hmean.trans (if_pos hhere)) rfl (.ofNet _ _ (by decide))
  case age =>
    refine State.yields_run (f := macAgeOut mac) rfl ⟨fun e => ?_, ?_, (Mod.Within.ofNet _ _ (by decide)).frame⟩
    · rw [Mod.run_net]
      have hold : (s.m.at t).net.macs = s.m.net.macs := rfl
      simp only [macAgeOut, List.mem_filter, hold, Bool.not_eq_true', Bool.and_eq_false_iff, decide_eq_false_iff_not, not_and_or]
    · rw [Mod.run_net]
      rfl

end Sys2Proof.Machine
end

section
/-!
PROOFS. RECORDER_CLEAR (R404) where an event that waits for the recorder meets a full input queue: the recorder's own records are then three.
-/
namespace Sys2Proof.Machine

/-- A session of the service port. -/
def clearSession : Session :=
  { idx := 0, id := 7, opened := true, slot := 0, role := 1, tr := 1, peer := 0, key := [], nonceC := [], nonceM := [], since := 0, lastMsg := 0 }

/-- A record that waits. -/
def clearRecord : Rec :=
  { seq := 0, opSec := 0, cycle := 0, valid := false, held := false, trunc := false, internal := false, prio := 0, code := 0x0201, src := 2,
    check := 0, time := 0, data := [] }

/-- The recorder holds five records, which LOG_WARN_FILL warns of, and its input queue is full; an event of source 2, which is recorded, has been
raised and not been taken. -/
def clearMod : Mod :=
  { bist := { phase := .running }, net := { sessions := [clearSession] }, regs := [(P.logWarnFill.addr, 1#32)],
    log := { next := 5, q := List.replicate 256 clearRecord, ready := true, judged := true },
    evc := { raised := [{ src := 2, code := 0x0201, data := [], norec := false }] } }

/-- RECORDER_CLEAR up to record 0, without its tag and with it. -/
def clearPlain : Msg :=
  { tr := 1, peer := 0, magic := 0x4C56, version := 1, kind := 0, typ := 0x0061, len := 4, sid := 7, seq := 1, body := [0, 0, 0, 0], tag := [] }
def clearRequest : Msg := { clearPlain with tag := tagOf [] (msgHeader clearPlain) [0, 0, 0, 0] }

theorem clearMod_accepts : ({ m := clearMod } : State).Accepts clearRequest clearSession where
  canonical := by
    unfold State.Canonical
    decide +kernel
  carried := by decide +kernel
  idle := rfl
  whole := by decide +kernel
  request := rfl
  named := by decide
  found := rfl
  opened := rfl
  tr := rfl
  peer := rfl
  tag := decide_eq_true rfl
  fresh := rfl
  new := rfl

/-- What RECORDER_CLEAR gives and leaves. -/
def clearReply : Reply := handler [] 0x0061 clearSession 1 [0, 0, 0, 0] ((clearMod.at 0).accepting clearRequest clearSession)

theorem clearReply_eq : handler [] 0x0061 clearSession 1 [0, 0, 0, 0] ((clearMod.at 0).accepting clearRequest clearSession)
    = (clearReply.1, clearReply.2.1, clearReply.2.2) := by
  rw [Prod.mk.eta]
  rfl

/-- The warning, the record of the clear and the report of the overflow take the slots 5, 6 and 7. -/
theorem clearReply_slots :
    (assocGet (clearReply.2.2.reply clearSession.id 0x0061 clearRequest.seq clearReply.1 clearReply.2.1).flush.settle.nv.slots 7).isSome = true := by decide +kernel

theorem clearReply_idle : clearReply.2.2.net.cal = none := by decide +kernel

/-- Refutes O14: RECORDER_CLEAR leaves all slots but two only where no record is put into a full input queue at its end; in `clearMod` the event
that waits is, so that slot 7 takes the report of the overflow. -/
theorem not_queueingRequestsTakeEffect : ¬ Obligations.QueueingRequestsTakeEffect := by
  intro h
  have hgate : clearMod.gate clearSession clearRequest.typ = none := by decide +kernel
  obtain ⟨-, -, -, hclear⟩ := h { m := clearMod } 0 clearRequest clearSession clearMod_accepts hgate
  have hholds : clearMod.log.holds (leVal clearRequest.body) = true := by decide +kernel
  obtain ⟨-, -, hslots, -⟩ := (hclear rfl rfl hholds (fun hfull => absurd hfull (by decide))).of_run (t := 0) (f := volron 0x0061 [] clearRequest) rfl
  have htyp : clearRequest.typ = 0x0061 := rfl
  have hmean := volron_answers (t := 0) (counts := []) clearMod_accepts htyp (by decide) (by decide) hgate clearReply_eq clearReply_idle
  have hseven := hslots 7 (by decide) (by decide)
  rw [Mod.run, hmean] at hseven
  have hsome := clearReply_slots
  rw [hseven] at hsome
  exact absurd hsome (by decide)

end Sys2Proof.Machine
end

section
/-!
PROOFS. The session layer of Volron (R368 to R374): requests that wait, messages that are discarded, repeats, and requests that a rule turns away.
-/
namespace Sys2Proof.Machine

/-- HELLO is none of the requests of a session. -/
theorem requestCommands_typ {counts : List (Nat × Nat)} {p : Nat × (Nat → Msg → Instr)} (hp : p ∈ requestCommands counts) : p.1 ≠ 1 := by
  fin_cases hp <;> simp only [ne_eq] <;> decide

/-! ### A message that has come (R368, R372, R373) -/

section
variable {m : Mod} {g : Msg} {x : Session} {typ : Nat} {counts : List (Nat × Nat)}

/-- A message that waits behind a CAL_WRITE in execution. -/
def Mod.waits (m : Mod) (g : Msg) : Mod :=
  { m.inc P.netRxMsgs with net := { m.net with waiting := m.net.waiting ++ [(m.now, g)] } }

theorem volron_waits (htyp : g.typ = typ) (hcarried : m.carries g.tr = true) (hcal : m.net.cal.isSome = true) :
    volron typ counts g m = m.waits g := by
  have hcal' : (m.inc P.netRxMsgs).net.cal.isSome = true := hcal
  unfold volron Mod.receive
  rw [if_pos htyp, hcarried]
  dsimp only
  rw [hcal']
  rfl

/-- With no CAL_WRITE in execution a message is taken at once. -/
theorem volron_takes (htyp : g.typ = typ) (hcarried : m.carries g.tr = true) (hcal : m.net.cal = none) :
    volron typ counts g m = (m.inc P.netRxMsgs).take (handler counts) m.now g := by
  have hcal' : (m.inc P.netRxMsgs).net.cal.isSome = false := congrArg Option.isSome hcal
  unfold volron Mod.receive
  rw [if_pos htyp, hcarried]
  dsimp only
  rw [hcal']
  rfl

theorem Mod.take_of_bad {h : Handler} {now : Nat} (hbad : msgOk g = false) : m.take h now g = m.inc P.netTagFails := by
  unfold Mod.take
  rw [hbad]
  rfl

theorem Mod.take_of_session {h : Handler} {now : Nat} (hok : msgOk g = true) (hkind : g.kind = 0) (htyp : g.typ ≠ 1) (hsid : g.sid ≠ 0)
    (hfound : m.session? g.sid = some x) (hopened : x.opened = true) : m.take h now g = m.sessionMsg h x g := by
  unfold Mod.take
  simp only [hok, hkind, htyp, hsid, hfound, hopened, Bool.not_true, Bool.false_eq_true, decide_false, Bool.false_and, if_false, if_true,
    ne_eq, not_true_eq_false]

theorem Mod.sessionMsg_of_foreign {h : Handler} (hforeign : g.tr ≠ x.tr ∨ g.peer ≠ x.peer ∨ msgTagOk g x = false) :
    m.sessionMsg h x g = m.inc P.netTagFails := by
  unfold Mod.sessionMsg
  refine if_pos ?_
  simpa only [Bool.or_eq_true, decide_eq_true_eq, Bool.not_eq_true', or_assoc] using hforeign

section
variable (htr : g.tr = x.tr) (hpeer : g.peer = x.peer) (htag : msgTagOk g x = true)
include htr hpeer htag

theorem Mod.sessionMsg_of_own {h : Handler} : m.sessionMsg h x g =
    match x.cache.find? (fun e => e.1 = g.seq) with
    | some e => (m.inc P.netDuplicates).post e.2
    | none => if x.lastSeq.all (fun q => later 32 g.seq q) then m.execute h x g else m := by
  unfold Mod.sessionMsg
  refine if_neg ?_
  simp [htr, hpeer, htag]

theorem Mod.sessionMsg_of_repeat {h : Handler} {e : Nat × OutMsg} (hcached : x.cache.find? (fun e => e.1 = g.seq) = some e) :
    m.sessionMsg h x g = (m.inc P.netDuplicates).post e.2 := by
  rw [Mod.sessionMsg_of_own htr hpeer htag, hcached]

theorem Mod.sessionMsg_of_late {h : Handler} {q : Nat} (hnew : x.cache.find? (fun e => e.1 = g.seq) = none) (hlast : x.lastSeq = some q)
    (hlate : later 32 g.seq q = false) : m.sessionMsg h x g = m := by
  have hnot : x.lastSeq.all (fun q => later 32 g.seq q) = false := by
    rw [hlast, Option.all_some]
    exact hlate
  rw [Mod.sessionMsg_of_own htr hpeer htag, hnew]
  exact if_neg (ne_true_of_eq_false hnot)

end

end

/-- R373 -/
theorem Mod.Within.waits {as : List Area} {ws : List Nat} (m : Mod) (g : Msg) (h : Area.net ∈ as) (hw : P.netRxMsgs.addr ∈ ws) :
    Mod.Within as ws m (m.waits g) := (Mod.Within.inc _ _ _ _ _ hw).trans (.ofNet _ _ h)

/-- Settles O9: the message that comes is put behind those that wait. -/
theorem requestsWaitForCalWrite : Obligations.RequestsWaitForCalWrite := by
  unfold Obligations.RequestsWaitForCalWrite
  intro counts p hp s t g htyp hcarried hcal
  obtain ⟨cs, hexec⟩ := requestCommands_exec hp t g s
  exact net_yields hexec (volron_waits (m := s.m.at t) htyp hcarried hcal) rfl (.waits _ _ (by decide) (by decide))

/-! ### Discarded messages and repeats -/

section
variable {s : State} {t : Nat} {c : Instr} {f : Mod → Mod}

/-- A message that is discarded is counted twice and leaves everything else. -/
theorem tagFailed_yields (hs : s.Canonical) (hexec : exec c s = s.run t f)
    (hf : f (s.m.at t) = ((s.m.at t).inc P.netRxMsgs).inc P.netTagFails) : s.Yields c fun m' => m'.net = s.m.net
      ∧ m'.rd P.netTagFails = (s.m.rd P.netTagFails + 1) % 2 ^ 32 ∧ Mod.Frame t [] [P.netRxMsgs.addr, P.netTagFails.addr] s.m m' := by
  have hrx : Mod.Within [] [P.netRxMsgs.addr, P.netTagFails.addr] (s.m.at t) ((s.m.at t).inc P.netRxMsgs) := .inc _ _ _ _ _ (by decide)
  have hwithin : Mod.Within [] [P.netRxMsgs.addr, P.netTagFails.addr] (s.m.at t) (f (s.m.at t)) :=
    hf ▸ hrx.trans (.inc _ _ _ _ _ (by decide))
  refine State.yields_run hexec ⟨(Mod.run_net _ _ _).trans ((congrArg Mod.net hf).trans rfl), ?_, hwithin.frame⟩
  exact count_of_run (x := (s.m.at t).inc P.netRxMsgs) (hrx.wf hs) rfl (by decide) (congrArg (fun m : Mod => m.rd P.netTagFails) hf)
    (Mod.rd_inc_other (m := s.m.at t) (by decide) 1)

/-- A repeat is counted, and the reply that was kept goes out once more. -/
theorem repeated_yields {o : OutMsg} (hs : s.Canonical) (hexec : exec c s = s.run t f)
    (hf : f (s.m.at t) = (((s.m.at t).inc P.netRxMsgs).inc P.netDuplicates).post o) (hreach : s.m.reaches o.tr = true) :
    s.Yields c fun m' => m'.net = { s.m.net with sent := s.m.net.sent ++ [o] }
      ∧ m'.rd P.netDuplicates = (s.m.rd P.netDuplicates + 1) % 2 ^ 32
      ∧ Mod.Frame t [.net, .can, .free] (P.netDuplicates.addr :: netCounters) s.m m' := by
  have hrx : Mod.Within [] [P.netRxMsgs.addr, P.netDuplicates.addr] (s.m.at t) ((s.m.at t).inc P.netRxMsgs) := .inc _ _ _ _ _ (by decide)
  have hdup : Mod.Within [] [P.netRxMsgs.addr, P.netDuplicates.addr] (s.m.at t) (((s.m.at t).inc P.netRxMsgs).inc P.netDuplicates) :=
    hrx.trans (.inc _ _ _ _ _ (by decide))
  have hpost : Mod.Within [.net, .can, .free] [P.netTxMsgs.addr] (((s.m.at t).inc P.netRxMsgs).inc P.netDuplicates) (f (s.m.at t)) :=
    hf ▸ Mod.Within.post _ _ (by decide) (by decide) (by decide) (by decide)
  have hreach' : (((s.m.at t).inc P.netRxMsgs).inc P.netDuplicates).reaches o.tr = true :=
    (hdup.reaches_eq hs (by decide) (by decide) o.tr).trans hreach
  have hnet : (Mod.run t f s.m).net = { s.m.net with sent := s.m.net.sent ++ [o] } := by
    rw [Mod.run_net, hf, Mod.post_net hreach']
    rfl
  refine State.yields_run hexec ⟨hnet, ?_, ?_⟩
  · refine count_of_run (x := (s.m.at t).inc P.netRxMsgs) (hrx.wf hs) rfl (by decide) ?_ (Mod.rd_inc_other (m := s.m.at t) (by decide) 1)
    exact hpost.rd_eq (hdup.wf hs) (by decide) (by decide)
  · exact ((hdup.mono (by decide) (by decide)).trans (hpost.mono (by decide) (by decide)) :
      Mod.Within [.net, .can, .free] (P.netDuplicates.addr :: netCounters) (s.m.at t) (f (s.m.at t))).frame

end

/-- Settles O8: what is wrong with a message, in the order in which it is judged. -/
theorem wrongMessagesDiscarded : Obligations.WrongMessagesDiscarded := by
  unfold Obligations.WrongMessagesDiscarded
  refine ⟨fun counts p hp s t g htyp hs hcarried hcal => ?wrong, fun counts p hp s t g x htyp hs hcarried hcal hok hkind hsid hfound hopened htr
    hpeer htag => ?session⟩
  case wrong =>
    obtain ⟨cs, hexec⟩ := requestCommands_exec hp t g s
    have htaken := volron_takes (m := s.m.at t) (counts := cs) htyp hcarried hcal
    have hhello : g.typ ≠ 1 := htyp ▸ requestCommands_typ hp
    refine ⟨fun hbad => ?_, fun x hkind hsid hfound hopened hmagic hversion hlen hmax htag => ?_,
      fun x hkind hsid hfound hopened hmagic hversion hlen hmax hforeign => ?_⟩
    · have hnot : msgOk g = false := by
        simp only [msgOk, Bool.and_eq_false_iff, decide_eq_false_iff_not]
        omega
      exact tagFailed_yields hs hexec (htaken.trans (Mod.take_of_bad hnot))
    · have hok : msgOk g = true := by simp [msgOk, hmagic, hversion, hlen, hlen ▸ hmax]
      refine tagFailed_yields hs hexec (htaken.trans ((Mod.take_of_session hok hkind hhello hsid (m := (s.m.at t).inc P.netRxMsgs) hfound
        hopened).trans (Mod.sessionMsg_of_foreign (.inr (.inr (decide_eq_false htag))))))
    · have hok : msgOk g = true := by simp [msgOk, hmagic, hversion, hlen, hlen ▸ hmax]
      refine tagFailed_yields hs hexec (htaken.trans ((Mod.take_of_session hok hkind hhello hsid (m := (s.m.at t).inc P.netRxMsgs) hfound
        hopened).trans (Mod.sessionMsg_of_foreign (hforeign.imp_right .inl))))
  case session =>
    obtain ⟨cs, hexec⟩ := requestCommands_exec hp t g s
    have hhello : g.typ ≠ 1 := htyp ▸ requestCommands_typ hp
    have htaken := (volron_takes (m := s.m.at t) (counts := cs) htyp hcarried hcal).trans
      (Mod.take_of_session hok hkind hhello hsid (m := (s.m.at t).inc P.netRxMsgs) hfound hopened)
    refine ⟨fun e hcached hsame => ?_, fun q hnew hlast hlate => ?_⟩
    · have hreach : s.m.reaches e.2.tr = true := by
        rw [hsame, ← htr]
        exact Mod.reaches_of_carries hcarried
      exact repeated_yields hs hexec (htaken.trans (Mod.sessionMsg_of_repeat htr hpeer htag hcached)) hreach
    · exact net_yields hexec (htaken.trans (Mod.sessionMsg_of_late htr hpeer htag hnew hlast hlate)) rfl (.inc _ _ _ _ _ (by decide))

/-! ### Requests that a rule turns away (R369 to R374) -/

/-- A request that is answered by its STATUS alone, while nothing else of the module changed. -/
theorem refused_yields {s : State} {t st : Nat} {c : Instr} {f : Mod → Mod} {g : Msg} {x : Session} (h : s.Accepts g x)
    (hexec : exec c s = s.run t f) (hf : f (s.m.at t) = ((s.m.at t).accepting g x).reply x.id g.typ g.seq st []) :
    s.Yields c fun m' => Answered g x st [] s.m m' ∧ Mod.Frame t [.net, .can, .free] netCounters s.m m' :=
  State.yields_frame hexec (hf ▸ .acceptThenReply _ _ _) (answered_reply h t st [] (by rw [Mod.run_net, hf]))

theorem volron_refuses {s : State} {t st typ : Nat} {counts : List (Nat × Nat)} {g : Msg} {x : Session} (h : s.Accepts g x) (htyp : g.typ = typ)
    (hhello : typ ≠ 1) (hgate : s.m.gate x typ = some st) :
    volron typ counts g (s.m.at t) = ((s.m.at t).accepting g x).reply x.id typ g.seq st [] := by
  rw [volron_accepts h typ t counts htyp hhello, hgate]

/-- The gate's STATUS for a type that no rule defines. -/
theorem Mod.gate_of_undefined {m : Mod} {x : Session} {typ : Nat} (hundefined : typeDefined typ = false) (hauth : typ ≠ 3) :
    m.gate x typ = some (if m.netState = 3 ∨ typeUpdate typ = true then 2 else 4) := by
  have hfew : [0x0003, 0x0004, 0x0005, 0x0010, 0x0060].contains typ = false := by
    simp only [typeDefined, List.contains_eq_any_beq, List.any_cons, List.any_nil, Bool.or_eq_false_iff, beq_eq_false_iff_ne] at hundefined ⊢
    tauto
  unfold Mod.gate
  rw [hfew]
  by_cases hstate : m.netState = 3
  · simp [hstate, hundefined, hauth]
  · cases hupdate : typeUpdate typ <;> simp [hstate, hundefined, hauth]

/-- Settles O7: whatever the request, the gate is asked before its handler. -/
theorem refusedRequestsChangeNothing : Obligations.RefusedRequestsChangeNothing := by
  unfold Obligations.RefusedRequestsChangeNothing
  refine ⟨fun counts p hp s t g x st htyp h hgate => ?refused, fun s t g x h hundefined hhello hauth => ?unknown⟩
  case refused =>
    obtain ⟨cs, hexec⟩ := requestCommands_exec hp t g s
    refine refused_yields h hexec ?_
    rw [htyp]
    exact volron_refuses h htyp (requestCommands_typ hp) (htyp ▸ hgate)
  case unknown =>
    refine refused_yields (f := unknownType g) h rfl ?_
    have hreceive : unknownType g (s.m.at t) = volron g.typ [] g (s.m.at t) := by
      unfold unknownType volron
      rw [if_neg (by simp [hundefined, hhello, hauth]), if_pos rfl]
    rw [hreceive]
    exact volron_refuses h rfl hhello (Mod.gate_of_undefined hundefined hauth)

end Sys2Proof.Machine
end

section
/-!
PROOFS. Requests that read and requests that act on their session (R370, R375 to R387).
-/
namespace Sys2Proof.Machine

/-! ### What the implement bus rests on after a message has left (R366) -/

/-- Every channel's claim of an address stands. -/
def Mod.KeepsIso (a b : Mod) : Prop := ∀ ch, (b.canCh ch).iso = (a.canCh ch).iso

section
variable {a b c : Mod}

theorem Mod.KeepsIso.refl (a : Mod) : Mod.KeepsIso a a := fun _ => rfl

theorem Mod.KeepsIso.trans (h : Mod.KeepsIso a b) (k : Mod.KeepsIso b c) : Mod.KeepsIso a c := fun ch => (k ch).trans (h ch)

theorem Mod.KeepsIso.of_can (h : b.can = a.can) : Mod.KeepsIso a b := fun ch => by rw [Mod.canCh, h, Mod.canCh]

theorem Mod.KeepsIso.foldl {α : Type} {f : Mod → α → Mod} (hf : ∀ m x, Mod.KeepsIso m (f m x)) (l : List α) (m : Mod) :
    Mod.KeepsIso m (l.foldl f m) := by
  induction l generalizing m with
  | nil => exact .refl m
  | cons x r ih => exact (hf m x).trans (ih (f m x))

theorem Mod.KeepsIso.setCan (m : Mod) (ch : Nat) {g : CanCh → CanCh} (hg : ∀ c, (g c).iso = c.iso) : Mod.KeepsIso m (m.setCan ch g) := by
  intro k
  by_cases hk : k = ch
  · subst hk
    by_cases hin : k < m.can.ch.length
    · rw [Mod.canCh_setCan_same hin, hg]
    · have hsame : (m.setCan k g).can.ch = m.can.ch := updAt_of_le (Nat.not_lt.1 hin)
      rw [Mod.canCh, hsame, Mod.canCh]
  · rw [Mod.canCh_setCan_other hk]

theorem Mod.KeepsIso.canOffer (m : Mod) (ch : Nat) (f : CanTx) : Mod.KeepsIso m (m.canOffer ch f) := .setCan m ch (fun _ => rfl)

theorem Mod.KeepsIso.tpBegin (m : Mod) (ch peer : Nat) (bytes : List Byte) : Mod.KeepsIso m (m.tpBegin ch peer bytes) := by
  unfold Mod.tpBegin
  dsimp only
  split
  · exact (Mod.KeepsIso.canOffer _ _ _).trans (.foldl (fun _ _ => .canOffer _ _ _) _ _)
  · intro k
    refine (Mod.KeepsIso.canOffer _ ch _ k).trans (Mod.KeepsIso.setCan m ch ?_ k)
    exact fun _ => rfl

theorem Mod.KeepsIso.isoSend (m : Mod) (ch peer : Nat) (bytes : List Byte) : Mod.KeepsIso m (m.isoSend ch peer bytes) := by
  unfold Mod.isoSend
  dsimp only
  split
  · exact .refl m
  split
  · exact .canOffer _ _ _
  split
  · exact .setCan _ _ (fun _ => rfl)
  · exact .tpBegin _ _ _ _

theorem Mod.KeepsIso.canMessage (m : Mod) (ch n : Nat) (bytes : List Byte) : Mod.KeepsIso m (m.canMessage ch n bytes) :=
  (Mod.KeepsIso.of_can rfl).trans (.foldl (fun _ _ => .canOffer _ _ _) _ _)

theorem Mod.KeepsIso.post (m : Mod) (o : OutMsg) : Mod.KeepsIso m (m.post o) := by
  have hsent : Mod.KeepsIso m (({ m with net := { m.net with sent := m.net.sent ++ [o] } } : Mod).inc P.netTxMsgs) := .of_can rfl
  unfold Mod.post
  dsimp only
  split
  · exact .refl m
  split
  · exact hsent
  split
  · exact hsent.trans (.canMessage _ _ _ _)
  split
  · exact hsent.trans (.isoSend _ _ _ _)
  · exact hsent

end

/-- A message that has left leaves the transports as they are. -/
theorem Mod.reaches_post {m : Mod} (hwf : Store.wf m.regs = true) (o : OutMsg) (tr : Nat) : (m.post o).reaches tr = m.reaches tr := by
  have hwithin : Mod.Within [.net, .can, .free] [P.netTxMsgs.addr] m (m.post o) := .post _ _ (by decide) (by decide) (by decide) (by decide)
  have hplace : ∀ ch ∈ List.range 4, P.canCfg.addr ch ∉ [P.netTxMsgs.addr] ∧ P.canMode.addr ch ∉ [P.netTxMsgs.addr]
      ∧ P.canCfg.addr ch ≠ P.loopFlags.addr ∧ P.canMode.addr ch ≠ P.loopFlags.addr := by decide
  have hiso : (m.post o).isoCh = m.isoCh := List.find?_congr fun ch hmem => by
    obtain ⟨hcfg, hmode, hcfg', hmode'⟩ := hplace ch hmem
    rw [hwithin.rd_eq hwf hcfg hcfg', hwithin.rd_eq hwf hmode hmode']
  unfold Mod.reaches
  simp only [hiso, Mod.KeepsIso.post m o _]

/-! ### Answers -/

theorem Answered.congr {g : Msg} {x : Session} {st : Nat} {body : List Byte} {a b b' : Mod} (h : Answered g x st body a b)
    (hsent : b'.net.sent = b.net.sent) : Answered g x st body a b' := by
  obtain ⟨o, ho, hrest⟩ := h
  exact ⟨o, hsent.trans ho, hrest⟩

/-- An answer of a session that is as it was in what an answer shows. -/
theorem Mod.answered_of_session {a m : Mod} {g : Msg} {x y : Session} (st : Nat) (body : List Byte) (hfound : m.session? x.id = some y)
    (htr : y.tr = x.tr) (hpeer : y.peer = x.peer) (hkey : y.key = x.key) (hreach : m.reaches x.tr = true)
    (hsent : m.net.sent = a.net.sent) : Answered g x st body a (m.reply x.id g.typ g.seq st body) := by
  obtain ⟨o, ho, htyp, hkind, hsid, hseq, hotr, hopeer, hbody, htag⟩ :=
    Mod.reply_net m x.id g.typ g.seq st body hfound (htr ▸ hreach)
  exact ⟨o, hsent ▸ ho, htyp, hkind, hsid, hseq, hotr.trans htr, hopeer.trans hpeer, hbody, hkey ▸ htag⟩

/-- The session after its answer, which it keeps for repeats. -/
theorem Mod.reply_session {m : Mod} {sid typ seq st : Nat} {body : List Byte} {y : Session} (hfound : m.session? sid = some y)
    (hreach : m.reaches y.tr = true) : ∃ l, (m.reply sid typ seq st body).session? sid = some { y with cache := l } := by
  have hid := Mod.session?_id hfound
  obtain ⟨o, ho⟩ := Mod.reply_sessions m sid typ seq st body hfound hreach
  refine ⟨((seq, o) :: y.cache).take 16, ?_⟩
  have hset := Mod.session?_setSession m sid sid (fun z => { z with cache := ((seq, o) :: z.cache).take 16 }) (fun _ => rfl)
  rw [hfound, Option.map_some, if_pos hid] at hset
  rw [← hset]
  exact congrArg (List.find? (fun z => decide (z.id = sid))) ho

section
variable {s : State} {t st : Nat} {g : Msg} {x : Session} {c : Instr} {f : Mod → Mod} {body : List Byte}

theorem State.Accepts.reaches (h : s.Accepts g x) (t : Nat) : ((s.m.at t).accepting g x).reaches x.tr = true := by
  rw [Mod.reaches_accepting (m := s.m.at t) h.canonical, ← h.tr]
  exact Mod.reaches_of_carries (m := s.m.at t) h.carried

/-- A request that reads and finds what it asks for changes the session and the counters of messages alone. -/
theorem answered_yields (h : s.Accepts g x) (hexec : exec c s = s.run t f)
    (hf : f (s.m.at t) = ((s.m.at t).accepting g x).reply x.id g.typ g.seq st body) :
    s.Yields c fun m' => Answered g x st body s.m m' ∧ Mod.Frame t [.net, .can, .free] netCounters s.m m' :=
  State.yields_frame hexec (hf ▸ .acceptThenReply _ _ _) (answered_reply h t st body (by rw [Mod.run_net, hf]))

/-- The same through the handler of the request's type. -/
theorem read_yields {typ : Nat} (h : s.Accepts g x) (hgate : s.m.gate x g.typ = none) (htyp : g.typ = typ) (hhello : typ ≠ 1) (hbye : typ ≠ 4)
    (hexec : exec c s = s.run t (volron typ [] g))
    (hdone : handler [] typ x g.seq g.body ((s.m.at t).accepting g x) = (st, body, (s.m.at t).accepting g x)) :
    s.Yields c fun m' => Answered g x st body s.m m' ∧ Mod.Frame t [.net, .can, .free] netCounters s.m m' := by
  subst htyp
  exact answered_yields h hexec (volron_answers h rfl hhello hbye hgate hdone h.idle)

/-! ### Reads (R376, R379, R402) -/

/-- A read changes what it latches of the time alone. -/
theorem Mod.Within.readMany {as : List Area} {ws : List Nat} (m : Mod) (a n : Nat) (h : Area.time ∈ as) :
    Mod.Within as ws m (m.readMany a n).2 ∧ (m.readMany a n).2.net = m.net := by
  induction n generalizing m a with
  | zero => exact ⟨.refl m, rfl⟩
  | succ n ih =>
    have hone : Mod.Within as ws m (m.readAt a).2 ∧ (m.readAt a).2.net = m.net := by
      unfold Mod.readAt
      dsimp only
      split
      · exact ⟨.ofTime _ _ h, rfl⟩
      split
      · exact ⟨.ofTime _ _ h, rfl⟩
      · exact ⟨.refl m, rfl⟩
    obtain ⟨hwithin, hnet⟩ := ih (m.readAt a).2 (a + 4)
    exact ⟨hone.1.trans hwithin, hnet.trans hone.2⟩

/-- READ and CAL_READ answer with the words as they read at this instant. -/
theorem words_yields {typ a n : Nat} (h : s.Accepts g x) (hgate : s.m.gate x g.typ = none) (htyp : g.typ = typ) (hhello : typ ≠ 1) (hbye : typ ≠ 4)
    (hexec : exec c s = s.run t (volron typ [] g))
    (hdone : handler [] typ x g.seq g.body ((s.m.at t).accepting g x)
      = (0, leBytes 2 n ++ wordBytes (((s.m.at t).accepting g x).readMany a n).1, (((s.m.at t).accepting g x).readMany a n).2)) :
    s.Yields c fun m' => Answered g x 0 (leBytes 2 n ++ wordBytes (((s.m.at t).accepting g x).readMany a n).1) s.m m'
      ∧ Mod.Frame t [.net, .can, .free, .time] netCounters s.m m' := by
  subst htyp
  obtain ⟨hread, hnet⟩ := Mod.Within.readMany (as := [.time]) (ws := []) ((s.m.at t).accepting g x) a n (by decide)
  have hmean := volron_answers h rfl hhello hbye hgate hdone ((congrArg NetSt.cal hnet).trans h.idle)
  have haccept : Mod.Within [.net, .can, .free, .time] netCounters (s.m.at t) ((s.m.at t).accepting g x) :=
    .accepting _ _ _ (by decide) (by decide)
  have hreach : ((((s.m.at t).accepting g x).readMany a n).2).reaches x.tr = true :=
    (hread.reaches_eq (haccept.wf h.canonical) (by decide) (by decide) _).trans (h.reaches t)
  have hfound : ((((s.m.at t).accepting g x).readMany a n).2).session? x.id = some { x with lastSeq := some g.seq, lastMsg := (s.m.at t).now } :=
    (congrArg (fun l : NetSt => l.sessions.find? (fun z : Session => decide (z.id = x.id))) hnet).trans (Mod.accepting_session (m := s.m.at t) h.found)
  refine State.yields_frame hexec ?_ ?_
  · rw [hmean]
    exact (haccept.trans (hread.mono (by decide) (by decide))).trans (.reply _ _ _ _ _ _ (by decide) (by decide) (by decide) (by decide))
  · refine (Mod.answered_of_session 0 _ hfound rfl rfl rfl hreach (congrArg NetSt.sent hnet)).congr ?_
    rw [Mod.run_net, hmean]

end

/-- Settles O6: each request by what its handler gives, the module being as the acceptance left it. -/
theorem readingRequestsAnswered : Obligations.ReadingRequestsAnswered := by
  unfold Obligations.ReadingRequestsAnswered
  intro s t g x h hgate n a m1
  refine ⟨fun htyp hbody => ?ping, fun htyp hlen hmin hmax hreadable => ?read, fun htyp hlen hmin hmax hlow hhigh hreadable => ?calRead,
    fun htyp hlen hrecipe => ?tally, fun htyp hlen hmin hmax hlast => ?map, fun htyp hlen hmin hmax hholds => ?window,
    fun htyp hlen hregion => ?status⟩
  case ping =>
    exact read_yields h hgate htyp (by decide) (by decide) rfl (if_pos (by rw [hbody]; rfl))
  case read =>
    have hcount : ¬ (n = 0 ∨ 256 < n) := by omega
    refine words_yields (a := a) (n := n) h hgate htyp (by decide) (by decide) rfl ?_
    simp [handler, msgRead, hlen, n, a, m1, hcount, hreadable]
  case calRead =>
    have hcount : ¬ (n = 0 ∨ 256 < n) := by omega
    refine words_yields (a := a) (n := n) h hgate htyp (by decide) (by decide) rfl ?_
    simp [handler, msgRead, hlen, n, a, m1, hcount, hreadable, hlow, hhigh]
  case tally =>
    refine read_yields h hgate htyp (by decide) (by decide) rfl ?_
    simp only [handler, msgTally, hlen, Nat.not_lt.2 hrecipe, ne_eq, not_true_eq_false, if_false]
    rfl
  case map =>
    have hcount : ¬ (leAt g.body 2 2 = 0 ∨ 22 < leAt g.body 2 2 ∨ 65536 < leAt g.body 0 2 + leAt g.body 2 2) := by omega
    refine read_yields h hgate htyp (by decide) (by decide) rfl ?_
    simp only [handler, msgMap, hlen, ne_eq, not_true_eq_false, if_false, Bool.or_eq_true, decide_eq_true_eq, or_assoc, hcount]
    rfl
  case window =>
    have hcount : ¬ (n = 0 ∨ 44 < n) := by omega
    have hholds' : ((s.m.at t).accepting g x).log.holds (leAt g.body 0 4) = true := hholds
    refine read_yields h hgate htyp (by decide) (by decide) rfl ?_
    simp only [handler, msgWindow, hlen, ne_eq, not_true_eq_false, if_false, Bool.or_eq_true, decide_eq_true_eq, n] at hcount ⊢
    rw [if_neg hcount, if_pos hholds']
    rfl
  case status =>
    refine read_yields h hgate htyp (by decide) (by decide) rfl ?_
    simp only [handler, Sys2Proof.Machine.updateStatus, hlen, ne_eq, not_true_eq_false, if_false, Nat.not_le.2 hregion]
    rfl

end Sys2Proof.Machine
end

section
/-!
PROOFS. Requests that act on their session (R370, R380, R385, R387): BYE, the two subscriptions, STREAM_RESEND.
-/
namespace Sys2Proof.Machine

/-! ### A session closes (R370, R435) -/

section
variable {as : List Area} {ws : List Nat}

theorem Mod.Within.setRegion (m : Mod) (r : Nat) (f : Region → Region) (h : Area.nv ∈ as) : Mod.Within as ws m (m.setRegion r f) := .ofNv m _ h

theorem Mod.Within.updateEnds (m : Mod) (r cause : Nat) (hn : Area.nv ∈ as) (ht : Area.toll ∈ as) :
    Mod.Within as ws m (m.updateEnds r cause) :=
  ((Mod.Within.unask m _ ht).trans (.setRegion _ _ _ hn)).trans (.raise _ _ _ _)

theorem Mod.Within.updatesClose (m : Mod) (sid : Nat) (hn : Area.nv ∈ as) (ht : Area.toll ∈ as) : Mod.Within as ws m (m.updatesClose sid) := by
  refine .foldl (fun m r => ?_) _ m
  split
  · exact .updateEnds m r 2 hn ht
  · exact .refl m

end

/-- Closing a session takes it from the table and changes nothing else of the network. -/
theorem Mod.closeSession_net (m : Mod) (sid cause : Nat) :
    (m.closeSession sid cause).net = { m.net with sessions := m.net.sessions.filter (fun y => y.id ≠ sid) } :=
  (Mod.Within.updatesClose (as := [.nv, .toll]) (ws := []) (m.dropSession sid) sid (by decide) (by decide)).areas .net (by decide)

theorem Mod.Within.closeSession {as : List Area} {ws : List Nat} (m : Mod) (sid cause : Nat) (h : Area.net ∈ as) (hn : Area.nv ∈ as)
    (ht : Area.toll ∈ as) : Mod.Within as ws m (m.closeSession sid cause) :=
  ((Mod.Within.ofNet m _ h).trans (.updatesClose _ _ hn ht)).trans (.raise _ _ _ _)

theorem Mod.session?_of_filtered {m : Mod} {sid : Nat} {l : List Session} (h : m.net.sessions = l.filter (fun y => y.id ≠ sid)) :
    m.session? sid = none := by
  unfold Mod.session?
  rw [h]
  refine List.find?_eq_none.2 (fun y hy hid => ?_)
  have hne := (List.mem_filter.1 hy).2
  simp_all

/-! ### Sessions that their request changes -/

section
variable {s : State} {t : Nat} {g : Msg} {x : Session} {c : Instr}

/-- A request that changes its session alone: it is answered, and the session stands as changed, but for the replies that it keeps. -/
theorem sessionChange_yields {typ : Nat} {F : Session → Session} (h : s.Accepts g x) (hgate : s.m.gate x g.typ = none) (htyp : g.typ = typ)
    (hhello : typ ≠ 1) (hbye : typ ≠ 4) (hexec : exec c s = s.run t (volron typ [] g))
    (hF : ∀ y, (F y).id = y.id ∧ (F y).tr = y.tr ∧ (F y).peer = y.peer ∧ (F y).key = y.key)
    (hdone : handler [] typ x g.seq g.body ((s.m.at t).accepting g x) = (0, [], ((s.m.at t).accepting g x).setSession x.id F)) :
    s.Yields c fun m' => Answered g x 0 [] s.m m'
      ∧ (∃ l, m'.session? x.id = some { F { x with lastSeq := some g.seq, lastMsg := (s.m.at t).now } with cache := l })
      ∧ Mod.Frame t [.net, .can, .free] netCounters s.m m' := by
  subst htyp
  let y : Session := { x with lastSeq := some g.seq, lastMsg := (s.m.at t).now }
  have hmean := volron_answers h rfl hhello hbye hgate hdone h.idle
  obtain ⟨-, htr, hpeer, hkey⟩ := hF y
  have hfound : (((s.m.at t).accepting g x).setSession x.id F).session? x.id = some (F y) := by
    rw [Mod.session?_setSession _ _ _ _ (fun z => (hF z).1), Mod.accepting_session (m := s.m.at t) h.found]
    exact congrArg some (if_pos rfl)
  have hreach : (((s.m.at t).accepting g x).setSession x.id F).reaches x.tr = true := h.reaches t
  obtain ⟨l, hsession⟩ := Mod.reply_session (typ := g.typ) (seq := g.seq) (st := 0) (body := []) hfound (htr ▸ hreach)
  refine State.yields_run (f := volron g.typ [] g) hexec ⟨?_, ⟨l, ?_⟩, ?_⟩
  · refine (Mod.answered_of_session 0 [] hfound htr hpeer hkey hreach rfl).congr ?_
    rw [Mod.run_net, hmean]
  · have hnet : (Mod.run t (volron g.typ [] g) s.m).net
        = ((((s.m.at t).accepting g x).setSession x.id F).reply x.id g.typ g.seq 0 []).net := (Mod.run_net _ _ _).trans (congrArg Mod.net hmean)
    exact (congrArg (fun n : NetSt => n.sessions.find? (fun z : Session => decide (z.id = x.id))) hnet).trans hsession
  · have hwithin : Mod.Within [.net, .can, .free] netCounters (s.m.at t) (volron g.typ [] g (s.m.at t)) := by
      rw [hmean]
      exact ((Mod.Within.accepting _ _ _ (by decide) (by decide)).trans (.setSession _ _ _ (by decide))).trans
        (.reply _ _ _ _ _ _ (by decide) (by decide) (by decide) (by decide))
    exact hwithin.frame

/-- A message that is held goes out once more, before the answer. -/
theorem resend_yields {o : OutMsg} (h : s.Accepts g x) (hgate : s.m.gate x g.typ = none) (htyp : g.typ = 0x0052) (htr : o.tr = x.tr)
    (hdone : handler [] 0x0052 x g.seq g.body ((s.m.at t).accepting g x) = (0, [], ((s.m.at t).accepting g x).post o)) :
    s.Yields (.streamResend t g) fun m' =>
      (∃ r : OutMsg, m'.net.sent = s.m.net.sent ++ [o, r] ∧ r.typ = g.typ ∧ r.kind = 1 ∧ r.sid = x.id ∧ r.seq = g.seq
        ∧ r.body = leBytes 2 0)
      ∧ Mod.Frame t [.net, .can, .free] netCounters s.m m' := by
  have hreach : ((s.m.at t).accepting g x).reaches o.tr = true := htr ▸ h.reaches t
  have haccept : Mod.Within [.net, .can, .free] netCounters (s.m.at t) ((s.m.at t).accepting g x) := .accepting _ _ _ (by decide) (by decide)
  have hpost := Mod.post_net hreach
  have hmean := volron_answers h htyp (by decide) (by decide) (htyp ▸ hgate) hdone ((congrArg NetSt.cal hpost).trans h.idle)
  have hfound : (((s.m.at t).accepting g x).post o).session? x.id = some { x with lastSeq := some g.seq, lastMsg := (s.m.at t).now } :=
    (congrArg (fun n : NetSt => n.sessions.find? (fun z : Session => decide (z.id = x.id))) hpost).trans
      (Mod.accepting_session (m := s.m.at t) h.found)
  have hreach' : (((s.m.at t).accepting g x).post o).reaches x.tr = true :=
    (Mod.reaches_post (haccept.wf h.canonical) o x.tr).trans (h.reaches t)
  obtain ⟨r, hsent, hrtyp, hkind, hsid, hseq, -, -, hbody, -⟩ := Mod.reply_net _ x.id 0x0052 g.seq 0 [] hfound hreach'
  refine State.yields_frame (f := volron 0x0052 [] g) rfl ?_ ⟨r, ?_, hrtyp.trans htyp.symm, hkind, hsid, hseq, hbody.trans (List.append_nil _)⟩
  · rw [hmean]
    exact (haccept.trans (.post _ _ (by decide) (by decide) (by decide) (by decide))).trans
      (.reply _ _ _ _ _ _ (by decide) (by decide) (by decide) (by decide))
  · rw [Mod.run_net, hmean, hsent, hpost]
    exact List.append_assoc _ _ _

end

/-- The session after EVENT_SUBSCRIBE (R385). -/
def Session.subscribed (mask maxPrio : Nat) (x : Session) : Session :=
  { x with sub := if mask = 0 then none else some { mask := mask, maxPrio := maxPrio }, buf := [], lost := 0,
           msgNo := if mask = 0 then x.msgNo else 0 }

/-- The session after FRAME_SUBSCRIBE (R380). -/
def Session.framed (mask : Nat) (x : Session) : Session := { x with frames := mask }

/-- Settles O10: each request by what it makes of the session, or by the held message that it asks for. -/
theorem sessionRequestsTakeEffect : Obligations.SessionRequestsTakeEffect := by
  unfold Obligations.SessionRequestsTakeEffect
  intro s t g x h hgate
  refine ⟨fun htyp hbody => ?bye, fun htyp hlen => ?events, fun htyp hlen hmask => ?frames, fun htyp hlen hnone => ?gone,
    fun o htyp hlen hheld htr => ?again⟩
  case bye =>
    have hmean : volron 0x0004 [] g (s.m.at t) = (((s.m.at t).accepting g x).reply x.id g.typ g.seq 0 []).closeSession x.id 1 := by
      have hcal : ((s.m.at t).accepting g x).net.cal = none := h.idle
      have hgate' : s.m.gate x 0x0004 = none := htyp ▸ hgate
      rw [volron_accepts h 0x0004 t [] htyp (by decide), hgate']
      simp [handler, hbody, hcal, htyp]
    have hnet := Mod.closeSession_net (((s.m.at t).accepting g x).reply x.id g.typ g.seq 0 []) x.id 1
    refine State.yields_run (f := volron 0x0004 [] g) rfl ⟨?_, ?_, ?_⟩
    · refine Mod.session?_of_filtered (l := (((s.m.at t).accepting g x).reply x.id g.typ g.seq 0 []).net.sessions) ?_
      rw [Mod.run_net, hmean, hnet]
    · refine (answered_reply (m' := ((s.m.at t).accepting g x).reply x.id g.typ g.seq 0 []) h t 0 [] rfl).congr ?_
      rw [Mod.run_net, hmean, hnet]
    · have hwithin : Mod.Within [.net, .can, .free, .nv, .toll] netCounters (s.m.at t) (volron 0x0004 [] g (s.m.at t)) := by
        rw [hmean]
        exact (Mod.Within.acceptThenReply g.typ 0 []).mono (by decide) (List.Subset.refl _) |>.trans
          (.closeSession _ _ _ (by decide) (by decide) (by decide))
      exact hwithin.frame
  case events =>
    obtain ⟨m', hexec, hanswer, ⟨l, hsession⟩, hframe⟩ := sessionChange_yields (t := t) (c := .eventSubscribe t g)
      (F := Session.subscribed (leVal (g.body.take 16)) (leAt g.body 16 1)) h hgate htyp (by decide) (by decide) rfl
      (fun _ => ⟨rfl, rfl, rfl, rfl⟩) (if_neg (by simp [hlen]))
    exact ⟨m', hexec, hanswer, ⟨_, hsession, rfl, rfl, rfl, fun hmask => if_neg hmask, rfl⟩, hframe⟩
  case frames =>
    have hdone : handler [] 0x0058 x g.seq g.body ((s.m.at t).accepting g x)
        = (0, [], ((s.m.at t).accepting g x).setSession x.id (Session.framed (leAt g.body 0 1))) := by
      simp only [handler, msgFrames, hlen, Nat.not_lt.2 hmask, ne_eq, not_true_eq_false, if_false]
      rfl
    obtain ⟨m', hexec, hanswer, ⟨l, hsession⟩, hframe⟩ := sessionChange_yields (t := t) (c := .frameSubscribe t g)
      (F := Session.framed (leAt g.body 0 1)) h hgate htyp (by decide) (by decide) rfl
      (fun _ => ⟨rfl, rfl, rfl, rfl⟩) hdone
    exact ⟨m', hexec, hanswer, ⟨_, hsession, rfl, rfl, rfl⟩, hframe⟩
  case gone =>
    refine read_yields h hgate htyp (by decide) (by decide) rfl ?_
    simp only [handler, streamResend, hlen, ne_eq, not_true_eq_false, if_false, hnone]
  case again =>
    refine resend_yields h hgate htyp htr ?_
    simp only [handler, streamResend, hlen, ne_eq, not_true_eq_false, if_false, hheld]

end Sys2Proof.Machine
end

section
/-!
PROOFS. HELLO, AUTH and the timers of sessions (R369 to R371).
-/
namespace Sys2Proof.Machine

/-! ### HELLO -/

section
variable {s : State} {t : Nat} {g : Msg}

theorem Mod.helloCheck_inc (m : Mod) (tr peer slot role : Nat) :
    (m.inc P.netRxMsgs).helloCheck tr peer slot role = m.helloCheck tr peer slot role := by
  have hread : (m.inc P.netRxMsgs).rd P.netSvcAnywhere = m.rd P.netSvcAnywhere := Mod.rd_inc_other (by decide) 1
  unfold Mod.helloCheck
  rw [hread]
  rfl

/-- A message of type HELLO is taken as one. -/
theorem volron_hello (hcarried : s.m.carries g.tr = true) (hcal : s.m.net.cal = none) (hok : msgOk g = true) (hkind : g.kind = 0)
    (htyp : g.typ = 1) : volron 0x0001 [] g (s.m.at t) = ((s.m.at t).inc P.netRxMsgs).hello g := by
  refine (volron_takes (m := s.m.at t) htyp hcarried hcal).trans ?_
  unfold Mod.take
  rw [hok]
  simp only [hkind, htyp, Bool.not_true, Bool.false_eq_true, if_false, if_true, ne_eq, not_true_eq_false]

/-- The untagged reply to a message, outside any session (R367, R369). -/
def bareMsg (g : Msg) (body : List Byte) : OutMsg :=
  { tr := g.tr, peer := g.peer, typ := g.typ, kind := 1, sid := 0, seq := g.seq, body := body, tag := [] }

theorem Mod.bareReply_net {m : Mod} (body : List Byte) (hreach : m.reaches g.tr = true) :
    (m.bareReply g 0 body).net = { m.net with sent := m.net.sent ++ [bareMsg g body] } := Mod.post_net (o := bareMsg g body) hreach

theorem Mod.Within.bareReply {as : List Area} {ws : List Nat} (m : Mod) (body : List Byte) (h : Area.can ∈ as) (k : Area.free ∈ as)
    (n : Area.net ∈ as) (w : P.netTxMsgs.addr ∈ ws) : Mod.Within as ws m (m.bareReply g 0 body) := .post m (bareMsg g body) h k n w

/-- A bare reply to a message that has just come leaves, whatever else changed than the CAN channels and the parameters. -/
theorem reaches_of_received (hs : s.Canonical) (hcarried : s.m.carries g.tr = true) : ((s.m.at t).inc P.netRxMsgs).reaches g.tr = true :=
  ((Mod.Within.inc (as := []) (ws := [P.netRxMsgs.addr]) (s.m.at t) P.netRxMsgs 0 1 0 (by decide)).reaches_eq hs (by decide) (by decide) g.tr).trans
    (Mod.reaches_of_carries (m := s.m.at t) hcarried)

/-- The pending session that an accepted HELLO opens (R369, R443). -/
def Mod.pendingSession (m : Mod) (g : Msg) (key : List Byte) : Session :=
  let sid := 1 + Config.domeSession m.nv.draws % (2 ^ 32 - 1)
  let nm := padTo 16 (Config.domeRandom m.nv.draws)
  let nc := (g.body.drop 4).take 16
  { idx := m.freeSlot, id := sid, opened := false, slot := leAt g.body 0 1, role := leAt g.body 1 1, tr := g.tr, peer := g.peer,
    key := Config.hmacSha256 key (ascii "VOLRON-S" ++ nc ++ nm ++ leBytes 4 sid), nonceC := nc, nonceM := nm, since := m.now, lastMsg := m.now }

/-- The module with a pending session more, whose nonce and number the dome has drawn. -/
def Mod.withPending (m : Mod) (x : Session) : Mod :=
  { m.domeDraw.2 with net := { m.net with sessions := m.net.sessions ++ [x] } }

/-- The body of CHALLENGE. -/
def Session.challenge (x : Session) : List Byte := leBytes 2 0 ++ leBytes 2 0 ++ leBytes 4 x.id ++ x.nonceM

theorem Mod.hello_of_ok {m : Mod} {key : List Byte} (hlen : g.body.length = 20)
    (hcheck : m.helloCheck g.tr g.peer (leAt g.body 0 1) (leAt g.body 1 1) = .ok key) :
    m.hello g = (m.withPending (m.pendingSession g key)).bareReply g 0 (m.pendingSession g key).challenge := by
  unfold Mod.hello
  simp only [hlen, ne_eq, not_true_eq_false, if_false, hcheck]
  rfl

theorem Mod.hello_of_error {m : Mod} {st : Nat} (hlen : g.body.length = 20)
    (hcheck : m.helloCheck g.tr g.peer (leAt g.body 0 1) (leAt g.body 1 1) = .error st) :
    m.hello g = (if st = 16 then m.raise 117 0x091B (leBytes 1 g.tr) else m).bareReply g 0
      (leBytes 2 st ++ leBytes 2 0 ++ leBytes 4 0 ++ List.replicate 16 0) := by
  unfold Mod.hello
  simp only [hlen, ne_eq, not_true_eq_false, if_false, hcheck]

end

/-! ### AUTH -/

section
variable {s : State} {t : Nat} {g : Msg} {x : Session}

/-- AUTH of a pending session from the session's own address, in its 5 s. -/
theorem volron_auth (hcarried : s.m.carries g.tr = true) (hcal : s.m.net.cal = none) (hok : msgOk g = true) (hkind : g.kind = 0)
    (htyp : g.typ = 3) (hfound : s.m.session? g.sid = some x) (hpending : x.opened = false) (htr : g.tr = x.tr) (hpeer : g.peer = x.peer)
    (hintime : (s.m.at t).now ≤ x.since + 5 * 10 ^ 9) :
    volron 0x0003 [] g (s.m.at t) = ((s.m.at t).inc P.netRxMsgs).auth g x := by
  refine (volron_takes (m := s.m.at t) htyp hcarried hcal).trans ?_
  have hfound' : ((s.m.at t).inc P.netRxMsgs).session? g.sid = some x := hfound
  unfold Mod.take
  rw [hok, hfound']
  simp only [hkind, htyp, hpending, htr, hpeer, hintime, Bool.not_true, Bool.false_eq_true, if_false, ne_eq, not_true_eq_false,
    Bool.and_false, decide_false, Bool.or_self, Bool.and_self, decide_true, if_true, Nat.reduceEqDiff]

/-- What a failed AUTH leaves (R371): the sessions and what was sent, and of the parameters NET_FLAGS alone. -/
theorem Mod.authFailed_net (m : Mod) (tr peer : Nat) :
    (m.authFailed tr peer).net.sessions = m.net.sessions ∧ (m.authFailed tr peer).net.sent = m.net.sent := by
  unfold Mod.authFailed
  dsimp only
  split <;> exact ⟨rfl, rfl⟩

theorem Mod.rd_authFailed_other {m : Mod} {p : Param} (tr peer : Nat) (hp : p.addr ≠ P.netFlags.addr) :
    (m.authFailed tr peer).rd p = m.rd p := by
  unfold Mod.authFailed
  dsimp only
  rw [Mod.rd_raise, Mod.rd_flag_other hp]
  rfl

theorem Mod.Within.authFailed {as : List Area} {ws : List Nat} (m : Mod) (tr peer : Nat) (h : Area.net ∈ as) (hw : P.netFlags.addr ∈ ws) :
    Mod.Within as ws m (m.authFailed tr peer) :=
  ((Mod.Within.ofNet m _ h).trans (.flag _ _ _ _ hw)).trans (.raise _ _ _ _)

/-- A session opens (R369). -/
def Session.openedBy (g : Msg) (now : Nat) (x : Session) : Session := { x with opened := true, lastMsg := now, lastSeq := some g.seq }

/-- What a session proves, and what the module proves in turn. -/
def Session.proof (x : Session) : List Byte := padTo 16 (Config.hmacSha256 x.key (ascii "VOLRON-C" ++ x.nonceC ++ x.nonceM))
def Session.counterProof (x : Session) : List Byte := padTo 16 (Config.hmacSha256 x.key (ascii "VOLRON-M" ++ x.nonceC ++ x.nonceM))

variable {m : Mod}

theorem Mod.auth_of_badTag (htag : msgTagOk g x = false) :
    m.auth g x = (((m.dropSession x.id).inc P.netTagFails).authFailed x.tr x.peer).raise 117 0x0919 (leBytes 4 x.id ++ leBytes 1 3) := by
  unfold Mod.auth
  rw [htag]
  rfl

theorem Mod.auth_of_wrong (htag : msgTagOk g x = true) (hwrong : g.body ≠ x.proof) :
    m.auth g x = ((m.reply x.id 0x0003 g.seq 15 (leBytes 2 0 ++ List.replicate 16 0)).dropSession x.id).authFailed x.tr x.peer := by
  unfold Mod.auth
  rw [htag]
  exact if_pos hwrong

theorem Mod.auth_of_right (htag : msgTagOk g x = true) (hright : g.body = x.proof) :
    m.auth g x = ((m.setSession x.id (Session.openedBy g m.now)).reply x.id 0x0003 g.seq 0 (leBytes 2 0 ++ x.counterProof)).raise 117 0x0918
      (leBytes 4 x.id ++ leBytes 1 x.role ++ leBytes 1 x.tr) := by
  unfold Mod.auth
  rw [htag]
  exact if_neg (not_not_intro hright)

end

/-- Settles O13: HELLO by what its check gives, AUTH by its tag and its proof, each timer by what it times. -/
theorem helloAndAuthOpenSessions : Obligations.HelloAndAuthOpenSessions := by
  unfold Obligations.HelloAndAuthOpenSessions
  refine ⟨fun s t g hs hcarried hcal hok hkind htyp hlen => ?hello,
    fun s t g x hs hcarried hcal hok hkind htyp hfound hpending htr hpeer hintime => ?auth, fun s t i x hfind hlate hwaits => ?timeout,
    fun s t i x hfind hlate => ?idle, fun s t tr addr => ?lockout⟩
  case hello =>
    intro slot role n sid nm nc o x
    have ho : ∀ b, o b = bareMsg g b := fun b => by simp only [o, bareMsg, htyp]
    have htaken := volron_hello (t := t) hcarried hcal hok hkind htyp
    have hreach := reaches_of_received (t := t) hs hcarried
    have hrx : Mod.Within [.net, .nv, .can, .free] netCounters (s.m.at t) ((s.m.at t).inc P.netRxMsgs) := .inc _ _ _ _ _ (by decide)
    refine ⟨fun key hcheck => ?_, fun st hcheck => ?_⟩
    · have hmean := htaken.trans (Mod.hello_of_ok (m := (s.m.at t).inc P.netRxMsgs) hlen ((Mod.helloCheck_inc _ _ _ _ _).trans hcheck))
      have hpost := Mod.bareReply_net (m := ((s.m.at t).inc P.netRxMsgs).withPending (((s.m.at t).inc P.netRxMsgs).pendingSession g key))
        (((s.m.at t).inc P.netRxMsgs).pendingSession g key).challenge hreach
      have hdraw : Mod.Within [.net, .nv, .can, .free] netCounters ((s.m.at t).inc P.netRxMsgs)
          (((s.m.at t).inc P.netRxMsgs).withPending (((s.m.at t).inc P.netRxMsgs).pendingSession g key)) :=
        (Mod.Within.ofNv _ _ (by decide)).trans (.ofNet _ _ (by decide))
      have hreply : Mod.Within [.net, .can, .free] netCounters
          (((s.m.at t).inc P.netRxMsgs).withPending (((s.m.at t).inc P.netRxMsgs).pendingSession g key)) (volron 0x0001 [] g (s.m.at t)) :=
        hmean ▸ Mod.Within.bareReply _ _ (by decide) (by decide) (by decide) (by decide)
      have hnet : (Mod.run t (volron 0x0001 [] g) s.m).net = _ := (Mod.run_net _ _ _).trans ((congrArg Mod.net hmean).trans hpost)
      refine State.yields_run (f := volron 0x0001 [] g) rfl ⟨congrArg NetSt.sessions hnet, ?_, ?_,
        ((hrx.trans hdraw).trans (hreply.mono (by decide) (List.Subset.refl _))).frame⟩
      · refine (congrArg NetSt.sent hnet).trans ?_
        exact congrArg (fun o => s.m.net.sent ++ [o]) (ho (x key).challenge).symm
      · have hnv := hreply.areas .nv (by decide)
        have hrun := Mod.run_nv t (volron 0x0001 [] g) s.m
        rw [hrun, hnv]
        rfl
    · have hmean := htaken.trans (Mod.hello_of_error (m := (s.m.at t).inc P.netRxMsgs) hlen ((Mod.helloCheck_inc _ _ _ _ _).trans hcheck))
      let y : Mod := if st = 16 then ((s.m.at t).inc P.netRxMsgs).raise 117 0x091B (leBytes 1 g.tr) else (s.m.at t).inc P.netRxMsgs
      have hy : y.net = s.m.net ∧ y.reaches g.tr = true ∧ Mod.Within [.net, .can, .free] netCounters (s.m.at t) y := by
        have hrx' : Mod.Within [.net, .can, .free] netCounters (s.m.at t) ((s.m.at t).inc P.netRxMsgs) := .inc _ _ _ _ _ (by decide)
        by_cases hfull : st = 16
        · rw [show y = ((s.m.at t).inc P.netRxMsgs).raise 117 0x091B (leBytes 1 g.tr) from if_pos hfull]
          exact ⟨rfl, hreach, hrx'.trans (.raise _ _ _ _)⟩
        · rw [show y = (s.m.at t).inc P.netRxMsgs from if_neg hfull]
          exact ⟨rfl, hreach, hrx'⟩
      obtain ⟨hynet, hyreach, hywithin⟩ := hy
      have hpost := Mod.bareReply_net (m := y) (leBytes 2 st ++ leBytes 2 0 ++ leBytes 4 0 ++ List.replicate 16 0) hyreach
      have hnet : (Mod.run t (volron 0x0001 [] g) s.m).net = _ := (Mod.run_net _ _ _).trans ((congrArg Mod.net hmean).trans hpost)
      have hwithin : Mod.Within [.net, .can, .free] netCounters (s.m.at t) (volron 0x0001 [] g (s.m.at t)) :=
        hmean ▸ hywithin.trans (Mod.Within.bareReply _ _ (by decide) (by decide) (by decide) (by decide))
      refine State.yields_run (f := volron 0x0001 [] g) rfl ⟨?_, ?_, hwithin.frame⟩
      · rw [hnet, hynet]
      · rw [hnet, hynet, ho]
  case auth =>
    intro proof
    have htaken := volron_auth (t := t) hcarried hcal hok hkind htyp hfound hpending htr hpeer hintime
    have hid := Mod.session?_id hfound
    have hfound' : ((s.m.at t).inc P.netRxMsgs).session? x.id = some x := hid ▸ hfound
    have hreach := reaches_of_received (t := t) hs hcarried
    rw [htr] at hreach
    refine ⟨fun htag hright => ?_, fun htag hwrong => ?_, fun htag => ?_⟩
    · have hmean := htaken.trans (Mod.auth_of_right (m := (s.m.at t).inc P.netRxMsgs) htag hright)
      have hopen : (((s.m.at t).inc P.netRxMsgs).setSession x.id (Session.openedBy g (s.m.at t).now)).session? x.id
          = some (x.openedBy g (s.m.at t).now) := by
        rw [Mod.session?_setSession _ _ _ (Session.openedBy g (s.m.at t).now) (fun _ => rfl), hfound']
        exact congrArg some (if_pos rfl)
      have hwithin : Mod.Within [.net, .can, .free] netCounters (s.m.at t) (volron 0x0003 [] g (s.m.at t)) := by
        rw [hmean]
        exact (((Mod.Within.inc _ _ _ _ _ (by decide)).trans (.setSession _ _ _ (by decide))).trans
          (.reply _ _ _ _ _ _ (by decide) (by decide) (by decide) (by decide))).trans (.raise _ _ _ _)
      have hnet : (Mod.run t (volron 0x0003 [] g) s.m).net = (((((s.m.at t).inc P.netRxMsgs).setSession x.id
          (Session.openedBy g (s.m.at t).now)).reply x.id g.typ g.seq 0 (leBytes 2 0 ++ x.counterProof))).net := by
        rw [Mod.run_net, hmean, htyp]
        rfl
      obtain ⟨l, hsession⟩ := Mod.reply_session (typ := g.typ) (seq := g.seq) (st := 0) (body := leBytes 2 0 ++ x.counterProof) hopen hreach
      refine State.yields_run (f := volron 0x0003 [] g) rfl ⟨⟨{ x.openedBy g (s.m.at t).now with cache := l },
        (congrArg (fun n : NetSt => n.sessions.find? (fun z : Session => decide (z.id = x.id))) hnet).trans hsession,
        rfl, rfl, rfl, rfl, rfl, rfl, rfl⟩, ?_, hwithin.frame⟩
      exact (Mod.answered_of_session 0 _ hopen rfl rfl rfl hreach rfl).congr (congrArg NetSt.sent hnet)
    · have hmean := htaken.trans (Mod.auth_of_wrong (m := (s.m.at t).inc P.netRxMsgs) htag hwrong)
      obtain ⟨hsessions, hsent⟩ := Mod.authFailed_net ((((s.m.at t).inc P.netRxMsgs).reply x.id 0x0003 g.seq 15
        (leBytes 2 0 ++ List.replicate 16 0)).dropSession x.id) x.tr x.peer
      have hwithin : Mod.Within [.net, .can, .free] (P.netFlags.addr :: netCounters) (s.m.at t) (volron 0x0003 [] g (s.m.at t)) := by
        rw [hmean]
        exact (((Mod.Within.inc _ _ _ _ _ (by decide)).trans (.reply _ _ _ _ _ _ (by decide) (by decide) (by decide) (by decide))).trans
          (.ofNet _ _ (by decide))).trans (.authFailed _ _ _ (by decide) (by decide))
      refine State.yields_run (f := volron 0x0003 [] g) rfl ⟨?_, ?_, hwithin.frame⟩
      · refine Mod.session?_of_filtered (l := (((s.m.at t).inc P.netRxMsgs).reply x.id 0x0003 g.seq 15
          (leBytes 2 0 ++ List.replicate 16 0)).net.sessions) ?_
        rw [Mod.run_net, hmean, hsessions]
        rfl
      · refine (Mod.answered_of_session (m := (s.m.at t).inc P.netRxMsgs) 15 _ hfound' rfl rfl rfl hreach rfl).congr ?_
        rw [Mod.run_net, hmean, hsent, htyp]
        rfl
    · have hmean := htaken.trans (Mod.auth_of_badTag (m := (s.m.at t).inc P.netRxMsgs) htag)
      obtain ⟨hsessions, hsent⟩ := Mod.authFailed_net ((((s.m.at t).inc P.netRxMsgs).dropSession x.id).inc P.netTagFails) x.tr x.peer
      have hdropped : Mod.Within [.net] [P.netRxMsgs.addr] (s.m.at t) (((s.m.at t).inc P.netRxMsgs).dropSession x.id) :=
        (Mod.Within.inc _ _ _ _ _ (by decide)).trans (.ofNet _ _ (by decide))
      have hwithin : Mod.Within [.net] [P.netRxMsgs.addr, P.netTagFails.addr, P.netFlags.addr] (s.m.at t) (volron 0x0003 [] g (s.m.at t)) := by
        rw [hmean]
        exact (((hdropped.mono (by decide) (by decide)).trans (.inc _ _ _ _ _ (by decide))).trans
          (.authFailed _ _ _ (by decide) (by decide))).trans (.raise _ _ _ _)
      refine State.yields_run (f := volron 0x0003 [] g) rfl ⟨?_, ?_, ?_, hwithin.frame⟩
      · refine Mod.session?_of_filtered (l := s.m.net.sessions) ?_
        rw [Mod.run_net, hmean]
        exact hsessions
      · rw [Mod.run_net, hmean]
        exact hsent
      · refine count_of_run (x := ((s.m.at t).inc P.netRxMsgs).dropSession x.id) (hdropped.wf hs) rfl (by decide) ?_
          (Mod.rd_inc_other (m := s.m.at t) (by decide) 1)
        rw [hmean, Mod.rd_raise, Mod.rd_authFailed_other _ _ (by decide)]
  case timeout =>
    refine net_yields (f := authTimeout i) rfl (x := (s.m.at t).dropSession x.id) ?_ rfl (.ofNet _ _ (by decide))
    have hwaits' : (s.m.at t).authWaits x = false := hwaits
    unfold authTimeout
    rw [show (s.m.at t).net.sessions.find? (fun y => decide (y.idx = i) && !y.opened) = some x from hfind]
    exact if_pos (by rw [decide_eq_true hlate, hwaits']; rfl)
  case idle =>
    refine net_yields (f := sessionIdleTimeout i) rfl (x := (s.m.at t).closeSession x.id 2) ?_ (Mod.closeSession_net _ _ _)
      (.closeSession _ _ _ (by decide) (by decide) (by decide))
    unfold sessionIdleTimeout
    rw [show (s.m.at t).net.sessions.find? (fun y => decide (y.idx = i) && y.opened) = some x from hfind]
    exact if_pos hlate
  case lockout =>
    exact net_yields (f := authLockoutEnd tr addr) rfl rfl rfl (.ofNet _ _ (by decide))

end Sys2Proof.Machine
end

section
/-!
PROOFS. Updates of the flash regions and the provisioning of the dome (R426 to R435, R444 to R447).
-/
namespace Sys2Proof.Machine

/-! ### Requests that act on the store or the toll gate alone -/

section
variable {s : State} {t typ st : Nat} {g : Msg} {x : Session} {body : List Byte} {m2 : Mod} {as as' : List Area} {ws ws' : List Nat}

/-- A request whose handler keeps the network and the CAN channels is answered, and leaves the store as its handler does. -/
theorem acted_run (h : s.Accepts g x) (hgate : s.m.gate x g.typ = none) (htyp : g.typ = typ) (hhello : typ ≠ 1) (hbye : typ ≠ 4)
    (hdone : handler [] typ x g.seq g.body ((s.m.at t).accepting g x) = (st, body, m2))
    (hwithin : Mod.Within as ws ((s.m.at t).accepting g x) m2) (hcan : Area.can ∉ as) (hnet : Area.net ∉ as)
    (hwords : ∀ ch ∈ List.range 4, P.canCfg.addr ch ∉ ws ∧ P.canMode.addr ch ∉ ws)
    (has : Area.net ∈ as' ∧ Area.can ∈ as' ∧ Area.free ∈ as' ∧ as ⊆ as') (hws : netCounters ⊆ ws' ∧ ws ⊆ ws') :
    Answered g x st body s.m (Mod.run t (volron typ [] g) s.m)
      ∧ (∃ l, (Mod.run t (volron typ [] g) s.m).nv = { m2.nv with slots := l })
      ∧ Mod.Frame t as' ws' s.m (Mod.run t (volron typ [] g) s.m) := by
  subst htyp
  obtain ⟨hnet', hcan', hfree', has⟩ := has
  obtain ⟨hcounters, hws⟩ := hws
  have haccept : Mod.Within as' ws' (s.m.at t) ((s.m.at t).accepting g x) := .accepting _ _ _ hnet' (hcounters (by decide))
  have hsame : m2.net = ((s.m.at t).accepting g x).net := hwithin.areas .net hnet
  have hmean := volron_answers h rfl hhello hbye hgate hdone ((congrArg NetSt.cal hsame).trans h.idle)
  have hreach : m2.reaches x.tr = true :=
    (hwithin.reaches_eq ((Mod.Within.accepting (as := [.net]) (ws := [P.netRxMsgs.addr]) (s.m.at t) g x (by decide) (by decide)).wf h.canonical)
      hcan hwords x.tr).trans (h.reaches t)
  have hfound : m2.session? x.id = some { x with lastSeq := some g.seq, lastMsg := (s.m.at t).now } :=
    (congrArg (fun n : NetSt => n.sessions.find? (fun z : Session => decide (z.id = x.id))) hsame).trans
      (Mod.accepting_session (m := s.m.at t) h.found)
  have hreply : Mod.Within as' ws' m2 (volron g.typ [] g (s.m.at t)) :=
    hmean ▸ Mod.Within.reply _ _ _ _ _ _ hcan' hfree' hnet' (hcounters (by decide))
  have hstore : Mod.Within [.net, .can, .free] netCounters m2 (volron g.typ [] g (s.m.at t)) :=
    hmean ▸ Mod.Within.reply _ _ _ _ _ _ (by decide) (by decide) (by decide) (by decide)
  refine ⟨?_, ⟨(Mod.run t (volron g.typ [] g) s.m).nv.slots, ?_⟩, ((haccept.trans (hwithin.mono has hws)).trans hreply).frame⟩
  · refine (Mod.answered_of_session st body hfound rfl rfl rfl hreach (congrArg NetSt.sent hsame)).congr ?_
    rw [Mod.run_net, hmean]
  · have hnv := hstore.areas .nv (by decide)
    have hrun := Mod.run_nv t (volron g.typ [] g) s.m
    rw [hnv] at hrun
    exact hrun

end

/-! ### Provisioning (R444, R447) -/

/-- The body of PROVISION_INFO's answer. -/
def Mod.provisionBody (m : Mod) (nonce : List Byte) : List Byte :=
  leBytes 8 m.nv.serial ++ nonce ++ padTo 64 ((m.nv.dome.identity.map (·.2)).getD []) ++ leBytes 4 m.nv.dome.provCount

theorem provisionInfo_eq (m : Mod) : provisionInfo [] m =
    (0, m.provisionBody (padTo 16 (Config.domeRandom m.nv.draws)),
      m.domeDraw.2.setDome (fun d => { d with nonce := some (padTo 16 (Config.domeRandom m.nv.draws)) })) := rfl

theorem provision_of_error {m : Mod} {b : List Byte} {reason : Nat} (hlen : b.length = 1128) (h : m.tokenCheck b = .error reason) :
    provision b m = (11, reasonBytes reason ++ leBytes 4 m.nv.dome.provCount, (m.flag P.secFlags 2).raise 123 0x0A53 (leBytes 1 reason)) := by
  unfold provision
  rw [if_neg (by simp [hlen]), h]

/-- The module with an accepted token committed. -/
def Mod.provisioned (m : Mod) (b pl : List Byte) : Mod := m.setDome (fun d => d.provision ((leAt b 6 2).testBit 0) pl)

theorem provision_of_ok {m : Mod} {b pl : List Byte} (hlen : b.length = 1128) (h : m.tokenCheck b = .ok pl) :
    provision b m = (0, reasonBytes 0 ++ leBytes 4 (m.provisioned b pl).nv.dome.provCount,
      (m.provisioned b pl).raise 123 0x0A52 (leBytes 4 (m.provisioned b pl).nv.dome.provCount)) := by
  unfold provision
  rw [if_neg (by simp [hlen]), h]
  rfl

/-- Settles O16: PROVISION_INFO by its draw, PROVISION by what the checks of its token give. -/
theorem provisioningTakesEffect : Obligations.ProvisioningTakesEffect := by
  unfold Obligations.ProvisioningTakesEffect
  intro s t g x h hgate
  refine ⟨fun htyp hbody => ?info, fun pl htyp hlen hok => ?commit, fun reason htyp hlen herror => ?refused⟩
  case info =>
    intro nonce
    have hdone : handler [] 0x0090 x g.seq g.body ((s.m.at t).accepting g x) = _ :=
      (congrArg (fun b => provisionInfo b ((s.m.at t).accepting g x)) hbody).trans (provisionInfo_eq _)
    obtain ⟨hanswer, ⟨l, hnv⟩, hframe⟩ := acted_run (as := [.nv]) (ws := []) (as' := [.net, .can, .free, .nv]) (ws' := netCounters) h hgate htyp
      (by decide) (by decide) hdone ((Mod.Within.ofNv _ _ (by decide)).trans (.ofNv _ _ (by decide))) (by decide) (by decide) (by decide)
      (by decide) (by decide)
    exact State.yields_run (f := volron 0x0090 [] g) rfl ⟨hanswer, congrArg Nv.dome hnv, congrArg Nv.draws hnv, hframe⟩
  case commit =>
    have hdone : handler [] 0x0091 x g.seq g.body ((s.m.at t).accepting g x) = _ := provision_of_ok hlen hok
    obtain ⟨hanswer, ⟨l, hnv⟩, hframe⟩ := acted_run (as := [.nv]) (ws := []) (as' := [.net, .can, .free, .nv]) (ws' := netCounters) h hgate htyp
      (by decide) (by decide) hdone ((Mod.Within.ofNv _ _ (by decide)).trans (.raise _ _ _ _)) (by decide) (by decide) (by decide)
      (by decide) (by decide)
    refine State.yields_run (f := volron 0x0091 [] g) rfl ⟨?_, congrArg Nv.dome hnv, (congrArg Nv.draws hnv).trans rfl, hframe⟩
    rw [congrArg Nv.dome hnv]
    exact hanswer
  case refused =>
    have hdone : handler [] 0x0091 x g.seq g.body ((s.m.at t).accepting g x) = _ := provision_of_error hlen herror
    obtain ⟨hanswer, -, hframe⟩ := acted_run (as := []) (ws := [P.secFlags.addr]) (as' := [.net, .can, .free])
      (ws' := P.secFlags.addr :: netCounters) h hgate htyp (by decide) (by decide) hdone
      ((Mod.Within.flag _ _ _ _ (by decide)).trans (.raise _ _ _ _)) (by decide) (by decide) (by decide) (by decide) (by decide)
    exact State.yields_run (f := volron 0x0091 [] g) rfl ⟨hanswer, hframe⟩

end Sys2Proof.Machine
end

section
/-!
PROOFS. Updates (R429 to R435): the four requests and the two ends of a flash operation, each by what it leaves of its region.
-/
namespace Sys2Proof.Machine

/-! ### Regions -/

section
variable {m : Mod} {r : Nat}

theorem Mod.region_setRegion (hr : r < m.nv.regions.length) (f : Region → Region) : (m.setRegion r f).region r = f (m.region r) :=
  getD_updAt_same hr

theorem Mod.region_setRegion_other {k : Nat} (hk : k ≠ r) (f : Region → Region) : (m.setRegion r f).region k = m.region k :=
  getD_updAt_other hk.symm

theorem Mod.setRegion_length (f : Region → Region) : (m.setRegion r f).nv.regions.length = m.nv.regions.length := length_updAt ..

/-- Asking for the next operation leaves the regions. -/
theorem Mod.flashNext_eq (m : Mod) (r : Nat) : m.flashNext r = { m with toll := (m.flashNext r).toll } := by
  unfold Mod.flashNext
  split
  · rfl
  · unfold Mod.ask
    split <;> rfl

theorem Mod.nv_flashNext (m : Mod) (r : Nat) : (m.flashNext r).nv = m.nv := by rw [Mod.flashNext_eq]

theorem Mod.region_flashNext (m : Mod) (r k : Nat) : (m.flashNext r).region k = m.region k := by rw [Mod.flashNext_eq]; rfl

theorem Mod.region_updateEnds (hr : r < m.nv.regions.length) (cause : Nat) : (m.updateEnds r cause).region r =
    { m.region r with
      st := if cause = 3 then 5 else if (m.region r).touched then 1 else (m.region r).before, hdr := [], owner := 0,
      stale := (m.region r).op.isSome, hashed := false,
      buf := if (m.region r).op = some true && !(m.region r).hashed then (m.region r).buf.take 1024 else [],
      reason := if cause = 3 then 7 else (m.region r).reason } := Mod.region_setRegion (m := m.unask (.flash r)) hr _

theorem Mod.region_updateEnds_other {k : Nat} (hk : k ≠ r) (cause : Nat) : (m.updateEnds r cause).region k = m.region k :=
  Mod.region_setRegion_other (m := m.unask (.flash r)) hk _

end

theorem Mod.Within.flashNext {as : List Area} {ws : List Nat} (m : Mod) (r : Nat) (h : Area.toll ∈ as) : Mod.Within as ws m (m.flashNext r) := by
  rw [Mod.flashNext_eq]
  exact .ofToll _ _ h

/-- The regions after a command are those of its meaning. -/
theorem Mod.region_run {t k : Nat} {f : Mod → Mod} {m x : Mod} (hf : f (m.at t) = x) : (Mod.run t f m).region k = x.region k := by
  have hrun := Mod.run_nv t f m
  rw [hf] at hrun
  rw [Mod.region, hrun, Mod.region]

theorem one_sub_ne {r : Nat} (hr : r < 2) : 1 - r ≠ r := by omega

/-! ### The requests (R429 to R434) -/

section
variable {sid : Nat} {b : List Byte} {m : Mod}

/-- The region of an update that opens (R429). -/
def Region.opened (h : List Byte) (sid : Nat) (g : Region) : Region :=
  { g with before := g.st, st := 2, touched := false, hdr := h, buf := if g.op.isSome then g.buf else [], ofs := 160, len := leAt h 8 4,
           prog := 1024, erasedBlocks := 0, hashed := false, ended := false, owner := sid }

theorem updateBegin_of_ok (hr : leAt b 0 1 < 2) (hlen : b.length = 164) (hidle : (m.region (leAt b 0 1)).busy = false)
    (hcheck : (if leAt b 0 1 = 0 then checkFirmware m (b.drop 4) else checkHead m (b.drop 4)) = .ok ()) :
    updateBegin sid b m = (0, [0, 0], (m.setRegion (leAt b 0 1) (Region.opened (b.drop 4) sid)).raise 121 0x0A20
      (leBytes 1 (leAt b 0 1) ++ leBytes 4 (leAt (b.drop 4) 8 4))) := by
  unfold updateBegin
  dsimp only
  rw [if_neg (by simp [hlen]), if_neg (Nat.not_le.2 hr), if_neg (by simp [hidle]), hcheck]
  rfl

/-- The region with `d` taken at its offset (R431). -/
def Region.taking (d : List Byte) (g : Region) : Region :=
  { g with hdr := g.hdr ++ d.take (1024 - g.ofs), buf := g.buf ++ d.drop (1024 - g.ofs), ofs := g.ofs + d.length }

theorem updateData_of_ok (hr : leAt b 0 1 < 2) (hin : leAt b 0 1 < m.nv.regions.length) 
    (hlen : b.length = 8 + leAt b 2 2) (hbusy : (m.region (leAt b 0 1)).busy = true) (hown : (m.region (leAt b 0 1)).owner = sid)
    (hstale : (m.region (leAt b 0 1)).stale = false) (hofs : leAt b 4 4 = (m.region (leAt b 0 1)).ofs)
    (hend : (m.region (leAt b 0 1)).ofs + leAt b 2 2 ≤ (m.region (leAt b 0 1)).len) (hfour : 4 ≤ leAt b 2 2) (hkilo : leAt b 2 2 ≤ 1024)
    (hwords : leAt b 2 2 % 4 = 0 ∨ (m.region (leAt b 0 1)).ofs + leAt b 2 2 = (m.region (leAt b 0 1)).len)
    (hroom : (m.region (leAt b 0 1)).buf.length + leAt b 2 2 ≤ 65536) :
    updateData sid b m = (0, [0, 0] ++ leBytes 4 ((m.region (leAt b 0 1)).ofs + leAt b 2 2),
      (m.setRegion (leAt b 0 1) (Region.taking (b.drop 8))).flashNext (leAt b 0 1)) := by
  generalize hg : m.region (leAt b 0 1) = e at *
  generalize hn : leAt b 2 2 = n at *
  have hdata : (b.drop 8).length = n := by rw [List.length_drop]; omega
  have hset : m.setRegion (leAt b 0 1) (Region.taking (b.drop 8)) = m.setRegion (leAt b 0 1) (fun g =>
      { g with hdr := g.hdr ++ (b.drop 8).take (1024 - e.ofs), buf := g.buf ++ (b.drop 8).drop (1024 - e.ofs), ofs := e.ofs + n }) := by
    have hregion : m.nv.regions[leAt b 0 1]? = some e := by
      rw [← hg, Mod.region, List.getD_eq_getElem _ _ hin, List.getElem?_eq_getElem hin]
    simp only [Mod.setRegion, updAt, List.modify_eq_set_getElem?, hregion, Region.taking, hdata, Option.map_eq_map, Option.map_some, Option.getD_some]
  have hrest : ((b.drop 8).drop (1024 - e.ofs)).length ≤ n := by rw [List.length_drop]; omega
  have hafter : (((m.setRegion (leAt b 0 1) (Region.taking (b.drop 8))).flashNext (leAt b 0 1)).region (leAt b 0 1)).ofs = e.ofs + n := by
    rw [Mod.region_flashNext, Mod.region_setRegion hin, hg, Region.taking, hdata]
  unfold updateData
  dsimp only
  rw [hn, hg, if_neg (by simp only [hdata, Bool.or_eq_true, decide_eq_true_eq]; omega), if_neg (Nat.not_le.2 hr), if_neg (by simp [hbusy]),
    if_neg (not_not_intro hown), if_neg (by simp only [Bool.or_eq_true, Bool.and_eq_true, decide_eq_true_eq]; omega),
    hofs, if_neg (by simp only [hstale, Bool.false_or, decide_eq_true_eq]; omega), ← hset, hafter]
  rfl

/-- The region of an update that ends its data (R432). -/
def Region.ending (g : Region) : Region := { g with st := 3, ended := true }

theorem updateEnd_of_ok (hr : leAt b 0 1 < 2) (hlen : b.length = 4) (hbusy : (m.region (leAt b 0 1)).busy = true)
    (hown : (m.region (leAt b 0 1)).owner = sid) (hall : (m.region (leAt b 0 1)).ofs = (m.region (leAt b 0 1)).len) :
    updateEnd sid b m = (0, [0, 0], (m.setRegion (leAt b 0 1) Region.ending).flashNext (leAt b 0 1)) := by
  unfold updateEnd
  dsimp only
  rw [if_neg (not_not_intro hlen), if_neg (Nat.not_le.2 hr), if_neg (by simp [hbusy]), if_neg (not_not_intro hown), if_neg (not_not_intro hall)]
  rfl

theorem updateAbort_of_ok (hr : leAt b 0 1 < 2) (hlen : b.length = 4) (hbusy : (m.region (leAt b 0 1)).busy = true)
    (hown : (m.region (leAt b 0 1)).owner = sid) : updateAbort sid b m = (0, [0, 0], m.updateEnds (leAt b 0 1) 1) := by
  unfold updateAbort
  dsimp only
  rw [if_neg (not_not_intro hlen), if_neg (Nat.not_le.2 hr), if_neg (by simp [hbusy]), if_neg (not_not_intro hown)]

end

/-! ### Flash operations (R426, R431, R432) -/

section
variable {m : Mod} {r : Nat} {prog : Bool}

/-- A region whose operation has ended, with the bytes that it leaves. -/
def Region.operated (bytes : List Byte) (g : Region) : Region := { g with op := none, stale := false, bytes := bytes }

/-- The module with the region's grant ended and its operation ended. -/
def Mod.operated (m : Mod) (r : Nat) (bytes : List Byte) : Mod := (m.endGrant (.flash r)).setRegion r (Region.operated bytes)

/-- The bytes that an operation leaves (R426). -/
def Region.after (prog : Bool) (g : Region) : List Byte := if prog then flashPut g.bytes g.opAt g.page else flashErase g.bytes g.opAt

def Region.emptied (g : Region) : Region := { g with buf := [] }
def Region.completed (g : Region) : Region := { g with st := 4, cut := false, hashed := false, hdr := [], owner := 0 }
def Region.programmed (g : Region) : Region := { g with prog := g.prog + 1024, buf := g.buf.drop 1024 }
def Region.blockErased (g : Region) : Region := { g with erasedBlocks := g.erasedBlocks + 1 }

/-- What an operation that ended well makes of the rest of its region. -/
def Region.wellEnded (prog : Bool) (g : Region) : Region → Region :=
  if g.stale then Region.emptied else if g.hashed then Region.completed else if prog then Region.programmed else Region.blockErased

theorem flashOperationComplete_of_well (hop : (m.region r).op = some prog) : ∃ b : Mod,
    flashOperationComplete r true m = b ∧ b.nv = ((m.operated r ((m.region r).after prog)).setRegion r ((m.region r).wellEnded prog)).nv
      ∧ Mod.Within [.nv, .toll] [] m b := by
  have hoperated : Mod.Within [.nv, .toll] [] m (m.operated r ((m.region r).after prog)) :=
    (Mod.Within.endGrant _ _ (by decide)).trans (.setRegion _ _ _ (by decide))
  refine ⟨_, rfl, ?_⟩
  unfold flashOperationComplete Region.wellEnded
  dsimp only
  rw [hop]
  dsimp only
  by_cases hstale : (m.region r).stale = true
  · rw [if_pos hstale, if_pos hstale]
    exact ⟨Mod.nv_flashNext _ r, (hoperated.trans (.setRegion _ _ _ (by decide))).trans (.flashNext _ _ (by decide))⟩
  rw [if_neg hstale, if_neg hstale, if_neg (by decide)]
  by_cases hhashed : (m.region r).hashed = true
  · rw [if_pos hhashed, if_pos hhashed]
    exact ⟨rfl, (hoperated.trans (.setRegion _ _ _ (by decide))).trans (.raise _ _ _ _)⟩
  rw [if_neg hhashed, if_neg hhashed]
  cases prog
  · simp only [Bool.false_eq_true, if_false]
    exact ⟨Mod.nv_flashNext _ r, (hoperated.trans (.setRegion _ _ _ (by decide))).trans (.flashNext _ _ (by decide))⟩
  · simp only [if_true]
    exact ⟨Mod.nv_flashNext _ r, (hoperated.trans (.setRegion _ _ _ (by decide))).trans (.flashNext _ _ (by decide))⟩

theorem flashOperationComplete_of_failed (hop : (m.region r).op = some prog) (hstale : (m.region r).stale = false) :
    flashOperationComplete r false m = ((m.operated r (m.region r).bytes).flag P.secFlags 1).updateEnds r 3 := by
  unfold flashOperationComplete
  dsimp only
  rw [hop]
  dsimp only
  rw [if_neg (by simp [hstale])]
  rfl

theorem Mod.region_operated (hr : r < m.nv.regions.length) (bytes : List Byte) : (m.operated r bytes).region r = (m.region r).operated bytes :=
  Mod.region_setRegion (m := m.endGrant (.flash r)) hr _

theorem Mod.region_operated_other {k : Nat} (hk : k ≠ r) (bytes : List Byte) : (m.operated r bytes).region k = m.region k :=
  Mod.region_setRegion_other (m := m.endGrant (.flash r)) hk _

theorem Mod.region_wellEnded {b : Mod} (hr : r < m.nv.regions.length)
    (hnv : b.nv = ((m.operated r ((m.region r).after prog)).setRegion r ((m.region r).wellEnded prog)).nv) :
    b.region r = (m.region r).wellEnded prog ((m.region r).operated ((m.region r).after prog))
      ∧ ∀ k, k ≠ r → b.region k = m.region k := by
  have hsame : ∀ k, b.region k = ((m.operated r ((m.region r).after prog)).setRegion r ((m.region r).wellEnded prog)).region k := fun k =>
    congrArg (fun n : Nv => n.regions.getD k {}) hnv
  have hr' : r < (m.operated r ((m.region r).after prog)).nv.regions.length :=
    hr.trans_eq (Mod.setRegion_length (m := m.endGrant (.flash r)) _).symm
  refine ⟨?_, fun k hk => ?_⟩
  · rw [hsame, Mod.region_setRegion hr', Mod.region_operated hr]
  · rw [hsame, Mod.region_setRegion_other hk, Mod.region_operated_other hk]

/-- Whatever follows, the bytes stand as the operation left them, and none runs. -/
theorem Region.wellEnded_bytes (g h : Region) (prog : Bool) :
    (g.wellEnded prog h).bytes = h.bytes ∧ (g.wellEnded prog h).op = h.op ∧ (g.wellEnded prog h).stale = h.stale := by
  unfold Region.wellEnded
  split
  · exact ⟨rfl, rfl, rfl⟩
  split
  · exact ⟨rfl, rfl, rfl⟩
  split <;> exact ⟨rfl, rfl, rfl⟩

end

/-! ### Read-back hashing (R432) -/

def Region.matched (g : Region) : Region := { g with hashed := true }
def Region.mismatched (g : Region) : Region := { g with st := 5, reason := 6, hdr := [], owner := 0 }

theorem updateVerifyComplete_of_idle {m : Mod} {r : Nat} (hst : (m.region r).st = 3) (hop : (m.region r).op = none)
    (hneed : (m.region r).need = none) : updateVerifyComplete r m =
    if Config.sha256 (m.region r).bodyRead = ((m.region r).hdr.drop 0x28).take 32 then (m.setRegion r Region.matched).flashNext r
    else ((m.setRegion r Region.mismatched).flag P.secFlags 1).raise 121 0x0A23 (leBytes 1 r ++ leBytes 1 6) := by
  unfold updateVerifyComplete
  dsimp only
  rw [if_pos (by simp [hst, hop, hneed])]
  rfl

/-- A region whose hash has matched asks for its header page. -/
theorem Mod.asking_flashNext {m : Mod} {r : Nat} (hst : (m.region r).st = 3) (hop : (m.region r).op = none) (hhashed : (m.region r).hashed = true)
    (hofs : 160 < (m.region r).ofs) : (m.flashNext r).asking (.flash r) = true := by
  have hneed : (m.region r).need = some true := by
    unfold Region.need Region.busy
    rw [if_neg (by simp [hst]; omega), if_pos hhashed]
  unfold Mod.flashNext
  rw [if_neg (by simp [hop, hneed])]
  exact Mod.asking_ask _ _ _ _ _ _

/-! ### The obligation -/

theorem State.Yields.imp {s : State} {c : Instr} {P Q : Mod → Prop} (h : s.Yields c P) (himp : ∀ m', P m' → Q m') : s.Yields c Q := by
  obtain ⟨m', hexec, hm⟩ := h
  exact ⟨m', hexec, himp m' hm⟩

/-- The slots of the store say nothing of its regions. -/
theorem Mod.region_of_slots {m x : Mod} (h : ∃ l, x.nv = { m.nv with slots := l }) (k : Nat) : x.region k = m.region k := by
  obtain ⟨l, hl⟩ := h
  exact (congrArg (fun n : Nv => n.regions.getD k {}) hl).trans rfl

section
variable {s : State} {t : Nat} {g : Msg} {x : Session}

theorem updateBegin_yields (h : s.Accepts g x) (hgate : s.m.gate x g.typ = none) (hr : leAt g.body 0 1 < 2)
    (hin : leAt g.body 0 1 < s.m.nv.regions.length) (htyp : g.typ = 0x0080) (hlen : g.body.length = 164)
    (hidle : (s.m.region (leAt g.body 0 1)).busy = false)
    (hcheck : (if leAt g.body 0 1 = 0 then checkFirmware ((s.m.at t).accepting g x) (g.body.drop 4)
      else checkHead ((s.m.at t).accepting g x) (g.body.drop 4)) = .ok ()) :
    s.Yields (.updateBegin t g) fun m' => Answered g x 0 [0, 0] s.m m'
      ∧ m'.region (leAt g.body 0 1) = (s.m.region (leAt g.body 0 1)).opened (g.body.drop 4) x.id
      ∧ m'.region (1 - leAt g.body 0 1) = s.m.region (1 - leAt g.body 0 1) ∧ Mod.Frame t [.net, .can, .free, .nv] netCounters s.m m' := by
  have hdone : handler [] 0x0080 x g.seq g.body ((s.m.at t).accepting g x) = _ := updateBegin_of_ok hr hlen hidle hcheck
  obtain ⟨hanswer, hslots, hframe⟩ := acted_run (as := [.nv]) (ws := []) (as' := [.net, .can, .free, .nv]) (ws' := netCounters) h hgate htyp
    (by decide) (by decide) hdone ((Mod.Within.setRegion _ _ _ (by decide)).trans (.raise _ _ _ _)) (by decide) (by decide) (by decide)
    (by decide) (by decide)
  exact State.yields_run (f := volron 0x0080 [] g) rfl ⟨hanswer,
    (Mod.region_of_slots hslots _).trans (Mod.region_setRegion (m := (s.m.at t).accepting g x) hin _),
    (Mod.region_of_slots hslots _).trans (Mod.region_setRegion_other (m := (s.m.at t).accepting g x) (one_sub_ne hr) _), hframe⟩

/-- A request that changes its region by `f` and asks for the next flash operation. -/
theorem updating_yields {typ : Nat} {c : Instr} {body : List Byte} {f : Region → Region} (h : s.Accepts g x) (hgate : s.m.gate x g.typ = none)
    (hr : leAt g.body 0 1 < 2) (hin : leAt g.body 0 1 < s.m.nv.regions.length) (htyp : g.typ = typ) (hhello : typ ≠ 1) (hbye : typ ≠ 4)
    (hexec : exec c s = s.run t (volron typ [] g))
    (hdone : handler [] typ x g.seq g.body ((s.m.at t).accepting g x)
      = (0, body, (((s.m.at t).accepting g x).setRegion (leAt g.body 0 1) f).flashNext (leAt g.body 0 1))) :
    s.Yields c fun m' => Answered g x 0 body s.m m' ∧ m'.region (leAt g.body 0 1) = f (s.m.region (leAt g.body 0 1))
      ∧ m'.region (1 - leAt g.body 0 1) = s.m.region (1 - leAt g.body 0 1)
      ∧ Mod.Frame t [.net, .can, .free, .nv, .toll] netCounters s.m m' := by
  obtain ⟨hanswer, hslots, hframe⟩ := acted_run (as := [.nv, .toll]) (ws := []) (as' := [.net, .can, .free, .nv, .toll]) (ws' := netCounters) h
    hgate htyp hhello hbye hdone ((Mod.Within.setRegion _ _ _ (by decide)).trans (.flashNext _ _ (by decide))) (by decide) (by decide)
    (by decide) (by decide) (by decide)
  exact State.yields_run hexec ⟨hanswer,
    (Mod.region_of_slots hslots _).trans ((Mod.region_flashNext _ _ _).trans (Mod.region_setRegion (m := (s.m.at t).accepting g x) hin _)),
    (Mod.region_of_slots hslots _).trans ((Mod.region_flashNext _ _ _).trans
      (Mod.region_setRegion_other (m := (s.m.at t).accepting g x) (one_sub_ne hr) _)), hframe⟩

theorem updateAbort_yields (h : s.Accepts g x) (hgate : s.m.gate x g.typ = none) (hr : leAt g.body 0 1 < 2)
    (htyp : g.typ = 0x0083) (hlen : g.body.length = 4)
    (hbusy : (s.m.region (leAt g.body 0 1)).busy = true) (hown : (s.m.region (leAt g.body 0 1)).owner = x.id) :
    s.Yields (.updateAbort t g) fun m' => Answered g x 0 [0, 0] s.m m'
      ∧ m'.region (leAt g.body 0 1) = (((s.m.at t).accepting g x).updateEnds (leAt g.body 0 1) 1).region (leAt g.body 0 1)
      ∧ m'.region (1 - leAt g.body 0 1) = s.m.region (1 - leAt g.body 0 1)
      ∧ Mod.Frame t [.net, .can, .free, .nv, .toll] netCounters s.m m' := by
  have hdone : handler [] 0x0083 x g.seq g.body ((s.m.at t).accepting g x) = _ := updateAbort_of_ok hr hlen hbusy hown
  obtain ⟨hanswer, hslots, hframe⟩ := acted_run (as := [.nv, .toll]) (ws := []) (as' := [.net, .can, .free, .nv, .toll]) (ws' := netCounters) h
    hgate htyp (by decide) (by decide) hdone (.updateEnds _ _ _ (by decide) (by decide)) (by decide) (by decide)
    (by decide) (by decide) (by decide)
  exact State.yields_run (f := volron 0x0083 [] g) rfl ⟨hanswer, Mod.region_of_slots hslots _,
    (Mod.region_of_slots hslots _).trans (Mod.region_updateEnds_other (m := (s.m.at t).accepting g x) (one_sub_ne hr) 1), hframe⟩

end

section
variable {s : State} {t r : Nat}

theorem flashWell_yields {prog : Bool} (hr : r < 2) (hin : r < s.m.nv.regions.length) (hop : (s.m.region r).op = some prog) :
    s.Yields (.flashOperationComplete t r true) fun m' =>
      m'.region r = (s.m.region r).wellEnded prog ((s.m.region r).operated ((s.m.region r).after prog))
        ∧ m'.region (1 - r) = s.m.region (1 - r) ∧ Mod.Frame t [.nv, .toll] [] s.m m' := by
  obtain ⟨b, hf, hnv, hwithin⟩ := flashOperationComplete_of_well (m := s.m.at t) hop
  obtain ⟨hsame, hother⟩ := Mod.region_wellEnded (m := s.m.at t) hin hnv
  exact State.yields_run (f := flashOperationComplete r true) rfl ⟨(Mod.region_run hf).trans hsame,
    (Mod.region_run hf).trans (hother _ (one_sub_ne hr)), Mod.Within.frame (hf ▸ hwithin)⟩

/-- A region whose operation has failed (R435). -/
def Region.failed (g : Region) : Region :=
  { g with st := 5, hdr := [], owner := 0, stale := false, hashed := false, op := none, buf := [], reason := 7 }

theorem flashFailed_yields {prog : Bool} (hr : r < 2) (hin : r < s.m.nv.regions.length) (hop : (s.m.region r).op = some prog)
    (hstale : (s.m.region r).stale = false) :
    s.Yields (.flashOperationComplete t r false) fun m' =>
      m'.region r = (s.m.region r).failed ∧ m'.region (1 - r) = s.m.region (1 - r) ∧ Mod.Frame t [.nv, .toll] [P.secFlags.addr] s.m m' := by
  have hf := flashOperationComplete_of_failed (m := s.m.at t) hop hstale
  have hin' : r < ((s.m.at t).operated r ((s.m.at t).region r).bytes).nv.regions.length :=
    hin.trans_eq (Mod.setRegion_length (m := (s.m.at t).endGrant (.flash r)) _).symm
  have hwithin : Mod.Within [.nv, .toll] [P.secFlags.addr] (s.m.at t)
      ((((s.m.at t).operated r ((s.m.at t).region r).bytes).flag P.secFlags 1).updateEnds r 3) :=
    (((Mod.Within.endGrant _ _ (by decide)).trans (.setRegion _ _ _ (by decide))).trans (.flag _ _ _ _ (by decide))).trans
      (.updateEnds _ _ _ (by decide) (by decide))
  have hother : 1 - r ≠ r := one_sub_ne hr
  refine State.yields_run (f := flashOperationComplete r false) rfl ⟨(Mod.region_run hf).trans ?_, (Mod.region_run hf).trans ?_,
    Mod.Within.frame (hf ▸ hwithin)⟩
  · rw [Mod.region_updateEnds (m := ((s.m.at t).operated r ((s.m.at t).region r).bytes).flag P.secFlags 1) hin' 3]
    have hsame : (((s.m.at t).operated r ((s.m.at t).region r).bytes).flag P.secFlags 1).region r
        = (s.m.region r).operated (s.m.region r).bytes := Mod.region_operated (m := s.m.at t) hin _
    rw [hsame]
    simp [Region.operated, Region.failed]
  · rw [Mod.region_updateEnds_other hother]
    exact Mod.region_operated_other (m := s.m.at t) hother _

theorem verified_yields (hr : r < 2) (hin : r < s.m.nv.regions.length) (hst : (s.m.region r).st = 3) (hop : (s.m.region r).op = none)
    (hneed : (s.m.region r).need = none) (hofs : 160 < (s.m.region r).ofs) :
    s.Yields (.updateVerifyComplete t r) fun m' =>
      (if Config.sha256 (s.m.region r).bodyRead = ((s.m.region r).hdr.drop 0x28).take 32
        then m'.region r = (s.m.region r).matched ∧ m'.asking (.flash r) = true
        else m'.region r = (s.m.region r).mismatched ∧ m'.toll = s.m.toll)
      ∧ m'.region (1 - r) = s.m.region (1 - r) ∧ Mod.Frame t [.nv, .toll] [P.secFlags.addr] s.m m' := by
  have hf := updateVerifyComplete_of_idle (m := s.m.at t) hst hop hneed
  have hother : 1 - r ≠ r := one_sub_ne hr
  have hset : ∀ f, ((s.m.at t).setRegion r f).region r = f (s.m.region r) := Mod.region_setRegion (m := s.m.at t) hin
  by_cases hsame : Config.sha256 (s.m.region r).bodyRead = ((s.m.region r).hdr.drop 0x28).take 32
  · have hf : updateVerifyComplete r (s.m.at t) = _ := hf.trans (if_pos hsame)
    have hwithin : Mod.Within [.nv, .toll] [P.secFlags.addr] (s.m.at t) (((s.m.at t).setRegion r Region.matched).flashNext r) :=
      (Mod.Within.setRegion _ _ _ (by decide)).trans (.flashNext _ _ (by decide))
    have hasking : (((s.m.at t).setRegion r Region.matched).flashNext r).asking (.flash r) = true :=
      Mod.asking_flashNext (by rw [hset]; exact hst) (by rw [hset]; exact hop) (by rw [hset]; rfl) (by rw [hset]; exact hofs)
    refine State.yields_run (f := updateVerifyComplete r) rfl ⟨?_, ?_, Mod.Within.frame (hf ▸ hwithin)⟩
    · rw [if_pos hsame]
      refine ⟨(Mod.region_run hf).trans ((Mod.region_flashNext _ _ _).trans (hset _)), ?_⟩
      rw [Mod.asking_congr (Mod.run_toll (t := t) (f := updateVerifyComplete r) (m := s.m)), hf]
      exact hasking
    · exact (Mod.region_run hf).trans ((Mod.region_flashNext _ _ _).trans (Mod.region_setRegion_other (m := s.m.at t) hother _))
  · have hf : updateVerifyComplete r (s.m.at t) = _ := hf.trans (if_neg hsame)
    have hwithin : Mod.Within [.nv, .toll] [P.secFlags.addr] (s.m.at t)
        ((((s.m.at t).setRegion r Region.mismatched).flag P.secFlags 1).raise 121 0x0A23 (leBytes 1 r ++ leBytes 1 6)) :=
      ((Mod.Within.setRegion _ _ _ (by decide)).trans (.flag _ _ _ _ (by decide))).trans (.raise _ _ _ _)
    refine State.yields_run (f := updateVerifyComplete r) rfl ⟨?_, ?_, Mod.Within.frame (hf ▸ hwithin)⟩
    · rw [if_neg hsame]
      refine ⟨(Mod.region_run hf).trans (hset _), ?_⟩
      rw [Mod.run_toll, hf]
      rfl
    · exact (Mod.region_run hf).trans (Mod.region_setRegion_other (m := s.m.at t) hother _)

end

/-- Data that is taken goes to the header's page first and to the buffer behind it. -/
theorem Region.taking_data (d : List Byte) (g : Region) :
    (g.taking d).hdr ++ (g.taking d).buf.drop g.buf.length = g.hdr ++ d := by
  simp only [Region.taking, List.drop_left, List.append_assoc, List.take_append_drop]

/-- Settles O15: each request and each operation by what it makes of its region. -/
theorem updateRequestsTakeEffect : Obligations.UpdateRequestsTakeEffect := by
  unfold Obligations.UpdateRequestsTakeEffect
  refine ⟨fun s t g x h hgate => ?requests, fun s t r hr htwo => ?operations⟩
  case requests =>
    intro r e hr htwo
    have hin : r < s.m.nv.regions.length := htwo ▸ hr
    refine ⟨fun htyp hlen hidle hcheck => ?begins, fun htyp _ hlen hbusy hown hstale hofs hend hfour hkilo hwords hroom => ?data,
      fun htyp hlen hbusy hown hall => ?ends, fun htyp hlen hbusy hown => ?aborts⟩
    case begins =>
      refine (updateBegin_yields h hgate hr hin htyp hlen hidle hcheck).imp fun m' hm => ?_
      obtain ⟨hanswer, hregion, hother, hframe⟩ := hm
      exact ⟨hanswer, by rw [hregion]; exact ⟨rfl, rfl, rfl, rfl, rfl, rfl⟩, hother, hframe⟩
    case data =>
      have hdone : handler [] 0x0081 x g.seq g.body ((s.m.at t).accepting g x) = _ :=
        updateData_of_ok (m := (s.m.at t).accepting g x) hr hin hlen hbusy hown hstale hofs hend hfour hkilo hwords hroom
      refine (updating_yields (c := .updateData t g) h hgate hr hin htyp (by decide) (by decide) rfl hdone).imp fun m' hm => ?_
      obtain ⟨hanswer, hregion, hother, hframe⟩ := hm
      have hdata : (g.body.drop 8).length = leAt g.body 2 2 := by rw [List.length_drop]; omega
      refine ⟨hanswer, ?_, hother, hframe⟩
      rw [hregion]
      exact ⟨congrArg (e.ofs + ·) hdata, Region.taking_data _ _⟩
    case ends =>
      have hdone : handler [] 0x0082 x g.seq g.body ((s.m.at t).accepting g x) = _ :=
        updateEnd_of_ok (m := (s.m.at t).accepting g x) hr hlen hbusy hown hall
      refine (updating_yields (c := .updateEnd t g) h hgate hr hin htyp (by decide) (by decide) rfl hdone).imp fun m' hm => ?_
      obtain ⟨hanswer, hregion, hother, hframe⟩ := hm
      exact ⟨hanswer, by rw [hregion]; rfl, by rw [hregion]; rfl, hother, hframe⟩
    case aborts =>
      refine (updateAbort_yields h hgate hr htyp hlen hbusy hown).imp fun m' hm => ?_
      obtain ⟨hanswer, hregion, hother, hframe⟩ := hm
      have hends := hregion.trans (Mod.region_updateEnds (m := (s.m.at t).accepting g x) hin 1)
      exact ⟨hanswer, by rw [hends]; rfl, by rw [hends], by rw [hends]; rfl, hother, hframe⟩
  case operations =>
    intro e
    have hin : r < s.m.nv.regions.length := htwo ▸ hr
    refine ⟨fun prog hop => ?well, fun prog hop hstale => ?failed, fun hop hhashed hstale => ?header, fun hst hop hneed hofs => ?verified⟩
    case well =>
      refine (flashWell_yields hr hin hop).imp fun m' hm => ?_
      obtain ⟨hregion, hother, hframe⟩ := hm
      obtain ⟨hbytes, hnone, hfresh⟩ := Region.wellEnded_bytes (s.m.region r) ((s.m.region r).operated ((s.m.region r).after prog)) prog
      rw [← hregion] at hbytes hnone hfresh
      exact ⟨hbytes, hnone, hfresh, hother, hframe⟩
    case failed =>
      refine (flashFailed_yields hr hin hop hstale).imp fun m' hm => ?_
      obtain ⟨hregion, hother, hframe⟩ := hm
      rw [hregion]
      exact ⟨rfl, rfl, rfl, rfl, hother, hframe⟩
    case header =>
      refine (flashWell_yields hr hin hop).imp fun m' hm => ?_
      obtain ⟨hregion, hother, hframe⟩ := hm
      have hpage : e.page = flashPage e.hdr := by
        unfold Region.page
        rw [if_pos hhashed]
      have hdone : m'.region r = ((s.m.region r).operated ((s.m.region r).after true)).completed := by
        rw [hregion, Region.wellEnded, if_neg (ne_true_of_eq_false hstale), if_pos hhashed]
      rw [hdone]
      exact ⟨congrArg (flashPut e.bytes e.opAt) hpage, rfl, rfl, rfl, rfl, hother, hframe⟩
    case verified =>
      refine (verified_yields hr hin hst hop hneed hofs).imp fun m' hm => ?_
      obtain ⟨hhash, hother, hframe⟩ := hm
      have hbytes : (m'.region r).bytes = e.bytes := by
        split at hhash
        · rw [hhash.1]; rfl
        · rw [hhash.1]; rfl
      refine ⟨?_, hbytes, hother, hframe⟩
      split at hhash
      · rw [if_pos ‹_›]; exact hhash
      · obtain ⟨hregion, htoll⟩ := hhash
        rw [if_neg ‹_›, hregion]
        exact ⟨rfl, rfl, rfl, htoll⟩

end Sys2Proof.Machine
end

section
/-!
PROOFS. The output tests, the entry into RUNNING, deferred tests and TAP_EN (R409 to R411, R441).
-/
namespace Sys2Proof.Machine

/-! ### What the parts of these commands may change -/

section
variable {as : List Area} {ws : List Nat}

theorem Mod.Within.valveTested (m : Mod) (deferred : Bool) (bad opens : List Nat) (h : Area.vlv ∈ as) :
    Mod.Within as ws m (m.valveTested deferred bad opens) :=
  (Mod.Within.foldl (fun m c => Mod.Within.setVch m c _ h) opens m).trans (.ofVlv _ _ h)

/-- An output test leaves the valves and the load switches as it found them, and nothing else. -/
theorem Mod.Within.outputTested (m : Mod) (r : TestRes) (opens : List Nat) (hvlv : Area.vlv ∈ as) (hlsw : Area.lsw ∈ as) :
    Mod.Within as ws m (m.outputTested r opens) := by
  unfold Mod.outputTested
  dsimp only
  split
  · exact .valveTested _ _ _ _ hvlv
  · exact .ofVlv _ _ hvlv
  · exact .ofLsw _ _ hlsw
  · exact .refl m

theorem Mod.Within.coilStart (m : Mod) (board : Int) (h : Area.vlv ∈ as) (hw : P.vlvTBoard.addr ∈ ws) : Mod.Within as ws m (m.coilStart board) :=
  ((Mod.Within.wrI m P.vlvTBoard board 0 0 hw).trans (.ofVlv _ _ h)).trans (.foldl (fun _ _ => .setVch _ _ _ h) _ _)

theorem Mod.Within.tplStart (m : Mod) (p : Nat) (h : Area.cams ∈ as) : Mod.Within as ws m (m.tplStart p) := by
  unfold Mod.tplStart
  split
  · exact .ofCams _ _ h
  · exact .refl m

theorem Mod.Within.panelsStart (m : Mod) (h : Area.panels ∈ as) : Mod.Within as ws m m.panelsStart := by
  refine .foldl (fun m n => ?_) _ _
  split
  · exact (Mod.Within.setPanel m n _ h).trans (.setPanel _ _ _ h)
  · exact .refl m

theorem Mod.Within.startType (m : Mod) (h : Area.free ∈ as) : Mod.Within as ws m m.startType.2 := by
  have hdraw : m.startType.2 = m.draw.2 := by
    unfold Mod.startType
    simp only [apply_ite Prod.snd, ite_self]
  rw [hdraw]
  exact .draw m h

theorem Mod.Within.keepTime (m : Mod) (h : Area.gnss ∈ as) : Mod.Within as ws m m.keepTime := by
  unfold Mod.keepTime
  extract_lets held m1
  have hheld : Mod.Within as ws m m1 := .setGnss _ _ h
  split
  · exact hheld
  · exact (hheld.trans (.setGnss _ _ h)).trans (.raise _ _ _ _)

theorem Mod.Within.gnssBegin (m : Mod) : Mod.Within [.gnss, .toll, .free] ws m m.gnssBegin := by
  have hbegun : Mod.Within [.gnss, .toll, .free] ws m ((m.startType.2.setGnss (fun g =>
      { g with startType := m.startType.1, firstGrant := none, firstFix := false, continuous := 0, lost := false })).trackBegin) :=
    ((Mod.Within.startType m (by decide)).trans (.setGnss _ _ (by decide))).trans (.trackBegin _ (by decide))
  have hask : ∀ x : Mod, Mod.Within [.gnss, .toll, .free] ws x x.acqAsk := fun x => (Mod.Within.acqAsk x).mono (by decide) (List.Subset.refl _)
  unfold Mod.gnssBegin
  dsimp only
  split
  · exact (hbegun.trans (.keepTime _ (by decide))).trans (hask _)
  · exact hbegun.trans (hask _)

theorem Mod.Within.gnssStart (m : Mod) : Mod.Within [.gnss, .toll, .free] ws m m.gnssStart := by
  unfold Mod.gnssStart
  dsimp only
  split
  · split
    · exact .setGnss _ _ (by decide)
    · exact (Mod.Within.setGnss _ _ (by decide)).trans (.gnssBegin _)
  · exact .refl m

theorem Mod.Within.selfTestEnd (m : Mod) (h : Area.free ∈ as) (hw : P.bistCoverage.addr ∈ ws) : Mod.Within as ws m m.selfTestEnd :=
  ((Mod.Within.draw m h).trans (.wr _ _ _ _ _ hw)).trans (.raise _ _ _ _)

theorem Mod.Within.lswBegin (m : Mod) (hlsw : Area.lsw ∈ as) (htoll : Area.toll ∈ as) : Mod.Within as ws m m.lswBegin := by
  refine .foldl (fun m k => ?_) _ _
  dsimp only
  split
  · exact .lswRequest _ _ _ hlsw htoll
  · exact .refl m

theorem Mod.Within.fusionStart (m : Mod) (h : Area.fus ∈ as) : Mod.Within as ws m m.fusionStart := by
  refine (Mod.Within.ofFus m _ h).trans (.foldl (fun m p => ?_) _ _)
  split
  · exact .raise _ _ _ _
  · exact .refl m

theorem Mod.Within.setTally (m : Mod) (r : Nat) (f : Tally → Tally) (h : Area.trk ∈ as) : Mod.Within as ws m (m.setTally r f) := .ofTrk _ _ h

theorem Mod.Within.tallyFinal (m : Mod) (r : Nat) (h : Area.trk ∈ as) : Mod.Within as ws m (m.tallyFinal r) :=
  (Mod.Within.setTally m r _ h).trans (.raise _ _ _ _)

theorem Mod.Within.tallyOpen (m : Mod) (r : Nat) (h : Area.trk ∈ as) : Mod.Within as ws m (m.tallyOpen r) := by
  unfold Mod.tallyOpen
  dsimp only
  split
  · exact (Mod.Within.tallyFinal m r h).trans (.setTally _ _ _ h)
  · exact .setTally _ _ _ h

end

/-! ### The output tests (R410, R411) -/

/-- The reports of the output tests. -/
def outputReports (res : List TestRes) : List TestRes := res.filter (fun r => 9 ≤ r.test && r.test ≤ 11)

/-- The module with the output tests' results in force. -/
def Mod.outputsTested (m : Mod) (res : List TestRes) (opens : List Nat) : Mod :=
  (outputReports res).foldl (fun m r => m.outputTested r opens) ((m.testReports (outputReports res) [9, 10, 11]).valveTested false [] [])

/-- The module with the tests that wait for their supplies noted. -/
def Mod.deferring (m : Mod) (res : List TestRes) : Mod :=
  { m with bist := { m.bist with deferred := ((outputReports res).filter (fun r => r.result = 3)).map (·.test) } }

/-- What starts once the outputs are tested. -/
def Mod.outputsBegin (m : Mod) (board : Int) : Mod :=
  ((List.range 8).foldl Mod.tplStart (m.coilStart board)).panelsStart.gnssStart.selfTestEnd

theorem outputTestsComplete_of_outputs {m : Mod} (hphase : m.bist.phase = .outputs) (res : List TestRes) (opens : List Nat) (board : Int) :
    outputTestsComplete res opens board m = (((m.outputsTested res opens).deferring res).outputsBegin board).setPhase .ready := if_pos hphase

theorem Mod.outputsTested_bist (m : Mod) (res : List TestRes) (opens : List Nat) : (m.outputsTested res opens).bist = m.bist := by
  have hwithin : Mod.Within [.vlv, .lsw] (testWords [9, 10, 11]) m (m.outputsTested res opens) :=
    ((Mod.Within.testReports m _ _).trans (.valveTested _ _ _ _ (by decide))).trans
      (.foldl (fun m r => .outputTested m r opens (by decide) (by decide)) _ _)
  exact hwithin.areas .bist (by decide)

theorem Mod.outputsBegin_bist (m : Mod) (board : Int) : (m.outputsBegin board).bist = m.bist := by
  have hcoils : Mod.Within [.vlv, .cams, .panels, .gnss, .toll, .free] [P.vlvTBoard.addr, P.bistCoverage.addr] m (m.coilStart board) :=
    .coilStart m board (by decide) (by decide)
  have hwithin : Mod.Within [.vlv, .cams, .panels, .gnss, .toll, .free] [P.vlvTBoard.addr, P.bistCoverage.addr] m (m.outputsBegin board) :=
    (((hcoils.trans (.foldl (fun m p => .tplStart m p (by decide)) _ _)).trans (.panelsStart _ (by decide))).trans
      ((Mod.Within.gnssStart _).mono (by decide) (List.Subset.refl _))).trans (.selfTestEnd _ (by decide) (by decide))
  exact hwithin.areas .bist (by decide)

theorem outputTestsComplete_yields {s : State} {t : Nat} {res : List TestRes} {opens : List Nat} {board : Int}
    (hphase : s.m.bist.phase = .outputs) : s.Yields (.outputTestsComplete t res opens board) fun m' =>
      m'.bist.phase = .ready ∧ m'.bist.deferred = ((outputReports res).filter (fun r => r.result = 3)).map (·.test) ∧ m'.bist.e0 = s.m.bist.e0 := by
  have hbist : (((((s.m.at t).outputsTested res opens).deferring res).outputsBegin board).setPhase .ready).bist
      = { s.m.bist with deferred := ((outputReports res).filter (fun r => r.result = 3)).map (·.test), phase := .ready } := by
    rw [Mod.setPhase, Mod.outputsBegin_bist, Mod.deferring, Mod.outputsTested_bist, Mod.at_bist]
  refine State.yields_run (f := outputTestsComplete res opens board) rfl ?_
  rw [Mod.run_bist, outputTestsComplete_of_outputs (m := s.m.at t) hphase, hbist]
  exact ⟨rfl, rfl, rfl⟩

/-! ### RUNNING (R409) -/

theorem epochAt_thousand (n : Nat) : epochAt n % 1000 = 0 := Nat.mul_mod_left _ _

theorem le_epochAt (n : Nat) : n ≤ epochAt n := by unfold epochAt; omega

theorem epochAt_lt (n : Nat) : epochAt n < n + 1000 := by unfold epochAt; omega

/-- The module with its epoch set. -/
def Mod.epochBegun (m : Mod) : Mod :=
  { m with
    bist := { m.bist with phase := .running, e0 := epochAt m.now, msIdx := 0 },
    trk := { m.trk with rateFrom := m.now }, cell := { m.cell with scrubNext := m.now + m.scrubEvery },
    cams := m.cams.map (fun c => if c.inService then c else { c with outSince := some m.now }) }

/-- The module with the time of its start shown. -/
def Mod.startTimed (m : Mod) : Mod := m.epochBegun.wr P.bistStartMs (Nat.min 65535 (m.now / 1000000))

theorem enterRunning_of_ready {m : Mod} (hphase : m.bist.phase = .ready) (hsent : ∀ c ∈ m.cams, c.tplQ = []) :
    enterRunning m = ((m.startTimed.fusionStart.tallyOpen m.sys.recipe).fwReached).lswBegin := by
  unfold enterRunning
  refine if_pos ?_
  simpa [hphase] using hsent

theorem Mod.Within.epochBegun (m : Mod) {ws : List Nat} : Mod.Within [.bist, .trk, .cell, .cams] ws m m.epochBegun :=
  .of_regs rfl rfl fun p hp => by cases p <;> simp [Area.same, Mod.epochBegun] at hp ⊢

/-- After the start's time RUNNING's first tasks leave the module's own state and every word. -/
theorem Mod.Within.runningBegun (m : Mod) (r : Nat) :
    Mod.Within [.trk, .fus, .nv, .lsw, .toll] [] m ((m.fusionStart.tallyOpen r).fwReached).lswBegin :=
  (((Mod.Within.fusionStart m (by decide)).trans (.tallyOpen _ _ (by decide))).trans (.fwReached _ (by decide))).trans
    (.lswBegin _ (by decide) (by decide))

theorem enterRunning_yields {s : State} {t : Nat} (hs : s.Canonical) (hphase : s.m.bist.phase = .ready)
    (hsent : ∀ c ∈ s.m.cams, c.tplQ = []) : s.Yields (.enterRunning t) fun m' =>
      m'.bist = { s.m.bist with phase := .running, e0 := epochAt (s.m.at t).now, msIdx := 0 }
      ∧ m'.rd P.bistStartMs = Nat.min 65535 ((s.m.at t).now / 1000000)
      ∧ Mod.Frame t [.bist, .trk, .cell, .cams, .fus, .nv, .lsw, .toll] [P.bistStartMs.addr] s.m m' := by
  have hmean := enterRunning_of_ready (m := s.m.at t) hphase hsent
  have hrest := Mod.Within.runningBegun (s.m.at t).startTimed (s.m.at t).sys.recipe
  have htimed : Mod.Within [.bist, .trk, .cell, .cams, .fus, .nv, .lsw, .toll] [P.bistStartMs.addr] (s.m.at t) (s.m.at t).startTimed :=
    ((Mod.Within.epochBegun _).mono (by decide) (List.Subset.refl _)).trans (.wr _ _ _ _ _ (by decide))
  have hwhole : Mod.Within [.bist, .trk, .cell, .cams, .fus, .nv, .lsw, .toll] [P.bistStartMs.addr] (s.m.at t) (enterRunning (s.m.at t)) := by
    rw [hmean]
    exact htimed.trans (hrest.mono (by decide) (List.nil_subset _))
  have hlt : Nat.min 65535 ((s.m.at t).now / 1000000) < 2 ^ 16 := 
    (Nat.min_le_left 65535 _).trans_lt (by decide)
  refine State.yields_run (f := enterRunning) rfl ⟨?_, ?_, hwhole.frame⟩
  · rw [Mod.run_bist, hmean]
    exact hrest.areas .bist (by decide)
  · rw [Mod.run_rd_other _ _ _ (by decide), hmean, hrest.rd_eq (htimed.wf hs) List.not_mem_nil (by decide), Mod.startTimed,
      Mod.rd_wr (m := (s.m.at t).epochBegun) hs]
    exact (Nat.mod_eq_of_lt (Nat.lt_of_le_of_lt (Nat.mod_le _ _) (hlt.trans (by decide)))).trans (Nat.mod_eq_of_lt hlt)

/-! ### Deferred tests (R410) -/

/-- The module with a deferred test run. -/
def Mod.deferredRun (m : Mod) (r : TestRes) (opens : List Nat) : Mod :=
  ((m.testReport r).outputTested r opens).raise 124 0x0A63 (leBytes 1 r.test ++ leBytes 1 r.result)

/-- A test is no longer deferred. -/
def Mod.undefer (m : Mod) (n : Nat) : Mod := { m with bist := { m.bist with deferred := m.bist.deferred.filter (fun t => t ≠ n) } }

theorem deferredTestRun_of_held {m : Mod} {r : TestRes} {opens : List Nat} (hrun : m.running = true)
    (hdeferred : m.bist.deferred.contains r.test = true) (hresult : r.result ≠ 3) (hheld : m.supplyHeld r.test = true) :
    deferredTestRun r opens m = ((m.deferredRun r opens).undefer r.test).lswBegin := by
  unfold deferredTestRun
  have hdriving : m.driving = true := hrun
  exact if_pos (by simp only [hdriving, hheld, hdeferred, hresult, ne_eq, not_false_eq_true, decide_true, Bool.and_self])

theorem deferredTestRun_yields {s : State} {t : Nat} {r : TestRes} {opens : List Nat} (hrun : s.m.running = true)
    (hdeferred : s.m.bist.deferred.contains r.test = true) (hresult : r.result ≠ 3) (hheld : s.m.supplyHeld r.test = true) :
    s.Yields (.deferredTestRun t r opens) fun m' =>
      m'.bist = { s.m.bist with deferred := s.m.bist.deferred.filter (fun k => k ≠ r.test) }
      ∧ Mod.Frame t [.bist, .vlv, .lsw, .toll] (testWords [r.test]) s.m m' := by
  have hmean := deferredTestRun_of_held (m := s.m.at t) (opens := opens) hrun hdeferred hresult hheld
  have htested : Mod.Within [.vlv, .lsw] (testWords [r.test]) (s.m.at t) ((s.m.at t).deferredRun r opens) :=
    ((Mod.Within.testReport _ (List.mem_singleton_self _)).trans (.outputTested _ _ _ (by decide) (by decide))).trans (.raise _ _ _ _)
  have hrest : Mod.Within [.lsw, .toll] (testWords [r.test]) (((s.m.at t).deferredRun r opens).undefer r.test)
      (((s.m.at t).deferredRun r opens).undefer r.test).lswBegin := .lswBegin _ (by decide) (by decide)
  have hwhole : Mod.Within [.bist, .vlv, .lsw, .toll] (testWords [r.test]) (s.m.at t) (deferredTestRun r opens (s.m.at t)) := by
    rw [hmean]
    exact ((htested.mono (by decide) (List.Subset.refl _)).trans (.ofBist _ _ (by decide))).trans (hrest.mono (by decide) (List.Subset.refl _))
  refine State.yields_run (f := deferredTestRun r opens) rfl ⟨?_, hwhole.frame⟩
  rw [Mod.run_bist, hmean, hrest.areas .bist (by decide), Mod.undefer, htested.areas .bist (by decide)]
  rfl

/-! ### TAP_EN (R441) -/

/-- A bit that a flag names stands after it (R11). -/
theorem Mod.testBit_flag {m : Mod} {p : Param} {b i : Nat} (hwf : Store.wf m.regs = true) (hb : b.testBit i = true) (hi : i < p.w)
    (hw : p.w ≤ 32) : ((m.flag p b).rd p).testBit i = true := by
  rw [Mod.rd_flag hwf, Nat.testBit_mod_two_pow, Nat.testBit_mod_two_pow, Nat.testBit_or, hb, Bool.or_true, Bool.and_true,
    decide_eq_true hi, decide_eq_true (hi.trans_le hw), Bool.and_self]

theorem tapEnIgnored_yields {s : State} {t : Nat} (hs : s.Canonical) (hphase : s.m.bist.phase ≠ .off) :
    s.Yields (.tapEnIgnored t) fun m' => (m'.rd P.secFlags).testBit 2 = true ∧ Mod.Frame t [] [P.secFlags.addr] s.m m' := by
  have hmean : tapEnIgnored (s.m.at t) = ((s.m.at t).flag P.secFlags 4).raise 123 0x0A54 (leBytes 1 s.m.bist.phase.code) := if_neg hphase
  have hwhole : Mod.Within [] [P.secFlags.addr] (s.m.at t) (tapEnIgnored (s.m.at t)) := by
    rw [hmean]
    exact (Mod.Within.flag _ _ _ _ (by decide)).trans (.raise _ _ _ _)
  refine State.yields_run (f := tapEnIgnored) rfl ⟨?_, hwhole.frame⟩
  rw [Mod.run_rd_other _ _ _ (by decide), hmean, Mod.rd_raise]
  exact Mod.testBit_flag (m := s.m.at t) hs (by decide) (by decide) (by decide)

/-- Settles O24: each command by what it makes of the module's own state, and by what its parts may change. -/
theorem runningIsEntered : Obligations.RunningIsEntered := by
  unfold Obligations.RunningIsEntered
  refine ⟨fun s t res opens board hphase => ?outputs, fun s t hs hphase hsent => ?running,
    fun s t r opens hrun hdeferred _ _ hresult hheld => ?deferred, fun s t hs hphase => tapEnIgnored_yields hs hphase⟩
  case outputs =>
    refine (outputTestsComplete_yields hphase).imp fun m' hm => ?_
    obtain ⟨hready, hdeferred, hepoch⟩ := hm
    refine ⟨hready, hdeferred.trans ?_, hepoch⟩
    rw [outputReports, List.filter_filter]
    simp only [Bool.and_comm]
  case running =>
    refine (enterRunning_yields hs hphase hsent).imp fun m' hm => ?_
    obtain ⟨hbist, hstart, hframe⟩ := hm
    rw [hbist]
    exact ⟨rfl, epochAt_thousand _, le_epochAt _, epochAt_lt _, rfl, hstart, hframe⟩
  case deferred =>
    refine (deferredTestRun_yields hrun hdeferred hresult hheld).imp fun m' hm => ?_
    obtain ⟨hbist, hframe⟩ := hm
    exact ⟨hbist, hframe.clock, hframe.areas, fun hwf x hx => hframe.words hwf x (fun hin => hx (by simp only [testWords, List.flatMap_cons, List.flatMap_nil, List.mem_cons, List.mem_append, List.not_mem_nil, or_false] at hin ⊢; tauto))⟩

end Sys2Proof.Machine
end

section
/-!
PROOFS. Milestones (R415 to R417): what the commit of one writes, and what is left where its writing fails.
-/
namespace Sys2Proof.Machine

/-! ### Lots and the receiver's memory at a milestone (R182, R305) -/

theorem Mod.lotOrigin_eq (m : Mod) : m.lotOrigin = { m with trk := { m.trk with lotOrg := m.lotOrigin.trk.lotOrg } } := by
  unfold Mod.lotOrigin
  split <;> rfl

/-- A lot that is to close closes at the milestone. -/
theorem Mod.lotClose_of_asked {m : Mod} (h : m.trk.lotReq = true) :
    m.lotClose.trk.lotId = (m.trk.lotId + 1) % 2 ^ 32 ∧ m.lotClose.trk.map = [] ∧ m.lotClose.trk.lotReq = false := by
  unfold Mod.lotClose
  rw [if_pos h]
  dsimp only
  rw [Mod.lotOrigin_eq]
  exact ⟨rfl, rfl, rfl⟩

theorem Mod.lotClose_of_unasked {m : Mod} (h : m.trk.lotReq = false) : m.lotClose = m := if_neg (ne_true_of_eq_false h)

/-- The closing of a lot changes the lot and raises an event. -/
theorem Mod.lotClose_eq (m : Mod) : m.lotClose = { m with
    trk := { m.trk with lotReq := m.lotClose.trk.lotReq, lotId := m.lotClose.trk.lotId, map := m.lotClose.trk.map,
                        lotSec := m.lotClose.trk.lotSec, lotOrg := m.lotClose.trk.lotOrg },
    evc := m.lotClose.evc } := by
  unfold Mod.lotClose
  split
  · dsimp only
    rw [Mod.lotOrigin_eq]
    rfl
  · rfl

theorem Mod.gnssStore_eq (m : Mod) : m.gnssStore = { m with
    gnss := m.gnssStore.gnss,
    nv := { m.nv with gnssPos := m.gnssStore.nv.gnssPos, gnssDrift := m.gnssStore.nv.gnssDrift, gnssLeap := m.gnssStore.nv.gnssLeap } } := by
  unfold Mod.gnssStore
  extract_lets due
  split <;> rfl

/-- The module whose milestone is written: lots that were to close are closed, and the receiver's memory is stored. -/
def Mod.msReady (m : Mod) : Mod := m.lotClose.gnssStore

theorem Mod.msReady_keeps (m : Mod) : m.msReady.regs = m.regs ∧ m.msReady.now = m.now ∧ m.msReady.log = m.log ∧ m.msReady.sys = m.sys
    ∧ m.msReady.bist = m.bist ∧ m.msReady.trk = m.lotClose.trk ∧ m.msReady.nv.ms = m.nv.ms ∧ m.msReady.nv.dome = m.nv.dome := by
  unfold Mod.msReady
  rw [Mod.gnssStore_eq, Mod.lotClose_eq]
  exact ⟨rfl, rfl, rfl, rfl, rfl, rfl, rfl, rfl⟩

theorem Mod.Within.lotClose {as : List Area} {ws : List Nat} (m : Mod) (h : Area.trk ∈ as) : Mod.Within as ws m m.lotClose := by
  unfold Mod.lotClose
  split
  · dsimp only
    rw [Mod.lotOrigin_eq]
    exact (Mod.Within.ofTrk m _ h).trans (.raise _ _ _ _)
  · exact .refl m

theorem Mod.Within.gnssStore {as : List Area} {ws : List Nat} (m : Mod) (hgnss : Area.gnss ∈ as) (hnv : Area.nv ∈ as) :
    Mod.Within as ws m m.gnssStore := by
  rw [Mod.gnssStore_eq]
  exact (Mod.Within.ofGnss m m.gnssStore.gnss hgnss).trans (.ofNv _ _ hnv)

theorem Mod.persistent_congr {a b : Mod} (hsys : b.sys = a.sys) (hregs : b.regs = a.regs) : b.persistent = a.persistent := by
  unfold Mod.persistent Mod.word
  rw [hsys, hregs]

/-! ### The commit (R415, R416, R450) -/

/-- The copy that a milestone writes. -/
def Mod.msCopy (m : Mod) (mj : Nat) : MsCopy := { ok := true, c := m.msContent mj }

/-- The module once the copy is written. -/
def Mod.msWritten (m : Mod) (mj : Nat) : Mod :=
  { m with nv := { m.nv with ms := m.nv.ms.set (m.bist.msNum % 2) (m.msCopy mj) }, bist := { m.bist with msNum := m.bist.msNum + 1 } }

theorem Mod.msCommit_eq (m : Mod) (mj : Nat) : m.msCommit mj = (m.msWritten mj).msShow := rfl

def msWords : List Nat := [P.bistMsSeq.addr, P.bistMsT.addr]

theorem Mod.Within.msShow {as : List Area} {ws : List Nat} (m : Mod) (h : msWords ⊆ ws) : Mod.Within as ws m m.msShow :=
  (Mod.Within.wr _ _ _ _ _ (h (by decide))).trans (.wr _ _ _ _ _ (h (by decide)))

theorem Mod.Within.msCommit {as : List Area} {ws : List Nat} (m : Mod) (mj : Nat) (hnv : Area.nv ∈ as) (hbist : Area.bist ∈ as)
    (h : msWords ⊆ ws) : Mod.Within as ws m (m.msCommit mj) := by
  have hwritten : Mod.Within as ws m (m.msWritten mj) :=
    (Mod.Within.ofNv m (m.msWritten mj).nv hnv).trans (.ofBist _ (m.msWritten mj).bist hbist)
  exact hwritten.trans (.msShow _ h)

section
variable {as : List Area} {ws : List Nat}

theorem Mod.Within.perfCount (m : Mod) (e : Nat × Nat) (hp : Area.perf ∈ as) (hf : Area.free ∈ as) : Mod.Within as ws m (m.perfCount e) := by
  unfold Mod.perfCount
  split
  · exact .perfTower _ _ _ _ hp hf
  · exact .perfModule _ _ _ hp
  · split
    · exact .perfHist _ _ _ _ hp hf
    · exact .perfAdd _ _ _ hp hf

theorem Mod.perfSelect_eq (m : Mod) (a : Nat) : m.perfSelect a = { m with perf := (m.perfSelect a).perf } := by
  unfold Mod.perfSelect
  dsimp only
  split <;> rfl

theorem Mod.Within.perfSnapshot (m : Mod) (counts : List (Nat × Nat)) (hp : Area.perf ∈ as) (hf : Area.free ∈ as) :
    Mod.Within as ws m (m.perfSnapshot counts) := by
  have hselect : ∀ (x : Mod) (a : Nat), Mod.Within as ws x (x.perfSelect a) := fun x a => by
    rw [Mod.perfSelect_eq]
    exact .ofPerf _ _ hp
  exact (((Mod.Within.foldl (fun m e => .perfCount m e hp hf) _ m).trans (.ofPerf _ _ hp)).trans (.foldl hselect _ _)).trans (.ofPerf _ _ hp)

end

/-- The snapshots' number stands. -/
def Mod.SameSnap (a b : Mod) : Prop := b.perf.snapSeq = a.perf.snapSeq

theorem Mod.SameSnap.foldl {α : Type} {f : Mod → α → Mod} (hf : ∀ m x, Mod.SameSnap m (f m x)) (l : List α) (m : Mod) :
    Mod.SameSnap m (l.foldl f m) := foldl_keeps (π := fun x : Mod => x.perf.snapSeq) hf l m

theorem Mod.SameSnap.smpReload (m : Mod) (t k : Nat) : Mod.SameSnap m (m.smpReload t k).2 := by
  unfold Mod.smpReload
  dsimp only
  split <;> rfl

theorem Mod.SameSnap.perfAdd (m : Mod) (a n : Nat) : Mod.SameSnap m (m.perfAdd a n) := by
  unfold Mod.perfAdd
  dsimp only
  split
  · rfl
  split
  · rfl
  split
  · next t k _ =>
    split
    · rfl
    split
    · rfl
    · exact (SameSnap.smpReload m t k : _)
  · rfl

theorem Mod.SameSnap.perfTower (m : Mod) (t code n : Nat) : Mod.SameSnap m (m.perfTower t code n) := by
  refine .foldl (fun x k => ?_) _ m
  split
  · exact .perfAdd x _ n
  · rfl

theorem Mod.SameSnap.perfModule (m : Mod) (code n : Nat) : Mod.SameSnap m (m.perfModule code n) := by
  refine .foldl (fun x k => ?_) _ m
  split
  · exact .perfAdd x _ n
  · rfl

theorem Mod.SameSnap.perfCount (m : Mod) (e : Nat × Nat) : Mod.SameSnap m (m.perfCount e) := by
  unfold Mod.perfCount
  split
  · exact .perfTower _ _ _ _
  · exact .perfModule _ _ _
  · split
    · exact .perfAdd _ _ _
    · exact .perfAdd _ _ _

theorem Mod.SameSnap.perfSelect (m : Mod) (a : Nat) : Mod.SameSnap m (m.perfSelect a) := by
  unfold Mod.perfSelect
  dsimp only
  split <;> rfl

/-- The module with a snapshot's counts entered and shown. -/
def Mod.snapShown (m : Mod) (counts : List (Nat × Nat)) : Mod :=
  let x := (counts.filter (m.countTaken counts)).foldl Mod.perfCount m
  { x with perf := x.perf.shown m.now }

theorem Mod.perfSnapshot_eq (m : Mod) (counts : List (Nat × Nat)) :
    let x := (m.snapShown counts).perf.pend.foldl Mod.perfSelect (m.snapShown counts)
    m.perfSnapshot counts = { x with perf := { x.perf with pend := [] } } := rfl

theorem Mod.snapSeq_perfSnapshot (m : Mod) (counts : List (Nat × Nat)) :
    (m.perfSnapshot counts).perf.snapSeq = (m.perf.snapSeq + 1) % 2 ^ 32 := by
  have hcounted := SameSnap.foldl SameSnap.perfCount (counts.filter (m.countTaken counts)) m
  have hselected := SameSnap.foldl SameSnap.perfSelect (m.snapShown counts).perf.pend (m.snapShown counts)
  rw [Mod.perfSnapshot_eq]
  exact hselected.trans (congrArg (fun n => (n + 1) % 2 ^ 32) hcounted)

/-! ### MILESTONE (R415, R416) -/

/-- The module whose milestone is due: the next instant and the account of failures (R417) are set. -/
def Mod.msBegun (m : Mod) : Mod :=
  { m with bist := { m.bist with msIdx := m.bist.msIdx + 1, fails := if m.bist.msFailed then m.bist.fails else 0, msFailed := false } }

theorem milestone_of_due {m : Mod} (hrun : m.running = true) (hdue : m.msInstant m.bist.msIdx ≤ m.now) (counts : List (Nat × Nat)) :
    milestone counts m = (m.msBegun.msReady.msCommit (m.msInstant m.bist.msIdx)).perfSnapshot counts := by
  unfold milestone
  rw [if_pos (by simp [hrun, hdue])]
  rfl

theorem Mod.Within.milestone {m : Mod} (hrun : m.running = true) (hdue : m.msInstant m.bist.msIdx ≤ m.now) (counts : List (Nat × Nat)) :
    Mod.Within [.bist, .nv, .trk, .gnss, .perf, .free] msWords m (milestone counts m) := by
  rw [milestone_of_due hrun hdue]
  exact ((((Mod.Within.ofBist m _ (by decide)).trans (.lotClose m.msBegun (by decide))).trans (.gnssStore _ (by decide) (by decide))).trans
    (.msCommit _ _ (by decide) (by decide) (List.Subset.refl _))).trans (.perfSnapshot _ _ (by decide) (by decide))

/-- What the milestone leaves of the module's own state, the store and the tracks. -/
theorem milestone_leaves {m : Mod} (hrun : m.running = true) (hdue : m.msInstant m.bist.msIdx ≤ m.now) (counts : List (Nat × Nat)) :
    let x := m.msBegun.msReady
    (milestone counts m).nv.ms = m.nv.ms.set (m.bist.msNum % 2) (x.msCopy (m.msInstant m.bist.msIdx))
      ∧ (milestone counts m).bist = { m.msBegun.bist with msNum := m.bist.msNum + 1 } ∧ (milestone counts m).trk = m.msBegun.lotClose.trk
      ∧ (milestone counts m).perf.snapSeq = (m.perf.snapSeq + 1) % 2 ^ 32 := by
  intro x
  obtain ⟨-, -, -, -, hbist, htrk, hms, -⟩ := m.msBegun.msReady_keeps
  have hsnap : Mod.Within [.perf, .free] [] (x.msCommit (m.msInstant m.bist.msIdx)) (milestone counts m) := by
    rw [milestone_of_due hrun hdue]
    exact .perfSnapshot _ _ (by decide) (by decide)
  have hstore : (milestone counts m).nv = { (x.msCommit (m.msInstant m.bist.msIdx)).nv with slots := (milestone counts m).nv.slots } :=
    hsnap.areas .nv (by decide)
  have hnv : (milestone counts m).nv.ms = (x.msCommit (m.msInstant m.bist.msIdx)).nv.ms := (congrArg Nv.ms hstore).trans rfl
  refine ⟨hnv.trans ?_, (hsnap.areas .bist (by decide)).trans ?_, (hsnap.areas .trk (by decide)).trans htrk, ?_⟩
  · rw [Mod.msCommit_eq]
    change x.nv.ms.set (x.bist.msNum % 2) _ = _
    rw [hms, hbist]
    rfl
  · change { x.bist with msNum := x.bist.msNum + 1 } = _
    rw [hbist]
    rfl
  · have hperf : x.perf = m.perf := by
      unfold x Mod.msReady
      rw [Mod.gnssStore_eq, Mod.lotClose_eq]
      rfl
    rw [milestone_of_due hrun hdue, Mod.snapSeq_perfSnapshot]
    exact congrArg (fun p : PerfSt => (p.snapSeq + 1) % 2 ^ 32) hperf

/-- What a milestone holds is what stands at its instant, but for the lot, which has closed where it was to close. -/
theorem Mod.msContent_ready (m : Mod) (mj : Nat) : m.msReady.msContent mj =
    { m.msContent mj with map := m.lotClose.trk.map, lotId := m.lotClose.trk.lotId, lotOrg := (m.msReady.msContent mj).lotOrg,
                          lotPos := (m.msReady.msContent mj).lotPos } := by
  obtain ⟨hregs, -, hlog, hsys, hbist, htrk, -, -⟩ := m.msReady_keeps
  have htally : m.lotClose.trk.tally = m.trk.tally := by rw [Mod.lotClose_eq]
  simp only [Mod.msContent, Mod.persistent_congr hsys hregs, hlog, hsys, hbist, htrk, htally]

theorem milestone_yields {s : State} {t : Nat} {counts : List (Nat × Nat)} (hrun : s.m.running = true)
    (hdue : s.m.bist.e0 + s.m.bist.msIdx * 5000000 ≤ (s.m.at t).now) : s.Yields (.milestone t counts) fun m' =>
      m'.nv.ms = s.m.nv.ms.set (s.m.bist.msNum % 2) ((s.m.at t).msBegun.msReady.msCopy ((s.m.at t).msInstant s.m.bist.msIdx))
      ∧ m'.bist = { (s.m.at t).msBegun.bist with msNum := s.m.bist.msNum + 1 } ∧ m'.trk = (s.m.at t).msBegun.lotClose.trk
      ∧ m'.perf.snapSeq = (s.m.perf.snapSeq + 1) % 2 ^ 32
      ∧ Mod.Frame t [.bist, .nv, .trk, .gnss, .perf, .free] msWords s.m m' := by
  obtain ⟨hms, hbist, htrk, hsnap⟩ := milestone_leaves (m := s.m.at t) hrun hdue counts
  have hnv : (Mod.run t (milestone counts) s.m).nv.ms = (milestone counts (s.m.at t)).nv.ms :=
    (congrArg Nv.ms (Mod.run_nv t (milestone counts) s.m)).trans rfl
  refine State.yields_run (f := milestone counts) rfl ⟨hnv.trans hms, ?_, ?_, ?_, (Mod.Within.milestone (m := s.m.at t) hrun hdue counts).frame⟩
  · rw [Mod.run_bist, hbist]
    rfl
  · rw [Mod.run_trk, htrk]
  · rw [Mod.run_perf, hsnap]
    rfl

/-! ### MILESTONE_WRITE_FAILED (R417) -/

/-- The copy that a failed write leaves. -/
def MsCopy.spoiled (l : List MsCopy) (n : Nat) : MsCopy := { ok := false, c := ((l[n % 2]?).map (·.c)).getD {} }

/-- The module with the last milestone's copy spoiled. -/
def Mod.msSpoiled (m : Mod) : Mod :=
  { m with nv := { m.nv with ms := m.nv.ms.set ((m.bist.msNum - 1) % 2) (MsCopy.spoiled m.nv.ms (m.bist.msNum - 1)) },
           bist := { m.bist with msFailed := true, fails := m.bist.fails + 1 } }

/-- The module with the failure counted and told. -/
def Mod.msFailing (m : Mod) : Mod :=
  (((m.msSpoiled.inc P.bistMsFails).flag P.bistFlags 4).raise 125 0x0A71 (leBytes 4 (m.bist.msNum - 1))).msShow

theorem milestoneWriteFailed_eq {m : Mod} (hrun : m.running = true) (hfirst : m.bist.msFailed = false) (hidx : m.bist.msIdx ≠ 0) :
    milestoneWriteFailed m = if 2 ≤ m.bist.fails + 1 then m.msFailing.fresh 5 else m.msFailing := by
  unfold milestoneWriteFailed
  rw [if_pos (by simp [hrun, hfirst, hidx])]
  rfl

def failureWords : List Nat := [P.bistMsFails.addr, P.bistFlags.addr, P.bistMsSeq.addr, P.bistMsT.addr]

/-- Once the copy is spoiled, what follows changes words alone. -/
theorem Mod.Within.msFailing_spoiled (m : Mod) : Mod.Within [] failureWords m.msSpoiled m.msFailing :=
  (((Mod.Within.inc _ _ _ _ _ (by decide)).trans (.flag _ _ _ _ (by decide))).trans (.raise _ _ _ _)).trans (.msShow _ (by decide))

theorem Mod.Within.msFailing (m : Mod) : Mod.Within [.bist, .nv] failureWords m m.msFailing := by
  have hspoiled : Mod.Within [.bist, .nv] failureWords m m.msSpoiled :=
    (Mod.Within.ofNv m m.msSpoiled.nv (by decide)).trans (.ofBist _ m.msSpoiled.bist (by decide))
  exact hspoiled.trans ((Mod.Within.msFailing_spoiled m).mono (List.nil_subset _) (List.Subset.refl _))

theorem Mod.msFailing_ms (m : Mod) : m.msFailing.nv.ms = m.msSpoiled.nv.ms :=
  (congrArg Nv.ms (show m.msFailing.nv = { m.msSpoiled.nv with slots := m.msFailing.nv.slots } from
    (Mod.Within.msFailing_spoiled m).areas .nv (by decide))).trans rfl

/-- Of the two copies the spoiled one alone is another. -/
theorem Mod.msSpoiled_copies {m : Mod} (htwo : m.nv.ms.length = 2) (n : Nat) (hn : n = m.bist.msNum - 1) :
    (m.msSpoiled.nv.ms[n % 2]?).map (·.ok) = some false ∧ m.msSpoiled.nv.ms[(n + 1) % 2]? = m.nv.ms[(n + 1) % 2]? := by
  subst hn
  have hin : (m.bist.msNum - 1) % 2 < m.nv.ms.length := by rw [htwo]; exact Nat.mod_lt _ (by decide)
  have hne : (m.bist.msNum - 1) % 2 ≠ (m.bist.msNum - 1 + 1) % 2 := by omega
  exact ⟨congrArg (Option.map (·.ok)) (List.getElem?_set_self hin), List.getElem?_set_ne hne⟩

theorem Mod.rd_msFailing {m : Mod} (hwf : Store.wf m.regs = true) :
    m.msFailing.rd P.bistMsFails = (m.rd P.bistMsFails + 1) % 2 ^ P.bistMsFails.w := by
  have hlt : (m.rd P.bistMsFails + 1) % 2 ^ P.bistMsFails.w < 2 ^ 32 := (Nat.mod_lt _ (by decide)).trans_le (by decide)
  have hshow : ∀ x : Mod, x.msShow.rd P.bistMsFails = x.rd P.bistMsFails := fun x => by
    unfold Mod.msShow
    rw [Mod.rd_wr_other (by decide), Mod.rd_wr_other (by decide)]
  unfold Mod.msFailing
  rw [hshow, Mod.rd_raise, Mod.rd_flag_other (by decide), Mod.inc, Mod.rd_wr (m := m.msSpoiled) hwf]
  exact Nat.mod_eq_of_lt hlt

theorem milestoneWriteFailed_yields {s : State} {t : Nat} (hs : s.Canonical) (hrun : s.m.running = true) (hfirst : s.m.bist.msFailed = false)
    (hidx : s.m.bist.msIdx ≠ 0) (hnone : s.m.bist.fails = 0) : s.Yields (.milestoneWriteFailed t) fun m' =>
      m'.nv.ms = s.m.msSpoiled.nv.ms ∧ m'.rd P.bistMsFails = (s.m.rd P.bistMsFails + 1) % 2 ^ P.bistMsFails.w
      ∧ m'.bist = { s.m.bist with msFailed := true, fails := 1 } ∧ Mod.Frame t [.bist, .nv] failureWords s.m m' := by
  have hmean : milestoneWriteFailed (s.m.at t) = (s.m.at t).msFailing :=
    (milestoneWriteFailed_eq (m := s.m.at t) hrun hfirst hidx).trans (if_neg (by simp [hnone]))
  refine State.yields_run (f := milestoneWriteFailed) rfl ⟨?_, ?_, ?_, Mod.Within.frame (hmean ▸ Mod.Within.msFailing _)⟩
  · have hnv := congrArg Nv.ms (Mod.run_nv t milestoneWriteFailed s.m)
    rw [hmean] at hnv
    exact (hnv.trans rfl).trans (Mod.msFailing_ms _)
  · rw [Mod.run_rd_other _ _ _ (by decide), hmean, Mod.rd_msFailing (m := s.m.at t) hs, Mod.rd_at]
  · rw [Mod.run_bist, hmean]
    refine ((Mod.Within.msFailing_spoiled (s.m.at t)).areas .bist (by decide)).trans ?_
    change { s.m.bist with msFailed := true, fails := s.m.bist.fails + 1 } = _
    rw [hnone]

theorem milestoneWriteFailed_again_yields {s : State} {t : Nat} (hrun : s.m.running = true) (hfirst : s.m.bist.msFailed = false)
    (hidx : s.m.bist.msIdx ≠ 0) (hagain : 1 ≤ s.m.bist.fails) : s.Yields (.milestoneWriteFailed t) fun m' =>
      m'.bist = { phase := .off } ∧ m'.nv.cause = 5 ∧ m'.nv.ms = s.m.msSpoiled.nv.ms ∧ m'.evc.q = [] ∧ m'.net.sessions = [] := by
  have hmean : milestoneWriteFailed (s.m.at t) = (s.m.at t).msFailing.fresh 5 :=
    (milestoneWriteFailed_eq (m := s.m.at t) hrun hfirst hidx).trans (if_pos (Nat.succ_le_succ hagain))
  refine State.yields_run (f := milestoneWriteFailed) rfl ?_
  rw [Mod.run_still hmean rfl]
  exact ⟨rfl, rfl, Mod.msFailing_ms (s.m.at t), rfl, rfl⟩

end Sys2Proof.Machine
end

section
/-!
PROOFS. Restarts, the deep test and the thermal trip (R413, R419 to R422, R466).
-/
namespace Sys2Proof.Machine

/-! ### The end of a run keeps the dome and the clock (R421) -/

/-- The clock and the dome's memory stand. -/
def Mod.KeepsDome (a b : Mod) : Prop := b.now = a.now ∧ b.nv.dome = a.nv.dome

section
variable {a b c : Mod} {as : List Area} {ws : List Nat}

theorem Mod.KeepsDome.refl (m : Mod) : Mod.KeepsDome m m := ⟨rfl, rfl⟩

theorem Mod.KeepsDome.trans (h : Mod.KeepsDome a b) (k : Mod.KeepsDome b c) : Mod.KeepsDome a c := ⟨k.1.trans h.1, k.2.trans h.2⟩

theorem Mod.KeepsDome.foldl {α : Type} {f : Mod → α → Mod} (hf : ∀ m x, Mod.KeepsDome m (f m x)) (l : List α) (m : Mod) :
    Mod.KeepsDome m (l.foldl f m) := by
  induction l generalizing m with
  | nil => exact .refl m
  | cons x r ih => exact (hf m x).trans (ih _)

theorem Mod.Within.keepsDome (h : Mod.Within as ws a b) (hnv : Area.nv ∉ as) : Mod.KeepsDome a b := by
  have hstore : b.nv = { a.nv with slots := b.nv.slots } := h.areas .nv hnv
  exact ⟨h.now, (congrArg Nv.dome hstore).trans rfl⟩

theorem Evented.keepsDome (h : Evented a b) : Mod.KeepsDome a b := ⟨h.now, (congrArg Nv.dome h.nv).trans rfl⟩

end

/-! The pulses and outputs of the engine. -/

theorem Mod.Within.missPulse_at_fault (m : Mod) (p : EPulse) : Mod.Within [.toll, .ej, .trk] missWords m (m.missPulse p 8) := by
  have hleaves : [P.tollExpired1.addr, P.ejBankWaitMax.addr (bankOf p.ch)] ⊆ missWords := by
    intro x hx
    rcases List.mem_pair.1 hx with rfl | rfl
    · exact missWords_single (by decide)
    · exact ejBankWaitMax_mem_missWords p.ch
  rw [Mod.missPulse_eq]
  exact ((Mod.Within.leaves (m := m) (p := p) (by decide) (by decide) hleaves).trans
    (.noteMiss (cause := 8) _ _ _ _ (by decide) (by decide) (by decide) (List.Subset.refl _))).trans
      (.unmerge _ _ (by decide) (missWords_single (by decide)))

theorem Mod.KeepsDome.ejectStop (m : Mod) : Mod.KeepsDome m m.ejectStop := by
  refine Mod.KeepsDome.trans (b := { m with ej := { m.ej with stopped := true } }) ⟨rfl, rfl⟩ (.foldl (fun x id => ?_) _ _)
  split
  · exact (Mod.Within.missPulse_at_fault x _).keepsDome (by decide)
  · exact .refl x

theorem Mod.KeepsDome.ejectCut (m : Mod) : Mod.KeepsDome m m.ejectCut := by
  refine .foldl (fun x c => ?_) _ m
  split
  · exact (Mod.OneCh.cutChannel x c).within.keepsDome (by decide)
  · exact .refl x

/-! The tracks that close. -/

theorem Mod.KeepsDome.tallySettle (m : Mod) (r : Nat) : Mod.KeepsDome m (m.tallySettle r) := by
  unfold Mod.tallySettle
  split
  · exact (Mod.Within.tallyFinal (as := [.trk]) (ws := []) m r (by decide)).keepsDome (by decide)
  · exact .refl m

theorem Mod.KeepsDome.tallyClose (m : Mod) (r : Nat) : Mod.KeepsDome m (m.tallyClose r) := by
  unfold Mod.tallyClose
  split
  · exact Mod.KeepsDome.trans (b := m.setTally r _) ⟨rfl, rfl⟩ (.tallySettle _ _)
  · exact .refl m

theorem Mod.KeepsDome.mapPiece (m : Mod) (a : Account) : Mod.KeepsDome m (m.mapPiece a).1 := by
  unfold Mod.mapPiece
  rw [Mod.lotOrigin_eq]
  dsimp only
  split
  · exact ⟨rfl, rfl⟩
  · split
    · split <;> exact ⟨rfl, rfl⟩
    · exact ⟨rfl, rfl⟩
  · exact .refl m

theorem Mod.KeepsDome.closeTrack (m : Mod) (t : Track) (o : Nat) : Mod.KeepsDome m (m.closeTrack t o) := by
  unfold Mod.closeTrack
  extract_lets m0 trk m1 f1 a
  split
  next m2 noPos hmap =>
  have hmapped : Mod.KeepsDome m1 m2 := by
    split at hmap
    · have hm2 : (m1.mapPiece a).1 = m2 := congrArg Prod.fst hmap
      exact hm2 ▸ .mapPiece m1 a
    · have hm2 : m1 = m2 := congrArg Prod.fst hmap
      exact hm2 ▸ .refl m1
  have hstart : Mod.KeepsDome m m1 := ⟨rfl, rfl⟩
  have htallied : ∀ x : Mod, Mod.KeepsDome x (x.tallyPiece a) := fun x =>
    Mod.KeepsDome.trans (b := ((x.setTally a.recipe (fun t => t.add a)).inc P.trkOut (a.outcome - 1)).lifeCount a.outcome) ⟨rfl, rfl⟩
      (.tallySettle _ _)
  extract_lets t1 done m3
  have hdone : Mod.KeepsDome m2 m3 := ⟨rfl, rfl⟩
  have hrated : Mod.KeepsDome (m3.tallyPiece a) ((m3.tallyPiece a).ratePiece a t.lane) := ⟨rfl, rfl⟩
  exact ((hstart.trans hmapped).trans hdone).trans ((htallied m3).trans hrated)

theorem Mod.KeepsDome.faultClose (m : Mod) (t : Track) : Mod.KeepsDome m (m.faultClose t) := by
  unfold Mod.faultClose
  dsimp only
  split
  · exact Mod.KeepsDome.trans (b := (m.inc P.trkDl 10).raise 53 0x0324 (leBytes 4 t.serial ++ leBytes 1 11)) ⟨rfl, rfl⟩ (.closeTrack _ _ _)
  · exact .closeTrack _ _ _

/-- The store's other parts at the final milestone. -/
theorem Mod.KeepsDome.msReady (m : Mod) : Mod.KeepsDome m m.msReady := by
  obtain ⟨-, hnow, -, -, -, -, -, hdome⟩ := m.msReady_keeps
  exact ⟨hnow, hdome⟩

theorem Mod.KeepsDome.recDrain (m : Mod) : Mod.KeepsDome m m.recDrain :=
  Mod.KeepsDome.trans (b := { m with log := { m.log with q := [] } }) ⟨rfl, rfl⟩
    (.foldl (fun x r => (Evented.recWrite x r).keepsDome) _ _)

/-- The run as it is closed: its pulses cut, its tracks and its interval closed. -/
def Mod.runClosed (m : Mod) : Mod :=
  let m0 := m.ejectStop.ejectCut
  let m1 := m0.trk.live.foldl Mod.faultClose m0
  (m1.tallyClose m1.sys.recipe).raise 125 0x0A75 (outcomeCounts (m0.trk.live.map (fun t => (m0.faultOutcome t).1)))

theorem Mod.closeDown_eq (m : Mod) : m.closeDown =
    (m.runClosed.msReady.flush.recDrain).msCommit m.now := by
  unfold Mod.closeDown Mod.runClosed Mod.msReady
  dsimp only

theorem Mod.KeepsDome.msCommit (m : Mod) (mj : Nat) : Mod.KeepsDome m (m.msCommit mj) :=
  Mod.KeepsDome.trans (b := m.msWritten mj) ⟨rfl, rfl⟩
    ((Mod.Within.msShow (as := []) (ws := msWords) (m.msWritten mj) (List.Subset.refl _)).keepsDome (by decide))

theorem Mod.KeepsDome.closeDown (m : Mod) : Mod.KeepsDome m m.closeDown := by
  have hclosed : Mod.KeepsDome m m.runClosed :=
    (((Mod.KeepsDome.ejectStop m).trans (.ejectCut _)).trans (.foldl Mod.KeepsDome.faultClose _ _)).trans
      ((Mod.KeepsDome.tallyClose _ _).trans (Evented.raise _ _ _ _).keepsDome)
  have hwritten : Mod.KeepsDome m (m.runClosed.msReady.flush.recDrain) :=
    ((hclosed.trans (.msReady _)).trans (Evented.flush _).keepsDome).trans (.recDrain _)
  rw [Mod.closeDown_eq]
  exact hwritten.trans (.msCommit _ _)

/-! ### A word written that is no default, whatever the store's form -/

theorem Store.look_ins_same (l : Store) (a : Nat) (v : Word) : Store.look (Store.ins l a v) a = some v := by
  induction l with
  | nil => simp [Store.ins, Store.look]
  | cons e r ih =>
    obtain ⟨b, w⟩ := e
    simp only [Store.ins]
    split
    · simp [Store.look]
    · next hb =>
      split
      · simp [Store.look]
      · simp only [Store.look, if_neg hb, ih]

theorem Mod.rd_wr_changed (m : Mod) (p : Param) {v : Nat} (h : w32 (v % 2 ^ p.w) ≠ dfltAt p.addr) : (m.wr p v).rd p = v % 2 ^ p.w % 2 ^ 32 := by
  have hget : Store.get (Store.put m.regs p.addr (w32 (v % 2 ^ p.w))) p.addr = w32 (v % 2 ^ p.w) := by
    rw [Store.put, if_neg h, Store.get, Store.look_ins_same, Option.getD_some]
  exact (congrArg BitVec.toNat hget).trans (by simp [w32])

/-! ### The deep test (R413, R442) -/

section
variable {m : Mod} {role slot : Nat}

theorem writeCheck_deep (hrole : 1 ≤ role) : m.writeCheck role P.bistDeep.base 1#32 = .ok (P.bistDeep, 0, 0) := by
  have hp : P.bistDeep.isTrigger = true := rfl
  obtain ⟨hat, halign, hlow, -, hcls, -, hmask, -⟩ := Param.isTrigger_iff.1 hp
  have hbase : P.bistDeep.addr = P.bistDeep.base := rfl
  rw [hbase] at hat halign hlow
  have hbits : P.bistDeep.bitsOk 0 1#32 = true := by simp [Param.bitsOk, hmask]
  have hrole' : role ≠ 0 := Nat.one_le_iff_ne_zero.1 hrole
  have hblock : P.bistDeep.base / 0x1000000 ≠ 12 := by decide
  unfold Mod.writeCheck
  simp [hat, halign, hblock, Nat.not_le.2 hlow, hcls, hrole', hbits, Param.inRange_trigger hp]

/-- The module when a write of BIST_DEEP takes effect. -/
def Mod.deepAsked (m : Mod) : Mod := m.setWord P.bistDeep.base 1#32

theorem deepTestWrite_eq (hrun : m.running = true) (hrole : 1 ≤ role) : deepTestWrite role slot 1#32 false m = deepTest slot false m.deepAsked := by
  have hwrite := writeNow_of_cmd (slot := slot) [] hrun (writeCheck_deep (m := m) hrole) rfl (by decide)
  unfold deepTestWrite
  rw [Bool.false_and, Bool.false_and, if_neg Bool.false_ne_true, hwrite]
  unfold Mod.cmdEffect Mod.deepAsked
  generalize deepTest slot false = f
  rfl

theorem deepTestWrite_cut_eq (hrun : m.running = true) (hrole : 1 ≤ role) : deepTestWrite role slot 1#32 true m = deepTest slot true m := by
  unfold deepTestWrite
  rw [writeCheck_deep hrole, hrun]
  exact if_pos rfl

/-- The module whose dome is erased for the deep test. -/
def Mod.deepErased (m : Mod) (slot : Nat) : Mod := (m.eraseSecrets 2).raise 124 0x0A65 (leBytes 1 slot)

/-- A module whose run is closed, as the deep test begins: the test's cause shown, every output off, and the instant noted. -/
def Mod.darkened (x : Mod) (now : Nat) : Mod :=
  let y := ((x.wr P.bistSafeCause 0x12).setPhase .deep).raise 124 0x0A64 [0x12#8]
  { y.allOff with bist := { y.bist with deepAt := now } }

theorem deepTest_eq (m : Mod) (slot : Nat) : deepTest slot false m = (m.deepErased slot).closeDown.darkened m.now := by
  unfold deepTest Mod.deepErased
  rw [if_neg Bool.false_ne_true]
  dsimp only
  generalize Mod.closeDown _ = x
  rfl

/-- The areas that drive the module's outputs, or read its inputs. -/
def drivenAreas : List Area := [.cams, .panels, .cell, .fus, .trk, .ej, .vlv, .toll, .lsw, .loop, .gnss, .can]

theorem Mod.darkened_off (x : Mod) (now : Nat) : ∀ p ∈ drivenAreas, p.same {} (x.darkened now) := by
  simp only [drivenAreas, List.forall_mem_cons]
  exact ⟨rfl, rfl, rfl, rfl, rfl, rfl, rfl, rfl, rfl, rfl, rfl, rfl, fun p hp => absurd hp List.not_mem_nil⟩

theorem Mod.darkened_keeps (x : Mod) (now : Nat) : Mod.KeepsDome x (x.darkened now) := ⟨rfl, rfl⟩

theorem Mod.darkened_bist (x : Mod) (now : Nat) : (x.darkened now).bist = { x.bist with phase := .deep, deepAt := now } := rfl

theorem Mod.darkened_time (x : Mod) (now : Nat) : (x.darkened now).time = { x.time with pps := false, outs := ({} : TimeSt).outs, validOut := false } := rfl

theorem Mod.darkened_cause (x : Mod) (now : Nat) : (x.darkened now).rd P.bistSafeCause = 0x12 :=
  (Mod.rd_wr_changed x P.bistSafeCause (v := 0x12) (by decide)).trans (by decide)

end

section
variable {s : State} {t role slot : Nat}

theorem deepTest_yields (hrun : s.m.running = true) (hrole : 1 ≤ role) : s.Yields (.deepTest t role slot 1#32 false) fun m' =>
    m'.bist.phase = .deep ∧ m'.nv.dome = ((s.m.at t).deepAsked.eraseSecrets 2).nv.dome ∧ m'.rd P.bistSafeCause = 0x12
      ∧ m'.bist.deepAt = (s.m.at t).now ∧ m'.now = (s.m.at t).now ∧ (∀ p ∈ drivenAreas, p.same {} m')
      ∧ m'.time.pps = false ∧ m'.time.outs = ({} : TimeSt).outs := by
  have hmean : deepTestWrite role slot 1#32 false (s.m.at t)
      = ((s.m.at t).deepAsked.deepErased slot).closeDown.darkened (s.m.at t).deepAsked.now :=
    (deepTestWrite_eq (m := s.m.at t) hrun hrole).trans (deepTest_eq _ _)
  have hclosed := Mod.KeepsDome.closeDown ((s.m.at t).deepAsked.deepErased slot)
  generalize ((s.m.at t).deepAsked.deepErased slot).closeDown = x at hmean hclosed
  obtain ⟨hnow, hdome⟩ := hclosed.trans (x.darkened_keeps (s.m.at t).deepAsked.now)
  have hend := Mod.Within.run_end (as := []) (ws := []) t (deepTestWrite role slot 1#32 false) s.m
  rw [hmean] at hend
  have hstore := (hend.keepsDome List.not_mem_nil).2
  refine State.yields_run (f := deepTestWrite role slot 1#32 false) rfl ⟨?_, hstore.trans hdome, ?_, ?_, hend.now.trans hnow, ?_, ?_, ?_⟩
  · rw [Mod.run_bist, hmean, Mod.darkened_bist]
  · rw [Mod.run_rd_other _ _ _ (by decide), hmean, Mod.darkened_cause]
  · rw [Mod.run_bist, hmean, Mod.darkened_bist]
    rfl
  · exact fun p hp => Area.same_trans (Mod.darkened_off _ _ p hp) (hend.areas p List.not_mem_nil)
  · rw [Mod.run_time, hmean, Mod.darkened_time]
  · rw [Mod.run_time, hmean, Mod.darkened_time]

/-- The mark of an erasure that power cut short. -/
def Dome.marked (d : Dome) : Dome := { d with pending := true, pendCause := 2 }

theorem deepTest_cut_yields (hrun : s.m.running = true) (hrole : 1 ≤ role) : s.Yields (.deepTest t role slot 1#32 true) fun m' =>
    m'.bist = { phase := .off } ∧ m'.nv.cause = 1 ∧ m'.nv.dome = s.m.nv.dome.marked ∧ m'.net.sessions = [] ∧ m'.trk.live = [] := by
  have hmean : deepTestWrite role slot 1#32 true (s.m.at t) = (((s.m.at t).setDome Dome.marked).closeDown).fresh 1 :=
    (deepTestWrite_cut_eq (m := s.m.at t) hrun hrole).trans (if_pos hrun)
  have hdome := (Mod.KeepsDome.closeDown ((s.m.at t).setDome Dome.marked)).2
  generalize ((s.m.at t).setDome Dome.marked).closeDown = x at hmean hdome
  refine State.yields_run (f := deepTestWrite role slot 1#32 true) rfl ?_
  rw [Mod.run_still hmean rfl]
  exact ⟨rfl, rfl, hdome, rfl, rfl⟩

/-- The module with the deep test's result kept. -/
def Mod.deepResult (m : Mod) (w : Word) : Mod := { m with nv := { m.nv with deepRes := w } }

/-- The module whose recorder's queue is empty. -/
def Mod.recEmptied (m : Mod) : Mod := { m with log := { m.log with q := [] } }

theorem Mod.recDrain_of_none {m : Mod} (h : m.log.q = []) : m.recDrain = m.recEmptied := by
  unfold Mod.recDrain
  rw [h]
  rfl

theorem deepTestComplete_yields {result coverage duration : Nat} (hphase : s.m.bist.phase = .deep)
    (hdue : s.m.bist.deepAt + 12000000000 ≤ (s.m.at t).now) (hnone : s.m.log.q = []) (hraised : s.m.evc.raised = []) :
    s.Yields (.deepTestComplete t result coverage duration) fun m' =>
      Restarted { s.m.nv with deepRes := w32 (result % 4 * 2 ^ 30 + coverage % 2 ^ 14 * 2 ^ 16 + duration % 2 ^ 16) } 6 s.m m' := by
  have hgoes : ((s.m.at t).bist.phase = .deep && (s.m.at t).bist.deepAt + 12000000000 ≤ (s.m.at t).now) = true := by
    rw [Bool.and_eq_true, decide_eq_true_eq, decide_eq_true_eq]
    exact ⟨hphase, hdue⟩
  generalize hw : w32 (result % 4 * 2 ^ 30 + coverage % 2 ^ 14 * 2 ^ 16 + duration % 2 ^ 16) = w
  have hmean : deepTestComplete result coverage duration (s.m.at t) = ((s.m.at t).deepResult w).recEmptied.fresh 6 := by
    have hflush : ((s.m.at t).deepResult w).flush = (s.m.at t).deepResult w := Mod.flush_of_none hraised
    have hdrain : ((s.m.at t).deepResult w).recDrain = ((s.m.at t).deepResult w).recEmptied := Mod.recDrain_of_none hnone
    subst hw
    rw [← hdrain, ← hflush]
    exact if_pos hgoes
  exact State.yields_run (f := deepTestComplete result coverage duration) rfl (Restarted.of_run hmean rfl rfl)

theorem supervisoryWatchdog_yields (hrun : s.m.running = true) : s.Yields (.supervisoryWatchdog t) fun m' => Restarted s.m.nv 4 s.m m' :=
  State.yields_run (f := supervisoryWatchdog) rfl (Restarted.of_run (x := s.m.at t) (if_pos hrun) rfl rfl)

end

/-! ### The thermal trip (R241, R466) -/

/-- A restart after words of the module's own were written: those below 0x10 are its identity's. -/
theorem Restarted.of_words {m x : Mod} {t cause : Nat} {f : Mod → Mod} (hf : f (m.at t) = x.fresh cause) (hfree : x.free = m.free)
    (hwords : ∀ a, a < 0x10 → Store.get x.regs a = Store.get m.regs a) : Restarted x.nv cause m (Mod.run t f m) := by
  obtain ⟨hparts, hidentity⟩ := Restarted.of_run (m := { m with regs := x.regs }) (t := t) (f := fun _ => f (m.at t)) hf hfree rfl
  refine ⟨hparts, fun _ a => ?_⟩
  rw [Mod.run_still hf rfl]
  refine (Store.get_canon _ a).trans ((Store.get_filter_lt x.regs 0x10 a).trans ?_)
  split
  · exact hwords a ‹_›
  · rfl

/-- The module that has tripped. -/
def Mod.tripped (m : Mod) (board : Int) : Mod := { m.wrI P.vlvTBoard board with nv := { m.nv with tripped := true } }

theorem boardThermalTrip_of_hot {m : Mod} {board : Int} (hhot : 1100 ≤ board) (hon : m.bist.phase ≠ .off) :
    boardThermalTrip board m = if m.placed then logicDropout 0 (m.tripped board) else (m.tripped board).fresh m.nv.cause := by
  have hgoes : ¬ (decide (board < 1100) || decide (m.bist.phase = .off)) = true := by
    rw [Bool.or_eq_true, decide_eq_true_eq, decide_eq_true_eq]
    exact not_or.2 ⟨not_lt.2 hhot, hon⟩
  exact if_neg hgoes

/-- The supply's store takes over. -/
def TollSt.heldUp (t : TollSt) (now mv store : Nat) : TollSt := { t with holdup := true, holdupAt := now, logicIn := mv, store := store }

/-- The module on its hold-up store. -/
def Mod.heldUp (m : Mod) (mv : Nat) : Mod :=
  (((m.storeCharge.2.setToll (fun t => t.heldUp m.now mv m.storeCharge.1)).flag P.tollFlags (2 ^ 9)).inc P.tollHoldups).raise 1 0x0004 (leBytes 4 mv)

theorem logicDropout_of_zero {m : Mod} (hplaced : m.placed = true) (hheld : m.toll.holdup = false) :
    logicDropout 0 m = if m.running then m.heldUp 0 else m.fresh m.nv.cause := by
  have hlow : 0 < (if m.fieldProfile then 6000 else 9000) := by split <;> decide
  unfold logicDropout Mod.heldUp TollSt.heldUp
  dsimp only
  rw [if_pos (by simp [hplaced, hheld, hlow])]
  cases hrun : m.running
  · rw [if_pos (by rfl), if_neg Bool.false_ne_true]
  · rw [if_neg (by decide), if_pos rfl]

theorem Mod.storeCharge_snd (m : Mod) : m.storeCharge.2 =
    if m.toll.storeAt + 200000000 ≤ m.now || 1100000 ≤ m.toll.store then m else m.draw.2 := by
  unfold Mod.storeCharge
  exact apply_ite Prod.snd _ _ _

/-- The charge is measured with a free value at most. -/
theorem Mod.storeCharge_draws (m : Mod) : m.storeCharge.2 = { m with free := m.storeCharge.2.free } := by
  rw [Mod.storeCharge_snd]
  split <;> rfl

theorem Mod.heldUp_leaves (m : Mod) (mv : Nat) :
    Mod.Within [.toll, .free] [P.tollFlags.addr, P.tollHoldups.addr] m (m.heldUp mv) ∧ (m.heldUp mv).toll = m.toll.heldUp m.now mv m.storeCharge.1 := by
  unfold Mod.heldUp
  rw [Mod.storeCharge_draws]
  exact ⟨(((Mod.Within.ofFree m m.storeCharge.2.free (by decide)).trans (.ofToll _ _ (by decide))).trans (.flag _ _ _ _ (by decide))).trans
    ((Mod.Within.inc _ _ _ _ _ (by decide)).trans (.raise _ _ _ _)), rfl⟩

section
variable {s : State} {t : Nat} {board : Int}

theorem boardThermalTrip_running_yields (hhot : 1100 ≤ board) (hrun : s.m.running = true) (hheld : s.m.toll.holdup = false) :
    s.Yields (.boardThermalTrip t board) fun m' => m'.nv.tripped = true ∧ m'.toll.holdup = true ∧ m'.toll.logicIn = 0
      ∧ m'.toll.holdupAt = (s.m.at t).now ∧ m'.bist = s.m.bist
      ∧ Mod.Frame t [.nv, .toll, .free] [P.vlvTBoard.addr, P.tollFlags.addr, P.tollHoldups.addr] s.m m' := by
  have hphase : s.m.bist.phase = .running := of_decide_eq_true hrun
  have hplaced : s.m.placed = true := by
    unfold Mod.placed
    rw [hphase]
  have hmean : boardThermalTrip board (s.m.at t) = ((s.m.at t).tripped board).heldUp 0 :=
    ((boardThermalTrip_of_hot (m := s.m.at t) hhot (by rw [Mod.at_bist, hphase]; decide)).trans (if_pos hplaced)).trans
      ((logicDropout_of_zero (m := (s.m.at t).tripped board) hplaced hheld).trans (if_pos hrun))
  obtain ⟨hwithin, htoll⟩ := ((s.m.at t).tripped board).heldUp_leaves 0
  have htripped : Mod.Within [.nv, .toll, .free] [P.vlvTBoard.addr, P.tollFlags.addr, P.tollHoldups.addr] (s.m.at t) ((s.m.at t).tripped board) :=
    (Mod.Within.wrI _ P.vlvTBoard board 0 0 (by decide)).trans (.ofNv _ _ (by decide))
  have hwhole := htripped.trans (hwithin.mono (as' := [.nv, .toll, .free]) (ws' := [P.vlvTBoard.addr, P.tollFlags.addr, P.tollHoldups.addr])
    (by decide) (by decide))
  have hstore : (((s.m.at t).tripped board).heldUp 0).nv.tripped = true :=
    (congrArg Nv.tripped (show (((s.m.at t).tripped board).heldUp 0).nv = { ((s.m.at t).tripped board).nv with
      slots := (((s.m.at t).tripped board).heldUp 0).nv.slots } from hwithin.areas .nv (by decide))).trans rfl
  have hnv : (Mod.run t (boardThermalTrip board) s.m).nv.tripped = (boardThermalTrip board (s.m.at t)).nv.tripped :=
    (congrArg Nv.tripped (Mod.run_nv t (boardThermalTrip board) s.m)).trans rfl
  refine State.yields_run (f := boardThermalTrip board) rfl ⟨?_, ?_, ?_, ?_, ?_, Mod.Within.frame (hmean ▸ hwhole)⟩
  · rw [hnv, hmean, hstore]
  · rw [Mod.run_toll, hmean, htoll]
    rfl
  · rw [Mod.run_toll, hmean, htoll]
    rfl
  · rw [Mod.run_toll, hmean, htoll]
    rfl
  · rw [Mod.run_bist, hmean]
    exact hwithin.areas .bist (by decide)

theorem boardThermalTrip_starting_yields (hhot : 1100 ≤ board) (hrun : s.m.running = false) (hon : s.m.bist.phase ≠ .off)
    (hheld : s.m.toll.holdup = false) : s.Yields (.boardThermalTrip t board) fun m' =>
      Restarted { s.m.nv with tripped := true } s.m.nv.cause s.m m' := by
  have hmean : boardThermalTrip board (s.m.at t) = ((s.m.at t).tripped board).fresh s.m.nv.cause := by
    rw [boardThermalTrip_of_hot (m := s.m.at t) hhot hon]
    split
    · next hplaced =>
      exact (logicDropout_of_zero (m := (s.m.at t).tripped board) hplaced hheld).trans (if_neg (ne_true_of_eq_false hrun))
    · rfl
  refine State.yields_run (f := boardThermalTrip board) rfl (Restarted.of_words hmean rfl fun a ha => Store.get_put_other _ _ ?_)
  have hbig : 0x10 ≤ P.vlvTBoard.addr := by decide
  omega

end

/-! ### The obligation -/

/-- Settles O25: the milestone by what it commits, its failure by the copies, and each restart by what it leaves. -/
theorem milestonesCommitAndRestartsFollow : Obligations.MilestonesCommitAndRestartsFollow := by
  unfold Obligations.MilestonesCommitAndRestartsFollow
  refine ⟨⟨fun s t counts _ hrun htwo hdue => ?commits, fun s t hs hrun hfirst hidx _ htwo => ⟨fun hnone => ?fails, fun hagain => ?again⟩⟩,
    fun s t hrun => supervisoryWatchdog_yields hrun, fun s t role slot _ hrun hrole => ?deep, fun s t role slot _ hrun hrole => ?cut,
    fun s t result coverage duration hphase hdue hnone hraised => deepTestComplete_yields hphase hdue hnone hraised,
    fun s t board hhot hrun hheld => boardThermalTrip_running_yields hhot hrun hheld,
    fun s t board hhot hrun hon hheld => boardThermalTrip_starting_yields hhot hrun hon hheld⟩
  case commits =>
    refine (milestone_yields hrun hdue).imp fun m' hm => ?_
    obtain ⟨hms, hbist, htrk, hsnap, hframe⟩ := hm
    have hcontent := (s.m.at t).msBegun.msContent_ready ((s.m.at t).msInstant s.m.bist.msIdx)
    refine ⟨⟨_, hms, rfl, ?_⟩, hbist, fun hasked => ?_, fun hunasked => ?_, hsnap, hframe⟩
    · rw [Mod.msCopy, hcontent, htrk]
      exact ⟨rfl, rfl, rfl, rfl, rfl, rfl, rfl, rfl, rfl, rfl, rfl, rfl, rfl, rfl, rfl, rfl, rfl, rfl⟩
    · rw [htrk]
      exact Mod.lotClose_of_asked (m := (s.m.at t).msBegun) hasked
    · rw [htrk, Mod.lotClose_of_unasked (m := (s.m.at t).msBegun) hunasked]
      rfl
  case fails =>
    obtain ⟨hbad, hother⟩ := Mod.msSpoiled_copies htwo _ rfl
    refine (milestoneWriteFailed_yields hs hrun hfirst hidx hnone).imp fun m' hm => ?_
    obtain ⟨hms, hcount, hbist, hframe⟩ := hm
    exact ⟨hms ▸ hbad, hms ▸ hother, hcount, hbist, hframe⟩
  case again =>
    obtain ⟨hbad, hother⟩ := Mod.msSpoiled_copies htwo _ rfl
    refine (milestoneWriteFailed_again_yields hrun hfirst hidx hagain).imp fun m' hm => ?_
    obtain ⟨hbist, hcause, hms, hq, hsessions⟩ := hm
    exact ⟨hbist, hcause, hms ▸ hbad, hms ▸ hother, hq, hsessions⟩
  case deep =>
    refine (deepTest_yields hrun hrole).imp fun m' hm => ?_
    obtain ⟨hphase, hdome, hcause, hat, hnow, hoff, hpps, houts⟩ := hm
    rw [hdome]
    exact ⟨hphase, rfl, rfl, rfl, rfl, rfl, hcause, hat, hnow, hoff, hpps, houts⟩
  case cut =>
    refine (deepTest_cut_yields hrun hrole).imp fun m' hm => ?_
    obtain ⟨hbist, hcause, hdome, hsessions, hlive⟩ := hm
    rw [hdome]
    exact ⟨hbist, hcause, rfl, rfl, rfl, hsessions, hlive⟩

end Sys2Proof.Machine
end

section
/-!
PROOFS. The start condition, a dip of the supply before the road book is applied, and the core tests (R408, R410 to R412).
-/
namespace Sys2Proof.Machine

/-! ### The start condition (R408, R436, R447) -/

theorem Mod.setWords_eq (m : Mod) (l : List (Nat × Word)) : m.setWords l = { m with regs := (m.setWords l).regs } := by
  unfold Mod.setWords
  induction l generalizing m with
  | nil => rfl
  | cons e r ih =>
    rw [List.foldl_cons, ih]
    rfl

/-- The dome as a start finds it: no nonce, and an erasure to come where one was cut short or the contact asks for it. -/
def Dome.found (d : Dome) (tap : Bool) : Dome := { d with nonce := none, pending := d.pending || tap, pendCause := if d.pending then d.pendCause else 1 }

/-- The module of a start, before the NET parameters of the last road book are set. -/
def Mod.started (m : Mod) (mv : Nat) (tap rec : Bool) : Mod :=
  { m.fresh m.nv.cause with
    nv := { m.nv.findRegions with dome := m.nv.dome.found tap, tripped := false }, toll := { logicIn := mv, logicUp := true },
    bist := { phase := .core, tapHeld := tap, recHeld := rec, erasePend := m.nv.dome.pending, actModel := m.nv.dome.modelKey,
              actVkeys := m.nv.dome.vkeys } }

theorem Mod.begin_eq (m : Mod) (mv : Nat) (tap rec : Bool) : m.begin mv tap rec = (m.started mv tap rec).setWords (m.started mv tap rec).nv.net := rfl

/-- The word that a region's header begins with. -/
def regionMagic (r : Nat) : List Byte := if r = 0 then [0x4B#8, 0x5A#8, 0x46#8, 0x57#8] else [0x4B#8, 0x5A#8, 0x52#8, 0x42#8]

/-- A region as a start finds it: its image is there where its header stands whole. -/
def Region.sought (g : Region) (r : Nat) : Region :=
  if !g.cut && g.bytes.take 4 = regionMagic r then { bytes := g.bytes, st := 0, img := g.bytes } else { bytes := g.bytes, cut := g.cut }

theorem Nv.findRegions_regions (n : Nv) : n.findRegions.regions = n.regions.zipIdx.map (fun e => e.1.sought e.2) := rfl

theorem Region.sought_bytes (g : Region) (r : Nat) : (g.sought r).bytes = g.bytes :=
  (apply_ite Region.bytes _ _ _).trans (ite_self _)

theorem Region.sought_img (g : Region) (r : Nat) :
    (g.sought r).img = if g.cut = false ∧ g.bytes.take 4 = regionMagic r then g.bytes else [] := by
  refine (apply_ite Region.img _ _ _).trans (if_congr ?_ rfl rfl)
  simp only [Bool.and_eq_true, Bool.not_eq_true', decide_eq_true_eq]

/-- The regions of a start hold the bytes that they held. -/
theorem Nv.findRegions_bytes (n : Nv) : n.findRegions.regions.map (·.bytes) = n.regions.map (·.bytes) := by
  rw [Nv.findRegions_regions, List.map_map]
  have hsame : ∀ e ∈ n.regions.zipIdx, ((·.bytes) ∘ fun e : Region × Nat => e.1.sought e.2) e = ((·.bytes) ∘ Prod.fst) e :=
    fun e _ => e.1.sought_bytes e.2
  rw [List.map_congr_left hsame, ← List.map_map, List.zipIdx_map_fst]

/-- The image of a region: its bytes, where its header stands whole. -/
theorem Mod.started_img {m : Mod} {mv r : Nat} {tap rec : Bool} (hin : r < m.nv.regions.length) : ((m.started mv tap rec).region r).img =
    if (m.region r).cut = false ∧ (m.region r).bytes.take 4 = regionMagic r then (m.region r).bytes else [] := by
  have hregion : m.region r = m.nv.regions[r] := List.getD_eq_getElem _ _ hin
  have hfound : (m.started mv tap rec).region r = m.nv.findRegions.regions.getD r {} := rfl
  rw [hfound, hregion, Nv.findRegions_regions, List.getD_eq_getElem _ _ (by simpa using hin), List.getElem_map, List.getElem_zipIdx,
    Nat.zero_add, Region.sought_img]

section
variable {s : State} {t mv : Nat} {board : Int} {tap rec : Bool}

theorem startCondition_of_met {m : Mod} (hphase : m.bist.phase.startable = true) (hmv : 9500 ≤ mv) (hboard : m.nv.tripped = true → board ≤ 950) :
    startCondition mv board tap rec m = m.begin mv tap rec := by
  have hcool : (m.nv.tripped && decide (950 < board)) = false := by
    cases htripped : m.nv.tripped
    · rfl
    · exact decide_eq_false (not_lt.2 (hboard htripped))
  exact if_pos (by simp [hphase, hmv, hcool])

theorem startCondition_of_unmet {m : Mod} (h : m.bist.phase.startable = false ∨ mv < 9500 ∨ (m.nv.tripped = true ∧ 950 < board)) :
    startCondition mv board tap rec m = m := by
  refine if_neg ?_
  simp only [Bool.and_eq_true, decide_eq_true_eq, Bool.not_eq_true', Bool.and_eq_false_iff, decide_eq_false_iff_not]
  rintro ⟨⟨hphase, hmv⟩, hcool⟩
  rcases h with h | h | ⟨htripped, hhot⟩
  · exact absurd hphase (ne_true_of_eq_false h)
  · omega
  · rcases hcool with h | h
    · exact absurd htripped (ne_true_of_eq_false h)
    · exact h hhot

/-- A start leaves the module as it finds it, with the NET parameters set. -/
theorem startCondition_yields (hphase : s.m.bist.phase.startable = true) (hmv : 9500 ≤ mv) (hboard : s.m.nv.tripped = true → board ≤ 950) :
    s.Yields (.startCondition t mv board tap rec) fun m' => ∃ l, m' = { (s.m.at t).started mv tap rec with regs := l } := by
  have hmean : startCondition mv board tap rec (s.m.at t) = { (s.m.at t).started mv tap rec with
      regs := (((s.m.at t).started mv tap rec).setWords ((s.m.at t).started mv tap rec).nv.net).regs } :=
    (startCondition_of_met (m := s.m.at t) hphase hmv hboard).trans ((Mod.begin_eq _ _ _ _).trans (Mod.setWords_eq _ _))
  refine State.yields_run (f := startCondition mv board tap rec) rfl ?_
  rw [Mod.run_still hmean rfl]
  exact ⟨_, rfl⟩

/-! ### A dip before the road book is applied (R408) -/

theorem startSupplyDip_of_early {m : Mod} (hphase : m.bist.phase ∈ [Phase.core, .tests, .checks, .memory, .rbInvalid, .safe, .recovery])
    (hmv : mv < 9000) : startSupplyDip mv m = m.fresh m.nv.cause := by
  unfold startSupplyDip
  simp only [List.mem_cons, List.not_mem_nil, or_false] at hphase
  rcases hphase with h | h | h | h | h | h | h <;> rw [h] <;> exact if_pos hmv

theorem startSupplyDip_of_applied {m : Mod} (hphase : m.bist.phase ∈ [Phase.outputs, .ready, .running]) : startSupplyDip mv m = m := by
  unfold startSupplyDip
  simp only [List.mem_cons, List.not_mem_nil, or_false] at hphase
  rcases hphase with h | h | h <;> rw [h]

end

/-! ### The reports of core tests (R411) -/

/-- The word of BIST_RES that a report writes. -/
def resultWord (r : TestRes) : Nat := r.result % 4 * 2 ^ 30 + r.coverage % 2 ^ 14 * 2 ^ 16 + r.duration % 2 ^ 16

/-- The module with a report's words. -/
def Mod.testNoted (m : Mod) (r : TestRes) : Mod :=
  ((m.wr P.bistRes (resultWord r) r.test).wr P.bistUnit ((failedUnits r).headD 0) r.test).wr P.bistUnits (failedUnits r).length r.test

theorem testReport_of_core {m : Mod} {r : TestRes} (hcore : r.test < 5) (hran : r.result < 3) : m.testReport r =
    if r.result = 2 then (m.testNoted r).raise 124 0x0A62 (leBytes 1 r.test ++ leBytes 1 r.pre) else m.testNoted r := by
  unfold Mod.testReport
  dsimp only
  rw [if_pos hcore, if_neg hran.ne]
  rfl

/-- A report changes its own words alone, and raises at most an event. -/
theorem testReport_core {m : Mod} {r : TestRes} (hcore : r.test < 5) (hran : r.result < 3) :
    (m.testReport r).regs = (m.testNoted r).regs ∧ (m.testReport r).nv = m.nv ∧ (m.testReport r).log = m.log := by
  have hnoted : (m.testNoted r).nv = m.nv ∧ (m.testNoted r).log = m.log := by
    unfold Mod.testNoted
    exact ⟨by rw [Mod.wr_nv, Mod.wr_nv, Mod.wr_nv], by rw [Mod.wr_log, Mod.wr_log, Mod.wr_log]⟩
  obtain ⟨hnv, hlog⟩ := hnoted
  rw [testReport_of_core hcore hran]
  by_cases h : r.result = 2
  · rw [if_pos h]
    exact ⟨Mod.raise_regs .., (Mod.raise_nv ..).trans hnv, (Mod.raise_log ..).trans hlog⟩
  · rw [if_neg h]
    exact ⟨rfl, hnv, hlog⟩

theorem Mod.testResult_congr {a b : Mod} (h : b.regs = a.regs) (n : Nat) : b.testResult n = a.testResult n := by
  unfold Mod.testResult Mod.rd Mod.word
  rw [h]

theorem field_resultWord (r : TestRes) (hran : r.result < 3) : field ((resultWord r) % 2 ^ 32 % 2 ^ 32) 31 30 = r.result := by
  have hcoverage : r.coverage % 2 ^ 14 < 2 ^ 14 := Nat.mod_lt _ (by decide)
  have hduration : r.duration % 2 ^ 16 < 2 ^ 16 := Nat.mod_lt _ (by decide)
  unfold field resultWord
  omega

theorem Mod.testResult_testNoted {m : Mod} {r : TestRes} (hwf : Store.wf m.regs = true) (hran : r.result < 3) (n : Nat) :
    (m.testNoted r).testResult n = if n = r.test then r.result else m.testResult n := by
  have hunits : P.bistRes.addr n ≠ P.bistUnits.addr r.test := by simp only [Param.addr, P.bistRes, P.bistUnits]; omega
  have hunit : P.bistRes.addr n ≠ P.bistUnit.addr r.test := by simp only [Param.addr, P.bistRes, P.bistUnit]; omega
  unfold Mod.testResult Mod.testNoted
  rw [Mod.rd_wr_other hunits, Mod.rd_wr_other hunit]
  split
  · next h =>
    rw [h, Mod.rd_wr hwf]
    exact field_resultWord r hran
  · next h =>
    have hres : P.bistRes.addr n ≠ P.bistRes.addr r.test := by simp only [Param.addr, P.bistRes]; omega
    rw [Mod.rd_wr_other hres]

/-- Reports of core tests, each of its own test. -/
structure CoreReports (l : List TestRes) : Prop where
  core : ∀ r ∈ l, r.test < 5
  ran : ∀ r ∈ l, r.result < 3
  single : (l.map (·.test)).Nodup

theorem CoreReports.tail {r : TestRes} {l : List TestRes} (h : CoreReports (r :: l)) : CoreReports l :=
  ⟨fun x hx => h.core x (List.mem_cons_of_mem _ hx), fun x hx => h.ran x (List.mem_cons_of_mem _ hx), (List.nodup_cons.1 h.single).2⟩

/-- After its reports a core test's result is the one reported; a test without a report keeps its own. -/
theorem CoreReports.results {l : List TestRes} (h : CoreReports l) (m : Mod) (hwf : Store.wf m.regs = true) :
    (∀ r ∈ l, (l.foldl Mod.testReport m).testResult r.test = r.result)
      ∧ ∀ n, n < 5 → n ∉ l.map (·.test) → (l.foldl Mod.testReport m).testResult n = m.testResult n := by
  induction l generalizing m with
  | nil => exact ⟨fun _ hr => absurd hr List.not_mem_nil, fun _ _ _ => rfl⟩
  | cons r l ih =>
    have hcore := h.core r List.mem_cons_self
    have hran := h.ran r List.mem_cons_self
    have hnoted : ∀ n, (m.testReport r).testResult n = if n = r.test then r.result else m.testResult n := fun n =>
      (Mod.testResult_congr (testReport_core hcore hran).1 n).trans (Mod.testResult_testNoted hwf hran n)
    obtain ⟨hreported, hkept⟩ := ih h.tail (m.testReport r) ((Mod.Within.testReport (as := []) m (List.mem_singleton_self _)).wf hwf)
    have hnew : r.test ∉ l.map (·.test) := (List.nodup_cons.1 h.single).1
    refine ⟨fun x hx => ?_, fun n hn hnot => ?_⟩
    · rcases List.mem_cons.1 hx with rfl | hx
      · rw [List.foldl_cons, hkept _ hcore hnew, hnoted, if_pos rfl]
      · exact hreported x hx
    · obtain ⟨hne, hrest⟩ := not_or.1 (List.mem_cons.not.1 hnot)
      rw [List.foldl_cons, hkept n hn hrest, hnoted, if_neg hne]

end Sys2Proof.Machine
end

section
/-!
PROOFS. The end of the core tests: SAFE by the first that failed, a retry, or the milestone restored (R408, R410 to R412, R418).
-/
namespace Sys2Proof.Machine

/-! ### The three ends of the core tests -/

section
variable {m : Mod} {res : List TestRes}

/-- The module with the core tests' reports. -/
def Mod.coreReported (m : Mod) (res : List TestRes) : Mod := res.foldl Mod.testReport m

theorem CoreReports.reported (h : CoreReports res) (m : Mod) : m.testReports res [0, 1, 2, 3, 4] = m.coreReported res := by
  unfold Mod.testReports Mod.coreReported
  rw [List.filter_eq_self.2 fun r hr => ?_]
  have hlt := h.core r hr
  rw [List.contains_iff_mem]
  simp only [List.mem_cons, List.not_mem_nil, or_false]
  omega

/-- The reports leave the store, the recorder and every area. -/
theorem CoreReports.keeps (h : CoreReports res) (m : Mod) : (m.coreReported res).nv = m.nv ∧ (m.coreReported res).log = m.log
    ∧ Mod.Within [] (testWords [0, 1, 2, 3, 4]) m (m.coreReported res) := by
  unfold Mod.coreReported
  induction res generalizing m with
  | nil => exact ⟨rfl, rfl, .refl m⟩
  | cons r l ih =>
    have hcore := h.core r List.mem_cons_self
    obtain ⟨-, hnv, hlog⟩ := testReport_core (m := m) hcore (h.ran r List.mem_cons_self)
    obtain ⟨hnvs, hlogs, hrest⟩ := ih h.tail (m.testReport r)
    have hmem : r.test ∈ [0, 1, 2, 3, 4] := by simp only [List.mem_cons, List.not_mem_nil, or_false]; omega
    exact ⟨hnvs.trans hnv, hlogs.trans hlog, (Mod.Within.testReport m hmem).trans hrest⟩

/-- Where no erasure is due, core test 3 leaves the dome. -/
theorem Mod.startErase_of_none (h : m.nv.dome.pending = false) : m.startErase = m := by
  unfold Mod.startErase
  rw [if_pos (by rw [h]; rfl)]

theorem Mod.coreTests_of_failed (h : CoreReports res) (hpending : m.nv.dome.pending = false) {k : Nat} (hk : k < 5)
    (hfailed : (m.coreReported res).testResult k = 1) (hfirst : ∀ n, n < k → (m.coreReported res).testResult n ≠ 1) :
    m.coreTests res = (m.coreReported res).coreDone (some (k + 1)) := by
  have hdome : (m.coreReported res).nv.dome.pending = false := by rw [(h.keeps m).1, hpending]
  have hfind : (List.range 5).find? (fun n => decide ((m.coreReported res).testResult n = 1)) = some k := by
    rw [List.find?_range_eq_some]
    exact ⟨decide_eq_true hfailed, List.mem_range.2 hk, fun n hn => by simpa using hfirst n hn⟩
  unfold Mod.coreTests
  dsimp only
  rw [h.reported, Mod.startErase_of_none hdome, ite_self, hfind]

theorem Mod.coreTests_of_unfailed (h : CoreReports res) (hpending : m.nv.dome.pending = false)
    (hnone : ∀ n, n < 5 → (m.coreReported res).testResult n ≠ 1) : m.coreTests res =
      if (List.range 5).any (fun n => (m.coreReported res).testResult n = 2)
      then { m.coreReported res with bist := { (m.coreReported res).bist with retryAt := some (m.coreReported res).now } }
      else (m.coreReported res).coreDone none := by
  have hdome : (m.coreReported res).nv.dome.pending = false := by rw [(h.keeps m).1, hpending]
  have hfind : (List.range 5).find? (fun n => decide ((m.coreReported res).testResult n = 1)) = none := by
    rw [List.find?_eq_none]
    intro n hn
    simpa using hnone n (List.mem_range.1 hn)
  unfold Mod.coreTests
  dsimp only
  rw [h.reported, Mod.startErase_of_none hdome, ite_self, hfind]

end

/-! ### SAFE (R412) -/

theorem Mod.enterSafe_regs (m : Mod) (cause : Nat) : (m.enterSafe cause).regs = (m.safeMarked cause).regs := by
  unfold Mod.enterSafe Mod.safeMarked
  rw [Mod.recJudge_regs, Mod.raise_regs, Mod.raise_regs]

/-- A cause of SAFE is another word than that of a start, and is shown whole. -/
theorem safeCause_shown : ∀ c < 16, c ≠ 0 → w32 (c % 2 ^ P.bistSafeCause.w) ≠ dfltAt P.bistSafeCause.addr ∧ c % 2 ^ P.bistSafeCause.w % 2 ^ 32 = c := by
  decide

theorem Mod.rd_safeCause (m : Mod) {c : Nat} (hc : c < 16) (hne : c ≠ 0) : (m.wr P.bistSafeCause c).rd P.bistSafeCause = c := by
  obtain ⟨hdflt, hwhole⟩ := safeCause_shown c hc hne
  exact (Mod.rd_wr_changed m P.bistSafeCause hdflt).trans hwhole

/-- Core tests that end in SAFE show its cause. -/
theorem Mod.coreDone_safe (m : Mod) {c : Nat} (hc : c < 16) (hne : c ≠ 0) :
    (m.coreDone (some c)).bist.phase = .safe ∧ (m.coreDone (some c)).rd P.bistSafeCause = c := by
  have hsafe : ∀ x : Mod, (x.enterSafe c).bist.phase = .safe ∧ (x.enterSafe c).rd P.bistSafeCause = c := fun x => by
    refine ⟨by rw [Mod.enterSafe_bist], ?_⟩
    unfold Mod.rd Mod.word
    rw [Mod.enterSafe_regs]
    exact Mod.rd_safeCause { x with bist := { x.bist with phase := .safe, fwVersion := 0 } } hc hne
  unfold Mod.coreDone
  split
  · next h =>
    have hone : c = 1 := Option.some.inj h
    subst hone
    exact ⟨rfl, Mod.rd_safeCause m hc hne⟩
  · exact hsafe _

/-! ### The milestone restored (R393 to R395, R418) -/

section
variable {m : Mod} {c : MsContent}

/-- The module with what a milestone holds. -/
def Mod.recalled (m : Mod) (c : MsContent) : Mod :=
  { m with
    trk := { m.trk with tally := c.tally, map := c.map, lotId := c.lotId, lotSec := c.lotOrg.1,
                        lotOrg := if c.lotPos then some c.lotOrg.2 else none },
    log := { m.log with oldest := c.oldest, next := c.next, clears := c.clears, opSec := (c.opSec + m.log.opSec) % 2 ^ 32 },
    bist := { m.bist with life := c.life, unacc := c.unacc, unaccFirst := c.unaccFirst, serial := (c.serial + 65536) % 2 ^ 32,
                          serialFrom := some c.serial, msNum := c.num + 1 } }

/-- The recorder's bounds at a start: records beyond its size have gone. -/
def Mod.bounded (m : Mod) : Mod :=
  { m with log := { m.log with oldest := if 8192 < m.log.fill then (m.log.next + 2 ^ 32 - 8192) % 2 ^ 32 else m.log.oldest,
                               full := 8192 ≤ m.log.fill, ready := true } }

/-- The record that is torn, where one is, dropped; and the recorder's own records written. -/
def Mod.recRestart (m : Mod) (torn : Bool) : Mod := (if torn then m.dropTorn else m).recBegin

theorem Mod.restore_eq (m : Mod) (c : MsContent) :
    m.restore c = ((Mod.adopt 8192 (m.recalled c)).1.bounded.recRestart (Mod.adopt 8192 (m.recalled c)).2).msShow := by
  unfold Mod.restore Mod.recalled Mod.bounded Mod.recRestart
  dsimp only

/-- The adoption of records moves the next number alone. -/
theorem Mod.adopt_eq (n : Nat) (m : Mod) : (Mod.adopt n m).1 = { m with log := { m.log with next := (Mod.adopt n m).1.log.next } } := by
  induction n generalizing m with
  | zero => rfl
  | succ n ih =>
    unfold Mod.adopt
    split
    · rfl
    split
    · rfl
    split
    · rfl
    · rw [ih]

/-- No record is adopted where the next slot is empty. -/
theorem Mod.adopt_of_empty {n : Nat} (h : assocGet m.nv.slots (m.log.next % 8192) = none) : Mod.adopt (n + 1) m = (m, false) := by
  unfold Mod.adopt Mod.recAt
  rw [h]

theorem Evented.recBegin (h : m.log.ready = true) : Evented m m.recBegin := by
  unfold Mod.recBegin
  refine Evented.trans (Evented.ofLog m _ ?_) (.foldl Evented.recWrite _ _)
  rw [← h]

theorem Evented.dropTorn (m : Mod) : Evented m m.dropTorn :=
  ((Evented.ofLog m _ rfl).trans (.mark _ _ _)).trans (.recInternal _ _ _)

theorem Evented.recRestart (h : m.log.ready = true) (torn : Bool) : Evented m (m.recRestart torn) := by
  unfold Mod.recRestart
  split
  · have hdrop := Evented.dropTorn m
    exact hdrop.trans (.recBegin (by rw [hdrop.log]; exact h))
  · exact .recBegin h

end

/-! ### What the events of a start keep (R418, R422, R424) -/

/-- The map, the lot, and the counts of the run stand. -/
structure Mod.HoldsRun (a b : Mod) : Prop where
  map : b.trk.map = a.trk.map
  lot : b.trk.lotId = a.trk.lotId
  life : b.bist.life = a.bist.life
  serial : b.bist.serial = a.bist.serial
  num : b.bist.msNum = a.bist.msNum
  held : b.bist.recHeld = a.bist.recHeld

theorem Mod.HoldsRun.refl (m : Mod) : Mod.HoldsRun m m := ⟨rfl, rfl, rfl, rfl, rfl, rfl⟩

theorem Mod.HoldsRun.trans {a b c : Mod} (h : Mod.HoldsRun a b) (k : Mod.HoldsRun b c) : Mod.HoldsRun a c :=
  ⟨k.map.trans h.map, k.lot.trans h.lot, k.life.trans h.life, k.serial.trans h.serial, k.num.trans h.num, k.held.trans h.held⟩

theorem Mod.HoldsRun.of_eq {a b : Mod} (htrk : b.trk = a.trk) (hbist : b.bist = a.bist) : Mod.HoldsRun a b :=
  ⟨congrArg TrkSt.map htrk, congrArg TrkSt.lotId htrk, congrArg BistSt.life hbist, congrArg BistSt.serial hbist, congrArg BistSt.msNum hbist,
    congrArg BistSt.recHeld hbist⟩

/-- The words that the events of a start change. -/
def startToldWords : List Nat := [P.bistStartCause.addr, P.bistFlags.addr]

/-- A change that the events of a start make: of the tallies, the account of lost pieces and some words. -/
structure Mod.Starts (a b : Mod) : Prop where
  run : Mod.HoldsRun a b
  within : Mod.Within [.trk, .bist] startToldWords a b

theorem Mod.Starts.refl (m : Mod) : Mod.Starts m m := ⟨.refl m, .refl m⟩

theorem Mod.Starts.trans {a b c : Mod} (h : Mod.Starts a b) (k : Mod.Starts b c) : Mod.Starts a c :=
  ⟨h.run.trans k.run, h.within.trans k.within⟩

theorem Mod.Starts.of_within {a b : Mod} (h : Mod.Within [] startToldWords a b) : Mod.Starts a b :=
  ⟨.of_eq (h.areas .trk List.not_mem_nil) (h.areas .bist List.not_mem_nil), h.mono (List.nil_subset _) (List.Subset.refl _)⟩

theorem Mod.Starts.foldl {α : Type} {f : Mod → α → Mod} (hf : ∀ m x, Mod.Starts m (f m x)) (l : List α) (m : Mod) :
    Mod.Starts m (l.foldl f m) := by
  induction l generalizing m with
  | nil => exact .refl m
  | cons x r ih => exact (hf m x).trans (ih _)

theorem Mod.Starts.raise (m : Mod) (src code : Nat) (d : List Byte) : Mod.Starts m (m.raise src code d) := .of_within (.raise _ _ _ _)

theorem Mod.Starts.setTally (m : Mod) (r : Nat) (f : Tally → Tally) : Mod.Starts m (m.setTally r f) :=
  ⟨⟨rfl, rfl, rfl, rfl, rfl, rfl⟩, .setTally m r f (by decide)⟩

theorem Mod.Starts.tallyRecover (m : Mod) (mj : Nat) : Mod.Starts m (m.tallyRecover mj) := by
  refine .foldl (fun x r => ?_) _ m
  split
  · exact (Mod.Starts.setTally x r _).trans ((Mod.Starts.setTally _ r _).trans (.raise _ _ _ _))
  · exact .refl x

/-- The account of the pieces that an unrecovered restart lost (R422). -/
def Mod.unaccounted (m : Mod) (serial : Nat) : Mod :=
  { m with bist := { m.bist with unrecovered := true, unacc := (m.bist.unacc + 65536) % 2 ^ 32, unaccFirst := serial } }

theorem Mod.Starts.unaccounted (m : Mod) (serial : Nat) : Mod.Starts m (m.unaccounted serial) :=
  ⟨⟨rfl, rfl, rfl, rfl, rfl, rfl⟩, .ofBist m _ (by decide)⟩

theorem Mod.Starts.startEvents (m : Mod) (c : MsContent) : Mod.Starts m (m.startEvents c) := by
  unfold Mod.startEvents
  extract_lets cause m1 m2 m3 m4
  have hcause : Mod.Starts m m1 := (Mod.Starts.of_within (.wr _ _ _ _ _ (by decide))).trans (.raise _ _ _ _)
  have hcopy : Mod.Starts m1 m2 := by
    unfold m2
    split
    · exact .raise _ _ _ _
    · exact .refl m1
  have htold : Mod.Starts m2 m3 := by
    unfold m3
    split
    · exact .raise _ _ _ _
    · exact .refl m2
  have htallied : Mod.Starts m m4 := ((hcause.trans hcopy).trans htold).trans (.tallyRecover m3 c.mj)
  split
  · exact (htallied.trans (.unaccounted m4 c.serial)).trans ((Mod.Starts.of_within (.flag _ _ _ _ (by decide))).trans (.raise _ _ _ _))
  · exact htallied

/-! ### The module once its milestone is restored -/

section
variable {m : Mod} {c : MsContent}

/-- The module with its power cycle counted, its milestone restored and its start told. -/
def Mod.restored (m : Mod) (c : MsContent) : Mod := (m.countCycle.restore c).startEvents c

/-- The restored module as the next phase finds it. -/
def Mod.resumed (m : Mod) (c : MsContent) : Mod :=
  { m.restored c with nv := { (m.restored c).nv with cause := 0 }, bist := { (m.restored c).bist with retryAt := none } }

theorem Mod.restoreMram_of_some (h : m.nv.milestone = some c) : m.restoreMram = (m.restored c, true) := by
  unfold Mod.restoreMram
  dsimp only
  rw [show m.countCycle.nv.milestone = some c from h]
  rfl

theorem Mod.coreDone_of_restored (h : m.nv.milestone = some c) (hfirmware : (m.resumed c).firmwareOk = true)
    (hheld : (m.resumed c).bist.recHeld = false) : m.coreDone none = (m.resumed c).noteFirmware.setPhase .tests := by
  unfold Mod.coreDone
  rw [if_neg (by simp), Mod.restoreMram_of_some h]
  refine (if_neg (c := (!(m.resumed c).firmwareOk) = true) (by simp [hfirmware])).trans ?_
  exact if_neg (ne_true_of_eq_false hheld)

/-- The module that the milestone's contents are put into, with its records adopted. -/
def Mod.rewound (m : Mod) (c : MsContent) : Mod := (Mod.adopt 8192 (m.countCycle.recalled c)).1.bounded

/-- Of the recorder the next number and its bounds alone follow from what its slots hold. -/
theorem Mod.rewound_eq (m : Mod) (c : MsContent) : ∃ (old next : Nat) (full : Bool), m.rewound c = { m.countCycle.recalled c with
    log := { (m.countCycle.recalled c).log with oldest := old, next := next, full := full, ready := true } } := by
  unfold Mod.rewound
  rw [Mod.adopt_eq]
  exact ⟨_, _, _, rfl⟩

theorem Mod.rewound_oldest (hempty : assocGet m.nv.slots (c.next % 8192) = none)
    (hfill : ({ oldest := c.oldest, next := c.next } : LogSt).fill ≤ 8192) : (m.rewound c).log.oldest = c.oldest := by
  unfold Mod.rewound
  rw [Mod.adopt_of_empty (m := m.countCycle.recalled c) hempty]
  exact if_neg (not_lt.2 hfill)

theorem Mod.restored_starts (m : Mod) (c : MsContent) : ∃ x, Evented (m.rewound c) x ∧ Mod.Starts x.msShow (m.restored c) := by
  have hready : (m.rewound c).log.ready = true := rfl
  refine ⟨_, Evented.recRestart hready (Mod.adopt 8192 (m.countCycle.recalled c)).2, ?_⟩
  unfold Mod.restored
  rw [Mod.restore_eq]
  exact .startEvents _ c

/-- What a restored milestone leaves, of the run and of the store (R393 to R395, R418). -/
structure Mod.Resumes (c : MsContent) (m x : Mod) : Prop where
  retry : x.bist.retryAt = none
  life : x.bist.life = c.life
  serial : x.bist.serial = (c.serial + 65536) % 2 ^ 32
  num : x.bist.msNum = c.num + 1
  map : x.trk.map = c.map
  lot : x.trk.lotId = c.lotId
  cycles : x.log.cycles = (m.nv.cycles + 1) % 2 ^ 24
  counted : x.nv.cycles = (m.nv.cycles + 1) % 2 ^ 24
  ready : x.log.ready = true
  seconds : x.log.opSec = (c.opSec + m.log.opSec) % 2 ^ 32
  copies : x.nv.ms = m.nv.ms
  oldest : assocGet m.nv.slots (c.next % 8192) = none → ({ oldest := c.oldest, next := c.next } : LogSt).fill ≤ 8192 → x.log.oldest = c.oldest

/-- After the milestone's contents stand, a start changes the tallies, an account and some words. -/
theorem Mod.Within.restored (m : Mod) (c : MsContent) :
    Mod.Within [.trk, .bist] (startToldWords ++ msWords) (m.rewound c) (m.restored c) ∧ Mod.HoldsRun (m.rewound c) (m.restored c) := by
  obtain ⟨x, hevents, hstarts⟩ := m.restored_starts c
  have hshow : Mod.Within [] msWords x x.msShow := .msShow x (List.Subset.refl _)
  refine ⟨((Mod.Within.of_evented hevents).trans (hshow.mono (List.nil_subset _) (by decide))).trans
    (hstarts.within.mono (List.Subset.refl _) (by decide)), ?_⟩
  exact ((Mod.HoldsRun.of_eq hevents.trk hevents.bist).trans
    (.of_eq (hshow.areas .trk List.not_mem_nil) (hshow.areas .bist List.not_mem_nil))).trans hstarts.run

theorem Mod.resumed_resumes (m : Mod) (c : MsContent) : Mod.Resumes c m (m.resumed c) ∧ (m.resumed c).bist.recHeld = m.bist.recHeld := by
  obtain ⟨hwithin, hrun⟩ := Mod.Within.restored m c
  obtain ⟨old, next, full, hrewound⟩ := m.rewound_eq c
  have holdest := fun he hf => (Mod.rewound_oldest (m := m) (c := c) he hf)
  have hlog := hwithin.areas .log (by decide)
  have hnv : (m.restored c).nv = { (m.rewound c).nv with slots := (m.restored c).nv.slots } := hwithin.areas .nv (by decide)
  obtain ⟨hold, -, hopSec, hcycles, -, -, -, -, -, -, hready, -⟩ := hlog
  obtain ⟨hmap, hlot, hlife, hserial, hnum, hheld⟩ := hrun
  have hnvc : (m.resumed c).nv.cycles = (m.rewound c).nv.cycles := (congrArg Nv.cycles hnv).trans rfl
  have hnvms : (m.resumed c).nv.ms = (m.rewound c).nv.ms := (congrArg Nv.ms hnv).trans rfl
  rw [hrewound] at hmap hlot hlife hserial hnum hheld hopSec hcycles hready hnvc hnvms
  exact ⟨⟨rfl, hlife, hserial, hnum, hmap, hlot, hcycles, hnvc, hready, hopSec, hnvms, fun he hf => hold.trans (holdest he hf)⟩, hheld⟩

theorem Mod.firmwareOk_congr {a b : Mod} (hregions : b.nv.regions = a.nv.regions) (hdome : b.nv.dome = a.nv.dome)
    (hvariant : b.rd P.sysVariant = a.rd P.sysVariant) (hrev : b.rd P.sysHwRev = a.rd P.sysHwRev) : b.firmwareOk = a.firmwareOk := by
  unfold Mod.firmwareOk checkFirmware Mod.region
  rw [hregions, hdome, hvariant, hrev]

/-- The firmware is judged as before the restoration. -/
theorem Mod.firmwareOk_resumed {m : Mod} (hwf : Store.wf m.regs = true) (c : MsContent) : (m.resumed c).firmwareOk = m.firmwareOk := by
  have hwithin := (Mod.Within.restored m c).1
  obtain ⟨old, next, full, hrewound⟩ := m.rewound_eq c
  have hnv : (m.restored c).nv = { (m.rewound c).nv with slots := (m.restored c).nv.slots } := hwithin.areas .nv (by decide)
  have hregs : (m.rewound c).regs = m.regs := by rw [hrewound]; rfl
  have hread : ∀ p : Param, p.addr ∉ startToldWords ++ msWords → p.addr ≠ P.loopFlags.addr → (m.restored c).rd p = m.rd p := fun p hp hl =>
    (hwithin.rd_eq (by rw [hregs]; exact hwf) hp hl).trans (by unfold Mod.rd Mod.word; rw [hregs])
  refine Mod.firmwareOk_congr ?_ ?_ (hread P.sysVariant (by decide) (by decide)) (hread P.sysHwRev (by decide) (by decide))
  · exact (congrArg Nv.regions hnv).trans (by rw [hrewound]; rfl)
  · exact (congrArg Nv.dome hnv).trans (by rw [hrewound]; rfl)

end

/-! ### The commands -/

section
variable {s : State} {t : Nat} {res : List TestRes} {c : MsContent}

/-- Core tests that all pass restore the milestone, and the sequence goes on. -/
theorem Mod.coreTests_of_passed {m : Mod} (h : CoreReports res) (hwf : Store.wf m.regs = true) (hpending : m.nv.dome.pending = false)
    (hpassed : ∀ n, n < 5 → (m.coreReported res).testResult n = 0) (hms : m.nv.milestone = some c) (hfirmware : m.firmwareOk = true)
    (hheld : m.bist.recHeld = false) : m.coreTests res = ((m.coreReported res).resumed c).noteFirmware.setPhase .tests := by
  obtain ⟨hnv, -, hwithin⟩ := h.keeps m
  have hbist : (m.coreReported res).bist = m.bist := hwithin.areas .bist List.not_mem_nil
  have hjudged : (m.coreReported res).firmwareOk = m.firmwareOk :=
    Mod.firmwareOk_congr (congrArg Nv.regions hnv) (congrArg Nv.dome hnv) (hwithin.rd_eq hwf (by decide) (by decide))
      (hwithin.rd_eq hwf (by decide) (by decide))
  have hran : (List.range 5).any (fun n => (m.coreReported res).testResult n = 2) = false := by
    rw [List.any_eq_false]
    intro n hn
    simp [hpassed n (List.mem_range.1 hn)]
  rw [Mod.coreTests_of_unfailed h hpending (fun n hn => by rw [hpassed n hn]; decide), if_neg (ne_true_of_eq_false hran)]
  refine Mod.coreDone_of_restored (by rw [hnv]; exact hms) ?_ ?_
  · rw [Mod.firmwareOk_resumed (hwithin.wf hwf), hjudged, hfirmware]
  · rw [(Mod.resumed_resumes _ c).2, hbist, hheld]

/-- What such core tests leave, once the command has ended. -/
theorem passed_yields {i : Instr} {f : Mod → Mod} (hexec : exec i s = s.run t f) (h : CoreReports res)
    (hmean : f (s.m.at t) = (((s.m.at t).coreReported res).resumed c).noteFirmware.setPhase .tests) :
    s.Yields i fun m' => m'.bist.phase = .tests ∧ Mod.Resumes c s.m m' := by
  obtain ⟨hnv, hlog, -⟩ := h.keeps (s.m.at t)
  obtain ⟨hretry, hlife, hserial, hnum, hmap, hlot, hcycles, hcounted, hready, hopSec, hms, hold⟩ :=
    (Mod.resumed_resumes ((s.m.at t).coreReported res) c).1
  rw [hnv] at hcycles hcounted hms hold
  rw [hlog] at hopSec
  generalize ((s.m.at t).coreReported res).resumed c = x at *
  refine State.yields_run hexec ?_
  have hrunNv := Mod.run_nv t f s.m
  have hrunLog := Mod.run_log t f s.m
  rw [hmean] at hrunNv hrunLog
  refine ⟨by rw [Mod.run_bist, hmean]; rfl, ?_, ?_, ?_, ?_, ?_, ?_, ?_, ?_, ?_, ?_, ?_, ?_⟩
  · rw [Mod.run_bist, hmean]; exact hretry
  · rw [Mod.run_bist, hmean]; exact hlife
  · rw [Mod.run_bist, hmean]; exact hserial
  · rw [Mod.run_bist, hmean]; exact hnum
  · rw [Mod.run_trk, hmean]; exact hmap
  · rw [Mod.run_trk, hmean]; exact hlot
  · rw [hrunLog]; exact hcycles
  · rw [hrunNv]; exact hcounted
  · rw [hrunLog]; exact hready
  · rw [hrunLog]; exact hopSec
  · rw [hrunNv]; exact hms
  · rw [hrunLog]; exact hold

/-- Core tests that end in SAFE, once the command has ended. -/
theorem safe_yields {i : Instr} {f : Mod → Mod} {x : Mod} {k : Nat} (hexec : exec i s = s.run t f) (hk : k < 16) (hne : k ≠ 0)
    (hmean : f (s.m.at t) = x.coreDone (some k)) : s.Yields i fun m' => m'.bist.phase = .safe ∧ m'.rd P.bistSafeCause = k := by
  obtain ⟨hphase, hcause⟩ := x.coreDone_safe hk hne
  refine State.yields_run hexec ⟨?_, ?_⟩
  · rw [Mod.run_bist, hmean, hphase]
  · rw [Mod.run_rd_other _ _ _ (by decide), hmean, hcause]

/-- Reports of the five core tests. -/
theorem CoreReports.of_five (htests : res.map (·.test) = [0, 1, 2, 3, 4]) (hran : ∀ r ∈ res, r.result < 3) : CoreReports res where
  core r hr := by
    have hmem : r.test ∈ [0, 1, 2, 3, 4] := htests ▸ List.mem_map_of_mem hr
    simp only [List.mem_cons, List.not_mem_nil, or_false] at hmem
    omega
  ran := hran
  single := htests ▸ by decide

/-- Each of the five has its report. -/
theorem report_of_five (htests : res.map (·.test) = [0, 1, 2, 3, 4]) {n : Nat} (hn : n < 5) : ∃ r ∈ res, r.test = n := by
  have hmem : n ∈ res.map (·.test) := by
    rw [htests]
    simp only [List.mem_cons, List.not_mem_nil, or_false]
    omega
  exact List.mem_map.1 hmem

theorem coreTestsComplete_of_core {m : Mod} (hphase : m.bist.phase = .core) (hup : m.toll.logicUp = true) (hretry : m.bist.retryAt = none) :
    coreTestsComplete res m = m.coreTests res := if_pos (by simp [hphase, hup, hretry])

/-- The words that the core tests' reports write. -/
def coreWords : List Nat := (List.range 5).flatMap (fun n => [P.bistRes.addr n, P.bistUnit.addr n, P.bistUnits.addr n])

theorem coreWords_mem {n : Nat} (hn : n < 5) {p : Param} (hp : p ∈ [P.bistRes, P.bistUnit, P.bistUnits]) : p.addr n ∈ coreWords := by
  refine List.mem_flatMap.2 ⟨n, List.mem_range.2 hn, ?_⟩
  simp only [List.mem_cons, List.not_mem_nil, or_false] at hp ⊢
  rcases hp with rfl | rfl | rfl <;> simp

theorem Mod.Within.coreReported (h : CoreReports res) (m : Mod) : Mod.Within [] coreWords m (m.coreReported res) := by
  refine .foldl_mem res (fun r hr x => ?_) m
  have hcore := h.core r hr
  have hnoted : Mod.Within [] coreWords x (x.testNoted r) :=
    ((Mod.Within.wr x P.bistRes _ r.test 0 (coreWords_mem hcore (by simp))).trans
      (.wr _ P.bistUnit _ r.test 0 (coreWords_mem hcore (by simp)))).trans (.wr _ P.bistUnits _ r.test 0 (coreWords_mem hcore (by simp)))
  rw [testReport_of_core hcore (h.ran r hr)]
  split
  · exact hnoted.trans (.raise _ _ _ _)
  · exact hnoted

theorem coreTestRetry_of_due {m : Mod} {r : TestRes} {t0 : Nat} (hphase : m.bist.phase = .core) (hretry : m.bist.retryAt = some t0)
    (hdue : t0 + 100000000 ≤ m.now) (hwaits : m.testResult r.test = 2) : coreTestRetry [r] m = m.coreTests [r] := by
  unfold coreTestRetry
  rw [hretry]
  dsimp only
  rw [if_pos (by simp [hphase, hdue]), List.filter_cons_of_pos (by simp [hwaits]), List.filter_nil]

theorem coreTestNotRunTimeout_of_late {m : Mod} (hphase : m.bist.phase = .core) (hretry : m.bist.retryAt.isSome = true)
    (hlate : 5000000000 ≤ m.now) : coreTestNotRunTimeout m = m.coreDone (some 7) := if_pos (by simp [hphase, hretry, hlate])

/-- A core test that was not run is tried again. -/
theorem notRun_yields (hphase : s.m.bist.phase = .core) (hpending : s.m.nv.dome.pending = false) (hup : s.m.toll.logicUp = true)
    (hretry : s.m.bist.retryAt = none) (hs : s.Canonical) (h : CoreReports res) (hresults : ∀ r ∈ res, r.result = 0 ∨ r.result = 2)
    (hall : ∀ n, n < 5 → ∃ r ∈ res, r.test = n) (hnotRun : ∃ r ∈ res, r.result = 2) : s.Yields (.coreTestsComplete t res) fun m' =>
      m'.bist = { s.m.bist with retryAt := some (s.m.at t).now } ∧ Mod.Frame t [.bist] coreWords s.m m' := by
  obtain ⟨hreported, -⟩ := h.results (s.m.at t) hs
  have hwithin := Mod.Within.coreReported h (s.m.at t)
  have hbist : ((s.m.at t).coreReported res).bist = s.m.bist := hwithin.areas .bist List.not_mem_nil
  have hunfailed : ∀ n, n < 5 → ((s.m.at t).coreReported res).testResult n ≠ 1 := fun n hn => by
    obtain ⟨r, hr, rfl⟩ := hall n hn
    have hresult := hreported r hr
    rcases hresults r hr with h0 | h0 <;> rw [Mod.coreReported, hresult, h0] <;> decide
  have hany : (List.range 5).any (fun n => ((s.m.at t).coreReported res).testResult n = 2) = true := by
    obtain ⟨r, hr, htwo⟩ := hnotRun
    exact List.any_eq_true.2 ⟨r.test, List.mem_range.2 (h.core r hr), decide_eq_true ((hreported r hr).trans htwo)⟩
  have hmean : coreTestsComplete res (s.m.at t) = { (s.m.at t).coreReported res with
      bist := { ((s.m.at t).coreReported res).bist with retryAt := some ((s.m.at t).coreReported res).now } } :=
    (coreTestsComplete_of_core (m := s.m.at t) hphase hup hretry).trans
      ((Mod.coreTests_of_unfailed (m := s.m.at t) h hpending hunfailed).trans (if_pos hany))
  have hwhole : Mod.Within [.bist] coreWords (s.m.at t) (coreTestsComplete res (s.m.at t)) := by
    rw [hmean]
    exact (hwithin.mono (List.nil_subset _) (List.Subset.refl _)).trans (.ofBist _ _ (by decide))
  refine State.yields_run (f := coreTestsComplete res) rfl ⟨?_, hwhole.frame⟩
  rw [Mod.run_bist, hmean, hwithin.now, hbist]

end

/-- Settles O22: the start by the module it finds, the core tests by their reports, and the milestone by what its restoration keeps. -/
theorem startConditionBeginsSequence : Obligations.StartConditionBeginsSequence := by
  unfold Obligations.StartConditionBeginsSequence
  refine ⟨⟨fun s t mv board tap rec hphase hmv hboard => ?begins, fun s t mv board tap rec hraised hs hunmet => ?unmet,
    fun s t mv hphase hmv => ?dips, fun s t mv hraised hs hphase => ?stands⟩, fun s t res hs hphase hpending =>
    ⟨fun hup hretry htests => ⟨fun k hk hresults => ?fails, fun c hpassed hms hfirmware hheld => ?passes, fun hresults hnotRun => ?notRun⟩,
      fun t0 c r hretry hdue hres hcore hzero hwaits hothers hms hfirmware hheld => ?retries, fun hretry hlate => ?late⟩⟩
  case begins =>
    refine (startCondition_yields hphase hmv hboard).imp fun m' hm => ?_
    obtain ⟨l, rfl⟩ := hm
    exact ⟨rfl, rfl, rfl, rfl, rfl, rfl, rfl, rfl, rfl, rfl, rfl, rfl, rfl, rfl, Nv.findRegions_bytes s.m.nv, rfl, rfl,
      fun r hr htwo => Mod.started_img (m := s.m.at t) (mv := mv) (tap := tap) (rec := rec) (hr.trans_eq htwo.symm), rfl, rfl, rfl, rfl⟩
  case unmet =>
    exact State.yields_unchanged (f := startCondition mv board tap rec) rfl hraised hs (startCondition_of_unmet (m := s.m.at t) hunmet)
  case dips =>
    exact State.yields_run (f := startSupplyDip mv) rfl (Restarted.of_run (x := s.m.at t) (startSupplyDip_of_early (m := s.m.at t) hphase hmv) rfl rfl)
  case stands =>
    exact State.yields_unchanged (f := startSupplyDip mv) rfl hraised hs (startSupplyDip_of_applied (m := s.m.at t) hphase)
  case fails =>
    have h : CoreReports res := .of_five htests fun r hr => by rw [hresults r hr]; split <;> decide
    obtain ⟨hreported, -⟩ := h.results (s.m.at t) hs
    have hresult : ∀ n, n < 5 → ((s.m.at t).coreReported res).testResult n = if n = k then 1 else 0 := fun n hn => by
      obtain ⟨r, hr, rfl⟩ := report_of_five htests hn
      exact (hreported r hr).trans (hresults r hr)
    have hmean := Mod.coreTests_of_failed (m := s.m.at t) h hpending hk ((hresult k hk).trans (if_pos rfl)) fun n hn => by
      rw [hresult n (hn.trans hk), if_neg hn.ne]
      decide
    exact safe_yields (f := coreTestsComplete res) rfl (by omega) (by omega)
      ((coreTestsComplete_of_core (m := s.m.at t) hphase hup hretry).trans hmean)
  case passes =>
    have h : CoreReports res := .of_five htests fun r hr => by rw [hpassed r hr]; decide
    obtain ⟨hreported, -⟩ := h.results (s.m.at t) hs
    have hmean := Mod.coreTests_of_passed (m := s.m.at t) (c := c) h hs hpending (fun n hn => by
      obtain ⟨r, hr, rfl⟩ := report_of_five htests hn
      exact (hreported r hr).trans (hpassed r hr)) hms hfirmware hheld
    refine (passed_yields (f := coreTestsComplete res) rfl h
      ((coreTestsComplete_of_core (m := s.m.at t) hphase hup hretry).trans hmean)).imp fun m' hm => ?_
    obtain ⟨htested, hresumed⟩ := hm
    exact ⟨htested, hresumed.retry, hresumed.cycles, hresumed.counted.trans hresumed.cycles.symm, hresumed.life, hresumed.serial, hresumed.num,
      hresumed.map, hresumed.lot, hresumed.ready, hresumed.seconds, hresumed.copies, hresumed.oldest⟩
  case notRun =>
    have h : CoreReports res := .of_five htests fun r hr => by rcases hresults r hr with h0 | h0 <;> rw [h0] <;> decide
    exact notRun_yields hphase hpending hup hretry hs h hresults (fun n hn => report_of_five htests hn) hnotRun
  case retries =>
    subst hres
    have h : CoreReports [r] := ⟨fun x hx => (List.mem_singleton.1 hx).symm ▸ hcore,
      fun x hx => by rw [List.mem_singleton.1 hx, hzero]; decide, List.nodup_singleton _⟩
    obtain ⟨hreported, hkept⟩ := h.results (s.m.at t) hs
    have hmean := Mod.coreTests_of_passed (m := s.m.at t) (c := c) h hs hpending (fun n hn => by
      by_cases hn' : n = r.test
      · rw [hn']
        exact (hreported r (List.mem_singleton_self _)).trans hzero
      · exact (hkept n hn (by simpa using hn')).trans (hothers n hn hn')) hms hfirmware hheld
    refine (passed_yields (f := coreTestRetry [r]) rfl h
      ((coreTestRetry_of_due (m := s.m.at t) hphase hretry hdue hwaits).trans hmean)).imp fun m' hm => ?_
    obtain ⟨htested, hresumed⟩ := hm
    exact ⟨htested, hresumed.retry, hresumed.life, hresumed.num, hresumed.cycles⟩
  case late =>
    exact safe_yields (f := coreTestNotRunTimeout) rfl (by decide) (by decide) (coreTestNotRunTimeout_of_late (m := s.m.at t) hphase hretry hlate)

end Sys2Proof.Machine
end
